-- ==== Sys2Proof/Word.lean ====
section
/-! DEFINITION. The word types of the device: registers are 32 bits wide (R10), a word of a macro is 64 bits, and
memory structures are bytes, little-endian (R10). -/

namespace Sys2Proof

/-- A register's contents (R10). -/
abbrev Word := BitVec 32

/-- A 64-bit word of the ledger, the boot array or an SRAM (chapter 00, the seven levels). -/
abbrev Word64 := BitVec 64

/-- One byte. -/
abbrev Byte := BitVec 8

end Sys2Proof
end

