-- ==== Sys2Proof/Syntax.lean ====
section
/-! DEFINITION. The commands the block takes, one constructor of `Instr` per row of the opcode table, and the data
their operands are made of. What the physical world decides (a decode result, a check of a signature, the answer of a
memory) comes with the command that reports it. -/

namespace Sys2Proof

/-- The two controller halves (R25). -/
inductive Half where
  | a | b
  deriving DecidableEq, Repr

/-- The renewal word one lockstep pair sends to the hub at a boundary (R394). -/
structure RenewalWord where
  half : Half
  pair : Nat
  epoch : Nat
  beat : Nat
  deriving DecidableEq, Repr

/-- Where a command was fetched from: function, submission queue (0 the admin queue) and command identifier; and the opcode of the
entry where it is another than the row's own (R115). -/
structure Hdr where
  fn : Nat
  sq : Nat
  cid : Nat
  op : Option Nat
  deriving DecidableEq, Repr

/-- A DMA descriptor of a command (R126): the descriptor as a number, the handle of the buffer it names, its offset and its LEN. -/
structure Desc where
  word : Nat
  handle : Nat
  off : Nat
  len : Nat
  deriving DecidableEq, Repr

/-- The AER errors by the names of the table of R109; the advisory ones are those sent as advisory non-fatal. -/
inductive AerErr where
  | correctedInternal | advisoryUcpl | advisoryUr | advisoryPoison | completionTimeout | uncorrectableInternal
  | unsupportedRequest | receiver | badTlp | badDllp | replayTimeout | replayRollover | headerLogOverflow | ecrc | malformed
  | receiverOverflow | flowControl | dataLink
  deriving DecidableEq, Repr

/-- A function's PCIe control settings as the host programs them (R73, R89, R93, R96, R109): maximum payload and maximum read
request in bytes, the enables of 10-bit and 14-bit tags as a requester, the Completion Timeout Value, the enables of Relaxed
Ordering, ID-Based Ordering, ECRC generation and check, L1 and L1.1, the AER errors masked, those whose severity is fatal, and those
whose status the host clears with these settings. -/
structure FnCfg where
  mps : Nat
  mrrs : Nat
  tag10 : Bool
  tag14 : Bool
  cto : Nat
  ro : Bool
  ido : Bool
  ecrcGen : Bool
  ecrcChk : Bool
  l1 : Bool
  l11 : Bool
  aerMask : List AerErr
  aerFatal : List AerErr
  aerClear : List AerErr
  deriving DecidableEq, Repr

/-- The integrity tag of a sector, by KIND and LSN (R271); the tag bytes of a parity payload are an XOR of tags and spell
none (R268). -/
inductive Tag where
  | never
  | data (lsn : Nat)
  | padding
  | poison
  | raw (word : Word64)
  deriving DecidableEq, Repr

/-- One 512 B sector: its data, the metadata bytes that belong to it (R259) and its tag. -/
structure Sector where
  data : BitVec 4096
  md : Word64
  tag : Tag
  deriving DecidableEq, Repr

/-- The host buffer of a command as the host described it: its address, the bytes its data SGL and its metadata SGL
describe (`none` for a PRP), a PRP entry with a bad offset, the bytes of PRP list or SGL segments to be read first, the
DMA descriptors that move the data (R126), whether the range is a Bit Bucket, and whether the data lies in the function's CMB, of which
`addr` is then the offset (R118). -/
structure Xfer where
  addr : Nat
  dataLen : Option Nat
  metaLen : Option Nat
  prpBad : Bool
  listLen : Nat
  descs : List Desc
  bitBucket : Bool
  cmb : Bool
  deriving DecidableEq, Repr

/-- A completion the link delivers for a read request (R100): the port and tag it names, the requester ID as a
function, whether byte count and lower address agree with the request, whether it is poisoned, the bytes it carries,
the sectors of the command that it completes (by sector index), the outcome of the ingress checks of R273 and R274, and for a
submission queue entry its command identifier. -/
structure ReadCpl where
  port : Nat
  tag : Nat
  fn : Nat
  shapeOk : Bool
  poisoned : Bool
  nbytes : Nat
  secs : List (Nat × Sector)
  xtsOk : Bool
  piFail : Option Nat
  cid : Nat
  deriving DecidableEq, Repr

/-- One decoding attempt of a code word as the decoder reports it (R262, R263, R291): recovered or not, a zero syndrome with a
GUARD mismatch, the zero bits of the raw data, the corrected-bit count, and n_dn - n_up for each boundary. -/
structure CwTry where
  ok : Bool
  miscor : Bool
  zeros : Nat
  bits : Nat
  asym : List Int
  deriving DecidableEq, Repr

/-- The decode that a page read leads to: an attempt of each of its four code words (only that of its own code word counts for a
read of the ladder), the sectors that fail a tag check at XTS or PCIe egress for a reason of the pipeline's own (R273), and the
outcome of the protection information check at egress (R274). -/
structure DecodeRes where
  cws : List CwTry
  badTags : List Nat
  piFail : Option Nat
  deriving DecidableEq, Repr

/-- A die that answered at identification: its number, the media type its parameter page matches, what its die record lists (the blocks
bad at the factory and the retired ones, by plane and block, and the dies and channels retired), and whether its unique ID is the one
recorded for its number (R197, R218, R232, R233, R249, R460). -/
structure DieFound where
  die : Nat
  media : Option Nat
  bad : List (Nat × Nat)
  grown : List (Nat × Nat)
  dies : List Nat
  chans : List Nat
  same : Bool
  deriving DecidableEq, Repr

/-- Where an uncorrectable SRAM byte lies (R374): in a buffer holding a sector of a command's data, or in any other
structure of a slice. -/
inductive SramHit where
  | buffer (ctx : Nat) (sector : Nat)
  | other (slice : Nat)
  deriving DecidableEq, Repr

/-- What a firmware image says of itself (R457, R483): FWVER, SECVER, STATEFMT, READMIN. -/
structure FwMeta where
  fwver : Nat
  secver : Nat
  statefmt : Nat
  readmin : Nat
  deriving DecidableEq, Repr

/-- The primitives of the sequencers' microprograms (R235): ADDR with its address bytes, WAIT with its nanoseconds; `other` is any
encoding that the table does not have. -/
inductive UStep where
  | sel | cmd | addr (n : Nat) | dout | din | wait (ns : Nat) | poll | feat | lvl | br | done | fail | other
  deriving DecidableEq, Repr

/-- The operations whose entry points a sequencer image must have (R235). -/
inductive UEntry where
  | read | multiPlaneRead | cacheRead | programUnit | slcProgram | erase | erasedMarginRead | status | dieReset | suspend | resume
  | featureAccess | training | parameterPage | zqCalibration
  deriving DecidableEq, Repr

/-- The sequencer microcode of a firmware image (R235): its version, the instructions of the store, and the entry points. -/
structure Ucode where
  version : Nat
  store : List UStep
  entries : List (UEntry × Nat)
  deriving DecidableEq, Repr

/-- A segment entry of a firmware image (R457): TARGET, INDEX, MEM, OFFSET, LENGTH and LOADADDR. -/
structure FwSeg where
  target : Nat
  index : Nat
  mem : Nat
  off : Nat
  len : Nat
  load : Nat
  deriving DecidableEq, Repr

/-- What the set of images of a bank holds, as the tests of R477 and R481 find it: whether each image's signature and header pass,
what the firmware image declares, its segments and its sequencer microcode, its CFGVER, and the register entries (block code, offset, value) of its configuration image (R456). -/
structure ImageMeta where
  fwOk : Bool
  cfgOk : Bool
  romOk : Bool
  fw : FwMeta
  segs : List FwSeg
  ucode : Ucode
  cfgver : Nat
  entries : List (Nat × Nat × Nat)
  deriving DecidableEq, Repr

/-- What recovery finds at a start-up step (R193, R340, R341, R460, R461): dies found, write-buffer versions whose flushed units
do not carry their tart's LSN, journal records that could not be read (by JSEQ), copies of map segments that fail their check (segment,
and 0 for the newest copy or 1 for the one before), and namespaces whose keys cannot be unwrapped. -/
structure Found where
  dies : List DieFound
  badVers : List Nat
  badRecords : List Nat
  badCopies : List (Nat × Nat)
  lostKeys : List Nat
  deriving DecidableEq, Repr

/-- The outcome of a start-up step (R461), as the booting half found it: whether the work of the half passed (self-test,
training) passed, whether the other half's did in step 7, the option area copies whose words were read without failure,
sectors whose reads failed their checks and sectors that fail their settlement by erasure,
the images of the chosen bank, the DRAM found (two ranks, 32 Gb, rate code), whether its checks passed (R375), and what
recovery found. -/
structure StepRes where
  ok : Bool
  otherOk : Bool
  copyA : Bool
  copyB : Bool
  badSectors : List Nat
  dead : List Nat
  img : ImageMeta
  ranks2 : Bool
  dens32 : Bool
  rate : Nat
  checksOk : Bool
  found : Found
  deriving DecidableEq, Repr

/-- An MCTP packet as the I3C bus delivers it (R469): whether its PEC and its assembly pass, the message type, the
session of a secured message, whether it ends its message, and whether a type 1 message is PLDM type 5. -/
structure Packet where
  pecOk : Bool
  asmOk : Bool
  typ : Nat
  sess : Option Nat
  eom : Bool
  fwUpdate : Bool
  deriving DecidableEq, Repr

/-- The transport an SPDM request arrived by (R474). -/
inductive Transport where
  | mctp
  | doe (pf : Nat)
  | secp (fn : Nat)
  deriving DecidableEq, Repr

/-- The commands of the block (spec/opcode_table.json), in the table's order. -/
inductive Instr where
  /-- REGISTER_WRITE (R14). -/
  | registerWrite (m : Nat) (h : Half) (blk : Nat) (off : Nat) (width : Nat) (val : Nat)
  /-- LOW_WORD_READ (R12). -/
  | lowWordRead (m : Nat) (h : Half) (blk : Nat) (off : Nat) (width : Nat)
  /-- SCH_SLACK_READ (R69). -/
  | schSlackRead (h : Half) (byte : Nat) (width : Nat)
  /-- TEN_MISS_READ (R151). -/
  | tenMissRead (t : Nat) (byte : Nat) (width : Nat)
  /-- MED_RFSSTAT_READ (R222). -/
  | medRfsstatRead (byte : Nat) (width : Nat)
  /-- ECC_CBMAX_READ (R16). -/
  | eccCbmaxRead (byte : Nat) (width : Nat)
  /-- CTG_SLOTSTAT_READ (R247). -/
  | ctgSlotstatRead (n : Nat) (byte : Nat) (width : Nat)
  /-- PWR_PKG_READ (R547). -/
  | pwrPkgRead (byte : Nat) (width : Nat)
  /-- BEAT_BOUNDARY (R45). -/
  | beatBoundary (ivA : Nat) (ivB : Nat) (words : List RenewalWord)
  /-- ARBITRATION_ROUND (R120). -/
  | arbitrationRound
  /-- COMMAND_WINDOW (R52). -/
  | commandWindow
  /-- LOOP_UPDATE (R293). -/
  | loopUpdate (eng : Nat)
  /-- ENVELOPE_UPDATE (R304). -/
  | envelopeUpdate (pm : Nat) (temps : List Int) (meas : List (Nat × Nat))
  /-- SLOT_CHOICE_WINDOW (R55). -/
  | slotChoiceWindow
  /-- BAR_LATCH_POINT (R60). -/
  | barLatchPoint
  /-- DONE_DEADLINE (R48). -/
  | doneDeadline (h : Half) (hw : List (Nat × Nat))
  /-- SCH_ENROLL_WRITE (R49). -/
  | schEnrollWrite (m : Nat) (h : Half) (val : Nat)
  /-- SCH_DONE_SET_WRITE (R48). -/
  | schDoneSetWrite (m : Nat) (h : Half) (val : Nat) (cyc : Nat)
  /-- PLAN_COMMIT (R60). -/
  | planCommit (m : Nat) (h : Half) (val : Nat)
  /-- PERST_DEASSERT (R459). -/
  | perstDeassert (p : Nat) (speed : Nat) (width : Nat) (flit : Bool)
  /-- CONFIG_REQUEST_RETRY (R459). -/
  | configRequestRetry (p : Nat) (f : Nat) (reg : Nat)
  /-- PORT_LINK_DOWN (R76). -/
  | portLinkDown (p : Nat)
  /-- VF_ENABLE (R79). -/
  | vfEnable (pf : Nat) (num : Nat)
  /-- BUS_MASTER_ENABLE_CLEAR (R102). -/
  | busMasterEnableClear (f : Nat)
  /-- BUS_MASTER_ENABLE_SET (R102). -/
  | busMasterEnableSet (f : Nat) (cfg : FnCfg)
  /-- FLR_WRITE (R103). -/
  | flrWrite (f : Nat)
  /-- FLR_COMPLETE (R103). -/
  | flrComplete (f : Nat)
  /-- SQ_TAIL_DOORBELL (R124). -/
  | sqTailDoorbell (f : Nat) (q : Nat) (v : Nat)
  /-- CQ_HEAD_DOORBELL (R124). -/
  | cqHeadDoorbell (f : Nat) (q : Nat) (v : Nat)
  /-- CC_ENABLE_SET (R132). -/
  | ccEnableSet (f : Nat) (wrr : Bool) (aqOk : Bool) (asq : Nat) (acq : Nat) (asqAddr : Nat) (acqAddr : Nat)
  /-- CONTROLLER_READY (R132). -/
  | controllerReady (f : Nat)
  /-- CONTROLLER_RESET (R131). -/
  | controllerReset (f : Nat)
  /-- CONTROLLER_RESET_COMPLETE (R132). -/
  | controllerResetComplete (f : Nat)
  /-- SHUTDOWN_NOTIFICATION (R133). -/
  | shutdownNotification (f : Nat)
  /-- INBOUND_WINDOW_TLP (R84). -/
  | inboundWindowTlp (f : Nat) (req : Nat) (bar : Nat) (addr : Nat) (len : Nat) (wr : Bool) (data : List Byte) (poisoned : Bool)
      (err : Option AerErr)
  /-- PMR_TLP (R328). -/
  | pmrTlp (f : Nat) (req : Nat) (addr : Nat) (len : Nat) (wr : Bool) (data : List Byte) (checkOk : Bool)
  /-- PMR_GRANULE_ROTATION (R329). -/
  | pmrGranuleRotation (g : Nat)
  /-- EXPANSION_ROM_TLP (R82). -/
  | expansionRomTlp (pf : Nat) (addr : Nat) (len : Nat) (wr : Bool)
  /-- WINDOW_ENABLE_WRITE (R86). -/
  | windowEnableWrite (m : Nat) (p : Nat) (e : Nat) (val : Nat)
  /-- TAGBUD_WRITE (R91). -/
  | tagbudWrite (m : Nat) (f : Nat) (val : Nat)
  /-- CONTEXT_BUDGET_WRITE (R119). -/
  | contextBudgetWrite (m : Nat) (f : Nat) (val : Nat)
  /-- SPLIT_ALL_WRITE (R94). -/
  | splitAllWrite (m : Nat) (val : Nat)
  /-- READ_COMPLETION_ARRIVAL (R100). -/
  | readCompletionArrival (cpl : ReadCpl)
  /-- COMPLETION_TIMEOUT (R98). -/
  | completionTimeout (p : Nat) (tag : Nat)
  /-- QUARANTINE_END (R99). -/
  | quarantineEnd (p : Nat) (tag : Nat)
  /-- OUTBOUND_TRANSFER (R22). -/
  | outboundTransfer (h : Half) (epoch : Nat) (payload : Nat)
  /-- DOE_SPDM_REQUEST (R474). -/
  | doeSpdmRequest (pf : Nat) (code : Nat)
  /-- WRITE_COMMAND (R28). -/
  | writeCommand (hd : Hdr) (nsid : Nat) (slba : Nat) (nlb : Nat) (x : Xfer)
  /-- READ_COMMAND (R37). -/
  | readCommand (hd : Hdr) (nsid : Nat) (slba : Nat) (nlb : Nat) (x : Xfer)
  /-- COMPARE_COMMAND (R178). -/
  | compareCommand (hd : Hdr) (nsid : Nat) (slba : Nat) (nlb : Nat) (x : Xfer)
  /-- VERIFY_COMMAND (R276). -/
  | verifyCommand (hd : Hdr) (nsid : Nat) (slba : Nat) (nlb : Nat)
  /-- WRITE_ZEROES_COMMAND (R125). -/
  | writeZeroesCommand (hd : Hdr) (nsid : Nat) (slba : Nat) (nlb : Nat)
  /-- DATASET_MANAGEMENT_COMMAND (R174). -/
  | datasetManagementCommand (hd : Hdr) (nsid : Nat) (ranges : List (Nat × Nat)) (ad : Bool)
  /-- FLUSH_COMMAND (R130). -/
  | flushCommand (hd : Hdr) (nsid : Nat)
  /-- FLUSH_COMPLETION (R130). -/
  | flushCompletion (hd : Hdr)
  /-- DELETE_IO_SUBMISSION_QUEUE (R551). -/
  | deleteIoSubmissionQueue (hd : Hdr) (q : Nat)
  /-- CREATE_IO_SUBMISSION_QUEUE (R117). -/
  | createIoSubmissionQueue (hd : Hdr) (q : Nat) (qsize : Nat) (cq : Nat) (prio : Nat) (base : Nat) (cmb : Bool)
  /-- DELETE_IO_COMPLETION_QUEUE (R551). -/
  | deleteIoCompletionQueue (hd : Hdr) (q : Nat)
  /-- CREATE_IO_COMPLETION_QUEUE (R117). -/
  | createIoCompletionQueue (hd : Hdr) (q : Nat) (qsize : Nat) (iv : Nat) (base : Nat)
  /-- GET_LOG_PAGE (R123). -/
  | getLogPage (hd : Hdr) (nsid : Nat) (lid : Nat) (numd : Nat) (off : Nat) (rae : Bool)
  /-- IDENTIFY (R158). -/
  | identify (hd : Hdr) (cns : Nat) (nsid : Nat)
  /-- ABORT (R127). -/
  | abort (hd : Hdr) (sq : Nat) (acid : Nat)
  /-- SET_FEATURES (R136). -/
  | setFeatures (hd : Hdr) (fid : Nat) (val : Nat)
  /-- GET_FEATURES (R117). -/
  | getFeatures (hd : Hdr) (fid : Nat)
  /-- ASYNCHRONOUS_EVENT_REQUEST (R552). -/
  | asynchronousEventRequest (hd : Hdr)
  /-- NAMESPACE_MANAGEMENT (R163). -/
  | namespaceManagement (hd : Hdr) (sel : Nat) (nsid : Nat) (lbaf : Nat) (lbas : Nat) (pi : Nat) (ext : Bool)
  /-- NAMESPACE_ATTACHMENT (R158). -/
  | namespaceAttachment (hd : Hdr) (sel : Nat) (nsid : Nat) (fns : List Nat)
  /-- FORMAT_NVM (R491). -/
  | formatNvm (hd : Hdr) (nsid : Nat) (lbaf : Nat) (ses : Nat) (pi : Nat) (ext : Bool)
  /-- SECURITY_SEND (R474). -/
  | securitySend (hd : Hdr) (secp : Nat) (code : Nat)
  /-- SECURITY_RECEIVE (R474). -/
  | securityReceive (hd : Hdr) (secp : Nat)
  /-- SANITIZE (R492). -/
  | sanitize (hd : Hdr) (sanact : Nat)
  /-- SANITIZE_END (R492). -/
  | sanitizeEnd
  /-- POWER_STATE_ENTRY_END (R137). -/
  | powerStateEntryEnd
  /-- PS3_EXIT (R137). -/
  | ps3Exit
  /-- DRAM_WRITE_ACKNOWLEDGE (R356). -/
  | dramWriteAcknowledge (vid : Nat) (mirror : Bool) (tagOk : Bool)
  /-- COMMIT_RECORD_START (R315). -/
  | commitRecordStart (pid : Nat)
  /-- COMMIT_HEADER_WRITE (R315). -/
  | commitHeaderWrite (pid : Nat)
  /-- COMMIT_POINT (R175). -/
  | commitPoint (pid : Nat)
  /-- MAP_LOOKUP_RETURN (R181). -/
  | mapLookupReturn (ctx : Nat) (i : Nat)
  /-- FLASH_READ_RESULT (R179). -/
  | flashReadResult (op : Nat) (res : DecodeRes)
  /-- WATCH_COUNT_LIMIT (R180). -/
  | watchCountLimit (w : Nat)
  /-- STAGED_TART_EXPIRY (R184). -/
  | stagedTartExpiry (ltn : Nat)
  /-- FLASH_PROGRAM_COMPLETE (R201). -/
  | flashProgramComplete (op : Nat)
  /-- MAP_WRITE (R169). -/
  | mapWrite (mseq : Nat)
  /-- FLASH_PROGRAM_FAILURE (R211). -/
  | flashProgramFailure (op : Nat)
  /-- GC_VICTIM_SELECT (R207). -/
  | gcVictimSelect (slice : Nat)
  /-- VICTIM_ERASE_START (R208). -/
  | victimEraseStart (sb : Nat)
  /-- GC_PLAN_SHIFT (R212). -/
  | gcPlanShift (slice : Nat) (rows : List (Nat × Nat))
  /-- WEAR_BUDGET_CHECK (R215). -/
  | wearBudgetCheck
  /-- DELTA_PAGE_PROGRAM (R192). -/
  | deltaPageProgram
  /-- ERASE_INTENT_WRITTEN (R241). -/
  | eraseIntentWritten (die : Nat) (blk : Nat)
  /-- ERASE_COMPLETE (R241). -/
  | eraseComplete (die : Nat) (blk : Nat) (ok : Bool)
  /-- ERASED_MARGIN_READ_RESULT (R242). -/
  | erasedMarginReadResult (die : Nat) (blk : Nat) (cells : List Nat)
  /-- ERASE_DONE_WRITTEN (R241). -/
  | eraseDoneWritten (die : Nat) (blk : Nat)
  /-- BLKTAB_WRITTEN (R320). -/
  | blktabWritten (jseq : Nat)
  /-- OPERATION_TIMEOUT (R237). -/
  | operationTimeout (op : Nat)
  /-- SUSPEND_ACKNOWLEDGED (R239). -/
  | suspendAcknowledged (die : Nat)
  /-- SHORT_ZQ_CALIBRATION (R234). -/
  | shortZqCalibration (c : Nat)
  /-- SLOT_PRESENCE_DEBOUNCE (R248). -/
  | slotPresenceDebounce (n : Nat)
  /-- SLOT_POWER_FAULT (R245). -/
  | slotPowerFault (n : Nat)
  /-- BUTTON_PRESS (R247). -/
  | buttonPress (n : Nat) (low : Bool)
  /-- REQON (R248). -/
  | reqon (m : Nat) (n : Nat)
  /-- REQOFF (R250). -/
  | reqoff (m : Nat) (n : Nat)
  /-- CANCEL (R250). -/
  | cancel (m : Nat) (n : Nat)
  /-- SLOT_POWER_GOOD (R248). -/
  | slotPowerGood (n : Nat)
  /-- POWER_GOOD_TIMEOUT (R248). -/
  | powerGoodTimeout (n : Nat)
  /-- SLOT_TRAINING_START (R248). -/
  | slotTrainingStart (n : Nat)
  /-- SLOT_TRAINING_DONE (R249). -/
  | slotTrainingDone (n : Nat) (rate0 : Option Nat) (rate1 : Option Nat) (found : List DieFound)
  /-- ABORT_WINDOW_END (R250). -/
  | abortWindowEnd (n : Nat)
  /-- SLOT_POWER_OFF (R250). -/
  | slotPowerOff (n : Nat)
  /-- SURPRISE_REMOVAL (R251). -/
  | surpriseRemoval (n : Nat) (why : Nat)
  /-- SCRUB_GO (R282). -/
  | scrubGo (m : Nat) (val : Nat)
  /-- SCRUB_CANCEL (R284). -/
  | scrubCancel (m : Nat)
  /-- SCRUB_END (R283). -/
  | scrubEnd
  /-- TO_MANUAL (R295). -/
  | toManual (m : Nat) (die : Nat) (grp : Nat) (cyc : Nat)
  /-- SET_MAN (R295). -/
  | setMan (m : Nat) (die : Nat) (grp : Nat) (cyc : Nat)
  /-- TO_AUTO (R295). -/
  | toAuto (m : Nat) (die : Nat) (grp : Nat) (cyc : Nat)
  /-- READ (R300). -/
  | read (m : Nat) (die : Nat) (grp : Nat) (cyc : Nat)
  /-- CLEAR (R300). -/
  | clear (m : Nat) (die : Nat) (grp : Nat) (cyc : Nat)
  /-- LOOP_ALARM (R296). -/
  | loopAlarm (die : Nat) (grp : Nat)
  /-- LOOP_REARM (R297). -/
  | loopRearm (die : Nat) (grp : Nat)
  /-- LOOP_STATE_SAVE (R301). -/
  | loopStateSave
  /-- THERMAL_FENCE (R303). -/
  | thermalFence
  /-- RING_CARRY (R323). -/
  | ringCarry
  /-- LEDGER_PATROL (R325). -/
  | ledgerPatrol (addr : Nat) (res : Nat)
  /-- POWER_LOSS_DETECTED (R334). -/
  | powerLossDetected
  /-- FLUSH_START (R334). -/
  | flushStart
  /-- FLUSH_DONE_WRITE (R334). -/
  | flushDoneWrite (high : Bool)
  /-- EPOCH_RELEASE (R339). -/
  | epochRelease
  /-- DRAM_REQUEST_ARRIVAL (R355). -/
  | dramRequestArrival (port : Nat) (wr : Bool) (line : Nat) (part : Bool) (h : Half) (rfs : Bool)
  /-- DRAM_COMMAND_ISSUE (R352). -/
  | dramCommandIssue (hubDue : Bool)
  /-- DRAM_READ_RETURN (R361). -/
  | dramReadReturn (id : Nat) (errs : List (Nat × Nat))
  /-- MAPWAIT_PUBLISH (R353). -/
  | mapwaitPublish
  /-- DRAM_REFRESH (R358). -/
  | dramRefresh (kind : Nat) (sr : Nat)
  /-- DRAM_PATROL_READ (R366). -/
  | dramPatrolRead (line : Nat) (errs : List (Nat × Nat))
  /-- DEVICE_MARKED_FAILED (R362). -/
  | deviceMarkedFailed (sr : Nat) (dev : Nat)
  /-- ROW_REPAIR_QUEUED (R368). -/
  | rowRepairQueued (sr : Nat) (dev : Nat) (bank : Nat) (row : Nat) (free : Bool)
  /-- ROW_REPAIR_START (R369). -/
  | rowRepairStart
  /-- ROW_REPAIR_END (R369). -/
  | rowRepairEnd (reads : List (Nat × List (Nat × Nat)))
  /-- DRAM_SCRUB_GO (R367). -/
  | dramScrubGo (m : Nat) (val : Nat)
  /-- DRAM_SCRUB_CANCEL (R367). -/
  | dramScrubCancel (m : Nat)
  /-- DRAM_SCRUB_END (R367). -/
  | dramScrubEnd
  /-- HELPER_GO (R360). -/
  | helperGo (m : Nat) (val : Nat)
  /-- HELPER_DONE (R360). -/
  | helperDone (lanes : Nat) (errs : Nat) (first : Nat)
  /-- MODE_REGISTER_WRITE (R386). -/
  | modeRegisterWrite (m : Nat) (mr : Nat) (data : Nat) (sr : Nat) (dev : Nat)
  /-- MODE_REGISTER_READ (R386). -/
  | modeRegisterRead (m : Nat) (mr : Nat) (sr : Nat) (dev : Nat)
  /-- FLIP_ARM (R376). -/
  | flipArm (m : Nat) (val : Nat)
  /-- SRAM_PATROL (R374). -/
  | sramPatrol (h : Half) (corr : Nat) (unc : Option SramHit) (cells : List (Nat × Nat × Nat))
  /-- ALLOC (R378). -/
  | alloc (h : Half) (m : Nat) (pool : Nat) (noquota : Bool) (tenant : Nat) (cls : Nat)
  /-- ALLOC_GRANT (R378). -/
  | allocGrant (h : Half)
  /-- SHARE (R380). -/
  | share (h : Half) (m : Nat) (other : Nat)
  /-- FREE (R381). -/
  | free (h : Half) (m : Nat)
  /-- QUERY (R384). -/
  | query (h : Half) (m : Nat)
  /-- SHADOW_RECORD_ARRIVAL (R391). -/
  | shadowRecordArrival (crcOk : Bool) (named : Nat)
  /-- SHADOW_DEADLINE (R391). -/
  | shadowDeadline
  /-- SYNC_COMPLETE (R393). -/
  | syncComplete
  /-- SYNC_TIMEOUT (R388). -/
  | syncTimeout
  /-- CONTROL_FAULT (R412). -/
  | controlFault (h : Half) (mech : Nat) (slice : Nat)
  /-- DATA_PATH_FAULT (R412). -/
  | dataPathFault (h : Half) (slice : Nat) (ctx : Option Nat)
  /-- HUB_FAULT (R23). -/
  | hubFault (unit : Nat)
  /-- LEASE_LAPSE (R398). -/
  | leaseLapse
  /-- TAKEOVER_READY (R400). -/
  | takeoverReady
  /-- TAKEOVER_TIMEOUT (R400). -/
  | takeoverTimeout
  /-- DRILL_MARK (R404). -/
  | drillMark
  /-- DRILL_NOW (R404). -/
  | drillNow (m : Nat)
  /-- DRILL_BEGIN (R405). -/
  | drillBegin
  /-- DRILL_GRANT (R405). -/
  | drillGrant
  /-- DRILL_READY_TIMEOUT (R406). -/
  | drillReadyTimeout
  /-- DRILL_PASS (R405). -/
  | drillPass
  /-- DRILL_DEFERRAL_REPORT (R404). -/
  | drillDeferralReport
  /-- RESTORE (R407). -/
  | restore (m : Nat)
  /-- AUTO_RESTORE (R407). -/
  | autoRestore
  /-- RESTORE_SELF_TEST_DONE (R408). -/
  | restoreSelfTestDone (ok : Bool)
  /-- FENCED_STATE_ENTRY (R414). -/
  | fencedStateEntry (cause : Nat)
  /-- FENCE_FLUSH_END (R415). -/
  | fenceFlushEnd
  /-- CHIME_SEND (R426). -/
  | chimeSend (h : Half) (m : Nat) (e : Nat) (dest : Nat)
  /-- CHIME_ACK (R427). -/
  | chimeAck (h : Half) (m : Nat) (e : Nat) (ack : Bool)
  /-- LOCK_READ (R431). -/
  | lockRead (h : Half) (m : Nat) (n : Nat)
  /-- LOCK_RELEASE (R433). -/
  | lockRelease (h : Half) (m : Nat) (n : Nat) (val : Nat)
  /-- SEM_FORCE (R434). -/
  | semForce (h : Half) (m : Nat) (val : Nat)
  /-- PROGRAM_RUN (R443). -/
  | programRun (m : Nat) (count : Nat)
  /-- ERASE (R443). -/
  | erase (m : Nat)
  /-- BTA_OPERATION_END (R441). -/
  | btaOperationEnd (timedOut : Bool)
  /-- BROWN_OUT (R447). -/
  | brownOut
  /-- POWER_ON_RESET (R464). -/
  | powerOnReset (cause : Nat) (supply : Nat)
  /-- BOOTING_HALF_RELEASE (R458). -/
  | bootingHalfRelease
  /-- STARTUP_STEP_COMPLETE (R461). -/
  | startupStepComplete (r : StepRes)
  /-- STARTUP_STEP_TIMEOUT (R462). -/
  | startupStepTimeout
  /-- ENTDAA (R467). -/
  | entdaa (da : Nat)
  /-- SETDASA (R467). -/
  | setdasa (da : Nat)
  /-- SETNEWDA (R467). -/
  | setnewda (da : Nat)
  /-- RSTDAA (R467). -/
  | rstdaa
  /-- ENEC (R467). -/
  | enec
  /-- DISEC (R467). -/
  | disec
  /-- GETPID (R467). -/
  | getpid
  /-- GETBCR (R467). -/
  | getbcr
  /-- GETDCR (R467). -/
  | getdcr
  /-- GETSTATUS (R467). -/
  | getstatus
  /-- GETMWL (R467). -/
  | getmwl
  /-- SETMWL (R467). -/
  | setmwl (v : Nat)
  /-- GETMRL (R467). -/
  | getmrl
  /-- SETMRL (R467). -/
  | setmrl (v : Nat)
  /-- MCTP_PACKET (R469). -/
  | mctpPacket (pkt : Packet)
  /-- SET_ENDPOINT_ID (R469). -/
  | setEndpointId (eid : Nat)
  /-- GET_ENDPOINT_ID (R469). -/
  | getEndpointId
  /-- GET_MCTP_VERSION_SUPPORT (R469). -/
  | getMctpVersionSupport
  /-- GET_MESSAGE_TYPE_SUPPORT (R469). -/
  | getMessageTypeSupport
  /-- GET_VENDOR_DEFINED_MESSAGE_SUPPORT (R469). -/
  | getVendorDefinedMessageSupport
  /-- GETTID (R469). -/
  | gettid
  /-- SETTID (R469). -/
  | settid (tid : Nat)
  /-- GETPLDMVERSION (R469). -/
  | getpldmversion
  /-- GETPLDMTYPES (R469). -/
  | getpldmtypes
  /-- GETPLDMCOMMANDS (R469). -/
  | getpldmcommands
  /-- QUERY_DEVICE_IDENTIFIERS (R478). -/
  | queryDeviceIdentifiers (sess : Nat)
  /-- GET_FIRMWARE_PARAMETERS (R478). -/
  | getFirmwareParameters (sess : Nat)
  /-- REQUEST_UPDATE (R479). -/
  | requestUpdate (sess : Nat) (maxXfer : Nat)
  /-- PASS_COMPONENT_TABLE (R480). -/
  | passComponentTable (sess : Nat) (comp : Nat) (size : Nat)
  /-- UPDATE_COMPONENT (R479). -/
  | updateComponent (sess : Nat) (comp : Nat) (size : Nat) (stamp : Nat) (lastComp : Bool)
  /-- FIRMWARE_DATA_RESPONSE (R479). -/
  | firmwareDataResponse (sess : Nat) (data : List Nat) (img : ImageMeta)
  /-- ACTIVATE_FIRMWARE (R481). -/
  | activateFirmware (sess : Nat) (selfContained : Bool) (img : ImageMeta)
  /-- GET_STATUS (R478). -/
  | getStatus (sess : Nat)
  /-- CANCEL_UPDATE_COMPONENT (R478). -/
  | cancelUpdateComponent (sess : Nat)
  /-- CANCEL_UPDATE (R480). -/
  | cancelUpdate (sess : Nat)
  /-- UPDATE_TIMEOUT (R480). -/
  | updateTimeout
  /-- ACTIVATION_QUIESCE (R134). -/
  | activationQuiesce
  /-- ACTIVATION_HOLD_BEGIN (R482). -/
  | activationHoldBegin (loadOk : Bool)
  /-- IMAGE_CHANGE (R482). -/
  | imageChange
  /-- ACTIVATION_RESUME (R134). -/
  | activationResume
  /-- ACTIVATION_FALLBACK (R135). -/
  | activationFallback
  /-- GET_VERSION (R473). -/
  | getVersion (tr : Transport)
  /-- GET_CAPABILITIES (R473). -/
  | getCapabilities (tr : Transport)
  /-- NEGOTIATE_ALGORITHMS (R473). -/
  | negotiateAlgorithms (tr : Transport)
  /-- GET_DIGESTS (R473). -/
  | getDigests (tr : Transport)
  /-- GET_CERTIFICATE (R473). -/
  | getCertificate (tr : Transport) (slot : Nat)
  /-- CHALLENGE (R473). -/
  | challenge (tr : Transport) (slot : Nat)
  /-- GET_MEASUREMENTS (R475). -/
  | getMeasurements (tr : Transport) (idx : Nat)
  /-- KEY_EXCHANGE (R470). -/
  | keyExchange (tr : Transport) (mutAuth : Bool) (opKey : Bool)
  /-- FINISH (R473). -/
  | finish (sess : Nat) (ok : Bool)
  /-- HEARTBEAT (R473). -/
  | heartbeat (sess : Nat)
  /-- KEY_UPDATE (R473). -/
  | keyUpdate (sess : Nat)
  /-- END_SESSION (R473). -/
  | endSession (sess : Nat)
  /-- GET_ENCAPSULATED_REQUEST (R473). -/
  | getEncapsulatedRequest (sess : Nat)
  /-- DELIVER_ENCAPSULATED_RESPONSE (R473). -/
  | deliverEncapsulatedResponse (sess : Nat) (ok : Bool)
  /-- GET_NONCE (R476). -/
  | getNonce (sess : Nat)
  /-- NONCE_EXPIRY (R476). -/
  | nonceExpiry (sess : Nat)
  /-- REG_READ (R476). -/
  | regRead (sess : Nat) (h : Half) (blk : Nat) (off : Nat)
  /-- REG_WRITE (R476). -/
  | regWrite (sess : Nat) (h : Half) (blk : Nat) (off : Nat) (val : Nat)
  /-- CONFIRM (R485). -/
  | confirm (sess : Nat)
  /-- REVERT (R486). -/
  | revert (sess : Nat) (sigOk : Bool) (img : ImageMeta)
  /-- DEVICE_RESET (R464). -/
  | deviceReset (sess : Nat) (sigOk : Bool)
  /-- EVENT_CLEAR (R508). -/
  | eventClear (sess : Nat) (sigOk : Bool) (keyHash : Nat)
  /-- CONSOLE_UNLOCK (R494). -/
  | consoleUnlock (sess : Nat) (sigOk : Bool) (level : Nat) (hours : Nat)
  /-- CONSOLE_LOCK (R494). -/
  | consoleLock (sess : Nat)
  /-- CONSOLE_EXPIRY (R494). -/
  | consoleExpiry
  /-- CONSOLE_REGISTER_READ (R494). -/
  | consoleRegisterRead (h : Half) (blk : Nat) (off : Nat)
  /-- CONSOLE_REGISTER_WRITE (R494). -/
  | consoleRegisterWrite (h : Half) (blk : Nat) (off : Nat) (val : Nat)
  /-- CONSOLE_EVENT_READ (R507). -/
  | consoleEventRead (seq : Nat)
  /-- RNG_HEALTH_FAILURE (R493). -/
  | rngHealthFailure
  /-- EVENT_SUBMIT (R501). -/
  | eventSubmit (h : Half) (m : Nat) (e : Nat) (code : Nat)
  /-- EVENT_RECORD_WRITE (R504). -/
  | eventRecordWrite
  /-- PERMANENT_COPY (R505). -/
  | permanentCopy
  /-- TOKEN_REFILL (R503). -/
  | tokenRefill
  /-- HOURLY_TEMPERATURE_RECORD (R510). -/
  | hourlyTemperatureRecord
  /-- SNAPSHOT_GO (R511). -/
  | snapshotGo (m : Nat) (val : Nat)
  /-- SNAPSHOT_LATCH (R511). -/
  | snapshotLatch
  /-- TEST_GO (R516). -/
  | testGo (m : Nat) (val : Nat)
  /-- TEST_STOP (R518). -/
  | testStop (m : Nat)
  /-- TEST_RUN_START (R516). -/
  | testRunStart
  /-- TEST_RUN_END (R518). -/
  | testRunEnd (cause : Nat) (bits : Nat) (errs : Nat) (first : Nat) (lanes : Nat) (passes : Nat) (fails : Nat) (tos : Nat)
  /-- SUPPLY_TRIP (R528). -/
  | supplyTrip (supply : Nat) (reading : Nat)
  /-- SYSCLK_FAULT (R535). -/
  | sysclkFault
  /-- DOMAIN_REQUEST (R541). -/
  | domainRequest (m : Nat) (h : Half) (d : Nat) (val : Nat)
  /-- SLOT_PRESENCE_LOSS (R248). -/
  | slotPresenceLoss (n : Nat)
  /-- POWER_GOOD_LOSS (R248). -/
  | powerGoodLoss (n : Nat)
  /-- CARTRIDGE_INSERTION (R523). -/
  | cartridgeInsertion (n : Nat)
  /-- OUTBOUND_PACKET_READ (R468). -/
  | outboundPacketRead
  /-- CHECKER_LOCK (R519). -/
  | checkerLock (lane : Nat)
  /-- CHECKER_LOCK_LOSS (R519). -/
  | checkerLockLoss (lane : Nat)
  /-- RNG_RESEED (R493). -/
  | rngReseed
  /-- HEARTBEAT_TIMEOUT (R473). -/
  | heartbeatTimeout (sess : Nat)
  deriving DecidableEq, Repr

end Sys2Proof
end

