-- ==== Sys2Proof/Config.lean ====
section
/-! DEFINITION. What the manual leaves open. Each constant here is opaque: nothing in Lean can evaluate it, so a
statement that holds of the model holds whatever value the hardware takes. The assumption log names each one. -/

namespace Sys2Proof.Config

/-- A fresh unconstrained value for the `n`-th value that the manual leaves open (log entry 3). -/
opaque freeValue : Nat → BitVec 64

/-- CRC-32 as R499, the log words of the boot array and the device tables use it: the manual names no polynomial (log entry 4). -/
opaque crc32 : List (BitVec 64) → BitVec 32

/-- Numbers of the device that the manual names and does not give (R467, R478): 0 the bits of PID above UNIT, 1 Serustra's
IANA enterprise number, 2 the part number, 3 the version of PLDM type 0, 4 that of PLDM type 5. -/
opaque fixedValue : Nat → BitVec 64

/-- SHA-384 of the fields that a measurement covers (R475), and of a key: an uninterpreted function of what it is taken over. -/
opaque sha384 : List Nat → BitVec 384

end Sys2Proof.Config
end

