-- ==== Sys2Proof/Machine/Regs.lean ====
section
/-! DEFINITION. The register maps of every register block, as the manual tables them: each register's place
(block code of R456, offset, stride and count of an array of registers) and its fields (bits, access code of R16, reset
value, range that R548 tests). Chapter and rule of each block stand above its rows. -/
namespace Sys2Proof.Machine

/-- The access codes of R16. RSV bits have no field and so read 0 (R15). -/
inductive Acc where
  | rw | ro | w1c | w1s | rc | wo
  deriving DecidableEq, Repr

/-- A register, or an array of registers: instance `i` lies at `off + i * stride` of block `blk`. -/
structure Reg where
  blk : Nat
  off : Nat
  stride : Nat
  count : Nat
  deriving DecidableEq, Repr

/-- A field of a register: `width` bits from bit `lsb`. -/
structure Fd where
  reg : Reg
  lsb : Nat
  width : Nat
  deriving DecidableEq, Repr

/-- One row of a field map: bits, access code, reset value, and the least and largest value that R548 admits in an
RW field. -/
structure FieldRow where
  lsb : Nat
  width : Nat
  acc : Acc
  rst : Nat
  lo : Nat
  hi : Nat
  deriving DecidableEq, Repr

/-- One register with the rows of its field map. -/
structure RegRow where
  reg : Reg
  fields : List FieldRow
  deriving DecidableEq, Repr

/-- The block codes of R456. -/

def Blk.HST : Nat := 1
def Blk.QUE : Nat := 2
def Blk.TEN : Nat := 3
def Blk.MAP : Nat := 4
def Blk.MED : Nat := 5
def Blk.FCH : Nat := 6
def Blk.CTG : Nat := 7
def Blk.ECC : Nat := 8
def Blk.RGL : Nat := 9
def Blk.LDG : Nat := 10
def Blk.DRC : Nat := 11
def Blk.BUF : Nat := 12
def Blk.SAF : Nat := 13
def Blk.CLP : Nat := 14
def Blk.CHM : Nat := 15
def Blk.SEM : Nat := 16
def Blk.BTA : Nat := 17
def Blk.SVC : Nat := 18
def Blk.SEC : Nat := 19
def Blk.EVT : Nat := 20
def Blk.TST : Nat := 21
def Blk.PWR : Nat := 22
def Blk.SCH : Nat := 23

/-! ### SCH block (chapter 02 R71) -/
def Reg.SCH_CAP : Reg := ⟨Blk.SCH, 0x0, 0x0, 1⟩
def Fd.SCH_CAP_PRESENT : Fd := ⟨Reg.SCH_CAP, 0, 1⟩
def Fd.SCH_CAP_INSTANCES : Fd := ⟨Reg.SCH_CAP, 8, 8⟩
def Reg.SCH_BEAT_LO : Reg := ⟨Blk.SCH, 0x4, 0x0, 1⟩
def Fd.SCH_BEAT_LO_COUNT : Fd := ⟨Reg.SCH_BEAT_LO, 0, 32⟩
def Reg.SCH_BEAT_HI : Reg := ⟨Blk.SCH, 0x8, 0x0, 1⟩
def Fd.SCH_BEAT_HI_COUNT : Fd := ⟨Reg.SCH_BEAT_HI, 0, 32⟩
def Reg.SCH_POS : Reg := ⟨Blk.SCH, 0xc, 0x0, 1⟩
def Fd.SCH_POS_BEAT : Fd := ⟨Reg.SCH_POS, 0, 8⟩
def Fd.SCH_POS_CYCLE : Fd := ⟨Reg.SCH_POS, 8, 13⟩
def Reg.SCH_ENROLL : Reg := ⟨Blk.SCH, 0x10, 0x0, 1⟩
def Fd.SCH_ENROLL_UNIT : Fd := ⟨Reg.SCH_ENROLL, 0, 15⟩
def Fd.SCH_ENROLL_FIXED : Fd := ⟨Reg.SCH_ENROLL, 15, 3⟩
def Reg.SCH_DONE : Reg := ⟨Blk.SCH, 0x14, 0x0, 1⟩
def Fd.SCH_DONE_DONE : Fd := ⟨Reg.SCH_DONE, 0, 18⟩
def Reg.SCH_DONE_SET : Reg := ⟨Blk.SCH, 0x18, 0x0, 1⟩
def Fd.SCH_DONE_SET_DONE : Fd := ⟨Reg.SCH_DONE_SET, 0, 18⟩
def Reg.SCH_OVR : Reg := ⟨Blk.SCH, 0x1c, 0x0, 1⟩
def Fd.SCH_OVR_UNIT : Fd := ⟨Reg.SCH_OVR, 0, 5⟩
def Fd.SCH_OVR_MULTI : Fd := ⟨Reg.SCH_OVR, 5, 1⟩
def Fd.SCH_OVR_BEAT : Fd := ⟨Reg.SCH_OVR, 8, 8⟩
def Fd.SCH_OVR_VALID : Fd := ⟨Reg.SCH_OVR, 31, 1⟩
def Reg.SCH_OVR_COUNT : Reg := ⟨Blk.SCH, 0x20, 0x0, 1⟩
def Fd.SCH_OVR_COUNT_COUNT : Fd := ⟨Reg.SCH_OVR_COUNT, 0, 32⟩
def Reg.SCH_SLACK : Reg := ⟨Blk.SCH, 0x24, 0x0, 1⟩
def Fd.SCH_SLACK_MIN : Fd := ⟨Reg.SCH_SLACK, 0, 13⟩
def Fd.SCH_SLACK_UNIT : Fd := ⟨Reg.SCH_SLACK, 16, 5⟩
def Reg.SCH_PLAN_CTRL : Reg := ⟨Blk.SCH, 0x28, 0x0, 1⟩
def Fd.SCH_PLAN_CTRL_COMMIT : Fd := ⟨Reg.SCH_PLAN_CTRL, 0, 1⟩
def Fd.SCH_PLAN_CTRL_PLAN_ID : Fd := ⟨Reg.SCH_PLAN_CTRL, 16, 16⟩
def Reg.SCH_PLAN_STATUS : Reg := ⟨Blk.SCH, 0x2c, 0x0, 1⟩
def Fd.SCH_PLAN_STATUS_REJECT : Fd := ⟨Reg.SCH_PLAN_STATUS, 0, 1⟩
def Fd.SCH_PLAN_STATUS_SCALED : Fd := ⟨Reg.SCH_PLAN_STATUS, 1, 1⟩
def Fd.SCH_PLAN_STATUS_REASON : Fd := ⟨Reg.SCH_PLAN_STATUS, 4, 2⟩
def Fd.SCH_PLAN_STATUS_SLICE : Fd := ⟨Reg.SCH_PLAN_STATUS, 8, 2⟩
def Fd.SCH_PLAN_STATUS_LIVE_ID : Fd := ⟨Reg.SCH_PLAN_STATUS, 16, 16⟩
def Reg.SCH_HOSTCAP : Reg := ⟨Blk.SCH, 0x30, 0x4, 4⟩
def Fd.SCH_HOSTCAP_CAP : Fd := ⟨Reg.SCH_HOSTCAP, 0, 16⟩
def Reg.SCH_CHPAT : Reg := ⟨Blk.SCH, 0x40, 0x4, 32⟩
def Fd.SCH_CHPAT_ROW : Fd := ⟨Reg.SCH_CHPAT, 0, 4⟩
def Fd.SCH_CHPAT_ROT : Fd := ⟨Reg.SCH_CHPAT, 8, 8⟩
def Reg.SCH_OVRX : Reg := ⟨Blk.SCH, 0xc0, 0x0, 1⟩
def Fd.SCH_OVRX_UNIT : Fd := ⟨Reg.SCH_OVRX, 0, 5⟩
def Fd.SCH_OVRX_MULTI : Fd := ⟨Reg.SCH_OVRX, 5, 1⟩
def Fd.SCH_OVRX_BEAT : Fd := ⟨Reg.SCH_OVRX, 8, 8⟩
def Fd.SCH_OVRX_VALID : Fd := ⟨Reg.SCH_OVRX, 31, 1⟩
def Reg.SCH_OVRX_COUNT : Reg := ⟨Blk.SCH, 0xc4, 0x0, 1⟩
def Fd.SCH_OVRX_COUNT_COUNT : Fd := ⟨Reg.SCH_OVRX_COUNT, 0, 32⟩
def Reg.SCH_PATROW : Reg := ⟨Blk.SCH, 0x800, 0x4, 256⟩
def Fd.SCH_PATROW_WORD : Fd := ⟨Reg.SCH_PATROW, 0, 32⟩
def Reg.SCH_TBUDGET : Reg := ⟨Blk.SCH, 0x1000, 0x4, 1024⟩
def Fd.SCH_TBUDGET_CREDITS : Fd := ⟨Reg.SCH_TBUDGET, 0, 16⟩
def Reg.SCH_TREMAIN : Reg := ⟨Blk.SCH, 0x2000, 0x4, 1024⟩
def Fd.SCH_TREMAIN_CREDITS : Fd := ⟨Reg.SCH_TREMAIN, 0, 16⟩
def Reg.SCH_DIEPAT : Reg := ⟨Blk.SCH, 0x4000, 0x4, 1024⟩
def Fd.SCH_DIEPAT_ROW : Fd := ⟨Reg.SCH_DIEPAT, 0, 4⟩
def Fd.SCH_DIEPAT_ROT : Fd := ⟨Reg.SCH_DIEPAT, 8, 8⟩
def Fd.SCH_DIEPAT_ABSENT : Fd := ⟨Reg.SCH_DIEPAT, 31, 1⟩
/-- The rows of block SCH (02 R71). -/
def regRowsSCH : List RegRow := [
  ⟨Reg.SCH_CAP, [⟨0, 1, .ro, 0x1, 0, 0x1⟩, ⟨8, 8, .ro, 0x4, 0, 0xff⟩]⟩,
  ⟨Reg.SCH_BEAT_LO, [⟨0, 32, .ro, 0x0, 0, 0xffffffff⟩]⟩,
  ⟨Reg.SCH_BEAT_HI, [⟨0, 32, .ro, 0x0, 0, 0xffffffff⟩]⟩,
  ⟨Reg.SCH_POS, [⟨0, 8, .ro, 0x0, 0, 0xff⟩, ⟨8, 13, .ro, 0x0, 0, 0x1fff⟩]⟩,
  ⟨Reg.SCH_ENROLL, [⟨0, 15, .rw, 0x0, 0, 0x7fff⟩, ⟨15, 3, .ro, 0x7, 0, 0x7⟩]⟩,
  ⟨Reg.SCH_DONE, [⟨0, 18, .ro, 0x0, 0, 0x3ffff⟩]⟩,
  ⟨Reg.SCH_DONE_SET, [⟨0, 18, .wo, 0x0, 0, 0x3ffff⟩]⟩,
  ⟨Reg.SCH_OVR, [⟨0, 5, .ro, 0x0, 0, 0x1f⟩, ⟨5, 1, .ro, 0x0, 0, 0x1⟩, ⟨8, 8, .ro, 0x0, 0, 0xff⟩, ⟨31, 1, .w1c, 0x0, 0, 0x1⟩]⟩,
  ⟨Reg.SCH_OVR_COUNT, [⟨0, 32, .ro, 0x0, 0, 0xffffffff⟩]⟩,
  ⟨Reg.SCH_SLACK, [⟨0, 13, .rc, 0x1fff, 0, 0x1fff⟩, ⟨16, 5, .rc, 0x0, 0, 0x1f⟩]⟩,
  ⟨Reg.SCH_PLAN_CTRL, [⟨0, 1, .w1s, 0x0, 0, 0x1⟩, ⟨16, 16, .rw, 0x0, 0, 0xffff⟩]⟩,
  ⟨Reg.SCH_PLAN_STATUS, [⟨0, 1, .w1c, 0x0, 0, 0x1⟩, ⟨1, 1, .ro, 0x0, 0, 0x1⟩, ⟨4, 2, .ro, 0x0, 0, 0x3⟩, ⟨8, 2, .ro, 0x0, 0, 0x3⟩, ⟨16, 16, .ro, 0x0, 0, 0xffff⟩]⟩,
  ⟨Reg.SCH_HOSTCAP, [⟨0, 16, .ro, 0x0, 0, 0xffff⟩]⟩,
  ⟨Reg.SCH_CHPAT, [⟨0, 4, .rw, 0x0, 0, 0xf⟩, ⟨8, 8, .rw, 0x0, 0, 0xff⟩]⟩,
  ⟨Reg.SCH_OVRX, [⟨0, 5, .ro, 0x0, 0, 0x1f⟩, ⟨5, 1, .ro, 0x0, 0, 0x1⟩, ⟨8, 8, .ro, 0x0, 0, 0xff⟩, ⟨31, 1, .ro, 0x0, 0, 0x1⟩]⟩,
  ⟨Reg.SCH_OVRX_COUNT, [⟨0, 32, .ro, 0x0, 0, 0xffffffff⟩]⟩,
  ⟨Reg.SCH_PATROW, [⟨0, 2, .rw, 0x0, 0, 0x3⟩, ⟨2, 2, .rw, 0x0, 0, 0x3⟩, ⟨4, 2, .rw, 0x0, 0, 0x3⟩, ⟨6, 2, .rw, 0x0, 0, 0x3⟩, ⟨8, 2, .rw, 0x0, 0, 0x3⟩, ⟨10, 2, .rw, 0x0, 0, 0x3⟩, ⟨12, 2, .rw, 0x0, 0, 0x3⟩, ⟨14, 2, .rw, 0x0, 0, 0x3⟩, ⟨16, 2, .rw, 0x0, 0, 0x3⟩, ⟨18, 2, .rw, 0x0, 0, 0x3⟩, ⟨20, 2, .rw, 0x0, 0, 0x3⟩, ⟨22, 2, .rw, 0x0, 0, 0x3⟩, ⟨24, 2, .rw, 0x0, 0, 0x3⟩, ⟨26, 2, .rw, 0x0, 0, 0x3⟩, ⟨28, 2, .rw, 0x0, 0, 0x3⟩, ⟨30, 2, .rw, 0x0, 0, 0x3⟩]⟩,
  ⟨Reg.SCH_TBUDGET, [⟨0, 16, .rw, 0x0, 0, 0xffff⟩]⟩,
  ⟨Reg.SCH_TREMAIN, [⟨0, 16, .ro, 0x0, 0, 0xffff⟩]⟩,
  ⟨Reg.SCH_DIEPAT, [⟨0, 4, .rw, 0x0, 0, 0xf⟩, ⟨8, 8, .rw, 0x0, 0, 0xff⟩, ⟨31, 1, .ro, 0x0, 0, 0x1⟩]⟩]

/-! ### HST block (chapter 03 R113) -/
def Reg.HST_CAP : Reg := ⟨Blk.HST, 0x0, 0x0, 1⟩
def Fd.HST_CAP_PRESENT : Fd := ⟨Reg.HST_CAP, 0, 1⟩
def Fd.HST_CAP_INSTANCES : Fd := ⟨Reg.HST_CAP, 8, 8⟩
def Reg.HST_LINK : Reg := ⟨Blk.HST, 0x4, 0x0, 1⟩
def Fd.HST_LINK_SPEED0 : Fd := ⟨Reg.HST_LINK, 0, 4⟩
def Fd.HST_LINK_WIDTH0 : Fd := ⟨Reg.HST_LINK, 4, 6⟩
def Fd.HST_LINK_WIDTH1 : Fd := ⟨Reg.HST_LINK, 10, 6⟩
def Fd.HST_LINK_BIFUR : Fd := ⟨Reg.HST_LINK, 16, 1⟩
def Fd.HST_LINK_FLIT : Fd := ⟨Reg.HST_LINK, 17, 1⟩
def Fd.HST_LINK_DLUP0 : Fd := ⟨Reg.HST_LINK, 18, 1⟩
def Fd.HST_LINK_DLUP1 : Fd := ⟨Reg.HST_LINK, 19, 1⟩
def Fd.HST_LINK_HOLD : Fd := ⟨Reg.HST_LINK, 20, 1⟩
def Fd.HST_LINK_TAGMODE : Fd := ⟨Reg.HST_LINK, 21, 2⟩
def Fd.HST_LINK_SPEED1 : Fd := ⟨Reg.HST_LINK, 24, 4⟩
def Fd.HST_LINK_TAGMODE1 : Fd := ⟨Reg.HST_LINK, 28, 2⟩
def Reg.HST_TAGSTAT : Reg := ⟨Blk.HST, 0x8, 0x0, 1⟩
def Fd.HST_TAGSTAT_OUT : Fd := ⟨Reg.HST_TAGSTAT, 0, 14⟩
def Fd.HST_TAGSTAT_QUAR : Fd := ⟨Reg.HST_TAGSTAT, 16, 15⟩
def Reg.HST_CNT_UCPL : Reg := ⟨Blk.HST, 0xc, 0x0, 1⟩
def Fd.HST_CNT_UCPL_COUNT : Fd := ⟨Reg.HST_CNT_UCPL, 0, 32⟩
def Reg.HST_CNT_WMISS : Reg := ⟨Blk.HST, 0x10, 0x0, 1⟩
def Fd.HST_CNT_WMISS_COUNT : Fd := ⟨Reg.HST_CNT_WMISS, 0, 32⟩
def Reg.HST_CNT_CTO : Reg := ⟨Blk.HST, 0x14, 0x0, 1⟩
def Fd.HST_CNT_CTO_COUNT : Fd := ⟨Reg.HST_CNT_CTO, 0, 32⟩
def Reg.HST_WINERR : Reg := ⟨Blk.HST, 0x18, 0x0, 1⟩
def Fd.HST_WINERR_PF : Fd := ⟨Reg.HST_WINERR, 0, 1⟩
def Fd.HST_WINERR_ENTRY : Fd := ⟨Reg.HST_WINERR, 1, 6⟩
def Fd.HST_WINERR_REASON : Fd := ⟨Reg.HST_WINERR, 8, 3⟩
def Fd.HST_WINERR_VALID : Fd := ⟨Reg.HST_WINERR, 31, 1⟩
def Reg.HST_MODE : Reg := ⟨Blk.HST, 0x1c, 0x0, 1⟩
def Fd.HST_MODE_SPLIT_ALL : Fd := ⟨Reg.HST_MODE, 0, 1⟩
def Reg.HST_BARCFG : Reg := ⟨Blk.HST, 0x20, 0x4, 2⟩
def Fd.HST_BARCFG_MODE : Fd := ⟨Reg.HST_BARCFG, 0, 1⟩
def Fd.HST_BARCFG_BAR2LOG : Fd := ⟨Reg.HST_BARCFG, 1, 6⟩
def Fd.HST_BARCFG_VFBAR2LOG : Fd := ⟨Reg.HST_BARCFG, 7, 6⟩
def Fd.HST_BARCFG_ROMLOG : Fd := ⟨Reg.HST_BARCFG, 13, 5⟩
def Reg.HST_TAGBUD : Reg := ⟨Blk.HST, 0x400, 0x4, 256⟩
def Fd.HST_TAGBUD_RESV : Fd := ⟨Reg.HST_TAGBUD, 0, 14⟩
def Fd.HST_TAGBUD_CAP : Fd := ⟨Reg.HST_TAGBUD, 16, 14⟩
def Reg.HST_TAGUSE : Reg := ⟨Blk.HST, 0x800, 0x4, 256⟩
def Fd.HST_TAGUSE_OUT : Fd := ⟨Reg.HST_TAGUSE, 0, 14⟩
def Fd.HST_TAGUSE_QUAR : Fd := ⟨Reg.HST_TAGUSE, 16, 14⟩
def Reg.HST_FNSTAT : Reg := ⟨Blk.HST, 0xc00, 0x4, 256⟩
def Fd.HST_FNSTAT_BME : Fd := ⟨Reg.HST_FNSTAT, 0, 1⟩
def Fd.HST_FNSTAT_FLRPEND : Fd := ⟨Reg.HST_FNSTAT, 1, 1⟩
def Fd.HST_FNSTAT_SPLIT : Fd := ⟨Reg.HST_FNSTAT, 2, 1⟩
def Fd.HST_FNSTAT_SC_START : Fd := ⟨Reg.HST_FNSTAT, 3, 1⟩
def Fd.HST_FNSTAT_SC_TEST : Fd := ⟨Reg.HST_FNSTAT, 4, 1⟩
def Fd.HST_FNSTAT_SC_RECOV : Fd := ⟨Reg.HST_FNSTAT, 5, 1⟩
def Fd.HST_FNSTAT_CTOENC : Fd := ⟨Reg.HST_FNSTAT, 8, 4⟩
def Fd.HST_FNSTAT_ORPHAN : Fd := ⟨Reg.HST_FNSTAT, 16, 14⟩
def Reg.HST_WIN_OFF : Reg := ⟨Blk.HST, 0x2000, 0x10, 128⟩
def Fd.HST_WIN_OFF_OFF : Fd := ⟨Reg.HST_WIN_OFF, 0, 20⟩
def Reg.HST_WIN_TGT : Reg := ⟨Blk.HST, 0x2004, 0x10, 128⟩
def Fd.HST_WIN_TGT_TGT : Fd := ⟨Reg.HST_WIN_TGT, 0, 32⟩
def Reg.HST_WIN_REQ : Reg := ⟨Blk.HST, 0x2008, 0x10, 128⟩
def Fd.HST_WIN_REQ_REQID : Fd := ⟨Reg.HST_WIN_REQ, 0, 16⟩
def Fd.HST_WIN_REQ_FILT : Fd := ⟨Reg.HST_WIN_REQ, 16, 1⟩
def Reg.HST_WIN_CTRL : Reg := ⟨Blk.HST, 0x200c, 0x10, 128⟩
def Fd.HST_WIN_CTRL_EN : Fd := ⟨Reg.HST_WIN_CTRL, 0, 1⟩
def Fd.HST_WIN_CTRL_ACC : Fd := ⟨Reg.HST_WIN_CTRL, 1, 2⟩
def Fd.HST_WIN_CTRL_LOG2SZ : Fd := ⟨Reg.HST_WIN_CTRL, 3, 6⟩
def Fd.HST_WIN_CTRL_OWNER : Fd := ⟨Reg.HST_WIN_CTRL, 16, 8⟩
/-- The rows of block HST (03 R113). -/
def regRowsHST : List RegRow := [
  ⟨Reg.HST_CAP, [⟨0, 1, .ro, 0x1, 0, 0x1⟩, ⟨8, 8, .ro, 0x10, 0, 0xff⟩]⟩,
  ⟨Reg.HST_LINK, [⟨0, 4, .ro, 0x0, 0, 0xf⟩, ⟨4, 6, .ro, 0x0, 0, 0x3f⟩, ⟨10, 6, .ro, 0x0, 0, 0x3f⟩, ⟨16, 1, .ro, 0x0, 0, 0x1⟩, ⟨17, 1, .ro, 0x0, 0, 0x1⟩, ⟨18, 1, .ro, 0x0, 0, 0x1⟩, ⟨19, 1, .ro, 0x0, 0, 0x1⟩, ⟨20, 1, .ro, 0x0, 0, 0x1⟩, ⟨21, 2, .ro, 0x0, 0, 0x3⟩, ⟨24, 4, .ro, 0x0, 0, 0xf⟩, ⟨28, 2, .ro, 0x0, 0, 0x3⟩]⟩,
  ⟨Reg.HST_TAGSTAT, [⟨0, 14, .ro, 0x0, 0, 0x3fff⟩, ⟨16, 15, .ro, 0x0, 0, 0x7fff⟩]⟩,
  ⟨Reg.HST_CNT_UCPL, [⟨0, 32, .ro, 0x0, 0, 0xffffffff⟩]⟩,
  ⟨Reg.HST_CNT_WMISS, [⟨0, 32, .ro, 0x0, 0, 0xffffffff⟩]⟩,
  ⟨Reg.HST_CNT_CTO, [⟨0, 32, .ro, 0x0, 0, 0xffffffff⟩]⟩,
  ⟨Reg.HST_WINERR, [⟨0, 1, .ro, 0x0, 0, 0x1⟩, ⟨1, 6, .ro, 0x0, 0, 0x3f⟩, ⟨8, 3, .ro, 0x0, 0, 0x7⟩, ⟨31, 1, .w1c, 0x0, 0, 0x1⟩]⟩,
  ⟨Reg.HST_MODE, [⟨0, 1, .rw, 0x0, 0, 0x1⟩]⟩,
  ⟨Reg.HST_BARCFG, [⟨0, 1, .ro, 0x0, 0, 0x1⟩, ⟨1, 6, .ro, 0x0, 20, 36⟩, ⟨7, 6, .ro, 0x0, 16, 30⟩, ⟨13, 5, .ro, 0x0, 16, 20⟩]⟩,
  ⟨Reg.HST_TAGBUD, [⟨0, 14, .rw, 0x20, 0, 0x3fff⟩, ⟨16, 14, .rw, 0x20, 0, 0x3fff⟩]⟩,
  ⟨Reg.HST_TAGUSE, [⟨0, 14, .ro, 0x0, 0, 0x3fff⟩, ⟨16, 14, .ro, 0x0, 0, 0x3fff⟩]⟩,
  ⟨Reg.HST_FNSTAT, [⟨0, 1, .ro, 0x0, 0, 0x1⟩, ⟨1, 1, .ro, 0x0, 0, 0x1⟩, ⟨2, 1, .ro, 0x0, 0, 0x1⟩, ⟨3, 1, .ro, 0x0, 0, 0x1⟩, ⟨4, 1, .ro, 0x0, 0, 0x1⟩, ⟨5, 1, .ro, 0x0, 0, 0x1⟩, ⟨8, 4, .ro, 0x0, 0, 0xf⟩, ⟨16, 14, .ro, 0x0, 0, 0x3fff⟩]⟩,
  ⟨Reg.HST_WIN_OFF, [⟨0, 20, .rw, 0x0, 0, 0xfffff⟩]⟩,
  ⟨Reg.HST_WIN_TGT, [⟨0, 32, .rw, 0x0, 0, 0xffffffff⟩]⟩,
  ⟨Reg.HST_WIN_REQ, [⟨0, 16, .rw, 0x0, 0, 0xffff⟩, ⟨16, 1, .rw, 0x0, 0, 0x1⟩]⟩,
  ⟨Reg.HST_WIN_CTRL, [⟨0, 1, .rw, 0x0, 0, 0x1⟩, ⟨1, 2, .rw, 0x0, 0, 0x3⟩, ⟨3, 6, .rw, 0x0, 0, 0x3f⟩, ⟨16, 8, .rw, 0x0, 0, 0xff⟩]⟩]

/-! ### QUE block (chapter 04 R144) -/
def Reg.QUE_CAP : Reg := ⟨Blk.QUE, 0x0, 0x0, 1⟩
def Fd.QUE_CAP_PRESENT : Fd := ⟨Reg.QUE_CAP, 0, 1⟩
def Fd.QUE_CAP_INSTANCES : Fd := ⟨Reg.QUE_CAP, 8, 8⟩
def Reg.QUE_ARBCFG : Reg := ⟨Blk.QUE, 0x4, 0x0, 1⟩
def Fd.QUE_ARBCFG_GRANTMAX : Fd := ⟨Reg.QUE_ARBCFG, 0, 7⟩
def Reg.QUE_CTXSTAT : Reg := ⟨Blk.QUE, 0x8, 0x0, 1⟩
def Fd.QUE_CTXSTAT_INUSE : Fd := ⟨Reg.QUE_CTXSTAT, 0, 17⟩
def Reg.QUE_ACT : Reg := ⟨Blk.QUE, 0xc, 0x0, 1⟩
def Fd.QUE_ACT_STATE : Fd := ⟨Reg.QUE_ACT, 0, 2⟩
def Fd.QUE_ACT_FALLBACK : Fd := ⟨Reg.QUE_ACT, 2, 1⟩
def Fd.QUE_ACT_BARS : Fd := ⟨Reg.QUE_ACT, 8, 4⟩
def Reg.QUE_PWR : Reg := ⟨Blk.QUE, 0x10, 0x0, 1⟩
def Fd.QUE_PWR_PS : Fd := ⟨Reg.QUE_PWR, 0, 2⟩
def Fd.QUE_PWR_ENTRY : Fd := ⟨Reg.QUE_PWR, 2, 1⟩
def Fd.QUE_PWR_EXIT : Fd := ⟨Reg.QUE_PWR, 3, 1⟩
def Fd.QUE_PWR_TARGET : Fd := ⟨Reg.QUE_PWR, 4, 2⟩
def Reg.QUE_CNT_LENREJ : Reg := ⟨Blk.QUE, 0x14, 0x0, 1⟩
def Fd.QUE_CNT_LENREJ_COUNT : Fd := ⟨Reg.QUE_CNT_LENREJ, 0, 32⟩
def Reg.QUE_CNT_DESCREJ : Reg := ⟨Blk.QUE, 0x18, 0x0, 1⟩
def Fd.QUE_CNT_DESCREJ_COUNT : Fd := ⟨Reg.QUE_CNT_DESCREJ, 0, 32⟩
def Reg.QUE_CNT_DEFER : Reg := ⟨Blk.QUE, 0x20, 0x0, 1⟩
def Fd.QUE_CNT_DEFER_COUNT : Fd := ⟨Reg.QUE_CNT_DEFER, 0, 32⟩
def Reg.QUE_CNT_ABORT : Reg := ⟨Blk.QUE, 0x1c, 0x0, 1⟩
def Fd.QUE_CNT_ABORT_ABORTED : Fd := ⟨Reg.QUE_CNT_ABORT, 0, 16⟩
def Fd.QUE_CNT_ABORT_NOTABORTED : Fd := ⟨Reg.QUE_CNT_ABORT, 16, 16⟩
def Reg.QUE_FNQ : Reg := ⟨Blk.QUE, 0x400, 0x4, 256⟩
def Fd.QUE_FNQ_BASE : Fd := ⟨Reg.QUE_FNQ, 0, 12⟩
def Fd.QUE_FNQ_COUNT : Fd := ⟨Reg.QUE_FNQ, 16, 13⟩
def Reg.QUE_FNCTX : Reg := ⟨Blk.QUE, 0x800, 0x4, 256⟩
def Fd.QUE_FNCTX_RESV : Fd := ⟨Reg.QUE_FNCTX, 0, 12⟩
def Fd.QUE_FNCTX_CAP : Fd := ⟨Reg.QUE_FNCTX, 16, 12⟩
def Reg.QUE_FNARB : Reg := ⟨Blk.QUE, 0xc00, 0x4, 256⟩
def Fd.QUE_FNARB_MAXB : Fd := ⟨Reg.QUE_FNARB, 0, 6⟩
def Reg.QUE_FNUSE : Reg := ⟨Blk.QUE, 0x1000, 0x4, 256⟩
def Fd.QUE_FNUSE_CTX : Fd := ⟨Reg.QUE_FNUSE, 0, 17⟩
def Fd.QUE_FNUSE_DEFER : Fd := ⟨Reg.QUE_FNUSE, 17, 1⟩
def Fd.QUE_FNUSE_HELD : Fd := ⟨Reg.QUE_FNUSE, 18, 1⟩
/-- The rows of block QUE (04 R144). -/
def regRowsQUE : List RegRow := [
  ⟨Reg.QUE_CAP, [⟨0, 1, .ro, 0x1, 0, 0x1⟩, ⟨8, 8, .ro, 0x1, 0, 0xff⟩]⟩,
  ⟨Reg.QUE_ARBCFG, [⟨0, 7, .rw, 0x3e, 1, 0x3e⟩]⟩,
  ⟨Reg.QUE_CTXSTAT, [⟨0, 17, .ro, 0x0, 0, 0x1ffff⟩]⟩,
  ⟨Reg.QUE_ACT, [⟨0, 2, .ro, 0x0, 0, 0x3⟩, ⟨2, 1, .w1c, 0x0, 0, 0x1⟩, ⟨8, 4, .ro, 0x0, 0, 0xf⟩]⟩,
  ⟨Reg.QUE_PWR, [⟨0, 2, .ro, 0x0, 0, 0x3⟩, ⟨2, 1, .ro, 0x0, 0, 0x1⟩, ⟨3, 1, .ro, 0x0, 0, 0x1⟩, ⟨4, 2, .ro, 0x0, 0, 0x3⟩]⟩,
  ⟨Reg.QUE_CNT_LENREJ, [⟨0, 32, .ro, 0x0, 0, 0xffffffff⟩]⟩,
  ⟨Reg.QUE_CNT_DESCREJ, [⟨0, 32, .ro, 0x0, 0, 0xffffffff⟩]⟩,
  ⟨Reg.QUE_CNT_DEFER, [⟨0, 32, .ro, 0x0, 0, 0xffffffff⟩]⟩,
  ⟨Reg.QUE_CNT_ABORT, [⟨0, 16, .ro, 0x0, 0, 0xffff⟩, ⟨16, 16, .ro, 0x0, 0, 0xffff⟩]⟩,
  ⟨Reg.QUE_FNQ, [⟨0, 12, .ro, 0x0, 0, 0xfff⟩, ⟨16, 13, .ro, 0x0, 0, 0x1000⟩]⟩,
  ⟨Reg.QUE_FNCTX, [⟨0, 12, .rw, 0x10, 0, 0xfff⟩, ⟨16, 12, .rw, 0x40, 0, 0xfff⟩]⟩,
  ⟨Reg.QUE_FNARB, [⟨0, 6, .rw, 0x8, 0, 0x3f⟩]⟩,
  ⟨Reg.QUE_FNUSE, [⟨0, 17, .ro, 0x0, 0, 0x1ffff⟩, ⟨17, 1, .ro, 0x0, 0, 0x1⟩, ⟨18, 1, .ro, 0x0, 0, 0x1⟩]⟩]

/-! ### TEN block (chapter 05 R161) -/
def Reg.TEN_CAP : Reg := ⟨Blk.TEN, 0x0, 0x0, 1⟩
def Fd.TEN_CAP_PRESENT : Fd := ⟨Reg.TEN_CAP, 0, 1⟩
def Fd.TEN_CAP_INSTANCES : Fd := ⟨Reg.TEN_CAP, 8, 8⟩
def Reg.TEN_CFG : Reg := ⟨Blk.TEN, 0x4, 0x0, 1⟩
def Fd.TEN_CFG_SKEW : Fd := ⟨Reg.TEN_CFG, 0, 7⟩
def Reg.TEN_DEGRADE : Reg := ⟨Blk.TEN, 0x8, 0x0, 1⟩
def Fd.TEN_DEGRADE_FACTOR : Fd := ⟨Reg.TEN_DEGRADE, 0, 11⟩
def Fd.TEN_DEGRADE_ACTIVE : Fd := ⟨Reg.TEN_DEGRADE, 11, 1⟩
def Fd.TEN_DEGRADE_SLICE : Fd := ⟨Reg.TEN_DEGRADE, 12, 2⟩
def Fd.TEN_DEGRADE_CHANGES : Fd := ⟨Reg.TEN_DEGRADE, 16, 16⟩
def Reg.TEN_ADMIT : Reg := ⟨Blk.TEN, 0xc, 0x0, 1⟩
def Fd.TEN_ADMIT_TEST : Fd := ⟨Reg.TEN_ADMIT, 0, 3⟩
def Fd.TEN_ADMIT_SLICE : Fd := ⟨Reg.TEN_ADMIT, 4, 2⟩
def Fd.TEN_ADMIT_TENANT : Fd := ⟨Reg.TEN_ADMIT, 8, 8⟩
def Fd.TEN_ADMIT_VALID : Fd := ⟨Reg.TEN_ADMIT, 31, 1⟩
def Reg.TEN_COST : Reg := ⟨Blk.TEN, 0x10, 0x4, 4⟩
def Fd.TEN_COST_READ : Fd := ⟨Reg.TEN_COST, 0, 8⟩
def Fd.TEN_COST_PROG : Fd := ⟨Reg.TEN_COST, 16, 12⟩
def Reg.TEN_FNMAP : Reg := ⟨Blk.TEN, 0x400, 0x4, 256⟩
def Fd.TEN_FNMAP_TENANT : Fd := ⟨Reg.TEN_FNMAP, 0, 8⟩
def Reg.TEN_NSOWN : Reg := ⟨Blk.TEN, 0x1000, 0x4, 1024⟩
def Fd.TEN_NSOWN_TENANT : Fd := ⟨Reg.TEN_NSOWN, 0, 8⟩
def Reg.TEN_RIOPS : Reg := ⟨Blk.TEN, 0x2000, 0x20, 256⟩
def Fd.TEN_RIOPS_IOPS : Fd := ⟨Reg.TEN_RIOPS, 0, 32⟩
def Reg.TEN_BW : Reg := ⟨Blk.TEN, 0x2004, 0x20, 256⟩
def Fd.TEN_BW_READ : Fd := ⟨Reg.TEN_BW, 0, 16⟩
def Fd.TEN_BW_WRITE : Fd := ⟨Reg.TEN_BW, 16, 16⟩
def Reg.TEN_CEIL : Reg := ⟨Blk.TEN, 0x2008, 0x20, 256⟩
def Fd.TEN_CEIL_BEATS : Fd := ⟨Reg.TEN_CEIL, 0, 16⟩
def Fd.TEN_CEIL_PUB : Fd := ⟨Reg.TEN_CEIL, 16, 16⟩
def Reg.TEN_QUOTA : Reg := ⟨Blk.TEN, 0x200c, 0x20, 256⟩
def Fd.TEN_QUOTA_UNITS : Fd := ⟨Reg.TEN_QUOTA, 0, 24⟩
def Reg.TEN_MISS : Reg := ⟨Blk.TEN, 0x2010, 0x20, 256⟩
def Fd.TEN_MISS_COUNT : Fd := ⟨Reg.TEN_MISS, 0, 32⟩
def Reg.TEN_MISSTOT : Reg := ⟨Blk.TEN, 0x2014, 0x20, 256⟩
def Fd.TEN_MISSTOT_COUNT : Fd := ⟨Reg.TEN_MISSTOT, 0, 32⟩
/-- The rows of block TEN (05 R161). -/
def regRowsTEN : List RegRow := [
  ⟨Reg.TEN_CAP, [⟨0, 1, .ro, 0x1, 0, 0x1⟩, ⟨8, 8, .ro, 0x4, 0, 0xff⟩]⟩,
  ⟨Reg.TEN_CFG, [⟨0, 7, .rw, 0x50, 64, 0x7f⟩]⟩,
  ⟨Reg.TEN_DEGRADE, [⟨0, 11, .ro, 0x400, 0, 0x7ff⟩, ⟨11, 1, .ro, 0x0, 0, 0x1⟩, ⟨12, 2, .ro, 0x0, 0, 0x3⟩, ⟨16, 16, .ro, 0x0, 0, 0xffff⟩]⟩,
  ⟨Reg.TEN_ADMIT, [⟨0, 3, .ro, 0x0, 0, 0x7⟩, ⟨4, 2, .ro, 0x0, 0, 0x3⟩, ⟨8, 8, .ro, 0x0, 0, 0xff⟩, ⟨31, 1, .w1c, 0x0, 0, 0x1⟩]⟩,
  ⟨Reg.TEN_COST, [⟨0, 8, .rw, 0x0, 1, 0xff⟩, ⟨16, 12, .rw, 0x0, 1, 0xfff⟩]⟩,
  ⟨Reg.TEN_FNMAP, [⟨0, 8, .rw, 0x0, 0, 0xff⟩]⟩,
  ⟨Reg.TEN_NSOWN, [⟨0, 8, .rw, 0x0, 0, 0xff⟩]⟩,
  ⟨Reg.TEN_RIOPS, [⟨0, 32, .rw, 0x0, 0, 0xffffffff⟩]⟩,
  ⟨Reg.TEN_BW, [⟨0, 16, .rw, 0x0, 0, 0xffff⟩, ⟨16, 16, .rw, 0x0, 0, 0xffff⟩]⟩,
  ⟨Reg.TEN_CEIL, [⟨0, 16, .rw, 0x0, 0, 0xffff⟩, ⟨16, 16, .ro, 0x0, 0, 0xffff⟩]⟩,
  ⟨Reg.TEN_QUOTA, [⟨0, 24, .rw, 0x0, 0, 0xffffff⟩]⟩,
  ⟨Reg.TEN_MISS, [⟨0, 32, .rc, 0x0, 0, 0xffffffff⟩]⟩,
  ⟨Reg.TEN_MISSTOT, [⟨0, 32, .ro, 0x0, 0, 0xffffffff⟩]⟩]

/-! ### MAP block (chapter 06 R195) -/
def Reg.MAP_CAP : Reg := ⟨Blk.MAP, 0x0, 0x0, 1⟩
def Fd.MAP_CAP_PRESENT : Fd := ⟨Reg.MAP_CAP, 0, 1⟩
def Fd.MAP_CAP_INSTANCES : Fd := ⟨Reg.MAP_CAP, 8, 8⟩
def Reg.MAP_TARTS_LO : Reg := ⟨Blk.MAP, 0x4, 0x0, 1⟩
def Fd.MAP_TARTS_LO_COUNT : Fd := ⟨Reg.MAP_TARTS_LO, 0, 32⟩
def Reg.MAP_TARTS_HI : Reg := ⟨Blk.MAP, 0x8, 0x0, 1⟩
def Fd.MAP_TARTS_HI_COUNT : Fd := ⟨Reg.MAP_TARTS_HI, 0, 3⟩
def Reg.MAP_BASE : Reg := ⟨Blk.MAP, 0xc, 0x0, 1⟩
def Fd.MAP_BASE_BASE : Fd := ⟨Reg.MAP_BASE, 0, 32⟩
def Reg.MAP_WBSTAT : Reg := ⟨Blk.MAP, 0x10, 0x0, 1⟩
def Fd.MAP_WBSTAT_UNITS : Fd := ⟨Reg.MAP_WBSTAT, 0, 17⟩
def Fd.MAP_WBSTAT_FULL : Fd := ⟨Reg.MAP_WBSTAT, 31, 1⟩
def Reg.MAP_RACFG : Reg := ⟨Blk.MAP, 0x14, 0x0, 1⟩
def Fd.MAP_RACFG_EN : Fd := ⟨Reg.MAP_RACFG, 0, 1⟩
def Fd.MAP_RACFG_TRIGGER : Fd := ⟨Reg.MAP_RACFG, 1, 4⟩
def Fd.MAP_RACFG_DEPTH : Fd := ⟨Reg.MAP_RACFG, 8, 5⟩
def Fd.MAP_RACFG_LIFE : Fd := ⟨Reg.MAP_RACFG, 16, 12⟩
def Reg.MAP_PREDCFG : Reg := ⟨Blk.MAP, 0x18, 0x0, 1⟩
def Fd.MAP_PREDCFG_EN : Fd := ⟨Reg.MAP_PREDCFG, 0, 1⟩
def Fd.MAP_PREDCFG_THRESH : Fd := ⟨Reg.MAP_PREDCFG, 16, 13⟩
def Reg.MAP_WATCH : Reg := ⟨Blk.MAP, 0x1c, 0x0, 1⟩
def Fd.MAP_WATCH_FREE_CMD : Fd := ⟨Reg.MAP_WATCH, 0, 15⟩
def Fd.MAP_WATCH_FREE_RA : Fd := ⟨Reg.MAP_WATCH, 16, 16⟩
def Reg.MAP_CNT_SPECFAIL : Reg := ⟨Blk.MAP, 0x20, 0x0, 1⟩
def Fd.MAP_CNT_SPECFAIL_COUNT : Fd := ⟨Reg.MAP_CNT_SPECFAIL, 0, 32⟩
def Reg.MAP_CNT_RERUN : Reg := ⟨Blk.MAP, 0x24, 0x0, 1⟩
def Fd.MAP_CNT_RERUN_COUNT : Fd := ⟨Reg.MAP_CNT_RERUN, 0, 32⟩
def Reg.MAP_CNT_ETRW : Reg := ⟨Blk.MAP, 0x28, 0x0, 1⟩
def Fd.MAP_CNT_ETRW_COUNT : Fd := ⟨Reg.MAP_CNT_ETRW, 0, 32⟩
def Reg.MAP_CNT_HOLD : Reg := ⟨Blk.MAP, 0x2c, 0x0, 1⟩
def Fd.MAP_CNT_HOLD_COUNT : Fd := ⟨Reg.MAP_CNT_HOLD, 0, 32⟩
def Reg.MAP_CKPCFG : Reg := ⟨Blk.MAP, 0x30, 0x0, 1⟩
def Fd.MAP_CKPCFG_RATE : Fd := ⟨Reg.MAP_CKPCFG, 0, 8⟩
def Reg.MAP_CKPSTAT : Reg := ⟨Blk.MAP, 0x34, 0x0, 1⟩
def Fd.MAP_CKPSTAT_PASSES : Fd := ⟨Reg.MAP_CKPSTAT, 0, 16⟩
def Fd.MAP_CKPSTAT_PENDPG : Fd := ⟨Reg.MAP_CKPSTAT, 16, 12⟩
def Reg.MAP_CKPSEQ_LO : Reg := ⟨Blk.MAP, 0x38, 0x0, 1⟩
def Fd.MAP_CKPSEQ_LO_SEQ : Fd := ⟨Reg.MAP_CKPSEQ_LO, 0, 32⟩
def Reg.MAP_CKPSEQ_HI : Reg := ⟨Blk.MAP, 0x3c, 0x0, 1⟩
def Fd.MAP_CKPSEQ_HI_SEQ : Fd := ⟨Reg.MAP_CKPSEQ_HI, 0, 16⟩
def Reg.MAP_ETCFG : Reg := ⟨Blk.MAP, 0x40, 0x4, 8⟩
def Fd.MAP_ETCFG_EN : Fd := ⟨Reg.MAP_ETCFG, 0, 32⟩
def Reg.MAP_WBTEN : Reg := ⟨Blk.MAP, 0x1000, 0x4, 256⟩
def Fd.MAP_WBTEN_RES : Fd := ⟨Reg.MAP_WBTEN, 0, 12⟩
def Fd.MAP_WBTEN_CAP : Fd := ⟨Reg.MAP_WBTEN, 16, 12⟩
/-- The rows of block MAP (06 R195). -/
def regRowsMAP : List RegRow := [
  ⟨Reg.MAP_CAP, [⟨0, 1, .ro, 0x1, 0, 0x1⟩, ⟨8, 8, .ro, 0x1, 0, 0xff⟩]⟩,
  ⟨Reg.MAP_TARTS_LO, [⟨0, 32, .ro, 0x0, 0, 0xffffffff⟩]⟩,
  ⟨Reg.MAP_TARTS_HI, [⟨0, 3, .ro, 0x0, 0, 0x7⟩]⟩,
  ⟨Reg.MAP_BASE, [⟨0, 32, .ro, 0x0, 0, 0xffffffff⟩]⟩,
  ⟨Reg.MAP_WBSTAT, [⟨0, 17, .ro, 0x0, 0, 0x1ffff⟩, ⟨31, 1, .ro, 0x0, 0, 0x1⟩]⟩,
  ⟨Reg.MAP_RACFG, [⟨0, 1, .rw, 0x1, 0, 0x1⟩, ⟨1, 4, .rw, 0x3, 2, 0xf⟩, ⟨8, 5, .rw, 0x4, 1, 0x10⟩, ⟨16, 12, .rw, 0xfa, 25, 0xfa0⟩]⟩,
  ⟨Reg.MAP_PREDCFG, [⟨0, 1, .rw, 0x1, 0, 0x1⟩, ⟨16, 13, .rw, 0x7d0, 0, 0x1fff⟩]⟩,
  ⟨Reg.MAP_WATCH, [⟨0, 15, .ro, 0x4000, 0, 0x7fff⟩, ⟨16, 16, .ro, 0x8000, 0, 0xffff⟩]⟩,
  ⟨Reg.MAP_CNT_SPECFAIL, [⟨0, 32, .ro, 0x0, 0, 0xffffffff⟩]⟩,
  ⟨Reg.MAP_CNT_RERUN, [⟨0, 32, .ro, 0x0, 0, 0xffffffff⟩]⟩,
  ⟨Reg.MAP_CNT_ETRW, [⟨0, 32, .ro, 0x0, 0, 0xffffffff⟩]⟩,
  ⟨Reg.MAP_CNT_HOLD, [⟨0, 32, .ro, 0x0, 0, 0xffffffff⟩]⟩,
  ⟨Reg.MAP_CKPCFG, [⟨0, 8, .rw, 0x20, 1, 0xff⟩]⟩,
  ⟨Reg.MAP_CKPSTAT, [⟨0, 16, .ro, 0x0, 0, 0xffff⟩, ⟨16, 12, .ro, 0x0, 0, 0xfff⟩]⟩,
  ⟨Reg.MAP_CKPSEQ_LO, [⟨0, 32, .ro, 0x0, 0, 0xffffffff⟩]⟩,
  ⟨Reg.MAP_CKPSEQ_HI, [⟨0, 16, .ro, 0x0, 0, 0xffff⟩]⟩,
  ⟨Reg.MAP_ETCFG, [⟨0, 32, .rw, 0x0, 0, 0xffffffff⟩]⟩,
  ⟨Reg.MAP_WBTEN, [⟨0, 12, .rw, 0x10, 0, 0xfff⟩, ⟨16, 12, .rw, 0x80, 0, 0xfff⟩]⟩]

/-! ### MED block (chapter 07 R230) -/
def Reg.MED_CAP : Reg := ⟨Blk.MED, 0x0, 0x0, 1⟩
def Fd.MED_CAP_PRESENT : Fd := ⟨Reg.MED_CAP, 0, 1⟩
def Fd.MED_CAP_INSTANCES : Fd := ⟨Reg.MED_CAP, 8, 8⟩
def Reg.MED_SBCFG : Reg := ⟨Blk.MED, 0x4, 0x0, 1⟩
def Fd.MED_SBCFG_WIDTH : Fd := ⟨Reg.MED_SBCFG, 0, 5⟩
def Reg.MED_GCCFG : Reg := ⟨Blk.MED, 0x8, 0x0, 1⟩
def Fd.MED_GCCFG_START : Fd := ⟨Reg.MED_GCCFG, 0, 10⟩
def Fd.MED_GCCFG_STOP : Fd := ⟨Reg.MED_GCCFG, 16, 10⟩
def Reg.MED_WLCFG : Reg := ⟨Blk.MED, 0xc, 0x0, 1⟩
def Fd.MED_WLCFG_SPREAD : Fd := ⟨Reg.MED_WLCFG, 0, 16⟩
def Reg.MED_RFSCFG : Reg := ⟨Blk.MED, 0x10, 0x0, 1⟩
def Fd.MED_RFSCFG_CBTHR : Fd := ⟨Reg.MED_RFSCFG, 0, 10⟩
def Fd.MED_RFSCFG_RETRY : Fd := ⟨Reg.MED_RFSCFG, 16, 4⟩
def Reg.MED_RFSAGE : Reg := ⟨Blk.MED, 0x14, 0x0, 1⟩
def Fd.MED_RFSAGE_AGE : Fd := ⟨Reg.MED_RFSAGE, 0, 10⟩
def Fd.MED_RFSAGE_DISTURB : Fd := ⟨Reg.MED_RFSAGE, 16, 16⟩
def Reg.MED_RSVCFG : Reg := ⟨Blk.MED, 0x18, 0x0, 1⟩
def Fd.MED_RSVCFG_DIERSV : Fd := ⟨Reg.MED_RSVCFG, 0, 8⟩
def Fd.MED_RSVCFG_SLCBLK : Fd := ⟨Reg.MED_RSVCFG, 8, 8⟩
def Reg.MED_SEALCFG : Reg := ⟨Blk.MED, 0x1c, 0x0, 1⟩
def Fd.MED_SEALCFG_MARGIN : Fd := ⟨Reg.MED_SEALCFG, 0, 16⟩
def Fd.MED_SEALCFG_HYST : Fd := ⟨Reg.MED_SEALCFG, 16, 16⟩
def Reg.MED_SEAL : Reg := ⟨Blk.MED, 0x20, 0x0, 1⟩
def Fd.MED_SEAL_STATE : Fd := ⟨Reg.MED_SEAL, 0, 1⟩
def Fd.MED_SEAL_ENTRIES : Fd := ⟨Reg.MED_SEAL, 16, 16⟩
def Reg.MED_USABLE : Reg := ⟨Blk.MED, 0x24, 0x0, 1⟩
def Fd.MED_USABLE_UNITS : Fd := ⟨Reg.MED_USABLE, 0, 26⟩
def Reg.MED_VALID : Reg := ⟨Blk.MED, 0x28, 0x0, 1⟩
def Fd.MED_VALID_UNITS : Fd := ⟨Reg.MED_VALID, 0, 26⟩
def Reg.MED_FREE : Reg := ⟨Blk.MED, 0x2c, 0x0, 1⟩
def Fd.MED_FREE_UNITS : Fd := ⟨Reg.MED_FREE, 0, 26⟩
def Reg.MED_USABLE0 : Reg := ⟨Blk.MED, 0x30, 0x0, 1⟩
def Fd.MED_USABLE0_UNITS : Fd := ⟨Reg.MED_USABLE0, 0, 26⟩
def Reg.MED_ENDUR0 : Reg := ⟨Blk.MED, 0x34, 0x0, 1⟩
def Fd.MED_ENDUR0_TLC : Fd := ⟨Reg.MED_ENDUR0, 0, 16⟩
def Fd.MED_ENDUR0_QLC : Fd := ⟨Reg.MED_ENDUR0, 16, 16⟩
def Reg.MED_ENDUR1 : Reg := ⟨Blk.MED, 0x38, 0x0, 1⟩
def Fd.MED_ENDUR1_SLC : Fd := ⟨Reg.MED_ENDUR1, 0, 16⟩
def Reg.MED_HEALTH : Reg := ⟨Blk.MED, 0x3c, 0x0, 1⟩
def Fd.MED_HEALTH_SPARE : Fd := ⟨Reg.MED_HEALTH, 0, 7⟩
def Fd.MED_HEALTH_THRESH : Fd := ⟨Reg.MED_HEALTH, 8, 7⟩
def Fd.MED_HEALTH_USED : Fd := ⟨Reg.MED_HEALTH, 16, 8⟩
def Fd.MED_HEALTH_OVERBUDGET : Fd := ⟨Reg.MED_HEALTH, 24, 1⟩
def Fd.MED_HEALTH_LOST : Fd := ⟨Reg.MED_HEALTH, 25, 1⟩
def Reg.MED_RETCFG : Reg := ⟨Blk.MED, 0x40, 0x0, 1⟩
def Fd.MED_RETCFG_DIEPCT : Fd := ⟨Reg.MED_RETCFG, 0, 5⟩
def Fd.MED_RETCFG_NORESP : Fd := ⟨Reg.MED_RETCFG, 8, 4⟩
def Reg.MED_RETSTAT : Reg := ⟨Blk.MED, 0x44, 0x0, 1⟩
def Fd.MED_RETSTAT_DIES : Fd := ⟨Reg.MED_RETSTAT, 0, 11⟩
def Fd.MED_RETSTAT_CHANNELS : Fd := ⟨Reg.MED_RETSTAT, 16, 6⟩
def Reg.MED_GCSTAT : Reg := ⟨Blk.MED, 0x48, 0x0, 1⟩
def Fd.MED_GCSTAT_ACTIVE : Fd := ⟨Reg.MED_GCSTAT, 0, 4⟩
def Fd.MED_GCSTAT_LACKING : Fd := ⟨Reg.MED_GCSTAT, 16, 16⟩
def Reg.MED_RFSSTAT : Reg := ⟨Blk.MED, 0x4c, 0x0, 1⟩
def Fd.MED_RFSSTAT_QUEUED : Fd := ⟨Reg.MED_RFSSTAT, 0, 13⟩
def Fd.MED_RFSSTAT_DISPLACED : Fd := ⟨Reg.MED_RFSSTAT, 16, 16⟩
def Reg.MED_CNT_PFAIL : Reg := ⟨Blk.MED, 0x50, 0x0, 1⟩
def Fd.MED_CNT_PFAIL_COUNT : Fd := ⟨Reg.MED_CNT_PFAIL, 0, 32⟩
def Reg.MED_CNT_EFAIL : Reg := ⟨Blk.MED, 0x54, 0x0, 1⟩
def Fd.MED_CNT_EFAIL_COUNT : Fd := ⟨Reg.MED_CNT_EFAIL, 0, 32⟩
def Reg.MED_CNT_GCFAIL : Reg := ⟨Blk.MED, 0x58, 0x0, 1⟩
def Fd.MED_CNT_GCFAIL_COUNT : Fd := ⟨Reg.MED_CNT_GCFAIL, 0, 32⟩
def Reg.MED_CNT_RFS : Reg := ⟨Blk.MED, 0x5c, 0x0, 1⟩
def Fd.MED_CNT_RFS_COUNT : Fd := ⟨Reg.MED_CNT_RFS, 0, 32⟩
def Reg.MED_CNT_LOST : Reg := ⟨Blk.MED, 0x60, 0x0, 1⟩
def Fd.MED_CNT_LOST_COUNT : Fd := ⟨Reg.MED_CNT_LOST, 0, 32⟩
def Reg.MED_GEOM : Reg := ⟨Blk.MED, 0x80, 0x4, 4⟩
def Fd.MED_GEOM_PGBITS : Fd := ⟨Reg.MED_GEOM, 0, 4⟩
def Fd.MED_GEOM_PPB : Fd := ⟨Reg.MED_GEOM, 4, 12⟩
def Fd.MED_GEOM_BPP : Fd := ⟨Reg.MED_GEOM, 16, 15⟩
def Fd.MED_GEOM_VALID : Fd := ⟨Reg.MED_GEOM, 31, 1⟩
def Reg.MED_CHSTAT : Reg := ⟨Blk.MED, 0x100, 0x4, 32⟩
def Fd.MED_CHSTAT_RETIRED : Fd := ⟨Reg.MED_CHSTAT, 0, 1⟩
def Fd.MED_CHSTAT_DIES : Fd := ⟨Reg.MED_CHSTAT, 8, 6⟩
def Reg.MED_DIESTAT : Reg := ⟨Blk.MED, 0x1000, 0x4, 1024⟩
def Fd.MED_DIESTAT_STATE : Fd := ⟨Reg.MED_DIESTAT, 0, 2⟩
def Fd.MED_DIESTAT_TYPE : Fd := ⟨Reg.MED_DIESTAT, 2, 2⟩
def Fd.MED_DIESTAT_FREE : Fd := ⟨Reg.MED_DIESTAT, 4, 12⟩
def Fd.MED_DIESTAT_RETBLK : Fd := ⟨Reg.MED_DIESTAT, 16, 12⟩
/-- The rows of block MED (07 R230). -/
def regRowsMED : List RegRow := [
  ⟨Reg.MED_CAP, [⟨0, 1, .ro, 0x1, 0, 0x1⟩, ⟨8, 8, .ro, 0x20, 0, 0xff⟩]⟩,
  ⟨Reg.MED_SBCFG, [⟨0, 5, .rw, 0x10, 3, 0x10⟩]⟩,
  ⟨Reg.MED_GCCFG, [⟨0, 10, .rw, 0x29, 0, 0x3ff⟩, ⟨16, 10, .rw, 0x3d, 0, 0x3ff⟩]⟩,
  ⟨Reg.MED_WLCFG, [⟨0, 16, .rw, 0xc8, 0, 0xffff⟩]⟩,
  ⟨Reg.MED_RFSCFG, [⟨0, 10, .rw, 0x78, 0, 0x3ff⟩, ⟨16, 4, .rw, 0x4, 0, 0xf⟩]⟩,
  ⟨Reg.MED_RFSAGE, [⟨0, 10, .rw, 0x5a, 0, 0x3ff⟩, ⟨16, 16, .rw, 0x62, 0, 0xffff⟩]⟩,
  ⟨Reg.MED_RSVCFG, [⟨0, 8, .ro, 0x0, 0, 0xff⟩, ⟨8, 8, .ro, 0x0, 0, 0xff⟩]⟩,
  ⟨Reg.MED_SEALCFG, [⟨0, 16, .rw, 0x100, 256, 0xffff⟩, ⟨16, 16, .rw, 0x100, 1, 0xffff⟩]⟩,
  ⟨Reg.MED_SEAL, [⟨0, 1, .ro, 0x0, 0, 0x1⟩, ⟨16, 16, .ro, 0x0, 0, 0xffff⟩]⟩,
  ⟨Reg.MED_USABLE, [⟨0, 26, .ro, 0x0, 0, 0x3ffffff⟩]⟩,
  ⟨Reg.MED_VALID, [⟨0, 26, .ro, 0x0, 0, 0x3ffffff⟩]⟩,
  ⟨Reg.MED_FREE, [⟨0, 26, .ro, 0x0, 0, 0x3ffffff⟩]⟩,
  ⟨Reg.MED_USABLE0, [⟨0, 26, .ro, 0x0, 0, 0x3ffffff⟩]⟩,
  ⟨Reg.MED_ENDUR0, [⟨0, 16, .ro, 0x0, 0, 0xffff⟩, ⟨16, 16, .ro, 0x0, 0, 0xffff⟩]⟩,
  ⟨Reg.MED_ENDUR1, [⟨0, 16, .ro, 0x0, 0, 0xffff⟩]⟩,
  ⟨Reg.MED_HEALTH, [⟨0, 7, .ro, 0x0, 0, 0x7f⟩, ⟨8, 7, .ro, 0x0, 0, 0x7f⟩, ⟨16, 8, .ro, 0x0, 0, 0xff⟩, ⟨24, 1, .ro, 0x0, 0, 0x1⟩, ⟨25, 1, .ro, 0x0, 0, 0x1⟩]⟩,
  ⟨Reg.MED_RETCFG, [⟨0, 5, .rw, 0x8, 1, 0x1f⟩, ⟨8, 4, .rw, 0x3, 1, 0xf⟩]⟩,
  ⟨Reg.MED_RETSTAT, [⟨0, 11, .ro, 0x0, 0, 0x7ff⟩, ⟨16, 6, .ro, 0x0, 0, 0x3f⟩]⟩,
  ⟨Reg.MED_GCSTAT, [⟨0, 4, .ro, 0x0, 0, 0xf⟩, ⟨16, 16, .ro, 0x0, 0, 0xffff⟩]⟩,
  ⟨Reg.MED_RFSSTAT, [⟨0, 13, .ro, 0x0, 0, 0x1fff⟩, ⟨16, 16, .rc, 0x0, 0, 0xffff⟩]⟩,
  ⟨Reg.MED_CNT_PFAIL, [⟨0, 32, .ro, 0x0, 0, 0xffffffff⟩]⟩,
  ⟨Reg.MED_CNT_EFAIL, [⟨0, 32, .ro, 0x0, 0, 0xffffffff⟩]⟩,
  ⟨Reg.MED_CNT_GCFAIL, [⟨0, 32, .ro, 0x0, 0, 0xffffffff⟩]⟩,
  ⟨Reg.MED_CNT_RFS, [⟨0, 32, .ro, 0x0, 0, 0xffffffff⟩]⟩,
  ⟨Reg.MED_CNT_LOST, [⟨0, 32, .ro, 0x0, 0, 0xffffffff⟩]⟩,
  ⟨Reg.MED_GEOM, [⟨0, 4, .ro, 0x0, 8, 13⟩, ⟨4, 12, .ro, 0x0, 0, 0xfff⟩, ⟨16, 15, .ro, 0x0, 0, 0x7fff⟩, ⟨31, 1, .ro, 0x0, 0, 0x1⟩]⟩,
  ⟨Reg.MED_CHSTAT, [⟨0, 1, .ro, 0x0, 0, 0x1⟩, ⟨8, 6, .ro, 0x0, 0, 0x3f⟩]⟩,
  ⟨Reg.MED_DIESTAT, [⟨0, 2, .ro, 0x0, 0, 0x3⟩, ⟨2, 2, .ro, 0x0, 0, 0x3⟩, ⟨4, 12, .ro, 0x0, 0, 0xfff⟩, ⟨16, 12, .ro, 0x0, 0, 0xfff⟩]⟩]

/-! ### FCH block (chapter 08 R257) -/
def Reg.FCH_CAP : Reg := ⟨Blk.FCH, 0x0, 0x0, 1⟩
def Fd.FCH_CAP_PRESENT : Fd := ⟨Reg.FCH_CAP, 0, 1⟩
def Fd.FCH_CAP_INSTANCES : Fd := ⟨Reg.FCH_CAP, 8, 8⟩
def Reg.FCH_SUSPCFG : Reg := ⟨Blk.FCH, 0x4, 0x0, 1⟩
def Fd.FCH_SUSPCFG_MINRUNP : Fd := ⟨Reg.FCH_SUSPCFG, 0, 8⟩
def Fd.FCH_SUSPCFG_MINRUNE : Fd := ⟨Reg.FCH_SUSPCFG, 8, 8⟩
def Fd.FCH_SUSPCFG_MAXP : Fd := ⟨Reg.FCH_SUSPCFG, 16, 4⟩
def Fd.FCH_SUSPCFG_MAXE : Fd := ⟨Reg.FCH_SUSPCFG, 20, 4⟩
def Fd.FCH_SUSPCFG_SUSPMAX : Fd := ⟨Reg.FCH_SUSPCFG, 24, 8⟩
def Reg.FCH_TRAINCFG : Reg := ⟨Blk.FCH, 0x8, 0x0, 1⟩
def Fd.FCH_TRAINCFG_RATE : Fd := ⟨Reg.FCH_TRAINCFG, 0, 3⟩
def Fd.FCH_TRAINCFG_ZQINT : Fd := ⟨Reg.FCH_TRAINCFG, 16, 16⟩
def Reg.FCH_UCODE : Reg := ⟨Blk.FCH, 0xc, 0x0, 1⟩
def Fd.FCH_UCODE_VERSION : Fd := ⟨Reg.FCH_UCODE, 0, 32⟩
def Reg.FCH_ERCFG : Reg := ⟨Blk.FCH, 0x10, 0x0, 1⟩
def Fd.FCH_ERCFG_THR : Fd := ⟨Reg.FCH_ERCFG, 0, 10⟩
def Fd.FCH_ERCFG_OFFSET : Fd := ⟨Reg.FCH_ERCFG, 16, 8⟩
def Reg.FCH_ERSTAT : Reg := ⟨Blk.FCH, 0x14, 0x0, 1⟩
def Fd.FCH_ERSTAT_PENDING : Fd := ⟨Reg.FCH_ERSTAT, 0, 16⟩
def Fd.FCH_ERSTAT_ABSENT : Fd := ⟨Reg.FCH_ERSTAT, 16, 16⟩
def Reg.FCH_CNT_TIMEOUT : Reg := ⟨Blk.FCH, 0x18, 0x0, 1⟩
def Fd.FCH_CNT_TIMEOUT_COUNT : Fd := ⟨Reg.FCH_CNT_TIMEOUT, 0, 32⟩
def Reg.FCH_CNT_SUSP : Reg := ⟨Blk.FCH, 0x1c, 0x0, 1⟩
def Fd.FCH_CNT_SUSP_COUNT : Fd := ⟨Reg.FCH_CNT_SUSP, 0, 32⟩
def Reg.FCH_CNT_TRAINFAIL : Reg := ⟨Blk.FCH, 0x20, 0x0, 1⟩
def Fd.FCH_CNT_TRAINFAIL_COUNT : Fd := ⟨Reg.FCH_CNT_TRAINFAIL, 0, 32⟩
def Reg.FCH_TIMA : Reg := ⟨Blk.FCH, 0x40, 0x8, 4⟩
def Fd.FCH_TIMA_READ : Fd := ⟨Reg.FCH_TIMA, 0, 8⟩
def Fd.FCH_TIMA_PROG : Fd := ⟨Reg.FCH_TIMA, 8, 12⟩
def Fd.FCH_TIMA_SUSP : Fd := ⟨Reg.FCH_TIMA, 20, 8⟩
def Reg.FCH_TIMB : Reg := ⟨Blk.FCH, 0x44, 0x8, 4⟩
def Fd.FCH_TIMB_ERASE : Fd := ⟨Reg.FCH_TIMB, 0, 16⟩
def Reg.FCH_CHSTAT : Reg := ⟨Blk.FCH, 0x100, 0x4, 32⟩
def Fd.FCH_CHSTAT_STATE : Fd := ⟨Reg.FCH_CHSTAT, 0, 2⟩
def Fd.FCH_CHSTAT_TOGGLE : Fd := ⟨Reg.FCH_CHSTAT, 2, 1⟩
def Fd.FCH_CHSTAT_RATE : Fd := ⟨Reg.FCH_CHSTAT, 4, 3⟩
def Fd.FCH_CHSTAT_DIES : Fd := ⟨Reg.FCH_CHSTAT, 16, 6⟩
/-- The rows of block FCH (08 R257). -/
def regRowsFCH : List RegRow := [
  ⟨Reg.FCH_CAP, [⟨0, 1, .ro, 0x1, 0, 0x1⟩, ⟨8, 8, .ro, 0x20, 0, 0xff⟩]⟩,
  ⟨Reg.FCH_SUSPCFG, [⟨0, 8, .rw, 0x19, 0, 0xff⟩, ⟨8, 8, .rw, 0x7d, 0, 0xff⟩, ⟨16, 4, .rw, 0x4, 0, 0xf⟩, ⟨20, 4, .rw, 0x8, 0, 0xf⟩, ⟨24, 8, .rw, 0x64, 0, 0xff⟩]⟩,
  ⟨Reg.FCH_TRAINCFG, [⟨0, 3, .rw, 0x4, 0, 0x4⟩, ⟨16, 16, .rw, 0x3e8, 1, 0xffff⟩]⟩,
  ⟨Reg.FCH_UCODE, [⟨0, 32, .ro, 0x0, 0, 0xffffffff⟩]⟩,
  ⟨Reg.FCH_ERCFG, [⟨0, 10, .rw, 0x10, 0, 0x3ff⟩, ⟨16, 8, .rw, 0x8, 0, 0xff⟩]⟩,
  ⟨Reg.FCH_ERSTAT, [⟨0, 16, .ro, 0x0, 0, 0xffff⟩, ⟨16, 16, .ro, 0x0, 0, 0xffff⟩]⟩,
  ⟨Reg.FCH_CNT_TIMEOUT, [⟨0, 32, .ro, 0x0, 0, 0xffffffff⟩]⟩,
  ⟨Reg.FCH_CNT_SUSP, [⟨0, 32, .ro, 0x0, 0, 0xffffffff⟩]⟩,
  ⟨Reg.FCH_CNT_TRAINFAIL, [⟨0, 32, .ro, 0x0, 0, 0xffffffff⟩]⟩,
  ⟨Reg.FCH_TIMA, [⟨0, 8, .ro, 0x0, 0, 0xff⟩, ⟨8, 12, .ro, 0x0, 0, 0xfff⟩, ⟨20, 8, .ro, 0x0, 0, 0xff⟩]⟩,
  ⟨Reg.FCH_TIMB, [⟨0, 16, .ro, 0x0, 0, 0xffff⟩]⟩,
  ⟨Reg.FCH_CHSTAT, [⟨0, 2, .ro, 0x0, 0, 0x3⟩, ⟨2, 1, .ro, 0x0, 0, 0x1⟩, ⟨4, 3, .ro, 0x0, 0, 0x7⟩, ⟨16, 6, .ro, 0x0, 0, 0x3f⟩]⟩]

/-! ### CTG block (chapter 08 R258) -/
def Reg.CTG_CAP : Reg := ⟨Blk.CTG, 0x0, 0x0, 1⟩
def Fd.CTG_CAP_PRESENT : Fd := ⟨Reg.CTG_CAP, 0, 1⟩
def Fd.CTG_CAP_INSTANCES : Fd := ⟨Reg.CTG_CAP, 8, 8⟩
def Reg.CTG_CFG : Reg := ⟨Blk.CTG, 0x4, 0x0, 1⟩
def Fd.CTG_CFG_AUTOON : Fd := ⟨Reg.CTG_CFG, 0, 1⟩
def Fd.CTG_CFG_DEBOUNCE : Fd := ⟨Reg.CTG_CFG, 8, 8⟩
def Fd.CTG_CFG_PGTIMEOUT : Fd := ⟨Reg.CTG_CFG, 16, 8⟩
def Fd.CTG_CFG_ABORTWIN : Fd := ⟨Reg.CTG_CFG, 24, 8⟩
def Reg.CTG_STAT : Reg := ⟨Blk.CTG, 0x8, 0x0, 1⟩
def Fd.CTG_STAT_REBUILD : Fd := ⟨Reg.CTG_STAT, 0, 1⟩
def Fd.CTG_STAT_LACKSLOTS : Fd := ⟨Reg.CTG_STAT, 16, 16⟩
def Reg.CTG_SLOTSTAT : Reg := ⟨Blk.CTG, 0x100, 0x10, 16⟩
def Fd.CTG_SLOTSTAT_STATE : Fd := ⟨Reg.CTG_SLOTSTAT, 0, 3⟩
def Fd.CTG_SLOTSTAT_PRSNT : Fd := ⟨Reg.CTG_SLOTSTAT, 3, 1⟩
def Fd.CTG_SLOTSTAT_PWREN : Fd := ⟨Reg.CTG_SLOTSTAT, 4, 1⟩
def Fd.CTG_SLOTSTAT_PWRGD : Fd := ⟨Reg.CTG_SLOTSTAT, 5, 1⟩
def Fd.CTG_SLOTSTAT_PWRFLT : Fd := ⟨Reg.CTG_SLOTSTAT, 6, 1⟩
def Fd.CTG_SLOTSTAT_BTN : Fd := ⟨Reg.CTG_SLOTSTAT, 7, 1⟩
def Fd.CTG_SLOTSTAT_PWRIND : Fd := ⟨Reg.CTG_SLOTSTAT, 8, 2⟩
def Fd.CTG_SLOTSTAT_ATTNIND : Fd := ⟨Reg.CTG_SLOTSTAT, 10, 2⟩
def Fd.CTG_SLOTSTAT_CAUSE : Fd := ⟨Reg.CTG_SLOTSTAT, 12, 2⟩
def Fd.CTG_SLOTSTAT_DIES : Fd := ⟨Reg.CTG_SLOTSTAT, 16, 7⟩
def Reg.CTG_SLOTCTRL : Reg := ⟨Blk.CTG, 0x104, 0x10, 16⟩
def Fd.CTG_SLOTCTRL_REQON : Fd := ⟨Reg.CTG_SLOTCTRL, 0, 1⟩
def Fd.CTG_SLOTCTRL_REQOFF : Fd := ⟨Reg.CTG_SLOTCTRL, 1, 1⟩
def Fd.CTG_SLOTCTRL_CANCEL : Fd := ⟨Reg.CTG_SLOTCTRL, 2, 1⟩
def Fd.CTG_SLOTCTRL_LOCATE : Fd := ⟨Reg.CTG_SLOTCTRL, 3, 1⟩
def Reg.CTG_SLOTCNT : Reg := ⟨Blk.CTG, 0x108, 0x10, 16⟩
def Fd.CTG_SLOTCNT_INSERT : Fd := ⟨Reg.CTG_SLOTCNT, 0, 16⟩
def Fd.CTG_SLOTCNT_SURPRISE : Fd := ⟨Reg.CTG_SLOTCNT, 16, 16⟩
/-- The rows of block CTG (08 R258). -/
def regRowsCTG : List RegRow := [
  ⟨Reg.CTG_CAP, [⟨0, 1, .ro, 0x1, 0, 0x1⟩, ⟨8, 8, .ro, 0x10, 0, 0xff⟩]⟩,
  ⟨Reg.CTG_CFG, [⟨0, 1, .rw, 0x0, 0, 0x1⟩, ⟨8, 8, .rw, 0x64, 1, 0xff⟩, ⟨16, 8, .rw, 0x64, 1, 0xff⟩, ⟨24, 8, .rw, 0x32, 0, 0xff⟩]⟩,
  ⟨Reg.CTG_STAT, [⟨0, 1, .ro, 0x0, 0, 0x1⟩, ⟨16, 16, .ro, 0x0, 0, 0xffff⟩]⟩,
  ⟨Reg.CTG_SLOTSTAT, [⟨0, 3, .ro, 0x0, 0, 0x7⟩, ⟨3, 1, .ro, 0x0, 0, 0x1⟩, ⟨4, 1, .ro, 0x0, 0, 0x1⟩, ⟨5, 1, .ro, 0x0, 0, 0x1⟩, ⟨6, 1, .w1c, 0x0, 0, 0x1⟩, ⟨7, 1, .rc, 0x0, 0, 0x1⟩, ⟨8, 2, .ro, 0x0, 0, 0x3⟩, ⟨10, 2, .ro, 0x0, 0, 0x3⟩, ⟨12, 2, .ro, 0x0, 0, 0x3⟩, ⟨16, 7, .ro, 0x0, 0, 0x7f⟩]⟩,
  ⟨Reg.CTG_SLOTCTRL, [⟨0, 1, .w1s, 0x0, 0, 0x1⟩, ⟨1, 1, .w1s, 0x0, 0, 0x1⟩, ⟨2, 1, .w1s, 0x0, 0, 0x1⟩, ⟨3, 1, .rw, 0x0, 0, 0x1⟩]⟩,
  ⟨Reg.CTG_SLOTCNT, [⟨0, 16, .ro, 0x0, 0, 0xffff⟩, ⟨16, 16, .ro, 0x0, 0, 0xffff⟩]⟩]

/-! ### ECC block (chapter 09 R286) -/
def Reg.ECC_CAP : Reg := ⟨Blk.ECC, 0x0, 0x0, 1⟩
def Fd.ECC_CAP_PRESENT : Fd := ⟨Reg.ECC_CAP, 0, 1⟩
def Fd.ECC_CAP_INSTANCES : Fd := ⟨Reg.ECC_CAP, 8, 8⟩
def Reg.ECC_CFG : Reg := ⟨Blk.ECC, 0x4, 0x0, 1⟩
def Fd.ECC_CFG_SLCRATE : Fd := ⟨Reg.ECC_CFG, 0, 3⟩
def Fd.ECC_CFG_LADMAX : Fd := ⟨Reg.ECC_CFG, 4, 4⟩
def Fd.ECC_CFG_SOFT5 : Fd := ⟨Reg.ECC_CFG, 8, 1⟩
def Fd.ECC_CFG_ERASEDTHR : Fd := ⟨Reg.ECC_CFG, 16, 10⟩
def Reg.ECC_SOFTCFG : Reg := ⟨Blk.ECC, 0x8, 0x0, 1⟩
def Fd.ECC_SOFTCFG_DELTA : Fd := ⟨Reg.ECC_SOFTCFG, 0, 6⟩
def Reg.ECC_PATCFG : Reg := ⟨Blk.ECC, 0xc, 0x0, 1⟩
def Fd.ECC_PATCFG_PERIOD : Fd := ⟨Reg.ECC_PATCFG, 0, 3⟩
def Reg.ECC_PATSTAT : Reg := ⟨Blk.ECC, 0x10, 0x0, 1⟩
def Fd.ECC_PATSTAT_PROGRESS : Fd := ⟨Reg.ECC_PATSTAT, 0, 10⟩
def Fd.ECC_PATSTAT_LATE : Fd := ⟨Reg.ECC_PATSTAT, 10, 1⟩
def Fd.ECC_PATSTAT_NEED : Fd := ⟨Reg.ECC_PATSTAT, 16, 16⟩
def Reg.ECC_SCRUBCTRL : Reg := ⟨Blk.ECC, 0x14, 0x0, 1⟩
def Fd.ECC_SCRUBCTRL_GO : Fd := ⟨Reg.ECC_SCRUBCTRL, 0, 1⟩
def Fd.ECC_SCRUBCTRL_CANCEL : Fd := ⟨Reg.ECC_SCRUBCTRL, 1, 1⟩
def Fd.ECC_SCRUBCTRL_KIND : Fd := ⟨Reg.ECC_SCRUBCTRL, 2, 2⟩
def Fd.ECC_SCRUBCTRL_ID : Fd := ⟨Reg.ECC_SCRUBCTRL, 16, 16⟩
def Reg.ECC_SCRUBSTART_LO : Reg := ⟨Blk.ECC, 0x18, 0x0, 1⟩
def Fd.ECC_SCRUBSTART_LO_START : Fd := ⟨Reg.ECC_SCRUBSTART_LO, 0, 32⟩
def Reg.ECC_SCRUBSTART_HI : Reg := ⟨Blk.ECC, 0x1c, 0x0, 1⟩
def Fd.ECC_SCRUBSTART_HI_START : Fd := ⟨Reg.ECC_SCRUBSTART_HI, 0, 3⟩
def Reg.ECC_SCRUBCOUNT : Reg := ⟨Blk.ECC, 0x20, 0x0, 1⟩
def Fd.ECC_SCRUBCOUNT_COUNT : Fd := ⟨Reg.ECC_SCRUBCOUNT, 0, 32⟩
def Reg.ECC_SCRUBSTAT : Reg := ⟨Blk.ECC, 0x24, 0x0, 1⟩
def Fd.ECC_SCRUBSTAT_BUSY : Fd := ⟨Reg.ECC_SCRUBSTAT, 0, 1⟩
def Fd.ECC_SCRUBSTAT_DONE : Fd := ⟨Reg.ECC_SCRUBSTAT, 1, 1⟩
def Fd.ECC_SCRUBSTAT_REJECT : Fd := ⟨Reg.ECC_SCRUBSTAT, 2, 1⟩
def Fd.ECC_SCRUBSTAT_REASON : Fd := ⟨Reg.ECC_SCRUBSTAT, 4, 2⟩
def Fd.ECC_SCRUBSTAT_PROGRESS : Fd := ⟨Reg.ECC_SCRUBSTAT, 8, 8⟩
def Reg.ECC_CBMAX : Reg := ⟨Blk.ECC, 0x28, 0x0, 1⟩
def Fd.ECC_CBMAX_MAX : Fd := ⟨Reg.ECC_CBMAX, 0, 10⟩
def Fd.ECC_CBMAX_DIE : Fd := ⟨Reg.ECC_CBMAX, 16, 10⟩
def Reg.ECC_CNT_SOFT : Reg := ⟨Blk.ECC, 0x30, 0x0, 1⟩
def Fd.ECC_CNT_SOFT_COUNT : Fd := ⟨Reg.ECC_CNT_SOFT, 0, 32⟩
def Reg.ECC_CNT_LADDER : Reg := ⟨Blk.ECC, 0x34, 0x0, 1⟩
def Fd.ECC_CNT_LADDER_COUNT : Fd := ⟨Reg.ECC_CNT_LADDER, 0, 32⟩
def Reg.ECC_CNT_RECON : Reg := ⟨Blk.ECC, 0x38, 0x0, 1⟩
def Fd.ECC_CNT_RECON_COUNT : Fd := ⟨Reg.ECC_CNT_RECON, 0, 32⟩
def Reg.ECC_CNT_UNREC : Reg := ⟨Blk.ECC, 0x3c, 0x0, 1⟩
def Fd.ECC_CNT_UNREC_COUNT : Fd := ⟨Reg.ECC_CNT_UNREC, 0, 32⟩
def Reg.ECC_CNT_MISCOR : Reg := ⟨Blk.ECC, 0x40, 0x0, 1⟩
def Fd.ECC_CNT_MISCOR_COUNT : Fd := ⟨Reg.ECC_CNT_MISCOR, 0, 32⟩
def Reg.ECC_CNT_TAGERR : Reg := ⟨Blk.ECC, 0x44, 0x0, 1⟩
def Fd.ECC_CNT_TAGERR_COUNT : Fd := ⟨Reg.ECC_CNT_TAGERR, 0, 32⟩
def Reg.ECC_RAW : Reg := ⟨Blk.ECC, 0x80, 0x4, 4⟩
def Fd.ECC_RAW_BYTES : Fd := ⟨Reg.ECC_RAW, 0, 16⟩
def Fd.ECC_RAW_MAXRATE : Fd := ⟨Reg.ECC_RAW, 16, 3⟩
def Reg.ECC_SUM : Reg := ⟨Blk.ECC, 0x100, 0x4, 16⟩
def Fd.ECC_SUM_WORD : Fd := ⟨Reg.ECC_SUM, 0, 32⟩
def Reg.ECC_LADDER : Reg := ⟨Blk.ECC, 0x1000, 0x4, 256⟩
def Fd.ECC_LADDER_WORD : Fd := ⟨Reg.ECC_LADDER, 0, 32⟩
def Reg.ECC_GRPRATE : Reg := ⟨Blk.ECC, 0x4000, 0x4, 2048⟩
def Fd.ECC_GRPRATE_WORD : Fd := ⟨Reg.ECC_GRPRATE, 0, 32⟩
/-- The rows of block ECC (09 R286). -/
def regRowsECC : List RegRow := [
  ⟨Reg.ECC_CAP, [⟨0, 1, .ro, 0x1, 0, 0x1⟩, ⟨8, 8, .ro, 0x4, 0, 0xff⟩]⟩,
  ⟨Reg.ECC_CFG, [⟨0, 3, .rw, 0x0, 0, 0x7⟩, ⟨4, 4, .rw, 0xe, 1, 0xe⟩, ⟨8, 1, .rw, 0x1, 0, 0x1⟩, ⟨16, 10, .rw, 0x40, 0, 0x3ff⟩]⟩,
  ⟨Reg.ECC_SOFTCFG, [⟨0, 6, .rw, 0x6, 1, 0x3f⟩]⟩,
  ⟨Reg.ECC_PATCFG, [⟨0, 3, .rw, 0x7, 1, 0x7⟩]⟩,
  ⟨Reg.ECC_PATSTAT, [⟨0, 10, .ro, 0x0, 0, 0x3ff⟩, ⟨10, 1, .ro, 0x0, 0, 0x1⟩, ⟨16, 16, .ro, 0x0, 0, 0xffff⟩]⟩,
  ⟨Reg.ECC_SCRUBCTRL, [⟨0, 1, .w1s, 0x0, 0, 0x1⟩, ⟨1, 1, .w1s, 0x0, 0, 0x1⟩, ⟨2, 2, .rw, 0x0, 0, 0x3⟩, ⟨16, 16, .rw, 0x0, 0, 0xffff⟩]⟩,
  ⟨Reg.ECC_SCRUBSTART_LO, [⟨0, 32, .rw, 0x0, 0, 0xffffffff⟩]⟩,
  ⟨Reg.ECC_SCRUBSTART_HI, [⟨0, 3, .rw, 0x0, 0, 0x7⟩]⟩,
  ⟨Reg.ECC_SCRUBCOUNT, [⟨0, 32, .rw, 0x0, 0, 0xffffffff⟩]⟩,
  ⟨Reg.ECC_SCRUBSTAT, [⟨0, 1, .ro, 0x0, 0, 0x1⟩, ⟨1, 1, .w1c, 0x0, 0, 0x1⟩, ⟨2, 1, .w1c, 0x0, 0, 0x1⟩, ⟨4, 2, .ro, 0x0, 0, 0x3⟩, ⟨8, 8, .ro, 0x0, 0, 0xff⟩]⟩,
  ⟨Reg.ECC_CBMAX, [⟨0, 10, .rc, 0x0, 0, 0x3ff⟩, ⟨16, 10, .rc, 0x0, 0, 0x3ff⟩]⟩,
  ⟨Reg.ECC_CNT_SOFT, [⟨0, 32, .ro, 0x0, 0, 0xffffffff⟩]⟩,
  ⟨Reg.ECC_CNT_LADDER, [⟨0, 32, .ro, 0x0, 0, 0xffffffff⟩]⟩,
  ⟨Reg.ECC_CNT_RECON, [⟨0, 32, .ro, 0x0, 0, 0xffffffff⟩]⟩,
  ⟨Reg.ECC_CNT_UNREC, [⟨0, 32, .ro, 0x0, 0, 0xffffffff⟩]⟩,
  ⟨Reg.ECC_CNT_MISCOR, [⟨0, 32, .ro, 0x0, 0, 0xffffffff⟩]⟩,
  ⟨Reg.ECC_CNT_TAGERR, [⟨0, 32, .ro, 0x0, 0, 0xffffffff⟩]⟩,
  ⟨Reg.ECC_RAW, [⟨0, 16, .ro, 0x0, 0, 0xffff⟩, ⟨16, 3, .ro, 0x0, 0, 0x7⟩]⟩,
  ⟨Reg.ECC_SUM, [⟨0, 32, .ro, 0x0, 0, 0xffffffff⟩]⟩,
  ⟨Reg.ECC_LADDER, [⟨0, 8, .rw, 0x0, 0, 0xff⟩, ⟨8, 8, .rw, 0x0, 0, 0xff⟩, ⟨16, 8, .rw, 0x0, 0, 0xff⟩, ⟨24, 8, .rw, 0x0, 0, 0xff⟩]⟩,
  ⟨Reg.ECC_GRPRATE, [⟨0, 3, .rw, 0x0, 0, 0x7⟩, ⟨4, 3, .rw, 0x0, 0, 0x7⟩, ⟨8, 3, .rw, 0x0, 0, 0x7⟩, ⟨12, 3, .rw, 0x0, 0, 0x7⟩, ⟨16, 3, .rw, 0x0, 0, 0x7⟩, ⟨20, 3, .rw, 0x0, 0, 0x7⟩, ⟨24, 3, .rw, 0x0, 0, 0x7⟩, ⟨28, 3, .rw, 0x0, 0, 0x7⟩]⟩]

/-! ### RGL block (chapter 10 R311) -/
def Reg.RGL_CAP : Reg := ⟨Blk.RGL, 0x0, 0x0, 1⟩
def Fd.RGL_CAP_PRESENT : Fd := ⟨Reg.RGL_CAP, 0, 1⟩
def Fd.RGL_CAP_INSTANCES : Fd := ⟨Reg.RGL_CAP, 8, 8⟩
def Reg.RGL_CFG : Reg := ⟨Blk.RGL, 0x4, 0x0, 1⟩
def Fd.RGL_CFG_SRCHOST : Fd := ⟨Reg.RGL_CFG, 0, 1⟩
def Fd.RGL_CFG_SRCBG : Fd := ⟨Reg.RGL_CFG, 1, 1⟩
def Fd.RGL_CFG_AUTOREARM : Fd := ⟨Reg.RGL_CFG, 2, 1⟩
def Fd.RGL_CFG_LADW : Fd := ⟨Reg.RGL_CFG, 8, 8⟩
def Reg.RGL_GAIN : Reg := ⟨Blk.RGL, 0x8, 0x0, 1⟩
def Fd.RGL_GAIN_KP : Fd := ⟨Reg.RGL_GAIN, 0, 8⟩
def Fd.RGL_GAIN_KI : Fd := ⟨Reg.RGL_GAIN, 8, 8⟩
def Reg.RGL_FECFG : Reg := ⟨Blk.RGL, 0xc, 0x0, 1⟩
def Fd.RGL_FECFG_FELIM : Fd := ⟨Reg.RGL_FECFG, 0, 11⟩
def Fd.RGL_FECFG_REARM : Fd := ⟨Reg.RGL_FECFG, 12, 4⟩
def Fd.RGL_FECFG_FETIME : Fd := ⟨Reg.RGL_FECFG, 16, 16⟩
def Reg.RGL_LOOPCMD : Reg := ⟨Blk.RGL, 0x10, 0x0, 1⟩
def Fd.RGL_LOOPCMD_DIE : Fd := ⟨Reg.RGL_LOOPCMD, 0, 10⟩
def Fd.RGL_LOOPCMD_GROUP : Fd := ⟨Reg.RGL_LOOPCMD, 16, 4⟩
def Fd.RGL_LOOPCMD_OP : Fd := ⟨Reg.RGL_LOOPCMD, 24, 3⟩
def Fd.RGL_LOOPCMD_REFUSED : Fd := ⟨Reg.RGL_LOOPCMD, 30, 1⟩
def Fd.RGL_LOOPCMD_BUSY : Fd := ⟨Reg.RGL_LOOPCMD, 31, 1⟩
def Reg.RGL_LOOPSTAT : Reg := ⟨Blk.RGL, 0x14, 0x0, 1⟩
def Fd.RGL_LOOPSTAT_MODE : Fd := ⟨Reg.RGL_LOOPSTAT, 0, 2⟩
def Fd.RGL_LOOPSTAT_LEVELS : Fd := ⟨Reg.RGL_LOOPSTAT, 4, 4⟩
def Fd.RGL_LOOPSTAT_TIMER : Fd := ⟨Reg.RGL_LOOPSTAT, 16, 16⟩
def Reg.RGL_CNT_ALARM : Reg := ⟨Blk.RGL, 0x18, 0x0, 1⟩
def Fd.RGL_CNT_ALARM_COUNT : Fd := ⟨Reg.RGL_CNT_ALARM, 0, 32⟩
def Reg.RGL_CNT_CALFAIL : Reg := ⟨Blk.RGL, 0x1c, 0x0, 1⟩
def Fd.RGL_CNT_CALFAIL_COUNT : Fd := ⟨Reg.RGL_CNT_CALFAIL, 0, 32⟩
def Reg.RGL_SLOPE : Reg := ⟨Blk.RGL, 0x30, 0x4, 4⟩
def Fd.RGL_SLOPE_SLOPE : Fd := ⟨Reg.RGL_SLOPE, 0, 8⟩
def Reg.RGL_MANVAL : Reg := ⟨Blk.RGL, 0x40, 0x4, 4⟩
def Fd.RGL_MANVAL_WORD : Fd := ⟨Reg.RGL_MANVAL, 0, 32⟩
def Reg.RGL_LOOPOUT : Reg := ⟨Blk.RGL, 0x50, 0x4, 4⟩
def Fd.RGL_LOOPOUT_WORD : Fd := ⟨Reg.RGL_LOOPOUT, 0, 32⟩
def Reg.RGL_ENVCFG : Reg := ⟨Blk.RGL, 0x60, 0x0, 1⟩
def Fd.RGL_ENVCFG_MARGIN : Fd := ⟨Reg.RGL_ENVCFG, 0, 16⟩
def Fd.RGL_ENVCFG_BURST : Fd := ⟨Reg.RGL_ENVCFG, 16, 4⟩
def Fd.RGL_ENVCFG_KIP : Fd := ⟨Reg.RGL_ENVCFG, 24, 8⟩
def Reg.RGL_THCFG : Reg := ⟨Blk.RGL, 0x64, 0x0, 1⟩
def Fd.RGL_THCFG_TARGET : Fd := ⟨Reg.RGL_THCFG, 0, 12⟩
def Fd.RGL_THCFG_KPT : Fd := ⟨Reg.RGL_THCFG, 16, 8⟩
def Fd.RGL_THCFG_KIT : Fd := ⟨Reg.RGL_THCFG, 24, 8⟩
def Reg.RGL_ENVSTAT : Reg := ⟨Blk.RGL, 0x68, 0x0, 1⟩
def Fd.RGL_ENVSTAT_PM : Fd := ⟨Reg.RGL_ENVSTAT, 0, 16⟩
def Fd.RGL_ENVSTAT_PLIM : Fd := ⟨Reg.RGL_ENVSTAT, 16, 16⟩
def Reg.RGL_ENVOBS : Reg := ⟨Blk.RGL, 0x6c, 0x0, 1⟩
def Fd.RGL_ENVOBS_IP : Fd := ⟨Reg.RGL_ENVOBS, 0, 16⟩
def Fd.RGL_ENVOBS_ITH : Fd := ⟨Reg.RGL_ENVOBS, 16, 16⟩
def Reg.RGL_THRSTAT : Reg := ⟨Blk.RGL, 0x70, 0x0, 1⟩
def Fd.RGL_THRSTAT_ALLOWED : Fd := ⟨Reg.RGL_THRSTAT, 0, 11⟩
def Fd.RGL_THRSTAT_THERMAL : Fd := ⟨Reg.RGL_THRSTAT, 11, 1⟩
def Fd.RGL_THRSTAT_CRIT : Fd := ⟨Reg.RGL_THRSTAT, 12, 1⟩
def Fd.RGL_THRSTAT_CLAIMS : Fd := ⟨Reg.RGL_THRSTAT, 16, 4⟩
def Reg.RGL_SLOTLIM : Reg := ⟨Blk.RGL, 0x74, 0x0, 1⟩
def Fd.RGL_SLOTLIM_LIM : Fd := ⟨Reg.RGL_SLOTLIM, 0, 16⟩
def Reg.RGL_TEMP : Reg := ⟨Blk.RGL, 0x80, 0x4, 8⟩
def Fd.RGL_TEMP_T : Fd := ⟨Reg.RGL_TEMP, 0, 12⟩
def Fd.RGL_TEMP_VALID : Fd := ⟨Reg.RGL_TEMP, 31, 1⟩
def Reg.RGL_ENERGY : Reg := ⟨Blk.RGL, 0x200, 0x4, 32⟩
def Fd.RGL_ENERGY_PKG : Fd := ⟨Reg.RGL_ENERGY, 0, 16⟩
def Fd.RGL_ENERGY_CART : Fd := ⟨Reg.RGL_ENERGY, 16, 16⟩
def Reg.RGL_FFTAB : Reg := ⟨Blk.RGL, 0x1000, 0x4, 256⟩
def Fd.RGL_FFTAB_WORD : Fd := ⟨Reg.RGL_FFTAB, 0, 32⟩
/-- The rows of block RGL (10 R311). -/
def regRowsRGL : List RegRow := [
  ⟨Reg.RGL_CAP, [⟨0, 1, .ro, 0x1, 0, 0x1⟩, ⟨8, 8, .ro, 0x2, 0, 0xff⟩]⟩,
  ⟨Reg.RGL_CFG, [⟨0, 1, .rw, 0x1, 0, 0x1⟩, ⟨1, 1, .rw, 0x1, 0, 0x1⟩, ⟨2, 1, .rw, 0x1, 0, 0x1⟩, ⟨8, 8, .rw, 0x8, 0, 0xff⟩]⟩,
  ⟨Reg.RGL_GAIN, [⟨0, 8, .rw, 0x20, 0, 0xff⟩, ⟨8, 8, .rw, 0x10, 0, 0xff⟩]⟩,
  ⟨Reg.RGL_FECFG, [⟨0, 11, .rw, 0x100, 0, 0x7ff⟩, ⟨12, 4, .rw, 0x4, 1, 0xf⟩, ⟨16, 16, .rw, 0x1f4, 1, 0xffff⟩]⟩,
  ⟨Reg.RGL_LOOPCMD, [⟨0, 10, .rw, 0x0, 0, 0x3ff⟩, ⟨16, 4, .rw, 0x0, 0, 0xf⟩, ⟨24, 3, .rw, 0x0, 0, 0x7⟩, ⟨30, 1, .w1c, 0x0, 0, 0x1⟩, ⟨31, 1, .ro, 0x0, 0, 0x1⟩]⟩,
  ⟨Reg.RGL_LOOPSTAT, [⟨0, 2, .ro, 0x0, 0, 0x3⟩, ⟨4, 4, .ro, 0x0, 0, 0xf⟩, ⟨16, 16, .ro, 0x0, 0, 0xffff⟩]⟩,
  ⟨Reg.RGL_CNT_ALARM, [⟨0, 32, .ro, 0x0, 0, 0xffffffff⟩]⟩,
  ⟨Reg.RGL_CNT_CALFAIL, [⟨0, 32, .ro, 0x0, 0, 0xffffffff⟩]⟩,
  ⟨Reg.RGL_SLOPE, [⟨0, 8, .rw, 0x0, 0, 0xff⟩]⟩,
  ⟨Reg.RGL_MANVAL, [⟨0, 8, .rw, 0x0, 0, 0xff⟩, ⟨8, 8, .rw, 0x0, 0, 0xff⟩, ⟨16, 8, .rw, 0x0, 0, 0xff⟩, ⟨24, 8, .rw, 0x0, 0, 0xff⟩]⟩,
  ⟨Reg.RGL_LOOPOUT, [⟨0, 8, .ro, 0x0, 0, 0xff⟩, ⟨8, 8, .ro, 0x0, 0, 0xff⟩, ⟨16, 8, .ro, 0x0, 0, 0xff⟩, ⟨24, 8, .ro, 0x0, 0, 0xff⟩]⟩,
  ⟨Reg.RGL_ENVCFG, [⟨0, 16, .rw, 0x3e8, 0, 0xffff⟩, ⟨16, 4, .rw, 0x4, 1, 0xf⟩, ⟨24, 8, .rw, 0x4, 0, 0xff⟩]⟩,
  ⟨Reg.RGL_THCFG, [⟨0, 12, .rw, 0x5a0, 0, 0xfff⟩, ⟨16, 8, .rw, 0x10, 0, 0xff⟩, ⟨24, 8, .rw, 0x4, 0, 0xff⟩]⟩,
  ⟨Reg.RGL_ENVSTAT, [⟨0, 16, .ro, 0x0, 0, 0xffff⟩, ⟨16, 16, .ro, 0xbb80, 0, 0xffff⟩]⟩,
  ⟨Reg.RGL_ENVOBS, [⟨0, 16, .ro, 0x0, 0, 0xffff⟩, ⟨16, 16, .ro, 0xbb80, 0, 0xffff⟩]⟩,
  ⟨Reg.RGL_THRSTAT, [⟨0, 11, .ro, 0x400, 0, 0x7ff⟩, ⟨11, 1, .ro, 0x0, 0, 0x1⟩, ⟨12, 1, .ro, 0x0, 0, 0x1⟩, ⟨16, 4, .ro, 0x0, 0, 0xf⟩]⟩,
  ⟨Reg.RGL_SLOTLIM, [⟨0, 16, .rw, 0x0, 0, 0xffff⟩]⟩,
  ⟨Reg.RGL_TEMP, [⟨0, 12, .ro, 0x0, 0, 0xfff⟩, ⟨31, 1, .ro, 0x0, 0, 0x1⟩]⟩,
  ⟨Reg.RGL_ENERGY, [⟨0, 16, .rw, 0x0, 0, 0xffff⟩, ⟨16, 16, .rw, 0x0, 0, 0xffff⟩]⟩,
  ⟨Reg.RGL_FFTAB, [⟨0, 8, .rw, 0x0, 0, 0xff⟩, ⟨8, 8, .rw, 0x0, 0, 0xff⟩, ⟨16, 8, .rw, 0x0, 0, 0xff⟩, ⟨24, 8, .rw, 0x0, 0, 0xff⟩]⟩]

/-! ### LDG block (chapter 11 R343) -/
def Reg.LDG_CAP : Reg := ⟨Blk.LDG, 0x0, 0x0, 1⟩
def Fd.LDG_CAP_PRESENT : Fd := ⟨Reg.LDG_CAP, 0, 1⟩
def Fd.LDG_CAP_INSTANCES : Fd := ⟨Reg.LDG_CAP, 8, 8⟩
def Reg.LDG_CFG : Reg := ⟨Blk.LDG, 0x4, 0x0, 1⟩
def Fd.LDG_CFG_SCRUBH : Fd := ⟨Reg.LDG_CFG, 0, 8⟩
def Fd.LDG_CFG_PMRSHARE : Fd := ⟨Reg.LDG_CFG, 8, 8⟩
def Fd.LDG_CFG_CARRYPCT : Fd := ⟨Reg.LDG_CFG, 16, 7⟩
def Reg.LDG_STAT : Reg := ⟨Blk.LDG, 0x8, 0x0, 1⟩
def Fd.LDG_STAT_MODE : Fd := ⟨Reg.LDG_STAT, 0, 2⟩
def Fd.LDG_STAT_HOLDRDY : Fd := ⟨Reg.LDG_STAT, 2, 1⟩
def Fd.LDG_STAT_PF : Fd := ⟨Reg.LDG_STAT, 3, 1⟩
def Fd.LDG_STAT_CHARGING : Fd := ⟨Reg.LDG_STAT, 4, 1⟩
def Fd.LDG_STAT_FLUSHINC : Fd := ⟨Reg.LDG_STAT, 5, 1⟩
def Fd.LDG_STAT_EPOCH : Fd := ⟨Reg.LDG_STAT, 16, 16⟩
def Reg.LDG_HOLDCFG : Reg := ⟨Blk.LDG, 0xc, 0x0, 1⟩
def Fd.LDG_HOLDCFG_SLCPROG : Fd := ⟨Reg.LDG_HOLDCFG, 0, 8⟩
def Fd.LDG_HOLDCFG_CHARGE : Fd := ⟨Reg.LDG_HOLDCFG, 8, 8⟩
def Reg.LDG_HOLDSTAT : Reg := ⟨Blk.LDG, 0x10, 0x0, 1⟩
def Fd.LDG_HOLDSTAT_BUDGET : Fd := ⟨Reg.LDG_HOLDSTAT, 0, 16⟩
def Fd.LDG_HOLDSTAT_LAST : Fd := ⟨Reg.LDG_HOLDSTAT, 16, 16⟩
def Reg.LDG_RINGSTAT : Reg := ⟨Blk.LDG, 0x14, 0x0, 1⟩
def Fd.LDG_RINGSTAT_USED : Fd := ⟨Reg.LDG_RINGSTAT, 0, 10⟩
def Fd.LDG_RINGSTAT_LIMIT : Fd := ⟨Reg.LDG_RINGSTAT, 16, 9⟩
def Reg.LDG_HEAD_LO : Reg := ⟨Blk.LDG, 0x18, 0x0, 1⟩
def Fd.LDG_HEAD_LO_JSEQ : Fd := ⟨Reg.LDG_HEAD_LO, 0, 32⟩
def Reg.LDG_HEAD_HI : Reg := ⟨Blk.LDG, 0x1c, 0x0, 1⟩
def Fd.LDG_HEAD_HI_JSEQ : Fd := ⟨Reg.LDG_HEAD_HI, 0, 16⟩
def Reg.LDG_FLUSH : Reg := ⟨Blk.LDG, 0x20, 0x0, 1⟩
def Fd.LDG_FLUSH_UNITS : Fd := ⟨Reg.LDG_FLUSH, 0, 17⟩
def Fd.LDG_FLUSH_COMPLETE : Fd := ⟨Reg.LDG_FLUSH, 17, 1⟩
def Fd.LDG_FLUSH_UNSAFE : Fd := ⟨Reg.LDG_FLUSH, 18, 1⟩
def Reg.LDG_PMRSTAT : Reg := ⟨Blk.LDG, 0x24, 0x0, 1⟩
def Fd.LDG_PMRSTAT_SPARE : Fd := ⟨Reg.LDG_PMRSTAT, 0, 7⟩
def Fd.LDG_PMRSTAT_HSTS : Fd := ⟨Reg.LDG_PMRSTAT, 8, 2⟩
def Fd.LDG_PMRSTAT_ROTATIONS : Fd := ⟨Reg.LDG_PMRSTAT, 16, 16⟩
def Reg.LDG_CNT_CORR : Reg := ⟨Blk.LDG, 0x28, 0x0, 1⟩
def Fd.LDG_CNT_CORR_COUNT : Fd := ⟨Reg.LDG_CNT_CORR, 0, 32⟩
def Reg.LDG_CNT_UNCORR : Reg := ⟨Blk.LDG, 0x2c, 0x0, 1⟩
def Fd.LDG_CNT_UNCORR_COUNT : Fd := ⟨Reg.LDG_CNT_UNCORR, 0, 32⟩
def Reg.LDG_CNT_PLOSS : Reg := ⟨Blk.LDG, 0x30, 0x0, 1⟩
def Fd.LDG_CNT_PLOSS_COUNT : Fd := ⟨Reg.LDG_CNT_PLOSS, 0, 32⟩
def Reg.LDG_CNT_CARRY : Reg := ⟨Blk.LDG, 0x34, 0x0, 1⟩
def Fd.LDG_CNT_CARRY_COUNT : Fd := ⟨Reg.LDG_CNT_CARRY, 0, 32⟩
def Reg.LDG_CNT_PMRDROP : Reg := ⟨Blk.LDG, 0x38, 0x0, 1⟩
def Fd.LDG_CNT_PMRDROP_COUNT : Fd := ⟨Reg.LDG_CNT_PMRDROP, 0, 32⟩
def Reg.LDG_PMRFN : Reg := ⟨Blk.LDG, 0x400, 0x4, 256⟩
def Fd.LDG_PMRFN_BASE : Fd := ⟨Reg.LDG_PMRFN, 0, 12⟩
def Fd.LDG_PMRFN_COUNT : Fd := ⟨Reg.LDG_PMRFN, 16, 13⟩
/-- The rows of block LDG (11 R343). -/
def regRowsLDG : List RegRow := [
  ⟨Reg.LDG_CAP, [⟨0, 1, .ro, 0x1, 0, 0x1⟩, ⟨8, 8, .ro, 0x40, 0, 0xff⟩]⟩,
  ⟨Reg.LDG_CFG, [⟨0, 8, .rw, 0x18, 1, 0xff⟩, ⟨8, 8, .rw, 0x80, 0, 0xff⟩, ⟨16, 7, .rw, 0x4b, 50, 0x5f⟩]⟩,
  ⟨Reg.LDG_STAT, [⟨0, 2, .ro, 0x3, 0, 0x3⟩, ⟨2, 1, .ro, 0x0, 0, 0x1⟩, ⟨3, 1, .ro, 0x0, 0, 0x1⟩, ⟨4, 1, .ro, 0x1, 0, 0x1⟩, ⟨5, 1, .ro, 0x0, 0, 0x1⟩, ⟨16, 16, .ro, 0x0, 0, 0xffff⟩]⟩,
  ⟨Reg.LDG_HOLDCFG, [⟨0, 8, .ro, 0x0, 0, 0xff⟩, ⟨8, 8, .ro, 0x0, 0, 0xff⟩]⟩,
  ⟨Reg.LDG_HOLDSTAT, [⟨0, 16, .ro, 0x0, 0, 0xffff⟩, ⟨16, 16, .ro, 0x0, 0, 0xffff⟩]⟩,
  ⟨Reg.LDG_RINGSTAT, [⟨0, 10, .ro, 0x0, 0, 0x3ff⟩, ⟨16, 9, .ro, 0x100, 0, 0x1ff⟩]⟩,
  ⟨Reg.LDG_HEAD_LO, [⟨0, 32, .ro, 0x0, 0, 0xffffffff⟩]⟩,
  ⟨Reg.LDG_HEAD_HI, [⟨0, 16, .ro, 0x0, 0, 0xffff⟩]⟩,
  ⟨Reg.LDG_FLUSH, [⟨0, 17, .ro, 0x0, 0, 0x1ffff⟩, ⟨17, 1, .ro, 0x0, 0, 0x1⟩, ⟨18, 1, .ro, 0x0, 0, 0x1⟩]⟩,
  ⟨Reg.LDG_PMRSTAT, [⟨0, 7, .ro, 0x40, 0, 0x7f⟩, ⟨8, 2, .ro, 0x0, 0, 0x3⟩, ⟨16, 16, .ro, 0x0, 0, 0xffff⟩]⟩,
  ⟨Reg.LDG_CNT_CORR, [⟨0, 32, .ro, 0x0, 0, 0xffffffff⟩]⟩,
  ⟨Reg.LDG_CNT_UNCORR, [⟨0, 32, .ro, 0x0, 0, 0xffffffff⟩]⟩,
  ⟨Reg.LDG_CNT_PLOSS, [⟨0, 32, .ro, 0x0, 0, 0xffffffff⟩]⟩,
  ⟨Reg.LDG_CNT_CARRY, [⟨0, 32, .ro, 0x0, 0, 0xffffffff⟩]⟩,
  ⟨Reg.LDG_CNT_PMRDROP, [⟨0, 32, .ro, 0x0, 0, 0xffffffff⟩]⟩,
  ⟨Reg.LDG_PMRFN, [⟨0, 12, .ro, 0x0, 0, 0xfff⟩, ⟨16, 13, .ro, 0x0, 0, 0x1000⟩]⟩]

/-! ### DRC block (chapter 12 R386) -/
def Reg.DRC_CAP : Reg := ⟨Blk.DRC, 0x0, 0x0, 1⟩
def Fd.DRC_CAP_PRESENT : Fd := ⟨Reg.DRC_CAP, 0, 1⟩
def Fd.DRC_CAP_INSTANCES : Fd := ⟨Reg.DRC_CAP, 8, 8⟩
def Reg.DRC_CFG : Reg := ⟨Blk.DRC, 0x4, 0x0, 1⟩
def Fd.DRC_CFG_RANKS : Fd := ⟨Reg.DRC_CFG, 0, 1⟩
def Fd.DRC_CFG_DENS : Fd := ⟨Reg.DRC_CFG, 1, 1⟩
def Fd.DRC_CFG_RATE : Fd := ⟨Reg.DRC_CFG, 2, 2⟩
def Fd.DRC_CFG_TRAINED : Fd := ⟨Reg.DRC_CFG, 4, 1⟩
def Fd.DRC_CFG_SERVICE : Fd := ⟨Reg.DRC_CFG, 5, 1⟩
def Reg.DRC_STAT : Reg := ⟨Blk.DRC, 0x8, 0x0, 1⟩
def Fd.DRC_STAT_LINES : Fd := ⟨Reg.DRC_STAT, 0, 14⟩
def Fd.DRC_STAT_ERASURE : Fd := ⟨Reg.DRC_STAT, 16, 1⟩
def Fd.DRC_STAT_REPAIR : Fd := ⟨Reg.DRC_STAT, 17, 1⟩
def Fd.DRC_STAT_MERGE : Fd := ⟨Reg.DRC_STAT, 18, 6⟩
def Reg.DRC_MAPWAIT : Reg := ⟨Blk.DRC, 0xc, 0x0, 1⟩
def Fd.DRC_MAPWAIT_EST : Fd := ⟨Reg.DRC_MAPWAIT, 0, 16⟩
def Reg.DRC_PORT : Reg := ⟨Blk.DRC, 0x10, 0x4, 6⟩
def Fd.DRC_PORT_CREDITS : Fd := ⟨Reg.DRC_PORT, 0, 13⟩
def Fd.DRC_PORT_TARGET : Fd := ⟨Reg.DRC_PORT, 16, 16⟩
def Reg.DRC_CNT_LATE : Reg := ⟨Blk.DRC, 0x30, 0x4, 6⟩
def Fd.DRC_CNT_LATE_COUNT : Fd := ⟨Reg.DRC_CNT_LATE, 0, 32⟩
def Reg.DRC_CNT_CORR : Reg := ⟨Blk.DRC, 0x48, 0x0, 1⟩
def Fd.DRC_CNT_CORR_COUNT : Fd := ⟨Reg.DRC_CNT_CORR, 0, 32⟩
def Reg.DRC_CNT_UNCORR : Reg := ⟨Blk.DRC, 0x4c, 0x0, 1⟩
def Fd.DRC_CNT_UNCORR_COUNT : Fd := ⟨Reg.DRC_CNT_UNCORR, 0, 32⟩
def Reg.DRC_CNT_INORDER : Reg := ⟨Blk.DRC, 0x50, 0x0, 1⟩
def Fd.DRC_CNT_INORDER_COUNT : Fd := ⟨Reg.DRC_CNT_INORDER, 0, 32⟩
def Reg.DRC_CNT_PPR : Reg := ⟨Blk.DRC, 0x54, 0x0, 1⟩
def Fd.DRC_CNT_PPR_COUNT : Fd := ⟨Reg.DRC_CNT_PPR, 0, 32⟩
def Reg.DRC_ECCCFG : Reg := ⟨Blk.DRC, 0x58, 0x0, 1⟩
def Fd.DRC_ECCCFG_PATROLH : Fd := ⟨Reg.DRC_ECCCFG, 0, 5⟩
def Fd.DRC_ECCCFG_DEVTHR : Fd := ⟨Reg.DRC_ECCCFG, 16, 16⟩
def Reg.DRC_PATROLSTAT : Reg := ⟨Blk.DRC, 0x5c, 0x0, 1⟩
def Fd.DRC_PATROLSTAT_PROGRESS : Fd := ⟨Reg.DRC_PATROLSTAT, 0, 10⟩
def Fd.DRC_PATROLSTAT_PASSES : Fd := ⟨Reg.DRC_PATROLSTAT, 16, 16⟩
def Reg.DRC_SCRUBCTRL : Reg := ⟨Blk.DRC, 0x60, 0x0, 1⟩
def Fd.DRC_SCRUBCTRL_GO : Fd := ⟨Reg.DRC_SCRUBCTRL, 0, 1⟩
def Fd.DRC_SCRUBCTRL_CANCEL : Fd := ⟨Reg.DRC_SCRUBCTRL, 1, 1⟩
def Fd.DRC_SCRUBCTRL_ID : Fd := ⟨Reg.DRC_SCRUBCTRL, 16, 16⟩
def Reg.DRC_SCRUBSTART : Reg := ⟨Blk.DRC, 0x64, 0x0, 1⟩
def Fd.DRC_SCRUBSTART_LINES : Fd := ⟨Reg.DRC_SCRUBSTART, 0, 32⟩
def Reg.DRC_SCRUBCOUNT : Reg := ⟨Blk.DRC, 0x68, 0x0, 1⟩
def Fd.DRC_SCRUBCOUNT_LINES : Fd := ⟨Reg.DRC_SCRUBCOUNT, 0, 32⟩
def Reg.DRC_SCRUBSTAT : Reg := ⟨Blk.DRC, 0x6c, 0x0, 1⟩
def Fd.DRC_SCRUBSTAT_BUSY : Fd := ⟨Reg.DRC_SCRUBSTAT, 0, 1⟩
def Fd.DRC_SCRUBSTAT_DONE : Fd := ⟨Reg.DRC_SCRUBSTAT, 1, 1⟩
def Fd.DRC_SCRUBSTAT_REJECT : Fd := ⟨Reg.DRC_SCRUBSTAT, 2, 1⟩
def Fd.DRC_SCRUBSTAT_REASON : Fd := ⟨Reg.DRC_SCRUBSTAT, 4, 2⟩
def Fd.DRC_SCRUBSTAT_PROGRESS : Fd := ⟨Reg.DRC_SCRUBSTAT, 8, 8⟩
def Reg.DRC_PPRCFG : Reg := ⟨Blk.DRC, 0x70, 0x0, 1⟩
def Fd.DRC_PPRCFG_INSVC : Fd := ⟨Reg.DRC_PPRCFG, 0, 1⟩
def Fd.DRC_PPRCFG_ROWTHR : Fd := ⟨Reg.DRC_PPRCFG, 4, 4⟩
def Fd.DRC_PPRCFG_PGMBEATS : Fd := ⟨Reg.DRC_PPRCFG, 8, 4⟩
def Reg.DRC_PPRSTAT : Reg := ⟨Blk.DRC, 0x74, 0x0, 1⟩
def Fd.DRC_PPRSTAT_LISTED : Fd := ⟨Reg.DRC_PPRSTAT, 0, 9⟩
def Fd.DRC_PPRSTAT_HARDPEND : Fd := ⟨Reg.DRC_PPRSTAT, 16, 9⟩
def Fd.DRC_PPRSTAT_EXHAUST : Fd := ⟨Reg.DRC_PPRSTAT, 31, 1⟩
def Reg.DRC_PATCTRL : Reg := ⟨Blk.DRC, 0x80, 0x0, 1⟩
def Fd.DRC_PATCTRL_GO : Fd := ⟨Reg.DRC_PATCTRL, 0, 1⟩
def Fd.DRC_PATCTRL_MODE : Fd := ⟨Reg.DRC_PATCTRL, 1, 2⟩
def Fd.DRC_PATCTRL_PATTERN : Fd := ⟨Reg.DRC_PATCTRL, 3, 3⟩
def Fd.DRC_PATCTRL_RAW : Fd := ⟨Reg.DRC_PATCTRL, 6, 1⟩
def Fd.DRC_PATCTRL_SUBRANK : Fd := ⟨Reg.DRC_PATCTRL, 8, 4⟩
def Fd.DRC_PATCTRL_BUSY : Fd := ⟨Reg.DRC_PATCTRL, 12, 1⟩
def Fd.DRC_PATCTRL_DONE : Fd := ⟨Reg.DRC_PATCTRL, 13, 1⟩
def Fd.DRC_PATCTRL_REFUSED : Fd := ⟨Reg.DRC_PATCTRL, 14, 1⟩
def Fd.DRC_PATCTRL_SEED : Fd := ⟨Reg.DRC_PATCTRL, 16, 16⟩
def Reg.DRC_PATSTART : Reg := ⟨Blk.DRC, 0x84, 0x0, 1⟩
def Fd.DRC_PATSTART_LINES : Fd := ⟨Reg.DRC_PATSTART, 0, 32⟩
def Reg.DRC_PATCOUNT : Reg := ⟨Blk.DRC, 0x88, 0x0, 1⟩
def Fd.DRC_PATCOUNT_LINES : Fd := ⟨Reg.DRC_PATCOUNT, 0, 32⟩
def Reg.DRC_PATERR_LO : Reg := ⟨Blk.DRC, 0x8c, 0x0, 1⟩
def Fd.DRC_PATERR_LO_LANES : Fd := ⟨Reg.DRC_PATERR_LO, 0, 32⟩
def Reg.DRC_PATERR_HI : Reg := ⟨Blk.DRC, 0x90, 0x0, 1⟩
def Fd.DRC_PATERR_HI_LANES : Fd := ⟨Reg.DRC_PATERR_HI, 0, 8⟩
def Fd.DRC_PATERR_HI_COUNT : Fd := ⟨Reg.DRC_PATERR_HI, 8, 24⟩
def Reg.DRC_PATADDR : Reg := ⟨Blk.DRC, 0x94, 0x0, 1⟩
def Fd.DRC_PATADDR_LINE : Fd := ⟨Reg.DRC_PATADDR, 0, 32⟩
def Reg.DRC_PHYSEL : Reg := ⟨Blk.DRC, 0x98, 0x0, 1⟩
def Fd.DRC_PHYSEL_SUBRANK : Fd := ⟨Reg.DRC_PHYSEL, 0, 4⟩
def Fd.DRC_PHYSEL_LANE : Fd := ⟨Reg.DRC_PHYSEL, 4, 6⟩
def Fd.DRC_PHYSEL_KIND : Fd := ⟨Reg.DRC_PHYSEL, 10, 2⟩
def Reg.DRC_PHYDLY : Reg := ⟨Blk.DRC, 0x9c, 0x0, 1⟩
def Fd.DRC_PHYDLY_VALUE : Fd := ⟨Reg.DRC_PHYDLY, 0, 10⟩
def Reg.DRC_MRCMD : Reg := ⟨Blk.DRC, 0xa0, 0x0, 1⟩
def Fd.DRC_MRCMD_MR : Fd := ⟨Reg.DRC_MRCMD, 0, 8⟩
def Fd.DRC_MRCMD_DATA : Fd := ⟨Reg.DRC_MRCMD, 8, 8⟩
def Fd.DRC_MRCMD_SUBRANK : Fd := ⟨Reg.DRC_MRCMD, 16, 4⟩
def Fd.DRC_MRCMD_DEV : Fd := ⟨Reg.DRC_MRCMD, 20, 4⟩
def Fd.DRC_MRCMD_OP : Fd := ⟨Reg.DRC_MRCMD, 24, 2⟩
def Fd.DRC_MRCMD_BUSY : Fd := ⟨Reg.DRC_MRCMD, 31, 1⟩
def Reg.DRC_FLIPCTRL : Reg := ⟨Blk.DRC, 0xa4, 0x0, 1⟩
def Fd.DRC_FLIPCTRL_ARM : Fd := ⟨Reg.DRC_FLIPCTRL, 0, 1⟩
def Fd.DRC_FLIPCTRL_SUB : Fd := ⟨Reg.DRC_FLIPCTRL, 1, 3⟩
def Fd.DRC_FLIPCTRL_BEAT : Fd := ⟨Reg.DRC_FLIPCTRL, 4, 4⟩
def Reg.DRC_FLIP_LO : Reg := ⟨Blk.DRC, 0xa8, 0x0, 1⟩
def Fd.DRC_FLIP_LO_MASK : Fd := ⟨Reg.DRC_FLIP_LO, 0, 32⟩
def Reg.DRC_FLIP_HI : Reg := ⟨Blk.DRC, 0xac, 0x0, 1⟩
def Fd.DRC_FLIP_HI_MASK : Fd := ⟨Reg.DRC_FLIP_HI, 0, 8⟩
def Reg.DRC_SUM : Reg := ⟨Blk.DRC, 0xc0, 0x4, 8⟩
def Fd.DRC_SUM_WORD : Fd := ⟨Reg.DRC_SUM, 0, 32⟩
def Reg.DRC_DEVSTAT : Reg := ⟨Blk.DRC, 0x100, 0x4, 16⟩
def Fd.DRC_DEVSTAT_FAILED : Fd := ⟨Reg.DRC_DEVSTAT, 0, 1⟩
def Fd.DRC_DEVSTAT_DEVICE : Fd := ⟨Reg.DRC_DEVSTAT, 1, 4⟩
def Fd.DRC_DEVSTAT_CORR : Fd := ⟨Reg.DRC_DEVSTAT, 16, 16⟩
/-- The rows of block DRC (12 R386). -/
def regRowsDRC : List RegRow := [
  ⟨Reg.DRC_CAP, [⟨0, 1, .ro, 0x1, 0, 0x1⟩, ⟨8, 8, .ro, 0x4, 0, 0xff⟩]⟩,
  ⟨Reg.DRC_CFG, [⟨0, 1, .ro, 0x0, 0, 0x1⟩, ⟨1, 1, .ro, 0x0, 0, 0x1⟩, ⟨2, 2, .ro, 0x0, 0, 0x3⟩, ⟨4, 1, .rw, 0x0, 0, 0x1⟩, ⟨5, 1, .rw, 0x0, 0, 0x1⟩]⟩,
  ⟨Reg.DRC_STAT, [⟨0, 14, .ro, 0x1f40, 0, 0x3fff⟩, ⟨16, 1, .ro, 0x0, 0, 0x1⟩, ⟨17, 1, .ro, 0x0, 0, 0x1⟩, ⟨18, 6, .ro, 0x0, 0, 0x3f⟩]⟩,
  ⟨Reg.DRC_MAPWAIT, [⟨0, 16, .ro, 0x0, 0, 0xffff⟩]⟩,
  ⟨Reg.DRC_PORT, [⟨0, 13, .rw, 0x1f4, 0, 0x1fff⟩, ⟨16, 16, .rw, 0x320, 0, 0xffff⟩]⟩,
  ⟨Reg.DRC_CNT_LATE, [⟨0, 32, .ro, 0x0, 0, 0xffffffff⟩]⟩,
  ⟨Reg.DRC_CNT_CORR, [⟨0, 32, .ro, 0x0, 0, 0xffffffff⟩]⟩,
  ⟨Reg.DRC_CNT_UNCORR, [⟨0, 32, .ro, 0x0, 0, 0xffffffff⟩]⟩,
  ⟨Reg.DRC_CNT_INORDER, [⟨0, 32, .ro, 0x0, 0, 0xffffffff⟩]⟩,
  ⟨Reg.DRC_CNT_PPR, [⟨0, 32, .ro, 0x0, 0, 0xffffffff⟩]⟩,
  ⟨Reg.DRC_ECCCFG, [⟨0, 5, .rw, 0x18, 1, 0x18⟩, ⟨16, 16, .rw, 0x40, 1, 0xffff⟩]⟩,
  ⟨Reg.DRC_PATROLSTAT, [⟨0, 10, .ro, 0x0, 0, 0x3ff⟩, ⟨16, 16, .ro, 0x0, 0, 0xffff⟩]⟩,
  ⟨Reg.DRC_SCRUBCTRL, [⟨0, 1, .w1s, 0x0, 0, 0x1⟩, ⟨1, 1, .w1s, 0x0, 0, 0x1⟩, ⟨16, 16, .rw, 0x0, 0, 0xffff⟩]⟩,
  ⟨Reg.DRC_SCRUBSTART, [⟨0, 32, .rw, 0x0, 0, 0xffffffff⟩]⟩,
  ⟨Reg.DRC_SCRUBCOUNT, [⟨0, 32, .rw, 0x0, 0, 0xffffffff⟩]⟩,
  ⟨Reg.DRC_SCRUBSTAT, [⟨0, 1, .ro, 0x0, 0, 0x1⟩, ⟨1, 1, .w1c, 0x0, 0, 0x1⟩, ⟨2, 1, .w1c, 0x0, 0, 0x1⟩, ⟨4, 2, .ro, 0x0, 0, 0x3⟩, ⟨8, 8, .ro, 0x0, 0, 0xff⟩]⟩,
  ⟨Reg.DRC_PPRCFG, [⟨0, 1, .ro, 0x0, 0, 0x1⟩, ⟨4, 4, .rw, 0x2, 1, 0xf⟩, ⟨8, 4, .ro, 0x0, 0, 0xf⟩]⟩,
  ⟨Reg.DRC_PPRSTAT, [⟨0, 9, .ro, 0x0, 0, 0x1ff⟩, ⟨16, 9, .ro, 0x0, 0, 0x1ff⟩, ⟨31, 1, .w1c, 0x0, 0, 0x1⟩]⟩,
  ⟨Reg.DRC_PATCTRL, [⟨0, 1, .w1s, 0x0, 0, 0x1⟩, ⟨1, 2, .rw, 0x0, 0, 0x3⟩, ⟨3, 3, .rw, 0x0, 0, 0x7⟩, ⟨6, 1, .rw, 0x0, 0, 0x1⟩, ⟨8, 4, .rw, 0x0, 0, 0xf⟩, ⟨12, 1, .ro, 0x0, 0, 0x1⟩, ⟨13, 1, .w1c, 0x0, 0, 0x1⟩, ⟨14, 1, .w1c, 0x0, 0, 0x1⟩, ⟨16, 16, .rw, 0x1, 0, 0xffff⟩]⟩,
  ⟨Reg.DRC_PATSTART, [⟨0, 32, .rw, 0x0, 0, 0xffffffff⟩]⟩,
  ⟨Reg.DRC_PATCOUNT, [⟨0, 32, .rw, 0x0, 0, 0xffffffff⟩]⟩,
  ⟨Reg.DRC_PATERR_LO, [⟨0, 32, .ro, 0x0, 0, 0xffffffff⟩]⟩,
  ⟨Reg.DRC_PATERR_HI, [⟨0, 8, .ro, 0x0, 0, 0xff⟩, ⟨8, 24, .ro, 0x0, 0, 0xffffff⟩]⟩,
  ⟨Reg.DRC_PATADDR, [⟨0, 32, .ro, 0x0, 0, 0xffffffff⟩]⟩,
  ⟨Reg.DRC_PHYSEL, [⟨0, 4, .rw, 0x0, 0, 0xf⟩, ⟨4, 6, .rw, 0x0, 0, 0x3f⟩, ⟨10, 2, .rw, 0x0, 0, 0x3⟩]⟩,
  ⟨Reg.DRC_PHYDLY, [⟨0, 10, .rw, 0x0, 0, 0x3ff⟩]⟩,
  ⟨Reg.DRC_MRCMD, [⟨0, 8, .rw, 0x0, 0, 0xff⟩, ⟨8, 8, .rw, 0x0, 0, 0xff⟩, ⟨16, 4, .rw, 0x0, 0, 0xf⟩, ⟨20, 4, .rw, 0x0, 0, 0xf⟩, ⟨24, 2, .rw, 0x0, 0, 0x3⟩, ⟨31, 1, .ro, 0x0, 0, 0x1⟩]⟩,
  ⟨Reg.DRC_FLIPCTRL, [⟨0, 1, .w1s, 0x0, 0, 0x1⟩, ⟨1, 3, .rw, 0x0, 0, 0x7⟩, ⟨4, 4, .rw, 0x0, 0, 0xf⟩]⟩,
  ⟨Reg.DRC_FLIP_LO, [⟨0, 32, .rw, 0x0, 0, 0xffffffff⟩]⟩,
  ⟨Reg.DRC_FLIP_HI, [⟨0, 8, .rw, 0x0, 0, 0xff⟩]⟩,
  ⟨Reg.DRC_SUM, [⟨0, 32, .ro, 0x0, 0, 0xffffffff⟩]⟩,
  ⟨Reg.DRC_DEVSTAT, [⟨0, 1, .ro, 0x0, 0, 0x1⟩, ⟨1, 4, .ro, 0x0, 0, 0xf⟩, ⟨16, 16, .ro, 0x0, 0, 0xffff⟩]⟩]

/-! ### BUF block (chapter 12 R387) -/
def Reg.BUF_CAP : Reg := ⟨Blk.BUF, 0x0, 0x0, 1⟩
def Fd.BUF_CAP_PRESENT : Fd := ⟨Reg.BUF_CAP, 0, 1⟩
def Fd.BUF_CAP_INSTANCES : Fd := ⟨Reg.BUF_CAP, 8, 8⟩
def Reg.BUF_ALARM : Reg := ⟨Blk.BUF, 0x4, 0x0, 1⟩
def Fd.BUF_ALARM_DFREE : Fd := ⟨Reg.BUF_ALARM, 0, 1⟩
def Fd.BUF_ALARM_FOREIGN : Fd := ⟨Reg.BUF_ALARM, 1, 1⟩
def Reg.BUF_LASTHANDLE : Reg := ⟨Blk.BUF, 0x8, 0x0, 1⟩
def Fd.BUF_LASTHANDLE_HANDLE : Fd := ⟨Reg.BUF_LASTHANDLE, 0, 32⟩
def Reg.BUF_LASTBAD : Reg := ⟨Blk.BUF, 0xc, 0x0, 1⟩
def Fd.BUF_LASTBAD_MASTER : Fd := ⟨Reg.BUF_LASTBAD, 0, 7⟩
def Fd.BUF_LASTBAD_KIND : Fd := ⟨Reg.BUF_LASTBAD, 7, 1⟩
def Reg.BUF_CNT_DFREE : Reg := ⟨Blk.BUF, 0x10, 0x0, 1⟩
def Fd.BUF_CNT_DFREE_COUNT : Fd := ⟨Reg.BUF_CNT_DFREE, 0, 32⟩
def Reg.BUF_CNT_FOREIGN : Reg := ⟨Blk.BUF, 0x14, 0x0, 1⟩
def Fd.BUF_CNT_FOREIGN_COUNT : Fd := ⟨Reg.BUF_CNT_FOREIGN, 0, 32⟩
def Reg.BUF_FREE : Reg := ⟨Blk.BUF, 0x100, 0x4, 48⟩
def Fd.BUF_FREE_FREE : Fd := ⟨Reg.BUF_FREE, 0, 16⟩
def Fd.BUF_FREE_TOTAL : Fd := ⟨Reg.BUF_FREE, 16, 16⟩
def Reg.BUF_TENUSE : Reg := ⟨Blk.BUF, 0x400, 0x4, 256⟩
def Fd.BUF_TENUSE_UNITS : Fd := ⟨Reg.BUF_TENUSE, 0, 24⟩
def Fd.BUF_TENUSE_WAIT : Fd := ⟨Reg.BUF_TENUSE, 31, 1⟩
def Reg.BUF_ARG : Reg := ⟨Blk.BUF, 0x1000, 0x10, 128⟩
def Fd.BUF_ARG_HANDLE : Fd := ⟨Reg.BUF_ARG, 0, 32⟩
def Reg.BUF_OP : Reg := ⟨Blk.BUF, 0x1004, 0x10, 128⟩
def Fd.BUF_OP_OP : Fd := ⟨Reg.BUF_OP, 0, 3⟩
def Fd.BUF_OP_POOL : Fd := ⟨Reg.BUF_OP, 4, 2⟩
def Fd.BUF_OP_NOQUOTA : Fd := ⟨Reg.BUF_OP, 7, 1⟩
def Fd.BUF_OP_TENANT : Fd := ⟨Reg.BUF_OP, 8, 8⟩
def Fd.BUF_OP_MASTER : Fd := ⟨Reg.BUF_OP, 16, 7⟩
def Reg.BUF_RES : Reg := ⟨Blk.BUF, 0x1008, 0x10, 128⟩
def Fd.BUF_RES_DONE : Fd := ⟨Reg.BUF_RES, 0, 1⟩
def Fd.BUF_RES_STATUS : Fd := ⟨Reg.BUF_RES, 1, 3⟩
def Fd.BUF_RES_OWNERS : Fd := ⟨Reg.BUF_RES, 4, 3⟩
def Fd.BUF_RES_GRANTED : Fd := ⟨Reg.BUF_RES, 8, 2⟩
/-- The rows of block BUF (12 R387). -/
def regRowsBUF : List RegRow := [
  ⟨Reg.BUF_CAP, [⟨0, 1, .ro, 0x1, 0, 0x1⟩, ⟨8, 8, .ro, 0x6, 0, 0xff⟩]⟩,
  ⟨Reg.BUF_ALARM, [⟨0, 1, .w1c, 0x0, 0, 0x1⟩, ⟨1, 1, .w1c, 0x0, 0, 0x1⟩]⟩,
  ⟨Reg.BUF_LASTHANDLE, [⟨0, 32, .ro, 0x0, 0, 0xffffffff⟩]⟩,
  ⟨Reg.BUF_LASTBAD, [⟨0, 7, .ro, 0x0, 0, 0x7f⟩, ⟨7, 1, .ro, 0x0, 0, 0x1⟩]⟩,
  ⟨Reg.BUF_CNT_DFREE, [⟨0, 32, .ro, 0x0, 0, 0xffffffff⟩]⟩,
  ⟨Reg.BUF_CNT_FOREIGN, [⟨0, 32, .ro, 0x0, 0, 0xffffffff⟩]⟩,
  ⟨Reg.BUF_FREE, [⟨0, 16, .ro, 0x0, 0, 0xffff⟩, ⟨16, 16, .ro, 0x0, 0, 0xffff⟩]⟩,
  ⟨Reg.BUF_TENUSE, [⟨0, 24, .ro, 0x0, 0, 0xffffff⟩, ⟨31, 1, .ro, 0x0, 0, 0x1⟩]⟩,
  ⟨Reg.BUF_ARG, [⟨0, 32, .rw, 0x0, 0, 0xffffffff⟩]⟩,
  ⟨Reg.BUF_OP, [⟨0, 3, .wo, 0x0, 0, 0x7⟩, ⟨4, 2, .wo, 0x0, 0, 0x3⟩, ⟨7, 1, .wo, 0x0, 0, 0x1⟩, ⟨8, 8, .wo, 0x0, 0, 0xff⟩, ⟨16, 7, .wo, 0x0, 0, 0x7f⟩]⟩,
  ⟨Reg.BUF_RES, [⟨0, 1, .ro, 0x0, 0, 0x1⟩, ⟨1, 3, .ro, 0x0, 0, 0x7⟩, ⟨4, 3, .ro, 0x0, 0, 0x7⟩, ⟨8, 2, .ro, 0x0, 0, 0x3⟩]⟩]

/-! ### SAF block (chapter 13 R418) -/
def Reg.SAF_CAP : Reg := ⟨Blk.SAF, 0x0, 0x0, 1⟩
def Fd.SAF_CAP_PRESENT : Fd := ⟨Reg.SAF_CAP, 0, 1⟩
def Fd.SAF_CAP_INSTANCES : Fd := ⟨Reg.SAF_CAP, 8, 8⟩
def Reg.SAF_STATE : Reg := ⟨Blk.SAF, 0x4, 0x0, 1⟩
def Fd.SAF_STATE_HALFA : Fd := ⟨Reg.SAF_STATE, 0, 3⟩
def Fd.SAF_STATE_HALFB : Fd := ⟨Reg.SAF_STATE, 4, 3⟩
def Fd.SAF_STATE_FENCED : Fd := ⟨Reg.SAF_STATE, 8, 1⟩
def Fd.SAF_STATE_UNFITA : Fd := ⟨Reg.SAF_STATE, 16, 4⟩
def Fd.SAF_STATE_UNFITB : Fd := ⟨Reg.SAF_STATE, 20, 4⟩
def Reg.SAF_FAULT : Reg := ⟨Blk.SAF, 0x8, 0x0, 1⟩
def Fd.SAF_FAULT_HALF : Fd := ⟨Reg.SAF_FAULT, 0, 1⟩
def Fd.SAF_FAULT_CLASS : Fd := ⟨Reg.SAF_FAULT, 1, 3⟩
def Fd.SAF_FAULT_MECH : Fd := ⟨Reg.SAF_FAULT, 4, 4⟩
def Fd.SAF_FAULT_BEAT : Fd := ⟨Reg.SAF_FAULT, 8, 8⟩
def Fd.SAF_FAULT_SLICE : Fd := ⟨Reg.SAF_FAULT, 16, 3⟩
def Fd.SAF_FAULT_VALID : Fd := ⟨Reg.SAF_FAULT, 31, 1⟩
def Reg.SAF_CFG : Reg := ⟨Blk.SAF, 0xc, 0x0, 1⟩
def Fd.SAF_CFG_AUTORESTORE : Fd := ⟨Reg.SAF_CFG, 0, 1⟩
def Fd.SAF_CFG_HOLDCOUNT : Fd := ⟨Reg.SAF_CFG, 4, 4⟩
def Fd.SAF_CFG_SYNCBARS : Fd := ⟨Reg.SAF_CFG, 8, 8⟩
def Fd.SAF_CFG_DPLIM : Fd := ⟨Reg.SAF_CFG, 16, 4⟩
def Fd.SAF_CFG_RESTDELAY : Fd := ⟨Reg.SAF_CFG, 20, 12⟩
def Reg.SAF_CTRL : Reg := ⟨Blk.SAF, 0x10, 0x0, 1⟩
def Fd.SAF_CTRL_RESTORE : Fd := ⟨Reg.SAF_CTRL, 0, 1⟩
def Reg.SAF_FENCE : Reg := ⟨Blk.SAF, 0x14, 0x0, 1⟩
def Fd.SAF_FENCE_CAUSE : Fd := ⟨Reg.SAF_FENCE, 0, 3⟩
def Fd.SAF_FENCE_FLUSHER : Fd := ⟨Reg.SAF_FENCE, 3, 2⟩
def Fd.SAF_FENCE_FLUSHED : Fd := ⟨Reg.SAF_FENCE, 5, 1⟩
def Reg.SAF_HUBFLT : Reg := ⟨Blk.SAF, 0x18, 0x0, 1⟩
def Fd.SAF_HUBFLT_UNIT : Fd := ⟨Reg.SAF_HUBFLT, 0, 4⟩
def Fd.SAF_HUBFLT_VALID : Fd := ⟨Reg.SAF_HUBFLT, 31, 1⟩
def Reg.SAF_CNT_CONTROL : Reg := ⟨Blk.SAF, 0x20, 0x0, 1⟩
def Fd.SAF_CNT_CONTROL_COUNT : Fd := ⟨Reg.SAF_CNT_CONTROL, 0, 32⟩
def Reg.SAF_CNT_DATAPATH : Reg := ⟨Blk.SAF, 0x24, 0x0, 1⟩
def Fd.SAF_CNT_DATAPATH_COUNT : Fd := ⟨Reg.SAF_CNT_DATAPATH, 0, 32⟩
def Reg.SAF_CNT_DISCARD : Reg := ⟨Blk.SAF, 0x28, 0x0, 1⟩
def Fd.SAF_CNT_DISCARD_COUNT : Fd := ⟨Reg.SAF_CNT_DISCARD, 0, 32⟩
def Reg.SAF_CNT_SHADOW : Reg := ⟨Blk.SAF, 0x2c, 0x0, 1⟩
def Fd.SAF_CNT_SHADOW_COUNT : Fd := ⟨Reg.SAF_CNT_SHADOW, 0, 32⟩
def Reg.SAF_CNT_SRAMCORR : Reg := ⟨Blk.SAF, 0x30, 0x0, 1⟩
def Fd.SAF_CNT_SRAMCORR_COUNT : Fd := ⟨Reg.SAF_CNT_SRAMCORR, 0, 32⟩
def Reg.SAF_CNT_SRAMUNC : Reg := ⟨Blk.SAF, 0x34, 0x0, 1⟩
def Fd.SAF_CNT_SRAMUNC_COUNT : Fd := ⟨Reg.SAF_CNT_SRAMUNC, 0, 32⟩
/-- The rows of block SAF (13 R418). -/
def regRowsSAF : List RegRow := [
  ⟨Reg.SAF_CAP, [⟨0, 1, .ro, 0x1, 0, 0x1⟩, ⟨8, 8, .ro, 0x2, 0, 0xff⟩]⟩,
  ⟨Reg.SAF_STATE, [⟨0, 3, .ro, 0x0, 0, 0x7⟩, ⟨4, 3, .ro, 0x0, 0, 0x7⟩, ⟨8, 1, .ro, 0x0, 0, 0x1⟩, ⟨16, 4, .ro, 0x0, 0, 0xf⟩, ⟨20, 4, .ro, 0x0, 0, 0xf⟩]⟩,
  ⟨Reg.SAF_FAULT, [⟨0, 1, .ro, 0x0, 0, 0x1⟩, ⟨1, 3, .ro, 0x0, 0, 0x7⟩, ⟨4, 4, .ro, 0x0, 0, 0xf⟩, ⟨8, 8, .ro, 0x0, 0, 0xff⟩, ⟨16, 3, .ro, 0x0, 0, 0x7⟩, ⟨31, 1, .w1c, 0x0, 0, 0x1⟩]⟩,
  ⟨Reg.SAF_CFG, [⟨0, 1, .rw, 0x1, 0, 0x1⟩, ⟨4, 4, .rw, 0x3, 1, 0xf⟩, ⟨8, 8, .rw, 0x10, 1, 0xff⟩, ⟨16, 4, .rw, 0x4, 1, 0xf⟩, ⟨20, 12, .rw, 0xa, 0, 0xfff⟩]⟩,
  ⟨Reg.SAF_CTRL, [⟨0, 1, .w1s, 0x0, 0, 0x1⟩]⟩,
  ⟨Reg.SAF_FENCE, [⟨0, 3, .ro, 0x0, 0, 0x7⟩, ⟨3, 2, .ro, 0x0, 0, 0x3⟩, ⟨5, 1, .ro, 0x0, 0, 0x1⟩]⟩,
  ⟨Reg.SAF_HUBFLT, [⟨0, 4, .ro, 0x0, 0, 0xf⟩, ⟨31, 1, .ro, 0x0, 0, 0x1⟩]⟩,
  ⟨Reg.SAF_CNT_CONTROL, [⟨0, 32, .ro, 0x0, 0, 0xffffffff⟩]⟩,
  ⟨Reg.SAF_CNT_DATAPATH, [⟨0, 32, .ro, 0x0, 0, 0xffffffff⟩]⟩,
  ⟨Reg.SAF_CNT_DISCARD, [⟨0, 32, .ro, 0x0, 0, 0xffffffff⟩]⟩,
  ⟨Reg.SAF_CNT_SHADOW, [⟨0, 32, .ro, 0x0, 0, 0xffffffff⟩]⟩,
  ⟨Reg.SAF_CNT_SRAMCORR, [⟨0, 32, .ro, 0x0, 0, 0xffffffff⟩]⟩,
  ⟨Reg.SAF_CNT_SRAMUNC, [⟨0, 32, .ro, 0x0, 0, 0xffffffff⟩]⟩]

/-! ### CLP block (chapter 13 R419) -/
def Reg.CLP_CAP : Reg := ⟨Blk.CLP, 0x0, 0x0, 1⟩
def Fd.CLP_CAP_PRESENT : Fd := ⟨Reg.CLP_CAP, 0, 1⟩
def Fd.CLP_CAP_INSTANCES : Fd := ⟨Reg.CLP_CAP, 8, 8⟩
def Reg.CLP_EPOCH : Reg := ⟨Blk.CLP, 0x4, 0x0, 1⟩
def Fd.CLP_EPOCH_EPOCH : Fd := ⟨Reg.CLP_EPOCH, 0, 32⟩
def Reg.CLP_STAT : Reg := ⟨Blk.CLP, 0x8, 0x0, 1⟩
def Fd.CLP_STAT_HOLDER : Fd := ⟨Reg.CLP_STAT, 0, 1⟩
def Fd.CLP_STAT_HELD : Fd := ⟨Reg.CLP_STAT, 1, 1⟩
def Fd.CLP_STAT_LEASE : Fd := ⟨Reg.CLP_STAT, 2, 3⟩
def Fd.CLP_STAT_HOLD : Fd := ⟨Reg.CLP_STAT, 5, 1⟩
def Fd.CLP_STAT_WITHDRAWN : Fd := ⟨Reg.CLP_STAT, 6, 1⟩
def Reg.CLP_TAKEOVER : Reg := ⟨Blk.CLP, 0xc, 0x0, 1⟩
def Fd.CLP_TAKEOVER_HOLDBEATS : Fd := ⟨Reg.CLP_TAKEOVER, 0, 4⟩
def Fd.CLP_TAKEOVER_PLANNED : Fd := ⟨Reg.CLP_TAKEOVER, 4, 1⟩
def Fd.CLP_TAKEOVER_COUNT : Fd := ⟨Reg.CLP_TAKEOVER, 16, 16⟩
def Reg.CLP_DRILLCFG : Reg := ⟨Blk.CLP, 0x10, 0x0, 1⟩
def Fd.CLP_DRILLCFG_PERIOD : Fd := ⟨Reg.CLP_DRILLCFG, 0, 8⟩
def Fd.CLP_DRILLCFG_WIN : Fd := ⟨Reg.CLP_DRILLCFG, 16, 12⟩
def Reg.CLP_DRILLCTRL : Reg := ⟨Blk.CLP, 0x14, 0x0, 1⟩
def Fd.CLP_DRILLCTRL_NOW : Fd := ⟨Reg.CLP_DRILLCTRL, 0, 1⟩
def Reg.CLP_DRILLSTAT : Reg := ⟨Blk.CLP, 0x18, 0x0, 1⟩
def Fd.CLP_DRILLSTAT_STATE : Fd := ⟨Reg.CLP_DRILLSTAT, 0, 3⟩
def Fd.CLP_DRILLSTAT_LAST : Fd := ⟨Reg.CLP_DRILLSTAT, 3, 2⟩
def Fd.CLP_DRILLSTAT_DEFERRED : Fd := ⟨Reg.CLP_DRILLSTAT, 16, 16⟩
def Reg.CLP_CNT_DRILL : Reg := ⟨Blk.CLP, 0x1c, 0x0, 1⟩
def Fd.CLP_CNT_DRILL_PASSED : Fd := ⟨Reg.CLP_CNT_DRILL, 0, 16⟩
def Fd.CLP_CNT_DRILL_FAILED : Fd := ⟨Reg.CLP_CNT_DRILL, 16, 16⟩
/-- The rows of block CLP (13 R419). -/
def regRowsCLP : List RegRow := [
  ⟨Reg.CLP_CAP, [⟨0, 1, .ro, 0x1, 0, 0x1⟩, ⟨8, 8, .ro, 0x1, 0, 0xff⟩]⟩,
  ⟨Reg.CLP_EPOCH, [⟨0, 32, .ro, 0x0, 0, 0xffffffff⟩]⟩,
  ⟨Reg.CLP_STAT, [⟨0, 1, .ro, 0x0, 0, 0x1⟩, ⟨1, 1, .ro, 0x0, 0, 0x1⟩, ⟨2, 3, .ro, 0x0, 0, 0x7⟩, ⟨5, 1, .ro, 0x0, 0, 0x1⟩, ⟨6, 1, .ro, 0x0, 0, 0x1⟩]⟩,
  ⟨Reg.CLP_TAKEOVER, [⟨0, 4, .ro, 0x0, 0, 0xf⟩, ⟨4, 1, .ro, 0x0, 0, 0x1⟩, ⟨16, 16, .ro, 0x0, 0, 0xffff⟩]⟩,
  ⟨Reg.CLP_DRILLCFG, [⟨0, 8, .rw, 0x18, 1, 0xa8⟩, ⟨16, 12, .rw, 0x64, 1, 0xfff⟩]⟩,
  ⟨Reg.CLP_DRILLCTRL, [⟨0, 1, .w1s, 0x0, 0, 0x1⟩]⟩,
  ⟨Reg.CLP_DRILLSTAT, [⟨0, 3, .ro, 0x0, 0, 0x7⟩, ⟨3, 2, .ro, 0x0, 0, 0x3⟩, ⟨16, 16, .ro, 0x0, 0, 0xffff⟩]⟩,
  ⟨Reg.CLP_CNT_DRILL, [⟨0, 16, .ro, 0x0, 0, 0xffff⟩, ⟨16, 16, .ro, 0x0, 0, 0xffff⟩]⟩]

/-! ### CHM block (chapter 14 R437) -/
def Reg.CHM_CAP : Reg := ⟨Blk.CHM, 0x0, 0x0, 1⟩
def Fd.CHM_CAP_PRESENT : Fd := ⟨Reg.CHM_CAP, 0, 1⟩
def Fd.CHM_CAP_INSTANCES : Fd := ⟨Reg.CHM_CAP, 8, 8⟩
def Reg.CHM_CNT_FULL : Reg := ⟨Blk.CHM, 0x4, 0x0, 1⟩
def Fd.CHM_CNT_FULL_COUNT : Fd := ⟨Reg.CHM_CNT_FULL, 0, 32⟩
def Reg.CHM_CNT_DROP : Reg := ⟨Blk.CHM, 0x8, 0x0, 1⟩
def Fd.CHM_CNT_DROP_COUNT : Fd := ⟨Reg.CHM_CNT_DROP, 0, 32⟩
def Reg.CHM_CNT_BAD : Reg := ⟨Blk.CHM, 0xc, 0x0, 1⟩
def Fd.CHM_CNT_BAD_COUNT : Fd := ⟨Reg.CHM_CNT_BAD, 0, 32⟩
def Reg.CHM_TXLO : Reg := ⟨Blk.CHM, 0x100, 0x40, 26⟩
def Fd.CHM_TXLO_DATA : Fd := ⟨Reg.CHM_TXLO, 0, 32⟩
def Reg.CHM_TXHI : Reg := ⟨Blk.CHM, 0x104, 0x40, 26⟩
def Fd.CHM_TXHI_DATA : Fd := ⟨Reg.CHM_TXHI, 0, 32⟩
def Reg.CHM_TXCTRL : Reg := ⟨Blk.CHM, 0x108, 0x40, 26⟩
def Fd.CHM_TXCTRL_DEST : Fd := ⟨Reg.CHM_TXCTRL, 0, 5⟩
def Reg.CHM_TXSTAT : Reg := ⟨Blk.CHM, 0x10c, 0x40, 26⟩
def Fd.CHM_TXSTAT_LAST : Fd := ⟨Reg.CHM_TXSTAT, 0, 2⟩
def Fd.CHM_TXSTAT_OUTWAIT : Fd := ⟨Reg.CHM_TXSTAT, 2, 1⟩
def Fd.CHM_TXSTAT_INPEND : Fd := ⟨Reg.CHM_TXSTAT, 3, 1⟩
def Fd.CHM_TXSTAT_DRAIN : Fd := ⟨Reg.CHM_TXSTAT, 4, 1⟩
def Fd.CHM_TXSTAT_SEQ : Fd := ⟨Reg.CHM_TXSTAT, 8, 8⟩
def Reg.CHM_TXFULL : Reg := ⟨Blk.CHM, 0x110, 0x40, 26⟩
def Fd.CHM_TXFULL_CHAN : Fd := ⟨Reg.CHM_TXFULL, 0, 26⟩
def Reg.CHM_INPEND : Reg := ⟨Blk.CHM, 0x114, 0x40, 26⟩
def Fd.CHM_INPEND_CHAN : Fd := ⟨Reg.CHM_INPEND, 0, 26⟩
def Reg.CHM_RXSEL : Reg := ⟨Blk.CHM, 0x118, 0x40, 26⟩
def Fd.CHM_RXSEL_SRC : Fd := ⟨Reg.CHM_RXSEL, 0, 5⟩
def Fd.CHM_RXSEL_VALID : Fd := ⟨Reg.CHM_RXSEL, 8, 1⟩
def Fd.CHM_RXSEL_SEQ : Fd := ⟨Reg.CHM_RXSEL, 16, 8⟩
def Reg.CHM_RXLO : Reg := ⟨Blk.CHM, 0x11c, 0x40, 26⟩
def Fd.CHM_RXLO_DATA : Fd := ⟨Reg.CHM_RXLO, 0, 32⟩
def Reg.CHM_RXHI : Reg := ⟨Blk.CHM, 0x120, 0x40, 26⟩
def Fd.CHM_RXHI_DATA : Fd := ⟨Reg.CHM_RXHI, 0, 32⟩
def Reg.CHM_RXACK : Reg := ⟨Blk.CHM, 0x124, 0x40, 26⟩
def Fd.CHM_RXACK_ACK : Fd := ⟨Reg.CHM_RXACK, 0, 1⟩
def Reg.CHM_IRQEN : Reg := ⟨Blk.CHM, 0x128, 0x40, 26⟩
def Fd.CHM_IRQEN_EN : Fd := ⟨Reg.CHM_IRQEN, 0, 26⟩
/-- The rows of block CHM (14 R437). -/
def regRowsCHM : List RegRow := [
  ⟨Reg.CHM_CAP, [⟨0, 1, .ro, 0x1, 0, 0x1⟩, ⟨8, 8, .ro, 0x1a, 0, 0xff⟩]⟩,
  ⟨Reg.CHM_CNT_FULL, [⟨0, 32, .ro, 0x0, 0, 0xffffffff⟩]⟩,
  ⟨Reg.CHM_CNT_DROP, [⟨0, 32, .ro, 0x0, 0, 0xffffffff⟩]⟩,
  ⟨Reg.CHM_CNT_BAD, [⟨0, 32, .ro, 0x0, 0, 0xffffffff⟩]⟩,
  ⟨Reg.CHM_TXLO, [⟨0, 32, .rw, 0x0, 0, 0xffffffff⟩]⟩,
  ⟨Reg.CHM_TXHI, [⟨0, 32, .rw, 0x0, 0, 0xffffffff⟩]⟩,
  ⟨Reg.CHM_TXCTRL, [⟨0, 5, .wo, 0x0, 0, 0x1f⟩]⟩,
  ⟨Reg.CHM_TXSTAT, [⟨0, 2, .ro, 0x0, 0, 0x3⟩, ⟨2, 1, .ro, 0x0, 0, 0x1⟩, ⟨3, 1, .ro, 0x0, 0, 0x1⟩, ⟨4, 1, .ro, 0x0, 0, 0x1⟩, ⟨8, 8, .ro, 0x0, 0, 0xff⟩]⟩,
  ⟨Reg.CHM_TXFULL, [⟨0, 26, .ro, 0x0, 0, 0x3ffffff⟩]⟩,
  ⟨Reg.CHM_INPEND, [⟨0, 26, .ro, 0x0, 0, 0x3ffffff⟩]⟩,
  ⟨Reg.CHM_RXSEL, [⟨0, 5, .rw, 0x0, 0, 0x1f⟩, ⟨8, 1, .ro, 0x0, 0, 0x1⟩, ⟨16, 8, .ro, 0x0, 0, 0xff⟩]⟩,
  ⟨Reg.CHM_RXLO, [⟨0, 32, .ro, 0x0, 0, 0xffffffff⟩]⟩,
  ⟨Reg.CHM_RXHI, [⟨0, 32, .ro, 0x0, 0, 0xffffffff⟩]⟩,
  ⟨Reg.CHM_RXACK, [⟨0, 1, .wo, 0x0, 0, 0x1⟩]⟩,
  ⟨Reg.CHM_IRQEN, [⟨0, 26, .rw, 0x0, 0, 0x3ffffff⟩]⟩]

/-! ### SEM block (chapter 14 R438) -/
def Reg.SEM_CAP : Reg := ⟨Blk.SEM, 0x0, 0x0, 1⟩
def Fd.SEM_CAP_PRESENT : Fd := ⟨Reg.SEM_CAP, 0, 1⟩
def Fd.SEM_CAP_INSTANCES : Fd := ⟨Reg.SEM_CAP, 8, 8⟩
def Reg.SEM_FORCE : Reg := ⟨Blk.SEM, 0x4, 0x0, 1⟩
def Fd.SEM_FORCE_LOCK : Fd := ⟨Reg.SEM_FORCE, 0, 6⟩
def Fd.SEM_FORCE_GO : Fd := ⟨Reg.SEM_FORCE, 31, 1⟩
def Reg.SEM_CNT_CONTEND : Reg := ⟨Blk.SEM, 0x10, 0x0, 1⟩
def Fd.SEM_CNT_CONTEND_COUNT : Fd := ⟨Reg.SEM_CNT_CONTEND, 0, 32⟩
def Reg.SEM_CNT_BADREL : Reg := ⟨Blk.SEM, 0x14, 0x0, 1⟩
def Fd.SEM_CNT_BADREL_COUNT : Fd := ⟨Reg.SEM_CNT_BADREL, 0, 32⟩
def Reg.SEM_CNT_FORCE : Reg := ⟨Blk.SEM, 0x18, 0x0, 1⟩
def Fd.SEM_CNT_FORCE_COUNT : Fd := ⟨Reg.SEM_CNT_FORCE, 0, 32⟩
def Reg.SEM_LOCK : Reg := ⟨Blk.SEM, 0x100, 0x4, 64⟩
def Fd.SEM_LOCK_ACQUIRED : Fd := ⟨Reg.SEM_LOCK, 0, 1⟩
def Fd.SEM_LOCK_HELD : Fd := ⟨Reg.SEM_LOCK, 1, 1⟩
def Fd.SEM_LOCK_HOLDER : Fd := ⟨Reg.SEM_LOCK, 8, 7⟩
def Fd.SEM_LOCK_RELEASE : Fd := ⟨Reg.SEM_LOCK, 31, 1⟩
def Reg.SEM_PEEK : Reg := ⟨Blk.SEM, 0x200, 0x4, 64⟩
def Fd.SEM_PEEK_HELD : Fd := ⟨Reg.SEM_PEEK, 1, 1⟩
def Fd.SEM_PEEK_HOLDER : Fd := ⟨Reg.SEM_PEEK, 8, 7⟩
/-- The rows of block SEM (14 R438). -/
def regRowsSEM : List RegRow := [
  ⟨Reg.SEM_CAP, [⟨0, 1, .ro, 0x1, 0, 0x1⟩, ⟨8, 8, .ro, 0x40, 0, 0xff⟩]⟩,
  ⟨Reg.SEM_FORCE, [⟨0, 6, .rw, 0x0, 0, 0x3f⟩, ⟨31, 1, .w1s, 0x0, 0, 0x1⟩]⟩,
  ⟨Reg.SEM_CNT_CONTEND, [⟨0, 32, .ro, 0x0, 0, 0xffffffff⟩]⟩,
  ⟨Reg.SEM_CNT_BADREL, [⟨0, 32, .ro, 0x0, 0, 0xffffffff⟩]⟩,
  ⟨Reg.SEM_CNT_FORCE, [⟨0, 32, .ro, 0x0, 0, 0xffffffff⟩]⟩,
  ⟨Reg.SEM_LOCK, [⟨0, 1, .ro, 0x0, 0, 0x1⟩, ⟨1, 1, .ro, 0x0, 0, 0x1⟩, ⟨8, 7, .ro, 0x0, 0, 0x7f⟩, ⟨31, 1, .wo, 0x0, 0, 0x1⟩]⟩,
  ⟨Reg.SEM_PEEK, [⟨1, 1, .ro, 0x0, 0, 0x1⟩, ⟨8, 7, .ro, 0x0, 0, 0x7f⟩]⟩]

/-! ### BTA block (chapter 15 R466) -/
def Reg.BTA_CAP : Reg := ⟨Blk.BTA, 0x0, 0x0, 1⟩
def Fd.BTA_CAP_PRESENT : Fd := ⟨Reg.BTA_CAP, 0, 1⟩
def Fd.BTA_CAP_INSTANCES : Fd := ⟨Reg.BTA_CAP, 8, 8⟩
def Reg.BTA_STAT : Reg := ⟨Blk.BTA, 0x4, 0x0, 1⟩
def Fd.BTA_STAT_RUNBANK : Fd := ⟨Reg.BTA_STAT, 0, 1⟩
def Fd.BTA_STAT_FETCH0 : Fd := ⟨Reg.BTA_STAT, 1, 1⟩
def Fd.BTA_STAT_FETCH1 : Fd := ⟨Reg.BTA_STAT, 2, 1⟩
def Fd.BTA_STAT_OPBUSY : Fd := ⟨Reg.BTA_STAT, 3, 1⟩
def Fd.BTA_STAT_REWRITE : Fd := ⟨Reg.BTA_STAT, 4, 1⟩
def Fd.BTA_STAT_BROWN : Fd := ⟨Reg.BTA_STAT, 5, 1⟩
def Fd.BTA_STAT_STATE0 : Fd := ⟨Reg.BTA_STAT, 8, 3⟩
def Fd.BTA_STAT_STATE1 : Fd := ⟨Reg.BTA_STAT, 12, 3⟩
def Reg.BTA_OPCTRL : Reg := ⟨Blk.BTA, 0x8, 0x0, 1⟩
def Fd.BTA_OPCTRL_OP : Fd := ⟨Reg.BTA_OPCTRL, 0, 2⟩
def Fd.BTA_OPCTRL_COUNT : Fd := ⟨Reg.BTA_OPCTRL, 8, 7⟩
def Reg.BTA_OPADDR : Reg := ⟨Blk.BTA, 0xc, 0x0, 1⟩
def Fd.BTA_OPADDR_ADDR : Fd := ⟨Reg.BTA_OPADDR, 3, 22⟩
def Reg.BTA_OPSTAT : Reg := ⟨Blk.BTA, 0x10, 0x0, 1⟩
def Fd.BTA_OPSTAT_DONE : Fd := ⟨Reg.BTA_OPSTAT, 0, 1⟩
def Fd.BTA_OPSTAT_STATUS : Fd := ⟨Reg.BTA_OPSTAT, 1, 4⟩
def Fd.BTA_OPSTAT_SEQ : Fd := ⟨Reg.BTA_OPSTAT, 16, 16⟩
def Reg.BTA_BOOTSTAT : Reg := ⟨Blk.BTA, 0x14, 0x0, 1⟩
def Fd.BTA_BOOTSTAT_STEP : Fd := ⟨Reg.BTA_BOOTSTAT, 0, 5⟩
def Fd.BTA_BOOTSTAT_BANK : Fd := ⟨Reg.BTA_BOOTSTAT, 5, 1⟩
def Fd.BTA_BOOTSTAT_HALF : Fd := ⟨Reg.BTA_BOOTSTAT, 6, 1⟩
def Fd.BTA_BOOTSTAT_ATTEMPT : Fd := ⟨Reg.BTA_BOOTSTAT, 8, 2⟩
def Fd.BTA_BOOTSTAT_CAUSE : Fd := ⟨Reg.BTA_BOOTSTAT, 12, 4⟩
def Fd.BTA_BOOTSTAT_PROGRESS : Fd := ⟨Reg.BTA_BOOTSTAT, 16, 16⟩
def Reg.BTA_REPAIR : Reg := ⟨Blk.BTA, 0x18, 0x0, 1⟩
def Fd.BTA_REPAIR_ENTRIES : Fd := ⟨Reg.BTA_REPAIR, 0, 7⟩
def Fd.BTA_REPAIR_FULL : Fd := ⟨Reg.BTA_REPAIR, 7, 1⟩
def Fd.BTA_REPAIR_SPARE0 : Fd := ⟨Reg.BTA_REPAIR, 8, 8⟩
def Fd.BTA_REPAIR_SPARE1 : Fd := ⟨Reg.BTA_REPAIR, 16, 8⟩
def Fd.BTA_REPAIR_UNUSABLE : Fd := ⟨Reg.BTA_REPAIR, 24, 8⟩
def Reg.BTA_CNT_BUSY : Reg := ⟨Blk.BTA, 0x1c, 0x0, 1⟩
def Fd.BTA_CNT_BUSY_COUNT : Fd := ⟨Reg.BTA_CNT_BUSY, 0, 32⟩
def Reg.BTA_CNT_BROWNOUT : Reg := ⟨Blk.BTA, 0x20, 0x0, 1⟩
def Fd.BTA_CNT_BROWNOUT_COUNT : Fd := ⟨Reg.BTA_CNT_BROWNOUT, 0, 32⟩
def Reg.BTA_BUF : Reg := ⟨Blk.BTA, 0x100, 0x4, 128⟩
def Fd.BTA_BUF_DATA : Fd := ⟨Reg.BTA_BUF, 0, 32⟩
/-- The rows of block BTA (15 R466). -/
def regRowsBTA : List RegRow := [
  ⟨Reg.BTA_CAP, [⟨0, 1, .ro, 0x1, 0, 0x1⟩, ⟨8, 8, .ro, 0x2, 0, 0xff⟩]⟩,
  ⟨Reg.BTA_STAT, [⟨0, 1, .ro, 0x0, 0, 0x1⟩, ⟨1, 1, .ro, 0x0, 0, 0x1⟩, ⟨2, 1, .ro, 0x0, 0, 0x1⟩, ⟨3, 1, .ro, 0x0, 0, 0x1⟩, ⟨4, 1, .ro, 0x0, 0, 0x1⟩, ⟨5, 1, .ro, 0x0, 0, 0x1⟩, ⟨8, 3, .ro, 0x0, 0, 0x7⟩, ⟨12, 3, .ro, 0x0, 0, 0x7⟩]⟩,
  ⟨Reg.BTA_OPCTRL, [⟨0, 2, .wo, 0x0, 0, 0x3⟩, ⟨8, 7, .rw, 0x0, 0, 0x40⟩]⟩,
  ⟨Reg.BTA_OPADDR, [⟨3, 22, .rw, 0x0, 0, 0x3fffff⟩]⟩,
  ⟨Reg.BTA_OPSTAT, [⟨0, 1, .w1c, 0x0, 0, 0x1⟩, ⟨1, 4, .ro, 0x0, 0, 0xf⟩, ⟨16, 16, .ro, 0x0, 0, 0xffff⟩]⟩,
  ⟨Reg.BTA_BOOTSTAT, [⟨0, 5, .ro, 0x0, 0, 0x1f⟩, ⟨5, 1, .ro, 0x0, 0, 0x1⟩, ⟨6, 1, .ro, 0x0, 0, 0x1⟩, ⟨8, 2, .ro, 0x0, 0, 0x3⟩, ⟨12, 4, .ro, 0x0, 0, 0xf⟩, ⟨16, 16, .rw, 0x0, 0, 0xffff⟩]⟩,
  ⟨Reg.BTA_REPAIR, [⟨0, 7, .ro, 0x0, 0, 0x7f⟩, ⟨7, 1, .ro, 0x0, 0, 0x1⟩, ⟨8, 8, .ro, 0xfe, 0, 0xff⟩, ⟨16, 8, .ro, 0xfe, 0, 0xff⟩, ⟨24, 8, .ro, 0x0, 0, 0xff⟩]⟩,
  ⟨Reg.BTA_CNT_BUSY, [⟨0, 32, .ro, 0x0, 0, 0xffffffff⟩]⟩,
  ⟨Reg.BTA_CNT_BROWNOUT, [⟨0, 32, .ro, 0x0, 0, 0xffffffff⟩]⟩,
  ⟨Reg.BTA_BUF, [⟨0, 32, .rw, 0xffffffff, 0, 0xffffffff⟩]⟩]

/-! ### SVC block (chapter 16 R497) -/
def Reg.SVC_CAP : Reg := ⟨Blk.SVC, 0x0, 0x0, 1⟩
def Fd.SVC_CAP_PRESENT : Fd := ⟨Reg.SVC_CAP, 0, 1⟩
def Fd.SVC_CAP_INSTANCES : Fd := ⟨Reg.SVC_CAP, 8, 8⟩
def Reg.SVC_I3C : Reg := ⟨Blk.SVC, 0x4, 0x0, 1⟩
def Fd.SVC_I3C_DA : Fd := ⟨Reg.SVC_I3C, 0, 7⟩
def Fd.SVC_I3C_DAVALID : Fd := ⟨Reg.SVC_I3C, 7, 1⟩
def Fd.SVC_I3C_IBIEN : Fd := ⟨Reg.SVC_I3C, 8, 1⟩
def Fd.SVC_I3C_TU : Fd := ⟨Reg.SVC_I3C, 16, 8⟩
def Reg.SVC_MCTP : Reg := ⟨Blk.SVC, 0x8, 0x0, 1⟩
def Fd.SVC_MCTP_EID : Fd := ⟨Reg.SVC_MCTP, 0, 8⟩
def Fd.SVC_MCTP_EIDVALID : Fd := ⟨Reg.SVC_MCTP, 8, 1⟩
def Reg.SVC_SESS : Reg := ⟨Blk.SVC, 0xc, 0x0, 1⟩
def Fd.SVC_SESS_OPEN : Fd := ⟨Reg.SVC_SESS, 0, 3⟩
def Fd.SVC_SESS_OPERATOR : Fd := ⟨Reg.SVC_SESS, 4, 3⟩
def Reg.SVC_PLDMSTAT : Reg := ⟨Blk.SVC, 0x10, 0x0, 1⟩
def Fd.SVC_PLDMSTAT_STATE : Fd := ⟨Reg.SVC_PLDMSTAT, 0, 4⟩
def Fd.SVC_PLDMSTAT_TARGET : Fd := ⟨Reg.SVC_PLDMSTAT, 4, 1⟩
def Fd.SVC_PLDMSTAT_COMP : Fd := ⟨Reg.SVC_PLDMSTAT, 5, 3⟩
def Fd.SVC_PLDMSTAT_REASON : Fd := ⟨Reg.SVC_PLDMSTAT, 8, 4⟩
def Fd.SVC_PLDMSTAT_PROGRESS : Fd := ⟨Reg.SVC_PLDMSTAT, 16, 16⟩
def Reg.SVC_CONSOLE : Reg := ⟨Blk.SVC, 0x14, 0x0, 1⟩
def Fd.SVC_CONSOLE_LEVEL : Fd := ⟨Reg.SVC_CONSOLE, 0, 2⟩
def Fd.SVC_CONSOLE_REMAIN : Fd := ⟨Reg.SVC_CONSOLE, 16, 16⟩
def Reg.SVC_CNT_PKTERR : Reg := ⟨Blk.SVC, 0x18, 0x0, 1⟩
def Fd.SVC_CNT_PKTERR_COUNT : Fd := ⟨Reg.SVC_CNT_PKTERR, 0, 32⟩
def Reg.SVC_CNT_AUTHFAIL : Reg := ⟨Blk.SVC, 0x1c, 0x0, 1⟩
def Fd.SVC_CNT_AUTHFAIL_COUNT : Fd := ⟨Reg.SVC_CNT_AUTHFAIL, 0, 32⟩
def Reg.SVC_CNT_CMD : Reg := ⟨Blk.SVC, 0x20, 0x0, 1⟩
def Fd.SVC_CNT_CMD_COUNT : Fd := ⟨Reg.SVC_CNT_CMD, 0, 32⟩
/-- The rows of block SVC (16 R497). -/
def regRowsSVC : List RegRow := [
  ⟨Reg.SVC_CAP, [⟨0, 1, .ro, 0x1, 0, 0x1⟩, ⟨8, 8, .ro, 0x1, 0, 0xff⟩]⟩,
  ⟨Reg.SVC_I3C, [⟨0, 7, .ro, 0x0, 0, 0x7f⟩, ⟨7, 1, .ro, 0x0, 0, 0x1⟩, ⟨8, 1, .ro, 0x0, 0, 0x1⟩, ⟨16, 8, .ro, 0x40, 0, 0xff⟩]⟩,
  ⟨Reg.SVC_MCTP, [⟨0, 8, .ro, 0x0, 0, 0xff⟩, ⟨8, 1, .ro, 0x0, 0, 0x1⟩]⟩,
  ⟨Reg.SVC_SESS, [⟨0, 3, .ro, 0x0, 0, 0x7⟩, ⟨4, 3, .ro, 0x0, 0, 0x7⟩]⟩,
  ⟨Reg.SVC_PLDMSTAT, [⟨0, 4, .ro, 0x0, 0, 0xf⟩, ⟨4, 1, .ro, 0x0, 0, 0x1⟩, ⟨5, 3, .ro, 0x0, 0, 0x7⟩, ⟨8, 4, .ro, 0x0, 0, 0xf⟩, ⟨16, 16, .ro, 0x0, 0, 0xffff⟩]⟩,
  ⟨Reg.SVC_CONSOLE, [⟨0, 2, .ro, 0x0, 0, 0x3⟩, ⟨16, 16, .ro, 0x0, 0, 0xffff⟩]⟩,
  ⟨Reg.SVC_CNT_PKTERR, [⟨0, 32, .ro, 0x0, 0, 0xffffffff⟩]⟩,
  ⟨Reg.SVC_CNT_AUTHFAIL, [⟨0, 32, .ro, 0x0, 0, 0xffffffff⟩]⟩,
  ⟨Reg.SVC_CNT_CMD, [⟨0, 32, .ro, 0x0, 0, 0xffffffff⟩]⟩]

/-! ### SEC block (chapter 16 R498) -/
def Reg.SEC_CAP : Reg := ⟨Blk.SEC, 0x0, 0x0, 1⟩
def Fd.SEC_CAP_PRESENT : Fd := ⟨Reg.SEC_CAP, 0, 1⟩
def Fd.SEC_CAP_INSTANCES : Fd := ⟨Reg.SEC_CAP, 8, 8⟩
def Reg.SEC_FUSE : Reg := ⟨Blk.SEC, 0x4, 0x0, 1⟩
def Fd.SEC_FUSE_UDS : Fd := ⟨Reg.SEC_FUSE, 0, 1⟩
def Fd.SEC_FUSE_FWKEY : Fd := ⟨Reg.SEC_FUSE, 1, 1⟩
def Fd.SEC_FUSE_OPKEY : Fd := ⟨Reg.SEC_FUSE, 2, 1⟩
def Fd.SEC_FUSE_SECVER : Fd := ⟨Reg.SEC_FUSE, 8, 6⟩
def Fd.SEC_FUSE_KEKGEN : Fd := ⟨Reg.SEC_FUSE, 16, 7⟩
def Reg.SEC_FMT : Reg := ⟨Blk.SEC, 0x8, 0x0, 1⟩
def Fd.SEC_FMT_STATEFMT : Fd := ⟨Reg.SEC_FMT, 0, 16⟩
def Fd.SEC_FMT_FALLBACK : Fd := ⟨Reg.SEC_FMT, 16, 16⟩
def Reg.SEC_STAT : Reg := ⟨Blk.SEC, 0xc, 0x0, 1⟩
def Fd.SEC_STAT_DUAL : Fd := ⟨Reg.SEC_STAT, 0, 1⟩
def Fd.SEC_STAT_RNGOK : Fd := ⟨Reg.SEC_STAT, 1, 1⟩
def Fd.SEC_STAT_ALIAS : Fd := ⟨Reg.SEC_STAT, 2, 1⟩
def Fd.SEC_STAT_KEYBLK : Fd := ⟨Reg.SEC_STAT, 3, 1⟩
def Fd.SEC_STAT_NSKEYS : Fd := ⟨Reg.SEC_STAT, 16, 11⟩
def Reg.SEC_SANITIZE : Reg := ⟨Blk.SEC, 0x10, 0x0, 1⟩
def Fd.SEC_SANITIZE_STATE : Fd := ⟨Reg.SEC_SANITIZE, 0, 2⟩
def Fd.SEC_SANITIZE_ACTION : Fd := ⟨Reg.SEC_SANITIZE, 2, 3⟩
def Fd.SEC_SANITIZE_STEP : Fd := ⟨Reg.SEC_SANITIZE, 5, 3⟩
def Fd.SEC_SANITIZE_PROGRESS : Fd := ⟨Reg.SEC_SANITIZE, 8, 8⟩
def Reg.SEC_CNT_VERIFYFAIL : Reg := ⟨Blk.SEC, 0x14, 0x0, 1⟩
def Fd.SEC_CNT_VERIFYFAIL_COUNT : Fd := ⟨Reg.SEC_CNT_VERIFYFAIL, 0, 32⟩
def Reg.SEC_CNT_UNWRAPFAIL : Reg := ⟨Blk.SEC, 0x18, 0x0, 1⟩
def Fd.SEC_CNT_UNWRAPFAIL_COUNT : Fd := ⟨Reg.SEC_CNT_UNWRAPFAIL, 0, 32⟩
def Reg.SEC_CNT_RNGFAIL : Reg := ⟨Blk.SEC, 0x1c, 0x0, 1⟩
def Fd.SEC_CNT_RNGFAIL_COUNT : Fd := ⟨Reg.SEC_CNT_RNGFAIL, 0, 32⟩
/-- The rows of block SEC (16 R498). -/
def regRowsSEC : List RegRow := [
  ⟨Reg.SEC_CAP, [⟨0, 1, .ro, 0x1, 0, 0x1⟩, ⟨8, 8, .ro, 0x1, 0, 0xff⟩]⟩,
  ⟨Reg.SEC_FUSE, [⟨0, 1, .ro, 0x0, 0, 0x1⟩, ⟨1, 1, .ro, 0x0, 0, 0x1⟩, ⟨2, 1, .ro, 0x0, 0, 0x1⟩, ⟨8, 6, .ro, 0x0, 0, 0x3f⟩, ⟨16, 7, .ro, 0x0, 0, 0x7f⟩]⟩,
  ⟨Reg.SEC_FMT, [⟨0, 16, .ro, 0x0, 0, 0xffff⟩, ⟨16, 16, .ro, 0x0, 0, 0xffff⟩]⟩,
  ⟨Reg.SEC_STAT, [⟨0, 1, .ro, 0x0, 0, 0x1⟩, ⟨1, 1, .ro, 0x0, 0, 0x1⟩, ⟨2, 1, .ro, 0x0, 0, 0x1⟩, ⟨3, 1, .ro, 0x0, 0, 0x1⟩, ⟨16, 11, .ro, 0x0, 0, 0x7ff⟩]⟩,
  ⟨Reg.SEC_SANITIZE, [⟨0, 2, .ro, 0x0, 0, 0x3⟩, ⟨2, 3, .ro, 0x0, 0, 0x7⟩, ⟨5, 3, .ro, 0x0, 0, 0x7⟩, ⟨8, 8, .ro, 0x0, 0, 0xff⟩]⟩,
  ⟨Reg.SEC_CNT_VERIFYFAIL, [⟨0, 32, .ro, 0x0, 0, 0xffffffff⟩]⟩,
  ⟨Reg.SEC_CNT_UNWRAPFAIL, [⟨0, 32, .ro, 0x0, 0, 0xffffffff⟩]⟩,
  ⟨Reg.SEC_CNT_RNGFAIL, [⟨0, 32, .ro, 0x0, 0, 0xffffffff⟩]⟩]

/-! ### EVT block (chapter 17 R513) -/
def Reg.EVT_CAP : Reg := ⟨Blk.EVT, 0x0, 0x0, 1⟩
def Fd.EVT_CAP_PRESENT : Fd := ⟨Reg.EVT_CAP, 0, 1⟩
def Fd.EVT_CAP_INSTANCES : Fd := ⟨Reg.EVT_CAP, 8, 8⟩
def Reg.EVT_STAT : Reg := ⟨Blk.EVT, 0x4, 0x0, 1⟩
def Fd.EVT_STAT_QUEUE : Fd := ⟨Reg.EVT_STAT, 0, 10⟩
def Fd.EVT_STAT_STOPPED : Fd := ⟨Reg.EVT_STAT, 10, 1⟩
def Fd.EVT_STAT_CLEARING : Fd := ⟨Reg.EVT_STAT, 11, 1⟩
def Fd.EVT_STAT_PERM : Fd := ⟨Reg.EVT_STAT, 16, 15⟩
def Reg.EVT_LAST_LO : Reg := ⟨Blk.EVT, 0x8, 0x0, 1⟩
def Fd.EVT_LAST_LO_SEQ : Fd := ⟨Reg.EVT_LAST_LO, 0, 32⟩
def Reg.EVT_LAST_HI : Reg := ⟨Blk.EVT, 0xc, 0x0, 1⟩
def Fd.EVT_LAST_HI_SEQ : Fd := ⟨Reg.EVT_LAST_HI, 0, 16⟩
def Reg.EVT_PBASE_LO : Reg := ⟨Blk.EVT, 0x10, 0x0, 1⟩
def Fd.EVT_PBASE_LO_SEQ : Fd := ⟨Reg.EVT_PBASE_LO, 0, 32⟩
def Reg.EVT_PBASE_HI : Reg := ⟨Blk.EVT, 0x14, 0x0, 1⟩
def Fd.EVT_PBASE_HI_SEQ : Fd := ⟨Reg.EVT_PBASE_HI, 0, 16⟩
def Reg.EVT_RDSEL_LO : Reg := ⟨Blk.EVT, 0x18, 0x0, 1⟩
def Fd.EVT_RDSEL_LO_SEL : Fd := ⟨Reg.EVT_RDSEL_LO, 0, 32⟩
def Reg.EVT_RDSEL_HI : Reg := ⟨Blk.EVT, 0x1c, 0x0, 1⟩
def Fd.EVT_RDSEL_HI_SEL : Fd := ⟨Reg.EVT_RDSEL_HI, 0, 16⟩
def Fd.EVT_RDSEL_HI_AREA : Fd := ⟨Reg.EVT_RDSEL_HI, 31, 1⟩
def Reg.EVT_SNAPCTRL : Reg := ⟨Blk.EVT, 0x20, 0x0, 1⟩
def Fd.EVT_SNAPCTRL_GO : Fd := ⟨Reg.EVT_SNAPCTRL, 0, 1⟩
def Fd.EVT_SNAPCTRL_DONE : Fd := ⟨Reg.EVT_SNAPCTRL, 1, 1⟩
def Fd.EVT_SNAPCTRL_ID : Fd := ⟨Reg.EVT_SNAPCTRL, 16, 16⟩
def Reg.EVT_THSEL : Reg := ⟨Blk.EVT, 0x24, 0x0, 1⟩
def Fd.EVT_THSEL_HOUR : Fd := ⟨Reg.EVT_THSEL, 0, 8⟩
def Reg.EVT_CNT_SUPP : Reg := ⟨Blk.EVT, 0x28, 0x0, 1⟩
def Fd.EVT_CNT_SUPP_COUNT : Fd := ⟨Reg.EVT_CNT_SUPP, 0, 32⟩
def Reg.EVT_CNT_LOST : Reg := ⟨Blk.EVT, 0x2c, 0x0, 1⟩
def Fd.EVT_CNT_LOST_COUNT : Fd := ⟨Reg.EVT_CNT_LOST, 0, 32⟩
def Reg.EVT_RD : Reg := ⟨Blk.EVT, 0x100, 0x4, 16⟩
def Fd.EVT_RD_WORD : Fd := ⟨Reg.EVT_RD, 0, 32⟩
def Reg.EVT_LIM : Reg := ⟨Blk.EVT, 0x200, 0x4, 24⟩
def Fd.EVT_LIM_PERIOD : Fd := ⟨Reg.EVT_LIM, 0, 16⟩
def Fd.EVT_LIM_BURST : Fd := ⟨Reg.EVT_LIM, 16, 8⟩
def Reg.EVT_SNAP : Reg := ⟨Blk.EVT, 0x300, 0x4, 32⟩
def Fd.EVT_SNAP_WORD : Fd := ⟨Reg.EVT_SNAP, 0, 32⟩
def Reg.EVT_THIST : Reg := ⟨Blk.EVT, 0x380, 0x4, 8⟩
def Fd.EVT_THIST_WORD : Fd := ⟨Reg.EVT_THIST, 0, 32⟩
def Reg.EVT_ARG0 : Reg := ⟨Blk.EVT, 0x1000, 0x40, 128⟩
def Fd.EVT_ARG0_ARG : Fd := ⟨Reg.EVT_ARG0, 0, 32⟩
def Reg.EVT_ARG1 : Reg := ⟨Blk.EVT, 0x1004, 0x40, 128⟩
def Fd.EVT_ARG1_ARG : Fd := ⟨Reg.EVT_ARG1, 0, 32⟩
def Reg.EVT_ARG2 : Reg := ⟨Blk.EVT, 0x1008, 0x40, 128⟩
def Fd.EVT_ARG2_ARG : Fd := ⟨Reg.EVT_ARG2, 0, 32⟩
def Reg.EVT_ARG3 : Reg := ⟨Blk.EVT, 0x100c, 0x40, 128⟩
def Fd.EVT_ARG3_ARG : Fd := ⟨Reg.EVT_ARG3, 0, 32⟩
def Reg.EVT_ARG4 : Reg := ⟨Blk.EVT, 0x1010, 0x40, 128⟩
def Fd.EVT_ARG4_ARG : Fd := ⟨Reg.EVT_ARG4, 0, 32⟩
def Reg.EVT_ARG5 : Reg := ⟨Blk.EVT, 0x1014, 0x40, 128⟩
def Fd.EVT_ARG5_ARG : Fd := ⟨Reg.EVT_ARG5, 0, 32⟩
def Reg.EVT_ARG6 : Reg := ⟨Blk.EVT, 0x1018, 0x40, 128⟩
def Fd.EVT_ARG6_ARG : Fd := ⟨Reg.EVT_ARG6, 0, 32⟩
def Reg.EVT_ARG7 : Reg := ⟨Blk.EVT, 0x101c, 0x40, 128⟩
def Fd.EVT_ARG7_ARG : Fd := ⟨Reg.EVT_ARG7, 0, 32⟩
def Reg.EVT_SUB : Reg := ⟨Blk.EVT, 0x1020, 0x40, 128⟩
def Fd.EVT_SUB_CODE : Fd := ⟨Reg.EVT_SUB, 0, 16⟩
def Fd.EVT_SUB_RESULT : Fd := ⟨Reg.EVT_SUB, 30, 2⟩
/-- The rows of block EVT (17 R513). -/
def regRowsEVT : List RegRow := [
  ⟨Reg.EVT_CAP, [⟨0, 1, .ro, 0x1, 0, 0x1⟩, ⟨8, 8, .ro, 0x1, 0, 0xff⟩]⟩,
  ⟨Reg.EVT_STAT, [⟨0, 10, .ro, 0x0, 0, 0x3ff⟩, ⟨10, 1, .ro, 0x0, 0, 0x1⟩, ⟨11, 1, .ro, 0x0, 0, 0x1⟩, ⟨16, 15, .ro, 0x0, 0, 0x7fff⟩]⟩,
  ⟨Reg.EVT_LAST_LO, [⟨0, 32, .ro, 0x0, 0, 0xffffffff⟩]⟩,
  ⟨Reg.EVT_LAST_HI, [⟨0, 16, .ro, 0x0, 0, 0xffff⟩]⟩,
  ⟨Reg.EVT_PBASE_LO, [⟨0, 32, .ro, 0x0, 0, 0xffffffff⟩]⟩,
  ⟨Reg.EVT_PBASE_HI, [⟨0, 16, .ro, 0x0, 0, 0xffff⟩]⟩,
  ⟨Reg.EVT_RDSEL_LO, [⟨0, 32, .rw, 0x0, 0, 0xffffffff⟩]⟩,
  ⟨Reg.EVT_RDSEL_HI, [⟨0, 16, .rw, 0x0, 0, 0xffff⟩, ⟨31, 1, .rw, 0x0, 0, 0x1⟩]⟩,
  ⟨Reg.EVT_SNAPCTRL, [⟨0, 1, .w1s, 0x0, 0, 0x1⟩, ⟨1, 1, .w1c, 0x0, 0, 0x1⟩, ⟨16, 16, .rw, 0x0, 0, 0xffff⟩]⟩,
  ⟨Reg.EVT_THSEL, [⟨0, 8, .rw, 0x0, 0, 0xff⟩]⟩,
  ⟨Reg.EVT_CNT_SUPP, [⟨0, 32, .ro, 0x0, 0, 0xffffffff⟩]⟩,
  ⟨Reg.EVT_CNT_LOST, [⟨0, 32, .ro, 0x0, 0, 0xffffffff⟩]⟩,
  ⟨Reg.EVT_RD, [⟨0, 32, .ro, 0x0, 0, 0xffffffff⟩]⟩,
  ⟨Reg.EVT_LIM, [⟨0, 16, .rw, 0x64, 1, 0xffff⟩, ⟨16, 8, .rw, 0x10, 1, 0xff⟩]⟩,
  ⟨Reg.EVT_SNAP, [⟨0, 32, .ro, 0x0, 0, 0xffffffff⟩]⟩,
  ⟨Reg.EVT_THIST, [⟨0, 32, .ro, 0x0, 0, 0xffffffff⟩]⟩,
  ⟨Reg.EVT_ARG0, [⟨0, 32, .rw, 0x0, 0, 0xffffffff⟩]⟩,
  ⟨Reg.EVT_ARG1, [⟨0, 32, .rw, 0x0, 0, 0xffffffff⟩]⟩,
  ⟨Reg.EVT_ARG2, [⟨0, 32, .rw, 0x0, 0, 0xffffffff⟩]⟩,
  ⟨Reg.EVT_ARG3, [⟨0, 32, .rw, 0x0, 0, 0xffffffff⟩]⟩,
  ⟨Reg.EVT_ARG4, [⟨0, 32, .rw, 0x0, 0, 0xffffffff⟩]⟩,
  ⟨Reg.EVT_ARG5, [⟨0, 32, .rw, 0x0, 0, 0xffffffff⟩]⟩,
  ⟨Reg.EVT_ARG6, [⟨0, 32, .rw, 0x0, 0, 0xffffffff⟩]⟩,
  ⟨Reg.EVT_ARG7, [⟨0, 32, .rw, 0x0, 0, 0xffffffff⟩]⟩,
  ⟨Reg.EVT_SUB, [⟨0, 16, .wo, 0x0, 0, 0xffff⟩, ⟨30, 2, .ro, 0x0, 0, 0x3⟩]⟩]

/-! ### TST block (chapter 18 R526) -/
def Reg.TST_CAP : Reg := ⟨Blk.TST, 0x0, 0x0, 1⟩
def Fd.TST_CAP_PRESENT : Fd := ⟨Reg.TST_CAP, 0, 1⟩
def Fd.TST_CAP_INSTANCES : Fd := ⟨Reg.TST_CAP, 8, 8⟩
def Reg.TST_CTRL : Reg := ⟨Blk.TST, 0x4, 0x0, 1⟩
def Fd.TST_CTRL_GO : Fd := ⟨Reg.TST_CTRL, 0, 1⟩
def Fd.TST_CTRL_STOP : Fd := ⟨Reg.TST_CTRL, 1, 1⟩
def Fd.TST_CTRL_IFACE : Fd := ⟨Reg.TST_CTRL, 2, 4⟩
def Fd.TST_CTRL_DEPTH : Fd := ⟨Reg.TST_CTRL, 6, 2⟩
def Fd.TST_CTRL_TARGET : Fd := ⟨Reg.TST_CTRL, 8, 10⟩
def Fd.TST_CTRL_TIMEOUT : Fd := ⟨Reg.TST_CTRL, 18, 14⟩
def Reg.TST_STAT : Reg := ⟨Blk.TST, 0x8, 0x0, 1⟩
def Fd.TST_STAT_STATE : Fd := ⟨Reg.TST_STAT, 0, 2⟩
def Fd.TST_STAT_RESULT : Fd := ⟨Reg.TST_STAT, 2, 2⟩
def Fd.TST_STAT_CAUSE : Fd := ⟨Reg.TST_STAT, 4, 4⟩
def Fd.TST_STAT_REFUSED : Fd := ⟨Reg.TST_STAT, 8, 1⟩
def Fd.TST_STAT_REASON : Fd := ⟨Reg.TST_STAT, 9, 4⟩
def Fd.TST_STAT_WITHDRAWN : Fd := ⟨Reg.TST_STAT, 13, 1⟩
def Fd.TST_STAT_LOCK : Fd := ⟨Reg.TST_STAT, 14, 1⟩
def Fd.TST_STAT_LOCKLOSS : Fd := ⟨Reg.TST_STAT, 16, 16⟩
def Reg.TST_CFG : Reg := ⟨Blk.TST, 0xc, 0x0, 1⟩
def Fd.TST_CFG_PATTERN : Fd := ⟨Reg.TST_CFG, 0, 3⟩
def Fd.TST_CFG_ERRLIM : Fd := ⟨Reg.TST_CFG, 8, 8⟩
def Fd.TST_CFG_DURATION : Fd := ⟨Reg.TST_CFG, 16, 16⟩
def Reg.TST_SEED : Reg := ⟨Blk.TST, 0x10, 0x0, 1⟩
def Fd.TST_SEED_SEED : Fd := ⟨Reg.TST_SEED, 0, 32⟩
def Reg.TST_BITS_LO : Reg := ⟨Blk.TST, 0x14, 0x0, 1⟩
def Fd.TST_BITS_LO_COUNT : Fd := ⟨Reg.TST_BITS_LO, 0, 32⟩
def Reg.TST_BITS_HI : Reg := ⟨Blk.TST, 0x18, 0x0, 1⟩
def Fd.TST_BITS_HI_COUNT : Fd := ⟨Reg.TST_BITS_HI, 0, 32⟩
def Reg.TST_ERRCNT : Reg := ⟨Blk.TST, 0x1c, 0x0, 1⟩
def Fd.TST_ERRCNT_COUNT : Fd := ⟨Reg.TST_ERRCNT, 0, 32⟩
def Reg.TST_FIRST_LO : Reg := ⟨Blk.TST, 0x20, 0x0, 1⟩
def Fd.TST_FIRST_LO_COUNT : Fd := ⟨Reg.TST_FIRST_LO, 0, 32⟩
def Reg.TST_FIRST_HI : Reg := ⟨Blk.TST, 0x24, 0x0, 1⟩
def Fd.TST_FIRST_HI_COUNT : Fd := ⟨Reg.TST_FIRST_HI, 0, 32⟩
def Reg.TST_LANEERR_LO : Reg := ⟨Blk.TST, 0x28, 0x0, 1⟩
def Fd.TST_LANEERR_LO_LANES : Fd := ⟨Reg.TST_LANEERR_LO, 0, 32⟩
def Reg.TST_LANEERR_HI : Reg := ⟨Blk.TST, 0x2c, 0x0, 1⟩
def Fd.TST_LANEERR_HI_LANES : Fd := ⟨Reg.TST_LANEERR_HI, 0, 32⟩
def Reg.TST_HOSTADDR_LO : Reg := ⟨Blk.TST, 0x30, 0x0, 1⟩
def Fd.TST_HOSTADDR_LO_ADDR : Fd := ⟨Reg.TST_HOSTADDR_LO, 12, 20⟩
def Reg.TST_HOSTADDR_HI : Reg := ⟨Blk.TST, 0x34, 0x0, 1⟩
def Fd.TST_HOSTADDR_HI_ADDR : Fd := ⟨Reg.TST_HOSTADDR_HI, 0, 32⟩
def Reg.TST_HOSTLEN : Reg := ⟨Blk.TST, 0x38, 0x0, 1⟩
def Fd.TST_HOSTLEN_LEN : Fd := ⟨Reg.TST_HOSTLEN, 0, 9⟩
def Reg.TST_PHCFG : Reg := ⟨Blk.TST, 0x40, 0x0, 1⟩
def Fd.TST_PHCFG_DIES : Fd := ⟨Reg.TST_PHCFG, 0, 3⟩
def Fd.TST_PHCFG_TOGGLE : Fd := ⟨Reg.TST_PHCFG, 3, 1⟩
def Fd.TST_PHCFG_TYPE : Fd := ⟨Reg.TST_PHCFG, 4, 2⟩
def Fd.TST_PHCFG_RATE : Fd := ⟨Reg.TST_PHCFG, 8, 3⟩
def Fd.TST_PHCFG_BERINJ : Fd := ⟨Reg.TST_PHCFG, 16, 8⟩
def Reg.TST_PHFAULT : Reg := ⟨Blk.TST, 0x44, 0x0, 1⟩
def Fd.TST_PHFAULT_KIND : Fd := ⟨Reg.TST_PHFAULT, 0, 2⟩
def Fd.TST_PHFAULT_OP : Fd := ⟨Reg.TST_PHFAULT, 2, 2⟩
def Fd.TST_PHFAULT_DIE : Fd := ⟨Reg.TST_PHFAULT, 4, 2⟩
def Fd.TST_PHFAULT_NTH : Fd := ⟨Reg.TST_PHFAULT, 16, 16⟩
def Reg.TST_PHRES : Reg := ⟨Blk.TST, 0x48, 0x0, 1⟩
def Fd.TST_PHRES_PASSES : Fd := ⟨Reg.TST_PHRES, 0, 16⟩
def Fd.TST_PHRES_FAILS : Fd := ⟨Reg.TST_PHRES, 16, 8⟩
def Fd.TST_PHRES_TIMEOUTS : Fd := ⟨Reg.TST_PHRES, 24, 8⟩
/-- The rows of block TST (18 R526). -/
def regRowsTST : List RegRow := [
  ⟨Reg.TST_CAP, [⟨0, 1, .ro, 0x1, 0, 0x1⟩, ⟨8, 8, .ro, 0x1, 0, 0xff⟩]⟩,
  ⟨Reg.TST_CTRL, [⟨0, 1, .w1s, 0x0, 0, 0x1⟩, ⟨1, 1, .w1s, 0x0, 0, 0x1⟩, ⟨2, 4, .rw, 0x0, 1, 0x8⟩, ⟨6, 2, .rw, 0x0, 0, 0x3⟩, ⟨8, 10, .rw, 0x0, 0, 0x3ff⟩, ⟨18, 14, .rw, 0x0, 0, 0x3fff⟩]⟩,
  ⟨Reg.TST_STAT, [⟨0, 2, .ro, 0x0, 0, 0x3⟩, ⟨2, 2, .ro, 0x0, 0, 0x3⟩, ⟨4, 4, .ro, 0x0, 0, 0xf⟩, ⟨8, 1, .w1c, 0x0, 0, 0x1⟩, ⟨9, 4, .ro, 0x0, 0, 0xf⟩, ⟨13, 1, .ro, 0x0, 0, 0x1⟩, ⟨14, 1, .ro, 0x0, 0, 0x1⟩, ⟨16, 16, .ro, 0x0, 0, 0xffff⟩]⟩,
  ⟨Reg.TST_CFG, [⟨0, 3, .rw, 0x3, 0, 0x7⟩, ⟨8, 8, .rw, 0x0, 0, 0xff⟩, ⟨16, 16, .rw, 0x0, 0, 0xffff⟩]⟩,
  ⟨Reg.TST_SEED, [⟨0, 32, .rw, 0x1, 0, 0xffffffff⟩]⟩,
  ⟨Reg.TST_BITS_LO, [⟨0, 32, .ro, 0x0, 0, 0xffffffff⟩]⟩,
  ⟨Reg.TST_BITS_HI, [⟨0, 32, .ro, 0x0, 0, 0xffffffff⟩]⟩,
  ⟨Reg.TST_ERRCNT, [⟨0, 32, .ro, 0x0, 0, 0xffffffff⟩]⟩,
  ⟨Reg.TST_FIRST_LO, [⟨0, 32, .ro, 0xffffffff, 0, 0xffffffff⟩]⟩,
  ⟨Reg.TST_FIRST_HI, [⟨0, 32, .ro, 0xffffffff, 0, 0xffffffff⟩]⟩,
  ⟨Reg.TST_LANEERR_LO, [⟨0, 32, .ro, 0x0, 0, 0xffffffff⟩]⟩,
  ⟨Reg.TST_LANEERR_HI, [⟨0, 32, .ro, 0x0, 0, 0xffffffff⟩]⟩,
  ⟨Reg.TST_HOSTADDR_LO, [⟨12, 20, .rw, 0x0, 0, 0xfffff⟩]⟩,
  ⟨Reg.TST_HOSTADDR_HI, [⟨0, 32, .rw, 0x0, 0, 0xffffffff⟩]⟩,
  ⟨Reg.TST_HOSTLEN, [⟨0, 9, .rw, 0x1, 1, 0x100⟩]⟩,
  ⟨Reg.TST_PHCFG, [⟨0, 3, .rw, 0x1, 1, 0x4⟩, ⟨3, 1, .rw, 0x0, 0, 0x1⟩, ⟨4, 2, .rw, 0x0, 0, 0x3⟩, ⟨8, 3, .rw, 0x0, 0, 0x7⟩, ⟨16, 8, .rw, 0x0, 0, 0xff⟩]⟩,
  ⟨Reg.TST_PHFAULT, [⟨0, 2, .rw, 0x0, 0, 0x3⟩, ⟨2, 2, .rw, 0x0, 0, 0x3⟩, ⟨4, 2, .rw, 0x0, 0, 0x3⟩, ⟨16, 16, .rw, 0x1, 0, 0xffff⟩]⟩,
  ⟨Reg.TST_PHRES, [⟨0, 16, .ro, 0x0, 0, 0xffff⟩, ⟨16, 8, .ro, 0x0, 0, 0xff⟩, ⟨24, 8, .ro, 0x0, 0, 0xff⟩]⟩]

/-! ### PWR block (chapter 19 R547) -/
def Reg.PWR_CAP : Reg := ⟨Blk.PWR, 0x0, 0x0, 1⟩
def Fd.PWR_CAP_PRESENT : Fd := ⟨Reg.PWR_CAP, 0, 1⟩
def Fd.PWR_CAP_INSTANCES : Fd := ⟨Reg.PWR_CAP, 8, 8⟩
def Reg.PWR_STAT : Reg := ⟨Blk.PWR, 0x4, 0x0, 1⟩
def Fd.PWR_STAT_INRANGE : Fd := ⟨Reg.PWR_STAT, 0, 9⟩
def Fd.PWR_STAT_PWRFAIL : Fd := ⟨Reg.PWR_STAT, 9, 1⟩
def Fd.PWR_STAT_HOLDOK : Fd := ⟨Reg.PWR_STAT, 10, 1⟩
def Fd.PWR_STAT_CLKOK : Fd := ⟨Reg.PWR_STAT, 11, 1⟩
def Fd.PWR_STAT_BROWN : Fd := ⟨Reg.PWR_STAT, 12, 1⟩
def Reg.PWR_RSTCAUSE : Reg := ⟨Blk.PWR, 0x8, 0x0, 1⟩
def Fd.PWR_RSTCAUSE_CAUSE : Fd := ⟨Reg.PWR_RSTCAUSE, 0, 4⟩
def Fd.PWR_RSTCAUSE_SUPPLY : Fd := ⟨Reg.PWR_RSTCAUSE, 4, 4⟩
def Reg.PWR_PKG : Reg := ⟨Blk.PWR, 0xc, 0x0, 1⟩
def Fd.PWR_PKG_PM : Fd := ⟨Reg.PWR_PKG, 0, 16⟩
def Fd.PWR_PKG_PEAK : Fd := ⟨Reg.PWR_PKG, 16, 16⟩
def Reg.PWR_CNT_TRIP : Reg := ⟨Blk.PWR, 0x10, 0x0, 1⟩
def Fd.PWR_CNT_TRIP_COUNT : Fd := ⟨Reg.PWR_CNT_TRIP, 0, 32⟩
def Reg.PWR_MEAS : Reg := ⟨Blk.PWR, 0x20, 0x4, 9⟩
def Fd.PWR_MEAS_VOLT : Fd := ⟨Reg.PWR_MEAS, 0, 14⟩
def Fd.PWR_MEAS_POWER : Fd := ⟨Reg.PWR_MEAS, 16, 16⟩
def Reg.PWR_DOM : Reg := ⟨Blk.PWR, 0x100, 0x4, 72⟩
def Fd.PWR_DOM_REQ : Fd := ⟨Reg.PWR_DOM, 0, 2⟩
def Fd.PWR_DOM_STATE : Fd := ⟨Reg.PWR_DOM, 2, 2⟩
def Fd.PWR_DOM_REFUSED : Fd := ⟨Reg.PWR_DOM, 4, 1⟩
def Fd.PWR_DOM_WAKES : Fd := ⟨Reg.PWR_DOM, 16, 16⟩
/-- The rows of block PWR (19 R547). -/
def regRowsPWR : List RegRow := [
  ⟨Reg.PWR_CAP, [⟨0, 1, .ro, 0x1, 0, 0x1⟩, ⟨8, 8, .ro, 0x48, 0, 0xff⟩]⟩,
  ⟨Reg.PWR_STAT, [⟨0, 9, .ro, 0x0, 0, 0x1ff⟩, ⟨9, 1, .ro, 0x0, 0, 0x1⟩, ⟨10, 1, .ro, 0x0, 0, 0x1⟩, ⟨11, 1, .ro, 0x0, 0, 0x1⟩, ⟨12, 1, .ro, 0x0, 0, 0x1⟩]⟩,
  ⟨Reg.PWR_RSTCAUSE, [⟨0, 4, .ro, 0x1, 0, 0xf⟩, ⟨4, 4, .ro, 0x0, 0, 0xf⟩]⟩,
  ⟨Reg.PWR_PKG, [⟨0, 16, .ro, 0x0, 0, 0xffff⟩, ⟨16, 16, .rc, 0x0, 0, 0xffff⟩]⟩,
  ⟨Reg.PWR_CNT_TRIP, [⟨0, 32, .ro, 0x0, 0, 0xffffffff⟩]⟩,
  ⟨Reg.PWR_MEAS, [⟨0, 14, .ro, 0x0, 0, 0x3fff⟩, ⟨16, 16, .ro, 0x0, 0, 0xffff⟩]⟩,
  ⟨Reg.PWR_DOM, [⟨0, 2, .rw, 0x0, 0, 0x2⟩, ⟨2, 2, .ro, 0x2, 0, 0x3⟩, ⟨4, 1, .w1c, 0x0, 0, 0x1⟩, ⟨16, 16, .ro, 0x0, 0, 0xffff⟩]⟩]

/-- The rows of the block with code `b`. -/
def regRows (b : Nat) : List RegRow :=
  match b with
  | 1 => regRowsHST
  | 2 => regRowsQUE
  | 3 => regRowsTEN
  | 4 => regRowsMAP
  | 5 => regRowsMED
  | 6 => regRowsFCH
  | 7 => regRowsCTG
  | 8 => regRowsECC
  | 9 => regRowsRGL
  | 10 => regRowsLDG
  | 11 => regRowsDRC
  | 12 => regRowsBUF
  | 13 => regRowsSAF
  | 14 => regRowsCLP
  | 15 => regRowsCHM
  | 16 => regRowsSEM
  | 17 => regRowsBTA
  | 18 => regRowsSVC
  | 19 => regRowsSEC
  | 20 => regRowsEVT
  | 21 => regRowsTST
  | 22 => regRowsPWR
  | 23 => regRowsSCH
  | _ => []

/-- The row and the instance of the register at offset `off` of a block's rows; `none` where the map names no
register there. -/
def findRow : List RegRow → Nat → Option (RegRow × Nat)
  | [], _ => none
  | r :: t, off =>
    if r.reg.stride = 0 then
      if off = r.reg.off then some (r, 0) else findRow t off
    else if r.reg.off ≤ off ∧ (off - r.reg.off) % r.reg.stride = 0 ∧ (off - r.reg.off) / r.reg.stride < r.reg.count then
      some (r, (off - r.reg.off) / r.reg.stride)
    else findRow t off

/-- The reset value of a register: its fields' reset values at their places. -/
def RegRow.reset (r : RegRow) : Word :=
  BitVec.ofNat 32 (r.fields.foldl (fun a f => a + f.rst * 2 ^ f.lsb) 0)

/-- The default credits and latency targets of the DRAM ports (R386). -/
def portReset (i : Nat) : Nat × Nat :=
  match i with
  | 0 => (500, 800)
  | 1 => (4750, 2000)
  | 2 => (376, 4000)
  | 3 => (122, 600)
  | 4 => (2250, 4000)
  | _ => (2, 0)

/-- The reset value of instance `i`: function f belongs to tenant f (R145), and the DRAM ports have defaults of their own. -/
def RegRow.resetOf (r : RegRow) (i : Nat) : Word :=
  if r.reg = Reg.TEN_FNMAP then BitVec.ofNat 32 i
  else if r.reg = Reg.DRC_PORT then BitVec.ofNat 32 ((portReset i).1 + (portReset i).2 * 2 ^ 16)
  else r.reset

/-- The reset value of the register at offset `off` of block `b` (0 where there is none). -/
def regResetAt (b off : Nat) : Word :=
  match findRow (regRows b) off with
  | some (r, i) => r.resetOf i
  | none => 0

end Sys2Proof.Machine
end

