-- ==== Sys2Proof/Machine/Sparse.lean ====
section
/-! DEFINITION. Sparse memories. A memory of the device (a register bank, the ledger die, the boot array, the map, DRAM
state) is a list of (key, value) pairs in ONE canonical form: keys strictly rising, and no entry equal to what an
unlisted key reads as. What an unlisted key reads as is the memory's default function `d`, taken from the spec's reset
contents. Writing the default removes the entry, so equal memories are equal data. -/

namespace Sys2Proof.Machine

variable {α : Type}

/-- A sparse memory: entries by rising key. -/
abbrev Sparse (α : Type) := List (Nat × α)

/-- What key `k` of memory `m` reads as. -/
def spGet (d : Nat → α) (m : Sparse α) (k : Nat) : α :=
  match m with
  | [] => d k
  | (k', v) :: t => if k = k' then v else spGet d t k

/-- `m` with the entry of key `k` removed. -/
def spErase (m : Sparse α) (k : Nat) : Sparse α :=
  match m with
  | [] => []
  | (k', v) :: t => if k = k' then t else if k < k' then (k', v) :: t else (k', v) :: spErase t k

/-- `m` with the entry of key `k` set to `v`, at its place in the order. -/
def spInsert (m : Sparse α) (k : Nat) (v : α) : Sparse α :=
  match m with
  | [] => [(k, v)]
  | (k', v') :: t =>
    if k = k' then (k, v) :: t else if k < k' then (k, v) :: (k', v') :: t else (k', v') :: spInsert t k v

/-- Write `v` to key `k`, keeping the canonical form. -/
def spSet [DecidableEq α] (d : Nat → α) (m : Sparse α) (k : Nat) (v : α) : Sparse α :=
  if v = d k then spErase m k else spInsert m k v

/-- Keys strictly rising from `lo` on. -/
def spSorted (m : Sparse α) (lo : Nat) : Bool :=
  match m with
  | [] => true
  | (k, _) :: t => decide (lo ≤ k) && spSorted t (k + 1)

/-- The canonical form: keys strictly rising, no entry equal to the default. -/
def Memory.wf [DecidableEq α] (d : Nat → α) (m : Sparse α) : Bool :=
  spSorted m 0 && m.all (fun p => decide (p.2 ≠ d p.1))

/-- Write a run of values to consecutive keys from `k`. -/
def spSetRun [DecidableEq α] (d : Nat → α) (m : Sparse α) (k : Nat) (vs : List α) : Sparse α :=
  match vs with
  | [] => m
  | v :: t => spSetRun d (spSet d m k v) (k + 1) t

/-- Read `n` consecutive keys from `k`. -/
def spGetRun (d : Nat → α) (m : Sparse α) (k n : Nat) : List α :=
  (List.range n).map (fun i => spGet d m (k + i))

/-- Remove every entry with a key from `lo` up to but not including `hi` (they read as the default again). -/
def spClear (m : Sparse α) (lo hi : Nat) : Sparse α :=
  m.filter (fun p => decide (p.1 < lo ∨ hi ≤ p.1))

/-- Change every entry, by its key; an entry that becomes what its key reads as goes. -/
def spMap [DecidableEq α] (d : Nat → α) (m : Sparse α) (f : Nat → α → α) : Sparse α :=
  (m.map (fun p => (p.1, f p.1 p.2))).filter (fun p => decide (p.2 ≠ d p.1))

end Sys2Proof.Machine
end

