-- ==== Sys2Proof/Machine/State.lean ====
section
/-! DEFINITION. The state of the device: every register, memory, queue, counter, mode and pin the manual gives it, as
plain data, and the queue of commands that wait. `State.reset` is the device as power-on reset leaves it. -/

namespace Sys2Proof.Machine

/-- The variants of the family (R1). -/
inductive Variant where
  | fk9640 | fk9620 | fk9612
  deriving DecidableEq, Repr

/-! ### Time, events -/

/-- The beat counter (R45) and the cycle within the beat of the last timed command. -/
structure Time where
  beat : Nat
  cycle : Nat
  deriving DecidableEq, Repr

/-- An event record before it has a SEQ (R499): beat, code, die (0 hub, 1 Half A, 2 Half B), the MASTER byte, the
suppression count and four arguments. -/
structure EvRec where
  beat : Nat
  code : Nat
  src : Nat
  mid : Nat
  supp : Nat
  args : List Nat
  deriving DecidableEq, Repr

/-- The clearing of the recorder (R508): its step, LASTSEQ, the two arguments of its record, the position of its
clearing record and the sectors of the permanent area still to be erased. -/
structure Clearing where
  step : Nat
  lastSeq : Nat
  keyHash : Nat
  nonce : Nat
  pos : Nat
  sectors : Nat
  deriving DecidableEq, Repr

/-- The sums the hub keeps for one temperature sensor in the running hour (R510), in °C. -/
structure TempAcc where
  max : Int
  min : Int
  sum : Int
  count : Nat
  deriving DecidableEq, Repr

/-- The event recorder in the hub (chapter 17): tokens spent and suppression count of each code, the queue of 512
records, submissions lost and not yet reported, SEQ of the next record, PBASE, permanent records written, the writer's
state, the running hour, the beats of the device's life in the warning and critical temperature ranges, and the history of the
last 168 hours. -/
structure Evt where
  used : Sparse Nat
  supp : Sparse Nat
  queue : List EvRec
  lost : Nat
  seq : Nat
  pbase : Nat
  perm : Nat
  stopped : Bool
  clearing : Option Clearing
  clearPos : Nat
  acc : List TempAcc
  warmBeats : Nat
  hotBeats : Nat
  warmAll : Nat
  hotAll : Nat
  hist : List (List Nat)
  deriving DecidableEq, Repr

/-! ### Chimes and locks -/

/-- A chime channel (R425): whether it holds an unacknowledged message, the message, and the messages it has accepted
mod 256 since it was last emptied under R430. -/
structure Chan where
  full : Bool
  msg : Word64
  next : Nat
  deriving DecidableEq, Repr

/-! ### Halves -/

/-- The states of a half (R388). -/
inductive HalfSt where
  | off | loading | syncing | standby | active | unfit | held
  deriving DecidableEq, Repr

/-! ### The host link and NVMe -/

/-- Why a read request was issued (R98): an entry of a submission queue, at its position; a descriptor list or the data of a command. -/
inductive Purpose where
  | entry (sq : Nat) (idx : Nat)
  | list (ctx : Nat)
  | data (ctx : Nat)
  | test (addr : Nat) (len : Nat)
  deriving DecidableEq, Repr

/-- An outstanding or quarantined tag (R89 to R99): port, value, function, purpose, bytes still to come, beat of issue,
the N in force at issue (R97), whether it is orphaned (R103), whether its completion is discarded because Bus Master
Enable was cleared (R102), the boundary at which its quarantine ends, and the buffer that a data read targets (by its place in the
buffer memory), where a descriptor names one (R103, R126). -/
structure TagRec where
  port : Nat
  val : Nat
  fn : Nat
  why : Purpose
  left : Nat
  issued : Nat
  n : Nat
  orphan : Bool
  lost : Bool
  quar : Option Nat
  buf : Option Nat
  deriving DecidableEq, Repr

/-- A submission queue: its size in entries, completion queue, priority class (0 urgent, 1 high, 2 medium, 3 low), base address and
whether it lies in the CMB (R118); the entries granted since its creation (`head`; entry n lies in slot n mod size), the tail doorbell,
and the entries from `head` on that have been fetched already and are passed over (R34, R102). -/
structure Sq where
  fn : Nat
  qid : Nat
  size : Nat
  cq : Nat
  prio : Nat
  base : Nat
  cmb : Bool
  head : Nat
  tail : Nat
  skip : List Nat
  deriving DecidableEq, Repr

/-- A completion queue: size, vector, base address, the host's head doorbell, the entries posted and the entries the hub has
transmitted (R35). -/
structure Cq where
  fn : Nat
  qid : Nat
  size : Nat
  iv : Nat
  base : Nat
  head : Nat
  tail : Nat
  sent : Nat
  deriving DecidableEq, Repr

/-- A granted submission entry on its way: the function, queue and position, its command identifier once it has arrived, how many of
its entry reads failed (R98), whether the entry has arrived, the beat of its grant, and the completions posted when it arrived
(R129). -/
structure Grant where
  fn : Nat
  sq : Nat
  idx : Nat
  cid : Nat
  tries : Nat
  here : Bool
  beat : Nat
  mark : Nat
  deriving DecidableEq, Repr

/-- The commands a context can hold. -/
inductive Cmd where
  | write | read | compare | verify | writeZeroes | dsm | flush | abort | aer | sanitize | deleteSq (q : Nat) | admin
  | nsChange (dw0 : Nat)
  deriving DecidableEq, Repr

/-- The final decode of a code word (R264, R267): the rung that recovered it (16 when the ladder is exhausted), whether the soft
decoder was used, its corrected-bit count, the miscorrections met on the way (R263), n_dn - n_up for each boundary (R291), the
outputs of the loop at the issue of the read that gave it, and whether it climbed to rung 1. -/
structure CwRes where
  rung : Nat
  soft : Bool
  bits : Nat
  miscor : Nat
  asym : List Int
  us : List Int
  up : Bool
  deriving DecidableEq, Repr

/-- What the reads of another member of a stripe add to a result (R269): the page read and its code word. -/
structure Side where
  ppa : Nat
  cws : List CwRes
  deriving DecidableEq, Repr

/-- The final decode of a page (R267): its sectors, its code words, the reads of other members that a reconstruction made, the
sectors whose tag check fails, and the outcome of the protection information check. -/
structure ReadRes where
  secs : List Sector
  cws : List CwRes
  side : List Side
  badTags : List Nat
  piFail : Option Nat
  deriving DecidableEq, Repr

/-- A result of a flash read for one tart of a command (R179, R181): the tart's index in the command, the recorded
generation, where it was read, whether its location was predicted, whether its decode is final, whether it was
confirmed in the current batch, whether it was transferred early, whether the watch discarded it, the sectors decoded, and
their statistics. -/
structure Result where
  i : Nat
  gen : Nat
  ppa : Nat
  spec : Bool
  op : Nat
  final : Bool
  confirmed : Bool
  early : Bool
  dead : Bool
  secs : List Sector
  cws : List CwRes
  side : List Side
  badTags : List Nat
  piFail : Option Nat
  deriving DecidableEq, Repr

/-- One map entry (R164). -/
structure MapEntry where
  ppa : Nat
  gen : Nat
  poison : Bool
  dealloc : Bool
  deriving DecidableEq, Repr

/-- A lookup of the current batch: the tart's index in the command, its LTN, the versions that serve its sectors, whether
they serve all of them, the entry at the observation point, and whether the lookup has returned it. -/
structure Lookup where
  i : Nat
  ltn : Nat
  vids : List Nat
  served : Bool
  entry : MapEntry
  back : Bool
  deriving DecidableEq, Repr

/-- A command context (R119): where it was fetched (with the entry's position and the completions posted at its fetch), what it does,
its range, the buffer, the progress of its host reads, its lookup batches and results, the media slices in which it read in this bar,
whether its tenant went beyond its credits in a slice and bar where it read (R151), whether data has reached the host buffer (R127), and
its completion status once decided. -/
structure Ctx where
  id : Nat
  fn : Nat
  sq : Nat
  idx : Nat
  mark : Nat
  cid : Nat
  cmd : Cmd
  nsid : Nat
  slba : Nat
  nlb : Nat
  urgent : Bool
  beat : Nat
  begun : Bool
  xfer : Xfer
  listsLeft : Nat
  lostData : Bool
  reads : List (Nat × Nat × Bool)
  bytesLeft : Nat
  data : List (Nat × Sector)
  partsLeft : Nat
  batches : Nat
  lookups : List Lookup
  results : List Result
  hold : Bool
  refs : List Nat
  slices : List Nat
  beyond : Bool
  wrote : Bool
  sent : Bool
  status : Option (Nat × Nat × Nat)
  deriving DecidableEq, Repr

/-- The progress of a part of a write (R28, R175): waiting for write-buffer units, filling, the body of its record
written, its header written. A part that has committed is no longer kept. -/
inductive PartSt where
  | wait | filling | body | header
  deriving DecidableEq, Repr

/-- A part of a Write, Write Zeroes or deallocation (R31, R32, R125): its context (none once the command has gone),
kind (0 write, 1 Write Zeroes, 2 deallocation), range, the tarts it names (LTN and whether it covers the tart whole),
its versions, journal sequence number and state. -/
structure Part where
  id : Nat
  ctx : Option Nat
  kind : Nat
  fn : Nat
  nsid : Nat
  slba : Nat
  nlb : Nat
  last : Bool
  tarts : List (Nat × Bool)
  vids : List Nat
  jseq : Nat
  st : PartSt
  deriving DecidableEq, Repr

/-- The states of a write-buffer version (R171); a FREE version is not kept. -/
inductive VerSt where
  | filling | committed | programming | mapped | superseded
  deriving DecidableEq, Repr

/-- A version of a tart in the write buffer (R171): the function and tenant that wrote it, its LTN, the sectors it
writes, their content, its unit indices by quarter (0xFFFF where it touches none), whether the primary and the mirror
copy are written and readable, its pin count, its commit's OSEQ, and the functions whose acknowledged writes it carries
to step 7: its own and those of the versions it superseded. `ctx` is the command that wrote it, while it is there; `post` is set when
that command's completion is posted, to the completions posted until then (R28); `carries` are the commands whose writes it brings to
step 7, its own and those of the versions it superseded, and `owes` is the number at the first of their completions (R129, R130);
`urgent` marks an urgent command's (R122); `primTag` and `mirrorTag` say that the copy fails its integrity tag, not its ECC (R138). A
version without units stands for a whole tart's deallocation that the map does not hold yet (log entry 30). -/
structure Ver where
  id : Nat
  ctx : Option Nat
  post : Option Nat
  owes : Option Nat
  carries : List Nat
  urgent : Bool
  fn : Nat
  tenant : Nat
  nsid : Nat
  ltn : Nat
  secs : List (Nat × Sector)
  units : List Nat
  prim : Bool
  mirror : Bool
  primBad : Bool
  mirrorBad : Bool
  primTag : Bool
  mirrorTag : Bool
  pins : Nat
  oseq : Nat
  deps : List Nat
  st : VerSt
  deriving DecidableEq, Repr

/-- A kept or posted asynchronous event (R552): type, information, log page. -/
structure Aen where
  typ : Nat
  info : Nat
  page : Nat
  deriving DecidableEq, Repr

/-- An entry of page C1h (R140). -/
structure C1hEntry where
  nsid : Nat
  slba : Nat
  nlb : Nat
  cause : Nat
  beat : Nat
  deriving DecidableEq, Repr

/-- Page C1h of a function with its pending reports (R139, R140). -/
structure C1h where
  entries : List C1hEntry
  overflow : Bool
  change : Nat
  pending : List Nat
  deriving DecidableEq, Repr

/-- An entry of a function's MSI-X table (R80): message address and data, and the mask bit. -/
structure MsixEntry where
  addr : Nat
  data : Nat
  mask : Bool
  deriving DecidableEq, Repr

/-- A function's controller and PCIe function state (chapters 03 and 04): `cfg` holds its PCIe control settings, `aerStat` the AER
errors logged, `regs` the NVMe registers that the host has written, by offset, `msix` the MSI-X table and `pba` its pending bits,
`deleting` the queues being deleted (R551). -/
structure Fn where
  en : Bool
  wrr : Bool
  rdy : Bool
  cfs : Bool
  shst : Nat
  shn : Bool
  pp : Bool
  startAt : Option Nat
  aqOk : Bool
  resetAt : Option Nat
  flrAt : Option Nat
  vfOn : Bool
  numVfs : Nat
  bme : Bool
  cfg : FnCfg
  aerStat : List AerErr
  regs : Sparse Nat
  msix : Sparse MsixEntry
  pba : List Nat
  splitStart : Bool
  splitRole : Option Nat
  splitCto : Option Nat
  kept : List Aen
  masks : List Aen
  deleting : List Nat
  c1h : C1h
  rdSecs : Nat
  wrSecs : Nat
  rdCmds : Nat
  wrCmds : Nat
  medErrs : Nat
  errLog : Nat
  feats : Sparse Nat
  burst : List (Nat × Nat)
  wrrLeft : List Nat
  notReady : List Nat
  nsLog : List Nat
  deriving DecidableEq, Repr

/-- A completion held by an activation or a power-state entry (R134, R137): its context or header, and its fields. -/
structure Held where
  fn : Nat
  sq : Nat
  cid : Nat
  io : Bool
  sct : Nat
  sc : Nat
  dw0 : Nat
  deriving DecidableEq, Repr

/-- A namespace (R116, R163): format, the type of its protection information (0 none), whether its metadata is extended with the data,
size in LBAs, granules, attached functions and its key (handle; `none` when the key cannot be unwrapped or is not present). -/
structure Ns where
  id : Nat
  lbaf : Nat
  pi : Nat
  ext : Bool
  lbas : Nat
  granules : List Nat
  fns : List Nat
  key : Option Nat
  deriving DecidableEq, Repr

/-! ### Media -/

/-- The streams (R202). -/
inductive Stream where
  | host (ns : Nat)
  | gc (cls : Nat)
  | refresh
  | metadata
  | flush
  deriving DecidableEq, Repr

/-- What a page of flash holds: a tart's sectors with the logical tart of the reverse list, padding, parity, or
metadata. -/
structure Page where
  ltn : Option Nat
  secs : List Sector
  deriving DecidableEq, Repr

/-- The states of a block (R241, R243, R218). -/
inductive BlkSt where
  | free | used (sb : Nat) | half | retired | bad | slc
  deriving DecidableEq, Repr

/-- The die record of a die (R197, R218): the factory bad blocks and the retired ones (plane, block), the dies and channels whose
retirement it was written with, and the erases of the die's blocks in all. -/
structure DieRec where
  bad : List (Nat × Nat)
  grown : List (Nat × Nat)
  dies : List Nat
  chans : List Nat
  erases : Nat
  deriving DecidableEq, Repr

/-- A block of one plane: state, erase count, reads since its erase, the day it was filled, and the LDPC rate of its die block
(R261). -/
structure Blk where
  st : BlkSt
  erases : Nat
  reads : Nat
  since : Nat
  rate : Nat
  deriving DecidableEq, Repr

/-- A die: absent, in use or retired (MED_DIESTAT.STATE), its media type, operations unanswered in a row, the die
blocks 0 up to `erased` that have been erased into use since it was identified (R249), and the operation in it. -/
structure Die where
  st : Nat
  media : Nat
  noResp : Nat
  erased : Nat
  factory : Nat
  deriving DecidableEq, Repr

/-- A member of a superblock: die, its block in each plane, whether it is lacking and why (0 no, 1 retired,
2 absent, 3 retired by a patrol read, R280). -/
structure Member where
  die : Nat
  blocks : List Nat
  lack : Nat
  deriving DecidableEq, Repr

/-- The states of a superblock (R203). -/
inductive SbSt where
  | open_ | closed | victim | erasing
  deriving DecidableEq, Repr

/-- A superblock (R199 to R203): stream, media type, members in ascending slot order, state, open stripe, the members
whose unit of that stripe is issued and programmed, the padded ones, whether the parity is issued, the program-order
stamp of the stripe, the bar it closed, and the class that took it as a victim. -/
structure Sb where
  id : Nat
  stream : Stream
  media : Nat
  members : List Member
  st : SbSt
  stripe : Nat
  issued : List Nat
  done : List Nat
  parity : Bool
  stamp : Nat
  closedBar : Nat
  cls : Nat
  failed : Bool
  deriving DecidableEq, Repr

/-- The classes of slots (R53). -/
inductive SlotCls where
  | host | gc | reg | rfs
  deriving DecidableEq, Repr

/-- What an operation is for: reads for a command's tart, a merge, read-ahead, a relocation (of a victim superblock's
tart, or of a tart to refresh), patrol, scrub or calibration; programs of the flush reserve, of metadata, of a data unit
of a stream's stripe and of a stripe's parity; erases; operations of a test mode. -/
inductive OpWhy where
  | host (ctx : Nat) (i : Nat)
  | merge (id : Nat)
  | stage (fn : Nat) (ns : Nat)
  | copy (sb : Nat) (ltn : Nat)
  | rung (climb cw : Nat)
  | recon (climb cw : Nat)
  | close (sb : Nat)
  | patrol
  | scrub
  | calib (grp : Nat) (zone : Nat)
  | flush
  | metadata
  | key
  | erase
  | test
  | unit
  | parity
  deriving DecidableEq, Repr

/-- The kinds of operation (R235, R237). -/
inductive OpKind where
  | read | program | erase | margin
  deriving DecidableEq, Repr

/-- The states of an operation: waiting for a slot, chosen for the next beat, in the die, suspended. -/
inductive OpSt where
  | wait | chosen | busy | suspended
  deriving DecidableEq, Repr

/-- A tart placed in a program unit: its LTN, its sectors, the versions it takes data from, for a relocation the source PPA, the poison
flag of the map entry it leads to, the sectors that its copy could not recover (bit i for sector i, R210), its GC class (4 for refresh), and the victim superblock. -/
structure Placed where
  ltn : Nat
  secs : List Sector
  vids : List Nat
  src : Option Nat
  poison : Bool
  lost : Nat
  cls : Nat
  victim : Nat
  deriving DecidableEq, Repr

/-- A relocation that waits for its destination block to be confirmed (R208, R209): the destination superblock and
member, the tart and the PPA it now has. -/
structure Dest where
  sb : Nat
  mem : Nat
  ppa : Nat
  tart : Placed
  deriving DecidableEq, Repr

/-- A flash operation in a context of a die (R59): kind, slot class, tenant charged, urgency, step of R55 at which it
was chosen, where it acts (PPA of a read; superblock, stripe and member of a program; die block of an erase), the
tarts of a program, its state, issue beat, the beat of its issue or last resume, suspension counts (`suspAt` is 1 more
than the beat at which a suspend was issued or acknowledged, 0 outside one), retries, for a read the loop's outputs at
its issue (R291), and further numbers: the write-buffer units of a flush program; kind and range of a metadata program
(0 delta page up to a map sequence number, 1 map segments, 2 loop states, 3 block table up to a JSEQ); the member that
closed the stripe of a parity program; the beat for which the operation or quanta of its transfer were chosen, the quanta of
512 B still to be transferred and those chosen for that beat (R51, R58); the offsets that its LVL primitive applied (R290); and
whether it keeps the step in which the read it serves was chosen (R265), and, suspended, whether the half that took over resumes it in
the die's first slot (R240). -/
structure Op where
  id : Nat
  kind : OpKind
  cls : SlotCls
  die : Nat
  tenant : Nat
  urgent : Bool
  why : OpWhy
  ppa : Nat
  sb : Nat
  unit : Nat
  mem : Nat
  tarts : List Placed
  born : Nat
  step : Nat
  st : OpSt
  issued : Nat
  susp : Nat
  suspBeats : Nat
  suspAt : Nat
  tries : Nat
  us : List Int
  units : List Nat
  slotAt : Nat
  left : Nat
  quanta : Nat
  levels : List Int
  kept : Bool
  wake : Bool
  deriving DecidableEq, Repr

/-- A code word on the read-retry ladder (R264, R269): its index in the page, its outcome once it has one, the attempt it is at
(rung; 0 hard, 1 and 2 soft with 3 and 5 reads), the reads of that attempt still to be issued after the present one, the
miscorrections so far, the members' code words still to come at rung 15, whether one of them failed, and whether it climbed to rung 1. -/
structure CwClimb where
  i : Nat
  res : Option CwRes
  rung : Nat
  phase : Nat
  left : Nat
  miscor : Nat
  need : Nat
  fail : Bool
  up : Bool
  deriving DecidableEq, Repr

/-- A page read whose decode is not final (R264 to R270): the read, its code words, whether the ladder waits for the lookup of
the batch (R266), the sectors rebuilt so far by index, the reads of other members made, and the tag and protection information
outcomes so far. -/
structure Climb where
  op : Op
  cws : List CwClimb
  held : Bool
  secs : List (Nat × Sector)
  side : List Side
  badTags : List Nat
  piFail : Option Nat
  deriving DecidableEq, Repr

/-- The partial parity of an open stripe in DRAM (R204): the superblock, and the payloads by page position of a program unit. -/
structure Partial where
  sb : Nat
  pages : List (List Sector)
  deriving DecidableEq, Repr

/-- A whole key table (R489): TABLEGEN, the KEKGEN its entries are wrapped under, SANPEND, and the entries (namespace and wrapped
key, as the handle of the key). -/
structure KeyTab where
  gen : Nat
  kek : Nat
  sanpend : Nat
  keys : List (Nat × Nat)
  deriving DecidableEq, Repr

/-- A key block (R489): its die, its block in each plane, the pages of a table written since its erase, and the table once it is
whole. -/
structure KeyBlk where
  die : Nat
  blocks : List Nat
  pages : Nat
  tab : Option KeyTab
  deriving DecidableEq, Repr

/-- A change of the key table: its SANPEND, the command that causes it, and the table once its writing has begun. -/
structure KeyChange where
  sanpend : Nat
  ctx : Nat
  tab : Option KeyTab
  deriving DecidableEq, Repr

/-- The stages of an erase (R241). -/
inductive EraseSt where
  | intent | allowed | erasing | erased | margin | passed | doneWritten
  deriving DecidableEq, Repr

/-- An erase of a die block: die, block of plane 0, the blocks of all planes, the count reached, stage. -/
structure Erase where
  die : Nat
  blk : Nat
  blocks : List Nat
  count : Nat
  st : EraseSt
  deriving DecidableEq, Repr

/-- A map write that waits for its MAPDELTA (R169, R191): the number of its record once it is written in the ring. -/
structure MapWr where
  mseq : Nat
  cause : Nat
  ltn : Nat
  entry : MapEntry
  src : Option Nat
  cseq : Nat
  vids : List Nat
  written : Bool
  jseq : Nat
  deriving DecidableEq, Repr

/-- A block of the refresh queue (R222): die, block in plane 0, priority, arrival. -/
structure Rfs where
  die : Nat
  blk : Nat
  prio : Nat
  seq : Nat
  deriving DecidableEq, Repr

/-- A watch entry (R180): what it watches (0 command read, 1 staged tart, 2 predictor entry, 3 merge read), the item, its LTN and
the map writes counted. -/
structure Watch where
  id : Nat
  kind : Nat
  item : Nat
  ltn : Nat
  count : Nat
  deriving DecidableEq, Repr

/-- A staged read-ahead tart (R184): its number, the function and namespace of its stream, LTN, recorded generation, PPA, beat it
was staged, and its decode once final. -/
structure Staged where
  id : Nat
  fn : Nat
  ns : Nat
  ltn : Nat
  gen : Nat
  ppa : Nat
  beat : Nat
  dec : Option ReadRes
  deriving DecidableEq, Repr

/-- A merge read for a partial-tart program (R173): the program operation that waits for it, its LTN, recorded
generation, PPA, whether the watch discarded it, and its sectors once confirmed. -/
structure Merged where
  id : Nat
  prog : Nat
  ltn : Nat
  gen : Nat
  ppa : Nat
  dead : Bool
  secs : Option (List Sector)
  deriving DecidableEq, Repr

/-- A read-ahead stream (R184): function, namespace, the LBA after the last read, reads in a row. -/
structure Ra where
  fn : Nat
  ns : Nat
  next : Nat
  run : Nat
  deriving DecidableEq, Repr

/-- A predictor entry (R185). -/
structure Pred where
  ltn : Nat
  ppa : Nat
  gen : Nat
  deriving DecidableEq, Repr

/-! ### Slots -/

/-- The states of a cartridge slot (R248), with the encoding of CTG_SLOTSTATn.STATE by order. -/
inductive SlotSt where
  | empty | present | powering | training | inUse | removing | off | fault
  deriving DecidableEq, Repr

/-- A cartridge slot: state, the input pins as last sampled, the output pins, the power fault latch and press flag, the
exit cause, debounce and button counts in bars, the beats at which power good was seen, power was enabled, the abort
window ends and the attention blink ends, whether its dies still take no operations, and why it was removed during an output hold, until
the removal is settled (R403: 0 presence loss, 1 power-good loss, 2 power fault). -/
structure Slot where
  st : SlotSt
  prsnt : Bool
  pwrgd : Bool
  pwren : Bool
  pwrflt : Bool
  btn : Bool
  cause : Nat
  debounce : Nat
  lowBars : Nat
  armed : Bool
  goodAt : Option Nat
  onAt : Nat
  abortEnd : Option Nat
  blinkEnd : Nat
  closing : Bool
  unsettled : Option Nat
  deriving DecidableEq, Repr

/-! ### Ledger -/

/-- The body of a journal record (R315 to R319). -/
inductive JBody where
  | commit (nsid fn kind : Nat) (last : Bool) (slba nlb oseq : Nat) (tarts : List (Nat × List Nat))
  | mapDelta (ltn cause : Nat) (entry : MapEntry) (mseq cseq : Nat)
  | eraseIntent (die planes count : Nat) (blocks : List Nat)
  | eraseDone (die planes count : Nat) (blocks : List Nat)
  | blkTab (die plane blk : Nat) (word : Word64)
  | flushDone (units epoch : Nat) (complete notShut : Bool) (beat : Nat)
  | release (epoch : Nat)
  | pad (len : Nat)
  deriving DecidableEq, Repr

/-- A journal record: sequence number, carried mark, body, ring offset in words, and whether its body and its header
have been written. -/
structure JRec where
  jseq : Nat
  carried : Bool
  body : JBody
  off : Nat
  valid : Bool
  deriving DecidableEq, Repr

/-- A PMR write the hub accepted and has not yet put into the ledger (R328): ledger byte address and byte. -/
abbrev PmrByte := Nat × Byte

/-- The record of a beat in the shadow stream (R390): its beat, the next JSEQ, and the queue state that a take-over goes
back to: queues with their fetch positions, fetched entries not yet begun, and the contexts by identifier. What else the
record carries the state holds once for both halves (log entry 53). -/
structure Shadow where
  beat : Nat
  jseq : Nat
  sqs : List Sq
  grants : List Grant
  ctxs : List Nat
  deriving DecidableEq, Repr

/-- A word of an SRAM memory of a half (R373): its memory and place, the three cells of its valid bit, and its eight bytes. Words that are
not listed have all three cells clear. -/
structure SramWord where
  mac : Nat
  idx : Nat
  cells : Nat
  bytes : List Byte
  deriving DecidableEq, Repr

/-- One half as the hub and the half itself know it (R388 to R409): its state, the epoch under which it holds or held
the clapper, whether it has withdrawn, the slice of its last control fault, the beats at which it entered UNFIT, the
beat it entered its present state, the shadow it has applied, the queue positions it holds (function, queue, entries fetched; kept
through a shadow fault, R33), whether this beat's record arrived, the progress of its
synchronisation, data-path faults in this bar, the pending beat-boundary interrupts of its cores (R424), the done flags set in this
beat with their cycles, whether it overran and falls silent at the coming boundary (R67), and the beat of an overrun of which the
other half has not yet written the event (R68). -/
structure HalfRec where
  st : HalfSt
  epoch : Nat
  gone : Bool
  faultSlice : Nat
  unfitAt : List Nat
  since : Nat
  shadow : Option Shadow
  heads : List (Nat × Nat × Nat)
  arrived : Bool
  bulk : Bool
  dpFaults : Nat
  beatIrq : Bool
  forceIrq : Bool
  dones : List (Nat × Nat)
  quit : Bool
  ovrAt : Option Nat
  sram : List SramWord
  deriving DecidableEq, Repr

/-- A role change in progress: the half that was granted the clapper, the boundary of the grant, and the former active
half of a drill. -/
structure TakeOver where
  half : Half
  grantAt : Nat
  drill : Bool
  ready : Bool
  deriving DecidableEq, Repr

/-- A swap drill (R404 to R406): the pending mark, the boundary D, the candidate, whether the grant of step 5 was
made, the window's end, and bars of deferral. -/
structure Drill where
  next : Nat
  mark : Option Nat
  nowReq : Bool
  d : Option Nat
  cand : Half
  granted : Bool
  passAt : Option Nat
  deferred : Nat
  reported : Nat
  deriving DecidableEq, Repr

/-- The hub (chapters 01 and 13): the two halves, the holder of the lease and the boundary to which it runs, the output
hold and the boundary it began, the role change and the drill in progress, the fenced state, its flusher, the
record on the shadow stream, whether the host link has been enabled, the half being restored, and the power domains whose
request waits for the next boundary (R540). -/
structure Hub where
  a : HalfRec
  b : HalfRec
  holder : Option Half
  leaseEnd : Nat
  hold : Bool
  holdFrom : Nat
  take : Option TakeOver
  drill : Drill
  fenced : Bool
  flusher : Option Half
  outputsHeld : Bool
  wire : Option Shadow
  linkOn : Bool
  restoring : Option Half
  domReq : List Nat
  deriving DecidableEq, Repr

/-- A tenant's admitted settings (R150, R155): read operations, read and write bandwidth, ceiling, buffer
quota (R383). -/
structure TenSet where
  riops : Nat
  read : Nat
  write : Nat
  ceil : Nat
  quota : Nat
  deriving DecidableEq, Repr

/-- The beat scheduler (chapter 02) and the tenants' settings (chapter 05): the live plan (pattern rows, die and channel selections and
budgets, kept as the pending registers were when latched), the credits remaining, the factor D of the committed plan with the slice that
sets it and the settings it scales, D as published with its slice, the beat of its last change and the number of changes, a rise that
waits, the bars since the free blocks of each slice fell below START, the slices with a shifted plan, the settings and the media costs
last admitted, those that the live plan carries, and the tenants that went beyond their credits in a slice in this bar (R151, by
256 m + t). -/
structure Sched where
  rows : Sparse Word
  diePat : Sparse Word
  chPat : Sparse Word
  budget : Sparse Nat
  remain : Sparse Nat
  dPend : Option (Nat × Nat × Sparse TenSet)
  dPub : Nat
  dSlice : Nat
  dAt : Nat
  dChange : Nat
  riseFrom : Option (Nat × Nat)
  lowBars : List Nat
  shifted : List Nat
  admitted : Sparse TenSet
  costs : List (Nat × Nat)
  carried : Sparse TenSet
  beyond : Sparse Nat
  deriving DecidableEq, Repr

/-- The power-loss sequence (R334): the beat of detection, whether the flush has started, whether FLUSH_DONE is written,
units flushed, and what stands in place of the detection: 0 nothing, 1 a requested device reset (R464), 2 the entry into a test
mode of class W (R517). -/
structure PLoss where
  at_ : Nat
  flushing : Bool
  done : Bool
  units : Nat
  why : Nat
  deriving DecidableEq, Repr



/-- What leaves the device, in the order it leaves: completion entries, interrupts, memory reads and writes and
completions on the link, AER errors (with whether they are sent as fatal), pin levels, and answers on the service port. A write of
data carries its Relaxed Ordering attribute; completion entries and interrupts carry none (R93). A log page carries the dwords asked for
and its bytes, past which every byte is 0 (R123). -/
inductive Out where
  | completion (fn cq sq cid sct sc dnr dw0 sqhd : Nat)
  | msix (fn iv : Nat)
  | memRead (port tag fn addr len : Nat)
  | hostData (fn cid : Nat) (i : Nat) (secs : List (Nat × Sector)) (early : Bool) (ro : Bool)
  | testData (fn addr : Nat) (bytes : List Byte)
  | dataIn (bytes : List Byte) (poisoned : Bool)
  | ur
  | ca
  | crs
  | aer (fn : Nat) (e : AerErr) (fatal : Bool)
  | page (fn cid lid dwords : Nat) (bytes : List Nat)
  | fields (fn cid : Nat) (fields : List Nat)
  | i3c (bytes : List Nat)
  | mctp (code : Nat) (fields : List Nat)
  | doe (pf code : Nat) (fields : List Nat)
  | doeBusy (pf : Nat)
  | spdm (fn cid : Nat) (fields : List Nat)
  | uart (fields : List Nat)
  | ibi
  deriving DecidableEq, Repr

/-- The host link and the queue engine (chapters 03 and 04): functions, tags, queues, grants, contexts, held
completions, the function granted last (R120), identifiers handed out, the entries whose completions the hub has transmitted since the
last record that the other half applied (R35), completions posted in all, port 1's flit mode (R72) and the TLPs in the ingress buffer
(R75). -/
structure Nvme where
  fns : Sparse Fn
  tags : List TagRec
  sqs : List Sq
  cqs : List Cq
  grants : List Grant
  ctxs : List Ctx
  held : List Held
  lastFn : Nat
  nextCtx : Nat
  psAt : Option Nat
  psPrev : Nat
  exitAt : Option Nat
  sanitize : Option Nat
  perst : List Bool
  crit : Nat
  posted : List (Nat × Nat × Nat)
  posts : Nat
  flit1 : Bool
  ingress : List Instr
  deriving DecidableEq, Repr

/-- A delta page (R192): its deltas by map sequence number, tart and entry, and the passes completed when its program was confirmed. -/
structure DeltaPage where
  deltas : List (Nat × Nat × MapEntry)
  passes : Nat
  deriving DecidableEq, Repr

/-- A copy of a map segment in flash (R192): the segment, the map sequence number that follows the last delta applied, whether its check fails, and the entries. -/
structure SegCopy where
  seg : Nat
  next : Nat
  bad : Bool
  entries : Sparse MapEntry
  deriving DecidableEq, Repr

/-- The translation unit and the write buffer (chapter 06): the map, namespaces, versions, parts, map writes waiting,
the map sequence number, the watch table, predictor, staged tarts and streams, the
checkpoint's segment, the confirmed delta pages, the copies of map segments in flash (newest first) and those being written, and the
passes completed. -/
structure Trans where
  map : Sparse MapEntry
  ns : List Ns
  nextKey : Nat
  vers : List Ver
  parts : List Part
  nextId : Nat
  mapq : List MapWr
  mseq : Nat
  watch : List Watch
  pred : Sparse Pred
  staged : List Staged
  merges : List Merged
  ra : List Ra
  seg : Nat
  pages : List DeltaPage
  segs : List SegCopy
  copying : List SegCopy
  passes : Nat
  deriving DecidableEq, Repr

/-- A range scrub in progress (R282, R283): the request, the position it has reached, whether it is cancelled, and the
counts of its summary record. -/
structure Scrub where
  id : Nat
  kind : Nat
  start : Nat
  count : Nat
  next : Nat
  cancel : Bool
  begun : Nat
  read : Nat
  soft : Nat
  ladder : Nat
  recon : Nat
  unrec : Nat
  poisoned : Nat
  skipped : Nat
  cbmax : Nat
  refresh : Nat
  deriving DecidableEq, Repr

/-- The media patrol (R278): the address above the last page read, pages read in the pass, the beat the pass began, and
whether it was recorded late. -/
structure Patrol where
  next : Nat
  count : Nat
  start : Nat
  late : Bool
  deriving DecidableEq, Repr

/-- Media management, sequencers and patrol (chapters 07 to 09): dies, blocks, pages, superblocks, operations, erases,
the refresh queue, V, relocations waiting to be placed and to be confirmed, the range scrub in progress, the media patrol,
whether space
reclamation runs (R207), the block table as the ledger has it (by die block), its changes that wait for the ring, and U0, the tarts usable at the first
start (0 before it; R227); the page reads on the ladder, the partial parities, the die records, the key blocks with the changes of the
key table that wait, where an all-blocks erase of a sanitize stands (R492), the SLC die blocks that have replaced others (R216, by die
and block), the mean erase counts at the last 24-hour marks (R215), the channels that wait for a short ZQ calibration (R234), and the
program units that the metadata stream has programmed in each SLC block (by die and block, R278). -/
structure Media where
  dies : Sparse Die
  blks : Sparse Blk
  flash : Sparse Page
  sbs : List Sb
  ops : List Op
  nextOp : Nat
  nextSb : Nat
  stamp : Nat
  erases : List Erase
  rfs : List Rfs
  rfsSeq : Nat
  valid : Nat
  lostTart : Bool
  copies : List Placed
  dests : List Dest
  scrub : Option Scrub
  patrol : Patrol
  space : Bool
  table : Sparse Word64
  tabq : List (Nat × Nat × Nat)
  u0 : Nat
  climbs : List Climb
  partials : List Partial
  recs : Sparse DieRec
  keyBlks : List KeyBlk
  keyJobs : List KeyChange
  sanAt : Option (Nat × Nat)
  slcSub : Sparse Nat
  snaps : List Nat
  zq : List Nat
  slcUsed : Sparse Nat
  deriving DecidableEq, Repr

/-- The ledger and the power-loss sequence (chapter 11): the die's words, the live records, ring positions, JSEQ of the
next record, anchors, the inputs of the hold-up, the newest FLUSH_DONE since the last recorded start (units, complete,
unsafe), the PMR indirection table, granule counts, the versions recovery reloaded, unclean shutdowns, the flush reserve (R550: its die
blocks on each die, the positions used in each of them, the units whose directory words name a place of before the last start), the sequence in progress, and the tarts that recovery has still to poison (R341). -/
structure Ledger where
  words : Sparse Word64
  live : List JRec
  head : Nat
  jseq : Nat
  anchor : Nat
  holdok : Bool
  vholdOk : Bool
  flushRec : Option (Nat × Bool × Bool)
  loss : Option PLoss
  gran : Sparse Nat
  granWr : Sparse Nat
  granLife : Sparse Nat
  spares : List Nat
  reloaded : List Nat
  badShut : Nat
  flushPer : Nat
  flushUsed : Sparse Nat
  flushOld : List Nat
  toRelease : Bool
  stale : List Nat
  deriving DecidableEq, Repr

/-! ### Regulation (chapter 10) -/

/-- A read-level loop (R289 to R297), by level: mode (0 AUTO, 1 MANUAL, 2 ALARM), integrator I, error of the last
measured update, manual and held outputs, published output; the following-error timer and the rearm count. -/
structure Loop where
  mode : Nat
  int : List Int
  err : List Int
  man : List Int
  held : List Int
  out : List Int
  timer : Nat
  rearm : Nat
  deriving DecidableEq, Repr

/-- A measurement that waits for its update (R291): its loop, the ladder step of a recovery (0 for rung 0), the
corrections and the outputs U at the issue of the read, by level, its weight, and whether it waits for the next beat. -/
structure Meas where
  key : Nat
  step : Nat
  xs : List Int
  us : List Int
  w : Nat
  late : Bool
  deriving DecidableEq, Repr

/-- The loop command pending (R300): die, block group, operation code, and whether it applies in the next beat. -/
structure LoopCmd where
  die : Nat
  grp : Nat
  op : Nat
  late : Bool
  deriving DecidableEq, Repr

/-- The regulation engines: loops, measurements, the pending command, the sensors' last readings in 1/16 °C, the
boundaries in a row with a sensor at 115 °C or more, each slice's bucket and held claim (an operation), the operation a
cartridge slot's limit holds, the energy of the operations issued in this and in the previous beat, the tier 1 and 2
candidates issued and seen in each of the last bars, the rotation of the dies, each die's calibration
position, and the newest copy of the loop states in the metadata stream. -/
structure Regul where
  loops : Sparse Loop
  meas : List Meas
  cmd : Option LoopCmd
  temps : List Int
  hot : Nat
  bucket : Sparse Nat
  claims : Sparse Nat
  cartHeld : Sparse Nat
  energy : Nat
  energyPrev : Nat
  tier : List (Nat × Nat)
  barTier : Nat × Nat
  rot : Nat
  calib : Sparse Nat
  saving : Sparse Loop
  saved : Sparse Loop
  deriving DecidableEq, Repr

/-! ### DRAM and buffers (chapter 12) -/

/-- A request queued in the DRAM controller: port, whether it writes, whether patrol, refresh or metadata makes it (R64), line, whether
it writes less than a line, the
half it came from, and the beat and cycle of its arrival. -/
structure DReq where
  id : Nat
  port : Nat
  wr : Bool
  rfs : Bool
  line : Nat
  part : Bool
  half : Half
  beat : Nat
  cyc : Nat
  issued : Bool
  deriving DecidableEq, Repr

/-- An entry of the merge buffer (R364): line, the requests joined in it, its read while it has not returned, and whether
that read was uncorrectable or poisoned. -/
structure Merge where
  line : Nat
  reqs : List Nat
  readId : Option Nat
  bad : Bool
  deriving DecidableEq, Repr

/-- A row of the repair list or the repair queue (R368 to R370): subchannel and rank, device, bank, row, and whether hard
repair is pending. -/
structure RepRow where
  sr : Nat
  dev : Nat
  bank : Nat
  row : Nat
  hard : Bool
  deriving DecidableEq, Repr

/-- A DRAM range scrub in progress (R367). -/
structure DScrub where
  id : Nat
  start : Nat
  count : Nat
  next : Nat
  begun : Nat
  cancel : Bool
  corrected : Nat
  uncorr : Nat
  poisoned : Nat
  repairs : Nat
  worst : Sparse Nat
  deriving DecidableEq, Repr

/-- The DRAM controller and the DRAM it serves: queued requests, merge buffer, lines served in this beat by port, rows in
in-order mode (row, the read that switched it), open rows by bank (row + 1), the lines found corrected in the patrol pass
(subchannel and rank, device, bank, row, line), lines that are poisoned, the repair queue, the repair in progress with the
beat it began and the first request after the block, the range scrub, the line the patrol reads next, mode
registers (value + 1), PHY settings, refreshes, the bytes of the CMB, the map segments being rebuilt, the copy of the boot option image
(R82, by word), the lines of patrol, refresh and metadata served in this beat, the devices with an inverted symbol by line
(R376, bit d for device d), and the refreshes a repair postpones. -/
structure Dram where
  queue : List DReq
  nextReq : Nat
  merge : List Merge
  served : Sparse Nat
  inOrder : List (Nat × Nat)
  openRows : Sparse Nat
  rowSeen : List (Nat × Nat × Nat × Nat × Nat)
  poisoned : List Nat
  repairQ : List RepRow
  repair : Option (RepRow × Nat × Nat)
  scrub : Option DScrub
  patrolAt : Nat
  modeRegs : Sparse Nat
  phy : Sparse Nat
  refreshes : Sparse Nat
  cmb : Sparse Byte
  rebuild : List Nat
  rom : Sparse Word64
  rfsServed : Nat
  flips : Sparse Nat
  postponed : Sparse Nat
  deriving DecidableEq, Repr

/-- A buffer (R379): generation, owners (none when it is free), the tenant charged, and its units. -/
structure BufRec where
  gen : Nat
  owners : List Nat
  tenant : Option Nat
  units : Nat
  deriving DecidableEq, Repr

/-- An allocation that waits (R378, R383). -/
structure BufWait where
  half : Half
  master : Nat
  pool : Nat
  noq : Bool
  tenant : Nat
  cls : Nat
  deriving DecidableEq, Repr

/-- The buffer manager: buffers by half and handle without GEN, and allocations waiting in arrival order. -/
structure Bufs where
  recs : Sparse BufRec
  waits : List BufWait
  deriving DecidableEq, Repr

/-! ### Boot array and start-up (chapter 15) -/

/-- A word of the boot array (R439, R440): the programs since its erasure and its contents. -/
structure ArrWord where
  n : Nat
  val : Word64
  deriving DecidableEq, Repr

/-- The boot array operation in progress (R443, R446): OP, address, its words, its log word's address, and the beat it
began. -/
structure BtaOp where
  op : Nat
  addr : Nat
  words : List Word64
  log : Nat
  begun : Nat
  deriving DecidableEq, Repr

/-- The boot array and start-up: words, the operation in progress, SEQ of the next operation, remaps (sector to spare + 1),
the halves that failed in this start, the half released that waits for its first grant, the beat in which the step began
or PROGRESS last changed, failed verifications in a row, whether the start is from a TRIAL bank, the attempt word begun in
this start (bank and number), the set that runs and the one staged, STATEFMT by bank, a supply trip to be recorded, the power cycles counted and the beats of
earlier ones (Health page 02h). -/
structure Boot where
  arr : Sparse ArrWord
  op : Option BtaOp
  seq : Nat
  remaps : Sparse Nat
  failed : List Half
  release : Option Half
  stepAt : Nat
  verFails : Nat
  trial : Bool
  attempt : Option (Nat × Nat)
  run : ImageMeta
  staged : ImageMeta
  fmts : Sparse Nat
  trip : Option (Nat × Nat)
  cycles : Nat
  onBeats : Nat
  deriving DecidableEq, Repr

/-! ### The service port (chapter 16) -/

/-- A session (R470, R473): whether it is an operator session, established, the nonce in force with the beat it was
returned, the beat of its last message, and whether mutual authentication is still outstanding. -/
structure Sess where
  id : Nat
  oper : Bool
  est : Bool
  nonce : Option (Nat × Nat)
  last : Nat
  mutPend : Bool
  deriving DecidableEq, Repr

/-- An update in progress (R479): the session that holds it, the chunk size, the components passed in the table, those
whose staging ended with ApplyComplete, the component in progress with its size and the words received, whether it is the
last, whether the descriptor has been erased, whether the set is staged, and the beat of the last PLDM message of the
update. -/
structure Upd where
  sess : Nat
  chunk : Nat
  table : List Nat
  applied : List Nat
  cur : Option (Nat × Nat)
  got : Nat
  lastComp : Bool
  begun : Bool
  staged : Bool
  last : Nat
  deriving DecidableEq, Repr

/-- An activation without reset (R134, R482): the bank it activates, the set and the bank that ran, boundary B once quiesced,
the beat of the activation hold, the beat of the image change, and whether the loaded set failed its test. -/
structure Act where
  target : Nat
  old : ImageMeta
  oldBank : Nat
  b : Option Nat
  holdAt : Option Nat
  changed : Option Nat
  revert : Bool
  deriving DecidableEq, Repr

/-- The service port and security: MWL and MRL, outbound packets held and waiting (the message they carry), terminus ID,
sessions, the stage of each SPDM transport (1 after GET_VERSION, 2 capabilities, 3 algorithms), the update and the
activation, the beat the console unlock ends, responses of Security Send by function, how often the alias key was made,
and whether start-up stopped before firmware was loaded, so that the mask ROM serves the port. -/
structure Svc where
  mwl : Nat
  mrl : Nat
  pkts : List (Nat × List Nat)
  waitPkts : List (Nat × List Nat)
  tid : Nat
  sess : List Sess
  nextSess : Nat
  spdm : Sparse Nat
  upd : Option Upd
  act : Option Act
  consEnd : Nat
  secResp : Sparse (List Nat)
  aliasGen : Nat
  recovery : Bool
  deriving DecidableEq, Repr

/-- The progress of mode 2/2 (R522): the next byte of the range to be read, whether the range has been written in this pass, and what
its checker has counted: bits, errors, lanes with errors, and the bits before the first error. -/
structure HostRun where
  pos : Nat
  wrote : Bool
  bits : Nat
  errs : Nat
  lanes : Nat
  first : Option Nat
  deriving DecidableEq, Repr

/-- The test controller (chapter 18): the class of the run accepted (0 S, 1 P, 2 F, 3 W), whether it has started, the bar it
began, the lanes that are locked, the cause by which a happening ends it (R523), and the progress of the host path test. -/
structure TestRun where
  cls : Nat
  started : Bool
  startBar : Nat
  locked : List Nat
  cause : Nat
  host : HostRun
  deriving DecidableEq, Repr

/-- The reasons a step can stop for good. No command of the table stops the device in this model: the manual gives
every command an effect. The constructor is kept for a command the manual would leave without one. -/
inductive Fault where
  /-- Raised by no command of this model; it would be safe, since the machine would stop where the manual says nothing. -/
  | noEffectStated
  deriving DecidableEq, Repr

/-- The reasons a command is refused by the model. -/
inductive Refusal where
  /-- Raised by exec's arms for a command that has no meaning yet; safe, since nothing is claimed of it. -/
  | notModelled (mnemonic : String)
  deriving DecidableEq, Repr

/-- The device. -/
structure State where
  pending : List Instr
  variant : Variant
  time : Time
  regs : Sparse Word
  hi : Sparse Nat
  readData : Nat
  freeCtr : Nat
  evt : Evt
  chan : Sparse Chan
  locks : Sparse Nat
  hub : Hub
  sched : Sched
  out : List Out
  nv : Nvme
  tr : Trans
  md : Media
  lg : Ledger
  slots : List Slot
  rg : Regul
  dr : Dram
  bf : Bufs
  bt : Boot
  sv : Svc
  ts : Option TestRun
  deriving DecidableEq, Repr

/-! ### Reset -/

/-- The PCIe control settings after reset, PCIe's defaults (PRESUMED, log entry 5): payload 128 B, read request 512 B, 8-bit tags,
default Completion Timeout, Relaxed Ordering enabled, nothing else; the severities of R109 that are fatal. -/
def fnCfgInit : FnCfg where
  mps := 128
  mrrs := 512
  tag10 := false
  tag14 := false
  cto := 0
  ro := true
  ido := false
  ecrcGen := false
  ecrcChk := false
  l1 := false
  l11 := false
  aerMask := []
  aerFatal := [.ecrc, .malformed, .receiverOverflow, .flowControl, .dataLink, .uncorrectableInternal]
  aerClear := []

/-- An MSI-X table entry after reset is masked, as PCIe has it (PRESUMED, log entry 139). -/
def MsixEntry.init : MsixEntry := ⟨0, 0, true⟩

/-- The controller and PCIe function state after reset: disabled, Bus Master Enable clear, PCIe's default settings. -/
def Fn.init : Fn where
  en := false
  wrr := false
  rdy := false
  cfs := false
  shst := 0
  shn := false
  pp := false
  startAt := none
  aqOk := false
  resetAt := none
  flrAt := none
  vfOn := false
  numVfs := 0
  bme := false
  cfg := fnCfgInit
  aerStat := []
  regs := []
  msix := []
  pba := []
  splitStart := false
  splitRole := none
  splitCto := none
  kept := []
  masks := []
  deleting := []
  c1h := ⟨[], false, 0, []⟩
  rdSecs := 0
  wrSecs := 0
  rdCmds := 0
  wrCmds := 0
  medErrs := 0
  errLog := 0
  feats := []
  burst := []
  wrrLeft := []
  notReady := []
  nsLog := []

/-- A half after power-on reset: OFF (R388). -/
def HalfRec.init : HalfRec where
  st := .off
  epoch := 0
  gone := false
  faultSlice := 0
  unfitAt := []
  since := 0
  shadow := none
  heads := []
  arrived := false
  bulk := false
  dpFaults := 0
  beatIrq := false
  forceIrq := false
  dones := []
  quit := false
  ovrAt := none
  sram := []

/-- An unlisted die is absent; an unlisted block is free with erase count 0; an unlisted page is unwritten. -/
def Die.init : Die := ⟨0, 0, 0, 0, 0⟩
def Blk.init : Blk := ⟨.free, 0, 0, 0, 0⟩

/-- A die record that lists nothing. -/
def DieRec.init : DieRec :=
  { bad := [], grown := [], dies := [], chans := [], erases := 0 }
def Page.init : Page := ⟨none, []⟩
/-- An unlisted map entry is deallocated (R168). -/
def MapEntry.init : MapEntry := ⟨0, 0, false, true⟩
def Slot.init : Slot := ⟨.empty, false, false, false, false, false, 0, 0, 0, true, none, 0, none, 0, false, none⟩

/-- The hub after power-on reset: both halves OFF, no lease, no hold, not fenced. -/
def Hub.init : Hub where
  a := .init
  b := .init
  holder := none
  leaseEnd := 0
  hold := false
  holdFrom := 0
  take := none
  drill := ⟨0, none, false, none, .a, false, none, 0, 0⟩
  fenced := false
  flusher := none
  outputsHeld := false
  wire := none
  linkOn := false
  restoring := none
  domReq := []

/-- The event recorder after power-on reset with an empty ring (R502: the first record has SEQ 0). -/
def Evt.init : Evt :=
  { used := [], supp := [], queue := [], lost := 0, seq := 0, pbase := 0, perm := 0, stopped := false, clearing := none, clearPos := 0,
    acc := List.replicate 8 ⟨0, 0, 0, 0⟩, warmBeats := 0, hotBeats := 0, warmAll := 0, hotAll := 0, hist := [] }

def Sched.init : Sched :=
  { rows := [], diePat := [], chPat := [], budget := [], remain := [], dPend := none, dPub := 1024, dSlice := 0, dAt := 0, dChange := 0,
    riseFrom := none, lowBars := [], shifted := [], admitted := [], costs := [], carried := [], beyond := [] }

/-- The queue engine after reset. The first arbitration round begins at function 0: the function granted last is 255 (DESIGN CHOICE, log
entry 138). -/
def Nvme.init : Nvme :=
  { fns := [], tags := [], sqs := [], cqs := [], grants := [], ctxs := [], held := [], lastFn := 255, nextCtx := 0, psAt := none,
    psPrev := 0, exitAt := none, sanitize := none, perst := [false, false], crit := 0, posted := [], posts := 0, flit1 := false,
    ingress := [] }
def Trans.init : Trans :=
  { map := [], ns := [], nextKey := 1, vers := [], parts := [], nextId := 0, mapq := [], mseq := 0, watch := [], pred := [], staged := [],
    merges := [], ra := [], seg := 0, pages := [], segs := [], copying := [], passes := 0 }
def Media.init : Media :=
  { dies := [], blks := [], flash := [], sbs := [], ops := [], nextOp := 0, nextSb := 0, stamp := 0, erases := [], rfs := [], rfsSeq := 0,
    valid := 0, lostTart := false, copies := [], dests := [], scrub := none, patrol := ⟨0, 0, 0, false⟩, space := false, table := [],
    tabq := [], u0 := 0, climbs := [], partials := [], recs := [], keyBlks := [], keyJobs := [], sanAt := none, slcSub := [], snaps := [],
    zq := [], slcUsed := [] }
def Ledger.init : Ledger :=
  { words := [], live := [], head := 0, jseq := 1, anchor := 0, holdok := true, vholdOk := true, flushRec := none, loss := none,
    gran := [], granWr := [], granLife := [], spares := List.range' 4096 64, reloaded := [], badShut := 0, flushPer := 0, flushUsed := [],
    flushOld := [], toRelease := false, stale := [] }

/-- A loop after reset: AUTO with everything 0 (R294, R301), for the largest number of levels. -/
def zeros15 : List Int := List.replicate 15 0
def Loop.init : Loop := ⟨0, zeros15, zeros15, zeros15, zeros15, zeros15, 0, 0⟩
def Regul.init : Regul :=
  { loops := [], meas := [], cmd := none, temps := [0, 0, 0, 0, 0, 0, 0, 0], hot := 0, bucket := [], claims := [], cartHeld := [],
    energy := 0, energyPrev := 0, tier := [], barTier := (0, 0), rot := 0, calib := [], saving := [], saved := [] }
def Dram.init : Dram :=
  { queue := [], nextReq := 0, merge := [], served := [], inOrder := [], openRows := [], rowSeen := [], poisoned := [], repairQ := [],
    repair := none, scrub := none, patrolAt := 0, modeRegs := [], phy := [], refreshes := [], cmb := [], rebuild := [], rom := [],
    rfsServed := 0, flips := [], postponed := [] }
def BufRec.init : BufRec := ⟨0, [], none, 0⟩
def Bufs.init : Bufs := ⟨[], []⟩
/-- An erased word reads all ones (R439). -/
def ArrWord.init : ArrWord := ⟨0, BitVec.allOnes 64⟩

/-- The variant codes (R4). -/
def variantCode : Variant → Nat
  | .fk9640 => 0x40
  | .fk9620 => 0x20
  | .fk9612 => 0x12

/-- MAGIC of the option area (R451). -/
def optMagic : Word64 := BitVec.ofNat 64 0x0F96_40A5_0F96_40A5

/-- Words 0 to 3 of an option area copy as manufacture leaves them (R451): layout 1, the variant code, rewrite generation 0, the
unit identifier (a value the manual does not give) and the CRC of the three (log entry 136). -/
def factoryWords (v : Variant) : List Word64 :=
  let w0 := optMagic
  let w1 := BitVec.ofNat 64 (1 + variantCode v * 256)
  let w2 := Config.fixedValue 5
  [w0, w1, w2, (Config.crc32 [w0, w1, w2]).setWidth 64]

/-- The boot array as manufacture leaves it: both copies of the option area, everything else erased (R4, R451; log entry 136). Words are
kept by their index, bank 1 from 2^21 on. -/
def factoryArray (v : Variant) : Sparse ArrWord :=
  [0, 2 ^ 21].flatMap (fun base => ((List.range 4).zip (factoryWords v)).map (fun p => (base + p.1, ⟨1, p.2⟩)))
def fwInit : FwMeta := ⟨0, 0, 0, 0⟩
def imgInit : ImageMeta := ⟨false, false, false, fwInit, [], ⟨0, [], []⟩, 0, []⟩
def Boot.init : Boot :=
  { arr := factoryArray .fk9640, op := none, seq := 0, remaps := [], failed := [], release := none, stepAt := 0, verFails := 0,
    trial := false, attempt := none, run := imgInit, staged := imgInit, fmts := [], trip := none, cycles := 1, onBeats := 0 }
def Svc.init : Svc :=
  { mwl := 64, mrl := 64, pkts := [], waitPkts := [], tid := 0, sess := [], nextSess := 0, spdm := [], upd := none, act := none,
    consEnd := 0, secResp := [], aliasGen := 0, recovery := false }

/-- The power domains that the hub powers at start-up (R547): of those that no happening of R542 powers, the PCIe and DDR-5
PHYs, the test generators and the console UART (DEDUCED, log entry 67). Their STATE resets to ON; every other PWR_DOMd
resets to OFF. -/
def poweredDoms : Sparse Word := [60, 61, 62, 63, 70, 71].map (fun d => (Blk.PWR * 2 ^ 16 + 0x100 + 4 * d, 0))

/-- The device right after power-on reset: the beat counter 0 (R45), both halves OFF (R388), every register at the
reset value of its field map (no entry of `regs` but for the domains powered at start-up), every memory unwritten, nothing
waiting. -/
def State.reset : State where
  pending := []
  variant := .fk9640
  time := ⟨0, 0⟩
  regs := poweredDoms
  hi := []
  readData := 0
  freeCtr := 0
  evt := .init
  chan := []
  locks := []
  hub := .init
  sched := .init
  out := []
  nv := .init
  tr := .init
  md := .init
  lg := .init
  slots := List.replicate 16 .init
  rg := .init
  dr := .init
  bf := .init
  bt := .init
  sv := .init
  ts := none

end Sys2Proof.Machine
end

