-- ==== Sys2Proof/Machine/Ops.lean ====
section
/-! DEFINITION. The operations every command is written over: registers and their fields, the variant's counts, the
halves, free values, what leaves the device, and the submission of events (R499 to R503). -/

namespace Sys2Proof.Machine

/-! ### Lists of records -/

/-- Apply `f` to the entries that satisfy `p`. -/
def updWhere {α : Type} (p : α → Bool) (f : α → α) (l : List α) : List α :=
  l.map (fun x => if p x then f x else x)

/-- `l` with `x` added unless it is there. -/
def addOnce {α : Type} [DecidableEq α] (x : α) (l : List α) : List α :=
  if x ∈ l then l else l ++ [x]

/-- The sum of `f` over a list. -/
def sumOf {α : Type} (f : α → Nat) (l : List α) : Nat :=
  l.foldl (fun a x => a + f x) 0

/-- `x` put into a sorted list before the first entry that it precedes. -/
def insertBy {α : Type} (before : α → α → Bool) (x : α) : List α → List α
  | [] => [x]
  | y :: t => if before x y then x :: y :: t else y :: insertBy before x t

/-- A list sorted by `before`, equal entries in their order. -/
def sortBy {α : Type} (before : α → α → Bool) (l : List α) : List α := l.foldl (fun a x => insertBy before x a) []

/-- The least element of a non-empty list of numbers. -/
def minOf (l : List Nat) : Option Nat :=
  l.foldl (fun a x => match a with | none => some x | some y => some (min x y)) none

/-- The lesser of two numbers that may be absent. -/
def minOpt : Option Nat → Option Nat → Option Nat
  | some a, some b => some (min a b)
  | none, b => b
  | a, none => a

/-- ceil(a / b). -/
def ceilDiv (a b : Nat) : Nat := (a + b - 1) / b

/-- A value that saturates at `top`. -/
def satAdd (top a b : Nat) : Nat := min top (a + b)

/-- Bit `i` of a number. -/
def bit (n i : Nat) : Bool := n / 2 ^ i % 2 == 1

/-! ### Variants (R1, R70, R112, R385) -/

def Variant.slices : Variant → Nat
  | .fk9612 => 2
  | _ => 4

def Variant.channels : Variant → Nat
  | .fk9612 => 16
  | _ => 32

def Variant.slotsN : Variant → Nat
  | .fk9612 => 8
  | _ => 16

def Variant.diesN : Variant → Nat
  | .fk9612 => 512
  | _ => 1024

/-- Half B is present only in the FK9640. -/
def Variant.twin : Variant → Bool
  | .fk9640 => true
  | _ => false

/-- A PMR is present except in the FK9612. -/
def Variant.pmr : Variant → Bool
  | .fk9612 => false
  | _ => true

/-! ### Registers -/

/-- The blocks held once in each half: SCH (R71), CHM, SEM (R437, R438), BUF (R377), and the submission registers of
EVT (R501). Every other block is held once. -/
def perHalf (b off : Nat) : Bool :=
  b == Blk.SCH || b == Blk.CHM || b == Blk.SEM || b == Blk.BUF || (b == Blk.EVT && decide (0x1000 ≤ off))

/-- The key of a register in the register memory. -/
def regKey (h : Half) (b off : Nat) : Nat :=
  (if perHalf b off = true ∧ h = .b then 1 else 0) * 2 ^ 24 + b * 2 ^ 16 + off

/-- What a register that nothing has written reads as: its reset value. -/
def regDefault (k : Nat) : Word := regResetAt (k / 2 ^ 16 % 2 ^ 8) (k % 2 ^ 16)

/-- The contents of the register at an offset of a block, as half `h` sees it. -/
def State.reg (s : State) (h : Half) (b off : Nat) : Word := spGet regDefault s.regs (regKey h b off)

/-- Set a register's contents. -/
def State.setReg (s : State) (h : Half) (b off : Nat) (w : Word) : State :=
  { s with regs := spSet regDefault s.regs (regKey h b off) w }

/-- The offset of instance `i` of a register. -/
def Reg.at (r : Reg) (i : Nat) : Nat := r.off + i * r.stride

/-- A field of a register's contents. -/
def Fd.get (f : Fd) (w : Word) : Nat := w.toNat / 2 ^ f.lsb % 2 ^ f.width

/-- A register's contents with one field set. -/
def Fd.put (f : Fd) (w : Word) (v : Nat) : Word :=
  BitVec.ofNat 32 (w.toNat - f.get w * 2 ^ f.lsb + v % 2 ^ f.width * 2 ^ f.lsb)

/-- Read field `f` of instance `i` of its register. -/
def State.rd (s : State) (f : Fd) (i : Nat := 0) (h : Half := .a) : Nat :=
  f.get (s.reg h f.reg.blk (f.reg.at i))

/-- Set field `f` of instance `i` of its register. -/
def State.wr (s : State) (f : Fd) (v : Nat) (i : Nat := 0) (h : Half := .a) : State :=
  s.setReg h f.reg.blk (f.reg.at i) (f.put (s.reg h f.reg.blk (f.reg.at i)) v)

/-- Add to a counting field, which saturates at its largest value. -/
def State.count (s : State) (f : Fd) (n : Nat := 1) (i : Nat := 0) (h : Half := .a) : State :=
  s.wr f (satAdd (2 ^ f.width - 1) (s.rd f i h) n) i h

/-- Apply a change for each element of a list. -/
def State.each {α : Type} (s : State) (l : List α) (f : State → α → State) : State := l.foldl f s

/-- Apply a change when a condition holds. -/
def State.when (s : State) (c : Bool) (f : State → State) : State := if c then f s else s

/-! ### Power domains (R539, R540, R542) -/

/-- A power domain reaches a state: 0 ON, 1 RETAIN, 2 OFF. WAKES counts transitions to ON. -/
def State.setDom (s : State) (d st : Nat) : State :=
  let old := s.rd Fd.PWR_DOM_STATE d
  let s := s.wr Fd.PWR_DOM_STATE st d
  if st = 0 ∧ old ≠ 0 then s.count Fd.PWR_DOM_WAKES 1 d else s

/-- The 30 domains of a half. -/
def halfDoms : Half → List Nat
  | .a => List.range 30
  | .b => List.range' 30 30

/-- The link domain between the hub and a half. -/
def linkDom : Half → Nat
  | .a => 68
  | .b => 69

/-- The hub sets the domains of a half and its link domain. -/
def State.setHalfDoms (s : State) (h : Half) (st : Nat) : State := s.each (halfDoms h ++ [linkDom h]) (fun s d => s.setDom d st)

/-- Every RETAIN domain of a half goes ON. -/
def State.wakeHalf (s : State) (h : Half) : State :=
  s.each ((halfDoms h).filter (fun d => s.rd Fd.PWR_DOM_STATE d == 1)) (fun s d => s.setDom d 0)

/-! ### Halves -/

def otherHalf : Half → Half
  | .a => .b
  | .b => .a

/-- The number of a half in registers and event arguments: 0 Half A, 1 Half B. -/
def halfNum : Half → Nat
  | .a => 0
  | .b => 1

def Hub.half (u : Hub) : Half → HalfRec
  | .a => u.a
  | .b => u.b

def State.half (s : State) (h : Half) : HalfRec := s.hub.half h

def State.updHub (s : State) (f : Hub → Hub) : State := { s with hub := f s.hub }

def State.updHalf (s : State) (h : Half) (f : HalfRec → HalfRec) : State :=
  s.updHub (fun u => match h with
    | .a => { u with a := f u.a }
    | .b => { u with b := f u.b })

/-- The half that is ACTIVE, of which there is at most one (R388). -/
def State.active (s : State) : Option Half :=
  if s.hub.a.st = .active then some .a else if s.hub.b.st = .active then some .b else none

/-- The half whose registers and events stand for the serving half: the ACTIVE half, else Half A. -/
def State.act (s : State) : Half := s.active.getD .a

/-- A half serves: it is ACTIVE, has not withdrawn, no output hold is in force and the device is not fenced. -/
def State.serving (s : State) : Bool :=
  match s.active with
  | none => false
  | some h => !(s.half h).gone && !s.hub.hold && !s.hub.fenced && !s.hub.outputsHeld

/-- The bar that the beat counter stands in, and whether this beat opened it (R46). -/
def State.bar (s : State) : Nat := s.time.beat / 250
def State.atBar (s : State) : Bool := s.time.beat % 250 == 0

/-! ### Free values -/

/-- The next free value: a value the manual leaves open, on which nothing is assumed. -/
def State.free (s : State) : Nat × State :=
  ((Config.freeValue s.freeCtr).toNat, { s with freeCtr := s.freeCtr + 1 })

/-! ### Test modes (chapter 18) -/

/-- The device is withdrawn by a test mode of class W, until the next device reset (R517). -/
def State.withdrawn (s : State) : Bool := s.rd Fd.TST_STAT_WITHDRAWN == 1

/-- The service port is cut off while a mode of class F holds the test controller (R514). -/
def State.portCut (s : State) : Bool := match s.ts with | some t => t.cls == 2 | none => false

/-- A mode of an interface runs. -/
def State.testRuns (s : State) (iface : Nat) : Bool :=
  (match s.ts with | some t => t.started | none => false) && s.rd Fd.TST_CTRL_IFACE == iface

/-! ### What leaves the device -/

def State.emit (s : State) (o : Out) : State := { s with out := s.out ++ [o] }

/-! ### Functions and AER -/

/-- One function's state. -/
def State.fn (s : State) (f : Nat) : Fn := spGet (fun _ => .init) s.nv.fns f

/-- Change one function's state. -/
def State.updFn (s : State) (f : Nat) (g : Fn → Fn) : State :=
  { s with nv := { s.nv with fns := spSet (fun _ => .init) s.nv.fns f (g (s.fn f)) } }

/-- The link is two ×8 ports (R74, R78): never in the FK9612 (R112). -/
def State.bifur (s : State) : Bool := s.variant != .fk9612 && s.rd Fd.HST_LINK_BIFUR == 1

/-- The PFs as functions: in a bifurcated link functions 0–127 are port 0's and 128–255 port 1's, so PF1 is function 128 (R78, R113). -/
def State.pfs (s : State) : List Nat := if s.bifur then [0, 128] else [0, 1]

/-- The errors whose TLP header AER keeps. -/
def logsHeader (e : AerErr) : Bool :=
  e == .unsupportedRequest || e == .advisoryUr || e == .advisoryPoison || e == .advisoryUcpl || e == .ecrc || e == .malformed

/-- A function's AER logs an error (R109): its status is set, and unless it is masked it is reported with the severity in force. -/
def State.aerLog (s : State) (f : Nat) (e : AerErr) : State :=
  let c := (s.fn f).cfg
  let s := s.updFn f (fun x => { x with aerStat := addOnce e x.aerStat })
  if c.aerMask.contains e then s else s.emit (.aer f e (c.aerFatal.contains e))

/-- An AER error of a function (R109). A header that finds the log taken by an earlier one overflows it (PRESUMED, log entry 5). -/
def State.aer (s : State) (f : Nat) (e : AerErr) : State :=
  let full := logsHeader e && (s.fn f).aerStat.any logsHeader
  (s.aerLog f e).when full (fun s => s.aerLog f .headerLogOverflow)

/-- An error that every PF reports (R109, R111). -/
def State.aerPfs (s : State) (e : AerErr) : State := s.each s.pfs (fun s f => s.aer f e)

/-! ### Events -/

/-- The event codes that are not rate-limited (R500). -/
def exemptCode (code : Nat) : Bool :=
  code == 0x0302 || code == 0x0401 || code == 0x0506 || code == 0x0702 || code == 0x0903 || code == 0x0A02 ||
  code == 0x0A03 || (code / 256 == 13 && code % 256 != 0) || (code / 256 == 14 && code % 256 != 0) ||
  (code / 256 == 17 && code % 256 != 0) || code == 0x1201 || (code / 256 == 19 && code % 256 != 0) ||
  (code / 256 == 20 && code % 256 != 0) || (code / 256 == 21 && code % 256 != 0) || code == 0x1601

/-- The event codes of R500: the low bytes from 0 to the last that its table lists for the block. Codes not listed are never
written. -/
def listedCode (code : Nat) : Bool :=
  decide (1 ≤ code / 256) && decide (code / 256 ≤ 23) &&
    decide (code % 256 ≤ [0, 1, 4, 2, 1, 6, 2, 2, 4, 3, 3, 7, 2, 5, 3, 2, 3, 3, 1, 2, 2, 2, 2, 3].getD (code / 256) 0)

/-- The hub accepts submissions of its own units and of a half that is ACTIVE, STANDBY or SYNCING and has not
withdrawn, until the writer has stopped (R501, R506). `src` is the die: 0 hub, 1 Half A, 2 Half B. -/
def State.accepts (s : State) (src : Nat) : Bool :=
  let fit (r : HalfRec) : Bool := !r.gone && (r.st == .active || r.st == .standby || r.st == .syncing)
  !s.evt.stopped && (src == 0 || (src == 1 && fit s.hub.a) || (src == 2 && fit s.hub.b))

/-- The tokens left in the bucket of a code (R503). -/
def State.tokens (s : State) (code : Nat) : Nat :=
  s.rd Fd.EVT_LIM_BURST (code / 256) - spGet (fun _ => 0) s.evt.used code

def State.updEvt (s : State) (f : Evt → Evt) : State := { s with evt := f s.evt }

/-- Submit an event (R501): accepted or discarded by its source, then the token test, then the queue of 512 records.
The result is EVT_SUBm.RESULT: 1 queued, 2 suppressed, 3 discarded. -/
def State.submit (s : State) (src mid code : Nat) (args : List Nat) : Nat × State :=
  if !s.accepts src then (3, s)
  else if !exemptCode code && s.tokens code == 0 then
    (2, (s.updEvt (fun e => { e with supp := spSet (fun _ => 0) e.supp code (spGet (fun _ => 0) e.supp code + 1) })).count
      Fd.EVT_CNT_SUPP_COUNT)
  else
    let s := if exemptCode code then s else
      s.updEvt (fun e => { e with used := spSet (fun _ => 0) e.used code (spGet (fun _ => 0) e.used code + 1) })
    if s.evt.queue.length < 512 then
      (1, s.updEvt (fun e => { e with queue := e.queue ++ [⟨s.time.beat, code, src, mid, 0, args⟩] }))
    else (3, (s.updEvt (fun e => { e with lost := e.lost + 1 })).count Fd.EVT_CNT_LOST_COUNT)

/-- An event of a hub unit: SOURCE 0, MASTER 0x80 (R499). -/
def State.hev (s : State) (code : Nat) (args : List Nat) : State := (s.submit 0 0x80 code args).2

/-- The die number of a half in SOURCE (R499). -/
def halfSrc (h : Half) : Nat := halfNum h + 1

/-- An event of a hardware unit of half `h` at the position of master `m` (R499). -/
def State.uev (s : State) (h : Half) (m code : Nat) (args : List Nat) : State :=
  (s.submit (halfSrc h) (0x80 + m) code args).2

/-- An event of the active half's unit at position `m` (0 where R423 gives the unit none, R499); of the hub when no half is
active. -/
def State.aev (s : State) (m code : Nat) (args : List Nat) : State :=
  match s.active with
  | some h => s.uev h m code args
  | none => s.hev code args

/-- The blocks that reside in the hub (R418, R419, R466, R497, R498, R513, R526, R547, and the slots' sideband). -/
def hubBlock (b : Nat) : Bool :=
  b == Blk.SAF || b == Blk.CLP || b == Blk.BTA || b == Blk.SVC || b == Blk.SEC || b == Blk.EVT || b == Blk.TST ||
  b == Blk.PWR

/-- The position in a half of the unit that holds a block (R423): the queue engine, the translation unit, none for the
others (R499). -/
def unitPos (b : Nat) : Nat := if b = Blk.QUE then 16 else if b = Blk.MAP then 17 else 0

/-- Record a write that is discarded whole (R500, low byte 0x00): the register offset, the value, the writer. -/
def State.discarded (s : State) (h : Half) (m b off val : Nat) : State :=
  (s.submit (if hubBlock b then 0 else halfSrc h) (0x80 + unitPos b) (b * 256) [off, val, m, 0]).2

end Sys2Proof.Machine
end

