-- ==== Sys2Proof/Machine/Cores.lean ====
section
/-! DEFINITION. Chapter 14: master IDs (R423), chimes (R425 to R430) and lock registers (R431 to R435), with the
commands CHIME_SEND, CHIME_ACK, LOCK_READ, LOCK_RELEASE and SEM_FORCE. -/

namespace Sys2Proof.Machine

/-! ### Master IDs and endpoints -/

/-- A master ID that R423 assigns in this variant (R436). -/
def masterPresent (v : Variant) (m : Nat) : Bool :=
  decide (m ≤ 20) || (decide (32 ≤ m) && decide (m < 32 + 16 * v.slices)) || m == 96 || m == 97

/-- Firmware masters are the chime endpoints (R425): the master ID of endpoint `e`. -/
def endpointMaster (e : Nat) : Nat :=
  if e < 2 then e else if e < 10 then e + 6 else 32 + 16 * ((e - 10) / 4) + (e - 10) % 4

/-- An endpoint present in this variant (R425, R436). -/
def endpointPresent (v : Variant) (e : Nat) : Bool := decide (e < 10 + 4 * v.slices)

/-- A core: a chime endpoint (R424, R425). -/
def isCore (m : Nat) : Bool :=
  decide (m < 2) || (decide (8 ≤ m) && decide (m < 16)) || (decide (32 ≤ m) && decide (m < 96) && decide (m % 16 < 4))

/-! ### Chimes -/

def Chan.init : Chan := ⟨false, 0, 0⟩

/-- The key of the channel from `src` to `dst` in half `h`. -/
def chanKey (h : Half) (src dst : Nat) : Nat := halfNum h * 1024 + src * 32 + dst

def State.channel (s : State) (h : Half) (src dst : Nat) : Chan := spGet (fun _ => .init) s.chan (chanKey h src dst)

def State.setChannel (s : State) (h : Half) (src dst : Nat) (c : Chan) : State :=
  { s with chan := spSet (fun _ => .init) s.chan (chanKey h src dst) c }

/-- The blocks held once in each half are there for half `h` (R6). -/
def halfPresent (v : Variant) (h : Half) : Bool := h == .a || v.twin

/-- Every channel of a half is emptied (R430); SEQ starts from 0 again. -/
def State.emptyChimes (s : State) (h : Half) : State :=
  { s with chan := spClear s.chan (halfNum h * 1024) (halfNum h * 1024 + 1024) }

/-- Messages held in the channels of a half. -/
def State.chimesHeld (s : State) (h : Half) : Nat :=
  (s.chan.filter (fun p => decide (p.1 / 1024 = halfNum h) && p.2.full)).length

/-- An access to the registers of endpoint `e` that R437 refuses: counted, and recorded with the endpoint, the master,
the register's offset, and 1 for a write (R549). -/
def State.refuseChime (s : State) (h : Half) (e m off write : Nat) : State :=
  (s.count Fd.CHM_CNT_BAD_COUNT 1 0 h).uev h 0 0x0F02 [e, m, off, write]

/-- The send of R426 by endpoint `e` to `dest`. -/
def State.chimeSend (s : State) (h : Half) (e dest : Nat) : State :=
  if dest = e ∨ endpointPresent s.variant dest = false then s.wr Fd.CHM_TXSTAT_LAST 3 e h
  else if (s.channel h e dest).full then (s.count Fd.CHM_CNT_FULL_COUNT 1 0 h).wr Fd.CHM_TXSTAT_LAST 2 e h
  else
    let c := s.channel h e dest
    let msg := BitVec.ofNat 64 (s.rd Fd.CHM_TXLO_DATA e h + s.rd Fd.CHM_TXHI_DATA e h * 2 ^ 32)
    ((s.setChannel h e dest ⟨true, msg, (c.next + 1) % 256⟩).wr Fd.CHM_TXSTAT_LAST 1 e h).wr
      Fd.CHM_TXSTAT_SEQ c.next e h

/-- A write of CHM_TXCTRLe by master `m` of half `h`. -/
def State.chimeTx (s : State) (h : Half) (m e dest : Nat) : State :=
  if halfPresent s.variant h = false ∨ endpointPresent s.variant e = false then s
  else if m = endpointMaster e then s.chimeSend h e (dest % 32)
  else s.refuseChime h e m (Reg.CHM_TXCTRL.at e) 1

/-- A write of CHM_RXACKe by master `m` of half `h` (R427): an ACK empties the channel from SRC; an ACK of an empty
channel is discarded. -/
def State.chimeRx (s : State) (h : Half) (m e : Nat) (ack : Bool) : State :=
  if halfPresent s.variant h = false ∨ endpointPresent s.variant e = false then s
  else if m = endpointMaster e then
    if ack then
      let src := s.rd Fd.CHM_RXSEL_SRC e h
      let c := s.channel h src e
      if c.full then s.setChannel h src e ⟨false, 0, c.next⟩ else s
    else s
  else s.refuseChime h e m (Reg.CHM_RXACK.at e) 1

/-- CHIME_SEND (R426, R428, R437). -/
def execChimeSend (h : Half) (m e dest : Nat) (s : State) : Host.Outcome State Fault Refusal :=
  .next (s.chimeTx h m e dest)

/-- CHIME_ACK (R427, R437). -/
def execChimeAck (h : Half) (m e : Nat) (ack : Bool) (s : State) : Host.Outcome State Fault Refusal :=
  .next (s.chimeRx h m e ack)

/-! ### Locks -/

/-- The key of lock `n` of half `h`. -/
def lockKey (h : Half) (n : Nat) : Nat := halfNum h * 64 + n

/-- The holder of a lock, if it is held. -/
def State.lockHolder (s : State) (h : Half) (n : Nat) : Option Nat :=
  match spGet (fun _ => 0) s.locks (lockKey h n) with
  | 0 => none
  | k + 1 => some k

def State.setLock (s : State) (h : Half) (n : Nat) (who : Option Nat) : State :=
  { s with locks := spSet (fun _ => 0) s.locks (lockKey h n) (match who with | none => 0 | some m => m + 1) }

/-- Every lock of a half is freed (R435). -/
def State.freeLocks (s : State) (h : Half) : State :=
  { s with locks := spClear s.locks (halfNum h * 64) (halfNum h * 64 + 64) }

/-- The locks of a half that are held, with their holders. -/
def State.heldLocks (s : State) (h : Half) : List (Nat × Nat) :=
  (s.locks.filter (fun p => decide (p.1 / 64 = halfNum h))).map (fun p => (p.1 % 64, p.2 - 1))

/-- What SEM_PEEKn reads as. -/
def State.peekLock (s : State) (h : Half) (n : Nat) : Nat :=
  match s.lockHolder h n with
  | none => 0
  | some m => 2 + m * 256

/-- A read of SEM_LOCKn (R431): a free lock is acquired, a held lock is contended; the service port bridge peeks. -/
def State.readLock (s : State) (h : Half) (m n : Nat) : State :=
  if m = 96 then { s with readData := s.peekLock h n }
  else match s.lockHolder h n with
    | none => { s.setLock h n (some m) with readData := 3 + m * 256 }
    | some k => { s.count Fd.SEM_CNT_CONTEND_COUNT 1 0 h with readData := 2 + k * 256 }

/-- A write of SEM_LOCKn (R433). A release of a free lock is refused too; the holder its event names is then a value
the manual does not state. -/
def State.releaseLock (s : State) (h : Half) (m n val : Nat) : State :=
  if bit val 31 = false then s
  else match s.lockHolder h n with
    | some k =>
      if k = m then s.setLock h n none
      else (s.count Fd.SEM_CNT_BADREL_COUNT 1 0 h).uev h 0 0x1001 [n, m, k]
    | none => (s.free.2.count Fd.SEM_CNT_BADREL_COUNT 1 0 h).uev h 0 0x1001 [n, m, s.free.1]

/-- A write of SEM_FORCE (R434). -/
def State.forceLock (s : State) (h : Half) (m val : Nat) : State :=
  if 2 ≤ m then s.discarded h m Blk.SEM Reg.SEM_FORCE.off val
  else
    let n := val % 64
    let s := s.wr Fd.SEM_FORCE_LOCK n 0 h
    if bit val 31 = false then s
    else match s.lockHolder h n with
      | some k =>
        (((s.setLock h n none).updHalf h (fun r => { r with forceIrq := true })).count Fd.SEM_CNT_FORCE_COUNT 1 0 h).uev
          h 0 0x1002 [n, k]
      | none => s.free.2.uev h 0 0x1002 [n, s.free.1]

/-- LOCK_READ (R431, R432); the block of an absent half reads 0 (R6). -/
def execLockRead (h : Half) (m n : Nat) (s : State) : Host.Outcome State Fault Refusal :=
  .next (if n < 64 ∧ halfPresent s.variant h = true then s.readLock h m n else { s with readData := 0 })

/-- LOCK_RELEASE (R433). -/
def execLockRelease (h : Half) (m n val : Nat) (s : State) : Host.Outcome State Fault Refusal :=
  .next (if n < 64 ∧ halfPresent s.variant h = true then s.releaseLock h m n val else s)

/-- SEM_FORCE (R434). -/
def execSemForce (h : Half) (m val : Nat) (s : State) : Host.Outcome State Fault Refusal :=
  .next (if halfPresent s.variant h then s.forceLock h m val else s)

end Sys2Proof.Machine
end

