-- ==== Sys2Proof/Machine/Operands.lean ====
section
/-! DEFINITION. The forms operands take: buffer handles (R379), DRAM line addresses (R346, R347), flash addresses and
positions, and the windows of the internal address map that a requester reaches registers through. -/

namespace Sys2Proof.Machine

/-! ### Buffer handles (R379) -/

def hIndex (h : Nat) : Nat := h % 2 ^ 16
def hPool (h : Nat) : Nat := h / 2 ^ 22 % 4
def hCluster (h : Nat) : Nat := h / 2 ^ 24 % 2
def hSlice (h : Nat) : Nat := h / 2 ^ 25 % 8
def hGen (h : Nat) : Nat := h / 2 ^ 28 % 16

/-- A buffer's place in the buffer memory: half, then handle without GEN. -/
def bufKey (h : Half) (handle : Nat) : Nat := halfNum h * 2 ^ 28 + handle % 2 ^ 28

/-- A handle from its parts; bits 21:16 are 0. -/
def mkHandle (idx pool cluster slice gen : Nat) : Nat :=
  idx + pool * 2 ^ 22 + cluster * 2 ^ 24 + slice * 2 ^ 25 + gen * 2 ^ 28

/-! ### DRAM addresses (R346, R347) -/

/-- The DRAM line of a byte address. -/
def lineOf (a : Nat) : Nat := a / 64

/-- Subchannel and rank s = 4c + 2 × subchannel + rank of a line (R386): bit 8 of the byte address gives the subchannel,
bits 10:9 the channel; above the five further column bits stand two bank bits and three bank group bits (the DDR-5
devices' own, PRESUMED, log entry 50), then the rank bit where there are two ranks, then the row. -/
def lineSub (line : Nat) : Nat := line / 4 % 2
def lineChan (line : Nat) : Nat := line / 8 % 4
def lineBank (line : Nat) : Nat := line / 2 ^ 10 % 32
def lineRank (two : Bool) (line : Nat) : Nat := if two then line / 2 ^ 15 % 2 else 0
def lineRowNo (two : Bool) (line : Nat) : Nat := line / 2 ^ (if two then 16 else 15)
def lineSr (two : Bool) (line : Nat) : Nat := 4 * lineChan line + 2 * lineSub line + lineRank two line

/-- The row of a line, 128 lines of one subchannel (R346), and its bank, as numbers over the whole DRAM. -/
def lineRow (line : Nat) : Nat := line / 2 ^ 10 * 8 + line / 4 % 8
def rowBank (two : Bool) (row : Nat) : Nat := row % 2 ^ (if two then 9 else 8)

/-- The regions of DRAM (R347): 0 firmware data and block table, 1 and 2 the write buffers, 3 read-ahead staging,
4 partial parity of host streams, 5 other partial parity, 6 the GC region, 7 the option image copy, 8 reserved, 9 the
CMB, 10 the map. -/
def dramRegion (line : Nat) : Nat :=
  let a := line * 64
  if a < 0x4000_0000 then 0 else if a < 0x5000_0000 then 1 else if a < 0x6000_0000 then 2
  else if a < 0x8000_0000 then 3 else if a < 0x8C00_0000 then 4 else if a < 0x9000_0000 then 5
  else if a < 0xD000_0000 then 6 else if a < 0xD010_0000 then 7 else if a < 0x1_0000_0000 then 8
  else if a < 0x2_0000_0000 then 9 else 10

/-- The block table lies in the firmware data region; where in it is firmware's own (DESIGN CHOICE, log entry 20). -/
def blockTableLine (line : Nat) : Bool := decide (line * 64 < 0x1000_0000)

end Sys2Proof.Machine
end

