-- ==== Sys2Proof/Machine/Buffers.lean ====
section
/-! DEFINITION. Buffer pools (R377 to R384), with the commands ALLOC, ALLOC_GRANT, SHARE, FREE and QUERY. -/

namespace Sys2Proof.Machine

/-! ### Pools -/

/-- The slice and cluster whose pools a master allocates from (R378, R423). -/
def masterPool (m : Nat) : Nat × Nat :=
  if m < 8 then (5, if m = 1 then 1 else 0)
  else if m < 32 then (4, if 12 ≤ m ∧ m < 16 then 1 else 0)
  else if m < 96 then ((m - 32) / 16, if m % 16 = 2 ∨ m % 16 = 3 then 1 else 0)
  else (5, 0)

/-- The buffers of a size in one cluster of a slice, and the general cakes of the slice (R377). -/
def poolTotal (slice pool : Nat) : Nat :=
  if slice < 4 then [2048, 512, 256, 48].getD pool 0
  else if slice = 4 then [4096, 2048, 512, 128].getD pool 0
  else [1024, 128, 16, 16].getD pool 0

/-- The first index and the number of the cakes that a class of allocation takes: general cakes 0, the GC reservation 1
and the RFS reservation 2 of a media slice (R64, R377). -/
def cakeRange (slice cls : Nat) : Nat × Nat :=
  if slice < 4 then (if cls = 1 then (48, 64) else if cls = 2 then (112, 16) else (0, 48))
  else (0, poolTotal slice 3)

/-- The size of a buffer of a pool in 256 B units: crumb 256 B, wafer 4 KiB, tart 16 KiB, cake 64 KiB. -/
def poolUnits (pool : Nat) : Nat := [1, 16, 64, 256].getD pool 0



def State.buf (s : State) (h : Half) (handle : Nat) : BufRec := spGet (fun _ => .init) s.bf.recs (bufKey h handle)

def State.setBuf (s : State) (h : Half) (handle : Nat) (b : BufRec) : State :=
  { s with bf := { s.bf with recs := spSet (fun _ => .init) s.bf.recs (bufKey h handle) b } }

/-- The lowest free buffer in a range of a pool. -/
def State.freeIn (s : State) (h : Half) (slice cluster pool lo n : Nat) : Option Nat :=
  ((List.range' lo n).find? (fun i =>
    let b := s.buf h (mkHandle i pool cluster slice 0)
    b.owners.isEmpty && b.units == 0)).map (fun i => mkHandle i pool cluster slice 0)

/-- The buffer an allocation takes: its pool, else the next larger pool of the cluster, else the general cakes of the
slice; a GC or RFS allocation takes from its reservation alone (R378). -/
def State.pick (s : State) (h : Half) (m pool cls : Nat) : Option Nat :=
  let sl := masterPool m
  let cake := s.freeIn h sl.1 0 3 (cakeRange sl.1 cls).1 (cakeRange sl.1 cls).2
  if cls = 1 ∨ cls = 2 then cake
  else
    (((List.range 3).filter (fun p => decide (pool ≤ p))).findSome?
      (fun p => s.freeIn h sl.1 sl.2 p 0 (poolTotal sl.1 p))).or cake

/-- The holding of a tenant in 256 B units in a half (BUF_TENUSEt.UNITS). -/
def State.tenUse (s : State) (h : Half) (t : Nat) : Nat :=
  sumOf (fun p => if p.1 / 2 ^ 28 = halfNum h ∧ p.2.tenant = some t then p.2.units else 0) s.bf.recs

/-- The quota in force of a tenant (R383): TEN_QUOTAt as last admitted. -/
def State.quotaInForce (s : State) (t : Nat) : Nat := (spGet (fun _ => ⟨0, 0, 0, 0, 0⟩) s.sched.admitted t).quota

/-! ### Results -/

/-- Settle an operation in BUF_RESm (R384). Engines have no registers of their own; the registers of their master ID
hold the result of their port (DESIGN CHOICE, log entry 21). GRANTED is written by a grant alone. -/
def State.bufRes (s : State) (h : Half) (m status owners : Nat) : State :=
  ((s.wr Fd.BUF_RES_STATUS status m h).wr Fd.BUF_RES_OWNERS owners m h).wr Fd.BUF_RES_DONE 1 m h

/-- Try to grant an allocation: the buffer found, charged to its tenant within the quota in force (R378, R379, R383). -/
def State.tryAlloc (s : State) (w : BufWait) : Option State :=
  match s.pick w.half w.master w.pool w.cls with
  | none => none
  | some hd =>
    let units := poolUnits (hPool hd)
    let host := (masterPool w.master).1 = 4
    let ten := if host ∧ w.noq = false then some w.tenant else none
    if host ∧ s.quotaInForce w.tenant < s.tenUse w.half w.tenant + units then none
    else
      let gen := ((s.buf w.half hd).gen + 1) % 16
      let s := s.setBuf w.half hd ⟨gen, [w.master], ten, units⟩
      let s := s.wr Fd.BUF_RES_GRANTED (hPool hd) w.master w.half
      some ((s.wr Fd.BUF_ARG_HANDLE (hd + gen * 2 ^ 28) w.master w.half).bufRes w.half w.master 0 1)

/-- The operation of a master is not settled while its allocation waits. -/
def State.bufBusy (s : State) (h : Half) (m : Nat) : Bool := s.bf.waits.any (fun w => w.half == h && w.master == m)

/-- Grant waiting allocations of a half in arrival order as far as buffers and quotas allow (R378). -/
def State.grantWaits (s : State) (h : Half) : State :=
  s.bf.waits.foldl (fun s w =>
    if w.half = h then
      match s.tryAlloc w with
      | some s' => { s' with bf := { s'.bf with waits := s'.bf.waits.erase w } }
      | none => s
    else s) s

/-- An allocation (R378, R383): refused as invalid in the host slice with NOQUOTA set, else granted or waiting. -/
def State.bufAlloc (s : State) (w : BufWait) : State :=
  if (masterPool w.master).1 = 4 ∧ w.noq = true then s.bufRes w.half w.master 4 0
  else
    let s := s.wr Fd.BUF_RES_DONE 0 w.master w.half
    -- Waiting allocations are granted in arrival order, so one that waits on the same pools goes first (R378).
    if s.bf.waits.any (fun v => v.half == w.half && masterPool v.master == masterPool w.master && v.pool == w.pool &&
        v.cls == w.cls && (v.tenant == w.tenant || (s.pick v.half v.master v.pool v.cls).isNone)) then
      { s with bf := { s.bf with waits := s.bf.waits ++ [w] } }
    else match s.tryAlloc w with
      | some s' => s'
      | none => { s with bf := { s.bf with waits := s.bf.waits ++ [w] } }

/-! ### Operations on a handle -/

/-- A handle names a buffer that exists. -/
def bufExists (v : Variant) (hd : Nat) : Bool :=
  let sl := hSlice hd
  decide (sl < 6) && !(v == .fk9612 && (sl == 2 || sl == 3)) && decide (hd / 2 ^ 16 % 64 = 0) &&
    (if hPool hd = 3 then decide (hCluster hd = 0) && decide (hIndex hd < (if sl < 4 then 128 else poolTotal sl 3))
     else decide (hIndex hd < poolTotal sl (hPool hd)))

/-- A refused operation: the alarm, its counter, the last refusal and the event of R381. `foreign` is 0 for a double
free and 1 for a foreign operation. -/
def State.bufRefuse (s : State) (h : Half) (m hd foreign : Nat) : State :=
  let b := s.buf h hd
  let s := if foreign = 0 then (s.wr Fd.BUF_ALARM_DFREE 1 0 h).count Fd.BUF_CNT_DFREE_COUNT 1 0 h
    else (s.wr Fd.BUF_ALARM_FOREIGN 1 0 h).count Fd.BUF_CNT_FOREIGN_COUNT 1 0 h
  let s := ((s.wr Fd.BUF_LASTHANDLE_HANDLE hd 0 h).wr Fd.BUF_LASTBAD_MASTER m 0 h).wr Fd.BUF_LASTBAD_KIND foreign 0 h
  let s := s.uev h 0 (0x0C01 + foreign) [hd, m, b.gen, b.owners.length]
  s.bufRes h m (1 + foreign) b.owners.length

/-- A read outstanding or quarantined targets a buffer (R103). -/
def State.targeted (s : State) (key : Nat) : Bool := s.nv.tags.any (fun t => t.buf == some key)

/-- A buffer without names is free, and its tenant's quota refunded, unless reads still target it: until they end it is held and charged
(R103, R381). -/
def State.releaseBuf (s : State) (h : Half) (hd : Nat) : State :=
  let b := s.buf h hd
  s.setBuf h hd (if s.targeted (bufKey h hd) then { b with owners := [] } else ⟨b.gen, [], none, 0⟩)

/-- The buffer at a place of the buffer memory is freed when it has no owners and no read targets it any more (R103). -/
def State.freeHeld (s : State) (key : Nat) : State :=
  let b := spGet (fun _ => BufRec.init) s.bf.recs key
  if b.owners.isEmpty = true ∧ s.targeted key = false then
    { s with bf := { s.bf with recs := spSet (fun _ => BufRec.init) s.bf.recs key ⟨b.gen, [], none, 0⟩ } }
  else s

/-- A FREE (R381): the caller's name is removed; with the last name the buffer is released. -/
def State.bufFree (s : State) (h : Half) (m hd : Nat) : State :=
  if bufExists s.variant hd = false then s.bufRes h m 4 0
  else
    let b := s.buf h hd
    if b.owners.isEmpty ∨ hGen hd ≠ b.gen then s.bufRefuse h m hd 0
    else if m ∈ b.owners then
      let rest := b.owners.filter (fun x => x != m)
      let s := if rest.isEmpty then s.releaseBuf h hd else s.setBuf h hd { b with owners := rest }
      s.bufRes h m 0 rest.length
    else s.bufRefuse h m hd 1

/-- A SHARE (R380): a named owner adds a master, up to four names; one that is not named is foreign. -/
def State.bufShare (s : State) (h : Half) (m hd other : Nat) : State :=
  if bufExists s.variant hd = false then s.bufRes h m 4 0
  else
    let b := s.buf h hd
    if b.owners.isEmpty ∨ hGen hd ≠ b.gen then s.bufRefuse h m hd 1
    else if m ∈ b.owners then
      if other ∈ b.owners then s.bufRes h m 0 b.owners.length
      else if b.owners.length = 4 then s.bufRes h m 3 4
      else (s.setBuf h hd { b with owners := b.owners ++ [other] }).bufRes h m 0 (b.owners.length + 1)
    else s.bufRefuse h m hd 1

/-- A QUERY returns the state of the handle: done with its owners; double free when the buffer is free or of another
generation; foreign when the caller is not named; nothing changes beside (DEDUCED, log entry 22). -/
def State.bufQuery (s : State) (h : Half) (m hd : Nat) : State :=
  if bufExists s.variant hd = false then s.bufRes h m 4 0
  else
    let b := s.buf h hd
    s.bufRes h m (if b.owners.isEmpty ∨ hGen hd ≠ b.gen then 1 else if m ∈ b.owners then 0 else 2) b.owners.length

/-- An operation while the master's earlier one is not settled is discarded and recorded (R384). -/
def State.bufOp (s : State) (h : Half) (m : Nat) (val : Nat) (f : State → State) : State :=
  if halfPresent s.variant h = false ∨ masterPresent s.variant m = false then s
  else if s.bufBusy h m then s.discarded h m Blk.BUF (Reg.BUF_OP.at m) val else f s

/-- ALLOC (R378, R383): `cls` is 0 for a general allocation, 1 for GC and 2 for RFS (R64). -/
def execAlloc (h : Half) (m pool : Nat) (noquota : Bool) (tenant cls : Nat) (s : State) :
    Host.Outcome State Fault Refusal :=
  .next (s.bufOp h m (1 + pool * 16 + (if noquota then 128 else 0) + tenant * 256)
    (fun s => s.bufAlloc ⟨h, m, pool, noquota, tenant, cls⟩))

/-- ALLOC_GRANT (R378). -/
def execAllocGrant (h : Half) (s : State) : Host.Outcome State Fault Refusal :=
  .next (if halfPresent s.variant h then s.grantWaits h else s)

/-- SHARE (R380), on the handle in BUF_ARGm. -/
def execShare (h : Half) (m other : Nat) (s : State) : Host.Outcome State Fault Refusal :=
  .next (s.bufOp h m (2 + other * 2 ^ 16) (fun s => s.bufShare h m (s.rd Fd.BUF_ARG_HANDLE m h) other))

/-- FREE (R381, R382), on the handle in BUF_ARGm. -/
def execFree (h : Half) (m : Nat) (s : State) : Host.Outcome State Fault Refusal :=
  .next (s.bufOp h m 3 (fun s => s.bufFree h m (s.rd Fd.BUF_ARG_HANDLE m h)))

/-- QUERY (R384), on the handle in BUF_ARGm. -/
def execQuery (h : Half) (m : Nat) (s : State) : Host.Outcome State Fault Refusal :=
  .next (s.bufOp h m 4 (fun s => s.bufQuery h m (s.rd Fd.BUF_ARG_HANDLE m h)))

end Sys2Proof.Machine
end

