-- ==== Sys2Proof/Machine/Loops.lean ====
section
/-! DEFINITION. Read-level tracking (R287 to R301): the update of a loop, loop commands, alarm and rearm. -/

namespace Sys2Proof.Machine

/-! ### Arithmetic of the loops -/

def clampInt (lo hi x : Int) : Int := max lo (min hi x)

/-- Round n / 64 to the nearest integer, halves away from zero (R293). -/
def round64 (n : Int) : Int := if n < 0 then -(((-n) + 32) / 64) else (n + 32) / 64

/-- A signed value in `w` bits. -/
def toBits (w : Nat) (x : Int) : Nat := (x % 2 ^ w).toNat

/-- A field of `w` bits read as signed. -/
def ofBits (w n : Nat) : Int := if n % 2 ^ w < 2 ^ (w - 1) then (n % 2 ^ w : Nat) else (n % 2 ^ w : Nat) - (2 ^ w : Nat)

/-- Byte `j` of a register as a signed number. -/
def signedByteOf (w : Word) (j : Nat) : Int := ofBits 8 (w.toNat / 2 ^ (8 * j))

/-! ### Loops -/

/-- Read levels of a die's media type: 7 for TLC, 15 for QLC (R289). -/
def levelsOf (media : Nat) : Nat := if media < 2 then 7 else 15

def loopKey (die grp : Nat) : Nat := die * 16 + grp

def State.loop (s : State) (key : Nat) : Loop := spGet (fun _ => .init) s.rg.loops key

def State.updRg (s : State) (f : Regul → Regul) : State := { s with rg := f s.rg }

def State.setLoop (s : State) (key : Nat) (l : Loop) : State :=
  s.updRg (fun r => { r with loops := spSet (fun _ => .init) r.loops key l })

def nth (l : List Int) (i : Nat) : Int := l.getD i 0

/-- A list of 15 levels from a function; levels the loop does not track are 0. -/
def levels (n : Nat) (f : Nat → Int) : List Int := (List.range 15).map (fun i => if i < n then f i else 0)

/-- Offset of ladder step `st` at level `l` for media type `k` (ECC_LADDER, R264). -/
def State.ladOffset (s : State) (k st l : Nat) : Int :=
  signedByteOf (s.reg .a Blk.ECC (0x1000 + 0x100 * k + 0x10 * st + 4 * (l / 4))) (l % 4)

/-- The error of an update at level `l` (R292), when some contribution reaches that level. -/
def errorAt (ms : List Meas) (out : Int) (l : Nat) : Option Int :=
  let cs := ms.filter (fun m => decide (l < m.xs.length) && decide (0 < m.w))
  if cs.isEmpty then none
  else
    let num := cs.foldl (fun a m => a + (m.w : Int) * (nth m.xs l + 64 * (nth m.us l - out))) 0
    let den : Int := (sumOf (fun m => m.w) cs : Nat)
    some (clampInt (-2047) 2047 (num.tdiv den))

/-- The integrator preset from `v` (R295): no bump in the output. -/
def presetI (kp : Int) (v err : Int) : Int := clampInt (-8128) 8127 (v * 64 - (kp * err).tdiv 64)

/-- The output in AUTO (R293 step 5). -/
def autoOut (kp : Int) (i err : Int) : Int := clampInt (-128) 127 (round64 (i + (kp * err).tdiv 64))

/-- The loop is outside its limit (R296). -/
def outside (n : Nat) (felim : Nat) (l : Loop) : Bool :=
  (List.range n).any (fun i =>
    decide (felim < (nth l.err i).natAbs) || (decide (nth l.int i = 8127) && decide (0 < nth l.err i)) ||
    (decide (nth l.int i = -8128) && decide (nth l.err i < 0)))

/-- Steps 1 and 2 of R293: the error, and the pending command. The result says whether the integration of step 3 is
replaced. -/
def Loop.command (n : Nat) (kp : Int) (man : Nat → Int) (op : Nat) (l : Loop) : Loop × Bool :=
  match op with
  | 1 => ({ l with mode := 1, man := levels n (fun i => if l.mode = 2 then nth l.held i else nth l.out i), timer := 0 }, true)
  | 2 => if l.mode = 1 then ({ l with man := levels n man }, false) else (l, false)
  | 3 =>
    if l.mode = 1 then ({ l with mode := 0, int := levels n (fun i => presetI kp (nth l.man i) (nth l.err i)) }, true)
    else if l.mode = 2 then
      ({ l with mode := 0, int := levels n (fun i => presetI kp (nth l.held i) (nth l.err i)), rearm := 0 }, true)
    else (l, false)
  | 5 => ({ l with mode := 0, int := zeros15, err := zeros15, timer := 0, rearm := 0 }, true)
  | _ => (l, false)

/-- Entry into ALARM (R296): H takes the published output. -/
def Loop.alarm (n : Nat) (l : Loop) (out : List Int) : Loop :=
  { l with mode := 2, held := levels n (fun i => nth out i), rearm := 0 }

/-- Return from ALARM to AUTO with the preset of R295 taken from H (R297). -/
def Loop.rearmed (n : Nat) (kp : Int) (l : Loop) : Loop :=
  { l with mode := 0, rearm := 0, int := levels n (fun i => presetI kp (nth l.held i) (nth l.err i)) }

/-- Step 5 of R293. -/
def Loop.publish (n : Nat) (kp : Int) (l : Loop) : Loop :=
  { l with out := levels n (fun i =>
      if l.mode = 0 then autoOut kp (nth l.int i) (nth l.err i) else if l.mode = 1 then nth l.man i else nth l.held i) }

/-- The level of the largest |E_last| and its value. -/
def worstLevel (n : Nat) (l : Loop) : Nat × Int :=
  (List.range n).foldl (fun a i => if a.2.natAbs < (nth l.err i).natAbs then (i, nth l.err i) else a) (0, nth l.err 0)

def State.kp (s : State) : Int := (s.rd Fd.RGL_GAIN_KP : Nat)
def State.ki (s : State) : Int := (s.rd Fd.RGL_GAIN_KI : Nat)

/-- RGL_MANVAL at level `l`. -/
def State.manVal (s : State) (l : Nat) : Int := signedByteOf (s.reg .a Blk.RGL (0x40 + 4 * (l / 4))) (l % 4)

/-- The record of an alarm (R296), by the engine of the die. -/
def State.alarmEvent (s : State) (key : Nat) (l : Loop) : State :=
  let w := worstLevel (levelsOf (spGet (fun _ => Die.init) s.md.dies (key / 16)).media) l
  (s.count Fd.RGL_CNT_ALARM_COUNT).aev (if key / 16 < 512 then 2 else 3) 0x0901 [key / 16, key % 16, w.1, toBits 64 w.2]

/-- READ (R300): mode, timer and outputs of the loop into RGL_LOOPSTAT and RGL_LOOPOUTw. -/
def State.loopRead (s : State) (n : Nat) (l : Loop) : State :=
  let s := ((s.wr Fd.RGL_LOOPSTAT_MODE l.mode).wr Fd.RGL_LOOPSTAT_LEVELS n).wr Fd.RGL_LOOPSTAT_TIMER l.timer
  s.each (List.range 4) (fun s w =>
    s.setReg .a Blk.RGL (0x50 + 4 * w)
      (BitVec.ofNat 32 (sumOf (fun j => toBits 8 (nth l.out (4 * w + j)) * 2 ^ (8 * j)) (List.range 4))))

/-- One update of one loop (R293 to R297), with the measurements that enter it and the command that applies. -/
def State.updateLoop (s : State) (key : Nat) (ms : List Meas) (op : Nat) : State :=
  let n := levelsOf (spGet (fun _ => Die.init) s.md.dies (key / 16)).media
  let kp := s.kp
  let l := s.loop key
  let out := l.out
  let es := (List.range n).map (fun i => errorAt ms (nth out i) i)
  let measured := es.any (fun e => e.isSome)
  -- Step 1
  let l := { l with err := levels n (fun i => ((es.getD i none).getD (nth l.err i))) }
  -- Step 2
  let s := if op = 4 then s.loopRead n { l with err := l.err } else s
  let c := l.command n kp s.manVal op
  let l := c.1
  -- Step 3
  let l : Loop := if l.mode = 0 ∧ c.2 = false then
      { l with int := levels n (fun i => match es.getD i none with
          | some e => clampInt (-8128) 8127 (nth l.int i + (s.ki * e).tdiv 64)
          | none => nth l.int i) }
    else l
  let l : Loop := if l.mode = 2 then
      (ms.filter (fun m => decide (1 ≤ m.step))).foldl (fun l m =>
        { l with held := levels n (fun i => clampInt (-128) 127 (nth m.us i + nth m.xs i / 64)) }) l
    else l
  -- Step 4
  let l : Loop := if l.mode = 1 then { l with timer := 0 }
    else { l with timer := if outside n (s.rd Fd.RGL_FECFG_FELIM) l then min 65535 (l.timer + 1) else 0 }
  let within := (List.range n).all (fun i => decide ((nth l.err i).natAbs ≤ s.rd Fd.RGL_FECFG_FELIM))
  if l.mode = 0 ∧ s.rd Fd.RGL_FECFG_FETIME ≤ l.timer then
    let l := (l.alarm n out).publish n kp
    (s.setLoop key l).alarmEvent key l
  else
    let l : Loop := if l.mode = 2 ∧ measured = true then { l with rearm := if within then l.rearm + 1 else 0 } else l
    let l : Loop := if l.mode = 2 ∧ s.rd Fd.RGL_CFG_AUTOREARM = 1 ∧ s.rd Fd.RGL_FECFG_REARM ≤ l.rearm then l.rearmed n kp else l
    s.setLoop key (l.publish n kp)

/-- The engine of a die (R287): engine 0 holds dies 0 to 511, engine 1 the others. -/
def engineOf (die : Nat) : Nat := if die < 512 then 0 else 1

/-- One update of every loop of an engine (R287, R293). A loop that no measurement and no command reaches and that
stands as after reset does not change. -/
def State.loopUpdate (s : State) (eng : Nat) : State :=
  if s.active.isNone then s
  else
    let mine := fun key => engineOf (key / 16) == eng
    let cmd := s.rg.cmd.filter (fun c => mine (loopKey c.die c.grp) && !c.late)
    let keys := ((s.rg.loops.map (fun p => p.1)) ++ (s.rg.meas.filter (fun m => !m.late)).map (fun m => m.key) ++
      (cmd.map (fun c => loopKey c.die c.grp)).toList).filter mine
    let keys := keys.foldl (fun l k => addOnce k l) []
    let ms := s.rg.meas
    let s := s.each keys (fun s key =>
      s.updateLoop key (ms.filter (fun m => m.key == key && !m.late))
        (match cmd with | some c => if loopKey c.die c.grp = key then c.op else 0 | none => 0))
    let s := s.updRg (fun r => { r with
      meas := (r.meas.filter (fun m => !(mine m.key && !m.late))).map (fun m => if mine m.key then { m with late := false } else m),
      cmd := match r.cmd with
        | some c => if mine (loopKey c.die c.grp) then (if c.late then some { c with late := false } else none) else some c
        | none => none })
    if s.rg.cmd.isNone then s.wr Fd.RGL_LOOPCMD_BUSY 0 else s

/-- A write of RGL_LOOPCMD that issues a loop command (R300), at cycle `cyc` of the beat: refused while BUSY, for an
absent die, for an operation the field map refuses, and for SET_MAN of a loop not in MANUAL. -/
def State.loopCommand (s : State) (die grp op cyc : Nat) : State :=
  let st := (spGet (fun _ => Die.init) s.md.dies die).st
  let absent := st == 0 || st == 3
  let bad := s.rg.cmd.isSome || absent || decide (5 < op) || (op == 2 && (s.loop (loopKey die grp)).mode != 1)
  if bad then (s.wr Fd.RGL_LOOPCMD_REFUSED 1).aev (2 + engineOf die) 0x0902 []
  else
    let s := (((s.wr Fd.RGL_LOOPCMD_DIE die).wr Fd.RGL_LOOPCMD_GROUP grp).wr Fd.RGL_LOOPCMD_OP op).wr Fd.RGL_LOOPCMD_BUSY 1
    s.updRg (fun r => { r with cmd := some ⟨die, grp, op, decide (400 ≤ cyc)⟩ })

/-- LOOP_UPDATE (R287, R293 to R297). -/
def execLoopUpdate (eng : Nat) (s : State) : Host.Outcome State Fault Refusal := .next (s.loopUpdate eng)

/-- TO_MANUAL (R295, R300). -/
def execToManual (_m die grp cyc : Nat) (s : State) : Host.Outcome State Fault Refusal :=
  .next (s.loopCommand die grp 1 cyc)

/-- SET_MAN (R295, R300). -/
def execSetMan (_m die grp cyc : Nat) (s : State) : Host.Outcome State Fault Refusal :=
  .next (s.loopCommand die grp 2 cyc)

/-- TO_AUTO (R295, R300). -/
def execToAuto (_m die grp cyc : Nat) (s : State) : Host.Outcome State Fault Refusal :=
  .next (s.loopCommand die grp 3 cyc)

/-- READ (R300). -/
def execRead (_m die grp cyc : Nat) (s : State) : Host.Outcome State Fault Refusal :=
  .next (s.loopCommand die grp 4 cyc)

/-- CLEAR (R300). -/
def execClear (_m die grp cyc : Nat) (s : State) : Host.Outcome State Fault Refusal :=
  .next (s.loopCommand die grp 5 cyc)

/-- LOOP_ALARM (R296): a loop in AUTO whose timer has reached FETIME enters ALARM. An update does so itself; the command
acts on a loop that FETIME, when it was lowered, finds past it. -/
def execLoopAlarm (die grp : Nat) (s : State) : Host.Outcome State Fault Refusal :=
  .next (
    let key := loopKey die grp
    let l := s.loop key
    let n := levelsOf (spGet (fun _ => Die.init) s.md.dies die).media
    if l.mode = 0 ∧ s.rd Fd.RGL_FECFG_FETIME ≤ l.timer then
      let l := (l.alarm n l.out).publish n s.kp
      (s.setLoop key l).alarmEvent key l
    else s)

/-- LOOP_REARM (R297): a loop in ALARM with REARM measured updates within its limit returns to AUTO. -/
def execLoopRearm (die grp : Nat) (s : State) : Host.Outcome State Fault Refusal :=
  .next (
    let key := loopKey die grp
    let l := s.loop key
    let n := levelsOf (spGet (fun _ => Die.init) s.md.dies die).media
    if l.mode = 2 ∧ s.rd Fd.RGL_CFG_AUTOREARM = 1 ∧ s.rd Fd.RGL_FECFG_REARM ≤ l.rearm then
      s.setLoop key ((l.rearmed n s.kp).publish n s.kp)
    else s)

end Sys2Proof.Machine
end

