-- ==== Sys2Proof/Machine/Events.lean ====
section
/-! DEFINITION. Chapter 17: the event recorder's writer: the words of a record (R499), submission by a master (R501),
taking a record from the queue (R502, R504, R505), token refill (R503) and the hourly temperature record (R510). -/

namespace Sys2Proof.Machine

/-- The words of a record (R499), with its SEQ and its valid mark. -/
def recWords (e : EvRec) (seq : Nat) : List Word64 :=
  let a := fun i => BitVec.ofNat 64 (e.args.getD i 0)
  let w0 := BitVec.ofNat 64 e.beat
  let w1 := BitVec.ofNat 64 (e.code + e.src * 2 ^ 16 + e.mid * 2 ^ 24 + e.supp * 2 ^ 32)
  let body := [w0, w1, a 0, a 1, a 2, a 3]
  body ++ [(Config.crc32 (body ++ [BitVec.ofNat 64 (seq % 2 ^ 48)])).setWidth 64,
    BitVec.ofNat 64 (seq % 2 ^ 48 + 0xA55A * 2 ^ 48)]

/-- The ledger byte address of the event ring (R313, R342). -/
def eventRing : Variant → Nat
  | .fk9612 => 0x0074_0000
  | _ => 0x0204_0000

def State.ledgerWord (s : State) (addr : Nat) : Word64 := spGet (fun _ => 0) s.lg.words (addr / 8)

/-- Write whole words of the ledger from a byte address (R312). -/
def State.ledgerWrite (s : State) (addr : Nat) (ws : List Word64) : State :=
  { s with lg := { s.lg with words := spSetRun (fun _ => 0) s.lg.words (addr / 8) ws } }

/-- The ledger address of the ring slot of record `seq` (R504). -/
def ringSlot (v : Variant) (seq : Nat) : Nat := eventRing v + 64 * (seq % 65536)

/-- The SEQs of the event ring's slots that carry a valid mark (R502). -/
def State.ringSeqs (s : State) : List Nat :=
  let base := eventRing s.variant / 8
  s.lg.words.filterMap (fun p =>
    if base ≤ p.1 ∧ p.1 < base + 524288 ∧ p.1 % 8 = 7 ∧ p.2.toNat / 2 ^ 48 = 0xA55A then some (p.2.toNat % 2 ^ 48) else none)

/-- The SEQ with which the hub goes on after power-on reset (R502): above the highest found, 0 when the ring holds none. -/
def State.ringNext (s : State) : Nat := s.ringSeqs.foldl (fun m n => max m (n + 1)) 0

/-- The temperature history that the ring's records of code 0x0903 give, latest first (R510). -/
def State.ringHours (s : State) : List (List Nat) :=
  let base := eventRing s.variant / 8
  let w := fun k => (spGet (fun _ => 0) s.lg.words k).toNat
  let found := s.lg.words.filterMap (fun p =>
    if base ≤ p.1 ∧ p.1 < base + 524288 ∧ p.1 % 8 = 1 ∧ p.2.toNat % 2 ^ 16 = 0x0903 ∧ w (p.1 + 6) / 2 ^ 48 = 0xA55A then
      some (w (p.1 + 6) % 2 ^ 48, [w (p.1 + 1), w (p.1 + 2), w (p.1 + 3), w (p.1 + 4)])
    else none)
  ((sortBy (fun a b => decide (b.1 < a.1)) found).map (fun q => q.2)).take 168

/-- The ring slot of the next record still holds a record that awaits its permanent copy (R505). -/
def State.slotAwaitsCopy (s : State) : Bool :=
  let old := s.evt.seq - 65536
  decide (65536 ≤ s.evt.seq) && decide (s.evt.pbase ≤ old) && decide (old - s.evt.pbase < 16384) &&
    decide (s.evt.perm ≤ old - s.evt.pbase)

/-- The hub takes the front record of its queue (R502): SEQ and SUPP are given, the record is written to its ring slot
(R504) unless that slot awaits its permanent copy (R505). Records wait while a test of the ledger's interface runs (R517). -/
def State.takeRecord (s : State) : State :=
  match s.evt.queue with
  | [] => s
  | r :: rest =>
    if s.testRuns 7 then s
    else
      let n := spGet (fun _ => 0) s.evt.supp r.code
      let awaits := s.slotAwaitsCopy
      let seq := s.evt.seq
      let s := s.updEvt (fun e => { e with queue := rest, seq := seq + 1 })
      let s := if awaits then (s.updEvt (fun e => { e with lost := e.lost + 1 })).count Fd.EVT_CNT_LOST_COUNT
        else (s.updEvt (fun e => { e with supp := spSet (fun _ => 0) e.supp r.code 0 })).ledgerWrite (ringSlot s.variant seq) (recWords { r with supp := min n 65535 } seq)
      if s.evt.lost = 0 then s
      else (s.updEvt (fun e => { e with lost := 0 })).hev 0x1401 [s.evt.lost]

/-- A write of EVT_SUB of index `e` by master `m` of half `h` (R501). A code that R500 does not list is discarded (log entry
135). -/
def State.submitByMaster (s : State) (h : Half) (m e code : Nat) : State :=
  if masterPresent s.variant e = false ∨ halfPresent s.variant h = false then s
  else if m ≠ e then s.discarded h m Blk.EVT (Reg.EVT_SUB.at e) code
  else if listedCode (code % 65536) = false then s.wr Fd.EVT_SUB_RESULT 3 e h
  else
    let arg := fun (lo hi : Fd) => s.rd lo e h + s.rd hi e h * 2 ^ 32
    let r := s.submit (halfSrc h) m (code % 65536)
      [arg Fd.EVT_ARG0_ARG Fd.EVT_ARG1_ARG, arg Fd.EVT_ARG2_ARG Fd.EVT_ARG3_ARG, arg Fd.EVT_ARG4_ARG Fd.EVT_ARG5_ARG,
       arg Fd.EVT_ARG6_ARG Fd.EVT_ARG7_ARG]
    r.2.wr Fd.EVT_SUB_RESULT r.1 e h

/-- One refill of the token buckets (R503): at a bar boundary that is a multiple of a block's PERIOD, each of its codes
that has spent a token gains one. -/
def State.refillTokens (s : State) : State :=
  if s.atBar then
    s.each (s.evt.used.map (fun p => p.1)) (fun s code =>
      if s.bar % s.rd Fd.EVT_LIM_PERIOD (code / 256) = 0 then
        s.updEvt (fun e => { e with used := spSet (fun _ => 0) e.used code (spGet (fun _ => 0) e.used code - 1) })
      else s)
  else s

/-- A signed byte of °C. -/
def signedByte (t : Int) : Nat := ((max (-128) (min 127 t)) % 256).toNat

/-- The sensors that are not valid (R310), numbered from 1. -/
def sensorValid (v : Variant) (n : Nat) : Bool :=
  match v with
  | .fk9640 => true
  | .fk9620 => n != 3
  | .fk9612 => n != 3 && n != 7 && n != 8

/-- Eight signed bytes, sensor 1 lowest; 0x80 for a sensor that is not valid or delivered nothing (R510). -/
def packTemps (v : Variant) (acc : List TempAcc) (f : TempAcc → Int) : Nat :=
  sumOf (fun i =>
    let t := acc.getD i ⟨0, 0, 0, 0⟩
    (if sensorValid v (i + 1) && decide (0 < t.count) then signedByte (f t) else 0x80) * 2 ^ (8 * i)) (List.range 8)

/-- The hourly record (R510), at a beat counter that is a multiple of 900,000,000. -/
def State.hourlyRecord (s : State) : State :=
  if s.time.beat ≠ 0 ∧ s.time.beat % 900000000 = 0 then
    let args := [packTemps s.variant s.evt.acc (fun t => t.max), packTemps s.variant s.evt.acc (fun t => t.sum / t.count),
      packTemps s.variant s.evt.acc (fun t => t.min),
      s.evt.warmBeats / 15000000 + s.evt.hotBeats / 15000000 * 2 ^ 16 + s.time.beat / 900000000 % 65536 * 2 ^ 32]
    (s.hev 0x0903 args).updEvt (fun e => { e with
      hist := (args :: e.hist).take 168, acc := List.replicate 8 ⟨0, 0, 0, 0⟩, warmBeats := 0, hotBeats := 0 })
  else s

/-- A write of EVT_SNAPCTRL (R511): a GO while a snapshot is pending changes nothing. -/
def State.snapWrite (s : State) (val : Nat) : State :=
  let s := s.wr Fd.EVT_SNAPCTRL_ID (val / 65536)
  let s := if bit val 1 then s.wr Fd.EVT_SNAPCTRL_DONE 0 else s
  if bit val 0 then s.wr Fd.EVT_SNAPCTRL_GO 1 else s

/-- EVENT_SUBMIT (R501). -/
def execEventSubmit (h : Half) (m e code : Nat) (s : State) : Host.Outcome State Fault Refusal :=
  .next (s.submitByMaster h m e code)

/-- EVENT_RECORD_WRITE (R502, R504, R505). -/
def execEventRecordWrite (s : State) : Host.Outcome State Fault Refusal := .next s.takeRecord

/-- TOKEN_REFILL (R503). -/
def execTokenRefill (s : State) : Host.Outcome State Fault Refusal := .next s.refillTokens

/-- HOURLY_TEMPERATURE_RECORD (R510). -/
def execHourlyTemperatureRecord (s : State) : Host.Outcome State Fault Refusal := .next s.hourlyRecord

/-- SNAPSHOT_GO (R511). -/
def execSnapshotGo (_m val : Nat) (s : State) : Host.Outcome State Fault Refusal := .next (s.snapWrite val)

end Sys2Proof.Machine
end

