-- ==== Sys2Proof/Machine/HubOps.lean ====
section
/-! DEFINITION. The hub's shared operations of chapter 13: entry into UNFIT and HELD (R409), the record of a fault
(SAF_FAULT), withdrawal and the output hold (R396, R401), the fenced state (R413, R414), the grant of the clapper (R397)
and the settlement of a control fault (R412). -/

namespace Sys2Proof.Machine

/-- Seven days in beats (R409). -/
def sevenDays : Nat := 151200000000

/-- The code of a half's state in SAF_STATE (R418). -/
def HalfSt.code : HalfSt → Nat
  | .off => 0
  | .loading => 1
  | .syncing => 2
  | .standby => 3
  | .active => 4
  | .unfit => 5
  | .held => 6

/-- A half enters a state other than UNFIT. -/
def State.enterState (s : State) (h : Half) (st : HalfSt) : State :=
  s.updHalf h (fun r => { r with st := st, since := s.time.beat })

/-- The entries of a half into UNFIT within the last seven days (SAF_STATE.UNFITA and UNFITB). -/
def State.unfitCount (s : State) (h : Half) : Nat :=
  ((s.half h).unfitAt.filter (fun t => decide (s.time.beat < t + sevenDays))).length

/-- A half enters UNFIT, and its domains go OFF (R542); at the HOLDCOUNT-th time within 7 days it enters HELD, recorded as an
event (R409). -/
def State.enterUnfit (s : State) (h : Half) : State :=
  let now := s.time.beat
  let s := s.setHalfDoms h 2
  let s := s.updHalf h (fun r => { r with
    st := .unfit, since := now, shadow := none, bulk := false, arrived := false,
    unfitAt := (r.unfitAt.filter (fun t => decide (now < t + sevenDays))) ++ [now] })
  let n := s.unfitCount h
  if s.rd Fd.SAF_CFG_HOLDCOUNT ≤ n then (s.enterState h .held).hev 0x0D05 [halfNum h, n] else s

/-- SAF_FAULT takes the last fault of a half; code 0x0D02 records it (R412, R549). Classes: 1 control, 2 data-path
escalation, 3 shadow, 4 drill, 5 self-test. -/
def State.recordFault (s : State) (h : Half) (cls mech slice : Nat) (ev : Bool) : State :=
  let s := ((((((s.wr Fd.SAF_FAULT_HALF (halfNum h)).wr Fd.SAF_FAULT_CLASS cls).wr Fd.SAF_FAULT_MECH mech).wr
    Fd.SAF_FAULT_BEAT (s.time.beat % 250)).wr Fd.SAF_FAULT_SLICE slice).wr Fd.SAF_FAULT_VALID 1)
  if ev then s.hev 0x0D02 [halfNum h, cls, mech, slice] else s

/-- When the hold begins, the hub discards the requests queued in the old active half's DRAM controller with its merge
buffer, and closes every bank (R357). -/
def State.dropDram (s : State) : State :=
  if s.variant.twin then
    { s with dr := { s.dr with queue := [], merge := [], inOrder := [], openRows := [] } }.wr Fd.DRC_STAT_MERGE 0
  else s

/-- A happening ends the run of a test mode: its cause is kept for the end of the run (TEST_RUN_END). -/
def State.testMeets (s : State) (cause : Nat) : State :=
  { s with ts := s.ts.map (fun t => if t.cause = 0 then { t with cause := cause } else t) }

/-- The hub begins the output hold (R401); the run of a test mode ends (R523). -/
def State.beginHold (s : State) : State :=
  if s.hub.hold then s else (s.dropDram.updHub (fun u => { u with hold := true, holdFrom := s.time.beat })).testMeets 4

/-- A TLP that waits for an answer, as the ingress buffer keeps it: a read of a window, of the PMR or of the expansion ROM. -/
def nonPosted : Instr → Bool
  | .inboundWindowTlp _ _ _ _ _ wr _ _ _ => !wr
  | .pmrTlp _ _ _ _ wr _ _ => !wr
  | .expansionRomTlp _ _ _ wr => !wr
  | _ => false

/-- The fenced state empties the ingress buffer: non-posted requests are completed with Completer Abort (R111). -/
def State.abortIngress (s : State) : State :=
  let s := s.each (s.nv.ingress.filter nonPosted) (fun s _ => s.emit .ca)
  { s with nv := { s.nv with ingress := [] } }

/-- The flusher of the fenced state by cause (R413): the half named, when its fault lies in its host slice (slice 4);
the active half for causes 4 and 5, unless a hub fault names a unit the flush needs. -/
def State.flusherOf (s : State) (cause : Nat) (h : Option Half) : Option Half :=
  let hostSlice (k : Half) : Option Half := if (s.half k).faultSlice = 4 then some k else none
  match cause with
  | 1 | 2 | 6 => h.bind hostSlice
  | 4 =>
    let u := s.rd Fd.SAF_HUBFLT_UNIT
    if u = 1 ∨ u = 3 ∨ u = 4 ∨ u = 5 then none else s.active
  | 5 => s.active
  | _ => none

/-- SAF_FENCE.FLUSHER: none, Half A, Half B. -/
def flusherCode : Option Half → Nat
  | none => 0
  | some h => halfNum h + 1

/-- Entry into the fenced state (R414, R111): the hub stops forwarding, reports Uncorrectable Internal Error in every PF,
sets CSTS.CFS in every function, latches the cause, and gives the flusher leave to run; with no flusher it holds every
output at once. The recorder stops after the record of code 0x0D04 unless a flush runs (R506). -/
def State.fence (s : State) (cause : Nat) (h : Option Half) : State :=
  if s.hub.fenced then s
  else
    let fl := s.flusherOf cause h
    let s := s.updHub (fun u => { u with fenced := true, flusher := fl, outputsHeld := fl.isNone, take := none })
    let s := ((s.wr Fd.SAF_FENCE_CAUSE cause).wr Fd.SAF_FENCE_FLUSHER (flusherCode fl)).wr Fd.SAF_FENCE_FLUSHED 0
    let s := (s.aerPfs .uncorrectableInternal).abortIngress
    let s := (s.each (List.range 256) (fun s f => s.updFn f (fun x => { x with cfs := true }))).testMeets 8
    let s := s.hev 0x0D04 [cause, flusherCode fl, s.rd Fd.SAF_HUBFLT_UNIT, 0]
    if fl.isNone then s.updEvt (fun e => { e with stopped := true }) else s

/-- The hub grants the clapper to a half (R397): the epoch advances by 1, the lease runs five beats, the half is ACTIVE, and its
RETAIN domains go ON (R542). -/
def State.grant (s : State) (h : Half) : State :=
  let e := (s.rd Fd.CLP_EPOCH_EPOCH + 1) % 2 ^ 32
  let s := (s.wr Fd.CLP_EPOCH_EPOCH e).wakeHalf h
  let s := s.updHub (fun u => { u with holder := some h, leaseEnd := s.time.beat + 5 })
  (s.updHalf h (fun r => { r with epoch := e, gone := false })).enterState h .active

/-- A half withdraws (R396): it stops all outbound traffic and renewals and the hub begins the output hold; the lease
runs on to its lapse. -/
def State.withdraw (s : State) (h : Half) : State :=
  (s.updHalf h (fun r => { r with gone := true })).beginHold

/-- The other half also had a fault in this beat (R403, R413 cause 3). -/
def State.bothFault (s : State) (h : Half) : Bool :=
  let o := s.half (otherHalf h)
  s.variant.twin && (o.quit || ((o.st == .unfit || o.st == .held) && decide (o.since = s.time.beat)))

/-- The outcome of a drill in which the candidate or the former active half is lost (R406): the drill failed. -/
def State.drillFailed (s : State) (case_ : Nat) : State :=
  let s := s.count Fd.CLP_CNT_DRILL_FAILED
  let s := (s.wr Fd.CLP_DRILLSTAT_STATE 0).wr Fd.CLP_DRILLSTAT_LAST 2
  let s := s.hev 0x0E02 [s.hub.drill.d.getD 0, halfNum s.hub.drill.cand, case_, s.rd Fd.CLP_EPOCH_EPOCH]
  let next := s.hub.drill.d.getD s.time.beat + s.rd Fd.CLP_DRILLCFG_PERIOD * 900000000
  s.updHub (fun u => { u with drill := { u.drill with d := none, passAt := none, granted := false, next := next } })

/-- The row of R406 that a fault of half `h` falls under while a drill is in progress. -/
def State.drillCase (s : State) (h : Half) : Nat :=
  if h = s.hub.drill.cand then (if s.hub.drill.passAt.isSome then 3 else 2) else 4

/-- A fault or overrun of half `h` in a drill fails the drill (R66, R406). -/
def State.drillHit (s : State) (h : Half) : State :=
  if s.hub.drill.d.isSome then s.drillFailed (s.drillCase h) else s

/-- A control fault of a half (R412): the active half withdraws, any other half that is up becomes UNFIT; faults of both
halves in one beat lead to the fenced state (R403). A half that is OFF, UNFIT or HELD has no fault. -/
def State.controlFaultCls (s : State) (h : Half) (cls mech slice : Nat) : State :=
  let r := s.half h
  if r.st = .off ∨ r.st = .unfit ∨ r.st = .held then s
  else
    let both := s.bothFault h
    let s := s.recordFault h cls mech slice true
    let s := if s.withdrawn then s.testMeets 10 else s
    let s := if cls = 1 ∨ cls = 2 then s.count Fd.SAF_CNT_CONTROL_COUNT else s
    let s := s.updHalf h (fun x => { x with faultSlice := slice })
    let s := if r.st = .active then s.withdraw h else s
    let s := s.drillHit h
    let s := s.enterUnfit h
    if both then s.fence 3 none else s

def State.controlFault (s : State) (h : Half) (mech slice : Nat) : State := s.controlFaultCls h 1 mech slice

/-- A fault of the hub (R23): latched in SAF_HUBFLT, and the fenced state with cause 4. -/
def State.hubFault (s : State) (unit : Nat) : State :=
  ((s.wr Fd.SAF_HUBFLT_UNIT unit).wr Fd.SAF_HUBFLT_VALID 1).fence 4 none

/-! ### The service port at a role change (R470, R487) -/

/-- Update mode ends, as at CancelUpdate: the target bank stays as it is. -/
def State.endUpdate (s : State) : State :=
  (((({ s with sv := { s.sv with upd := none } }).wr Fd.SVC_PLDMSTAT_STATE 0).wr Fd.SVC_PLDMSTAT_COMP 0).wr Fd.SVC_PLDMSTAT_PROGRESS 0)

/-- The counts of sessions in SVC_SESS. -/
def State.noteSess (s : State) : State :=
  (s.wr Fd.SVC_SESS_OPEN s.sv.sess.length).wr Fd.SVC_SESS_OPERATOR (s.sv.sess.filter (fun x => x.oper && x.est)).length

/-- Every session ends, and every SPDM transport returns to its initial state (R470). -/
def State.endSessions (s : State) : State := { s with sv := { s.sv with sess := [], spdm := [] } }.noteSess

end Sys2Proof.Machine
end

