-- ==== Sys2Proof/Machine/Image.lean ====
section
/-! DEFINITION. What a variant lacks (R6, R7) and what the configuration image loads (R456, R548): the registers absent in a variant,
the bits of a register that an image loads, the contents its entries leave, and the tests of the entries. -/

namespace Sys2Proof.Machine

/-- A domain present in the variant (R546). -/
def domPresent (v : Variant) (d : Nat) : Bool :=
  decide (d < 72) && (v.twin || !((decide (30 ≤ d) && decide (d < 60)) || d == 69)) &&
    (v != .fk9612 || !((decide (10 ≤ d) && decide (d < 20)) || d == 61 || d == 66 || d == 67))

/-! ### Absent registers (R6, R7) -/

/-- A core, engine or service master whose indexed registers exist (R423, R436). -/
def slicedAbsent (v : Variant) (i per : Nat) : Bool := decide (v.slices * per ≤ i)

/-- The register is of a block or an instance that the variant lacks: R70, R229, R256, R285, R310, R342, R385, R417, R423,
R436, R546. -/
def regAbsent (v : Variant) (h : Half) (b : Nat) (r : Reg) (i : Nat) : Bool :=
  (perHalf b r.off && h == .b && !v.twin) || (b == Blk.CLP && !v.twin) ||
  (if b = Blk.SCH then
    ((r == Reg.SCH_HOSTCAP) && decide (v.slices ≤ i)) || ((r == Reg.SCH_CHPAT) && decide (v.channels ≤ i)) || ((r == Reg.SCH_DIEPAT) && decide (v.diesN ≤ i)) ||
      ((r == Reg.SCH_TBUDGET || r == Reg.SCH_TREMAIN) && slicedAbsent v i 256)
  else if b = Blk.MED then
    ((r == Reg.MED_CHSTAT) && decide (v.channels ≤ i)) || ((r == Reg.MED_DIESTAT) && decide (v.diesN ≤ i))
  else if b = Blk.FCH then (r == Reg.FCH_CHSTAT) && decide (v.channels ≤ i)
  else if b = Blk.CTG then
    (r == Reg.CTG_SLOTSTAT || r == Reg.CTG_SLOTCTRL || r == Reg.CTG_SLOTCNT) && decide (v.slotsN ≤ i)
  else if b = Blk.ECC then (r == Reg.ECC_GRPRATE) && decide (v.diesN ≤ i / 2)
  else if b = Blk.RGL then (r == Reg.RGL_TEMP) && !sensorValid v (i + 1)
  else if b = Blk.LDG then !v.pmr && (r == Reg.LDG_PMRSTAT || r == Reg.LDG_PMRFN)
  else if b = Blk.DRC then !v.twin && (r == Reg.DRC_PORT || r == Reg.DRC_CNT_LATE) && i == 4
  else if b = Blk.BUF then
    ((r == Reg.BUF_FREE) && decide (v.slices ≤ i / 8) && decide (i / 8 < 4)) ||
      ((r == Reg.BUF_ARG || r == Reg.BUF_OP || r == Reg.BUF_RES) && !masterPresent v i)
  else if b = Blk.CHM then decide (0x100 ≤ r.off) && !endpointPresent v i
  else if b = Blk.EVT then decide (0x1000 ≤ r.off) && !masterPresent v i
  else if b = Blk.PWR then (r == Reg.PWR_DOM) && !domPresent v i
  else false)

/-- A register of an array that is RSV: BUF_FREE with j = 7 and RGL_ENERGY with operation 6 or 7. -/
def regReserved (r : Reg) (i : Nat) : Bool :=
  (r == Reg.BUF_FREE && i % 8 == 7) || (r == Reg.RGL_ENERGY && decide (6 ≤ i % 8))

/-- The bits of a word of an array that are RSV: entries 250 to 255 of a pattern row, and level 15. -/
def rsvAbove (r : Reg) (i : Nat) : Nat :=
  if r = Reg.SCH_PATROW ∧ i % 16 = 15 then 20
  else if (r = Reg.RGL_MANVAL ∨ r = Reg.RGL_LOOPOUT) ∧ i % 4 = 3 then 24 else 32

/-- The bits of a register that its field map gives a meaning; the others are RSV and read 0 (R15). -/
def fieldBits (row : RegRow) (i : Nat) : Nat :=
  sumOf (fun f => (2 ^ f.width - 1) * 2 ^ f.lsb) row.fields % 2 ^ rsvAbove row.reg i

/-! ### What the image loads (R456) -/

/-- The registers that the sections of R456 name and load whole. -/
def imageRegs : List Reg :=
  [Reg.HST_BARCFG, Reg.QUE_FNQ, Reg.QUE_FNCTX, Reg.QUE_FNARB, Reg.HST_TAGBUD, Reg.TEN_FNMAP, Reg.TEN_NSOWN, Reg.TEN_RIOPS, Reg.TEN_BW,
   Reg.TEN_QUOTA, Reg.TEN_COST, Reg.TEN_CFG, Reg.MAP_TARTS_LO, Reg.MAP_TARTS_HI, Reg.MAP_ETCFG, Reg.MAP_WBTEN, Reg.MED_GEOM,
   Reg.MED_ENDUR0, Reg.MED_ENDUR1, Reg.MED_RSVCFG, Reg.FCH_TIMA, Reg.FCH_TIMB, Reg.ECC_GRPRATE, Reg.ECC_LADDER, Reg.RGL_SLOPE,
   Reg.RGL_FFTAB, Reg.RGL_ENERGY, Reg.RGL_SLOTLIM, Reg.LDG_HOLDCFG, Reg.LDG_PMRFN, Reg.SCH_PATROW]

/-- The bits of a register that the configuration image loads: all of those of the registers above, and the fields of others that
the sections name. -/
def imageBits (r : Reg) : Nat :=
  if r ∈ imageRegs then 2 ^ 32 - 1
  else if r = Reg.HST_LINK then 0x10000 else if r = Reg.TEN_CEIL then 0xFFFF else if r = Reg.MED_HEALTH then 0x7F00
  else if r = Reg.ECC_RAW then 0xFFFF else if r = Reg.ECC_CFG then 7 else if r = Reg.RGL_ENVCFG then 0xF0000
  else if r = Reg.DRC_PPRCFG then 0xF01 else if r = Reg.SCH_DIEPAT ∨ r = Reg.SCH_CHPAT then 0xFF0F
  else if r = Reg.CTG_CFG then 1 else 0

/-- The section of a configuration image that holds an entry (R456). -/
def entrySection (e : Nat × Nat × Nat) : Nat :=
  let tag := match findRow (regRows e.1) e.2.1 with | some (row, _) => row.reg == Reg.HST_TAGBUD | none => false
  if e.1 = 0 ∨ (e.1 = Blk.HST ∧ tag = false) then 1
  else if e.1 = Blk.HST ∨ e.1 = Blk.QUE then 2
  else if e.1 = Blk.TEN then 3
  else if e.1 = Blk.MAP then 4
  else if e.1 = Blk.MED ∨ e.1 = Blk.FCH ∨ e.1 = Blk.ECC then 5
  else if e.1 = Blk.RGL then 6
  else if e.1 = Blk.LDG ∨ e.1 = Blk.DRC then 7
  else if e.1 = Blk.SCH then 8 else 9

/-- Sections 1, 4, 5 and 7 of two configuration images are equal (R481). -/
def sameSections (a b : List (Nat × Nat × Nat)) : Bool :=
  [1, 4, 5, 7].all (fun n => a.filter (fun e => entrySection e == n) == b.filter (fun e => entrySection e == n))

/-- The bits that an image entry for the register at an offset of a block sets. -/
def loadBits (b off : Nat) : Nat :=
  match findRow (regRows b) off with
  | some (row, i) => imageBits row.reg &&& fieldBits row i
  | none => 0

/-- A register's contents with the bits that an image entry loads taken from its VALUE. -/
def loadWord (b off : Nat) (old : Word) (val : Nat) : Word :=
  let m := BitVec.ofNat 32 (loadBits b off)
  (old &&& ~~~m) ||| (BitVec.ofNat 32 val &&& m)

/-- The contents of a register as a configuration image leaves it: its reset value with what its last entry loads. -/
def imageReg (entries : List (Nat × Nat × Nat)) (b off : Nat) : Nat :=
  match entries.reverse.find? (fun e => e.1 == b && e.2.1 == off) with
  | some e => (loadWord b off (regResetAt b off) e.2.2).toNat
  | none => (regResetAt b off).toNat

def imageFd (entries : List (Nat × Nat × Nat)) (f : Fd) (i : Nat) : Nat :=
  f.get (BitVec.ofNat 32 (imageReg entries f.reg.blk (f.reg.at i)))

/-! ### The tests of values (R548, R456) -/

/-- A value of a field lies outside the range that its field map states. -/
def FieldRow.outside (f : FieldRow) (val : Nat) : Bool :=
  decide (val / 2 ^ f.lsb % 2 ^ f.width < f.lo) || decide (f.hi < val / 2 ^ f.lsb % 2 ^ f.width)

/-- A write places in some RW field a value outside its stated range (R548). -/
def badRange (row : RegRow) (val : Nat) : Bool := row.fields.any (fun f => f.acc == .rw && f.outside val)

/-- The eight rates in a word of ECC_GRPRATEd. -/
def ratesOf (val : Nat) : List Nat := (List.range 8).map (fun j => val / 2 ^ (4 * j) % 8)

/-- An entry of a configuration image is good (R456): block code 0 carries MSI-X table sizes; any other entry names a present register
that its section loads, with every value it loads inside its field's range (R548). -/
def entryOk (v : Variant) (e : Nat × Nat × Nat) : Bool :=
  if e.1 = 0 then decide (1 ≤ e.2.1) && decide (e.2.1 ≤ 256) && decide (e.2.2 ≤ 2048)
  else match findRow (regRows e.1) e.2.1 with
    | none => false
    | some (row, i) =>
      e.2.1 % 4 == 0 && !regAbsent v .a e.1 row.reg i && !regReserved row.reg i && imageBits row.reg != 0 &&
        row.fields.all (fun f => imageBits row.reg / 2 ^ f.lsb % 2 ^ f.width == 0 || !f.outside e.2.2)

/-- The write-buffer units (R172), contexts (R119), tags (R91) and queue pairs (R117) that an image allots: reservations at most
their caps and within the device's numbers, allocations of queue pairs that do not overlap. -/
def imageBudgets (e : List (Nat × Nat × Nat)) : Bool :=
  let all := List.range 256
  let within := fun (res cap : Fd) (port : Nat → Bool) (most : Nat) =>
    all.all (fun i => decide (imageFd e res i ≤ imageFd e cap i)) && decide (sumOf (fun i => imageFd e res i) (all.filter port) ≤ most)
  let second := fun (f : Nat) => imageFd e Fd.HST_LINK_BIFUR 0 == 1 && decide (128 ≤ f)
  let qs := (all.map (fun f => (imageFd e Fd.QUE_FNQ_BASE f, imageFd e Fd.QUE_FNQ_COUNT f))).filter (fun q => decide (0 < q.2))
  within Fd.MAP_WBTEN_RES Fd.MAP_WBTEN_CAP (fun _ => true) 4096 && within Fd.QUE_FNCTX_RESV Fd.QUE_FNCTX_CAP (fun _ => true) 4096 &&
    within Fd.HST_TAGBUD_RESV Fd.HST_TAGBUD_CAP second 8192 && within Fd.HST_TAGBUD_RESV Fd.HST_TAGBUD_CAP (fun f => !second f) 8192 &&
    decide (sumOf (fun q => q.2) qs ≤ 4096) &&
    qs.all (fun q => decide (q.1 + q.2 ≤ 4096) && decide ((qs.filter (fun r => decide (r.1 < q.1 + q.2) && decide (q.1 < r.1 + r.2))).length = 1))

/-- The rates of R261 that an image sets fit the raw pages it describes: the SLC rate those of every media type in use. -/
def imageRates (e : List (Nat × Nat × Nat)) : Bool :=
  let rate := imageFd e Fd.ECC_CFG_SLCRATE 0
  (List.range 4).all (fun k => imageFd e Fd.MED_GEOM_VALID k != 1 || decide (17920 + 256 * rate ≤ imageFd e Fd.ECC_RAW_BYTES k))

/-- Granules of the PMR are allotted in multiples of 16 (R343). -/
def imageGranules (e : List (Nat × Nat × Nat)) : Bool := (List.range 256).all (fun f => imageFd e Fd.LDG_PMRFN_COUNT f % 16 == 0)

/-- The tests of R456 on the entries of a configuration image beyond admission. -/
def entriesOk (v : Variant) (e : List (Nat × Nat × Nat)) : Bool :=
  e.all (entryOk v) && imageBudgets e && imageRates e && imageGranules e

end Sys2Proof.Machine
end

