-- ==== Sys2Proof/Machine/Sched.lean ====
section
/-! DEFINITION. Chapter 02: the bar plan, credits, done flags and overruns, with the commands BAR_LATCH_POINT,
DONE_DEADLINE, SCH_ENROLL_WRITE, SCH_DONE_SET_WRITE and PLAN_COMMIT. -/

namespace Sys2Proof.Machine

/-! ### The plan -/

/-- Entry `b` of pattern row `r`, from the row's words: the class of R53. -/
def rowEntry (word : Nat → Word) (r b : Nat) : Nat :=
  (word (16 * r + b / 16)).toNat / 2 ^ (2 * (b % 16)) % 4

def slotClsOf : Nat → SlotCls
  | 0 => .host
  | 1 => .gc
  | 2 => .reg
  | _ => .rfs

/-- The HOST entries of a pattern row (R61). -/
def rowHosts (word : Nat → Word) (r : Nat) : Nat :=
  ((List.range 250).filter (fun b => rowEntry word r b == 0)).length

/-- The word of the pending pattern rows of half `h`. -/
def State.pendRow (s : State) (h : Half) (i : Nat) : Word := s.reg h Blk.SCH (Reg.SCH_PATROW.at i)

/-- The word of the live pattern rows; an unlisted word is all HOST, as at reset. -/
def State.liveRow (s : State) (i : Nat) : Word := spGet (fun _ => 0) s.sched.rows i

def State.liveDie (s : State) (d : Nat) : Word := spGet (fun _ => 0) s.sched.diePat d

def State.liveCh (s : State) (c : Nat) : Word := spGet (fun _ => 0) s.sched.chPat c

/-- The state of a die. -/
def State.die (s : State) (d : Nat) : Die := spGet (fun _ => .init) s.md.dies d

/-- The dies that are present and not retired: those with slots (R52, R63). -/
def State.dieNums (s : State) : List Nat :=
  (s.md.dies.filter (fun p => p.2.st == 1)).map (fun p => p.1)

/-- The dies with slots in media slice `m` (R24, R165). -/
def State.sliceDies (s : State) (m : Nat) : List Nat := s.dieNums.filter (fun d => d / 256 == m)

/-- HOST slots per bar of slice `m` under the pending plan of half `h` and the present dies: SCH_HOSTCAPm (R61). -/
def State.hostCap (s : State) (h : Half) (m : Nat) : Nat :=
  sumOf (fun d => rowHosts (s.pendRow h) (s.rd Fd.SCH_DIEPAT_ROW d h)) (s.sliceDies m)

/-- The live HOST capacity of slice `m` (R62). -/
def State.liveCap (s : State) (m : Nat) : Nat :=
  sumOf (fun d => rowHosts s.liveRow (Fd.SCH_DIEPAT_ROW.get (s.liveDie d))) (s.sliceDies m)

/-- The class of die `d`'s slot in the given beat (R53). -/
def State.slotClass (s : State) (d beat : Nat) : SlotCls :=
  slotClsOf (rowEntry s.liveRow (Fd.SCH_DIEPAT_ROW.get (s.liveDie d))
    ((beat % 250 + Fd.SCH_DIEPAT_ROT.get (s.liveDie d)) % 250))

/-- The class of channel `c` in the given beat (R58). -/
def State.chClass (s : State) (c beat : Nat) : SlotCls :=
  slotClsOf (rowEntry s.liveRow (Fd.SCH_CHPAT_ROW.get (s.liveCh c))
    ((beat % 250 + Fd.SCH_CHPAT_ROT.get (s.liveCh c)) % 250))

/-- Quanta of 512 B per channel beat at a rate encoded as FCH_TRAINCFG.RATE (R58). -/
def quantaOf : Nat → Nat
  | 4 => 33
  | 3 => 25
  | 2 => 16
  | 1 => 11
  | _ => 5

/-- The pending budget of tenant `t` in slice `m`. -/
def State.pendBudget (s : State) (h : Half) (m t : Nat) : Nat := s.rd Fd.SCH_TBUDGET_CREDITS (256 * m + t) h

/-- The sum of the pending budgets of slice `m`. -/
def State.pendSum (s : State) (h : Half) (m : Nat) : Nat :=
  sumOf (fun t => s.pendBudget h m t) (List.range 256)

def State.liveBudget (s : State) (m t : Nat) : Nat := spGet (fun _ => 0) s.sched.budget (256 * m + t)

/-- The sum of the live budgets of slice `m`. -/
def State.liveSum (s : State) (m : Nat) : Nat :=
  sumOf (fun p => if p.1 / 256 = m then p.2 else 0) s.sched.budget

/-- The credits of tenant `t` that remain in slice `m` (SCH_TREMAIN). -/
def State.credits (s : State) (m t : Nat) : Nat := spGet (fun _ => 0) s.sched.remain (256 * m + t)

def State.updSched (s : State) (f : Sched → Sched) : State := { s with sched := f s.sched }

def State.setCredits (s : State) (m t n : Nat) : State :=
  s.updSched (fun c => { c with remain := spSet (fun _ => 0) c.remain (256 * m + t) n })

/-- The reason and slice for which a committed plan is rejected (R61): ROT above 249 first, then budgets. -/
def State.planFault (s : State) (h : Half) : Option (Nat × Nat) :=
  match (List.range s.variant.diesN).find? (fun d => decide (249 < s.rd Fd.SCH_DIEPAT_ROT d h)) with
  | some d => some (2, d / 256)
  | none =>
    match (List.range s.variant.channels).find? (fun c => decide (249 < s.rd Fd.SCH_CHPAT_ROT c h)) with
    | some c => some (2, c / 8)
    | none =>
      match (List.range s.variant.slices).find? (fun m => decide (s.hostCap h m < s.pendSum h m)) with
      | some m => some (1, m)
      | none => none

/-- The entries of a sparse copy of `n` instances of a register. -/
def copyRegs (word : Nat → Word) (n : Nat) : Sparse Word :=
  ((List.range n).map (fun i => (i, word i))).filter (fun p => decide (p.2 ≠ 0))

/-- The pending plan becomes the live plan, its identifier LIVE_ID, and each tenant's credits its budget (R57, R60). -/
def State.latchPlan (s : State) (h : Half) : State :=
  let budget := ((List.range (256 * s.variant.slices)).map (fun i => (i, s.rd Fd.SCH_TBUDGET_CREDITS i h))).filter
    (fun p => decide (p.2 ≠ 0))
  let rows := copyRegs (s.pendRow h) 256
  let dies := copyRegs (fun d => s.reg h Blk.SCH (Reg.SCH_DIEPAT.at d)) s.variant.diesN
  let chs := copyRegs (fun c => s.reg h Blk.SCH (Reg.SCH_CHPAT.at c)) s.variant.channels
  let s := s.updSched (fun c => { c with rows := rows, diePat := dies, chPat := chs, budget := budget, remain := budget })
  ((s.wr Fd.SCH_PLAN_CTRL_COMMIT 0 0 h).wr Fd.SCH_PLAN_STATUS_LIVE_ID (s.rd Fd.SCH_PLAN_CTRL_PLAN_ID 0 h) 0 h).wr
    Fd.SCH_PLAN_STATUS_SCALED 0 0 h

/-- A rejected commit (R61): COMMIT clears, REJECT, REASON and SLICE are set, the live plan is kept, an event. -/
def State.rejectPlan (s : State) (h : Half) (reason slice : Nat) : State :=
  let s := (((s.wr Fd.SCH_PLAN_CTRL_COMMIT 0 0 h).wr Fd.SCH_PLAN_STATUS_REJECT 1 0 h).wr
    Fd.SCH_PLAN_STATUS_REASON reason 0 h).wr Fd.SCH_PLAN_STATUS_SLICE slice 0 h
  s.uev h 0 0x1701 [reason, slice, s.rd Fd.SCH_PLAN_CTRL_PLAN_ID 0 h, 0]

/-- The refill of a bar in which no plan is latched (R57, R62): each tenant's live budget, scaled in proportion in a
slice whose budgets exceed its capacity. -/
def State.refill (s : State) (h : Half) : State :=
  let cap := fun m => s.liveCap m
  let sum := fun m => s.liveSum m
  let tight := (List.range s.variant.slices).filter (fun m => decide (cap m < sum m))
  let remain := (s.sched.budget.map (fun p =>
    let m := p.1 / 256
    (p.1, if m ∈ tight then p.2 * cap m / sum m else p.2))).filter (fun p => decide (p.2 ≠ 0))
  let s := s.updSched (fun c => { c with remain := remain })
  let s := if tight.isEmpty then s else s.wr Fd.SCH_PLAN_STATUS_SCALED 1 0 h
  s.each tight (fun s m => s.uev h 0 0x1702 [m, s.hostCap h m, sum m, 0])

/-! ### Done flags and overruns -/

/-- The units of the unit code table that are present (R70). -/
def unitPresent (v : Variant) (n : Nat) : Bool :=
  match v with
  | .fk9612 => decide (n < 18) && n != 5 && n != 6 && !(decide (11 ≤ n) && decide (n ≤ 14))
  | _ => decide (n < 18)

/-- The units enrolled with the beat scheduler of a half (R49). -/
def State.enrolled (s : State) (h : Half) : List Nat :=
  (List.range 18).filter (fun n => unitPresent s.variant n && (decide (15 ≤ n) || bit (s.rd Fd.SCH_ENROLL_UNIT 0 h) n))

/-- A firmware unit, whose done flag SCH_DONE_SET sets. -/
def firmwareUnit (n : Nat) : Bool :=
  n == 1 || n == 2 || (decide (7 ≤ n) && decide (n ≤ 14)) || n == 16 || n == 17

/-- The first cycle at which a unit's done flag was set in this beat. -/
def doneCycle (l : List (Nat × Nat)) (n : Nat) : Option Nat := (l.find? (fun p => p.1 == n)).map (fun p => p.2)

/-- The flags of SCH_DONE. -/
def doneFlags (l : List (Nat × Nat)) : Nat :=
  sumOf (fun n => if (doneCycle l n).isSome then 2 ^ n else 0) (List.range 18)

/-- Set done flags at a cycle; a flag that is set stays as it was first set. -/
def State.setDones (s : State) (h : Half) (l : List (Nat × Nat)) : State :=
  s.each l (fun s p => if (doneCycle (s.half h).dones p.1).isSome then s
    else s.updHalf h (fun r => { r with dones := r.dones ++ [p] }))

/-- The smallest margin of this deadline enters SCH_SLACK when it is below the margin held there (R69). Of units with equal margins the
one already held stays, else the lowest-numbered is taken (DESIGN CHOICE, log entry 137). -/
def State.noteSlack (s : State) (h : Half) : State :=
  s.each (s.enrolled h) (fun s n =>
    match doneCycle (s.half h).dones n with
    | some c =>
      if c ≤ 7600 ∧ 7600 - c < s.rd Fd.SCH_SLACK_MIN 0 h then
        (s.wr Fd.SCH_SLACK_MIN (7600 - c) 0 h).wr Fd.SCH_SLACK_UNIT n 0 h
      else s
    | none => s)

/-- The enrolled units whose done flag is clear at the deadline, lowest first (R65). -/
def State.missing (s : State) (h : Half) : List Nat :=
  (s.enrolled h).filter (fun n => match doneCycle (s.half h).dones n with
    | some c => decide (7600 < c)
    | none => true)

/-- Record an overrun in SCH_OVR and SCH_OVR_COUNT of the half (R65, R71). -/
def State.recordOverrun (s : State) (h : Half) (unit : Nat) (multi : Bool) : State :=
  let s := ((s.wr Fd.SCH_OVR_UNIT unit 0 h).wr Fd.SCH_OVR_MULTI (if multi then 1 else 0) 0 h).wr
    Fd.SCH_OVR_BEAT (s.time.beat % 250) 0 h
  (s.wr Fd.SCH_OVR_VALID 1 0 h).count Fd.SCH_OVR_COUNT_COUNT 1 0 h

/-- The media, host or control slice of a unit code, as SAF_FAULT.SLICE numbers slices. -/
def unitSlice (n : Nat) : Nat :=
  if n ≤ 2 then 4 else if n ≤ 6 then n - 3 else if n ≤ 14 then (n - 7) / 2 else 5

/-- The event of R68: unit code, beat counter, half that overran; written by the half that holds the role afterwards. -/
def State.overrunEvent (s : State) (h : Half) (unit beat : Nat) : State :=
  s.aev 0 0x0D01 [unit, beat, halfNum h]

/-- The half that holds the active role writes the event of an overrun of the other half that has none yet (R68). -/
def State.noteOverrun (s : State) (h : Half) : State :=
  match (s.half h).ovrAt with
  | some b => (s.overrunEvent h (s.rd Fd.SCH_OVR_UNIT 0 h) b).updHalf h (fun r => { r with ovrAt := none })
  | none => s

/-- The consequence of an overrun of half `h` (R66, R67): mechanism 5 of R411. The half that served falls silent at the boundary that
follows (`quitHalf`); another half is unfit. The event is written by the half that holds the active role: at once when that is the
other half, else by the half that takes it over. -/
def State.overrun (s : State) (h : Half) : State :=
  match s.missing h with
  | [] => s
  | n :: more =>
    let s := (s.recordOverrun h n (!more.isEmpty)).updHalf h (fun r => { r with ovrAt := some s.time.beat })
    if (s.half h).st = .active then
      let both := s.bothFault h
      let s := ((s.recordFault h 1 5 (unitSlice n) true).count Fd.SAF_CNT_CONTROL_COUNT).when s.withdrawn (fun s => s.testMeets 10)
      let s := s.updHalf h (fun r => { r with quit := true, faultSlice := unitSlice n })
      if both then s.fence 3 none else s
    else
      let s := s.controlFault h 5 (unitSlice n)
      if s.active.isSome then s.noteOverrun h else s

/-- Operations chosen for a beat that has passed, or by a half that falls silent, are not issued (R50, R67): they wait again, and quanta
chosen for them stay unused. -/
def State.unchoose (s : State) (stale : Op → Bool) : State :=
  { s with md := { s.md with
    ops := updWhere stale (fun o => { o with st := if o.st = .chosen then .wait else o.st, quanta := 0 }) s.md.ops } }

/-- The boundary after an overrun (R67): the half has withdrawn and is unfit, what it chose for this beat is not issued, and a drill in
progress fails. -/
def State.quitHalf (s : State) (h : Half) : State :=
  if (s.half h).quit then
    let s := (s.updHalf h (fun r => { r with quit := false, gone := true })).unchoose (fun _ => true)
    (s.drillHit h).enterUnfit h
  else s

/-- A half runs beats: it is neither OFF, UNFIT nor HELD. -/
def State.runs (s : State) (h : Half) : Bool :=
  (s.half h).st == .active || (s.half h).st == .standby || (s.half h).st == .syncing || (s.half h).st == .loading

/-- Overrun detection for the active half is suspended in an activation hold (R482). -/
def State.actHold (s : State) (h : Half) : Bool :=
  (match s.sv.act with | some a => a.holdAt.isSome && a.changed.isNone | none => false) && decide ((s.half h).st = .active)

/-- DONE_DEADLINE (R48, R65, R69): at cycle 7,600 the done flags of a running half are sampled. `hw` gives the cycles at
which its hardware units set theirs. -/
def execDoneDeadline (h : Half) (hw : List (Nat × Nat)) (s : State) : Host.Outcome State Fault Refusal :=
  .next (
    let s := { s with time := { s.time with cycle := 7600 } }
    if s.runs h = true ∧ (s.half h).quit = false ∧ halfPresent s.variant h = true ∧ s.actHold h = false then
      let s := (s.setDones h (hw.filter (fun p => !firmwareUnit p.1))).noteSlack h
      s.overrun h
    else s)

/-- A write of SCH_DONE_SET (R48): the 1s of firmware units set their flags, the others are discarded. -/
def State.doneWrite (s : State) (h : Half) (val cyc : Nat) : State :=
  s.setDones h (((List.range 18).filter (fun n => firmwareUnit n && unitPresent s.variant n && bit val n)).map
    (fun n => (n, cyc)))

/-- SCH_DONE_SET_WRITE (R48), at cycle `cyc` of the beat. -/
def execSchDoneSetWrite (_m : Nat) (h : Half) (val cyc : Nat) (s : State) : Host.Outcome State Fault Refusal :=
  .next (if halfPresent s.variant h then { s with time := { s.time with cycle := cyc } }.doneWrite h val cyc else s)

/-- SCH_ENROLL may change before the host link is enabled and in the quiesced period of an activation (R49). -/
def State.enrollOpen (s : State) : Bool :=
  !s.hub.linkOn || s.rd Fd.QUE_ACT_STATE == 2

def State.enrollWrite (s : State) (m : Nat) (h : Half) (val : Nat) : State :=
  if s.enrollOpen then s.wr Fd.SCH_ENROLL_UNIT val 0 h
  else s.discarded h m Blk.SCH Reg.SCH_ENROLL.off val

/-- SCH_ENROLL_WRITE (R49). -/
def execSchEnrollWrite (m : Nat) (h : Half) (val : Nat) (s : State) : Host.Outcome State Fault Refusal :=
  .next (if halfPresent s.variant h then s.enrollWrite m h val else s)

/-- A write of SCH_PLAN_CTRL (R60): PLAN_ID takes its value, a 1 in COMMIT marks the pending plan. -/
def State.planWrite (s : State) (h : Half) (val : Nat) : State :=
  let s := s.wr Fd.SCH_PLAN_CTRL_PLAN_ID (val / 65536) 0 h
  if bit val 0 then s.wr Fd.SCH_PLAN_CTRL_COMMIT 1 0 h else s

/-- PLAN_COMMIT (R60). -/
def execPlanCommit (_m : Nat) (h : Half) (val : Nat) (s : State) : Host.Outcome State Fault Refusal :=
  .next (if halfPresent s.variant h then s.planWrite h val else s)

end Sys2Proof.Machine
end

