-- ==== Sys2Proof/Machine/Queue.lean ====
section
/-! DEFINITION. The queue engine's shared operations (chapter 04): functions, command contexts and their budgets (R119),
completions with the submission queue head of R33 and the Do Not Retry of R553, completions that are held (R134, R137),
asynchronous events (R552), and host reads under the tag rules of chapter 03 (R89 to R97). -/

namespace Sys2Proof.Machine

def State.updNv (s : State) (f : Nvme → Nvme) : State := { s with nv := f s.nv }

/-! ### Functions -/

/-- The PF that function `f` belongs to (R77). -/
def pfOf (f : Nat) : Nat := if f = 0 ∨ (2 ≤ f ∧ f ≤ 128) then 0 else 1

def isPf (f : Nat) : Bool := decide (f < 2)

/-- The PF of a function in the present link (R77, R78), and the number of a PF as a function. -/
def State.pfNow (s : State) (f : Nat) : Nat := if s.bifur then f / 128 else pfOf f
def State.pfFn (s : State) (p : Nat) : Nat := if s.bifur ∧ p = 1 then 128 else p

def State.portOf (s : State) (f : Nat) : Nat := if s.bifur ∧ 128 ≤ f then 1 else 0

def State.isPfNow (s : State) (f : Nat) : Bool := if s.bifur then f == 0 || f == 128 else isPf f

/-- The functions that respond: the PFs, and VFs up to NumVFs once VF Enable is set (R79). -/
def State.fnUp (s : State) (f : Nat) : Bool :=
  if s.bifur then
    s.isPfNow f || (decide (f < 256) && (s.fn (f / 128 * 128)).vfOn && decide (f % 128 ≤ (s.fn (f / 128 * 128)).numVfs))
  else isPf f || (decide (f < 256) && (s.fn (pfOf f)).vfOn &&
    decide (f - (if pfOf f = 0 then 1 else 128) ≤ (s.fn (pfOf f)).numVfs))

/-- The tenant of a function (R145). -/
def State.tenantOf (s : State) (f : Nat) : Nat := s.rd Fd.TEN_FNMAP_TENANT f

/-- The namespace with an identifier. -/
def State.ns (s : State) (n : Nat) : Option Ns := s.tr.ns.find? (fun x => x.id == n)

/-- The tenant that owns a namespace (R146): TEN_NSOWN of namespaces 1 to 1,024. -/
def State.ownerOf (s : State) (n : Nat) : Nat := s.rd Fd.TEN_NSOWN_TENANT (n - 1)

/-! ### The window table and the CMB (R80, R81, R83, R118) -/

def cmbBase : Nat := 0x1_0000_0000
def cmbEnd : Nat := 0x2_0000_0000
def pmrBase : Nat := 0xF000_0000_0000
def pmrEnd : Nat := 0xF000_0100_0000

/-- The size of a function's window BAR (R80, R81): none in ROM mode. -/
def State.windowSize (s : State) (f : Nat) : Nat :=
  let p := s.pfNow f
  if s.rd Fd.HST_BARCFG_MODE p = 1 then 0
  else if s.isPfNow f then 2 ^ s.rd Fd.HST_BARCFG_BAR2LOG p
  else 2 ^ s.rd Fd.HST_BARCFG_VFBAR2LOG p

/-- A window table entry: index 64 p + e. -/
structure Win where
  en : Bool
  off : Nat
  tgt : Nat
  req : Nat
  filt : Bool
  acc : Nat
  size : Nat
  owner : Nat
  deriving DecidableEq, Repr

def State.win (s : State) (i : Nat) : Win :=
  ⟨s.rd Fd.HST_WIN_CTRL_EN i == 1, s.rd Fd.HST_WIN_OFF_OFF i * 65536, s.rd Fd.HST_WIN_TGT_TGT i * 65536,
   s.rd Fd.HST_WIN_REQ_REQID i, s.rd Fd.HST_WIN_REQ_FILT i == 1, s.rd Fd.HST_WIN_CTRL_ACC i,
   2 ^ s.rd Fd.HST_WIN_CTRL_LOG2SZ i, s.rd Fd.HST_WIN_CTRL_OWNER i⟩

/-- The CMB of a function (R83, R118): the first enabled window entry of its own that names the CMB region. -/
def State.cmbWin (s : State) (f : Nat) : Option Win :=
  ((List.range 64).map (fun e => s.win (64 * s.pfNow f + e))).find? (fun w =>
    w.en && w.owner == f && decide (cmbBase ≤ w.tgt) && decide (w.tgt < cmbEnd))

def State.updDr (s : State) (f : Dram → Dram) : State := { s with dr := f s.dr }

/-- The bytes of a DRAM address in the CMB. -/
def State.cmbByte (s : State) (a : Nat) : Byte := spGet (fun _ => 0) s.dr.cmb a

/-- The lines of a byte range. -/
def linesOf (a len : Nat) : List Nat := if len = 0 then [] else List.range' (a / 64) ((a + len - 1) / 64 - a / 64 + 1)

/-! ### Contexts -/

def State.ctx (s : State) (id : Nat) : Option Ctx := s.nv.ctxs.find? (fun c => c.id == id)

def State.updCtx (s : State) (id : Nat) (f : Ctx → Ctx) : State :=
  s.updNv (fun n => { n with ctxs := updWhere (fun c => c.id == id) f n.ctxs })

/-- The context of a command by where it was fetched. -/
def State.ctxAt (s : State) (f q cid : Nat) : Option Ctx :=
  s.nv.ctxs.find? (fun c => c.fn == f && c.sq == q && c.cid == cid)

/-- Contexts a function holds: its commands, and the entries granted and not yet executed (R119). -/
def State.ctxUse (s : State) (f : Nat) : Nat :=
  (s.nv.ctxs.filter (fun c => c.fn == f)).length + (s.nv.grants.filter (fun g => g.fn == f)).length

/-- A function may fetch one more entry (R119): below its cap, and at or above its reservation only into the pool beyond
the unused reservations of the others. -/
def State.ctxFree (s : State) (f : Nat) : Bool :=
  let use := s.ctxUse f
  let resv := fun g => 16 * s.rd Fd.QUE_FNCTX_RESV g
  decide (use < 16 * s.rd Fd.QUE_FNCTX_CAP f) &&
    (decide (use < resv f) ||
      decide (sumOf (fun g => if g = f then use else max (s.ctxUse g) (resv g)) (List.range 256) < 65536))

/-- The rule of R119 for a value written to QUE_FNCTXf: RESV at most CAP, and the sum of reservations within 4,096. -/
def State.ctxBudgetOk (s : State) (f resv cap : Nat) : Bool :=
  decide (resv ≤ cap) && decide (sumOf (fun g => if g = f then resv else s.rd Fd.QUE_FNCTX_RESV g) (List.range 256) ≤ 4096)

/-! ### Completions -/

/-- Do Not Retry (R553): set in every error status but those a later attempt can clear. -/
def dnrOf (sct sc : Nat) : Nat :=
  if sct = 0 ∧ sc = 0 then 0
  else if sct = 0 ∧ (sc = 0x04 ∨ sc = 0x06 ∨ sc = 0x07 ∨ sc = 0x08 ∨ sc = 0x1D ∨ sc = 0x81) then 0
  else if sct = 1 ∧ (sc = 0x03 ∨ sc = 0x05) then 0
  else if sct = 7 ∧ sc = 0xC0 then 0
  else 1

def State.sq (s : State) (f q : Nat) : Option Sq := s.nv.sqs.find? (fun x => x.fn == f && x.qid == q)
def State.cq (s : State) (f q : Nat) : Option Cq := s.nv.cqs.find? (fun x => x.fn == f && x.qid == q)

def State.updSq (s : State) (f q : Nat) (g : Sq → Sq) : State :=
  s.updNv (fun n => { n with sqs := updWhere (fun x => x.fn == f && x.qid == q) g n.sqs })

def State.updCq (s : State) (f q : Nat) (g : Cq → Cq) : State :=
  s.updNv (fun n => { n with cqs := updWhere (fun x => x.fn == f && x.qid == q) g n.cqs })

/-- The fetch position of a queue (R33): the entries fetched with none before them unfetched, counted from the queue's creation. -/
def fetchedOf (grants : List Grant) (q : Sq) : Nat :=
  (minOf ((grants.filter (fun g => g.fn == q.fn && g.sq == q.qid && !g.here)).map (fun g => g.idx))).getD q.head

/-- The fetch positions of queues, by function and queue. -/
def positions (grants : List Grant) (sqs : List Sq) : List (Nat × Nat × Nat) := sqs.map (fun q => (q.fn, q.qid, fetchedOf grants q))

/-- The fetch position that a list gives a queue: 0, as at its creation, when it does not name the queue. -/
def positionIn (l : List (Nat × Nat × Nat)) (f q : Nat) : Nat :=
  ((l.find? (fun p => p.1 == f && p.2.1 == q)).map (fun p => p.2.2)).getD 0

/-- The half that receives the shadow and the mirror copies of the active half (R389): it is SYNCING or STANDBY. -/
def State.receiver (s : State) : Option HalfRec :=
  match s.active with
  | some h =>
    let o := s.half (otherHalf h)
    if o.st = .standby ∨ o.st = .syncing then some o else none
  | none => none

def State.mirrored (s : State) : Bool := s.receiver.isSome

/-- The submission queue head a completion entry reports (R33): the fetch position last shadowed while the other half
is STANDBY or SYNCING, else the live fetch position. -/
def State.sqHead (s : State) (f q : Nat) : Nat :=
  match s.sq f q with
  | some x => (match s.receiver with
    | some o => positionIn o.heads f q
    | none => fetchedOf s.nv.grants x) % max 1 x.size
  | none => 0

/-- A submission queue is gone (R131, R551): its entries on their way are discarded with it, and no half knows a position of it. -/
def State.dropSqs (s : State) (p : Nat → Nat → Bool) : State :=
  let bare (r : HalfRec) : HalfRec := { r with
    heads := r.heads.filter (fun e => !p e.1 e.2.1),
    shadow := r.shadow.map (fun w => { w with
      sqs := w.sqs.filter (fun q => !p q.fn q.qid), grants := w.grants.filter (fun g => !p g.fn g.sq) }) }
  let s := s.updHub (fun u => { u with a := bare u.a, b := bare u.b, wire := u.wire.map (fun w => { w with
    sqs := w.sqs.filter (fun q => !p q.fn q.qid), grants := w.grants.filter (fun g => !p g.fn g.sq) }) })
  s.updNv (fun n => { n with
    sqs := n.sqs.filter (fun q => !p q.fn q.qid), grants := n.grants.filter (fun g => !p g.fn g.sq),
    posted := n.posted.filter (fun e => !p e.1 e.2.1) })

/-- The completions of an activation's quiesced period (R134) and of a power-state entry or an exit from PS3 (R137) are
held; a function without Bus Master Enable writes nothing (R102); a full completion queue and a half that does not
serve post nothing. -/
def State.canPost (s : State) (h : Held) : Bool :=
  s.serving && s.fnUp h.fn && (s.fn h.fn).bme && decide (s.rd Fd.QUE_ACT_STATE < 2) &&
    !(s.rd Fd.QUE_PWR_ENTRY == 1) && !(h.io && (s.rd Fd.QUE_PWR_EXIT == 1 || s.rd Fd.QUE_PWR_PS == 3)) &&
    (match s.sq h.fn h.sq with
      | some q => (match s.cq h.fn q.cq with
        | some c => decide ((c.tail + 1) % c.size ≠ c.head)
        | none => false)
      | none => false)

/-- Writes of data to a function's host memory are sent (R102, R111, R401): the device serves, and Bus Master Enable is set. -/
def State.canSend (s : State) (f : Nat) : Bool := s.serving && s.fnUp f && (s.fn f).bme

/-- An MSI-X message of a function (R80, R108): while its entry is masked it is pending instead. -/
def State.sendMsix (s : State) (f iv : Nat) : State :=
  if (spGet (fun _ => MsixEntry.init) (s.fn f).msix iv).mask then s.updFn f (fun x => { x with pba := addOnce iv x.pba })
  else s.emit (.msix f iv)

/-- A version with the pins of a command taken away (R171). -/
def unpinned (c : Ctx) (v : Ver) : Ver := { v with pins := v.pins - (if c.cmd = .flush then 0 else c.refs.count v.id) }

/-- A version as the posting of a command's completion leaves it: its own write may be programmed (R28 step 6), and what it carries of
the command is due to every later Flush (R129). -/
def postedVer (c : Ctx) (now : Nat) (v : Ver) : Ver :=
  { v with
    post := if v.ctx = some c.id then v.post.or (some now) else v.post
    owes := if v.carries.contains c.id then v.owes.or (some now) else v.owes }

/-! ### Latency (R151) -/

/-- A tenant's reads in a media slice's bar are within its credits: none was issued in it after its credits had run out. -/
def State.withinCredits (s : State) (t m : Nat) : Bool := spGet (fun _ => 0) s.sched.beyond (256 * m + t) == 0

/-- A bar ends: a command keeps whether its tenant went beyond its credits in a slice where it read. A read that spans bars counts
only where each of its bars was within the credits (DESIGN CHOICE, log entry 142). -/
def State.endCharges (s : State) : State :=
  let s := s.updNv (fun n => { n with ctxs := n.ctxs.map (fun c => { c with
    beyond := c.beyond || c.slices.any (fun m => !s.withinCredits (s.tenantOf c.fn) m), slices := [] }) })
  { s with sched := { s.sched with beyond := [] } }

/-- Bytes of an LBA. -/
def Ns.lbaBytes (n : Ns) : Nat := if n.lbaf < 2 then 512 else 4096

/-- R151 measures every Read of at most 16 KiB. -/
def State.measured (s : State) (c : Ctx) : Bool :=
  c.cmd == .read && (match s.ns c.nsid with | some n => decide (c.nlb * n.lbaBytes ≤ 16384) | none => false)

/-- The completion of a Read of at most 16 KiB is posted: a miss when the time since its fetch exceeds the tenant's published
ceiling while the tenant's reads were within its credits. -/
def State.noteLatency (s : State) (c : Ctx) : State :=
  let t := s.tenantOf c.fn
  let pub := s.rd Fd.TEN_CEIL_PUB t
  if s.measured c = true ∧ pub ≠ 0 ∧ pub < s.time.beat - c.beat ∧ c.beyond = false ∧
      c.slices.all (fun m => s.withinCredits t m) = true then
    (s.count Fd.TEN_MISS_COUNT 1 t).count Fd.TEN_MISSTOT_COUNT 1 t
  else s

/-- The completion of a context is posted: it is measured, its pins end, and the context is free. -/
def State.closeCtx (s : State) (c : Ctx) : State :=
  let s := s.noteLatency c
  let s := { s with tr := { s.tr with vers := s.tr.vers.map (fun v => unpinned c (postedVer c s.nv.posts v)) } }
  s.updNv (fun n => { n with
    ctxs := n.ctxs.filter (fun x => x.id != c.id)
    posted := if s.mirrored then n.posted ++ [(c.fn, c.sq, c.idx)] else n.posted })

/-- Post one completion entry and its MSI-X message (R35, R108); the context is free from then on. -/
def State.postHeld (s : State) (h : Held) : State :=
  match s.sq h.fn h.sq with
  | none => s
  | some q => match s.cq h.fn q.cq with
    | none => s
    | some c =>
      let s := (s.emit (.completion h.fn q.cq h.sq h.cid h.sct h.sc (dnrOf h.sct h.sc) h.dw0 (s.sqHead h.fn h.sq))).sendMsix
        h.fn c.iv
      let s := s.updCq h.fn q.cq (fun c => { c with tail := (c.tail + 1) % c.size, sent := (c.sent + 1) % c.size })
      let s := s.updNv (fun n => { n with posts := n.posts + 1 })
      match s.nv.ctxs.find? (fun c => c.fn == h.fn && c.sq == h.sq && c.cid == h.cid && c.status.isSome) with
      | some c => s.closeCtx c
      | none => s

/-- Post every held completion that can be posted, oldest first. -/
def State.drain (s : State) : State :=
  let go := fun (p : List Held × State) (h : Held) =>
    if p.2.canPost h then (p.1, p.2.postHeld h) else (p.1 ++ [h], p.2)
  let r := s.nv.held.foldl go ([], s)
  r.2.updNv (fun n => { n with held := r.1 })

/-- A command that a sender outside a context completes: its completion joins those to be posted. -/
def State.complete (s : State) (f q cid : Nat) (sct sc dw0 : Nat) : State :=
  (s.updNv (fun n => { n with held := n.held ++ [⟨f, q, cid, decide (q ≠ 0), sct, sc, dw0⟩] })).drain

/-! ### Asynchronous events -/

/-- Complete an outstanding Asynchronous Event Request of `f` with an event it keeps (R552). -/
def State.deliverAen (s : State) (f : Nat) : State :=
  let waiting := s.nv.ctxs.find? (fun c => c.fn == f && c.cmd == .aer && c.status.isNone)
  match (s.fn f).kept, waiting with
  | e :: rest, some c =>
    if (s.fn f).en then
      let s := s.updFn f (fun x => { x with kept := rest })
      let s := s.updCtx c.id (fun c => { c with status := some (0, 0, e.typ + e.info * 256 + e.page * 65536) })
      s.complete f c.sq c.cid 0 0 (e.typ + e.info * 256 + e.page * 65536)
    else s
  | _, _ => s

/-- Post an asynchronous event to a function: dropped while its kind is masked, merged with one of its kind that is
kept, else kept until a request takes it (R552). With `mask` the kind is masked from then on (R141, R156, R228). -/
def State.postAen (s : State) (f : Nat) (e : Aen) (mask : Bool) : State :=
  if e ∈ (s.fn f).masks then s
  else (s.updFn f (fun x => { x with
    kept := addOnce e x.kept, masks := if mask then addOnce e x.masks else x.masks })).deliverAen f

/-- The event of a happening that concerns every function. -/
def State.postAenAll (s : State) (e : Aen) (mask : Bool) : State :=
  s.each (List.range 256) (fun s f => if s.fnUp f then s.postAen f e mask else s)

/-- Reading a log page with RAE cleared discards a kept event that names it and clears its masks (R552). -/
def State.unmask (s : State) (f page : Nat) : State :=
  s.updFn f (fun x => { x with kept := x.kept.filter (fun e => e.page != page),
                               masks := x.masks.filter (fun e => e.page != page) })

/-! ### Tags and host reads -/

/-- The tag mode in force on a port (R89), by what the host has enabled in the port's PF: 0 8-bit, 1 10-bit, 2 14-bit, the last in flit
mode only. -/
def State.tagMode (s : State) (port : Nat) : Nat :=
  let c := (s.fn (if port = 0 then 0 else 128)).cfg
  let flit := if port = 0 then s.rd Fd.HST_LINK_FLIT == 1 else s.nv.flit1
  if c.tag14 && flit then 2 else if c.tag10 then 1 else 0

/-- The outstanding limit L of a port (R89), halved in a bifurcated link. -/
def State.tagLimit (s : State) (port : Nat) : Nat :=
  let l := match s.tagMode port with
    | 2 => 8192
    | 1 => 768
    | _ => 256
  if s.bifur then l / 2 else l

/-- The tag values of a mode (R89). -/
def tagValues : Nat → List Nat
  | 2 => List.range 16384
  | 1 => List.range' 256 768
  | _ => List.range 256

/-- A budget on the scale of L (R90). -/
def scaleTag (l x : Nat) : Nat := if l < 8192 then max 1 (x * l / 8192) else x

def State.tagResv (s : State) (f : Nat) : Nat := scaleTag (s.tagLimit (s.portOf f)) (s.rd Fd.HST_TAGBUD_RESV f)
def State.tagCap (s : State) (f : Nat) : Nat := scaleTag (s.tagLimit (s.portOf f)) (s.rd Fd.HST_TAGBUD_CAP f)

/-- Outstanding and quarantined tags of a function. -/
def State.tagUse (s : State) (f : Nat) : Nat := (s.nv.tags.filter (fun t => t.fn == f)).length

/-- Outstanding requests of a function. -/
def State.tagOut (s : State) (f : Nat) : Nat := (s.nv.tags.filter (fun t => t.fn == f && t.quar.isNone)).length

/-- The causes of split mode that hold for a function (R94). -/
def State.splitMode (s : State) (f : Nat) : Bool :=
  (s.fn f).splitStart || s.rd Fd.HST_MODE_SPLIT_ALL == 1 || (s.fn f).splitRole.isSome || (s.fn f).splitCto.isSome

/-- From the latch point of a bar's last beat, no new read is issued while a drill mark stands (R404). -/
def State.drillQuiet (s : State) : Bool :=
  s.hub.drill.mark.isSome && s.time.beat % 250 == 249 && decide (6000 ≤ s.time.cycle)

/-- A function may issue a read (R79, R89, R90, R95, R102, R103, R404): it serves and responds, Bus Master Enable is set, no FLR is in
progress, its port has fewer requests outstanding than L, its tags are below its cap, at or above its reservation there is a free slot
in its port's pool, and in split mode it has no read outstanding. -/
def State.canRead (s : State) (f : Nat) : Bool :=
  let p := s.portOf f
  let use := s.tagUse f
  s.serving && !s.drillQuiet && s.fnUp f && (s.fn f).bme && (s.fn f).flrAt.isNone && decide (use < s.tagCap f) &&
    decide ((s.nv.tags.filter (fun t => t.port == p && t.quar.isNone)).length < s.tagLimit p) &&
    (!s.splitMode f || s.tagOut f == 0) &&
    (decide (use < s.tagResv f) ||
      decide (sumOf (fun g => if s.portOf g = p then (if g = f then use else max (s.tagUse g) (s.tagResv g)) else 0)
        (List.range 256) < s.tagLimit p))

/-- The lowest tag value of a port that is neither outstanding nor quarantined (R91: any free value may be taken). -/
def State.freeTag (s : State) (p : Nat) : Option Nat :=
  (tagValues (s.tagMode p)).find? (fun v => !(s.nv.tags.any (fun t => t.port == p && t.val == v)))

/-- N of R96 for the encoding of a function, after the substitution of encodings not listed. -/
def ctoBeats : Nat → Nat
  | 1 => 20
  | 2 => 2000
  | 5 => 10000
  | 6 => 37500
  | 9 => 150000
  | 10 => 625000
  | _ => 2500

/-- The encoding in effect after R96. -/
def ctoEnc (e : Nat) : Nat := if e = 1 ∨ e = 2 ∨ e = 5 ∨ e = 6 ∨ e = 9 ∨ e = 10 then e else 0

/-- The buffer that the byte at an offset of a transfer goes to, by the DMA descriptors of the command (R126). -/
def bufAt : List Desc → Nat → Option Nat
  | [], _ => none
  | d :: t, o =>
    let n := if d.len % 65536 = 0 then 65536 else d.len % 65536
    if o < n then some d.handle else bufAt t (o - n)

/-- Issue one read request of a function, into a buffer where a descriptor names one. -/
def State.issueRead (s : State) (f addr len : Nat) (why : Purpose) (buf : Option Nat := none) : Option State :=
  let p := s.portOf f
  if s.canRead f = false then none
  else match s.freeTag p with
    | none => none
    | some v =>
      let t : TagRec := ⟨p, v, f, why, len, s.time.beat, ctoBeats (ctoEnc (s.fn f).cfg.cto), false, false, none,
        buf.map (bufKey s.act)⟩
      some ((s.updNv (fun n => { n with tags := n.tags ++ [t] })).emit (.memRead p v f addr len))

/-- The length of the next read of a transfer (R92, R95): to the next multiple of the maximum read request size, 256 B
in split mode. -/
def State.cut (s : State) (f addr len : Nat) : Nat :=
  let m := if s.splitMode f then 256 else (s.fn f).cfg.mrrs
  min len (m - addr % m)

/-- Issue the pending reads of a context as far as its function may (list reads before data reads). -/
def State.issueCtx (s : State) (id : Nat) : Nat → State
  | 0 => s
  | fuel + 1 =>
    match s.ctx id with
    | none => s
    | some c =>
      match c.reads with
      | [] => s
      | (addr, len, isList) :: rest =>
        if isList = false ∧ 0 < c.listsLeft then s
        else
          let n := s.cut c.fn addr len
          match s.issueRead c.fn addr n (if isList then .list id else .data id)
              (if isList then none else bufAt c.xfer.descs (addr - c.xfer.addr)) with
          | none => s
          | some s =>
            let rest := if n < len then (addr + n, len - n, isList) :: rest else rest
            State.issueCtx (s.updCtx id (fun c => { c with reads := rest })) id fuel

/-- Issue what waits: entry reads of grants that have none outstanding are issued by the arbitration; here every
context's reads, oldest context first. -/
def State.issueAll (s : State) : State :=
  s.each (s.nv.ctxs.map (fun c => c.id)) (fun s id => s.issueCtx id 16384)

end Sys2Proof.Machine
end

