-- ==== Sys2Proof/Machine/Media.lean ====
section
/-! DEFINITION. The flash hierarchy and media accounting (chapter 07): geometry and flash addresses (R165, R196 to R198),
blocks, superblocks and stripes (R199 to R203, R268), retirement (R218 to R221), and capacity (R224). -/

namespace Sys2Proof.Machine

/-! ### Geometry and addresses -/

/-- Planes, bits per cell and tarts per program unit of media type `k` (R198). -/
def planesOf (k : Nat) : Nat := if k % 2 = 0 then 4 else 6
def bitsOf (k : Nat) : Nat := if k < 2 then 3 else 4
def unitTarts (k : Nat) : Nat := planesOf k * bitsOf k
def plBits (k : Nat) : Nat := if k % 2 = 0 then 2 else 3

def State.pgBits (s : State) (k : Nat) : Nat := s.rd Fd.MED_GEOM_PGBITS k
def State.ppb (s : State) (k : Nat) : Nat := s.rd Fd.MED_GEOM_PPB k
def State.bpp (s : State) (k : Nat) : Nat := s.rd Fd.MED_GEOM_BPP k

def State.mediaOf (s : State) (d : Nat) : Nat := (s.die d).media

/-- Program units of a die block. -/
def State.unitsOf (s : State) (k : Nat) : Nat := s.ppb k / bitsOf k

/-- A flash address from its parts (R165, R196). -/
def State.mkPpa (s : State) (d plane blk page : Nat) : Nat :=
  let k := s.mediaOf d
  d * 2 ^ 25 + blk * 2 ^ (s.pgBits k + plBits k) + plane * 2 ^ s.pgBits k + page

def ppaDie (p : Nat) : Nat := p / 2 ^ 25
def State.ppaPage (s : State) (p : Nat) : Nat := p % 2 ^ s.pgBits (s.mediaOf (ppaDie p))
def State.ppaPlane (s : State) (p : Nat) : Nat :=
  p / 2 ^ s.pgBits (s.mediaOf (ppaDie p)) % 2 ^ plBits (s.mediaOf (ppaDie p))
def State.ppaBlk (s : State) (p : Nat) : Nat :=
  p % 2 ^ 25 / 2 ^ (s.pgBits (s.mediaOf (ppaDie p)) + plBits (s.mediaOf (ppaDie p)))

/-- The lost value's PPA (R166). -/
def lostPpa : Nat := 0x7_FFFF_FFFF

/-- The blocks of a plane that the block field of media type `k` can address (R196). -/
def State.blkField (s : State) (k : Nat) : Nat := 2 ^ (25 - (s.pgBits k + plBits k))

/-- R196: a die whose block count or page count exceeds what its fields can address is not used. -/
def State.fits (s : State) (k : Nat) : Bool := decide (s.ppb k ≤ 2 ^ s.pgBits k) && decide (s.bpp k ≤ s.blkField k)

/-- The end of the blocks of a die that may be allocated: the all-ones block of the last die never is (R197, R229). -/
def State.lastBlk (s : State) (d : Nat) : Nat :=
  if d + 1 = s.variant.diesN then min (s.bpp (s.mediaOf d)) (s.blkField (s.mediaOf d) - 1) else s.bpp (s.mediaOf d)

/-- The slot and the media slice of a die (R24, R165). -/
def slotOf (d : Nat) : Nat := d / 64
def chanOf (d : Nat) : Nat := d / 32

/-- The block group of a block number in plane 0 (R261). -/
def State.groupOf (s : State) (d blk : Nat) : Nat := if s.bpp (s.mediaOf d) = 0 then 0 else 16 * blk / s.bpp (s.mediaOf d)

/-- The rate that ECC_GRPRATEd gives for a die and the block group of a block (R261). -/
def State.groupRate (s : State) (d blk : Nat) : Nat :=
  let g := s.groupOf d blk
  (s.reg .a Blk.ECC (0x4000 + 8 * d + 4 * (g / 8))).toNat / 2 ^ (4 * (g % 8)) % 8

/-- Bytes of a page of four code words at a rate (R260). -/
def rawPageBytes (rate : Nat) : Nat := 4 * (4480 + 64 * rate)

/-! ### Blocks -/

def blkKey (d plane blk : Nat) : Nat := (d * 8 + plane) * 2 ^ 15 + blk

def State.updMd (s : State) (f : Media → Media) : State := { s with md := f s.md }
def State.updTr (s : State) (f : Trans → Trans) : State := { s with tr := f s.tr }
def State.updLg (s : State) (f : Ledger → Ledger) : State := { s with lg := f s.lg }

def State.setDie (s : State) (d : Nat) (f : Die → Die) : State :=
  s.updMd (fun m => { m with dies := spSet (fun _ => .init) m.dies d (f (s.die d)) })

/-- The SLC die block in the place of block `n` of a die: the one that has replaced it, if one has (R216). -/
def State.slcAt (s : State) (d n : Nat) : Nat := spGet (fun k => k % 2 ^ 15) s.md.slcSub (d * 2 ^ 15 + n)

def State.setSlc (s : State) (d n b : Nat) : State :=
  s.updMd (fun m => { m with slcSub := spSet (fun k => k % 2 ^ 15) m.slcSub (d * 2 ^ 15 + n) b })

/-- The SLC die blocks of a die (R216) are its last SLCBLK ones; the first of them are the blocks of the flush reserve, the last is a key
block where the die holds one, and the metadata stream takes the others (DESIGN CHOICE, log entries 43, 44 and 149). -/
def State.flushBlk (s : State) (d i : Nat) : Nat := s.slcAt d (s.lastBlk d - max 1 (s.rd Fd.MED_RSVCFG_SLCBLK) + i)
def State.keyBlk (s : State) (d : Nat) : Nat := s.slcAt d (s.lastBlk d - 1)

def State.blk (s : State) (d plane blk : Nat) : Blk := spGet (fun _ => .init) s.md.blks (blkKey d plane blk)

/-- The block that the `n`-th metadata program of a die goes to: its metadata blocks in turn, without the retired ones. -/
def State.metaBlk (s : State) (d n : Nat) : Nat :=
  let all := (List.range (max 1 (s.rd Fd.MED_RSVCFG_SLCBLK - 1 - s.lg.flushPer))).map (fun i => s.slcAt d (s.lastBlk d - 2 - i))
  let good := all.filter (fun b => (s.blk d 0 b).st != .retired)
  good.getD (n % max 1 good.length) (all.getD 0 0)

def State.setBlk (s : State) (d plane blk : Nat) (f : Blk → Blk) : State :=
  s.updMd (fun m => { m with blks := spSet (fun _ => .init) m.blks (blkKey d plane blk) (f (s.blk d plane blk)) })

/-- Change every block of a die block, one in each plane. -/
def State.setDieBlk (s : State) (d : Nat) (blocks : List Nat) (f : Blk → Blk) : State :=
  s.each (blocks.zip (List.range blocks.length)) (fun s p => s.setBlk d p.2 p.1 f)

/-- The listed blocks of one plane of a die. -/
def State.planeBlks (s : State) (d plane : Nat) : List (Nat × Blk) :=
  (s.md.blks.filter (fun p => decide (p.1 / 2 ^ 15 = d * 8 + plane))).map (fun p => (p.1 % 2 ^ 15, p.2))

/-- The first block of a plane that may enter a superblock: block 0 of plane 0 holds the die record (R197). -/
def firstBlk (plane : Nat) : Nat := if plane = 0 then 1 else 0

/-- The end of the blocks of a plane that have been erased into use (R249): die block `e` of a die takes block `e` of each
plane, counted from the plane's first. The all-ones block of the last die is never used (R197, R229). -/
def State.blkEnd (s : State) (d plane : Nat) : Nat :=
  min ((s.die d).erased + firstBlk plane) (s.lastBlk d)

/-- Free blocks of one plane of a die. -/
def State.planeFree (s : State) (d plane : Nat) : Nat :=
  (s.blkEnd d plane - firstBlk plane) -
    ((s.planeBlks d plane).filter (fun p => decide (p.2.st ≠ .free) && decide (firstBlk plane ≤ p.1) &&
      decide (p.1 < s.blkEnd d plane))).length

/-- Free die blocks of a die: a die block takes one block of each plane (R198). -/
def State.freeBlocks (s : State) (d : Nat) : Nat :=
  ((minOf ((List.range (planesOf (s.mediaOf d))).map (fun p => s.planeFree d p))).getD 0)

/-- Die blocks of a die that are neither bad nor retired, erased into use or not. -/
def State.goodBlocks (s : State) (d : Nat) : Nat :=
  ((minOf ((List.range (planesOf (s.mediaOf d))).map (fun p =>
    (s.blkEnd d p - firstBlk p) - ((s.planeBlks d p).filter (fun q =>
      (decide (q.2.st = .bad) || decide (q.2.st = .retired) || decide (q.2.st = .half)) && decide (firstBlk p ≤ q.1) &&
        decide (q.1 < s.blkEnd d p))).length))).getD 0)

/-- The free block of a plane with the lowest erase count, the lowest number on a tie (R200). An unlisted block was never
erased since it came into use and has count 0. -/
def State.lowestFree (s : State) (d plane : Nat) : Option Nat :=
  let listed := s.planeBlks d plane
  let fresh := (List.range' (firstBlk plane) (listed.length + 1)).find?
    (fun b => decide (b < s.blkEnd d plane) && !(listed.any (fun p => p.1 == b)))
  match fresh with
  | some b => some b
  | none =>
    ((listed.filter (fun p => decide (p.2.st = .free) && decide (firstBlk plane ≤ p.1) && decide (p.1 < s.blkEnd d plane))).foldl
      (fun (a : Option (Nat × Nat)) p => match a with
        | none => some (p.2.erases, p.1)
        | some q => if p.2.erases < q.1 then some (p.2.erases, p.1) else some q) none).map (fun q => q.2)

/-- Free die blocks above the reserve of a die (R199, R200): the reserve is open to GC and metadata superblocks. -/
def State.freeAbove (s : State) (d : Nat) (reserve : Bool) : Nat :=
  s.freeBlocks d - (if reserve then 0 else s.rd Fd.MED_RSVCFG_DIERSV)

/-- Free die blocks of a media slice and all its die blocks, for MED_GCCFG (R207, R212). -/
def State.sliceFree (s : State) (m : Nat) : Nat := sumOf (fun d => s.freeBlocks d) (s.sliceDies m)
def State.sliceBlocks (s : State) (m : Nat) : Nat := sumOf (fun d => s.goodBlocks d) (s.sliceDies m)

/-! ### Superblocks -/

def State.sb (s : State) (id : Nat) : Option Sb := s.md.sbs.find? (fun x => x.id == id)

def State.updSb (s : State) (id : Nat) (f : Sb → Sb) : State :=
  s.updMd (fun m => { m with sbs := updWhere (fun x => x.id == id) f m.sbs })

/-- The member that holds the parity of a stripe (R268). -/
def parityMember (w stripe : Nat) : Nat := (w - 1) - stripe % w

/-- A member that lacks counts for its stripes (R203); one retired by a patrol read does not (R280). -/
def Member.lacks (m : Member) : Bool := m.lack == 1 || m.lack == 2

def Sb.lacking (x : Sb) : Bool := x.members.any (fun m => m.lack != 0)
def Sb.missing (x : Sb) : Nat := (x.members.filter (fun m => m.lacks)).length

/-- The member of a superblock on a die. -/
def Sb.memberOn (x : Sb) (d : Nat) : Option Nat :=
  (List.range x.members.length).find? (fun i => (x.members.getD i ⟨0, [], 0⟩).die == d)

/-- The superblock and member of a flash address. The pages of a retired block stay those of its member until the
superblock is erased: they are read, rebuilt and relocated as such (R211, R219). -/
def State.sbOfPpa (s : State) (p : Nat) : Option (Sb × Nat) :=
  let x := match (s.blk (ppaDie p) (s.ppaPlane p) (s.ppaBlk p)).st with
    | .used id => s.sb id
    | .retired => s.md.sbs.find? (fun x => x.members.any (fun m => m.die == ppaDie p &&
        m.blocks.getD (s.ppaPlane p) 0 == s.ppaBlk p && !m.blocks.isEmpty))
    | _ => none
  match x with
  | some x => (x.memberOn (ppaDie p)).map (fun i => (x, i))
  | none => none

/-- The flash address of tart `i` of program unit `u` of a member: the unit's tarts in order of plane, then page
(DESIGN CHOICE, log entry 24). -/
def State.unitPpa (s : State) (m : Member) (u i : Nat) : Nat :=
  let b := bitsOf (s.mediaOf m.die)
  s.mkPpa m.die (i / b) (m.blocks.getD (i / b) 0) (b * u + i % b)

/-- Whether the map entry of a logical tart. -/
def State.mapEntry (s : State) (ltn : Nat) : MapEntry := spGet (fun _ => .init) s.tr.map ltn

/-- A tart at a flash address is valid when its map entry names that address (R207). -/
def State.validAt (s : State) (ppa : Nat) (ltn : Nat) : Bool :=
  let e := s.mapEntry ltn
  !e.dealloc && e.ppa == ppa

/-- The valid tarts of a superblock with their addresses. -/
def State.validTarts (s : State) (x : Sb) : List (Nat × Nat) :=
  (s.md.flash.filter (fun p => match s.sbOfPpa p.1, p.2.ltn with
    | some q, some ltn => q.1.id == x.id && s.validAt p.1 ltn
    | _, _ => false)).map (fun p => (p.2.ltn.getD 0, p.1))

/-- Streams of SLC blocks (R202). -/
def Stream.slc : Stream → Bool
  | .metadata => true
  | .flush => true
  | _ => false

/-- GC and metadata superblocks may take the reserve (R200). -/
def Stream.takesReserve : Stream → Bool
  | .gc _ => true
  | .metadata => true
  | .flush => true
  | _ => false

/-- The dies that offer a block to a new superblock of a media type: in each slot in ascending order, the die with the
most free die blocks above its reserve (R200). A slot in planned removal offers none (R250). -/
def State.offers (s : State) (k : Nat) (reserve : Bool) : List Nat :=
  (List.range s.variant.slotsN).filterMap (fun n =>
    if (s.slots.getD n .init).st ≠ .inUse then none
    else
      ((s.dieNums.filter (fun d => slotOf d == n && s.mediaOf d == k)).foldl
        (fun (a : Option (Nat × Nat)) d =>
          let f := s.freeAbove d reserve
          if f = 0 then a else match a with
            | none => some (f, d)
            | some q => if q.1 < f then some (f, d) else some q) none).map (fun q => q.2))

/-- Form a superblock of a stream on a media type (R199, R200): its members take the lowest-count free block of each
plane; fewer than 3 slots form none. -/
def State.formSb (s : State) (st : Stream) (k : Nat) : Option State :=
  let offers := s.offers k st.takesReserve
  let w := min (s.rd Fd.MED_SBCFG_WIDTH) offers.length
  if w < 3 then none
  else
    let members := (offers.take w).map (fun d =>
      ({ die := d, blocks := (List.range (planesOf k)).map (fun p => (s.lowestFree d p).getD 0), lack := 0 } : Member))
    let id := s.md.nextSb
    let x : Sb := { id := id, stream := st, media := k, members := members, st := .open_, stripe := 0, issued := [],
                    done := [], parity := false, stamp := s.md.stamp, closedBar := 0, cls := 0, failed := false }
    let s := s.updMd (fun m => { m with sbs := m.sbs ++ [x], nextSb := id + 1, stamp := m.stamp + 1 })
    some (s.each members (fun s m => s.setDieBlk m.die m.blocks (fun b => { b with
      st := .used id, reads := 0, since := s.time.beat / 21600000000, rate := s.groupRate m.die (m.blocks.getD 0 0) })))

/-- The media types a stream may use, the first that can form a superblock (DESIGN CHOICE, log entry 25: type 0 first). -/
def State.formStream (s : State) (st : Stream) : Option State :=
  (List.range 4).findSome? (fun k => if s.rd Fd.MED_GEOM_VALID k = 1 then s.formSb st k else none)

/-! ### Retirement and loss of members -/

/-- Mark a member of every superblock that uses a die block, or every member on a die, as lacking. -/
def State.markLack (s : State) (p : Sb → Member → Bool) (why : Nat) : State :=
  s.updMd (fun m => { m with sbs := m.sbs.map (fun x =>
    { x with members := x.members.map (fun b => if p x b then { b with lack := if b.lack = 0 ∨ b.lack = 3 then why else b.lack } else b) }) })

/-- The superblocks that lack a member, as MED_GCSTAT.LACKING counts them. -/
def State.lackingSbs (s : State) : List Sb := s.md.sbs.filter (fun x => x.lacking)

/-- The record of a retirement (R218): unit 0 block, 1 die, 2 channel; number; block in plane 0; trigger by its place in
its row of the table. -/
def State.retireEvent (s : State) (unit n blk trig : Nat) : State := s.aev 0 0x0504 [unit, n, blk, trig]

/-- A page lies on a member that its stripes lack. -/
def State.onLacking (s : State) (ppa : Nat) : Bool :=
  match s.sbOfPpa ppa with
  | some (x, i) => (x.members.getD i ⟨0, [], 0⟩).lacks
  | none => false

/-- A valid tart on a member that lacks, in a superblock that lacks another, is lost (R221). -/
def State.noteLoss (s : State) : State :=
  if s.md.sbs.any (fun x => decide (2 ≤ x.missing) && (s.validTarts x).any (fun t => s.onLacking t.2)) then
    (s.wr Fd.MED_HEALTH_LOST 1).updMd (fun m => { m with lostTart := true })
  else s

/-- Write the die record of a die (R197, R218). -/
def State.setRec (s : State) (d : Nat) (f : DieRec → DieRec) : State :=
  s.updMd (fun m => { m with recs := spSet (fun _ => .init) m.recs d (f (spGet (fun _ => .init) m.recs d)) })

/-- The dies of a channel whose die record can be written: those in use. -/
def State.writable (s : State) (c : Nat) : List Nat :=
  (s.md.dies.filter (fun p => chanOf p.1 == c && p.2.st == 1)).map (fun p => p.1)

/-- Retire a channel whose dies are all retired, in every writable die record on it (R218). -/
def State.retireChannelIfAll (s : State) (c : Nat) : State :=
  let dies := s.md.dies.filter (fun p => chanOf p.1 == c && p.2.st != 0)
  if dies.isEmpty = false ∧ dies.all (fun p => p.2.st == 2) = true ∧ s.rd Fd.MED_CHSTAT_RETIRED c = 0 then
    let s := s.each (s.writable c) (fun s d => s.setRec d (fun r => { r with chans := addOnce c r.chans }))
    ((s.wr Fd.MED_CHSTAT_RETIRED 1 c).count Fd.MED_RETSTAT_CHANNELS).retireEvent 2 c 0 1
  else s

/-- Retire a die (R218, R220): no slots from the next beat, superblocks with a member on it LACKING. -/
def State.retireDie (s : State) (d trig : Nat) : State :=
  if (s.die d).st = 2 then s
  else
    let s := s.each (addOnce d (s.writable (chanOf d))) (fun s e => s.setRec e (fun r => { r with dies := addOnce d r.dies }))
    let s := (s.setDie d (fun x => { x with st := 2 })).count Fd.MED_RETSTAT_DIES
    let s := (s.markLack (fun _ b => b.die == d) 1).retireEvent 1 d 0 trig
    (s.retireChannelIfAll (chanOf d)).noteLoss

/-- Retired blocks of a die, counted by die block (in plane 0). -/
def State.retiredBlks (s : State) (d : Nat) : Nat := ((s.planeBlks d 0).filter (fun p => decide (p.2.st = .retired))).length

/-- A die whose retired blocks exceed DIEPCT % of its blocks is retired (R218). -/
def State.retireDieIfWorn (s : State) (d : Nat) : State :=
  if s.rd Fd.MED_RETCFG_DIEPCT * s.bpp (s.mediaOf d) < 100 * s.retiredBlks d then s.retireDie d 1 else s

/-- Retire a die block (R218): recorded, its superblock LACKING. Triggers: 1 program failure, 2 erase failure, 3 erased
margin, 4 reconstruction. -/
def State.retireBlock (s : State) (d : Nat) (blocks : List Nat) (trig : Nat) : State :=
  let was := (s.blk d 0 (blocks.getD 0 0)).st
  if was = .retired then s
  else
    let s := s.setDieBlk d blocks (fun b => { b with st := .retired })
    let s := s.setRec d (fun r => { r with
      grown := r.grown ++ (blocks.zip (List.range blocks.length)).map (fun p => (p.2, p.1)) })
    let s := s.markLack (fun _ b => b.die == d && b.blocks == blocks) 1
    (s.retireEvent 0 d (blocks.getD 0 0) trig).retireDieIfWorn d

/-! ### Capacity (R224) -/

/-- U: tarts of present, unretired die blocks in TLC or QLC mode, less the reserve and the SLC blocks. -/
def State.usable (s : State) : Nat :=
  sumOf (fun d => (s.goodBlocks d - s.rd Fd.MED_RSVCFG_DIERSV - s.rd Fd.MED_RSVCFG_SLCBLK) *
    (s.unitsOf (s.mediaOf d) * unitTarts (s.mediaOf d))) s.dieNums

/-- F = U − V. -/
def State.freePool (s : State) : Nat := s.usable - s.md.valid

/-- E: the exported logical tarts (MAP_TARTS). -/
def State.exported (s : State) : Nat := s.rd Fd.MAP_TARTS_LO_COUNT + s.rd Fd.MAP_TARTS_HI_COUNT * 2 ^ 32

/-- A tart is valid while its map entry has DEALLOC 0 or it has a COMMITTED or PROGRAMMING version (R224). -/
def State.tartValid (s : State) (ltn : Nat) : Bool :=
  !(s.mapEntry ltn).dealloc || s.tr.vers.any (fun v => v.ltn == ltn && !v.units.isEmpty && (v.st == .committed || v.st == .programming))

/-- Available Spare in percent (R227). -/
def State.spare (s : State) : Nat :=
  let u := s.usable
  let e := s.exported
  let u0 := s.md.u0
  if e < u0 then min 100 (100 * (u - e) / (u0 - e)) else if u ≤ e then 0 else 100

end Sys2Proof.Machine
end

