-- ==== Sys2Proof/Machine/Flags.lean ====
section
/-! DEFINITION. The status flags of the device that are computed from its state: the critical warning byte of the health page
(R227), its temperature bit (R309) and its hold-up bit (R331), and the asynchronous events that follow them (R228). -/

namespace Sys2Proof.Machine

/-- A temperature threshold in force, over (0) or under (1) of sensor `i` (0 composite), in K (R309). -/
def State.tempThr (s : State) (under i : Nat) : Nat :=
  spGet (fun k => if k / 16 % 2 = 0 then 368 else 253) (s.fn 0).feats (0x400 + under * 16 + i)

/-- A sensor's reading in K, for a valid sensor (R309). -/
def State.sensorK (s : State) (i : Nat) : Int := nth s.rg.temps i / 16 + 273

/-- The composite temperature in 1/16 °C: the highest valid sensor (R303). -/
def State.composite (s : State) : Int :=
  ((List.range 8).filter (fun i => sensorValid s.variant (i + 1))).foldl (fun a i => max a (nth s.rg.temps i)) (nth s.rg.temps 0)

def State.tempWarn (s : State) : Bool :=
  let c := s.composite / 16 + 273
  decide ((s.tempThr 0 0 : Int) < c) || decide (c < (s.tempThr 1 0 : Int)) ||
  (List.range 8).any (fun i => sensorValid s.variant (i + 1) &&
    (decide ((s.tempThr 0 (i + 1) : Int) < s.sensorK i) || decide (s.sensorK i < (s.tempThr 1 (i + 1) : Int))))

/-- The hold-up is unready beyond the charging time after power-on reset (R331), bit 4. -/
def State.holdWarn (s : State) : Bool :=
  s.rd Fd.LDG_STAT_HOLDRDY == 0 && decide (s.rd Fd.LDG_HOLDCFG_CHARGE * 100 ≤ s.bar)

/-- The critical warning byte of page 02h. -/
def State.critWarning (s : State) : Nat :=
  (if s.spare < s.rd Fd.MED_HEALTH_THRESH ∨ s.rd Fd.MED_SEAL_STATE = 1 then 1 else 0) + (if s.tempWarn then 2 else 0) +
    (if s.md.lostTart then 4 else 0) + (if s.holdWarn then 16 else 0) + (if s.rd Fd.LDG_PMRSTAT_HSTS ≠ 0 then 32 else 0)

/-- Post the events of critical warning bits 0 to 2 that have set since they were last looked at (R228), once the device is in
service. -/
def State.postCrit (s : State) : State :=
  if s.hub.linkOn = false then s else
  let now := s.critWarning
  let newly := fun i => bit now i && !bit s.nv.crit i
  let s := s.updNv (fun n => { n with crit := now })
  let s := if newly 0 then s.postAenAll ⟨1, 2, 2⟩ true else s
  let s := if newly 1 then s.postAenAll ⟨1, 1, 2⟩ true else s
  if newly 2 then s.postAenAll ⟨1, 0, 2⟩ true else s

end Sys2Proof.Machine
end

