-- ==== Sys2Proof/Machine/Envelope.lean ====
section
/-! DEFINITION. The power and thermal envelope (R302 to R310), with the commands ENVELOPE_UPDATE and THERMAL_FENCE. -/

namespace Sys2Proof.Machine

/-- Package power limit of a power state in mW (R302). -/
def powerLimit : Nat → Nat
  | 0 => 48000
  | 1 => 36000
  | 2 => 25000
  | _ => 12000

/-- P_state (R302): a lower limit applies while the power state is being entered, a higher one from the end of entry. -/
def State.pState (s : State) : Nat :=
  let now := powerLimit (s.rd Fd.QUE_PWR_PS)
  if s.rd Fd.QUE_PWR_ENTRY = 1 then min now (powerLimit (s.rd Fd.QUE_PWR_TARGET)) else now

/-- During the power-loss sequence the envelope withholds nothing (R302). -/
def State.withholds (s : State) : Bool := s.lg.loss.isNone

/-- The sensors deliver their readings (R303, R309, R510): RGL_TEMPn, the hour's sums, and the minutes with the composite
in its warning and critical ranges. -/
def State.takeTemps (s : State) (temps : List Int) : State :=
  let valid := fun i => sensorValid s.variant (i + 1)
  let s := s.updRg (fun r => { r with temps := (List.range 8).map (fun i => if valid i then nth temps i else 0) })
  let s := s.each (List.range 8) (fun s i =>
    if valid i then (s.wr Fd.RGL_TEMP_T (toBits 12 (nth temps i)) i).wr Fd.RGL_TEMP_VALID 1 i else s)
  let comp := s.composite / 16 + 273
  s.updEvt (fun e => { e with
    acc := (List.range 8).map (fun i =>
      let a := e.acc.getD i ⟨0, 0, 0, 0⟩
      if valid i then
        let t := nth temps i / 16
        ⟨if a.count = 0 then t else max a.max t, if a.count = 0 then t else min a.min t, a.sum + t, a.count + 1⟩
      else a),
    warmBeats := e.warmBeats + (if 368 ≤ comp ∧ comp < 378 then 1 else 0),
    hotBeats := e.hotBeats + (if 378 ≤ comp then 1 else 0),
    warmAll := e.warmAll + (if 368 ≤ comp ∧ comp < 378 then 1 else 0),
    hotAll := e.hotAll + (if 378 ≤ comp then 1 else 0) })

/-- The operating range of a supply in mV (R527); VHOLD's in the units of its field, mV. -/
def supplyRange : Nat → Nat × Nat
  | 0 => (728, 772)
  | 1 => (728, 772)
  | 2 => (776, 824)
  | 3 => (970, 1030)
  | 4 => (1067, 1133)
  | 5 => (1140, 1260)
  | 6 => (1425, 1575)
  | 7 => (1710, 1890)
  | _ => (10800, 13200)

def supplyOk (k mv : Nat) : Bool := decide ((supplyRange k).1 ≤ mv) && decide (mv ≤ (supplyRange k).2)

/-- The supply monitors of the hub deliver voltage and power of each rail (R527), and the package power P_m. -/
def State.takePower (s : State) (pm : Nat) (rails : List (Nat × Nat)) : State :=
  let s := s.each (rails.zip (List.range 9)) (fun s p =>
    let ok := supplyOk p.2 p.1.1
    let r := s.rd Fd.PWR_STAT_INRANGE
    let s := (s.wr Fd.PWR_MEAS_VOLT p.1.1 p.2).wr Fd.PWR_MEAS_POWER (if p.2 = 8 then 0 else p.1.2) p.2
    let s := s.wr Fd.PWR_STAT_INRANGE (if ok = bit r p.2 then r else if ok then r + 2 ^ p.2 else r - 2 ^ p.2)
    if p.2 = 8 ∧ ok = true then { s with lg := { s.lg with vholdOk := true } } else s)
  let s := s.wr Fd.PWR_PKG_PM (min 65535 pm)
  s.wr Fd.PWR_PKG_PEAK (max (s.rd Fd.PWR_PKG_PEAK) (min 65535 pm))

/-- The effective limit and I_T of the thermal loop (R303). -/
def State.thermal (s : State) : Int × Int :=
  let p : Int := (s.pState : Nat)
  let t := s.composite
  let e : Int := (s.rd Fd.RGL_THCFG_TARGET : Nat) - t
  let i := clampInt 0 p ((s.rd Fd.RGL_ENVOBS_ITH : Nat) + ((s.rd Fd.RGL_THCFG_KIT : Nat) * e).tdiv 16)
  let pth := clampInt 0 p (i + ((s.rd Fd.RGL_THCFG_KPT : Nat) * e).tdiv 16)
  if 1680 ≤ t then (min 12000 i, min 12000 pth) else (i, pth)

/-- The observer's I_P (R304): F is the energy charged to the operations issued in the previous beat, over 4. -/
def State.observer (s : State) (pm : Nat) : Int :=
  let i : Int := (s.rd Fd.RGL_ENVOBS_IP : Nat)
  clampInt 0 65535 (i + ((s.rd Fd.RGL_ENVCFG_KIP : Nat) *
    ((pm : Int) - (s.rg.energyPrev / 4 : Nat) - i)).tdiv 64)

/-- The allowance A_m of a media slice (R304). -/
def State.allowance (s : State) (plim ip : Int) (m : Nat) : Nat :=
  let n := s.dieNums.length
  if n = 0 then 0
  else (4 * max 0 (plim - (s.rd Fd.RGL_ENVCFG_MARGIN : Nat) - ip) * ((s.sliceDies m).length : Nat) / (n : Int)).toNat

/-- The tier 1 and 2 candidates issued without being withheld, in 1,024ths (R308). -/
def allowedFrac (l : List (Nat × Nat)) : Nat :=
  let seen := sumOf (fun p => p.2) l
  if seen = 0 then 1024 else 1024 * sumOf (fun p => p.1) l / seen

/-- One update of the envelope (R303, R304, R308). -/
def State.envelopeUpdate (s : State) (pm : Nat) (temps : List Int) (rails : List (Nat × Nat)) : State :=
  let s := s.takePower pm rails
  if s.active.isNone then s
  else
    let s := s.takeTemps temps
    let th := s.thermal
    let ip := s.observer pm
    let plim := min (s.pState : Int) th.2
    let s := s.each (List.range s.variant.slices) (fun s m =>
      let a := s.allowance plim ip m
      let b := min (spGet (fun _ => 0) s.rg.bucket m + a) (s.rd Fd.RGL_ENVCFG_BURST * a)
      s.updRg (fun r => { r with bucket := spSet (fun _ => 0) r.bucket m b }))
    let s := ((s.wr Fd.RGL_ENVSTAT_PM (min 65535 pm)).wr Fd.RGL_ENVSTAT_PLIM plim.toNat).wr Fd.RGL_ENVOBS_IP ip.toNat
    let s := s.wr Fd.RGL_ENVOBS_ITH th.1.toNat
    let s := (s.wr Fd.RGL_THRSTAT_ALLOWED (allowedFrac s.rg.tier)).wr Fd.RGL_THRSTAT_THERMAL
      (if th.2 < (s.pState : Int) then 1 else 0)
    let s := s.wr Fd.RGL_THRSTAT_CRIT (if 1680 ≤ s.composite then 1 else 0)
    let s := s.wr Fd.RGL_THRSTAT_CLAIMS (sumOf (fun p => 2 ^ p.1) s.rg.claims)
    let s := s.updRg (fun r => { r with hot := if 1840 ≤ s.composite then r.hot + 1 else 0 })
    s.postCrit

/-- ENVELOPE_UPDATE (R302 to R304, R308, R309). -/
def execEnvelopeUpdate (pm : Nat) (temps : List Int) (rails : List (Nat × Nat)) (s : State) :
    Host.Outcome State Fault Refusal := .next (s.envelopeUpdate pm temps rails)

/-- THERMAL_FENCE (R303, R412, R413 cause 5): a sensor at 115 °C or more at three boundaries in a row. -/
def execThermalFence (s : State) : Host.Outcome State Fault Refusal :=
  .next (if 3 ≤ s.rg.hot then s.fence 5 none else s)

end Sys2Proof.Machine
end

