-- ==== Sys2Proof/Machine/Ledger.lean ====
section
/-! DEFINITION. The ledger (chapter 11): journal records and the ring (R315 to R324), map writes with their MAPDELTA
records (R169, R191), deferred write errors (R138 to R141), the hold-up (R331, R332), and the commands RING_CARRY and
LEDGER_PATROL. -/

namespace Sys2Proof.Machine

/-! ### Records -/

def boolNat (b : Bool) : Nat := if b then 1 else 0

/-- The 40 bits of a map entry (R164). -/
def MapEntry.bits (e : MapEntry) : Nat := e.ppa + e.gen * 2 ^ 35 + boolNat e.poison * 2 ^ 38 + boolNat e.dealloc * 2 ^ 39

/-- TYPE of a record (R315). -/
def JBody.typ : JBody → Nat
  | .commit .. => 1
  | .mapDelta .. => 2
  | .eraseIntent .. => 3
  | .eraseDone .. => 4
  | .blkTab .. => 5
  | .flushDone .. => 6
  | .release .. => 7
  | .pad .. => 8

/-- Four 16-bit numbers in a word, the first lowest. -/
def pack16 (l : List Nat) : Nat := sumOf (fun i => l.getD i 0 % 2 ^ 16 * 2 ^ (16 * i)) (List.range 4)

/-- The body of an erase record (R318). -/
def eraseWords (die planes count : Nat) (blocks : List Nat) : List Nat :=
  [die + planes * 2 ^ 10 + count * 2 ^ 32, pack16 blocks, pack16 (blocks.drop 4)]

/-- The body words of a record (R316 to R319). -/
def JBody.words : JBody → List Nat
  | .commit nsid fn kind last slba nlb oseq tarts =>
    [nsid + fn * 2 ^ 32 + kind * 2 ^ 40 + boolNat last * 2 ^ 42, slba, nlb + tarts.length * 2 ^ 32, oseq] ++
      tarts.flatMap (fun t => [t.1, pack16 t.2])
  | .mapDelta ltn cause e mseq cseq => [ltn + cause * 2 ^ 35, e.bits, mseq, cseq]
  | .eraseIntent die planes count blocks => eraseWords die planes count blocks
  | .eraseDone die planes count blocks => eraseWords die planes count blocks
  | .blkTab die plane blk w => [die + plane * 2 ^ 10 + blk * 2 ^ 13, w.toNat]
  | .flushDone units epoch complete notShut beat =>
    [units + epoch * 2 ^ 17 + boolNat complete * 2 ^ 33 + boolNat notShut * 2 ^ 34, beat]
  | .release epoch => [epoch]
  | .pad len => List.replicate len 0

/-- The header word of a record (R315). -/
def JRec.header (r : JRec) : Word64 :=
  BitVec.ofNat 64 (r.body.typ + r.body.words.length * 2 ^ 4 + boolNat r.carried * 2 ^ 12 + 5 * 2 ^ 13 + r.jseq * 2 ^ 16)

/-! ### The ring -/

/-- The journal ring (R313, R342): its first ledger byte address, and its words. -/
def ringBase : Nat := 0x4_0000
def Variant.ringWords : Variant → Nat
  | .fk9612 => 0xE_0000
  | _ => 0x40_0000

/-- The tail: the ring offset of the oldest live record; the head when none is live. -/
def State.ringTail (s : State) : Nat := match s.lg.live with
  | r :: _ => r.off
  | [] => s.lg.head

/-- Words of the ring from the tail to the head. -/
def State.ringUsed (s : State) : Nat :=
  (s.lg.head + s.variant.ringWords - s.ringTail) % s.variant.ringWords

/-- Write a word of the ring by its offset. -/
def State.ringWrite (s : State) (off : Nat) (ws : List Nat) : State :=
  s.ledgerWrite (ringBase + 8 * off) (ws.map (fun n => BitVec.ofNat 64 n))

/-- Begin a record at the head with the next JSEQ: its body words are written, its header is not (R315). A PAD record
fills the space before the end of the ring. `none` when the ring cannot take it (R324). `mk` makes the body from the
JSEQ. -/
def State.beginRec (s : State) (mk : Nat → JBody) (carried : Bool) : Option (Nat × State) :=
  let size := s.variant.ringWords
  let need := 1 + (mk s.lg.jseq).words.length
  let padW := if size < s.lg.head + need then size - s.lg.head else 0
  if size ≤ s.ringUsed + padW + need then none
  else
    let s := if 0 < padW then
        s.updLg (fun l => { l with
          live := l.live ++ [⟨l.jseq, false, .pad (padW - 1), l.head, false⟩], jseq := l.jseq + 1, head := 0 })
      else s
    let j := s.lg.jseq
    let b := mk j
    let s := s.ringWrite (s.lg.head + 1) b.words
    some (j, s.updLg (fun l => { l with
      live := l.live ++ [⟨j, carried, b, l.head, false⟩], jseq := j + 1, head := (l.head + need) % size }))

/-- A record's header may be written: every earlier header has been acknowledged (R315). -/
def State.headerReady (s : State) (j : Nat) : Bool :=
  s.lg.live.any (fun r => r.jseq == j && !r.valid) &&
    s.lg.live.all (fun r => decide (j ≤ r.jseq) || r.valid || r.body.typ == 8)

/-- Write the header of record `j`, with those of the PAD records before it; a PAD record is live no longer. -/
def State.endRec (s : State) (j : Nat) : State :=
  let s := s.each (s.lg.live.filter (fun r => decide (r.jseq ≤ j) && !r.valid)) (fun s r =>
    s.ledgerWrite (ringBase + 8 * r.off) [r.header])
  let s := s.updLg (fun l => { l with
    live := (l.live.filter (fun r => !(decide (r.jseq ≤ j) && r.body.typ == 8))).map
      (fun r => if r.jseq ≤ j then { r with valid := true } else r) })
  (s.wr Fd.LDG_HEAD_LO_JSEQ (j % 2 ^ 32)).wr Fd.LDG_HEAD_HI_JSEQ (j / 2 ^ 32)

/-- Write a whole record at once when its turn has come; `none` when the ring has no room or earlier headers wait. -/
def State.writeRec (s : State) (b : JBody) : Option State :=
  match s.beginRec (fun _ => b) false with
  | some (j, t) => if t.headerReady j then some (t.endRec j) else none
  | none => none

/-- The anchor slots (R322), in both control copies; their place in a copy is the model's (DESIGN CHOICE, log
entry 26): the last 64 KiB. -/
def State.writeAnchor (s : State) (off jseq : Nat) : State :=
  let w := [BitVec.ofNat 64 off, BitVec.ofNat 64 (jseq * 2 ^ 16)]
  let a := 0x1_0000 + 16 * s.lg.anchor
  ((s.ledgerWrite a w).ledgerWrite (0x2_0000 + a) w).updLg (fun l => { l with anchor := (l.anchor + 1) % 4096 })

/-- Apply a change to the live records, and write an anchor when the tail has crossed a 64 KiB boundary (R322). -/
def State.setLive (s : State) (f : List JRec → List JRec) : State :=
  let before := s.ringTail / 8192
  let s := s.updLg (fun l => { l with live := f l.live })
  if s.ringTail / 8192 = before then s
  else match s.lg.live with
    | r :: _ => s.writeAnchor r.off r.jseq
    | [] => s.writeAnchor s.lg.head s.lg.jseq

/-- The tarts of a COMMIT satisfied by a MAPDELTA of `ltn` with CSEQ `cseq` (R338) leave its list; a COMMIT with none left
is live no longer. -/
def JRec.satisfy (ltn cseq : Nat) (r : JRec) : JRec :=
  match r.body with
  | .commit nsid fn kind last slba nlb oseq tarts =>
    if oseq ≤ cseq then { r with body := .commit nsid fn kind last slba nlb oseq (tarts.filter (fun t => t.1 != ltn)) } else r
  | _ => r

def JRec.emptyCommit (r : JRec) : Bool :=
  match r.body with
  | .commit _ _ _ _ _ _ _ [] => r.valid
  | _ => false

def State.satisfy (s : State) (ltn cseq : Nat) : State :=
  s.setLive (fun l => (l.map (fun r => r.satisfy ltn cseq)).filter (fun r => !r.emptyCommit))

/-! ### Map writes (R169, R191, R324) -/

/-- The entry of a logical tart as the map writes queued for it leave it. -/
def State.viewEntry (s : State) (ltn : Nat) : MapEntry :=
  match s.tr.mapq.reverse.find? (fun w => w.ltn == ltn) with
  | some w => w.entry
  | none => s.mapEntry ltn

/-- Lookups and writes of a map segment wait while it is rebuilt after an uncorrectable read (R365). -/
def State.segHeld (s : State) (ltn : Nat) : Bool := s.dr.rebuild.contains (ltn / 3200)

def State.setMap (s : State) (ltn : Nat) (e : MapEntry) : State :=
  s.updTr (fun t => { t with map := spSet (fun _ => .init) t.map ltn e })

/-- MAPDELTA records whose delta page is not confirmed (R324). -/
def State.deltasLive (s : State) : Nat := (s.lg.live.filter (fun r => r.body.typ == 2)).length

/-- LDG_RINGSTAT.LIMIT (R324, R342). -/
def Variant.deltaLimit : Variant → Nat
  | .fk9612 => 64
  | _ => 256

/-- Write the MAPDELTA records of the map writes that wait for one, in order, while the ring and LIMIT allow (R191,
R324). -/
def State.pumpDeltas (s : State) : State :=
  (s.tr.mapq.filter (fun w => !w.written)).foldl (fun s w =>
    if s.tr.mapq.any (fun v => !v.written && decide (v.mseq < w.mseq)) then s
    else if s.variant.deltaLimit * 1024 ≤ s.deltasLive then s
    else match s.beginRec (fun j => .mapDelta w.ltn w.cause w.entry w.mseq (if w.cause = 4 ∨ w.cause = 5 then j else w.cseq)) false with
      | some (j, s) => s.updTr (fun t => { t with
          mapq := updWhere (fun v => v.mseq == w.mseq) (fun v => { v with written := true, jseq := j }) t.mapq })
      | none => s) s

/-- Issue a map write (R169, R191): GEN advances by 1 mod 8 over the writes issued before; a relocation whose entry no longer holds the
source PPA is dropped. -/
def State.issueMap (s : State) (cause ltn ppa : Nat) (poison dealloc : Bool) (src : Option Nat) (cseq : Nat)
    (vids : List Nat) : State :=
  let v := s.viewEntry ltn
  if cause = 2 ∧ (v.dealloc = true ∨ some v.ppa ≠ src) then s
  else
    let e : MapEntry := ⟨ppa, (v.gen + 1) % 8, if cause = 2 then poison || v.poison else poison, dealloc⟩
    (s.updTr (fun t => { t with
      mapq := t.mapq ++ [⟨t.mseq, cause, ltn, e, src, cseq, vids, false, 0⟩], mseq := t.mseq + 1 })).pumpDeltas

/-- A tart's sectors are lost (R138, R341): POISON is set in its entry, or the lost value is written where it has no location. -/
def State.poisonTart (s : State) (ltn : Nat) : State :=
  let v := s.viewEntry ltn
  s.issueMap 5 ltn (if v.dealloc then lostPpa else v.ppa) true false none 0 []

/-! ### Namespaces and logical tarts (R163) -/


/-- LBAs per tart. -/
def Ns.perTart (n : Ns) : Nat := if n.lbaf < 2 then 32 else 4
/-- Sectors of 512 B per LBA. -/
def Ns.secsPer (n : Ns) : Nat := if n.lbaf < 2 then 1 else 8
/-- Metadata bytes per LBA (R116). -/
def Ns.metaBytes (n : Ns) : Nat := if n.lbaf = 1 ∨ n.lbaf = 3 then 8 else if n.lbaf = 4 then 64 else 0

/-- The logical tart of tart index `k` of a namespace. -/
def Ns.ltn (n : Ns) (k : Nat) : Nat := n.granules.getD (k / 65536) 0 * 65536 + k % 65536

/-- The namespace that a logical tart belongs to, with the tart's index in it. -/
def State.nsOfLtn (s : State) (ltn : Nat) : Option (Ns × Nat) :=
  s.tr.ns.findSome? (fun n => match n.granules.findIdx? (fun g => g == ltn / 65536) with
    | some i => some (n, i * 65536 + ltn % 65536)
    | none => none)

/-! ### Deferred write errors (R138 to R141) -/

/-- The words of page C1h (R140). -/
def C1h.words (p : C1h) : List Word64 :=
  [BitVec.ofNat 64 (p.entries.length + boolNat p.overflow * 2 ^ 16), BitVec.ofNat 64 p.change] ++
    p.entries.flatMap (fun e => [BitVec.ofNat 64 (e.nsid + e.slba % 2 ^ 32 * 2 ^ 32),
      BitVec.ofNat 64 (e.slba / 2 ^ 32 + e.nlb * 2 ^ 32), BitVec.ofNat 64 e.cause, BitVec.ofNat 64 e.beat])

/-- The ledger address of page C1h of a function (R313, R342). -/
def c1hAddr (v : Variant) (f : Nat) : Nat :=
  (match v with | .fk9612 => 0xB4_0000 | _ => 0x244_0000) + 0x4000 * f

/-- Change page C1h of a function and keep it in the ledger. -/
def State.setC1h (s : State) (f : Nat) (p : C1h) : State :=
  (s.updFn f (fun x => { x with c1h := p })).ledgerWrite (c1hAddr s.variant f) p.words

/-- Add a range to page C1h of a function and mark its report pending (R138 to R141). -/
def State.addC1h (s : State) (f : Nat) (e : C1hEntry) : State :=
  let p := (s.fn f).c1h
  let first := p.entries.isEmpty && !p.overflow
  let pend := addOnce e.nsid p.pending
  let s := if p.entries.length < 256 then
      s.setC1h f { p with entries := p.entries ++ [e], change := p.change + 1, pending := pend }
    else s.setC1h f { p with overflow := true, change := p.change + boolNat (!p.overflow), pending := pend }
  if first then s.postAen f ⟨7, 0xC1, 0xC1⟩ true else s

/-- A deferred write error (R138): the tarts are poisoned and the range enters the page of the function that wrote it. -/
def State.deferError (s : State) (f nsid slba nlb cause : Nat) (ltns : List Nat) : State :=
  ((s.count Fd.QUE_CNT_DEFER_COUNT).each ltns (fun s l => s.poisonTart l)).addC1h f ⟨nsid, slba, nlb, cause, s.time.beat⟩

/-- A tart lost at start-up enters the page of every function its namespace is attached to (R193, R341). -/
def State.lostTart (s : State) (ltn cause : Nat) : State :=
  let s := s.poisonTart ltn
  match s.nsOfLtn ltn with
  | some (n, k) => (s.count Fd.QUE_CNT_DEFER_COUNT).each n.fns (fun s f =>
      s.addC1h f ⟨n.id, k * n.perTart, n.perTart, cause, s.time.beat⟩)
  | none => s

/-! ### The hold-up (R331, R332) -/

/-- The channels in use: those of dies with slots. -/
def State.channelsUsed (s : State) : List Nat := (s.dieNums.map chanOf).foldl (fun l c => addOnce c l) []

/-- Unit positions of a die block of the flush reserve: four to each SLC page (R330). -/
def State.flushCap (s : State) (d : Nat) : Nat := 4 * planesOf (s.mediaOf d) * s.unitsOf (s.mediaOf d)

/-- Firmware sizes the flush reserve at start-up (R550): 131,072 positions and one die block more on every die, from the SLC die blocks
(DESIGN CHOICE, log entry 44: alike on every die, with two SLC blocks left to the other streams). -/
def State.sizeFlush (s : State) : State :=
  let cap := sumOf (fun d => s.flushCap d) s.dieNums
  let n := if cap = 0 then 1 else 1 + ceilDiv 131072 cap
  s.updLg (fun l => { l with flushPer := max 1 (min n (s.rd Fd.MED_RSVCFG_SLCBLK - 2)) })

/-- The die blocks of the flush reserve: those of the dies in use that are not retired. -/
def State.flushBlks (s : State) : List (Nat × Nat) :=
  s.dieNums.flatMap (fun d => ((List.range s.lg.flushPer).map (fun i => (d, s.flushBlk d i))).filter (fun p =>
    (s.blk d 0 p.2).st != .retired))

def flushKey (p : Nat × Nat) : Nat := p.1 * 2 ^ 15 + p.2

/-- Positions of a die block of the flush reserve that have been given out since its erase. -/
def State.flushUsed (s : State) (p : Nat × Nat) : Nat := spGet (fun _ => 0) s.lg.flushUsed (flushKey p)

def State.setFlushUsed (s : State) (p : Nat × Nat) (n : Nat) : State :=
  s.updLg (fun l => { l with flushUsed := spSet (fun _ => 0) l.flushUsed (flushKey p) n })

/-- The ledger address of the directory word of write-buffer unit `u` (R330, R342). -/
def dirAddr (v : Variant) (u : Nat) : Nat := (match v with | .fk9612 => 0xF4_0000 | _ => 0x284_0000) + 8 * u

/-- A directory word counts when VALID is 1 and its EPOCH is the current epoch (R330). -/
def State.dirValid (s : State) (u : Nat) : Bool :=
  let w := (s.ledgerWord (dirAddr s.variant u)).toNat
  bit w 63 && w / 2 ^ 37 % 2 ^ 16 == s.rd Fd.LDG_STAT_EPOCH

/-- The position that a directory word names: PPA of the SLC page and the quarter. -/
def State.dirPos (s : State) (u : Nat) : Nat × Nat :=
  let w := (s.ledgerWord (dirAddr s.variant u)).toNat
  (w % 2 ^ 35, w / 2 ^ 35 % 4)

/-- The unit has been flushed since the last start: a directory word that recovery found names a copy of before it (R335, R339). -/
def State.unitFlushed (s : State) (u : Nat) : Bool := s.dirValid u && !s.lg.flushOld.contains u

/-- The die blocks that valid directory words of the current epoch name. -/
def State.flushNamed (s : State) : List Nat :=
  let lo := dirAddr s.variant 0 / 8
  s.lg.words.filterMap (fun p =>
    if lo ≤ p.1 ∧ p.1 < lo + 65536 ∧ s.dirValid (p.1 - lo) = true then
      some (flushKey (ppaDie (s.dirPos (p.1 - lo)).1, s.ppaBlk (s.dirPos (p.1 - lo)).1))
    else none)

/-- Erased unit positions outside the blocks that hold a named one (R331). -/
def State.flushErased (s : State) : Nat :=
  let named := s.flushNamed
  sumOf (fun p => if named.contains (flushKey p) then 0 else s.flushCap p.1 - s.flushUsed p) s.flushBlks

/-- The hold-up is ready (R331). -/
def State.holdReady (s : State) : Bool := s.lg.holdok && s.lg.vholdOk && decide (65536 ≤ s.flushErased)

/-- The flush budget B (R332). -/
def State.flushBudget (s : State) : Nat :=
  let c := s.channelsUsed
  let q := (minOf (c.map (fun x => quantaOf (s.rd Fd.FCH_CHSTAT_RATE x)))).getD 0
  let r := if s.variant.twin then 10 else 0
  let slc := s.rd Fd.LDG_HOLDCFG_SLCPROG
  let xfer := if c.isEmpty then 0 else ceilDiv 268435456 (c.length * q * 512)
  let prog := (s.dieNums.map (fun d => s.rd Fd.FCH_TIMA_PROG (s.mediaOf d) + 3)).foldl max 0
  max prog (1 + xfer + slc + 2 + r)

def State.setBudget (s : State) : State := s.wr Fd.LDG_HOLDSTAT_BUDGET (min 65535 s.flushBudget)

/-- LDG_STAT.MODE: protected commit mode (R331). -/
def State.protectedMode (s : State) : Bool := s.rd Fd.LDG_STAT_MODE == 1

def State.writeDir (s : State) (u ppa quarter : Nat) : State :=
  (s.ledgerWrite (dirAddr s.variant u)
    [BitVec.ofNat 64 (ppa + quarter * 2 ^ 35 + s.rd Fd.LDG_STAT_EPOCH * 2 ^ 37 + 2 ^ 63)]).updLg (fun l => { l with
      flushOld := l.flushOld.filter (fun x => x != u) })

/-- Units that a new version takes: a directory word of their former contents is written invalid (DESIGN CHOICE, log entry 172). -/
def State.dropDirs (s : State) (us : List Nat) : State :=
  s.each (us.filter (fun u => s.dirValid u)) (fun s u =>
    (s.ledgerWrite (dirAddr s.variant u) [0]).updLg (fun l => { l with flushOld := l.flushOld.filter (fun x => x != u) }))

/-! ### Carrying and patrol -/

/-- Carry the oldest live record to the head (R323): a new JSEQ, CARRIED set; a COMMIT keeps its OSEQ and lists only its
tarts not yet satisfied, a MAPDELTA its MSEQ and CSEQ. -/
def State.carryOne (s : State) : State :=
  match s.lg.live with
  | r :: _ =>
    if r.valid then
      match s.beginRec (fun _ => r.body) true with
      | some (j, s) =>
        if s.headerReady j then
          let s := (s.endRec j).count Fd.LDG_CNT_CARRY_COUNT
          let s := s.updTr (fun t => { t with mapq := updWhere (fun w => w.jseq == r.jseq) (fun w => { w with jseq := j }) t.mapq })
          s.setLive (fun l => l.filter (fun x => x.jseq != r.jseq))
        else s
      | none => s
    else s
  | [] => s

/-- The ring is more than CARRYPCT % full (R323). -/
def State.ringFull (s : State) : Bool :=
  decide (s.rd Fd.LDG_CFG_CARRYPCT * s.variant.ringWords < 100 * s.ringUsed)

/-- Carry live records at the tail, oldest first, until the ring is no more than CARRYPCT % full. -/
def State.carry (s : State) : Nat → State
  | 0 => s
  | n + 1 => if s.ringFull ∧ s.lg.live.all (fun r => r.valid) = true then State.carry s.carryOne n else s

/-- RING_CARRY (R322, R323). -/
def execRingCarry (s : State) : Host.Outcome State Fault Refusal := .next (s.carry s.lg.live.length)

/-- An uncorrectable word was found at a ledger address (R314, R325, R327): counted and recorded; one in the PMR sets
HSTS. -/
def State.ledgerBad (s : State) (addr : Nat) : State :=
  let s := (s.count Fd.LDG_CNT_UNCORR_COUNT).aev 0 0x0A01 []
  if s.variant.pmr = true ∧ 0x28C_0000 ≤ addr ∧ addr < 0x390_0000 then s.wr Fd.LDG_PMRSTAT_HSTS 3 else s

/-- LEDGER_PATROL (R325): `res` 0 the word passes its check, 1 it was corrected and is rewritten, 2 it is
uncorrectable. -/
def execLedgerPatrol (addr res : Nat) (s : State) : Host.Outcome State Fault Refusal :=
  .next (if s.withdrawn then s else match res with
    | 0 => s
    | 1 => s.count Fd.LDG_CNT_CORR_COUNT
    | _ => s.ledgerBad addr)

end Sys2Proof.Machine
end

