-- ==== Sys2Proof/Machine/Tenants.lean ====
section
/-! DEFINITION. Tenant guarantees (chapter 05): credits from floors (R148, R149), admission (R150), the degradation factor
(R153, R154), latency misses (R151) and page C2h (R155, R156), with the command BAR_LATCH_POINT (R57, R60 to R62). -/

namespace Sys2Proof.Machine

/-! ### Demand -/

def noSet : TenSet := ⟨0, 0, 0, 0, 0⟩

/-- The settings of tenant `t` last admitted (R150, R155). -/
def State.setOf (s : State) (t : Nat) : TenSet := spGet (fun _ => noSet) s.sched.admitted t

/-- The settings of tenant `t` that the live plan carries (R155). -/
def State.shownSet (s : State) (t : Nat) : TenSet := spGet (fun _ => noSet) s.sched.carried t

/-- Bytes of one host program of media type `k` (media cost table). -/
def programBytes (k : Nat) : Nat := unitTarts k * 16384

/-- The media types of the dies with slots in slice `m`. -/
def State.sliceTypes (s : State) (m : Nat) : List Nat := (s.sliceDies m).foldl (fun l d => addOnce (s.mediaOf d) l) []

/-- The largest TR, the largest TP and the smallest P among media types (R148); `cost` gives TR and TP of a type. -/
def mixedCost (cost : Nat → Nat × Nat) (types : List Nat) : Nat × Nat × Nat :=
  (types.foldl (fun a k => max a (cost k).1) 0, types.foldl (fun a k => max a (cost k).2) 0,
    (minOf (types.map programBytes)).getD 196608)

/-- TR and TP of media type `k` as last admitted (R148, R161). -/
def State.costOf (s : State) (k : Nat) : Nat × Nat := s.sched.costs.getD k (0, 0)

/-- The read credits of R148. -/
def readCredits (x : TenSet) (skew n : Nat) : Nat :=
  ceilDiv ((x.riops * 16384 + x.read * 1000000) * skew) (16384 * 64000 * n)

/-- The program credits of R148, with `p` bytes in a host program. -/
def programCredits (x : TenSet) (skew n p : Nat) : Nat := ceilDiv (x.write * 1000000 * skew) (p * 64000 * n)

/-- The slices that have a present, unretired die (R153). -/
def State.presentSlices (s : State) : List Nat :=
  (List.range s.variant.slices).filter (fun m => !(s.sliceDies m).isEmpty)

/-- X of R149 for a slice, as a fraction: the largest L (W − 2) / W over the stripes with a member on it. -/
def State.lackFactor (s : State) (m : Nat) : Nat × Nat :=
  (s.md.sbs.filter (fun x => decide (0 < x.missing) && x.members.any (fun b => b.die / 256 == m))).foldl
    (fun a x =>
      let w := x.members.length
      let n := x.missing * (w - 2)
      if a.1 * w < n * a.2 then (n, w) else a) (0, 1)

/-- Read and program credits of a tenant in slice `m`. -/
def State.creditsOf (s : State) (t m : Nat) : Nat × Nat :=
  let n := s.presentSlices.length
  let skew := s.rd Fd.TEN_CFG_SKEW
  let p := (mixedCost s.costOf (s.sliceTypes m)).2.2
  (readCredits (s.setOf t) skew n, programCredits (s.setOf t) skew n p)

/-- The die-time demand of a slice (R149) as a fraction. -/
def State.demand (s : State) (m : Nat) : Nat × Nat :=
  let c := mixedCost s.costOf (s.sliceTypes m)
  let x := s.lackFactor m
  (sumOf (fun p =>
    let rp := s.creditsOf p.1 m
    rp.1 * c.1 * (x.1 + x.2) + rp.2 * c.2.1 * x.2) s.sched.admitted, x.2)

/-- SCH_HOSTCAPm as R153 uses it: scaled by RGL_THRSTAT.ALLOWED while that is below 1,024 (R308). -/
def State.allowedCap (s : State) (m : Nat) : Nat := s.hostCap s.act m * min 1024 (s.rd Fd.RGL_THRSTAT_ALLOWED) / 1024

/-- The factor D and the slice that sets it (R153): 1,024 and slice 0 when no slice limits it; `none` when no slice has a
die. -/
def State.factor (s : State) : Option (Nat × Nat) :=
  let ms := s.presentSlices
  if ms.isEmpty then none
  else
    let r := ms.foldl (fun (a : Nat × Nat) m =>
      let d := s.demand m
      if d.1 = 0 then a
      else
        let f := 1024 * s.allowedCap m * d.2 / d.1
        if f < a.1 then (f, m) else a) (1024, 0)
    some (max 1 r.1, r.2)

/-- The factor published. -/
def State.published (s : State) : Nat := s.rd Fd.TEN_DEGRADE_FACTOR

/-- Firmware writes every tenant's scaled budget in every slice and commits the plan (R148, R153). A slice without a die takes
budgets of 0. -/
def State.commitFactor (s : State) (d slice : Nat) : State :=
  let h := s.act
  let s := s.each ((List.range s.variant.slices).flatMap (fun m => (List.range 256).map (fun t => (m, t)))) (fun s p =>
    let rp := s.creditsOf p.2 p.1
    s.wr Fd.SCH_TBUDGET_CREDITS (if (s.sliceDies p.1).isEmpty then 0 else min 65535 ((rp.1 + rp.2) * d / 1024))
      (256 * p.1 + p.2) h)
  (s.wr Fd.SCH_PLAN_CTRL_COMMIT 1 0 h).updSched (fun c => { c with dPend := some (d, slice, c.admitted) })

/-- The pending budgets are not those of R148 under a factor: a floor, a cost or S has changed, or no plan has set them yet. -/
def State.staleBudgets (s : State) (d : Nat) : Bool :=
  s.presentSlices.any (fun m => (List.range 256).any (fun t =>
    let rp := s.creditsOf t m
    s.pendBudget s.act m t != min 65535 ((rp.1 + rp.2) * d / 1024)))

/-- The bar since which the computed D has stood above the published one (R153). -/
def State.noteRise (s : State) (d : Nat) : State :=
  s.updSched (fun c => { c with riseFrom := if s.published < d then (match c.riseFrom with
      | some (d', b) => if d' = d then some (d, b) else some (d, s.bar)
      | none => some (d, s.bar)) else none })

/-- A rise may be published (R153): no sooner than 1,000 bars after the last change of D, the new capacity having held for them. -/
def State.riseDue (s : State) : Bool :=
  decide (s.sched.dAt / 250 + 1000 ≤ s.bar) && s.sched.riseFrom.any (fun r => decide (r.2 + 1000 ≤ s.bar))

/-- The computation of D at a bar boundary (R148, R153): a fall is committed at once, a rise when it is due, and new budgets under the
factor that stands. A plan already committed is waited for. -/
def State.computeFactor (s : State) : State :=
  match s.factor with
  | none => s
  | some (d, m) =>
    let s := s.noteRise d
    let d := if s.published < d ∧ s.riseDue = false then s.published else d
    if (d ≠ s.published ∨ s.staleBudgets d = true ∨ s.sched.carried ≠ s.sched.admitted) ∧ s.rd Fd.SCH_PLAN_CTRL_COMMIT 0 s.act = 0 then
      s.commitFactor d m
    else s

/-- A published ceiling in beats (R154). -/
def pubCeil (beats d : Nat) : Nat := min 65535 (ceilDiv (beats * 1024) d)

/-- A plan with new budgets latches: the settings it scales are those it carries, and their published ceilings follow (R154, R155). -/
def State.carrySets (s : State) (d : Nat) (sets : Sparse TenSet) : State :=
  (s.updSched (fun c => { c with dPend := none, carried := sets })).each (List.range 256) (fun s t =>
    s.wr Fd.TEN_CEIL_PUB (if (s.shownSet t).ceil = 0 then 0 else pubCeil (s.shownSet t).ceil d) t)

/-- Publication of D when the plan that carries it latches (R154, R156). The beat recorded is that of the latch point (DESIGN CHOICE,
log entry 152). -/
def State.publishFactor (s : State) (d slice : Nat) : State :=
  let s := s.updSched (fun c => { c with
    dPub := d, dSlice := slice, dAt := s.time.beat, dChange := c.dChange + 1, riseFrom := none })
  let s := ((s.wr Fd.TEN_DEGRADE_FACTOR d).wr Fd.TEN_DEGRADE_ACTIVE (if d < 1024 then 1 else 0)).wr
    Fd.TEN_DEGRADE_SLICE slice
  ((s.count Fd.TEN_DEGRADE_CHANGES).aev 0 0x0302 [d, slice, s.time.beat]).postAenAll ⟨7, 0xC2, 0xC2⟩ true

/-! ### Admission (R150) -/

/-- The settings that an image gives a tenant. -/
def imageSet (e : List (Nat × Nat × Nat)) (t : Nat) : TenSet :=
  ⟨imageFd e Fd.TEN_RIOPS_IOPS t, imageFd e Fd.TEN_BW_READ t, imageFd e Fd.TEN_BW_WRITE t, imageFd e Fd.TEN_CEIL_BEATS t,
   imageFd e Fd.TEN_QUOTA_UNITS t⟩

/-- The media types that an image describes: those whose geometry it marks valid, all four when it marks none. -/
def imageTypes (e : List (Nat × Nat × Nat)) : List Nat :=
  let l := (List.range 4).filter (fun k => imageFd e Fd.MED_GEOM_VALID k == 1)
  if l.isEmpty then List.range 4 else l

/-- SCH_HOSTCAPm of the full population under the patterns of an image. -/
def imageCap (v : Variant) (e : List (Nat × Nat × Nat)) (m : Nat) : Nat :=
  if m < v.slices then
    let hosts := (List.range 16).map (fun r => rowHosts (fun i => BitVec.ofNat 32 (imageReg e Blk.SCH (Reg.SCH_PATROW.at i))) r)
    sumOf (fun d => hosts.getD (imageFd e Fd.SCH_DIEPAT_ROW (256 * m + d)) 0) (List.range 256)
  else 0

/-- The host slice's buffer capacity in units of 256 B (R377, R383). -/
def hostBufferUnits : Nat := 2 * (4096 + 2048 * 16 + 512 * 64) + 128 * 256

/-- The admission tests (R150): the failed test with its slice and tenant, `none` when every test passes. Where several fail, the first
row of the table is reported, with the lowest slice or tenant (DESIGN CHOICE, log entry 151). -/
def admission (v : Variant) (e : List (Nat × Nat × Nat)) : Option (Nat × Nat × Nat) :=
  let sets := ((List.range 256).map (fun t => (t, imageSet e t))).filter (fun p => decide (p.2 ≠ noSet))
  let skew := imageFd e Fd.TEN_CFG_SKEW 0
  let c := mixedCost (fun k => (imageFd e Fd.TEN_COST_READ k, imageFd e Fd.TEN_COST_PROG k)) (imageTypes e)
  let demand := sumOf (fun p =>
    readCredits p.2 skew v.slices * c.1 + programCredits p.2 skew v.slices c.2.2 * c.2.1) sets
  let fk12 := v == .fk9612
  match (List.range v.slices).find? (fun m => decide (imageCap v e m < demand)) with
  | some m => some (1, m, 0)
  | none =>
    if (if fk12 then 12000000 else 15000000) * 16384 < sumOf (fun p => p.2.riops * 16384 + p.2.read * 1000000) sets then
      some (2, 0, 0)
    else if (if fk12 then 56000 else 112000) < sumOf (fun p => p.2.read + 3 * p.2.write) sets then some (3, 0, 0)
    else match sets.find? (fun p => decide (p.2.ceil ≠ 0) && (decide (p.2.ceil < 25) || decide (p.2.ceil < 4 * c.1))) with
      | some p => some (4, 0, p.1)
      | none => if hostBufferUnits < sumOf (fun p => p.2.quota) sets then some (5, 0, 0) else none

/-- A refused set of settings is reported in TEN_ADMIT and recorded (R150). -/
def State.refuseAdmission (s : State) (r : Nat × Nat × Nat) (cfgver : Nat) : State :=
  let s := (((s.wr Fd.TEN_ADMIT_TEST r.1).wr Fd.TEN_ADMIT_SLICE r.2.1).wr Fd.TEN_ADMIT_TENANT r.2.2).wr Fd.TEN_ADMIT_VALID 1
  s.aev 0 0x0301 [r.1, r.2.1, r.2.2, cfgver]

/-- The settings of an image are admitted (R150, R383): the next plan that firmware commits carries them (R155, R161), and each tenant's
write-buffer reservation is set to two bars of its write floor (R172). -/
def State.admitSets (s : State) (e : List (Nat × Nat × Nat)) : State :=
  let sets := ((List.range 256).map (fun t => (t, imageSet e t))).filter (fun p => decide (p.2 ≠ noSet))
  let costs := (List.range 4).map (fun k => (imageFd e Fd.TEN_COST_READ k, imageFd e Fd.TEN_COST_PROG k))
  let s := s.updSched (fun c => { c with admitted := sets, costs := costs })
  s.each (List.range 256) (fun s t =>
    s.wr Fd.MAP_WBTEN_RES (min 4095 (ceilDiv ((s.setOf t).write * 2000) 65536)) t)



/-! ### The latch point -/

/-- The latch point of a bar (R57, R60 to R62): in beat 249, a committed plan is tested and latched or rejected; else
refills are scaled. -/
def State.latchPoint (s : State) : State :=
  match s.active with
  | none => s
  | some h =>
    if s.time.beat % 250 ≠ 249 then s
    else
      let s := { s with time := { s.time with cycle := 6000 } }
      if s.rd Fd.SCH_PLAN_CTRL_COMMIT 0 h = 1 then
        match s.planFault h with
        | some (reason, slice) =>
          ((s.rejectPlan h reason slice).updSched (fun c => { c with dPend := none })).refill h
        | none =>
          let s := s.latchPlan h
          match s.sched.dPend with
          | some (d, m, sets) =>
            let s := s.carrySets d sets
            if d = s.published then s else s.publishFactor d m
          | none => s
      else s.refill h

/-- BAR_LATCH_POINT (R57, R60 to R62, R154). -/
def execBarLatchPoint (s : State) : Host.Outcome State Fault Refusal := .next s.latchPoint

end Sys2Proof.Machine
end

