-- ==== Sys2Proof/Machine/WritePath.lean ====
section
/-! DEFINITION. The write path (R28 to R32, R171 to R175, R315): command contexts, parts, versions of the write buffer and
their units, the commit record and the commit point; with the commands COMMIT_RECORD_START, COMMIT_HEADER_WRITE and
COMMIT_POINT. -/

namespace Sys2Proof.Machine

/-! ### Contexts -/

/-- A command begins execution when its entry has been fetched, the device serves and no activation holds it back
(R134): the grant of its entry is taken. -/
def State.takeGrant (s : State) (hd : Hdr) : Option (Grant × State) :=
  if s.serving = false ∨ 2 ≤ s.rd Fd.QUE_ACT_STATE then none
  else match s.nv.grants.find? (fun g => g.fn == hd.fn && g.sq == hd.sq && g.cid == hd.cid && g.here) with
    | some g => some (g, s.updNv (fun n => { n with grants := n.grants.erase g }))
    | none => none

/-- A queue of the urgent class of a function under weighted round robin (R122). -/
def State.urgentSq (s : State) (f q : Nat) : Bool :=
  (s.fn f).wrr && (match s.sq f q with | some x => x.prio == 0 && decide (q ≠ 0) | none => false)

def noXfer : Xfer := ⟨0, none, none, false, 0, [], false, false⟩

/-- A new context for a fetched command (R119). -/
def State.openCtx (s : State) (g : Grant) (hd : Hdr) (cmd : Cmd) (nsid slba nlb : Nat) (x : Xfer) : Nat × State :=
  let id := s.nv.nextCtx
  let c : Ctx :=
    { id := id, fn := hd.fn, sq := hd.sq, idx := g.idx, mark := g.mark, cid := hd.cid, cmd := cmd, nsid := nsid, slba := slba, nlb := nlb,
      urgent := s.urgentSq hd.fn hd.sq, beat := g.beat, begun := true, xfer := x, listsLeft := x.listLen,
      lostData := false, reads := [], bytesLeft := 0, data := [], partsLeft := 0, batches := 0, lookups := [],
      results := [], hold := false, refs := [], slices := [], beyond := false, wrote := false, sent := false, status := none }
  (id, s.updNv (fun n => { n with ctxs := n.ctxs ++ [c], nextCtx := id + 1 }))

/-! ### Write-buffer units (R171, R172) -/

/-- Units that versions hold. -/
def Ver.held (v : Ver) : List Nat := v.units.filter (fun u => u != 0xFFFF)

def State.unitsHeld (s : State) : List Nat := s.tr.vers.flatMap (fun v => v.held)

/-- Units a tenant holds. -/
def State.tenUnits (s : State) (t : Nat) : Nat :=
  sumOf (fun v => v.held.length) (s.tr.vers.filter (fun v => v.tenant == t))

/-- A tenant may take `n` more units (R172, by the rules of R119). -/
def State.mayTake (s : State) (t n : Nat) : Bool :=
  let use := s.tenUnits t + n
  let resv := fun u => 16 * s.rd Fd.MAP_WBTEN_RES u
  decide (use ≤ 16 * s.rd Fd.MAP_WBTEN_CAP t) &&
    (decide (use ≤ resv t) ||
      decide (sumOf (fun u => if u = t then use else max (s.tenUnits u) (resv u)) (List.range 256) ≤ 65536))

/-- The lowest `n` free units (any free unit may be taken). -/
def State.freeUnits (s : State) (n : Nat) : List Nat :=
  let held := s.unitsHeld
  ((List.range (min 65536 (held.length + n))).filter (fun u => !held.contains u)).take n

/-- The quarters of a tart that its sectors touch. -/
def quarters (secs : List Nat) : List Nat := (List.range 4).filter (fun q => secs.any (fun i => i / 8 == q))

/-! ### Reads no longer needed -/

/-- Drop the reads that waited for a slot, and the climbs with the reads that serve them, of what asked for them. -/
def State.dropReads (s : State) (mine : Op → Bool) : State :=
  let gone := (s.md.climbs.filter (fun c => mine c.op)).map (fun c => c.op.id)
  let gone := gone ++ (s.md.climbs.filter (fun c => match c.op.why with | .recon k _ => gone.contains k | _ => false)).map
    (fun c => c.op.id)
  let serves := fun (o : Op) => match o.why with | .rung k _ => gone.contains k | .recon k _ => gone.contains k | _ => false
  s.updMd (fun m => { m with
    ops := m.ops.filter (fun o => !((mine o || serves o) && (o.st == .wait || o.st == .chosen)))
    climbs := m.climbs.filter (fun c => !gone.contains c.op.id) })

/-! ### Versions and parts -/

/-- A sector whose data has not arrived. -/
def emptySector : Sector := ⟨0, 0, .never⟩

/-- The metadata of sector `i` of a deallocated block (R168): zeros, and with protection information, which the first 8 bytes of the
metadata carry (R116, R259), guard 0000h, application tag FFFFh and reference tag FFFF_FFFFh. -/
def Ns.zeroMd (n : Ns) (i : Nat) : Word64 := if n.pi = 0 ∨ i % n.secsPer ≠ 0 then 0 else 0xFFFF_FFFF_FFFF_0000

/-- Sector `i` of a logical tart as a deallocated block holds it (R168). -/
def State.zeroSec (s : State) (ltn i : Nat) : Sector :=
  ⟨0, match s.nsOfLtn ltn with | some (n, _) => n.zeroMd i | none => 0, .data (ltn * 32 + i)⟩

/-- Where sector `k` of a command of `nlb` LBAs lies in the buffer: its data, and its metadata where the format has some for it, in
the LBA where that is extended, else after the data (R116; the place after the data holds for a buffer in the CMB, DESIGN CHOICE,
log entry 143). -/
def Ns.bufOff (n : Ns) (nlb k : Nat) : Nat × Option Nat :=
  let lba := k / n.secsPer
  let j := k % n.secsPer
  let mb := n.metaBytes
  let stride := n.lbaBytes + (if n.ext then mb else 0)
  (lba * stride + 512 * j,
    if 8 * j < mb then some ((if n.ext then lba * stride + n.lbaBytes else nlb * n.lbaBytes + lba * mb) + 8 * j) else none)

/-- Write bytes into the CMB (R118): a line written whole is poisoned no longer (R363, R364). -/
def State.cmbPut (s : State) (a : Nat) (data : List Byte) : State :=
  s.updDr (fun d => { d with
    cmb := spSetRun (fun _ => 0) d.cmb a data
    poisoned := d.poisoned.filter (fun l => !(decide (a ≤ l * 64) && decide (l * 64 + 64 ≤ a + data.length))) })

/-- Read bytes of the CMB. -/
def State.cmbGet (s : State) (a n : Nat) : List Byte := (List.range n).map (fun i => s.cmbByte (a + i))

/-- The number whose bytes these are, the first the lowest, and the bytes of a number. -/
def bytesNat (l : List Byte) : Nat := l.foldr (fun b n => b.toNat + 256 * n) 0
def natBytes (n len : Nat) : List Byte := (List.range len).map (fun i => BitVec.ofNat 8 (n / 2 ^ (8 * i)))

/-- Put sector `k` of a command's read data into its buffer in the CMB (R118): the lines of a sector with the poison mark are
poisoned (R277). -/
def State.cmbSector (s : State) (base : Nat) (n : Ns) (nlb k : Nat) (x : Sector) : State :=
  let p := n.bufOff nlb k
  let s := s.cmbPut (base + p.1) (natBytes x.data.toNat 512)
  let s := match p.2 with | some m => s.cmbPut (base + m) (natBytes x.md.toNat 8) | none => s
  if x.tag = .poison then s.updDr (fun d => { d with poisoned := (linesOf (base + p.1) 512).foldl (fun l k => addOnce k l) d.poisoned })
  else s

/-- Sector `k` of a command's write data in its buffer in the CMB. -/
def State.cmbSecOf (s : State) (base : Nat) (n : Ns) (nlb k lsn : Nat) : Sector :=
  let p := n.bufOff nlb k
  ⟨BitVec.ofNat 4096 (bytesNat (s.cmbGet (base + p.1) 512)),
    match p.2 with | some m => BitVec.ofNat 64 (bytesNat (s.cmbGet (base + m) 8)) | none => 0,
    if (linesOf (base + p.1) 512).any (fun l => s.dr.poisoned.contains l) then .poison else .data lsn⟩

/-- The tarts of an LBA range with the sectors of each that it covers (R163, R316). -/
def Ns.tarts (n : Ns) (slba nlb : Nat) : List (Nat × List Nat) :=
  let b := n.perTart
  if nlb = 0 then []
  else (List.range' (slba / b) ((slba + nlb - 1) / b - slba / b + 1)).map (fun k =>
    let lo := max slba (k * b)
    let hi := min (slba + nlb) ((k + 1) * b)
    (n.ltn k, List.range' ((lo - k * b) * n.secsPer) ((hi - lo) * n.secsPer)))

/-- The parts of a range (R31, R32, R125): one up to 1 MiB, else split at the aligned 1 MiB boundaries. -/
def Ns.parts (n : Ns) (slba nlb : Nat) : List (Nat × Nat) :=
  let m := 1048576 / n.lbaBytes
  if nlb ≤ m then [(slba, nlb)]
  else (List.range' (slba / m) ((slba + nlb - 1) / m - slba / m + 1)).map (fun q =>
    let lo := max slba (q * m)
    (lo, min (slba + nlb) ((q + 1) * m) - lo))

def State.part (s : State) (id : Nat) : Option Part := s.tr.parts.find? (fun p => p.id == id)

def State.updPart (s : State) (id : Nat) (f : Part → Part) : State :=
  s.updTr (fun t => { t with parts := updWhere (fun p => p.id == id) f t.parts })

def State.ver (s : State) (id : Nat) : Option Ver := s.tr.vers.find? (fun v => v.id == id)

def State.updVer (s : State) (id : Nat) (f : Ver → Ver) : State :=
  s.updTr (fun t => { t with vers := updWhere (fun v => v.id == id) f t.vers })

/-- The tarts of a part that need a version: every tart of a write, the tarts covered in part otherwise (R174). -/
def State.partVers (s : State) (p : Part) : List (Nat × List Nat) :=
  match s.ns p.nsid with
  | some n => (n.tarts p.slba p.nlb).filter (fun t => p.kind == 0 || decide (t.2.length < 32))
  | none => []

/-- Versions that the index of R171 holds; a version without units stands in the map's order only. -/
def State.indexed (s : State) : Nat := (s.tr.vers.filter (fun v => !v.units.isEmpty)).length

/-- The command of a part is urgent (R122). -/
def State.partUrgent (s : State) (p : Part) : Bool := match p.ctx.bind (fun c => s.ctx c) with
  | some c => c.urgent
  | none => false

/-- Allocate the versions of a part (R171, R172): `none` when its units, or entries of the index, are not to be had. -/
def State.allocPart (s : State) (p : Part) : Option State :=
  let ts := s.partVers p
  let need := sumOf (fun t => (quarters t.2).length) ts
  let ten := s.tenantOf p.fn
  let units := s.freeUnits need
  if ts.isEmpty then some (s.updPart p.id (fun p => { p with st := .filling }))
  else if s.mayTake ten need = false ∨ units.length < need ∨ 65536 < s.indexed + ts.length then none
  else
    let r := ts.foldl (fun (a : State × List Nat) t =>
      let qs := quarters t.2
      let mine := a.2.take qs.length
      let id := a.1.tr.nextId
      let v : Ver :=
        { id := id, ctx := p.ctx, post := none, owes := none, carries := p.ctx.toList, urgent := s.partUrgent p, fn := p.fn,
          tenant := ten, nsid := p.nsid, ltn := t.1,
          secs := t.2.map (fun i => (i, if p.kind = 0 then emptySector else s.zeroSec t.1 i)),
          units := (List.range 4).map (fun q => match qs.findIdx? (fun x => x == q) with
            | some i => mine.getD i 0xFFFF | none => 0xFFFF),
          prim := false, mirror := false, primBad := false, mirrorBad := false, primTag := false, mirrorTag := false, pins := 0,
          oseq := 0, deps := [p.fn], st := .filling }
      ((a.1.updTr (fun t => { t with vers := t.vers ++ [v], nextId := id + 1 })).updPart p.id
        (fun p => { p with vids := p.vids ++ [id] }), a.2.drop qs.length)) (s.dropDirs units, units)
    some (r.1.updPart p.id (fun p => { p with st := .filling }))

/-- A sector of a write arrives (step 2 and 3 of R28): it enters the version of its tart with its integrity tag
(R271). -/
def State.placeSector (s : State) (c : Ctx) (i : Nat) (x : Sector) : State :=
  match s.ns c.nsid with
  | none => s
  | some n =>
    let a := c.slba * n.secsPer + i
    let ltn := n.ltn (a / 32)
    let mine := (s.tr.parts.filter (fun p => p.ctx == some c.id)).flatMap (fun p => p.vids)
    let y : Sector := { x with tag := if x.tag = .poison then .poison else .data (ltn * 32 + a % 32) }
    s.updTr (fun t => { t with
      vers := updWhere (fun v => mine.contains v.id && v.ltn == ltn)
        (fun v => { v with secs := updWhere (fun q => q.1 == a % 32) (fun q => (q.1, y)) v.secs }) t.vers })

/-- Sectors that arrived before their part had units enter its versions once it has them. -/
def State.placeData (s : State) (id : Nat) : State :=
  match s.ctx id with
  | none => s
  | some c => if c.cmd = .write then s.each c.data (fun s d => s.placeSector c d.1 d.2) else s

/-- The sealed state refuses the units of a part that has none (R226). -/
def State.sealed (s : State) : Bool := s.rd Fd.MED_SEAL_STATE == 1

/-- Give waiting parts their units, in order, as far as they are to be had. -/
def State.grantParts (s : State) : State :=
  (s.tr.parts.filter (fun p => p.st == .wait)).foldl (fun s p =>
    if s.sealed = true ∧ p.kind ≠ 2 then s
    else match s.allocPart p with
      | some t => (match p.ctx with | some c => t.placeData c | none => t)
      | none => s) s

/-- Free every version that is MAPPED or SUPERSEDED with no pin (step 8 of R28), and give its units to parts that wait. -/
def State.freeVers (s : State) : State :=
  let done := fun (v : Ver) => (v.st == .mapped || v.st == .superseded) && v.pins == 0
  if s.tr.vers.any done then (s.updTr (fun t => { t with vers := t.vers.filter (fun v => !done v) })).grantParts else s

/-- A part whose commit record write has not begun is not performed: its versions return to FREE (R131, R171). -/
def State.dropPart (s : State) (p : Part) : State :=
  s.updTr (fun t => { t with
    vers := t.vers.filter (fun v => !p.vids.contains v.id), parts := t.parts.filter (fun q => q.id != p.id) })

def Part.begun (p : Part) : Bool := p.st == .body || p.st == .header

/-- Drop the parts of a context that have not begun. -/
def State.dropParts (s : State) (ctx : Nat) : State :=
  (s.each (s.tr.parts.filter (fun p => p.ctx == some ctx && !p.begun)) (fun s p => s.dropPart p)).grantParts

/-! ### Ending a command -/

/-- Watches, results and operations that wait for a slot are released when a command's status is decided or it is ended; pins and a hold
last until its completion is posted (R171, R182). -/
def State.releaseCtx (s : State) (id : Nat) : State :=
  let s := s.updTr (fun t => { t with watch := t.watch.filter (fun w => !(w.kind == 0 && w.item == id)) })
  let s := s.dropReads (fun o => match o.why with | .host k _ => k == id | _ => false)
  s.updCtx id (fun c => { c with results := [] })

/-- The sectors that a command transferred, in its function's counters (R227). -/
def State.countCmd (s : State) (c : Ctx) : State :=
  let secs := match s.ns c.nsid with | some n => c.nlb * n.secsPer | none => 0
  match c.cmd with
  | .write => s.updFn c.fn (fun x => { x with wrSecs := x.wrSecs + secs, wrCmds := x.wrCmds + 1 })
  | .read => s.updFn c.fn (fun x => { x with rdSecs := x.rdSecs + secs, rdCmds := x.rdCmds + 1 })
  | .compare => s.updFn c.fn (fun x => { x with rdSecs := x.rdSecs + secs, rdCmds := x.rdCmds + 1 })
  | _ => s

/-- A function's shutdown is complete (R133): every fetched command has completed but Asynchronous Event Requests, and
every write it acknowledged has reached the end of step 7. -/
def State.shutReady (s : State) (f : Nat) : Bool :=
  !(s.nv.grants.any (fun g => g.fn == f)) && !(s.nv.ctxs.any (fun c => c.fn == f && c.cmd != .aer)) &&
    !(s.nv.held.any (fun h => h.fn == f)) &&
    !(s.tr.vers.any (fun v => v.deps.contains f && (v.st == .committed || v.st == .programming)))

/-- Report every shutdown that has completed. -/
def State.checkShut (s : State) : State :=
  s.each ((s.nv.fns.filter (fun p => p.2.shn && p.2.shst == 1)).map (fun p => p.1)) (fun s f =>
    if s.shutReady f then s.updFn f (fun x => { x with shst := 2 }) else s)

/-- A command completes with a status; a completion with an unrecovered read error counts in the function's media and
data integrity errors (R277). -/
def State.finish (s : State) (id sct sc dw0 : Nat) : State :=
  match s.ctx id with
  | none => s
  | some c =>
    if c.status.isSome then s
    else
      let s := s.dropParts id
      let s := (s.releaseCtx id).countCmd c
      let s := if sct = 2 ∧ sc = 0x81 then s.updFn c.fn (fun x => { x with medErrs := x.medErrs + 1 }) else s
      let s := s.updCtx id (fun c => { c with status := some (sct, sc, dw0), reads := [] })
      (s.complete c.fn c.sq c.cid sct sc dw0).freeVers.checkShut

/-- A command is ended without completion (R131): parts whose record has begun are performed whole, and its versions wait for no
completion. -/
def State.killCtx (s : State) (id : Nat) : State :=
  let s := (s.dropParts id).releaseCtx id
  let gone := s.ctx id
  let s := s.updTr (fun t => { t with
    parts := updWhere (fun p => p.ctx == some id) (fun p => { p with ctx := none }) t.parts
    vers := (updWhere (fun v => v.ctx == some id) (fun v => { v with ctx := none }) t.vers).map
      (fun v => match gone with | some c => unpinned c v | none => v) })
  (s.updNv (fun n => { n with ctxs := n.ctxs.filter (fun c => c.id != id) })).freeVers

/-! ### Starting parts -/

/-- The parts of a write, a Write Zeroes or a deallocation (R31, R32, R125), each with its tarts. -/
def State.addParts (s : State) (ctx fn kind nsid : Nat) (ranges : List (Nat × Nat)) : State :=
  match s.ns nsid with
  | none => s
  | some n =>
    let ps := ranges.flatMap (fun r => if r.2 = 0 then [] else n.parts r.1 r.2)
    let s := (ps.zip (List.range ps.length)).foldl (fun s q =>
      let id := s.tr.nextId
      let p : Part :=
        { id := id, ctx := some ctx, kind := kind, fn := fn, nsid := nsid, slba := q.1.1, nlb := q.1.2,
          last := q.2 + 1 == ps.length, tarts := (n.tarts q.1.1 q.1.2).map (fun t => (t.1, decide (t.2.length = 32))),
          vids := [], jseq := 0, st := .wait }
      s.updTr (fun t => { t with parts := t.parts ++ [p], nextId := id + 1 })) s
    (s.updCtx ctx (fun c => { c with partsLeft := ps.length })).grantParts

/-- Every sector of a version is there. -/
def Ver.full (v : Ver) : Bool := v.secs.all (fun q => q.2.tag != .never)



/-- Step 3 of R28 has ended for a part: every version is full, with its primary copy, and its mirror copy while the
other half takes one (R389). -/
def State.partReady (s : State) (p : Part) : Bool :=
  p.st == .filling && p.vids.all (fun i => match s.ver i with
    | some v => v.full && v.prim && (v.mirror || !s.mirrored)
    | none => false)

/-- In protected commit mode every unit of the part has its directory word (R331). -/
def State.partFlushed (s : State) (p : Part) : Bool :=
  p.vids.all (fun i => match s.ver i with | some v => v.held.all (fun u => s.dirValid u) | none => false)

/-! ### Commit -/

/-- The unit indices of a COMMIT body for a tart of a part (R316). -/
def State.tartUnits (s : State) (p : Part) (ltn : Nat) : List Nat :=
  match s.tr.vers.find? (fun v => p.vids.contains v.id && v.ltn == ltn) with
  | some v => v.units
  | none => [0xFFFF, 0xFFFF, 0xFFFF, 0xFFFF]

/-- The control slice begins the commit record of a part (step 4 of R28, R315, R316): step 3 has ended for it, earlier
parts of its command have begun, in protected commit mode its units are in the flush reserve, and no power loss has been
detected (R334). When the ring cannot take the record, it waits (R324). -/
def State.commitStart (s : State) (p : Part) : State :=
  let earlier := s.tr.parts.any (fun q => q.ctx == p.ctx && p.ctx.isSome && decide (q.id < p.id) && !q.begun)
  if s.partReady p = false ∨ s.active.isNone ∨ s.hub.hold = true ∨ s.hub.fenced = true ∨ s.lg.loss.isSome ∨ earlier = true then s
  else if s.protectedMode = true ∧ s.partFlushed p = false then s
  else
    match s.beginRec (fun j => .commit p.nsid p.fn p.kind p.last p.slba p.nlb j
        (p.tarts.map (fun t => (t.1, s.tartUnits p t.1)))) false with
    | none => s
    | some (j, s) =>
      let s := s.updPart p.id (fun p => { p with st := .body, jseq := j })
      match p.ctx with
      | some c => s.updCtx c (fun c => { c with wrote := true })
      | none => s

/-- COMMIT_RECORD_START (R315, R316, R320, R331). -/
def execCommitRecordStart (pid : Nat) (s : State) : Host.Outcome State Fault Refusal :=
  .next (match s.part pid with | some p => s.commitStart p | none => s)

/-- COMMIT_HEADER_WRITE (R315): the header of the record, once earlier headers have been acknowledged. -/
def execCommitHeaderWrite (pid : Nat) (s : State) : Host.Outcome State Fault Refusal :=
  .next (match s.part pid with
    | some p =>
      if p.st = .body ∧ s.headerReady p.jseq = true ∧ s.hub.hold = false then
        (s.endRec p.jseq).updPart pid (fun p => { p with st := .header })
      else s
    | none => s)

/-- In a Flush that covers version `v`, `w` takes its place once `w` supersedes it (R130). -/
def State.replaceRef (s : State) (v w : Nat) : State :=
  s.updNv (fun n => { n with
    ctxs := updWhere (fun c => c.cmd == .flush && c.refs.contains v)
      (fun c => { c with refs := addOnce w (c.refs.filter (fun x => x != v)) }) n.ctxs })

/-- A newer COMMITTED version supersedes the COMMITTED versions of its tart all of whose sectors it writes (R171); it carries their
writes to step 7 (R130). -/
def State.supersede (s : State) (w : Ver) : State :=
  s.each (s.tr.vers.filter (fun v => v.ltn == w.ltn && decide (v.oseq < w.oseq) && v.st == .committed &&
      v.secs.all (fun q => w.secs.any (fun r => r.1 == q.1)))) (fun s v =>
    ((s.updVer v.id (fun v => { v with st := .superseded })).updVer w.id (fun x => { x with
      deps := v.deps.foldl (fun l f => addOnce f l) x.deps
      carries := v.carries.foldl (fun l f => addOnce f l) x.carries
      owes := minOpt v.owes x.owes })).replaceRef v.id w.id)

/-- Step 6 of R28 may begin for a version: its command's completion is posted, or the command has gone (R131). -/
def Ver.ready (v : Ver) : Bool := v.ctx.isNone || v.post.isSome

/-- A whole tart's deallocation writes the map after its command's completion, as soon as no program of the tart is in flight (R28, R169,
R170, R174). -/
def State.pumpDealloc (s : State) (ltn : Nat) : State :=
  match s.tr.vers.find? (fun v => v.ltn == ltn && v.units.isEmpty && v.st == .committed && v.ready) with
  | some v =>
    if s.tr.vers.any (fun w => w.ltn == ltn && w.st == .programming) then s
    else (s.issueMap 3 ltn 0 false true none v.oseq [v.id]).updVer v.id (fun v => { v with st := .programming })
  | none => s

/-- The commit of a whole tart's deallocation: until the map holds it, a version without units gives its zeros to
lookups (R175, R177). -/
def State.commitDealloc (s : State) (p : Part) (ltn : Nat) : State :=
  let id := s.tr.nextId
  let v : Ver :=
    { id := id, ctx := p.ctx, post := none, owes := none, carries := p.ctx.toList, urgent := s.partUrgent p, fn := p.fn,
      tenant := s.tenantOf p.fn, nsid := p.nsid, ltn := ltn, secs := (List.range 32).map (fun i => (i, s.zeroSec ltn i)), units := [],
      prim := true, mirror := true, primBad := false, mirrorBad := false, primTag := false, mirrorTag := false, pins := 0,
      oseq := p.jseq, deps := [p.fn], st := .committed }
  let s := s.updTr (fun t => { t with vers := t.vers ++ [v], nextId := id + 1 })
  (s.supersede v).pumpDealloc ltn

/-- The commit point of a part (R175): its versions become COMMITTED in one cycle, V follows R224, versions that it
covers are SUPERSEDED, whole tarts are deallocated, and the command's completion follows its last part. -/
def State.commitPoint (s : State) (p : Part) : State :=
  let whole := p.tarts.filter (fun t => p.kind ≠ 0 ∧ t.2 = true)
  let some' := p.tarts.filter (fun t => !(p.kind ≠ 0 ∧ t.2 = true))
  let rise := (some'.filter (fun t => !s.tartValid t.1)).length
  let fall := (whole.filter (fun t => s.tartValid t.1)).length
  let s := s.updMd (fun m => { m with valid := m.valid + rise - fall })
  let s := s.updTr (fun t => { t with
    vers := updWhere (fun v => p.vids.contains v.id) (fun v => { v with st := .committed, oseq := p.jseq }) t.vers })
  let s := s.each p.vids (fun s i => match s.ver i with | some v => s.supersede v | none => s)
  let s := s.each whole (fun s t => s.commitDealloc p t.1)
  let s := (s.updTr (fun t => { t with parts := t.parts.filter (fun q => q.id != p.id) })).freeVers
  match p.ctx with
  | none => s
  | some id =>
    let s := s.updCtx id (fun c => { c with partsLeft := c.partsLeft - 1 })
    match s.ctx id with
    | none => s
    | some c =>
      if c.partsLeft = 0 then s.finish id 0 0 0
      -- R226: a part that has no unit when the device is sealed is not performed.
      else if s.sealed = true ∧ s.tr.parts.all (fun q => q.ctx != some id || q.st == .wait) = true ∧ p.kind ≠ 2 then
        s.finish id 0 0x81 0
      else s

/-- COMMIT_POINT (R28 step 5, R175): the acknowledgement of the header, in the order of the headers. -/
def execCommitPoint (pid : Nat) (s : State) : Host.Outcome State Fault Refusal :=
  .next (match s.part pid with
    | some p =>
      if p.st = .header ∧ s.active.isSome ∧ s.hub.hold = false ∧ s.hub.fenced = false ∧
          s.tr.parts.all (fun q => !q.begun || decide (p.jseq ≤ q.jseq)) = true then s.commitPoint p
      else s
    | none => s)

end Sys2Proof.Machine
end

