-- ==== Sys2Proof/Machine/Control.lean ====
section
/-! DEFINITION. Controllers and queues (chapter 04): arbitration (R115 to R122), doorbells (R124), controller reset, FLR
settlement (R131, R132), shutdown (R133) and context budgets (R119), with the commands ARBITRATION_ROUND, SQ_TAIL_DOORBELL,
CQ_HEAD_DOORBELL, CC_ENABLE_SET, CONTROLLER_READY, CONTROLLER_RESET, CONTROLLER_RESET_COMPLETE, SHUTDOWN_NOTIFICATION and
CONTEXT_BUDGET_WRITE. -/

namespace Sys2Proof.Machine

/-! ### A test mode meets a happening (R523) -/

/-- Bus Master Enable cleared, FLR, CC.EN set or SPLIT_ALL cleared for the function of a host path test (R523). -/
def State.testHostFn (s : State) (f : Nat) : State :=
  if s.rd Fd.TST_CTRL_IFACE = 2 ∧ s.rd Fd.TST_CTRL_TARGET = f then s.testMeets 9 else s

/-! ### Arbitration -/

/-- The `n`-th bar boundary after the present beat. -/
def State.barAfter (s : State) (n : Nat) : Nat := (s.bar + n) * 250

/-- Entries of a queue that the host has placed and the device has neither granted nor fetched before. -/
def State.pendingOf (_s : State) (q : Sq) : Nat :=
  if q.size = 0 then 0
  else
    let n := (q.tail + q.size - q.head % q.size) % q.size
    n - (q.skip.filter (fun i => decide (q.head ≤ i) && decide (i < q.head + n))).length

/-- The first entry of a queue that is neither granted nor fetched. -/
def Sq.nextIdx (q : Sq) : Nat :=
  ((List.range' q.head (q.skip.length + 1)).find? (fun i => !q.skip.contains i)).getD q.head

/-- A function whose entries may be fetched: enabled and ready, not shutting down, not failed, with Bus Master Enable,
no FLR in progress, no queue deletion that takes its entries (R102, R103, R131, R133). -/
def State.mayFetch (s : State) (f : Nat) : Bool :=
  let x := s.fn f
  s.fnUp f && x.en && x.rdy && !x.shn && !x.cfs && x.bme && x.flrAt.isNone

/-- The device fetches: it serves, no activation has quiesced it (R134) and no power loss has been detected (R334). -/
def State.fetching (s : State) : Bool :=
  s.serving && decide (s.rd Fd.QUE_ACT_STATE < 2) && s.lg.loss.isNone

/-- The queues of a function with entries to fetch, in order of identifier; a queue being deleted has none (R551). -/
def State.pendingQueues (s : State) (f : Nat) : List Sq :=
  sortBy (fun a b => decide (a.qid < b.qid)) (s.nv.sqs.filter (fun q => q.fn == f && decide (0 < s.pendingOf q) &&
    !((s.fn f).deleting.contains q.qid)))

/-- Feature 01h of a function: arbitration burst and the weights of the low, medium and high classes. Until the host sets it, it reads 0,
a burst of 1 and weights of 1 (DESIGN CHOICE, log entry 140: the manual gives no default). -/
def State.arbFeature (s : State) (f : Nat) : Nat := spGet (fun _ => 0) (s.fn f).feats 1

/-- Commands in an arbitration burst: 2^AB, without limit at 7. -/
def State.arbBurst (s : State) (f : Nat) : Nat :=
  let ab := s.arbFeature f % 8
  if ab = 7 then 65536 else 2 ^ ab

/-- The weight of class `k` (1 high, 2 medium, 3 low) in commands. -/
def State.arbWeight (s : State) (f k : Nat) : Nat := s.arbFeature f / 2 ^ (32 - 8 * k) % 256 + 1

/-- Round robin among the queues of class slot `k`: the burst in progress goes on, else the next queue after the last
one granted begins a burst (R121). -/
def State.robin (s : State) (f k : Nat) (qs : List Sq) : Option (Sq × (Nat × Nat)) :=
  let b := (s.fn f).burst.getD k (0, 0)
  match qs.find? (fun q => q.qid == b.1 && decide (0 < b.2)) with
  | some q => some (q, (b.1, b.2 - 1))
  | none =>
    ((qs.find? (fun q => decide (b.1 < q.qid))).or qs.head?).map (fun q => (q, (q.qid, s.arbBurst f - 1)))

/-- `l` as a list of `n` entries with entry `k` set. -/
def setNth {α : Type} (l : List α) (n : Nat) (d : α) (k : Nat) (x : α) : List α :=
  (List.range n).map (fun i => if i = k then x else l.getD i d)

/-- The queue of the next grant of a function (R121): round robin treats all queues alike; weighted round robin serves
the admin queue, then the urgent class, then high, medium and low by their weights. The result carries the function's
burst and weight bookkeeping. -/
def State.pickQueue (s : State) (f : Nat) : Option (Sq × List (Nat × Nat) × List Nat) :=
  let qs := s.pendingQueues f
  let x := s.fn f
  let via (k : Nat) (l : List Sq) (w : List Nat) :=
    (s.robin f k l).map (fun r => (r.1, setNth x.burst 4 (0, 0) k r.2, w))
  if x.wrr = false then via 0 qs x.wrrLeft
  else match qs.find? (fun q => q.qid == 0) with
    | some q => some (q, x.burst, x.wrrLeft)
    | none =>
      let cls := fun k => qs.filter (fun q => q.prio == k)
      if (cls 0).isEmpty = false then via 0 (cls 0) x.wrrLeft
      else
        let ready := [1, 2, 3].filter (fun k => !(cls k).isEmpty)
        let full := (List.range 4).map (fun k => if k = 0 then 0 else s.arbWeight f k)
        let left := if ready.any (fun k => decide (0 < x.wrrLeft.getD k 0)) then x.wrrLeft else full
        match ready.find? (fun k => decide (0 < left.getD k 0)) with
        | some k => via k (cls k) (setNth left 4 0 k (left.getD k 0 - 1))
        | none => none

/-- The entry of a grant has arrived, with its command identifier and the completions posted until then (R129): its grant may be
executed. -/
def State.entryHere (s : State) (g : Grant) (cid : Nat) : State :=
  s.updNv (fun n => { n with grants := n.grants.erase g ++ [{ g with here := true, cid := cid, mark := n.posts }] })

/-- Fetch the entry of a grant (R98, R110, R118): from the CMB at once, else by a read; the one repetition of a read that failed is a
split-mode read. -/
def State.pumpEntry (s : State) (g : Grant) : State :=
  if g.here = true ∨ 2 ≤ g.tries ∨ s.nv.tags.any (fun t => t.fn == g.fn && t.why == .entry g.sq g.idx && t.quar.isNone && !t.orphan &&
      !t.lost) = true ∨ (g.tries = 1 ∧ s.tagOut g.fn ≠ 0) then s
  else match s.sq g.fn g.sq with
    | some q =>
      let a := q.base + 64 * (g.idx % max 1 q.size)
      if q.cmb then
        match s.cmbWin g.fn with
        | some w => s.entryHere g ((s.cmbByte (w.tgt + a + 2)).toNat + 256 * (s.cmbByte (w.tgt + a + 3)).toNat)
        | none => s
      else (s.issueRead g.fn a 64 (.entry g.sq g.idx)).getD s
    | none => s

/-! ### The host path test (R522) -/

/-- One step of PRBS31: x^31 + x^28 + 1 (PRESUMED, log entry 145). -/
def prbsStep (x : Nat) : Nat := (2 * x + (x / 2 ^ 30 + x / 2 ^ 27) % 2) % 2 ^ 31

/-- Pattern 7 over 256 B (R519): each of the 8 lanes carries PRBS31 seeded with SEED XOR the address; a seed of 0 is taken as 1. -/
def pattern7 (seed addr : Nat) : List Byte :=
  let x0 := (seed ^^^ addr) % 2 ^ 31
  ((List.range 256).foldl (fun (a : Nat × List Byte) _ =>
    (prbsStep a.1, a.2 ++ [if a.1 / 2 ^ 30 % 2 = 1 then 0xFF else 0])) (if x0 = 0 then 1 else x0, [])).2

/-- The bytes that the test expects at a host address. -/
def State.testBytes (s : State) (addr len : Nat) : List Byte :=
  let seed := s.rd Fd.TST_SEED_SEED
  let first := addr / 256 * 256
  (((List.range' (addr / 256) ((addr + len + 255) / 256 - addr / 256)).flatMap (fun k => pattern7 seed (256 * k))).drop (addr - first)).take len

def State.updTs (s : State) (f : TestRun → TestRun) : State := { s with ts := s.ts.map f }
def State.updHost (s : State) (f : HostRun → HostRun) : State := s.updTs (fun t => { t with host := f t.host })

/-- The range of the test: address and length. -/
def State.testBase (s : State) : Nat := s.rd Fd.TST_HOSTADDR_LO_ADDR * 4096 + s.rd Fd.TST_HOSTADDR_HI_ADDR * 2 ^ 32
def State.testLen (s : State) : Nat := 4096 * s.rd Fd.TST_HOSTLEN_LEN

/-- Mode 2/2 takes its next action (R522): it writes the whole range in writes of the maximum payload size, then reads it back in
split-mode reads, one outstanding at a time, pass after pass. -/
def State.pumpTest (s : State) : State :=
  let f := s.rd Fd.TST_CTRL_TARGET
  match s.ts with
  | none => s
  | some t =>
    if t.started = false ∨ t.cause ≠ 0 ∨ s.rd Fd.TST_CTRL_IFACE ≠ 2 then s
    else
      let s := if t.host.wrote = true ∨ s.canSend f = false then s
        else
          let m := max 1 (s.fn f).cfg.mps
          (s.each (List.range (s.testLen / m)) (fun s i =>
            s.emit (.testData f (s.testBase + m * i) (s.testBytes (s.testBase + m * i) m)))).updHost (fun h => { h with wrote := true })
      let wrote := match s.ts with | some t => t.host.wrote | none => false
      let busy := s.nv.tags.any (fun g => g.fn == f && g.quar.isNone && (match g.why with | .test _ _ => true | _ => false))
      if wrote = false ∨ busy = true then s
      else
        let a := s.testBase + t.host.pos
        let n := min (s.testLen - t.host.pos) (256 - a % 256)
        (s.issueRead f a n (.test a n)).getD s

/-- Bits of a byte. -/
def bitsOn (b : Nat) : Nat := sumOf (fun i => boolNat (bit b i)) (List.range 8)

/-- A read of the test has come back with `got`, or failed, which counts as 8 errors for each byte it covers (R522); the read position
moves on, at the end of the range to the next pass. -/
def State.testRead (s : State) (addr len : Nat) (got : Option (List Byte)) : State :=
  let want := s.testBytes addr len
  let diffs := match got with
    | some l => (want.zip l).map (fun p => (p.1 ^^^ p.2).toNat)
    | none => List.replicate len 255
  let errs := sumOf bitsOn diffs
  let before := (diffs.takeWhile (fun d => d == 0)).length
  let ended := decide (s.testBase + s.testLen ≤ addr + len)
  s.updHost (fun h => { h with
    pos := if ended then 0 else addr + len - s.testBase, wrote := !ended, bits := h.bits + 8 * len, errs := h.errs + errs,
    lanes := diffs.foldl (fun a d => a ||| d) h.lanes,
    first := if h.first.isNone && errs != 0 then some (h.bits + 8 * before) else h.first })

/-- Issue everything that waits for tags: entry reads, then the reads of contexts, oldest first, then those of a host path test. -/
def State.pump (s : State) : State :=
  ((s.each (s.nv.grants.filter (fun g => !g.here)) (fun s g => s.pumpEntry g)).issueAll).pumpTest

/-- One grant to a function. -/
def State.grantOne (s : State) (f : Nat) : Option State :=
  if s.mayFetch f = false ∨ s.ctxFree f = false then none
  else match s.pickQueue f with
    | none => none
    | some (q, burst, w) =>
      let i := q.nextIdx
      let g : Grant := ⟨f, q.qid, i, 0, 0, false, s.time.beat, 0⟩
      let s := s.updFn f (fun x => { x with burst := burst, wrrLeft := w })
      let s := s.updSq f q.qid (fun q => { q with head := i + 1, skip := q.skip.filter (fun k => decide (i < k)) })
      let s := s.updNv (fun n => { n with grants := n.grants ++ [g], lastFn := f })
      some (s.pumpEntry g)

/-- A visit to a function: up to `n` grants. The result counts those left to give. -/
def State.visit (f : Nat) : Nat → Nat → State → Nat × State
  | 0, left, s => (left, s)
  | n + 1, left, s =>
    if left = 0 then (0, s)
    else match s.grantOne f with
      | some s => State.visit f n (left - 1) s
      | none => (left, s)

/-- One pass over the functions in `order`; passes repeat until the round's grants are given or none is eligible. -/
def State.passes (order : List Nat) : Nat → Nat → State → State
  | 0, _, s => s
  | fuel + 1, left, s =>
    let r := order.foldl (fun (a : Nat × State) f =>
      let m := a.2.rd Fd.QUE_FNARB_MAXB f
      State.visit f (if m = 0 then a.2.rd Fd.QUE_ARBCFG_GRANTMAX else m) a.1 a.2) (left, s)
    if r.1 = left ∨ r.1 = 0 then r.2 else State.passes order fuel r.1 r.2

/-- An arbitration round (R120). -/
def State.arbitrate (s : State) : State :=
  if s.fetching = false then s
  else
    let last := s.nv.lastFn
    let fs := s.nv.sqs.map (fun q => q.fn)
    let order := ((List.range 256).map (fun i => (last + 1 + i) % 256)).filter (fun f => fs.contains f)
    State.passes order 63 (s.rd Fd.QUE_ARBCFG_GRANTMAX) s

/-- ARBITRATION_ROUND (R115 to R122). -/
def execArbitrationRound (s : State) : Host.Outcome State Fault Refusal := .next s.arbitrate

/-! ### Doorbells -/

/-- A doorbell write that names no queue, or a value it cannot hold (R124): ignored, with an asynchronous event of type
0h, information 00h or 01h, and an event record. -/
def State.badDoorbell (s : State) (f off val kind : Nat) : State :=
  (s.aev 16 0x0204 [f, off, val, kind]).postAen f ⟨0, if kind = 2 then 0 else 1, 1⟩ false

/-- A write of a submission queue tail doorbell (R124, R135): the tail is recorded. -/
def State.tailDoorbell (s : State) (f q v : Nat) : State :=
  if s.fnUp f = false then s
  else match s.sq f q with
    | none => s.badDoorbell f (0x1000 + 8 * q) v 2
    | some x => if x.size ≤ v then s.badDoorbell f (0x1000 + 8 * q) v 1 else s.updSq f q (fun x => { x with tail := v })

/-- A write of a completion queue head doorbell (R124): the head is recorded unless it passes the tail; completions that waited for room
are posted. -/
def State.headDoorbell (s : State) (f q v : Nat) : State :=
  if s.fnUp f = false then s
  else match s.cq f q with
    | none => s.badDoorbell f (0x1004 + 8 * q) v 2
    | some x =>
      if x.size ≤ v ∨ (x.tail + x.size - x.head) % x.size < (v + x.size - x.head) % x.size then s.badDoorbell f (0x1004 + 8 * q) v 1
      else (s.updCq f q (fun x => { x with head := v })).drain.freeVers

/-! ### The ingress buffer (R75) -/

/-- The bytes that a TLP takes in the ingress buffer: its data and a header of 16 B (DESIGN CHOICE, log entry 141). -/
def tlpBytes : Instr → Nat
  | .inboundWindowTlp _ _ _ _ _ wr data _ _ => 16 + (if wr then data.length else 0)
  | .pmrTlp _ _ _ _ wr data _ => 16 + (if wr then data.length else 0)
  | _ => 20

/-- The function that a TLP of the ingress buffer is for. -/
def State.ingressFn (s : State) : Instr → Option Nat
  | .inboundWindowTlp f _ _ _ _ _ _ _ _ => some f
  | .pmrTlp f _ _ _ _ _ _ => some f
  | .expansionRomTlp pf _ _ _ => some (s.pfFn (pf % 2))
  | .sqTailDoorbell f _ _ => some f
  | .cqHeadDoorbell f _ _ => some f
  | .ccEnableSet f _ _ _ _ _ _ => some f
  | .controllerReset f => some f
  | .shutdownNotification f => some f
  | _ => none

/-- During an output hold a TLP waits in the hub's ingress buffer of 256 KiB for posted and 64 KiB for non-posted requests; with no room
left the host has no credit to send it (R75). At any other time it takes effect at once. -/
def State.inbound (s : State) (i : Instr) (now : State → State) : State :=
  if s.hub.hold = true ∧ s.hub.fenced = false then
    let same := s.nv.ingress.filter (fun j => nonPosted j == nonPosted i)
    if sumOf tlpBytes same + tlpBytes i ≤ (if nonPosted i then 65536 else 262144) then
      s.updNv (fun n => { n with ingress := n.ingress ++ [i] })
    else s
  else now s

/-- SQ_TAIL_DOORBELL (R75, R124, R135). -/
def execSqTailDoorbell (f q v : Nat) (s : State) : Host.Outcome State Fault Refusal :=
  .next (s.inbound (.sqTailDoorbell f q v) (fun s => s.tailDoorbell f q v))

/-- CQ_HEAD_DOORBELL (R75, R124). -/
def execCqHeadDoorbell (f q v : Nat) (s : State) : Host.Outcome State Fault Refusal :=
  .next (s.inbound (.cqHeadDoorbell f q v) (fun s => s.headDoorbell f q v))

/-! ### Enabling, resetting and shutting down -/

/-- Tags outstanding for a function become orphaned, and the buffers they target lose their owners: they are freed when the last tag that
targets them ends (R103 steps 1 and 5, R131). -/
def State.orphanTags (s : State) (f : Nat) : State :=
  let keys := (s.nv.tags.filter (fun t => t.fn == f && t.quar.isNone)).filterMap (fun t => t.buf)
  let s := s.each keys (fun s k => { s with bf := { s.bf with
    recs := spSet (fun _ => .init) s.bf.recs k { spGet (fun _ => BufRec.init) s.bf.recs k with owners := [] } } })
  s.updNv (fun n => { n with tags := updWhere (fun t => t.fn == f && t.quar.isNone) (fun t => { t with orphan := true }) n.tags })

/-- Fetching stops and every fetched command of a function is settled as R131 states; its queues are gone. -/
def State.endFn (s : State) (f : Nat) : State :=
  let s := s.orphanTags f
  let s := s.each ((s.nv.ctxs.filter (fun c => c.fn == f)).map (fun c => c.id)) (fun s id => s.killCtx id)
  let s := s.dropSqs (fun g _ => g == f)
  let s := s.updNv (fun n => { n with
    held := n.held.filter (fun h => h.fn != f), cqs := n.cqs.filter (fun q => q.fn != f) })
  s.updFn f (fun x => { x with en := false, startAt := none, deleting := [], burst := [], wrrLeft := [] })

/-- A controller reset of function `f` (R131, R132). -/
def State.resetController (s : State) (f : Nat) : State :=
  (s.endFn f).updFn f (fun x => { x with resetAt := some (s.barAfter 2) })

/-- RDY and a CFS that the fenced state did not set clear when a reset completes (R132). -/
def State.resetDone (s : State) (f : Nat) : State :=
  s.updFn f (fun x => { x with rdy := false, cfs := x.cfs && s.hub.fenced, shst := 0, shn := false })

/-- The registers that an enable of a controller leaves written (PRESUMED, log entry 144: NVMe 2.0): CC with EN and AMS, and the admin
queue attributes and addresses. -/
def adminRegs (r : Sparse Nat) (wrr : Bool) (asq acq asqAddr acqAddr : Nat) : Sparse Nat :=
  [(0x14, 1 + 2 ^ 11 * boolNat wrr), (0x24, asq - 1 + (acq - 1) * 2 ^ 16), (0x28, asqAddr % 2 ^ 32), (0x2C, asqAddr / 2 ^ 32),
    (0x30, acqAddr % 2 ^ 32), (0x34, acqAddr / 2 ^ 32)].foldl (fun r p => spSet (fun _ => 0) r p.1 p.2) r

/-- CC.EN is set (R94, R132). -/
def State.enableFn (s : State) (f : Nat) (wrr aqOk : Bool) (asq acq asqAddr acqAddr : Nat) : State :=
  let x := s.fn f
  if s.fnUp f = false ∨ x.en = true ∨ x.resetAt.isSome ∨ x.flrAt.isSome then s
  else
    let s := s.testHostFn f
    let s := s.updFn f (fun x => { x with
      en := true, wrr := wrr, aqOk := aqOk, startAt := some (s.barAfter 1), splitStart := true,
      regs := adminRegs x.regs wrr asq acq asqAddr acqAddr })
    s.updNv (fun n => { n with
      sqs := n.sqs ++ [⟨f, 0, asq, 0, 0, asqAddr, false, 0, 0, []⟩], cqs := n.cqs ++ [⟨f, 0, acq, 0, acqAddr, 0, 0, 0⟩] })

/-- CC_ENABLE_SET (R75, R94, R132): `asq` and `acq` are the sizes of the admin queues, `asqAddr` and `acqAddr` their addresses, `aqOk` the
outcome of their check. -/
def execCcEnableSet (f : Nat) (wrr aqOk : Bool) (asq acq asqAddr acqAddr : Nat) (s : State) : Host.Outcome State Fault Refusal :=
  .next (s.inbound (.ccEnableSet f wrr aqOk asq acq asqAddr acqAddr) (fun s => s.enableFn f wrr aqOk asq acq asqAddr acqAddr))

/-- CONTROLLER_READY (R132): at the first bar boundary after the check of the admin queue registers; a check that failed
sets CFS instead. -/
def execControllerReady (f : Nat) (s : State) : Host.Outcome State Fault Refusal :=
  .next (match (s.fn f).startAt with
    | some b =>
      if b ≤ s.time.beat then
        (s.updFn f (fun x => { x with startAt := none, rdy := x.aqOk, cfs := x.cfs || !x.aqOk })).deliverAen f
      else s
    | none => s)

/-- CC.EN is cleared (R131). -/
def State.disableFn (s : State) (f : Nat) : State :=
  if (s.fn f).en = true ∧ s.fnUp f = true then s.resetController f else s

/-- CONTROLLER_RESET (R75, R131). -/
def execControllerReset (f : Nat) (s : State) : Host.Outcome State Fault Refusal :=
  .next (s.inbound (.controllerReset f) (fun s => s.disableFn f))

/-- CONTROLLER_RESET_COMPLETE (R132): at the second bar boundary after CC.EN was cleared. -/
def execControllerResetComplete (f : Nat) (s : State) : Host.Outcome State Fault Refusal :=
  .next (match (s.fn f).resetAt with
    | some b => if b ≤ s.time.beat then (s.updFn f (fun x => { x with resetAt := none })).resetDone f else s
    | none => s)

/-- CC.SHN notifies a shutdown (R133). -/
def State.shutFn (s : State) (f : Nat) : State :=
  if s.fnUp f = true ∧ (s.fn f).en = true then (s.updFn f (fun x => { x with shn := true, shst := 1 })).checkShut
  else s

/-- SHUTDOWN_NOTIFICATION (R75, R133). -/
def execShutdownNotification (f : Nat) (s : State) : Host.Outcome State Fault Refusal :=
  .next (s.inbound (.shutdownNotification f) (fun s => s.shutFn f))

/-- CONTEXT_BUDGET_WRITE (R119): discarded and recorded when RESV exceeds CAP or the sum of reservations would exceed
4,096. -/
def State.ctxBudgetWrite (s : State) (m f val : Nat) : State :=
  let resv := val % 2 ^ 12
  let cap := val / 2 ^ 16 % 2 ^ 12
  if s.ctxBudgetOk f resv cap then (s.wr Fd.QUE_FNCTX_RESV resv f).wr Fd.QUE_FNCTX_CAP cap f
  else s.discarded s.act m Blk.QUE (Reg.QUE_FNCTX.at f) val

def execContextBudgetWrite (m f val : Nat) (s : State) : Host.Outcome State Fault Refusal := .next (s.ctxBudgetWrite m f val)

end Sys2Proof.Machine
end

