-- ==== Sys2Proof/Machine/Stats.lean ====
section
/-! DEFINITION. The writes of the write-buffer copies (DRAM_WRITE_ACKNOWLEDGE), and what a read result leaves behind: data-path faults (R412), decode statistics (R264, R267), refresh triggers
(R222), measurements for the loops (R291), retirement for a reconstruction (R218, R219), and the sectors a decode yields
(R275). -/

namespace Sys2Proof.Machine

/-! ### Data-path faults -/

/-- A data-path fault in a slice of half `h` (R412): counted; the DPLIM-th in one bar makes a control fault. -/
def State.dpFault (s : State) (h : Half) (slice : Nat) : State :=
  let s := (s.count Fd.SAF_CNT_DATAPATH_COUNT).updHalf h (fun r => { r with dpFaults := r.dpFaults + 1 })
  if (s.half h).dpFaults = s.rd Fd.SAF_CFG_DPLIM then s.controlFaultCls h 2 7 slice else s

/-- A data-path fault of the serving half. -/
def State.dpFaultHere (s : State) (slice : Nat) : State :=
  match s.active with
  | some h => s.dpFault h slice
  | none => s

/-! ### The copies of the write buffer -/

/-- The standby half checks a version's tags as it writes the mirror copy (R273): the tart is sent once more after a mismatch; the
second one is a data-path fault, and a command that has not committed completes with Internal Error. -/
def State.mirrorMismatch (s : State) (v : Ver) : State :=
  let s := s.count Fd.ECC_CNT_TAGERR_COUNT
  if v.mirrorTag = false then s.updVer v.id (fun v => { v with mirrorTag := true })
  else
    let s := s.dpFaultHere 4
    match v.st, v.ctx with
    | .filling, some c => s.finish c 0 6 0
    | _, _ => s

/-- DRAM_WRITE_ACKNOWLEDGE (R28 step 3, R273, R356, R393 step 2): a copy of a full version is written; the mirror copy of a
committed version too, while the other half is brought up to date. `tagOk` says whether the tags of what is written match: those of the
primary copy are checked when it is read. -/
def execDramWriteAcknowledge (vid : Nat) (mirror tagOk : Bool) (s : State) : Host.Outcome State Fault Refusal :=
  .next (match s.ver vid with
    | some v =>
      if v.full = false then s
      else if mirror then
        (if s.mirrored = false then s
        else if tagOk then s.updVer vid (fun v => { v with mirror := true, mirrorBad := false, mirrorTag := false })
        else s.mirrorMismatch v)
      else if v.st = .filling then s.updVer vid (fun v => { v with prim := true, primTag := !tagOk })
      else s
    | none => s)

/-! ### The refresh queue (R222) -/

/-- Queue a die block (by its block in plane 0) for refresh at a priority: a block queued already stays as it is; in a
full queue the block of lowest priority and latest arrival makes room for one of higher priority. -/
def State.queueRfs (s : State) (die blk prio : Nat) : State :=
  if s.md.rfs.any (fun r => r.die == die && r.blk == blk) then s
  else
    let add (s : State) (l : List Rfs) : State :=
      s.updMd (fun m => { m with rfs := l ++ [⟨die, blk, prio, m.rfsSeq⟩], rfsSeq := m.rfsSeq + 1 })
    if s.md.rfs.length < 4096 then add s s.md.rfs
    else
      let worst := s.md.rfs.foldl (fun (a : Option Rfs) r => match a with
        | none => some r
        | some w => if w.prio < r.prio ∨ (w.prio = r.prio ∧ w.seq < r.seq) then some r else some w) none
      match worst with
      | some w => if prio < w.prio then (add s (s.md.rfs.erase w)).count Fd.MED_RFSSTAT_DISPLACED else s
      | none => s

/-! ### Statistics of a decode -/

/-- A code word climbed to rung 15; its ladder is exhausted: rung 15 failed (16), or could not be attempted (17) (R264, R270). -/
def CwRes.reached15 (c : CwRes) : Bool := c.rung == 15 || c.rung == 16
def CwRes.lost (c : CwRes) : Bool := decide (16 ≤ c.rung)

/-- The rung at which a code word stopped needs the soft decoder at rung 0, or the ladder from step `r` on. -/
def cwNeeds (r : Nat) (c : CwRes) : Bool := (c.rung == 0 && c.soft) || (decide (1 ≤ c.rung) && decide (r ≤ c.rung))

/-- The die block of a flash address in a superblock: its block in plane 0. -/
def State.dieBlkOf (s : State) (ppa : Nat) : Option (Sb × Member) :=
  (s.sbOfPpa ppa).map (fun q => (q.1, q.1.members.getD q.2 ⟨0, [], 0⟩))

/-- The member that holds a page is not there: its die is not in use, or another cartridge is in its slot (R255). -/
def State.goneAt (s : State) (ppa : Nat) : Bool :=
  decide ((s.die (ppaDie ppa)).st ≠ 1) || (match s.dieBlkOf ppa with | some (_, b) => b.lack == 2 | none => false)

/-- The program unit of a page in its die block (R198). -/
def State.unitAt (s : State) (ppa : Nat) : Nat := s.ppaPage ppa / bitsOf (s.mediaOf (ppaDie ppa))

/-- The partial parity that DRAM holds of the open stripe of a superblock (R204). -/
def State.partialOf (s : State) (sb : Nat) : Option (List (List Sector)) :=
  (s.md.partials.find? (fun p => p.sb == sb)).map (fun p => p.pages)

/-- Reads that a stripe's closing after a role change or a power loss still waits for (R206). -/
def State.stripeClosing (s : State) (id : Nat) : Bool :=
  s.md.ops.any (fun o => o.kind == .read && (o.why == .close id || (match o.why with
      | .rung k _ => s.md.climbs.any (fun c => c.op.id == k && c.op.why == .close id)
      | _ => false))) ||
    s.md.climbs.any (fun c => c.op.why == .close id)

/-- Reconstruction can be attempted for a page (R270): it lies in a stripe, no other member of it lacks, and a stripe that is
still open has its partial parity. -/
def State.canRecon (s : State) (ppa : Nat) : Bool :=
  match s.dieBlkOf ppa with
  | some (x, b) => !x.stream.slc && !(x.members.any (fun o => o.die != b.die && o.lacks)) &&
      (x.st != .open_ || decide (s.unitAt ppa < x.stripe) || ((s.partialOf x.id).isSome && !s.stripeClosing x.id))
  | none => false

/-- The refresh triggers that a result of a page sets off. A page on a member that is not there has not been read. -/
def State.triggers (s : State) (ppa : Nat) (cws : List CwRes) : State :=
  match s.dieBlkOf ppa with
  | none => s
  | some (x, b) =>
    if x.stream.slc = true ∨ s.goneAt ppa = true then s
    else
      let blk := b.blocks.getD 0 0
      let s := s.setBlk (ppaDie ppa) (s.ppaPlane ppa) (s.ppaBlk ppa) (fun k => { k with reads := k.reads + 1 })
      let k := s.blk (ppaDie ppa) (s.ppaPlane ppa) (s.ppaBlk ppa)
      let dist := s.rd Fd.MED_RFSAGE_DISTURB
      let age := s.rd Fd.MED_RFSAGE_AGE
      if cws.any (cwNeeds (s.rd Fd.MED_RFSCFG_RETRY)) then s.queueRfs b.die blk 1
      else if cws.any (fun c => decide (s.rd Fd.MED_RFSCFG_CBTHR ≤ c.bits)) then s.queueRfs b.die blk 2
      else if dist ≠ 0 ∧ dist * 1024 ≤ k.reads then s.queueRfs b.die blk 3
      else if age ≠ 0 ∧ k.since + age ≤ s.time.beat / 21600000000 then s.queueRfs b.die blk 4
      else s

/-- The counters of R263 and R264 up to rung LADMAX, and ECC_CBMAX. -/
def State.countCws (s : State) (ppa : Nat) (cws : List CwRes) : State :=
  s.each cws (fun s c =>
    let s := s.count Fd.ECC_CNT_MISCOR_COUNT c.miscor
    let s := s.when (c.rung == 0 && c.soft) (fun s => s.count Fd.ECC_CNT_SOFT_COUNT)
    let s := s.when c.up (fun s => s.count Fd.ECC_CNT_LADDER_COUNT)
    if s.rd Fd.ECC_CBMAX_MAX < c.bits then (s.wr Fd.ECC_CBMAX_MAX c.bits).wr Fd.ECC_CBMAX_DIE (ppaDie ppa) else s)

/-- The counters of rung 15 and of exhausted code words (R264). -/
def State.countRecon (s : State) (cws : List CwRes) : State :=
  (s.count Fd.ECC_CNT_RECON_COUNT (cws.filter (fun c => c.reached15)).length).count Fd.ECC_CNT_UNREC_COUNT
    (cws.filter (fun c => c.lost)).length

/-- The sources of measurement (R291): a host, read-ahead or predicted read; a background read; a calibration read. -/
inductive Src where
  | host | bg | calib
  deriving DecidableEq, Repr

/-- The measurements of a result (R289, R291): none from a block in SLC mode. A result that arrives from cycle 400 of its beat on
enters the update of the next beat (R288). -/
def State.measure (s : State) (ppa : Nat) (cws : List CwRes) (src : Src) : State :=
  match s.dieBlkOf ppa with
  | none => s
  | some (x, b) =>
    if x.stream.slc then s
    else
      let k := s.mediaOf b.die
      let n := levelsOf k
      let key := loopKey b.die (s.groupOf b.die (b.blocks.getD 0 0))
      let on := match src with
        | .calib => true
        | .host => s.rd Fd.RGL_CFG_SRCHOST == 1
        | .bg => s.rd Fd.RGL_CFG_SRCBG == 1
      let late := decide (400 ≤ s.time.cycle)
      let slope : Int := (s.rd Fd.RGL_SLOPE_SLOPE k : Nat)
      let ms := cws.filterMap (fun c =>
        if c.rung = 0 ∧ c.soft = false then
          (if on then some (Meas.mk key 0 ((List.range n).map (fun l => nth c.asym l * slope)) c.us 1 late) else none)
        else if 1 ≤ c.rung ∧ c.rung ≤ 14 then
          some ⟨key, c.rung, (List.range n).map (fun l => 64 * s.ladOffset k c.rung l), c.us, s.rd Fd.RGL_CFG_LADW, late⟩
        else none)
      s.updRg (fun r => { r with meas := r.meas ++ ms })

/-- A valid tart that needed its stripe retires its block (R218, R219, R280): the superblock is LACKING from now on, and
the block is retired once class 1 has relocated it. -/
def State.reconRetire (s : State) (ppa ltn : Nat) (cws : List CwRes) : State :=
  if s.validAt ppa ltn = true ∧ cws.any (fun c => c.reached15) = true then
    match s.dieBlkOf ppa with
    | some (x, b) => s.markLack (fun y o => y.id == x.id && o.die == b.die && o.lack == 0) 3
    | none => s
  else s

/-- Everything that the statistics of an applied result touch (R267), those of the members read for a reconstruction with
them. -/
def State.applyStats (s : State) (ppa ltn : Nat) (cws : List CwRes) (side : List Side) (src : Src) : State :=
  let s := ((((s.countCws ppa cws).countRecon cws).triggers ppa cws).measure ppa cws src).reconRetire ppa ltn cws
  s.each side (fun s o => ((s.countCws o.ppa o.cws).triggers o.ppa o.cws).measure o.ppa o.cws src)

/-! ### Sectors -/

/-- The sector that stands for one that could not be recovered (R275). -/
def poisonSector : Sector := ⟨0, 0, .poison⟩

/-- The sectors of a page as its decode yields them: those of an exhausted code word are zeros with the poison tag
(R275), those of a reconstructed one the rebuilt ones. -/
def decodedSecs (p : Page) (cws : List CwRes) (rebuilt : List (Nat × Sector)) : List Sector :=
  (List.range 32).map (fun i =>
    let r := (cws.map (fun c => c.rung)).getD (i / 8) 0
    if 16 ≤ r then poisonSector
    else match rebuilt.find? (fun q => q.1 == i) with
      | some q => q.2
      | none => p.secs.getD i emptySector)

/-! ### The stored tag (R271) -/

/-- CRC-16 with polynomial 0x8BB7, one byte on. -/
def crcByte (c b : Nat) : Nat :=
  (List.range 8).foldl (fun c _ => if 0x8000 ≤ c then (c * 2 % 65536) ^^^ 0x8BB7 else c * 2) (c ^^^ (b * 256))

/-- GUARD of a sector: over its 512 B of data and the 8 bytes of metadata with it, zero-filled where the format carries less
(R259). -/
def guardOf (x : Sector) : Nat :=
  let c := (List.range 512).foldl (fun c i => crcByte c (x.data.toNat / 2 ^ (8 * i) % 256)) 0
  (List.range 8).foldl (fun c i => crcByte c (x.md.toNat / 2 ^ (8 * i) % 256)) c

/-- The tag bytes of a sector in flash: STAGE 1, since XTS leaves data in that stage (R272). -/
def tagWord (x : Sector) : Word64 :=
  match x.tag with
  | .never => 1#64 <<< 62
  | .data lsn => BitVec.ofNat 64 (guardOf x + lsn % 2 ^ 40 * 2 ^ 16 + 2 ^ 56)
  | .padding => 2#64 <<< 62
  | .poison => BitVec.allOnes 64
  | .raw w => w

/-- The payload whose bytes are the XOR of two payloads (R268), and the payload of zeros. -/
def xorSector (x y : Sector) : Sector := ⟨x.data ^^^ y.data, x.md ^^^ y.md, .raw (tagWord x ^^^ tagWord y)⟩
def noPayload : Sector := ⟨0, 0, .raw 0⟩
def xorPage (p q : List Sector) : List Sector :=
  (List.range 32).map (fun i => xorSector (p.getD i noPayload) (q.getD i noPayload))

/-- A payload with its tag bytes read as a tag; none where GUARD does not match the data (R263, R269 step 4). -/
def readPayload (x : Sector) : Option Sector :=
  let w := (tagWord x).toNat
  if w = 2 ^ 64 - 1 then some { x with tag := .poison }
  else if w / 2 ^ 62 = 2 then some { x with tag := .padding }
  else if w / 2 ^ 62 = 1 then some { x with tag := .never }
  else if w % 2 ^ 16 = guardOf x then some { x with tag := .data (w / 2 ^ 16 % 2 ^ 40) }
  else none

/-- The page at a flash address. -/
def State.page (s : State) (ppa : Nat) : Page := spGet (fun _ => .init) s.md.flash ppa

/-- The outputs of the loop of the die block at a flash address; a block in SLC mode is not tracked and has offset 0 (R289). -/
def State.loopOuts (s : State) (ppa : Nat) : List Int :=
  match s.dieBlkOf ppa with
  | some (x, b) => if x.stream.slc then [] else (s.loop (loopKey b.die (s.groupOf b.die (b.blocks.getD 0 0)))).out
  | none => []

/-- The feed-forward offset of a level at a page (R290): from RGL_FFTAB, by media type and the wordline zone of the page. -/
def State.feedForward (s : State) (ppa l : Nat) : Int :=
  let k := s.mediaOf (ppaDie ppa)
  let z := 16 * s.unitAt ppa / max 1 (s.unitsOf k)
  signedByteOf (s.reg .a Blk.RGL (0x1000 + 0x100 * k + 0x10 * z + 4 * (l / 4))) (l % 4)

/-- The offset that the LVL primitive applies at a level of a page (R290), with the ladder step's offset added from rung 1 on
(R264); a soft read moves it by `delta`. -/
def State.levelAt (s : State) (ppa rung : Nat) (delta : Int) (l : Nat) : Int :=
  let base := if (s.loopOuts ppa).isEmpty then 0 else clampInt (-128) 127 (nth (s.loopOuts ppa) l + s.feedForward ppa l)
  base + (if rung = 0 then 0 else s.ladOffset (s.mediaOf (ppaDie ppa)) rung l) + delta

/-- The offsets of a read of a page at a rung. -/
def State.levelsAt (s : State) (ppa rung : Nat) (delta : Int) : List Int :=
  (List.range (levelsOf (s.mediaOf (ppaDie ppa)))).map (s.levelAt ppa rung delta)

/-! ### Operations -/

def State.op (s : State) (id : Nat) : Option Op := s.md.ops.find? (fun o => o.id == id)

def State.updOp (s : State) (id : Nat) (f : Op → Op) : State :=
  s.updMd (fun m => { m with ops := updWhere (fun o => o.id == id) f m.ops })

def State.dropOp (s : State) (id : Nat) : State :=
  s.updMd (fun m => { m with ops := m.ops.filter (fun o => o.id != id) })

/-- A new operation that waits for a slot, from what it is and where it acts. -/
def newOp (kind : OpKind) (cls : SlotCls) (die tenant : Nat) (why : OpWhy) : Op where
  id := 0
  kind := kind
  cls := cls
  die := die
  tenant := tenant
  urgent := false
  why := why
  ppa := 0
  sb := 0
  unit := 0
  mem := 0
  tarts := []
  born := 0
  step := 0
  st := .wait
  issued := 0
  susp := 0
  suspBeats := 0
  suspAt := 0
  tries := 0
  us := []
  units := []
  slotAt := 0
  left := 0
  quanta := 0
  levels := []
  kept := false
  wake := false

/-- Queue an operation; the result is its number. -/
def State.addOp (s : State) (o : Op) : Nat × State :=
  let id := s.md.nextOp
  (id, s.updMd (fun m => { m with ops := m.ops ++ [{ o with id := id, born := s.time.beat }], nextOp := id + 1 }))

/-- Queue a read of a page. -/
def State.addRead (s : State) (cls : SlotCls) (tenant : Nat) (urgent : Bool) (why : OpWhy) (ppa : Nat) : Nat × State :=
  s.addOp { newOp .read cls (ppaDie ppa) tenant why with ppa := ppa, urgent := urgent }

end Sys2Proof.Machine
end

