-- ==== Sys2Proof/Machine/Keys.lean ====
section
/-! DEFINITION. The key table in its four key blocks (R488, R489), and the beginning of an erase of a die block (R241 step 1), by
which a change erases the two older copies. -/

namespace Sys2Proof.Machine

/-- Begin the erase of a die block (R241 step 1): its erase count rises by 1 with its erase-intent record. -/
def State.eraseIntent (s : State) (die : Nat) (blocks : List Nat) : Option State :=
  let count := 1 + ((blocks.zip (List.range blocks.length)).foldl (fun a b => max a (s.blk die b.2 b.1).erases) 0)
  (s.beginRec (fun _ => .eraseIntent die blocks.length count blocks) false).map (fun r =>
    (r.2.setDieBlk die blocks (fun b => { b with erases := b.erases + 1 })).updMd (fun m => { m with
      erases := m.erases ++ [⟨die, blocks.getD 0 0, blocks, count, .intent⟩] }))

/-- Pages of a key table (R489). -/
def keyPages : Nat := 7

/-- A key block that can be read: its die is in use, and the block is not retired. A lost one awaits replacement. -/
def State.keyAlive (s : State) (b : KeyBlk) : Bool :=
  (s.die b.die).st == 1 && (s.blk b.die 0 (b.blocks.getD 0 0)).st != .retired

/-- The newest whole copy of the key table (R489). -/
def State.keyTable (s : State) : Option KeyTab :=
  ((s.md.keyBlks.filter (fun b => s.keyAlive b)).filterMap (fun b => b.tab)).foldl (fun a t => match a with
    | some x => if x.gen < t.gen then some t else some x
    | none => some t) none

/-- A key block that holds neither the newest table nor nothing: it is erased before the change that needs it, or ends one. -/
def State.keyStale (s : State) (b : KeyBlk) : Bool :=
  s.keyAlive b && decide (0 < b.pages) && (match b.tab, s.keyTable with
    | some t, some c => decide (t.gen < c.gen)
    | _, _ => true)

/-- Dies for new key blocks: the first in use in each slot that has none, lowest slot first. A key block is the last SLC die block of
its die (DESIGN CHOICE, log entry 149). -/
def State.keyDies (s : State) (have_ : List KeyBlk) : List Nat :=
  (List.range s.variant.slotsN).filterMap (fun n =>
    if have_.any (fun b => slotOf b.die == n) then none
    else (s.dieNums.filter (fun d => slotOf d == n)).find? (fun d =>
      (s.blk d 0 (s.keyBlk d)).st != .retired))

/-- The key blocks with lost ones replaced, four while there are slots for them. -/
def State.keyFull (s : State) : List KeyBlk :=
  let l := s.md.keyBlks.filter (fun b => s.keyAlive b)
  l ++ ((s.keyDies l).take (4 - l.length)).map (fun d =>
    ⟨d, List.replicate (planesOf (s.mediaOf d)) (s.keyBlk d), 0, none⟩)

/-- The table that a change writes: TABLEGEN is one more, the entries are those of the namespaces, and one whose key could not be
unwrapped keeps its entry (R489, R490). -/
def State.newTable (s : State) (sanpend : Nat) : KeyTab :=
  let old := s.keyTable
  { gen := (old.map (fun t => t.gen)).getD 0 + 1, kek := s.rd Fd.SEC_FUSE_KEKGEN, sanpend := sanpend,
    keys := s.tr.ns.filterMap (fun n => match n.key with
      | some k => some (n.id, k)
      | none => (old.bind (fun t => t.keys.find? (fun e => e.1 == n.id)))) }

/-- Whole copies of a table that can be read. -/
def State.keyCopies (s : State) (t : KeyTab) : Nat := (s.md.keyBlks.filter (fun b => s.keyAlive b && b.tab == some t)).length

/-- Step 1 of a change: the whole table is written to two erased key blocks, or to as many as two copies lack. -/
def State.writeKeys (s : State) (j : KeyChange) (t : KeyTab) : State :=
  let blks := s.keyFull
  let dest := (blks.filter (fun b => b.pages == 0)).take (2 - s.keyCopies t)
  let s := s.updMd (fun m => { m with keyBlks := blks, keyJobs := m.keyJobs.set 0 { j with tab := some t } })
  s.each dest (fun s b => s.each (List.range keyPages) (fun s k =>
    (s.addOp { newOp .program .rfs b.die 0 .key with sb := b.blocks.getD 0 0, units := [k] }).2))

/-- The erases of stale key blocks that have not begun. -/
def State.eraseKeys (s : State) : State :=
  s.each (s.md.keyBlks.filter (fun b => s.keyStale b && !(s.md.erases.any (fun e => e.die == b.die && e.blocks == b.blocks)))) (fun s b =>
    (s.eraseIntent b.die b.blocks).getD s)

/-- The stale copies are erased; the result says whether none is left. -/
def State.cleanKeys (s : State) : Bool × State :=
  let s := s.eraseKeys
  (!(s.md.keyBlks.any (fun b => s.keyStale b)), s)

/-- The change at the front goes on as far as it can (R489): what stale copies an interrupted change has left are erased, the table is
written, the older copies are erased, and the change ends; `some` with a change that has ended. Without a slot in use there is no copy
to write. -/
def State.pumpKeys (s : State) : Option KeyChange × State :=
  match s.md.keyJobs with
  | [] => (none, s)
  | j :: rest =>
    match j.tab with
    | none =>
      let r := s.cleanKeys
      if r.1 = false then (none, r.2)
      else if r.2.keyFull.isEmpty then (some j, r.2.updMd (fun m => { m with keyBlks := [], keyJobs := rest }))
      else (none, r.2.writeKeys j (r.2.newTable j.sanpend))
    | some t =>
      if s.md.ops.any (fun o => o.why == .key) then (none, s)
      else if s.keyCopies t < 2 ∧ s.keyFull.any (fun b => b.pages == 0) = true then (none, s.writeKeys j t)
      else
        let r := s.cleanKeys
        if r.1 then (some j, r.2.updMd (fun m => { m with keyJobs := rest })) else (none, r.2)

/-- A page of a key table is written: with the last one the block holds the table. -/
def State.keyPageDone (s : State) (o : Op) : State :=
  let t := s.md.keyJobs.head?.bind (fun j => j.tab)
  s.updMd (fun m => { m with keyBlks := updWhere (fun b => b.die == o.die && b.blocks.getD 0 0 == o.sb) (fun b => { b with
    pages := b.pages + 1, tab := if b.pages + 1 = keyPages then t else none }) m.keyBlks })

/-- A page of a key table fails to program: the block is retired, and the table is written to another one. -/
def State.keyPageFailed (s : State) (o : Op) : State :=
  let s := s.retireBlock o.die (List.replicate (planesOf (s.mediaOf o.die)) o.sb) 1
  s.updMd (fun m => { m with ops := m.ops.filter (fun x => !(x.why == .key && x.die == o.die && x.st != .busy)) })

/-- An erased key block holds nothing. -/
def State.keyErased (s : State) (die blk : Nat) : State :=
  s.updMd (fun m => { m with keyBlks := updWhere (fun b => b.die == die && b.blocks.getD 0 0 == blk) (fun b => { b with
    pages := 0, tab := none }) m.keyBlks })

/-- SEC_STAT.KEYBLK: a key block awaits replacement. -/
def State.keyMissing (s : State) : Bool := s.md.keyBlks.any (fun b => !s.keyAlive b)

/-- Queue a change of the key table for a command. -/
def State.changeKeys (s : State) (sanpend ctx : Nat) : State :=
  s.updMd (fun m => { m with keyJobs := m.keyJobs ++ [⟨sanpend, ctx, none⟩] })

end Sys2Proof.Machine
end

