-- ==== Sys2Proof/Machine/Ladder.lean ====
section
/-! DEFINITION. The read-retry ladder (R262 to R266) and the reconstruction of a code word from its stripe (R204, R268 to R270). -/

namespace Sys2Proof.Machine

/-! ### Attempts -/

/-- The attempt after a failed one (R264): rung 0 hard, soft with 3 reads, soft with 5 where SOFT5 is set; then each rung up to
LADMAX hard and soft; none beyond. -/
def nextTry (ladmax : Nat) (soft5 : Bool) : Nat × Nat → Option (Nat × Nat)
  | (0, 0) => some (0, 1)
  | (0, 1) => some (if soft5 then (0, 2) else (1, 0))
  | (0, _) => some (1, 0)
  | (n + 1, 0) => some (n + 1, 1)
  | (n + 1, _) => if n + 1 < ladmax then some (n + 2, 0) else none

/-- Reads that an attempt adds: one for a hard decode, two for each widening of a soft one (R264). -/
def readsOf (phase : Nat) : Nat := if phase = 0 then 1 else 2

def State.climb (s : State) (id : Nat) : Option Climb := s.md.climbs.find? (fun c => c.op.id == id)

def State.updClimb (s : State) (id : Nat) (f : Climb → Climb) : State :=
  s.updMd (fun m => { m with climbs := updWhere (fun c => c.op.id == id) f m.climbs })

def State.updCw (s : State) (id i : Nat) (f : CwClimb → CwClimb) : State :=
  s.updClimb id (fun c => { c with cws := updWhere (fun e => e.i == i) f c.cws })

/-- Queue a read that serves another one: its class, tenant, urgency and the step it was chosen in stay (R265). -/
def State.addServing (s : State) (o : Op) (why : OpWhy) (ppa : Nat) : State :=
  (s.addOp { newOp .read o.cls (ppaDie ppa) o.tenant why with ppa := ppa, urgent := o.urgent, step := o.step, kept := true }).2

/-- The lookup that a speculative read waits for above rung 0 hard (R266): 0 the ladder goes on, 1 it waits, 2 it is abandoned,
since the lookup returned another generation. -/
def State.specState (s : State) (o : Op) : Nat :=
  match o.why with
  | .stage _ _ => 1
  | .host id i => (match s.ctx id with
    | some c => (match c.results.find? (fun r => r.i == i && r.op == o.id), c.lookups.find? (fun l => l.i == i) with
      | some r, some l => if r.spec = false then 0 else if l.back = false then 1 else if r.gen = l.entry.gen then 0 else 2
      | _, _ => 0)
    | none => 0)
  | _ => 0

/-! ### Reconstruction (R269) -/

/-- The pages of the other members that a reconstruction of a page reads: those of the stripe at the same position; of an open
stripe only the programmed ones. -/
def State.stripePages (s : State) (ppa : Nat) : List Nat :=
  match s.sbOfPpa ppa with
  | none => []
  | some (x, me) =>
    let u := s.unitAt ppa
    let b := bitsOf (s.mediaOf (ppaDie ppa))
    let j := s.ppaPlane ppa * b + s.ppaPage ppa % b
    let open' := x.st == .open_ && u == x.stripe
    ((List.range x.members.length).filter (fun i => i != me && (!open' || x.done.contains i))).map (fun i =>
      s.unitPpa (x.members.getD i ⟨0, [], 0⟩) u j)

/-- The payload of a page position that the XOR starts from (R269 step 2): the partial parity of an open stripe. -/
def State.parityBase (s : State) (ppa : Nat) : List Sector :=
  match s.sbOfPpa ppa with
  | none => []
  | some (x, _) =>
    let u := s.unitAt ppa
    let b := bitsOf (s.mediaOf (ppaDie ppa))
    if x.st = .open_ ∧ u = x.stripe then
      ((s.partialOf x.id).getD []).getD (s.ppaPlane ppa * b + s.ppaPage ppa % b) []
    else []

/-- The XOR of the other members' payloads at a page (R269 step 3). -/
def State.rebuiltPage (s : State) (ppa : Nat) : List Sector :=
  (s.stripePages ppa).foldl (fun a p => xorPage a (s.page p).secs) (xorPage (s.parityBase ppa) [])

/-- Code word `i` of a page rebuilt: its sectors by index, or none where some GUARD fails (R269 step 4). A page in the parity
position is exempt (R263). -/
def State.rebuiltCw (s : State) (ppa i : Nat) : Option (List (Nat × Sector)) :=
  let whole := s.rebuiltPage ppa
  let parity := match s.sbOfPpa ppa with
    | some (x, me) => me == parityMember x.members.length (s.unitAt ppa)
    | none => false
  (List.range' (8 * i) 8).foldr (fun k acc => acc.bind (fun l =>
    let x := whole.getD k noPayload
    if parity then some ((k, x) :: l) else (readPayload x).map (fun y => (k, y) :: l))) (some [])

/-- The code word has its outcome. -/
def State.endCw (s : State) (id i rung : Nat) : State :=
  s.updCw id i (fun e => { e with res := some ⟨rung, false, 0, e.miscor, [], [], e.up⟩ })

/-- Every code word of the other members has come: the XOR and its GUARD check decide rung 15. -/
def State.settleRecon (s : State) (c : Climb) (i : Nat) : State :=
  match s.rebuiltCw c.op.ppa i with
  | some l => (s.endCw c.op.id i 15).updClimb c.op.id (fun c => { c with secs := l ++ c.secs })
  | none => s.endCw c.op.id i 16

/-- Take a code word to rung 15 (R264, R270): reads of the other members, where it may be attempted. A read for a reconstruction or
a calibration read goes no further than LADMAX (R269, R298). -/
def State.toRecon (s : State) (c : Climb) (i : Nat) : State :=
  let no := match c.op.why with
    | .recon _ _ => true
    | .calib _ _ => true
    | _ => !s.canRecon c.op.ppa
  if no then s.endCw c.op.id i 17
  else
    let ps := s.stripePages c.op.ppa
    if ps.isEmpty then s.settleRecon c i
    else
      s.each ps (fun s p => s.addServing c.op (.recon c.op.id i) p) |>.updCw c.op.id i (fun e => { e with
        rung := 15, phase := 0, left := 0, need := ps.length })

/-! ### The climb -/

/-- Take a code word from a failed attempt to the next (R264, R266). -/
def State.climbOn (s : State) (c : Climb) (e : CwClimb) : State :=
  match nextTry (s.rd Fd.ECC_CFG_LADMAX) (s.rd Fd.ECC_CFG_SOFT5 == 1) (e.rung, e.phase) with
  | some (r, p) =>
    let s := s.updCw c.op.id e.i (fun e => { e with rung := r, phase := p, left := readsOf p - 1, up := e.up || decide (1 ≤ r) })
    s.addServing c.op (.rung c.op.id e.i) c.op.ppa
  | none => s.toRecon c e.i

/-- An attempt succeeded: the decoder recovered the code word, which was not reported as erased in a programmed page (R262). -/
def State.tryOk (s : State) (ppa : Nat) (t : CwTry) : Bool :=
  t.ok && !(decide (t.zeros < s.rd Fd.ECC_CFG_ERASEDTHR) && !(s.page ppa).secs.isEmpty)

/-- The outcome of an attempt of a code word; a failed attempt at rung 0 hard of a speculative read waits, or ends the ladder as
exhausted (R266). -/
def State.tried (s : State) (id i : Nat) (t : CwTry) (us : List Int) : State :=
  match s.climb id with
  | none => s
  | some c => match c.cws.find? (fun e => e.i == i && e.res.isNone) with
    | none => s
    | some e =>
      let mis := e.miscor + boolNat t.miscor
      let s := s.updCw id i (fun e => { e with miscor := mis })
      if s.tryOk c.op.ppa t then
        s.updCw id i (fun e => { e with res := some ⟨e.rung, e.phase != 0, t.bits, mis, t.asym, us, e.up⟩ })
      else if e.rung = 0 ∧ e.phase = 0 then
        match s.specState c.op with
        | 0 => s.climbOn c e
        | 1 => s.updClimb id (fun c => { c with held := true })
        | _ => s.endCw id i 17
      else s.climbOn c e

/-- A code word's climb as it begins. -/
def cwStart (i : Nat) : CwClimb := ⟨i, none, 0, 0, 0, 0, 0, false, false⟩

/-- The code words that a read decodes: its own four, or the one that its reconstruction needs. -/
def cwsOf (o : Op) : List Nat := match o.why with | .recon _ i => [i] | _ => [0, 1, 2, 3]

/-- Begin the climb of a read whose first decode has come. -/
def State.startClimb (s : State) (o : Op) : State :=
  s.updMd (fun m => { m with climbs := m.climbs ++ [⟨o, (cwsOf o).map cwStart, false, [], [], [], none⟩] })

/-- The final decode of a read, once each of its code words has its outcome; its climb ends. -/
def State.endClimb (s : State) (id : Nat) : State × Option (Op × ReadRes) :=
  match s.climb id with
  | none => (s, none)
  | some c =>
    if c.cws.all (fun e => e.res.isSome) then
      let cws := c.cws.filterMap (fun e => e.res)
      (s.updMd (fun m => { m with climbs := m.climbs.filter (fun x => x.op.id != id) }),
        some (c.op, ⟨decodedSecs (s.page c.op.ppa) cws c.secs, cws, c.side, c.badTags, c.piFail⟩))
    else (s, none)

/-- The index of a code word's attempt in what its read reports. -/
def tryOf (r : DecodeRes) (i : Nat) : CwTry := r.cws.getD i ⟨false, false, 0, 0, []⟩

/-- Carry a read's decode to its climb: the attempt decodes when the last of its reads has come (R264, R265). A first read begins
the climb. The answer is the read whose decode is final, if one is. -/
def State.attempt (s : State) (o : Op) (res : DecodeRes) : State × Option (Op × ReadRes) :=
  match o.why with
  | .rung id i => (match (s.climb id).bind (fun c => c.cws.find? (fun e => e.i == i)) with
    | none => (s, none)
    | some e =>
      if 0 < e.left then ((s.updCw id i (fun e => { e with left := e.left - 1 })).addServing o o.why o.ppa, none)
      else
        let s := s.updClimb id (fun c => { c with
          badTags := c.badTags ++ res.badTags.filter (fun k => decide (k / 8 = i)),
          piFail := if c.piFail.isSome then c.piFail else res.piFail })
        (s.tried id i (tryOf res i) o.us).endClimb id)
  | _ =>
    let s := (s.startClimb o).updClimb o.id (fun c => { c with badTags := res.badTags, piFail := res.piFail })
    (s.each (cwsOf o) (fun s i => s.tried o.id i (tryOf res i) o.us)).endClimb o.id

/-- A read that yields nothing, because its die is gone or it timed out twice (R63, R237): its code words go on at rung 15. -/
def State.failRead (s : State) (o : Op) : State × Option (Op × ReadRes) :=
  match o.why with
  | .rung id i => (match s.climb id with
    | none => (s, none)
    | some c => (s.toRecon c i).endClimb id)
  | _ =>
    let s := s.startClimb o
    match s.climb o.id with
    | none => (s, none)
    | some c => (s.each (cwsOf o) (fun s i => s.toRecon c i)).endClimb o.id

/-- The read of another member has its decode (R269): the climb it serves takes it, and settles its code word with the last. -/
def State.reconGot (s : State) (id i : Nat) (o : Op) (r : ReadRes) : State × Option (Op × ReadRes) :=
  match s.climb id with
  | none => (s, none)
  | some c => match c.cws.find? (fun e => e.i == i && e.res.isNone) with
    | none => (s, none)
    | some e =>
      let fail := e.fail || r.cws.any (fun w => w.lost)
      let s := s.updClimb id (fun c => { c with side := c.side ++ [⟨o.ppa, r.cws⟩] })
      let s := s.updCw id i (fun e => { e with need := e.need - 1, fail := fail })
      if 1 < e.need then (s, none)
      else if fail then (s.endCw id i 16).endClimb id
      else (s.settleRecon c i).endClimb id

/-- The lookup that a held climb of a command's tart waits for has returned (R266): it goes on, or is abandoned. -/
def State.resumeClimb (s : State) (id : Nat) : State × Option (Op × ReadRes) :=
  match s.climb id with
  | none => (s, none)
  | some c =>
    let open' := c.cws.filter (fun e => e.res.isNone && e.rung == 0 && e.phase == 0)
    match s.specState c.op with
    | 1 => (s, none)
    | 0 => ((s.updClimb id (fun c => { c with held := false })).each open' (fun s e => s.climbOn c e)).endClimb id
    | _ => (s.each open' (fun s e => s.endCw id e.i 17)).endClimb id

/-- A read in its die or on the ladder, for the rules that wait for reads of a die block (R281). -/
def State.readsOf (s : State) : List Op := s.md.ops.filter (fun o => o.kind == .read) ++ s.md.climbs.map (fun c => c.op)

end Sys2Proof.Machine
end

