-- ==== Sys2Proof/Machine/ReadPath.lean ====
section
/-! DEFINITION. The read path (R37, R38, R176 to R189): lookup batches, speculation, confirmation and completion, with the
commands MAP_LOOKUP_RETURN, FLASH_READ_RESULT, WATCH_COUNT_LIMIT and STAGED_TART_EXPIRY. -/

namespace Sys2Proof.Machine

/-! ### The watch table (R180) -/

/-- Watch entries of a kind in use; command reads and merge reads share theirs. -/
def State.watchUse (s : State) (kind : Nat) : Nat :=
  (s.tr.watch.filter (fun w => w.kind == kind || (w.kind == 0 && kind == 3) || (w.kind == 3 && kind == 0))).length

def watchShare (kind : Nat) : Nat := if kind = 1 then 32768 else 16384

def State.watchFree (s : State) (kind : Nat) : Bool := decide (s.watchUse kind < watchShare kind)

def State.addWatch (s : State) (kind item ltn : Nat) : State :=
  let id := s.tr.nextId
  s.updTr (fun t => { t with watch := t.watch ++ [⟨id, kind, item, ltn, 0⟩], nextId := id + 1 })

def State.dropWatch (s : State) (kind item ltn : Nat) : State :=
  s.updTr (fun t => { t with watch := t.watch.filter (fun w => !(w.kind == kind && w.item == item && w.ltn == ltn)) })

/-! ### The predictor (R185) -/

/-- An empty predictor entry names no logical tart. -/
def noPred : Pred := ⟨2 ^ 35, 0, 0⟩

def State.predAt (s : State) (ltn : Nat) : Pred := spGet (fun _ => noPred) s.tr.pred (ltn % 16384)

def State.setPred (s : State) (ltn : Nat) (p : Pred) : State :=
  let old := s.predAt ltn
  (s.dropWatch 2 (ltn % 16384) old.ltn).updTr (fun t => { t with pred := spSet (fun _ => noPred) t.pred (ltn % 16384) p })

/-- A lookup that returns fills the predictor; an entry without a location leaves none (DEDUCED, log entry 33). -/
def State.fillPred (s : State) (ltn : Nat) (e : MapEntry) (located : Bool) : State :=
  if located then (s.setPred ltn ⟨ltn, e.ppa, e.gen⟩).addWatch 2 (ltn % 16384) ltn
  else if (s.predAt ltn).ltn = ltn then s.setPred ltn noPred
  else s

/-! ### Entries (R166) -/

/-- An entry that names data at a flash address. -/
def MapEntry.located (e : MapEntry) : Bool := !e.dealloc && decide (e.ppa ≠ lostPpa)

/-- The combinations that R166 lists. -/
def MapEntry.legal (e : MapEntry) : Bool :=
  if e.dealloc then !e.poison && e.ppa == 0 else e.poison || decide (e.ppa ≠ lostPpa)

/-- An entry combines its fields as R166 lists; one that names a die the variant does not have does not (R194). -/
def State.legal (s : State) (e : MapEntry) : Bool :=
  e.legal && (e.dealloc || e.ppa == lostPpa || decide (ppaDie e.ppa < s.variant.diesN))

/-- A map lookup returns an entry (R166, R185): it fills the predictor, and another combination is a data-path fault, whose entry
serves no data. -/
def State.lookedUp (s : State) (ltn : Nat) (e : MapEntry) : State :=
  if s.legal e then s.fillPred ltn e e.located else s.dpFaultHere 4

/-! ### Results -/

/-- The result that a command has for its tart `i`. -/
def Ctx.result (c : Ctx) (i : Nat) : Option Result := c.results.find? (fun r => r.i == i)

def State.updResult (s : State) (id i : Nat) (f : Result → Result) : State :=
  s.updCtx id (fun c => { c with results := updWhere (fun r => r.i == i) f c.results })

def newResult (i gen ppa : Nat) (spec : Bool) (op : Nat) : Result :=
  ⟨i, gen, ppa, spec, op, false, false, false, false, [], [], [], [], none⟩

/-- Read a tart of a command at a location with a recorded generation, once a watch entry is free (R180). -/
def State.readTart (s : State) (c : Ctx) (i ltn : Nat) (e : MapEntry) (spec : Bool) : State :=
  if s.watchFree 0 = false then s
  else
    let r := s.addRead .host (s.tenantOf c.fn) c.urgent (.host c.id i) e.ppa
    (r.2.updCtx c.id (fun c => { c with results := c.results ++ [newResult i e.gen e.ppa spec r.1] })).addWatch 0 c.id ltn

/-- Drop the result of a tart with its watch. -/
def State.dropResult (s : State) (id i ltn : Nat) : State :=
  (s.updCtx id (fun c => { c with results := c.results.filter (fun r => r.i != i) })).dropWatch 0 id ltn

/-- The lookups of a command's batch that need flash and have returned. -/
def Ctx.flashLookups (c : Ctx) : List Lookup := c.lookups.filter (fun l => l.back && !l.served && l.entry.located)

/-- Issue the reads of a command's tarts that have none; one that finds no free watch entry waits for the next try (R180). -/
def State.pumpReads (s : State) (id : Nat) : State :=
  match s.ctx id with
  | none => s
  | some c => s.each (c.flashLookups.filter (fun l => (c.result l.i).isNone)) (fun s l =>
      s.readTart c l.i l.ltn l.entry false)

/-! ### Batches (R176) -/

/-- The versions of a tart that the index holds (R171), oldest commit first. -/
def State.indexOf (s : State) (ltn : Nat) : List Ver :=
  sortBy (fun a b => decide (a.oseq < b.oseq))
    (s.tr.vers.filter (fun v => v.ltn == ltn && (v.st == .committed || v.st == .programming)))

/-- The lookups of a batch over the tarts of a range. -/
def State.batch (s : State) (ts : List (Nat × List Nat)) : List Lookup :=
  (ts.zip (List.range ts.length)).map (fun p =>
    let vs := s.indexOf p.1.1
    let served := p.1.2.all (fun i => vs.any (fun v => v.secs.any (fun q => q.1 == i)))
    ⟨p.2, p.1.1, vs.map (fun v => v.id), served, s.mapEntry p.1.1, served⟩)

/-- The staged tart that an operation reads. -/
def Staged.readBy (g : Staged) (o : Op) : Bool := o.why == .stage g.fn g.ns && o.ppa == g.ppa

/-- The staged tart becomes a result of the consuming command: its watch entry and its place in the staging region end. -/
def State.takeStaged (s : State) (c : Ctx) (g : Staged) (r : Result) : State :=
  let s := s.updTr (fun t => { t with staged := t.staged.filter (fun x => x.id != g.id) })
  ((s.dropWatch 1 g.id g.ltn).updCtx c.id (fun c => { c with results := c.results ++ [r] })).addWatch 0 c.id g.ltn

/-- Staged data of a function and namespace is a result of the consuming command, held to its batch (R184); one whose ladder waits
for that batch's lookup goes on as the command's read (R266). -/
def State.useStaged (s : State) (c : Ctx) (l : Lookup) : State :=
  match s.tr.staged.find? (fun g => g.fn == c.fn && g.ns == c.nsid && g.ltn == l.ltn) with
  | some g =>
    if s.watchFree 0 = false then s
    else match g.dec with
      | some d => s.takeStaged c g { newResult l.i g.gen g.ppa true 0 with
          final := true, secs := d.secs, cws := d.cws, side := d.side, badTags := d.badTags, piFail := d.piFail }
      | none => (match s.md.climbs.find? (fun k => g.readBy k.op) with
        | some k =>
          (s.updClimb k.op.id (fun x => { x with
            op := { x.op with why := .host c.id l.i, tenant := s.tenantOf c.fn, urgent := c.urgent } })).takeStaged c g
            (newResult l.i g.gen g.ppa true k.op.id)
        | none => s)
  | none => s

/-- Predicted-location sensing is on: the map port's estimated wait exceeds the threshold (R183's table, R353). -/
def State.predicting (s : State) : Bool :=
  s.rd Fd.MAP_PREDCFG_EN == 1 && decide (s.rd Fd.MAP_PREDCFG_THRESH < s.rd Fd.DRC_MAPWAIT_EST)

/-- Open a batch for a command (R176, R182): the index and the map as they stand are what the command observes; versions
it serves from are pinned (R171); from its fourth batch the command's tarts are held. The first batch takes staged and
predicted data. -/
def State.openBatch (s : State) (id : Nat) : State :=
  match s.ctx id with
  | none => s
  | some c => match s.ns c.nsid with
    | none => s
    | some n =>
      let ls := s.batch (n.tarts c.slba c.nlb)
      let vids := ls.flatMap (fun l => l.vids)
      let first := c.batches = 0
      let s := s.updCtx id (fun c => { c with
        batches := c.batches + 1, lookups := ls, refs := c.refs ++ vids, hold := c.batches + 1 == 4 })
      let s := s.each vids (fun s v => s.updVer v (fun v => { v with pins := v.pins + 1 }))
      let s := s.when (c.batches + 1 == 4) (fun s => s.count Fd.MAP_CNT_HOLD_COUNT)
      if first then
        s.each (ls.filter (fun l => !l.served)) (fun s l =>
          let s := s.useStaged c l
          let p := s.predAt l.ltn
          if ((s.ctx id).bind (fun c => c.result l.i)).isSome then s
          else if s.predicting = true ∧ p.ltn = l.ltn then s.readTart c l.i l.ltn ⟨p.ppa, p.gen, false, false⟩ true
          else s)
      else s

/-- Re-run a command (R182): the results that name the new batch's generations are kept, and held by the watch again. -/
def State.rerun (s : State) (id : Nat) : State :=
  let s := (s.count Fd.MAP_CNT_RERUN_COUNT).openBatch id
  match s.ctx id with
  | none => s
  | some c =>
    let keep := fun (r : Result) => !r.dead && (match c.lookups.find? (fun l => l.i == r.i) with
      | some l => !l.served && r.gen == l.entry.gen
      | none => false)
    let stale := fun (r : Result) => !keep r || c.lookups.any (fun l => l.i == r.i && !l.vids.isEmpty)
    let s := s.count Fd.MAP_CNT_ETRW_COUNT (c.results.filter (fun r => r.early && stale r)).length
    let s := s.updTr (fun t => { t with watch := t.watch.filter (fun w => !(w.kind == 0 && w.item == id)) })
    let s := s.updCtx id (fun c => { c with
      results := (c.results.filter keep).map (fun r => { r with confirmed := false }) })
    s.each (c.results.filter keep) (fun s r =>
      s.addWatch 0 id (((c.lookups.find? (fun l => l.i == r.i)).map (fun l => l.ltn)).getD 0))

/-! ### Completion (R183) -/

/-- The sector that a command returns for sector `i` of a tart: of the newest version of the batch that writes it, else
of the result, a zero sector, or poison where the tart is lost (R166, R177). -/
def State.sectorOf (s : State) (c : Ctx) (l : Lookup) (i : Nat) : Sector :=
  let vs := l.vids.reverse.filterMap (fun v => s.ver v)
  match vs.find? (fun v => v.secs.any (fun q => q.1 == i)) with
  | some v =>
    let x := ((v.secs.find? (fun q => q.1 == i)).map (fun q => q.2)).getD emptySector
    if v.primBad then { x with tag := .poison } else x
  | none =>
    if l.entry.dealloc then s.zeroSec l.ltn i
    else if l.entry.ppa = lostPpa then poisonSector
    else ((c.result l.i).map (fun r => r.secs.getD i emptySector)).getD emptySector

/-- A sector of a tart comes from the flash result, not from a version. -/
def State.fromFlash (s : State) (l : Lookup) (i : Nat) : Bool :=
  l.entry.located && !(l.vids.any (fun v => match s.ver v with
    | some v => v.secs.any (fun q => q.1 == i)
    | none => false))

/-- A sector's tag names the logical sector that is read; the poison mark stands for any (R271, R273). -/
def tagNames (x : Sector) (lsn : Nat) : Bool := x.tag == .data lsn || x.tag == .poison

/-- A sector fails a tag check at XTS or PCIe egress (R40, R273): its tag names another sector, the pipeline reports it, or the
write-buffer copy that it comes from has a bad tag. -/
def State.tagBad (s : State) (c : Ctx) (l : Lookup) (i : Nat) : Bool :=
  !(tagNames (s.sectorOf c l i) (l.ltn * 32 + i)) ||
    (s.fromFlash l i && (match c.result l.i with | some r => r.badTags.contains i | none => false)) ||
    (match (l.vids.reverse.filterMap (fun v => s.ver v)).find? (fun v => v.secs.any (fun q => q.1 == i)) with
    | some v => v.primTag && !v.primBad
    | none => false)

/-- Every lookup has returned and every result is confirmed against the last batch. -/
def Ctx.allConfirmed (c : Ctx) : Bool :=
  decide (0 < c.batches) && c.lookups.all (fun l => l.served || (l.back && (!l.entry.located ||
    (match c.result l.i with | some r => r.confirmed | none => false))))

/-- The command's own transfers have come in: descriptor lists, and the data of a Compare. -/
def Ctx.hostReady (c : Ctx) : Bool := c.listsLeft == 0 && (c.cmd != .compare || (c.bytesLeft == 0 && c.reads.isEmpty))

/-- The outcome of a read whose sectors `out` (tart, sector, data) are confirmed: poison first, then the outcome of the
protection information check, then the comparison of a Compare (R274, R276, R277, R178). -/
def readStatus (c : Ctx) (out : List Sector) (pi : Option Nat) : Nat × Nat :=
  if out.any (fun x => x.tag == .poison) then (2, 0x81)
  else match pi with
    | some sc => (2, sc)
    | none =>
      if c.cmd = .compare ∧ (out.zip (List.range out.length)).any (fun p =>
          ((c.data.find? (fun d => d.1 == p.2)).map (fun d => decide (d.2.data ≠ p.1.data ∨ d.2.md ≠ p.1.md))).getD true) = true
      then (2, 0x85) else (0, 0)

/-- The place of a tart's sectors among those of a command: the sectors of the tarts before it. -/
def partBase (ts : List (Nat × List Nat)) (i : Nat) : Nat := sumOf (fun (t : Nat × List Nat) => t.2.length) (ts.take i)

/-- Send sectors of a tart of a command to its buffer (R37 step 6, R93, R118): nothing to a Bit Bucket; into the CMB where the buffer
lies there; else to host memory. `ro` is the Relaxed Ordering attribute of the writes, where the function's enable allows it. -/
def State.sendData (s : State) (c : Ctx) (i : Nat) (secs : List (Nat × Sector)) (early ro : Bool) : State :=
  if c.xfer.bitBucket ∨ secs.isEmpty then s
  else if c.xfer.cmb then
    match s.ns c.nsid, s.cmbWin c.fn with
    | some n, some w =>
      let ts := n.tarts c.slba c.nlb
      let base := partBase ts i
      let mine := (ts.getD i (0, [])).2
      s.each secs (fun s q => s.cmbSector (w.tgt + c.xfer.addr) n c.nlb (base + mine.idxOf q.1) q.2)
    | _, _ => s
  else s.emit (.hostData c.fn c.cid i secs early (ro && (s.fn c.fn).cfg.ro))

/-- The sectors of a tart that are still to be sent: after an early transfer only those that the last batch takes from versions, since
the confirmed result is the one sent (R37 step 6, R177, R187). -/
def State.unsent (s : State) (c : Ctx) (l : Lookup) (secs : List (Nat × Sector)) : List (Nat × Sector) :=
  match c.result l.i with
  | some r => if r.early then secs.filter (fun q => !s.fromFlash l q.1) else secs
  | none => secs

/-- A command whose results are all confirmed sends its data and completes (R183, R273 to R277). No write over a range that was
transferred early carries Relaxed Ordering (R187). -/
def State.finishRead (s : State) (c : Ctx) (n : Ns) : State :=
  let ts := n.tarts c.slba c.nlb
  let parts := (c.lookups.zip ts).map (fun p => (p.1, p.2.2.map (fun i => (i, s.sectorOf c p.1 i))))
  let bad := sumOf (fun p => (p.2.2.filter (fun i => s.tagBad c p.1 i)).length) (c.lookups.zip ts)
  let pi := c.lookups.findSome? (fun l => if l.served then none else (c.result l.i).bind (fun r => r.piFail))
  let st := if bad ≠ 0 then (2, 0x81) else readStatus c (parts.flatMap (fun p => p.2.map (fun q => q.2))) pi
  let out := parts.map (fun p => (p.1, (s.unsent c p.1 p.2).filter (fun q => !s.tagBad c p.1 q.1)))
  let s := if bad ≠ 0 then (s.count Fd.ECC_CNT_TAGERR_COUNT bad).dpFaultHere 4 else s
  let s := if c.cmd = .read then s.each out (fun s p => s.sendData c p.1.i p.2 false (!c.sent)) else s
  s.finish c.id st.1 st.2 0

/-- Complete a command that has everything it needs; the data of a Read goes out only while its function may send (R75, R102,
R111). -/
def State.tryFinish (s : State) (id : Nat) : State :=
  match s.ctx id with
  | none => s
  | some c =>
    if c.status.isNone ∧ c.allConfirmed = true ∧ c.hostReady = true ∧ (c.cmd ≠ .read ∨ s.canSend c.fn = true) then
      match s.ns c.nsid with
      | some n => s.finishRead c n
      | none => s
    else s

/-- The reads that waited to send their data go on. -/
def State.resumeReads (s : State) : State :=
  s.each ((s.nv.ctxs.filter (fun c => c.cmd == .read || c.cmd == .compare || c.cmd == .verify)).map (fun c => c.id))
    (fun s id => s.tryFinish id)

/-! ### Confirmation (R181) -/

/-- Step 3 of R181: a failed speculation is discarded; its tart is read again at the looked-up PPA. -/
def State.failSpec (s : State) (id : Nat) (l : Lookup) (r : Result) : State :=
  let s := s.count Fd.MAP_CNT_SPECFAIL_COUNT
  let s := s.when r.early (fun s => s.count Fd.MAP_CNT_ETRW_COUNT)
  (s.dropResult id l.i l.ltn).pumpReads id

/-- Step 6 of R181: a result is confirmed; its statistics are applied (R189). -/
def State.confirmResult (s : State) (id : Nat) (l : Lookup) (r : Result) : State :=
  let s := s.applyStats r.ppa l.ltn r.cws r.side .host
  (s.updResult id l.i (fun r => { r with confirmed := true, cws := [], side := [] })).dropWatch 0 id l.ltn

/-- Steps 1 to 6 of R181 for the result of one tart. -/
def State.confirm (s : State) (id i : Nat) : State :=
  match s.ctx id with
  | none => s
  | some c => match c.flashLookups.find? (fun l => l.i == i), c.result i with
    | some l, some r =>
      if r.final = false ∨ r.confirmed = true then s
      else if r.gen ≠ l.entry.gen then s.failSpec id l r
      else if (s.mapEntry l.ltn).gen ≠ l.entry.gen ∨ r.dead = true then s.rerun id
      else s.confirmResult id l r
    | _, _ => s

/-- Take a command's results as far as they go. -/
def State.advance (s : State) (id : Nat) : State :=
  match s.ctx id with
  | none => s
  | some c => (s.each (c.lookups.map (fun l => l.i)) (fun s i => s.confirm id i)).tryFinish id

/-! ### Flash results (R179) -/

/-- An early transfer is allowed for a result (R186). -/
def State.mayTransferEarly (s : State) (c : Ctx) (r : Result) : Bool :=
  bit (s.rd Fd.MAP_ETCFG_EN (c.fn / 32)) (c.fn % 32) && r.spec && c.cmd == .read && !c.xfer.bitBucket && s.canSend c.fn &&
    c.listsLeft == 0 && r.cws.all (fun w => w.rung == 0 && !w.soft) && r.badTags.isEmpty && r.piFail.isNone &&
    c.lookups.any (fun l => l.i == r.i && l.vids.isEmpty &&
      (r.secs.zip (List.range 32)).all (fun p => p.1.tag == .data (l.ltn * 32 + p.2)))

/-- A result of a command's read: final, sent early where R186 allows, then confirmed as far as its batch has gone. -/
def State.hostResult (s : State) (id i : Nat) (o : Op) (d : ReadRes) : State :=
  match s.ctx id with
  | none => s
  | some c => match c.results.find? (fun r => r.i == i && r.op == o.id && !r.final) with
    | none => s
    | some r =>
      let r := { r with
        final := true, secs := d.secs, cws := d.cws, side := d.side, badTags := d.badTags, piFail := d.piFail }
      let early := s.mayTransferEarly c r
      let s := s.updResult id i (fun _ => { r with early := early })
      let secs := match s.ns c.nsid with | some n => (n.tarts c.slba c.nlb).getD i (0, []) | none => (0, [])
      let s := if early then (s.sendData c i (secs.2.map (fun k => (k, r.secs.getD k emptySector))) true false).updCtx id
          (fun c => { c with sent := true }) else s
      s.advance id

/-- A staged tart's read (R184). -/
def State.stageResult (s : State) (o : Op) (d : ReadRes) : State :=
  s.updTr (fun t => { t with
    staged := updWhere (fun g => g.readBy o && g.dec.isNone) (fun g => { g with dec := some d }) t.staged })

/-- What a merge takes from an entry that names no data: zeros where it is deallocated, else the poison mark (R166, R168). -/
def State.unmapped (s : State) (ltn : Nat) (e : MapEntry) : List Sector :=
  (List.range 32).map (fun i => if e.dealloc && s.legal e then s.zeroSec ltn i else poisonSector)

/-- A merge read (R173), confirmed as R181 and R182 confirm a command's: a result that no longer names its tart is read
again. -/
def State.mergeResult (s : State) (id : Nat) (o : Op) (d : ReadRes) : State :=
  match s.tr.merges.find? (fun m => m.id == id) with
  | none => s
  | some m =>
    let e := s.mapEntry m.ltn
    let s := s.dropWatch 3 id m.ltn
    if m.dead = true ∨ e.gen ≠ m.gen then
      let s := s.lookedUp m.ltn e
      if e.located = true ∧ s.legal e = true then
        let s := s.updTr (fun t => { t with
          merges := updWhere (fun x => x.id == id) (fun x => { x with gen := e.gen, ppa := e.ppa, dead := false }) t.merges })
        ((s.addRead o.cls o.tenant o.urgent (.merge id) e.ppa).2).addWatch 3 id m.ltn
      else s.updTr (fun t => { t with
        merges := updWhere (fun x => x.id == id) (fun x => { x with
          secs := some (s.unmapped m.ltn e) }) t.merges })
    else
      let s := (s.applyStats o.ppa m.ltn d.cws d.side .host)
      s.updTr (fun t => { t with merges := updWhere (fun x => x.id == id) (fun x => { x with secs := some d.secs }) t.merges })

/-- The sectors of a page read by the copy datapath whose tag does not name the logical tart (R273): as read, or as the datapath
reports. -/
def wrongTags (ltn : Nat) (d : ReadRes) : List Nat :=
  (List.range 32).filter (fun i => d.badTags.contains i || !(tagNames (d.secs.getD i emptySector) (ltn * 32 + i)))

/-- A relocation's read (R208 step 2, R210): sectors that are not recovered, or whose tag names another logical tart
(R273), are copied with the poison tag. -/
def State.copyResult (s : State) (victim ltn cls : Nat) (o : Op) (d : ReadRes) : State :=
  let bad := wrongTags ltn d
  let secs := (d.secs.zip (List.range 32)).map (fun p => if bad.contains p.2 then poisonSector else p.1)
  let lost := sumOf (fun i => if bad.contains i || decide (16 ≤ (d.cws.map (fun c => c.rung)).getD (i / 8) 0) then 2 ^ i else 0)
    (List.range 32)
  let s := s.applyStats o.ppa ltn d.cws d.side .bg
  let s := if bad.isEmpty then s
    else (s.count Fd.ECC_CNT_TAGERR_COUNT bad.length).dpFaultHere (ppaDie o.ppa / 256)
  s.updMd (fun m => { m with
    copies := m.copies ++ [⟨ltn, secs, [], some o.ppa, secs.any (fun x => x.tag == .poison), lost, cls, victim⟩] })

/-- The counts that a page read adds to the summary of a range scrub (R283). -/
def Scrub.add (x : Scrub) (cws : List CwRes) (p : Page) (queued : Nat) : Scrub :=
  let n := fun (f : CwRes → Bool) => (cws.filter f).length
  { x with
    read := x.read + cws.length, soft := x.soft + n (fun c => c.rung == 0 && c.soft),
    ladder := x.ladder + n (fun c => decide (1 ≤ c.rung) && decide (c.rung < 15)), recon := x.recon + n (fun c => c.rung == 15),
    unrec := x.unrec + n (fun c => c.lost),
    poisoned := x.poisoned + (p.secs.filter (fun y => y.tag == .poison)).length,
    cbmax := max x.cbmax (cws.foldl (fun a c => max a c.bits) 0), refresh := x.refresh + queued }

/-- A patrol or scrub read (R280, R273): statistics and triggers; an exhausted code word of a valid tart is recorded. -/
def State.patrolResult (s : State) (o : Op) (d : ReadRes) (scrub : Bool) : State :=
  let p := s.page o.ppa
  let ltn := p.ltn.getD 0
  let before := s.md.rfs.length
  let bad := if p.ltn.isSome then wrongTags ltn d else []
  let s := s.applyStats o.ppa ltn d.cws d.side .bg
  let s := if p.ltn.isSome ∧ s.validAt o.ppa ltn = true ∧ d.cws.any (fun c => c.lost) = true then
      s.aev 0 0x0802 [ppaDie o.ppa, s.ppaBlk o.ppa, s.ppaPage o.ppa, ltn]
    else s
  let s := if bad.isEmpty then s
    else (s.count Fd.ECC_CNT_TAGERR_COUNT bad.length).dpFaultHere (ppaDie o.ppa / 256)
  if scrub then
    s.updMd (fun m => { m with scrub := m.scrub.map (fun x => x.add d.cws p (m.rfs.length - before)) })
  else s

/-- The GC class of a relocation: that of the victim superblock, 4 for a refresh, which reads in RFS slots. -/
def State.copyClass (s : State) (sb : Nat) (cls : SlotCls) : Nat :=
  if cls = .rfs then 4 else match s.sb sb with
  | some x => x.cls
  | none => 1

/-- A calibration read (R298, R299): its statistics are taken; it triggers neither refresh nor retirement, and a code
word that rung LADMAX fails counts in RGL_CNT_CALFAIL alone. -/
def State.calibResult (s : State) (o : Op) (d : ReadRes) : State :=
  let ok := d.cws.filter (fun c => decide (c.rung < 15))
  ((s.count Fd.RGL_CNT_CALFAIL_COUNT (d.cws.length - ok.length)).countCws o.ppa ok).measure o.ppa ok .calib

/-- The payloads of a programmed member of an open stripe have been read to compute its parity again (R206): the last of the reads
leaves the partial parity complete. -/
def State.closeResult (s : State) (sb : Nat) (o : Op) (d : ReadRes) : State :=
  let b := bitsOf (s.mediaOf (ppaDie o.ppa))
  let j := s.ppaPlane o.ppa * b + s.ppaPage o.ppa % b
  let old := (s.partialOf sb).getD []
  s.updMd (fun m => { m with partials := (m.partials.filter (fun p => p.sb != sb)) ++
    [⟨sb, (List.range (max old.length (j + 1))).map (fun i =>
      if i = j then xorPage (old.getD i []) d.secs else old.getD i [])⟩] })

/-- A read's decode is final: the result goes to what asked for it. -/
def State.deliverRead (s : State) (o : Op) (res : ReadRes) : State :=
  match o.why with
  | .host id i => s.hostResult id i o res
  | .stage _ _ => s.stageResult o res
  | .merge id => s.mergeResult id o res
  | .copy sb ltn => s.copyResult sb ltn (s.copyClass sb o.cls) o res
  | .patrol => s.patrolResult o res false
  | .scrub => s.patrolResult o res true
  | .calib _ _ => s.calibResult o res
  | .close sb => s.closeResult sb o res
  | _ => s

/-- Deliver a final decode, if there is one; that of another member's page goes to the reconstruction it serves, which may end with
it (R269). -/
def readDone (r : State × Option (Op × ReadRes)) : State :=
  match r.2 with
  | none => r.1
  | some (o, d) => match o.why with
    | .recon id i =>
      let q := r.1.reconGot id i o d
      (match q.2 with | none => q.1 | some (p, e) => q.1.deliverRead p e)
    | _ => r.1.deliverRead o d

/-- FLASH_READ_RESULT (R37, R179, R262 to R270, R280): what a read in its die has transferred is decoded; the ladder goes on where that
fails, and the decode that becomes final with it goes to what asked for it. -/
def execFlashReadResult (op : Nat) (res : DecodeRes) (s : State) : Host.Outcome State Fault Refusal :=
  .next (match s.op op with
    | none => s
    | some o =>
      if o.kind ≠ .read ∨ o.st ≠ .busy ∨ o.left ≠ 0 then s
      else readDone (((s.dropOp o.id).setDie o.die (fun d => { d with noResp := 0 })).attempt o res))

/-- The ladders of a command's tart that waited for its lookup go on, or are abandoned (R266). -/
def State.resumeClimbs (s : State) (ctx i : Nat) : State :=
  s.each ((s.md.climbs.filter (fun c => c.held && c.op.why == .host ctx i)).map (fun c => c.op.id)) (fun s id =>
    readDone (s.resumeClimb id))

/-- MAP_LOOKUP_RETURN (R37 step 2, R162, R166, R181, R185): through the translation unit of the half that serves. -/
def execMapLookupReturn (ctx i : Nat) (s : State) : Host.Outcome State Fault Refusal :=
  .next (match s.ctx ctx with
    | none => s
    | some c => match c.lookups.find? (fun l => l.i == i && !l.back) with
      | none => s
      | some l =>
        if s.segHeld l.ltn = true ∨ s.serving = false then s else
        let s := (s.updCtx ctx (fun c => { c with
          lookups := updWhere (fun x => x.i == i) (fun x => { x with back := true }) c.lookups })).lookedUp l.ltn l.entry
        if s.legal l.entry then ((s.pumpReads ctx).resumeClimbs ctx i).advance ctx
        else s.finish ctx 2 0x81 0)

/-! ### Watch limit and staging -/

/-- The watched item of an entry whose count has reached 7 is discarded, or dropped from the predictor (R180). -/
def State.watchLimit (s : State) (w : Watch) : State :=
  let s := s.updTr (fun t => { t with watch := t.watch.filter (fun x => x.id != w.id) })
  match w.kind with
  | 0 =>
    let i := ((s.ctx w.item).bind (fun c => c.lookups.find? (fun l => l.ltn == w.ltn))).map (fun l => l.i)
    match i with
    | some i => (s.updResult w.item i (fun r => { r with dead := true })).advance w.item
    | none => s
  | 1 => s.updTr (fun t => { t with staged := t.staged.filter (fun g => g.id != w.item) })
  | 2 => if (s.predAt w.ltn).ltn = w.ltn then s.setPred w.ltn noPred else s
  | _ => s.updTr (fun t => { t with merges := updWhere (fun m => m.id == w.item) (fun m => { m with dead := true }) t.merges })

/-- A map write of a logical tart is counted by the watch entries of the tart. -/
def State.countWatch (s : State) (ltn : Nat) : State :=
  let s := s.updTr (fun t => { t with watch := updWhere (fun w => w.ltn == ltn) (fun w => { w with count := w.count + 1 }) t.watch })
  s.each (s.tr.watch.filter (fun w => w.ltn == ltn && decide (7 ≤ w.count))) (fun s w => s.watchLimit w)

/-- WATCH_COUNT_LIMIT (R180). -/
def execWatchCountLimit (w : Nat) (s : State) : Host.Outcome State Fault Refusal :=
  .next (match s.tr.watch.find? (fun x => x.id == w) with
    | some x => if 7 ≤ x.count then s.watchLimit x else s
    | none => s)

/-- A staged tart is discarded with its watch entry and its read that waits for a slot. -/
def State.dropStaged (s : State) (g : Staged) : State :=
  let s := s.updTr (fun t => { t with staged := t.staged.filter (fun x => x.id != g.id) })
  (s.dropReads g.readBy).dropWatch 1 g.id g.ltn

/-- STAGED_TART_EXPIRY (R184): a staged tart not used within LIFE beats. -/
def execStagedTartExpiry (ltn : Nat) (s : State) : Host.Outcome State Fault Refusal :=
  .next (s.each (s.tr.staged.filter (fun g => g.ltn == ltn && decide (g.beat + s.rd Fd.MAP_RACFG_LIFE ≤ s.time.beat)))
    (fun s g => s.dropStaged g))

/-- Stage the tarts of a stream beyond its last read (R184), as far as watch entries are free. -/
def State.stage (s : State) (fn : Nat) (n : Ns) (next : Nat) : State :=
  let len := min (s.rd Fd.MAP_RACFG_DEPTH * 1048576 / n.lbaBytes) (n.lbas - next)
  s.each ((n.tarts next len).filter (fun t => !(s.tr.staged.any (fun g => g.fn == fn && g.ns == n.id && g.ltn == t.1)))) (fun s t =>
    let e := s.mapEntry t.1
    let s := s.lookedUp t.1 e
    if e.located = false ∨ s.legal e = false ∨ s.watchFree 1 = false then s
    else
      let id := s.tr.nextId
      let s := s.updTr (fun x => { x with
        staged := x.staged ++ [⟨id, fn, n.id, t.1, e.gen, e.ppa, s.time.beat, none⟩], nextId := id + 1 })
      ((s.addRead .host (s.tenantOf fn) false (.stage fn n.id) e.ppa).2).addWatch 1 id t.1)

/-- A read of a function and namespace continues, or begins, a stream (R184): up to 1,024 streams are tracked, the one
tracked longest without a read making room (DESIGN CHOICE, log entry 34). -/
def State.noteStream (s : State) (fn : Nat) (n : Ns) (slba nlb : Nat) : State :=
  let old := s.tr.ra.find? (fun r => r.fn == fn && r.ns == n.id)
  let run := match old with | some r => if r.next = slba then r.run + 1 else 0 | none => 0
  let rest := s.tr.ra.filter (fun r => !(r.fn == fn && r.ns == n.id))
  let rest := if 1024 ≤ rest.length then rest.drop 1 else rest
  let s := s.updTr (fun t => { t with ra := rest ++ [⟨fn, n.id, slba + nlb, run⟩] })
  if s.rd Fd.MAP_RACFG_EN = 1 ∧ s.rd Fd.MAP_RACFG_TRIGGER ≤ run then s.stage fn n (slba + nlb) else s

end Sys2Proof.Machine
end

