-- ==== Sys2Proof/Machine/Windows.lean ====
section
/-! DEFINITION. Window BARs, CMB, PMR and expansion ROM (R80 to R88, R326 to R329), with the commands INBOUND_WINDOW_TLP,
PMR_TLP, PMR_GRANULE_ROTATION, EXPANSION_ROM_TLP and WINDOW_ENABLE_WRITE. -/

namespace Sys2Proof.Machine

/-! ### Bytes of memories -/

/-- Byte `i` of a word. -/
def byteOf (w : Word64) (i : Nat) : Byte := BitVec.ofNat 8 (w.toNat / 2 ^ (8 * i))

/-- A word with byte `i` set. -/
def setByte (w : Word64) (i : Nat) (b : Byte) : Word64 :=
  BitVec.ofNat 64 (w.toNat - (byteOf w i).toNat * 2 ^ (8 * i) + b.toNat * 2 ^ (8 * i))

def State.ledgerByte (s : State) (a : Nat) : Byte := byteOf (s.ledgerWord a) (a % 8)

def State.setLedgerByte (s : State) (a : Nat) (b : Byte) : State :=
  s.ledgerWrite (a / 8 * 8) [setByte (s.ledgerWord a) (a % 8) b]

/-- The word that an array address leads to: accesses to a remapped sector go to its spare (R442, R450). -/
def arrIdx (remaps : Sparse Nat) (addr : Nat) : Nat :=
  match spGet (fun _ => 0) remaps (addr / 4096) with
  | 0 => addr / 8
  | k + 1 => (addr / 2 ^ 24 * 2 ^ 24 + 0x2000 + 4096 * k + addr % 4096) / 8

/-- A word of the boot array (R439). -/
def State.arrWord (s : State) (addr : Nat) : ArrWord := spGet (fun _ => .init) s.bt.arr (arrIdx s.bt.remaps addr)

/-! ### Regions (R86) -/

/-- A range of internal addresses lies in the CMB region, or in the PMR region of a variant that has one. -/
def inRegions (v : Variant) (lo hi : Nat) : Bool :=
  (decide (cmbBase ≤ lo) && decide (hi ≤ cmbEnd)) || (v.pmr && decide (pmrBase ≤ lo) && decide (hi ≤ pmrEnd))

/-! ### The PMR (R326 to R329) -/

/-- The physical granule of a logical one. -/
def State.granOf (s : State) (g : Nat) : Nat := spGet (fun g => g) s.lg.gran g

/-- The ledger address of a byte of the PMR. -/
def State.pmrAddr (s : State) (off : Nat) : Nat := 0x28C_0000 + 4096 * s.granOf (off / 4096) + off % 4096

/-- Count a write to each physical granule that a range touches. -/
def State.countGran (s : State) (off len : Nat) : State :=
  s.each (List.range' (off / 4096) ((off + len - 1) / 4096 - off / 4096 + 1)) (fun s g =>
    let p := s.granOf g
    s.updLg (fun l => { l with
      granWr := spSet (fun _ => 0) l.granWr p (spGet (fun _ => 0) l.granWr p + 1),
      granLife := spSet (fun _ => 0) l.granLife p (spGet (fun _ => 0) l.granLife p + 1) }))

/-- A PMR write: discarded and counted while HSTS is 2 (R328). -/
def State.pmrWrite (s : State) (off : Nat) (data : List Byte) : State :=
  if s.rd Fd.LDG_PMRSTAT_HSTS = 2 then s.count Fd.LDG_CNT_PMRDROP_COUNT
  else if data.isEmpty then s
  else (s.each (data.zip (List.range data.length)) (fun s p => s.setLedgerByte (s.pmrAddr (off + p.2)) p.1)).countGran off
    data.length

/-- A PMR read: poisoned, with HSTS 3, when a word fails its check (R328). -/
def State.pmrRead (s : State) (off len : Nat) (checkOk : Bool) : State :=
  let bytes := (List.range len).map (fun i => s.ledgerByte (s.pmrAddr (off + i)))
  if checkOk then s.emit (.dataIn bytes false)
  else (s.ledgerBad (s.pmrAddr off)).emit (.dataIn bytes true)

/-- The address of control copy `k` of the ledger (R313). -/
def controlCopy (k : Nat) : Nat := 0x2_0000 * k

/-- The indirection entry of a logical granule, and the counts of its physical granules, are saved in both control copies
(R329); their place in a copy and the encoding of the counts are the model's (DESIGN CHOICE, log entry 35). -/
def State.saveGran (s : State) (g : Nat) (ps : List Nat) : State :=
  let q := g / 4 * 4
  let w := BitVec.ofNat 64 (pack16 ((List.range 4).map (fun i => s.granOf (q + i))))
  s.each [0, 1] (fun s k =>
    s.each ps (fun s p =>
      s.ledgerWrite (controlCopy k + 0x4000 + 8 * p)
        [BitVec.ofNat 64 (min (2 ^ 40 - 1) (spGet (fun _ => 0) s.lg.granLife p) +
          min (2 ^ 24 - 1) (spGet (fun _ => 0) s.lg.granWr p / 4) * 2 ^ 40)]) |>.ledgerWrite
        (controlCopy k + 0x100 + 2 * q) [w])

/-- Rotate a logical granule onto a spare (R329); with no spare left the PMR is read-only. -/
def State.rotate (s : State) (g : Nat) : State :=
  let p := s.granOf g
  if spGet (fun _ => 0) s.lg.granWr p < 2 ^ 26 then s
  else match s.lg.spares with
    | [] => if s.rd Fd.LDG_PMRSTAT_HSTS = 0 then s.wr Fd.LDG_PMRSTAT_HSTS 2 else s
    | q :: rest =>
      let words := (List.range 512).map (fun i => s.ledgerWord (0x28C_0000 + 4096 * p + 8 * i))
      let s := s.ledgerWrite (0x28C_0000 + 4096 * q) words
      let worn := 900000000000 < spGet (fun _ => 0) s.lg.granLife p
      let s := s.updLg (fun l => { l with
        gran := spSet (fun g => g) l.gran g q, granWr := spSet (fun _ => 0) l.granWr q 0,
        spares := if worn then rest else rest ++ [p] })
      (s.count Fd.LDG_PMRSTAT_ROTATIONS).saveGran g [p, q]

/-- PMR_GRANULE_ROTATION (R329). -/
def execPmrGranuleRotation (g : Nat) (s : State) : Host.Outcome State Fault Refusal :=
  .next (if s.variant.pmr = true ∧ g < 4096 then s.rotate g else s)

/-! ### Matching (R84, R85) -/



/-- The entry that a TLP matches (R84). -/
def State.matchWin (s : State) (f req addr len : Nat) : Option Win :=
  ((List.range 64).map (fun e => s.win (64 * s.pfNow f + e))).find? (fun w =>
    w.en && w.owner == f && decide (w.off ≤ addr) && decide (addr + len ≤ w.off + w.size) && (!w.filt || w.req == req))

/-- A TLP to a place that no function decodes, or that a function without this BAR receives: Unsupported Request, in the
PF of the port when no function matches (R109). -/
def State.undecoded (s : State) (f : Nat) (wr : Bool) : State :=
  let s := s.aer (if s.fnUp f then f else s.pfFn (s.portOf f)) .unsupportedRequest
  if wr then s else s.emit .ur

/-- A window miss (R85). -/
def State.windowMiss (s : State) (f : Nat) (wr : Bool) : State :=
  let s := (s.count Fd.HST_CNT_WMISS_COUNT).aer f .advisoryUr
  if wr then s else s.emit .ur

/-- An access to the CMB (R118, R365): a read of a line that is poisoned returns poisoned data; a line written whole is
poisoned no longer (R363, R364). -/
def State.cmbAccess (s : State) (a len : Nat) (wr : Bool) (data : List Byte) : State :=
  if wr then s.cmbPut a data
  else s.emit (.dataIn ((List.range len).map (fun i => s.cmbByte (a + i)))
    ((linesOf a len).any (fun l => s.dr.poisoned.contains l)))

/-- A TLP names the PMR: the hub serves it without either half, in a hold too (R326). -/
def State.toPmr (s : State) (f req addr len : Nat) : Bool :=
  match s.matchWin f req addr len with
  | some w => decide (pmrBase ≤ w.tgt)
  | none => false

/-- A TLP to a window BAR (R84, R85, R110, R111). `checkOk` tells whether the ledger words of a PMR read pass their
check. -/
def State.windowTlp (s : State) (f req addr len : Nat) (wr : Bool) (data : List Byte) (poisoned checkOk : Bool) : State :=
  let len := if wr then data.length else len
  if s.hub.linkOn = false then s
  else if s.hub.fenced then (if wr then s else s.emit .ca)
  else if s.fnUp f = false ∨ s.windowSize f = 0 then s.undecoded f wr
  else match s.matchWin f req addr len with
    | none => s.windowMiss f wr
    | some w =>
      let a := w.tgt + (addr - w.off)
      if wr = true ∧ w.acc = 1 then s.windowMiss f wr
      else if wr = true ∧ poisoned = true then s.aer f .advisoryPoison
      else if pmrBase ≤ a then
        if wr then s.pmrWrite (a - pmrBase) data else s.pmrRead (a - pmrBase) len checkOk
      else s.cmbAccess a len wr data

/-! ### BAR0 (R80, R114): the NVMe registers, the doorbells, the MSI-X table and its pending bits

The places of the fields in the NVMe registers and in the MSI-X structures are those of NVMe 2.0 and PCIe (PRESUMED, log entry 144). -/

/-- The MSI-X table size of a function: block code 0, offset 1 + f, of the configuration image in force, at most 2,048 (R108,
R456). -/
def State.msixSize (s : State) (f : Nat) : Nat :=
  match s.bt.run.entries.reverse.find? (fun e => e.1 == 0 && e.2.1 == 1 + f) with
  | some e => min 2048 e.2.2
  | none => 2048

/-- The PMR window of a function. -/
def State.pmrWin (s : State) (f : Nat) : Option Win :=
  ((List.range 64).map (fun e => s.win (64 * s.pfNow f + e))).find? (fun w => w.en && w.owner == f && decide (pmrBase ≤ w.tgt))

/-- The function offers a CMB and a PMR: it is in window mode, and the variant has a PMR (R81, R112, R114). -/
def State.offersCmb (s : State) (f : Nat) : Bool := s.rd Fd.HST_BARCFG_MODE (s.pfNow f) == 0
def State.offersPmr (s : State) (f : Nat) : Bool := s.offersCmb f && s.variant.pmr

/-- CAP (R114). -/
def State.capReg (s : State) (f : Nat) : Nat :=
  4095 + 2 ^ 16 + 2 ^ 17 + 2 ^ 24 + 2 ^ 37 + boolNat (s.offersPmr f) * 2 ^ 56 + boolNat (s.offersCmb f) * 2 ^ 57

/-- CMBLOC and CMBSZ (R83, R118): BIR 2 and the offset and size of the CMB's window entry, in units of 64 KiB. -/
def State.cmbRegs (s : State) (f : Nat) : Nat × Nat :=
  match s.cmbWin f with
  | some w => if s.offersCmb f then (2 + w.off / 65536 * 2 ^ 12, 25 + 2 ^ 8 + w.size / 65536 * 2 ^ 12) else (0, 0)
  | none => (0, 0)

/-- PMRCAP (R83, R327), and PMRSTS (R327): after start-up NRDY stays while PMRCTL.EN is 0. -/
def State.pmrCap (s : State) (f : Nat) : Nat := if s.offersPmr f then 8 + 16 + 2 * 2 ^ 5 + 3 * 2 ^ 10 + 2 ^ 16 else 0
def State.pmrSts (s : State) (f : Nat) : Nat :=
  if s.offersPmr f then
    boolNat (!bit (spGet (fun _ => 0) (s.fn f).regs 0xE04) 0) * 2 ^ 8 + s.rd Fd.LDG_PMRSTAT_HSTS * 2 ^ 9
  else 0

/-- A 32-bit word of BAR0. -/
def State.bar0Word (s : State) (f a : Nat) : Nat :=
  let x := s.fn f
  let kept := spGet (fun _ => 0) x.regs a
  if a = 0 then s.capReg f % 2 ^ 32
  else if a = 4 then s.capReg f / 2 ^ 32
  else if a = 8 then 0x2_0000
  else if a = 0x14 then kept / 2 * 2 + boolNat x.en
  else if a = 0x1C then boolNat x.rdy + 2 * boolNat x.cfs + 4 * x.shst + 32 * boolNat x.pp
  else if a = 0x38 then (s.cmbRegs f).1
  else if a = 0x3C then (s.cmbRegs f).2
  else if a = 0xE00 then s.pmrCap f
  else if a = 0xE08 then s.pmrSts f
  else if a < 0x1000 then kept
  else if 0x1_0000 ≤ a ∧ a < 0x1_8000 then
    let e := spGet (fun _ => MsixEntry.init) x.msix ((a - 0x1_0000) / 16)
    if s.msixSize f ≤ (a - 0x1_0000) / 16 then 0
    else match a / 4 % 4 with
      | 0 => e.addr % 2 ^ 32
      | 1 => e.addr / 2 ^ 32
      | 2 => e.data
      | _ => boolNat e.mask
  else if 0x1_8000 ≤ a then sumOf (fun i => if x.pba.contains ((a - 0x1_8000) * 8 + i) then 2 ^ i else 0) (List.range 32)
  else 0

/-- A write of a word of an MSI-X entry; unmasking one that is pending sends its message (R80, R108). -/
def State.msixWrite (s : State) (f a val : Nat) : State :=
  let v := (a - 0x1_0000) / 16
  let e := spGet (fun _ => MsixEntry.init) (s.fn f).msix v
  let e : MsixEntry := match a / 4 % 4 with
    | 0 => { e with addr := e.addr / 2 ^ 32 * 2 ^ 32 + val }
    | 1 => { e with addr := e.addr % 2 ^ 32 + val * 2 ^ 32 }
    | 2 => { e with data := val }
    | _ => { e with mask := bit val 0 }
  let s := s.updFn f (fun x => { x with msix := spSet (fun _ => MsixEntry.init) x.msix v e })
  if e.mask = false ∧ (s.fn f).pba.contains v = true then
    (s.updFn f (fun x => { x with pba := x.pba.filter (fun i => i != v) })).sendMsix f v
  else s

/-- A write of CC: EN enables or resets the controller (R131, R132), SHN notifies a shutdown (R133). The admin queue registers pass
their check with sizes of 2 to 4,096 entries and page-aligned addresses. -/
def State.ccWrite (s : State) (f val : Nat) : State :=
  let r := fun (a : Nat) => spGet (fun _ => 0) (s.fn f).regs a
  let asq := r 0x24 % 2 ^ 12 + 1
  let acq := r 0x24 / 2 ^ 16 % 2 ^ 12 + 1
  let asqAddr := r 0x28 + r 0x2C * 2 ^ 32
  let acqAddr := r 0x30 + r 0x34 * 2 ^ 32
  let ok := decide (2 ≤ asq) && decide (2 ≤ acq) && asqAddr % 4096 == 0 && acqAddr % 4096 == 0
  let s := if bit val 0 then s.enableFn f (val / 2 ^ 11 % 8 == 1) ok asq acq asqAddr acqAddr else s.disableFn f
  let s := s.updFn f (fun x => { x with regs := spSet (fun _ => 0) x.regs 0x14 val })
  if val / 2 ^ 14 % 4 ≠ 0 ∧ (s.fn f).shn = false then s.shutFn f else s

/-- NVMe registers that keep what the host writes: AQA, ASQ, ACQ, CMBMSC, PMRCTL and PMRMSC. -/
def keptReg (a : Nat) : Bool := [0x24, 0x28, 0x2C, 0x30, 0x34, 0x50, 0x54, 0xE04, 0xE14, 0xE18].contains a

/-- A write of a word of BAR0. -/
def State.bar0Write (s : State) (f a val : Nat) : State :=
  if a = 0x14 then s.ccWrite f val
  else if a < 0x1000 then
    if keptReg a then s.updFn f (fun x => { x with regs := spSet (fun _ => 0) x.regs a val }) else s
  else if a < 0x1_0000 then
    if a / 4 % 2 = 0 then s.tailDoorbell f ((a - 0x1000) / 8) (val % 65536) else s.headDoorbell f ((a - 0x1000) / 8) (val % 65536)
  else if a < 0x1_8000 then if (a - 0x1_0000) / 16 < s.msixSize f then s.msixWrite f a val else s
  else s

/-- A TLP to BAR0 of a function, which decodes 128 KiB (R80, R111). A write acts on the whole 32-bit words that it covers. -/
def State.bar0Tlp (s : State) (f addr len : Nat) (wr : Bool) (data : List Byte) (poisoned : Bool) : State :=
  let len := if wr then data.length else len
  if s.hub.linkOn = false then s
  else if s.hub.fenced then (if wr then s else s.emit .ca)
  else if s.fnUp f = false ∨ 0x2_0000 < addr + len then s.undecoded f wr
  else if wr then
    if poisoned then s.aer f .advisoryPoison
    else s.each (List.range (data.length / 4)) (fun s i =>
      if addr % 4 = 0 then s.bar0Write f (addr + 4 * i) (bytesNat ((data.drop (4 * i)).take 4)) else s)
  else s.emit (.dataIn ((List.range len).map (fun i => BitVec.ofNat 8 (s.bar0Word f ((addr + i) / 4 * 4) / 2 ^ (8 * ((addr + i) % 4))))) false)

/-! ### TLPs (R74, R75, R84, R109) -/

/-- The errors that a TLP can arrive with: those the link layer corrects, after which it is received whole, and those with which it is
dropped; ECRC counts where the function has its check enabled (R73, R109). -/
def correctable (e : AerErr) : Bool :=
  e == .receiver || e == .badTlp || e == .badDllp || e == .replayTimeout || e == .replayRollover
def dropping (e : AerErr) : Bool :=
  e == .ecrc || e == .malformed || e == .receiverOverflow || e == .flowControl || e == .dataLink

/-- Log the error that a TLP for function `f` arrives with: in the PF of the port for errors of the link, else in the function. -/
def State.tlpError (s : State) (f : Nat) (e : AerErr) : State :=
  let pf := s.pfFn (s.portOf f)
  if correctable e = true ∨ e = .flowControl ∨ e = .dataLink then s.aer pf e
  else if dropping e then s.aer (if s.fnUp f then f else pf) e
  else s

/-- The TLP is received despite the error. -/
def State.received (s : State) (f : Nat) : Option AerErr → Bool
  | none => true
  | some e => !dropping e || (e == .ecrc && !(s.fn f).cfg.ecrcChk)

/-- A TLP to a BAR, as it takes effect. -/
def State.barTlp (s : State) (f req bar addr len : Nat) (wr : Bool) (data : List Byte) (poisoned checkOk : Bool) : State :=
  match bar with
  | 0 => s.bar0Tlp f addr len wr data poisoned
  | 2 => s.windowTlp f req addr len wr data poisoned checkOk
  | _ => if s.hub.linkOn = false then s else if s.hub.fenced then (if wr then s else s.emit .ca) else s.undecoded f wr

/-- INBOUND_WINDOW_TLP (R74, R75, R80, R84, R85, R109, R110, R326). -/
def execInboundWindowTlp (f req bar addr len : Nat) (wr : Bool) (data : List Byte) (poisoned : Bool) (err : Option AerErr)
    (s : State) : Host.Outcome State Fault Refusal :=
  .next (
    let go := s.received f err
    let s := match err with | some e => if e = .ecrc ∧ go = true then s else s.tlpError f e | none => s
    if go = false then s
    else if bar = 2 ∧ s.toPmr f req addr (if wr then data.length else len) = true then
      s.barTlp f req bar addr len wr data poisoned true
    else s.inbound (.inboundWindowTlp f req bar addr len wr data poisoned none) (fun s =>
      s.barTlp f req bar addr len wr data poisoned true))

/-- PMR_TLP (R326 to R329). -/
def execPmrTlp (f req addr len : Nat) (wr : Bool) (data : List Byte) (checkOk : Bool) (s : State) :
    Host.Outcome State Fault Refusal :=
  .next (if s.toPmr f req addr (if wr then data.length else len) then s.windowTlp f req addr len wr data false checkOk
    else s.inbound (.pmrTlp f req addr len wr data checkOk) (fun s => s.windowTlp f req addr len wr data false checkOk))

/-! ### The expansion ROM (R82) -/

/-- The byte of the boot option image at an offset, from the copy in DRAM (R82). -/
def State.romByte (s : State) (off : Nat) : Byte := byteOf (spGet (fun _ => 0) s.dr.rom (off / 8)) (off % 8)

/-- The booting half copies the boot option image of the bank that runs into DRAM, where some PF is in ROM mode (R82). -/
def State.copyRom (s : State) : State :=
  if (List.range 2).all (fun p => s.rd Fd.HST_BARCFG_MODE p = 0) then s
  else
    let base := 0x30_0000 + 0x100_0000 * s.rd Fd.BTA_STAT_RUNBANK
    let top := base + 0x10_0000
    let ws := s.bt.arr.filter (fun p => decide (base ≤ 8 * p.1) && decide (8 * p.1 < top))
    let ks := (ws.map (fun p => p.1 - base / 8)) ++ (List.range' (base / 4096) 256).flatMap (fun k =>
      if spGet (fun _ => 0) s.bt.remaps k = 0 then [] else List.range' (512 * k - base / 8) 512)
    s.updDr (fun d => { d with
      rom := ks.foldl (fun m k => spSet (fun _ => 0) m k (s.arrWord (base + 8 * k)).val) [] })

/-- A TLP to the expansion ROM of a PF. -/
def State.romTlp (s : State) (pf addr len : Nat) (wr : Bool) : State :=
  let f := s.pfFn (pf % 2)
  if s.hub.linkOn = false then s
  else if s.hub.fenced then (if wr then s else s.emit .ca)
  else if s.rd Fd.HST_BARCFG_MODE (pf % 2) = 0 ∨ 2 ^ s.rd Fd.HST_BARCFG_ROMLOG (pf % 2) < addr + len then s.undecoded f wr
  else if wr then s.count Fd.HST_CNT_WMISS_COUNT
  else s.emit (.dataIn ((List.range len).map (fun i => s.romByte (addr + i))) false)

/-- EXPANSION_ROM_TLP (R75, R81, R82). -/
def execExpansionRomTlp (pf addr len : Nat) (wr : Bool) (s : State) : Host.Outcome State Fault Refusal :=
  .next (s.inbound (.expansionRomTlp pf addr len wr) (fun s => s.romTlp pf addr len wr))

/-! ### The ingress buffer drains (R75) -/

/-- A TLP of the ingress buffer takes effect. -/
def State.ingressNow (s : State) : Instr → State
  | .inboundWindowTlp f req bar addr len wr data poisoned _ => s.barTlp f req bar addr len wr data poisoned true
  | .pmrTlp f req addr len wr data checkOk => s.windowTlp f req addr len wr data false checkOk
  | .expansionRomTlp pf addr len wr => s.romTlp pf addr len wr
  | .sqTailDoorbell f q v => s.tailDoorbell f q v
  | .cqHeadDoorbell f q v => s.headDoorbell f q v
  | .ccEnableSet f wrr aqOk asq acq asqAddr acqAddr => s.enableFn f wrr aqOk asq acq asqAddr acqAddr
  | .controllerReset f => s.disableFn f
  | .shutdownNotification f => s.shutFn f
  | _ => s

/-- The hold is released: what waited in the ingress buffer takes effect in the order it came. -/
def State.drainIngress (s : State) : State :=
  let l := s.nv.ingress
  s.updNv (fun n => { n with ingress := [] }) |>.each l State.ingressNow

/-! ### Enabling an entry (R86, R87) -/

def overlaps (a n b m : Nat) : Bool := decide (a < b + m) && decide (b < a + n)

/-- The reason for which entry `i` may not be enabled, in the order of R86; 0 when it may. -/
def State.winReason (s : State) (i : Nat) : Nat :=
  let w := s.win i
  let others := ((List.range 128).filter (fun j => j != i)).map (fun j => s.win j)
  if w.off % w.size ≠ 0 then 1
  else if s.windowSize w.owner < w.off + w.size then 2
  else if inRegions s.variant w.tgt (w.tgt + w.size) = false then 3
  else if others.any (fun v => v.en && v.owner != w.owner && overlaps v.tgt v.size w.tgt w.size) then 4
  else if others.any (fun v => v.en && v.owner == w.owner && overlaps v.off v.size w.off w.size) then 5
  else if (w.acc ≠ 1 ∧ w.acc ≠ 3) ∨ w.size < 2 ^ 16 ∨ 2 ^ 36 < w.size then 6
  else if s.pfNow w.owner ≠ i / 64 ∨ s.fnUp w.owner = false then 7
  else 0

/-- HST_WIN_CTRL of an entry takes the fields of a write, with EN 0. -/
def State.winSet (s : State) (i val : Nat) : State :=
  (s.setReg .a Blk.HST (Reg.HST_WIN_CTRL.at i) (BitVec.ofNat 32 (val % 2 ^ 24 - val % 2 ^ 24 / 2 ^ 9 % 2 ^ 7 * 2 ^ 9))).wr
    Fd.HST_WIN_CTRL_EN 0 i

/-- A write of HST_WIN_CTRL of an entry (R86): with EN 1 it is enabled, or refused with EN left 0. -/
def State.winWrite (s : State) (i val : Nat) : State :=
  let s := s.winSet i val
  if bit val 0 = false then s
  else match s.winReason i with
    | 0 => s.wr Fd.HST_WIN_CTRL_EN 1 i
    | r => (((s.wr Fd.HST_WINERR_PF (i / 64)).wr Fd.HST_WINERR_ENTRY (i % 64)).wr Fd.HST_WINERR_REASON r).wr
        Fd.HST_WINERR_VALID 1

/-- WINDOW_ENABLE_WRITE (R86). -/
def execWindowEnableWrite (_m p e val : Nat) (s : State) : Host.Outcome State Fault Refusal :=
  .next (if p < 2 ∧ e < 64 then s.winWrite (64 * p + e) val else s)

end Sys2Proof.Machine
end

