-- ==== Sys2Proof/Machine/Link.lean ====
section
/-! DEFINITION. The host link (chapter 03): ports and functions, tags, completions, timeouts and quarantine, Bus Master
Enable, function reset and what the hub forwards; with their commands. -/

namespace Sys2Proof.Machine

/-! ### Ports and functions -/

/-- A rate and a width that the link can train to (R72): the six rates by their Current Link Speed encoding; ×16, ×8, ×4, ×2 or ×1,
and at most ×8 for a port of a bifurcated link and in the FK9612 (R74, R112). -/
def State.trainsTo (s : State) (speed width : Nat) : Bool :=
  decide (1 ≤ speed) && decide (speed ≤ 6) && [1, 2, 4, 8, 16].contains width &&
    !(width == 16 && (s.bifur || s.variant == .fk9612))

/-- PERST_DEASSERT (R72, R74, R459): the hub trains the port; `speed`, `width` and `flit` are what training finds. At 64 GT/s the link
runs in flit mode. Port 1 exists in a bifurcated link. -/
def execPerstDeassert (p speed width : Nat) (flit : Bool) (s : State) : Host.Outcome State Fault Refusal :=
  .next (
    if s.trainsTo speed width = false then s
    else if p = 0 then
      let s := s.updNv (fun n => { n with perst := setNth n.perst 2 false 0 true })
      (((s.wr Fd.HST_LINK_SPEED0 speed).wr Fd.HST_LINK_WIDTH0 width).wr Fd.HST_LINK_FLIT (boolNat (flit || speed == 6))).wr
        Fd.HST_LINK_DLUP0 1
    else if p = 1 ∧ s.bifur = true then
      let s := s.updNv (fun n => { n with perst := setNth n.perst 2 false 1 true, flit1 := flit || speed == 6 })
      ((s.wr Fd.HST_LINK_SPEED1 speed).wr Fd.HST_LINK_WIDTH1 width).wr Fd.HST_LINK_DLUP1 1
    else s)

/-- A byte of a function's configuration space, of those that the manual gives (R80, R81, R108): BAR4/5 and the Interrupt Pin read 0,
and the expansion ROM BAR reads 0 in window mode and in a VF. Of any other byte the manual gives no value: it is free (log entry 146). -/
def State.configByte (s : State) (f reg : Nat) : Nat × State :=
  if (0x20 ≤ reg ∧ reg < 0x28) ∨ reg = 0x3D then (0, s)
  else if 0x30 ≤ reg ∧ reg < 0x34 ∧ (s.rd Fd.HST_BARCFG_MODE (s.pfNow f) = 0 ∨ s.isPfNow f = false) then (0, s)
  else (s.free.1 % 256, s.free.2)

/-- CONFIG_REQUEST_RETRY (R459, R517): until the host link is enabled, and while the device is withdrawn, a configuration request
is completed with Request Retry Status; later a read of a byte is answered. -/
def execConfigRequestRetry (_p f reg : Nat) (s : State) : Host.Outcome State Fault Refusal :=
  .next (if s.hub.linkOn = true ∧ s.withdrawn = false then
      if s.fnUp f then (s.configByte f reg).2.emit (.dataIn [BitVec.ofNat 8 (s.configByte f reg).1] false) else s.emit .ur
    else s.emit .crs)

/-- A port leaves DL_Active (R76): every function of the port undergoes a controller reset, its outstanding reads are handled as for an
FLR, and what waited in its ingress buffer is gone. -/
def State.linkDown (s : State) (p : Nat) : State :=
  let s := if p = 0 then s.wr Fd.HST_LINK_DLUP0 0 else s.wr Fd.HST_LINK_DLUP1 0
  let s := s.updNv (fun n => { n with ingress := n.ingress.filter (fun i => match s.ingressFn i with
    | some f => s.portOf f != p
    | none => true) })
  s.each ((List.range 256).filter (fun f => s.portOf f == p && (s.fn f).en)) (fun s f => s.resetController f)

/-- PORT_LINK_DOWN (R76). -/
def execPortLinkDown (p : Nat) (s : State) : Host.Outcome State Fault Refusal := .next (s.linkDown p)

/-- A function no longer responds (R79): it owns no queues, tags or windows, and its PCIe state is that after reset. -/
def State.endVf (s : State) (f : Nat) : State :=
  let s := s.endFn f
  let s := s.each (List.range 128) (fun s i => if (s.win i).en = true ∧ (s.win i).owner = f then s.wr Fd.HST_WIN_CTRL_EN 0 i else s)
  s.updFn f (fun x => { x with
    bme := false, cfg := fnCfgInit, aerStat := [], regs := [], msix := [], pba := [], flrAt := none, resetAt := none })

/-- Functions of a PF that stop responding with a change end. -/
def State.changeVfs (s : State) (pf : Nat) (f : Fn → Fn) : State :=
  let was := (List.range 256).filter (fun g => s.fnUp g)
  let s := s.updFn (s.pfFn pf) f
  s.each (was.filter (fun g => !s.fnUp g)) (fun s g => s.endVf g)

/-- VF_ENABLE (R79): NumVFs takes effect; `num` 0 clears VF Enable. VFs above NumVFs own nothing any more. -/
def execVfEnable (pf num : Nat) (s : State) : Host.Outcome State Fault Refusal :=
  .next (s.changeVfs (pf % 2) (fun x => { x with vfOn := decide (0 < num), numVfs := min 127 num }))

/-! ### Bus Master Enable (R102) -/

/-- What the clearing of Bus Master Enable does to reads outstanding: their data is lost; the fetch position goes back to the first
entry that has not come, and those beyond it that have are passed over when it comes to them (R102 item 5). -/
def State.clearBme (s : State) (f : Nat) : State :=
  let mine := s.nv.tags.filter (fun t => t.fn == f && t.quar.isNone && !t.orphan)
  let hit := mine.filterMap (fun t => match t.why with | .list c => some c | .data c => some c | _ => none)
  let back := fun (q : Sq) => (minOf ((s.nv.grants.filter (fun g => g.fn == f && g.sq == q.qid && !g.here)).map (fun g => g.idx))).getD q.head
  let missing := fun (q : Sq) (i : Nat) => s.nv.grants.any (fun g => g.fn == f && g.sq == q.qid && !g.here && g.idx == i)
  let s := s.updFn f (fun x => { x with bme := false })
  s.updNv (fun n => { n with
    tags := updWhere (fun t => t.fn == f && t.quar.isNone && !t.orphan) (fun t => { t with lost := true }) n.tags,
    ctxs := updWhere (fun c => hit.contains c.id && c.status.isNone) (fun c => { c with lostData := true }) n.ctxs,
    sqs := updWhere (fun q => q.fn == f) (fun q => { q with
      head := back q, skip := q.skip ++ ((List.range' (back q) (q.head - back q)).filter (fun i => !missing q i)) }) n.sqs,
    grants := n.grants.filter (fun g => !(g.fn == f && !g.here)) })

/-- BUS_MASTER_ENABLE_CLEAR (R102, R523). -/
def execBusMasterEnableClear (f : Nat) (s : State) : Host.Outcome State Fault Refusal :=
  .next (if s.fnUp f = true ∧ (s.fn f).bme = true then (s.testHostFn f).clearBme f else s)

/-- The settings the host programs with Bus Master Enable (R73): values outside the sizes the device supports leave theirs as they
were, and the AER status bits named are cleared. -/
def fnCfgTake (old new : FnCfg) : FnCfg :=
  { new with
    mps := if [128, 256, 512].contains new.mps then new.mps else old.mps
    mrrs := if [128, 256, 512, 1024, 2048, 4096].contains new.mrrs then new.mrrs else old.mrrs
    aerClear := [] }

/-- BUS_MASTER_ENABLE_SET (R73, R102): the function's PCIe settings are programmed with it (log entry 147); what waited may issue
again; the commands that lost data end at the next beat boundary. -/
def execBusMasterEnableSet (f : Nat) (cfg : FnCfg) (s : State) : Host.Outcome State Fault Refusal :=
  .next (if s.fnUp f = true ∧ (s.fn f).flrAt.isNone then
      (((s.updFn f (fun x => { x with
        bme := true, cfg := fnCfgTake x.cfg cfg, aerStat := x.aerStat.filter (fun e => !cfg.aerClear.contains e) })).pump).drain).resumeReads
    else s)

/-! ### Function reset (R103, R131) -/

/-- FLR_WRITE (R103 steps 1 and 2, R523): requests stop, tags become orphaned, commands are settled, the configuration
space is reset. -/
def execFlrWrite (f : Nat) (s : State) : Host.Outcome State Fault Refusal :=
  .next (
    if s.fnUp f = false ∨ (s.fn f).flrAt.isSome then s
    else
      let s := (s.testHostFn f).endFn f
      let s := s.updFn f (fun x => { x with
        flrAt := some (s.barAfter 2), resetAt := none, bme := false, cfg := fnCfgInit, aerStat := [], regs := [], msix := [], pba := [] })
      -- The SR-IOV capability of a PF is part of the space that is reset (PRESUMED, log entry 36).
      if s.isPfNow f then s.changeVfs (s.pfNow f) (fun x => { x with vfOn := false, numVfs := 0 }) else s)

/-- FLR_COMPLETE (R103 step 4, R132): at the second bar boundary after the write. -/
def execFlrComplete (f : Nat) (s : State) : Host.Outcome State Fault Refusal :=
  .next (match (s.fn f).flrAt with
    | some b => if b ≤ s.time.beat then (s.updFn f (fun x => { x with flrAt := none })).resetDone f else s
    | none => s)

/-! ### Budgets and split mode -/

/-- TAGBUD_WRITE (R91). -/
def State.tagbudWrite (s : State) (m f val : Nat) : State :=
  let resv := val % 2 ^ 14
  let cap := val / 2 ^ 16 % 2 ^ 14
  let sum := sumOf (fun g => if s.portOf g = s.portOf f then (if g = f then resv else s.rd Fd.HST_TAGBUD_RESV g) else 0)
    (List.range 256)
  if cap < resv ∨ 8192 < sum then s.discarded s.act m Blk.HST (Reg.HST_TAGBUD.at f) val
  else ((s.wr Fd.HST_TAGBUD_RESV resv f).wr Fd.HST_TAGBUD_CAP cap f).pump

def execTagbudWrite (m f val : Nat) (s : State) : Host.Outcome State Fault Refusal := .next (s.tagbudWrite m f val)

/-- SPLIT_ALL_WRITE (R94, R523): clearing it ends the run of a host path test. -/
def State.splitWrite (s : State) (val : Nat) : State :=
  let s := if bit val 0 = false ∧ s.rd Fd.HST_MODE_SPLIT_ALL = 1 then s.testHostFn (s.rd Fd.TST_CTRL_TARGET) else s
  (s.wr Fd.HST_MODE_SPLIT_ALL (val % 2)).pump

def execSplitAllWrite (_m val : Nat) (s : State) : Host.Outcome State Fault Refusal := .next (s.splitWrite val)

/-! ### Completions of reads (R98 to R100, R110) -/

/-- A tag is free; a buffer without owners that it was the last to target is freed (R102, R103 step 5). -/
def State.dropTag (s : State) (t : TagRec) : State :=
  let s := s.updNv (fun n => { n with tags := n.tags.filter (fun x => !(x.port == t.port && x.val == t.val)) })
  match t.buf with
  | some k => s.freeHeld k
  | none => s

def State.updTag (s : State) (t : TagRec) (f : TagRec → TagRec) : State :=
  s.updNv (fun n => { n with tags := updWhere (fun x => x.port == t.port && x.val == t.val) f n.tags })

/-- The grant of an entry that has not arrived. -/
def Grant.of (f q i : Nat) (g : Grant) : Bool := g.fn == f && g.sq == q && g.idx == i && !g.here

/-- An entry read failed: it is issued once more; the second failure of that read sets CSTS.CFS of its function. -/
def State.entryFailed (s : State) (f q i : Nat) : State :=
  match s.nv.grants.find? (Grant.of f q i) with
  | some g =>
    let s := s.updNv (fun n => { n with grants := updWhere (Grant.of f q i) (fun x => { x with tries := x.tries + 1 }) n.grants })
    if g.tries = 0 then s else s.updFn f (fun x => { x with cfs := true })
  | none => s

/-- A failed read ends the work that issued it (R98): Data Transfer Error for a command's data or descriptor lists. -/
def State.endWork (s : State) (t : TagRec) : State :=
  match t.why with
  | .entry q i => s.entryFailed t.fn q i
  | .list c => s.finish c 0 4 0
  | .data c => s.finish c 0 4 0
  | .test a n => s.testRead a n none

/-- A completion that matches nothing outstanding (R100). -/
def State.unexpected (s : State) (f : Nat) : State := (s.count Fd.HST_CNT_UCPL_COUNT).aer f .advisoryUcpl

/-- A submission entry has arrived: its grant may be executed. -/
def State.entryArrived (s : State) (f q i cid : Nat) : State :=
  match s.nv.grants.find? (Grant.of f q i) with
  | some g => s.entryHere g cid
  | none => s

/-- Data of a command arrives (steps 2 and 3 of R28; R273, R274). -/
def State.dataArrived (s : State) (id : Nat) (cpl : ReadCpl) : State :=
  match s.ctx id with
  | none => s
  | some c =>
    if c.status.isSome then s
    else if cpl.xtsOk = false then (s.dpFaultHere 4).finish id 0 6 0
    else match cpl.piFail with
      | some sc => s.finish id 2 sc 0
      | none =>
        let s := s.updCtx id (fun c => { c with bytesLeft := c.bytesLeft - cpl.nbytes, data := c.data ++ cpl.secs })
        if c.cmd = .write then s.each cpl.secs (fun s d => s.placeSector c d.1 d.2) else s.tryFinish id

/-- The rest of a descriptor list arrives: the command's data reads may be issued. -/
def State.listArrived (s : State) (id n : Nat) : State :=
  (s.updCtx id (fun c => { c with listsLeft := c.listsLeft - n })).tryFinish id

/-- Deliver a completion to the work that issued its read. -/
def State.deliver (s : State) (t : TagRec) (cpl : ReadCpl) : State :=
  match t.why with
  | .entry q i => if cpl.nbytes = t.left then s.entryArrived t.fn q i cpl.cid else s
  | .list c => s.listArrived c cpl.nbytes
  | .data c => s.dataArrived c cpl
  | .test a n => s.testRead a n (some (natBytes ((cpl.secs.head?.map (fun q => q.2.data.toNat)).getD 0) n))

/-- A read of the host path test, whose failure quarantines its tag (R522). -/
def TagRec.isTest (t : TagRec) : Bool := match t.why with | .test _ _ => true | _ => false

/-- READ_COMPLETION_ARRIVAL (R100, R102, R103, R110). -/
def execReadCompletionArrival (cpl : ReadCpl) (s : State) : Host.Outcome State Fault Refusal :=
  .next (
    if s.hub.fenced then s
    else match s.nv.tags.find? (fun t => t.port == cpl.port && t.val == cpl.tag && t.quar.isNone) with
      | none => s.unexpected cpl.fn
      | some t =>
        if cpl.fn ≠ t.fn ∨ cpl.shapeOk = false ∨ t.left < cpl.nbytes then s.unexpected t.fn
        else
          let last := cpl.poisoned || cpl.nbytes == t.left
          let s' := if last = true ∧ cpl.poisoned = true ∧ t.isTest = true ∧ t.orphan = false then
              s.updTag t (fun x => { x with quar := some (t.issued + 3 * t.n) })
            else if last then s.dropTag t else s.updTag t (fun x => { x with left := x.left - cpl.nbytes })
          if t.orphan = true ∨ t.lost = true then s'.pump
          else if cpl.poisoned then (((s'.aer t.fn .advisoryPoison).endWork t).pump)
          else ((s'.deliver t cpl).pump))

/-! ### Timeouts (R96 to R99) -/

/-- COMPLETION_TIMEOUT (R98, R99, R103): at boundary k + N or later. -/
def execCompletionTimeout (p tag : Nat) (s : State) : Host.Outcome State Fault Refusal :=
  .next (match s.nv.tags.find? (fun t => t.port == p && t.val == tag && t.quar.isNone) with
    | none => s
    | some t =>
      if s.time.beat < t.issued + t.n then s
      else
        let s := s.count Fd.HST_CNT_CTO_COUNT
        let s := if t.orphan then s.aev 0 0x0101 [t.fn, t.val, t.issued, 0] else s.aer t.fn .completionTimeout
        let s := s.updTag t (fun x => { x with quar := some (t.issued + 3 * t.n) })
        let s := s.updFn t.fn (fun x => { x with splitCto := some s.time.beat })
        if t.orphan = true ∨ t.lost = true then s else (s.endWork t).pump)

/-- QUARANTINE_END (R99): from boundary k + 3N the tag is free. -/
def execQuarantineEnd (p tag : Nat) (s : State) : Host.Outcome State Fault Refusal :=
  .next (match s.nv.tags.find? (fun t => t.port == p && t.val == tag) with
    | some t => match t.quar with
      | some b => if b ≤ s.time.beat then (s.dropTag t).pump else s
      | none => s
    | none => s)

/-! ### What the hub forwards (R22, R397) -/

/-- OUTBOUND_TRANSFER (R22, R397): a transfer of a half that does not hold the clapper, or of another epoch, is discarded
and counted. -/
def execOutboundTransfer (h : Half) (epoch _payload : Nat) (s : State) : Host.Outcome State Fault Refusal :=
  .next (if s.hub.holder = some h ∧ epoch = s.rd Fd.CLP_EPOCH_EPOCH then s else s.count Fd.SAF_CNT_DISCARD_COUNT)

end Sys2Proof.Machine
end

