-- ==== Sys2Proof/Machine/Io.lean ====
section
/-! DEFINITION. I/O commands (chapter 04): the checks of a fetched command (R123 to R126, R139, R158, R225, R490, R492) and
the commands WRITE, READ, COMPARE, VERIFY, WRITE_ZEROES, DATASET_MANAGEMENT, FLUSH and FLUSH_COMPLETION. -/

namespace Sys2Proof.Machine

/-! ### Power states (R137) -/

/-- An I/O command that finds the device in PS3, entry ended, begins the exit (R137). -/
def State.wakeIo (s : State) : State :=
  if s.rd Fd.QUE_PWR_PS = 3 ∧ s.rd Fd.QUE_PWR_EXIT = 0 then
    (s.wr Fd.QUE_PWR_EXIT 1).updNv (fun n => { n with exitAt := some (s.barAfter 4) })
  else s

/-! ### The checks of a fetched command -/

/-- The pending report of a function for a namespace is taken (R139). -/
def State.takeReport (s : State) (f nsid : Nat) : State :=
  let p := (s.fn f).c1h
  s.setC1h f { p with pending := p.pending.filter (fun n => n != nsid) }

/-- Why a command that names a namespace is not executed, in the order deferred report, attachment, key, sanitize; with
the state after it. -/
def State.refuseNs (s : State) (f nsid : Nat) : Option (Nat × Nat × State) :=
  if nsid ≠ 0xFFFF_FFFF ∧ (s.fn f).c1h.pending.contains nsid = true then some (7, 0xC0, s.takeReport f nsid)
  else match s.ns nsid with
    | none => some (0, 0x0B, s)
    | some n =>
      if n.fns.contains f = false then some (0, 0x0B, s)
      else if s.nv.sanitize.isSome then some (0, 0x1D, s)
      else match n.key with
        | none =>
          if (s.fn f).notReady.contains nsid then some (0, 0x82, s)
          else some (7, 0xC1, s.each (List.range 256) (fun s g => s.updFn g (fun x => { x with notReady := addOnce nsid x.notReady })))
        | some _ => none

/-- A refusal for the length of a transfer (R124): counted, and recorded when an SGL is too short. -/
def State.lenRej (s : State) (hd : Hdr) (ev : Bool) : State :=
  let s := s.count Fd.QUE_CNT_LENREJ_COUNT
  if ev then s.aev 16 0x0201 [hd.fn, hd.sq, hd.cid, 0] else s

/-- A DMA descriptor exceeds its buffer (R126): offset and length, of which 0 means 65,536 B, against the size of the buffer named. -/
def descTooLong (d : Desc) : Bool :=
  decide (256 * poolUnits (hPool d.handle) < d.off + (if d.len % 65536 = 0 then 65536 else d.len % 65536))

/-- A descriptor is refused (R126): counted, and recorded with the descriptor, the handle and the owner, the first of those named
(DEDUCED, log entry 148). -/
def State.descRej (s : State) (d : Desc) : State :=
  (s.count Fd.QUE_CNT_DESCREJ_COUNT).aev 18 0x0202 [d.word, d.handle, (s.buf s.act d.handle).owners.headD 0, 0]

/-- Why the range and the host buffer of a command are refused (R123, R124, R126). `mdts`: the transfer limit applies;
`data`: data moves. -/
def State.refuseRange (s : State) (hd : Hdr) (n : Ns) (slba nlb : Nat) (x : Xfer) (data : Bool) :
    Option (Nat × Nat × State) :=
  if data = true ∧ 2097152 < nlb * n.lbaBytes then some (0, 2, s.lenRej hd false)
  else if n.lbas < slba + nlb then some (0, 0x80, s)
  else if data = false then none
  else if x.dataLen.any (fun d => decide (d < nlb * n.lbaBytes)) then some (0, 0x0F, s.lenRej hd true)
  else if x.metaLen.any (fun d => decide (d < nlb * n.metaBytes)) then some (0, 0x10, s.lenRej hd true)
  else if x.prpBad then some (0, 0x13, s)
  else if x.cmb = true ∧ (s.cmbWin hd.fn).isNone then some (0, 0x12, s)
  else match x.descs.find? descTooLong with
    | some d => some (0, 6, s.descRej d)
    | none => none

/-- The opcodes of the table of R115, of admin and of I/O commands. -/
def opcodeKnown (admin : Bool) (o : Nat) : Bool :=
  if admin then
    [0x00, 0x01, 0x02, 0x04, 0x05, 0x06, 0x08, 0x09, 0x0A, 0x0C, 0x0D, 0x15, 0x80, 0x81, 0x82, 0x84].contains o
  else [0x00, 0x01, 0x02, 0x05, 0x08, 0x09, 0x0C].contains o

/-- Fetch a command into a context; a command of a queue that is being deleted is aborted (R551), and one with another opcode than the
supported ones is refused (R115). -/
def State.begin (s : State) (hd : Hdr) (cmd : Cmd) (nsid slba nlb : Nat) (x : Xfer) (go : Nat → State → State) : State :=
  match s.takeGrant hd with
  | none => s
  | some (g, s) =>
    let r := s.openCtx g hd cmd nsid slba nlb x
    if (s.fn hd.fn).deleting.contains hd.sq = true then r.2.finish r.1 0 8 0
    else if hd.op.any (fun o => !opcodeKnown (hd.sq == 0) o) = true then r.2.finish r.1 0 1 0
    else go r.1 r.2

/-- An I/O command for one namespace: the exit from PS3, the checks, then what the command does. -/
def State.beginIo (s : State) (hd : Hdr) (cmd : Cmd) (nsid slba nlb : Nat) (x : Xfer) (data gate : Bool)
    (go : Nat → Ns → State → State) : State :=
  s.begin hd cmd nsid slba nlb x (fun id s =>
    let s := s.wakeIo
    match s.refuseNs hd.fn nsid with
    | some (sct, sc, t) => t.finish id sct sc 0
    | none => match s.ns nsid with
      | none => s.finish id 0 0x0B 0
      | some n => match s.refuseRange hd n slba nlb x data with
        | some (sct, sc, t) => t.finish id sct sc 0
        | none => if gate = true ∧ s.sealed = true then s.finish id 0 0x81 0 else go id n s)

/-- The sectors of a command's data that lies in its function's CMB (R118). -/
def State.cmbData (s : State) (c : Ctx) (n : Ns) : List (Nat × Sector) :=
  match s.cmbWin c.fn with
  | some w => (List.range (c.nlb * n.secsPer)).map (fun k =>
      let a := c.slba * n.secsPer + k
      (k, s.cmbSecOf (w.tgt + c.xfer.addr) n c.nlb k (n.ltn (a / 32) * 32 + a % 32)))
  | none => []

/-- The reads of a command from host memory: its descriptor lists, then its data (R92, R98); data in the CMB needs none (R118). -/
def State.beginXfer (s : State) (id : Nat) (x : Xfer) (len : Nat) : State :=
  let lists := if x.listLen = 0 then [] else [(x.addr, x.listLen, true)]
  let s := if x.cmb = true ∧ 0 < len then
      match s.ctx id with
      | some c => (match s.ns c.nsid with
        | some n => (s.updCtx id (fun x => { x with reads := lists, data := s.cmbData c n })).placeData id
        | none => s)
      | none => s
    else s.updCtx id (fun c => { c with reads := lists ++ (if len = 0 then [] else [(x.addr, len, false)]), bytesLeft := len })
  s.issueCtx id 16384

/-! ### The commands -/

/-- WRITE_COMMAND (R28 steps 1 and 2, R31, R32). -/
def execWriteCommand (hd : Hdr) (nsid slba nlb : Nat) (x : Xfer) (s : State) : Host.Outcome State Fault Refusal :=
  .next (s.beginIo hd .write nsid slba nlb x true true (fun id n s =>
    (s.addParts id hd.fn 0 nsid [(slba, nlb)]).beginXfer id x (nlb * n.lbaBytes)))

/-- READ_COMMAND (R37 steps 1 and 2, R176, R184, R185). -/
def execReadCommand (hd : Hdr) (nsid slba nlb : Nat) (x : Xfer) (s : State) : Host.Outcome State Fault Refusal :=
  .next (s.beginIo hd .read nsid slba nlb x true false (fun id n s =>
    (((s.beginXfer id x 0).openBatch id).noteStream hd.fn n slba nlb).advance id))

/-- COMPARE_COMMAND (R176, R178). -/
def execCompareCommand (hd : Hdr) (nsid slba nlb : Nat) (x : Xfer) (s : State) : Host.Outcome State Fault Refusal :=
  .next (s.beginIo hd .compare nsid slba nlb x true true (fun id n s =>
    ((s.beginXfer id x (nlb * n.lbaBytes)).openBatch id).advance id))

/-- VERIFY_COMMAND (R176, R276). -/
def execVerifyCommand (hd : Hdr) (nsid slba nlb : Nat) (s : State) : Host.Outcome State Fault Refusal :=
  .next (s.beginIo hd .verify nsid slba nlb noXfer false false (fun id _ s => (s.openBatch id).advance id))

/-- WRITE_ZEROES_COMMAND (R125, R174). -/
def execWriteZeroesCommand (hd : Hdr) (nsid slba nlb : Nat) (s : State) : Host.Outcome State Fault Refusal :=
  .next (s.beginIo hd .writeZeroes nsid slba nlb noXfer false true (fun id _ s =>
    s.addParts id hd.fn 1 nsid [(slba, nlb)]))

/-- DATASET_MANAGEMENT_COMMAND (R123, R125, R174): only the deallocate attribute is acted on; ranges of length 0 are
skipped. -/
def execDatasetManagementCommand (hd : Hdr) (nsid : Nat) (ranges : List (Nat × Nat)) (ad : Bool) (s : State) :
    Host.Outcome State Fault Refusal :=
  .next (s.beginIo hd .dsm nsid 0 0 noXfer false false (fun id n s =>
    if ranges.any (fun r => decide (0 < r.2) && decide (n.lbas < r.1 + r.2)) then s.finish id 0 0x80 0
    else if ad = false ∨ ranges.all (fun r => r.2 == 0) = true then s.finish id 0 0 0
    else s.addParts id hd.fn 2 nsid ranges))

/-- The versions that a Flush covers (R129): those of the namespaces it names that carry, to a step 7 that has not ended, a command whose
completion was posted before the Flush was fetched, `mark` completions having been posted then. -/
def State.covered (s : State) (nss : List Nat) (mark : Nat) : List Nat :=
  (s.tr.vers.filter (fun v => nss.contains v.nsid && (v.st == .committed || v.st == .programming) &&
    v.owes.any (fun k => decide (k ≤ mark)))).map (fun v => v.id)

/-- A Flush whose covered versions have all reached the end of step 7 completes, in the beat after it was fetched or
later (R130). -/
def State.flushDone (s : State) (id : Nat) : State :=
  match s.ctx id with
  | some c => if c.cmd = .flush ∧ c.refs.isEmpty = true ∧ c.status.isNone ∧ c.beat < s.time.beat then s.finish id 0 0 0 else s
  | none => s

/-- FLUSH_COMMAND (R129, R130). NSID FFFFFFFFh names every namespace attached to the function. -/
def execFlushCommand (hd : Hdr) (nsid : Nat) (s : State) : Host.Outcome State Fault Refusal :=
  .next (s.begin hd .flush nsid 0 0 noXfer (fun id s =>
    let s := s.wakeIo
    let go (nss : List Nat) (s : State) : State :=
      (s.updCtx id (fun c => { c with refs := s.covered nss c.mark })).flushDone id
    if nsid = 0xFFFF_FFFF then
      if s.nv.sanitize.isSome then s.finish id 0 0x1D 0
      else go ((s.tr.ns.filter (fun n => n.fns.contains hd.fn)).map (fun n => n.id)) s
    else match s.refuseNs hd.fn nsid with
      | some (sct, sc, t) => t.finish id sct sc 0
      | none => go [nsid] s))

/-- FLUSH_COMPLETION (R130). -/
def execFlushCompletion (hd : Hdr) (s : State) : Host.Outcome State Fault Refusal :=
  .next (match s.ctxAt hd.fn hd.sq hd.cid with
    | some c => s.flushDone c.id
    | none => s)

/-! ### The map write (R169) -/

/-- The version table after step 7: the program's versions are MAPPED, and a Flush no longer waits for them. -/
def State.mapVersions (s : State) (vids : List Nat) : State :=
  let s := s.updTr (fun t => { t with
    vers := updWhere (fun v => vids.contains v.id) (fun v => { v with st := .mapped }) t.vers })
  let flushes := (s.nv.ctxs.filter (fun c => c.cmd == .flush && c.status.isNone)).map (fun c => c.id)
  let s := s.updNv (fun n => { n with
    ctxs := updWhere (fun c => c.cmd == .flush) (fun c => { c with refs := c.refs.filter (fun r => !vids.contains r) }) n.ctxs })
  (s.each flushes (fun s id => s.flushDone id)).freeVers

/-- A command that opened its fourth batch holds the map writes of its tarts until its completion is posted or it is ended (R182). -/
def State.mapHeld (s : State) (ltn : Nat) : Bool := s.nv.ctxs.any (fun c => c.hold && c.lookups.any (fun l => l.ltn == ltn))

/-- A Format NVM or a Namespace Management command completes when its map writes and its change of the key table have been carried
out (R169, R489, R491). -/
def State.checkDealloc (s : State) : State :=
  if s.tr.mapq.any (fun w => w.cause == 4) then s
  else s.each (s.nv.ctxs.filter (fun c => c.status.isNone && !(s.md.keyJobs.any (fun j => j.ctx == c.id)))) (fun s c => match c.cmd with
    | .nsChange dw0 => s.finish c.id 0 0 dw0
    | _ => s)

/-- A map write is carried out: the record is valid, the entry is written, watches count it (R180), the commits it
satisfies are released (R338), and step 8 of R28 follows. -/
def State.mapWrite (s : State) (w : MapWr) : State :=
  let s := if s.headerReady w.jseq then s.endRec w.jseq else s
  let s := (s.updTr (fun t => { t with mapq := t.mapq.filter (fun v => v.mseq != w.mseq) })).setMap w.ltn w.entry
  let s := s.satisfy w.ltn w.cseq
  let s := (s.countWatch w.ltn).mapVersions w.vids
  let s := s.pumpDealloc w.ltn
  s.pumpDeltas.checkShut.checkDealloc

/-- A map write may be carried out (R162, R182, R191, R365): the half serves, the record's header is or can be written, the writes of
the tart before it are done, and neither a command nor a rebuild holds it. -/
def State.mapReady (s : State) (w : MapWr) : Bool :=
  s.serving && w.written && (s.lg.live.any (fun r => r.jseq == w.jseq && r.valid) || s.headerReady w.jseq) && !s.mapHeld w.ltn &&
    !s.segHeld w.ltn && s.tr.mapq.all (fun v => v.ltn != w.ltn || decide (w.mseq ≤ v.mseq))

/-- Carry out the map writes that can be, in the order of their issue. -/
def State.runMapq (s : State) : Nat → State
  | 0 => s
  | n + 1 => match s.tr.mapq.find? (fun w => s.mapReady w) with
    | some w => State.runMapq (s.mapWrite w) n
    | none => s

end Sys2Proof.Machine
end

