-- ==== Sys2Proof/Machine/Admin.lean ====
section
/-! DEFINITION. Admin commands (chapter 04, with R155, R158, R163, R227, R309, R488 to R492): queues, log pages, Identify,
Abort, features, asynchronous events, namespaces, Format NVM and Sanitize; and the ends of power-state changes (R137). -/

namespace Sys2Proof.Machine

/-- An admin command: its context is opened, and it is executed at once. -/
def State.beginAdmin (s : State) (hd : Hdr) (go : Nat → State → State) : State :=
  s.begin hd .admin 0 0 0 noXfer go

/-! ### Queues (R117, R123, R551) -/

/-- A queue identifier within a function's allocation (R117). -/
def State.qidOk (s : State) (f q : Nat) : Bool := decide (1 ≤ q) && decide (q ≤ s.rd Fd.QUE_FNQ_COUNT f)

/-- CREATE_IO_COMPLETION_QUEUE (R117, R123). `qsize` is 0-based. A vector beyond the table is refused as NVMe defines. -/
def execCreateIoCompletionQueue (hd : Hdr) (q qsize iv base : Nat) (s : State) : Host.Outcome State Fault Refusal :=
  .next (s.beginAdmin hd (fun id s =>
    if s.qidOk hd.fn q = false ∨ (s.cq hd.fn q).isSome then s.finish id 1 1 0
    else if qsize = 0 ∨ 4095 < qsize then s.finish id 1 2 0
    else if s.msixSize hd.fn ≤ iv then s.finish id 1 8 0
    else (s.updNv (fun n => { n with cqs := n.cqs ++ [⟨hd.fn, q, qsize + 1, iv, base, 0, 0, 0⟩] })).finish id 0 0 0))

/-- CREATE_IO_SUBMISSION_QUEUE (R117, R118, R122, R123): `base` is an offset in the function's CMB where `cmb` says so; a function without
one refuses that as NVMe does (PRESUMED, log entry 144). -/
def execCreateIoSubmissionQueue (hd : Hdr) (q qsize cq prio base : Nat) (cmb : Bool) (s : State) :
    Host.Outcome State Fault Refusal :=
  .next (s.beginAdmin hd (fun id s =>
    if s.qidOk hd.fn q = false ∨ (s.sq hd.fn q).isSome then s.finish id 1 1 0
    else if qsize = 0 ∨ 4095 < qsize then s.finish id 1 2 0
    else if cq = 0 ∨ (s.cq hd.fn cq).isNone then s.finish id 1 0 0
    else if cmb = true ∧ (s.cmbWin hd.fn).isNone then s.finish id 0 0x12 0
    else (s.updNv (fun n => { n with sqs := n.sqs ++ [⟨hd.fn, q, qsize + 1, cq, prio % 4, base, cmb, 0, 0, []⟩] })).finish id 0 0 0))

/-- DELETE_IO_COMPLETION_QUEUE (R551): refused while a submission queue names it. -/
def execDeleteIoCompletionQueue (hd : Hdr) (q : Nat) (s : State) : Host.Outcome State Fault Refusal :=
  .next (s.beginAdmin hd (fun id s =>
    if q = 0 ∨ (s.cq hd.fn q).isNone then s.finish id 1 1 0
    else if s.nv.sqs.any (fun x => x.fn == hd.fn && x.cq == q && x.qid != 0) then s.finish id 1 0x0C 0
    else (s.updNv (fun n => { n with cqs := n.cqs.filter (fun x => !(x.fn == hd.fn && x.qid == q)) })).finish id 0 0 0))

/-- A command has not passed its last abortable point (R127). -/
def Ctx.abortable (c : Ctx) : Bool :=
  c.status.isNone && (match c.cmd with
    | .write => !c.wrote
    | .writeZeroes => !c.wrote
    | .dsm => !c.wrote
    | .read => !c.sent
    | .compare => true
    | .verify => true
    | .flush => !c.refs.isEmpty
    | .aer => true
    | _ => false)

/-- A queue being deleted is gone once every command fetched from it has posted; its Delete I/O Submission Queue completes (R551). -/
def State.endDelete (s : State) (f q : Nat) : State :=
  if s.nv.ctxs.any (fun c => c.fn == f && c.sq == q) || s.nv.held.any (fun h => h.fn == f && h.sq == q) ||
      s.nv.grants.any (fun g => g.fn == f && g.sq == q) then s
  else
    let s := (s.dropSqs (fun g r => g == f && r == q)).updFn f (fun x => { x with deleting := x.deleting.filter (fun r => r != q) })
    s.each (s.nv.ctxs.filter (fun c => c.fn == f && c.cmd == .deleteSq q && c.status.isNone)) (fun s c => s.finish c.id 0 0 0)

def State.checkDelete (s : State) (f : Nat) : State := s.each (s.fn f).deleting (fun s q => s.endDelete f q)

/-- A fetched command that has not begun completes with a status (R127, R551). -/
def State.refuseHeld (s : State) (g : Grant) (sct sc : Nat) : State :=
  let hd : Hdr := ⟨g.fn, g.sq, g.cid, none⟩
  let s := s.updNv (fun n => { n with grants := n.grants.erase g })
  let r := s.openCtx g hd .admin 0 0 0 noXfer
  r.2.finish r.1 sct sc 0

/-- DELETE_IO_SUBMISSION_QUEUE (R551): entries on their way are discarded with the queue; fetched commands are settled. -/
def execDeleteIoSubmissionQueue (hd : Hdr) (q : Nat) (s : State) : Host.Outcome State Fault Refusal :=
  .next (s.begin hd (.deleteSq q) 0 0 0 noXfer (fun id s =>
    let f := hd.fn
    if q = 0 ∨ (s.sq f q).isNone ∨ (s.fn f).deleting.contains q = true then s.finish id 1 1 0
    else
      let s := s.updFn f (fun x => { x with deleting := x.deleting ++ [q] })
      let s := s.updNv (fun n => { n with
        grants := n.grants.filter (fun g => !(g.fn == f && g.sq == q && !g.here)),
        tags := updWhere (fun t => t.fn == f && (match t.why with | .entry r _ => r == q | _ => false))
          (fun t => { t with lost := true }) n.tags })
      let s := s.each (s.nv.grants.filter (fun g => g.fn == f && g.sq == q)) (fun s g => s.refuseHeld g 0 8)
      let s := s.each ((s.nv.ctxs.filter (fun c => c.fn == f && c.sq == q && c.abortable)).map (fun c => c.id)) (fun s c =>
        s.finish c 0 8 0)
      s.checkDelete f))

/-! ### Abort and asynchronous events (R127, R128, R552) -/

/-- ABORT (R123, R127, R128): of a command in a context, or of one fetched that has not begun. -/
def execAbort (hd : Hdr) (sq acid : Nat) (s : State) : Host.Outcome State Fault Refusal :=
  .next (s.begin hd .abort 0 0 0 noXfer (fun id s =>
    if 8 < (s.nv.ctxs.filter (fun c => c.fn == hd.fn && c.cmd == .abort)).length then s.finish id 1 3 0
    else match s.nv.ctxs.find? (fun c => c.fn == hd.fn && c.sq == sq && c.cid == acid && c.status.isNone && c.id != id) with
      | some c =>
        if c.abortable then ((s.finish c.id 0 7 0).count Fd.QUE_CNT_ABORT_ABORTED).finish id 0 0 0
        else (s.count Fd.QUE_CNT_ABORT_NOTABORTED).finish id 0 0 1
      | none => match s.nv.grants.find? (fun g => g.fn == hd.fn && g.sq == sq && g.cid == acid && g.here) with
        | some g => ((s.refuseHeld g 0 7).count Fd.QUE_CNT_ABORT_ABORTED).finish id 0 0 0
        | none => (s.count Fd.QUE_CNT_ABORT_NOTABORTED).finish id 0 0 1))

/-- ASYNCHRONOUS_EVENT_REQUEST (R123, R552). -/
def execAsynchronousEventRequest (hd : Hdr) (s : State) : Host.Outcome State Fault Refusal :=
  .next (s.begin hd .aer 0 0 0 noXfer (fun id s =>
    if 8 < (s.nv.ctxs.filter (fun c => c.fn == hd.fn && c.cmd == .aer && c.status.isNone)).length then s.finish id 1 5 0
    else s.deliverAen hd.fn))

/-! ### Features (R117, R136, R137, R309) -/

def State.feat (s : State) (f k : Nat) : Nat := spGet (fun _ => 0) (s.fn f).feats k

def State.setFeat (s : State) (f k v : Nat) : State :=
  s.updFn f (fun x => { x with feats := spSet (fun _ => 0) x.feats k v })

/-- Number of Queues (R117): the allocation, 0-based, whatever the host asks for. -/
def State.numQueues (s : State) (f : Nat) : Option Nat :=
  let n := s.rd Fd.QUE_FNQ_COUNT f
  if n = 0 then none else some (n - 1 + (n - 1) * 65536)

/-- Entry into a power state begins (R137). -/
def State.enterPs (s : State) (ps : Nat) : State :=
  let now := s.rd Fd.QUE_PWR_PS
  let s := (s.wr Fd.QUE_PWR_TARGET ps).wr Fd.QUE_PWR_ENTRY 1
  s.updNv (fun n => { n with psAt := some (s.barAfter (if ps = 3 then 2 else 1)), psPrev := if now = 3 then n.psPrev else now })

/-- A temperature threshold of the device (R309): TMPTH in bits 15:0, TMPSEL in 19:16, THSEL in 21:20. The thresholds are
one set for the device, kept with PF0 (DESIGN CHOICE, log entry 37). -/
def State.setThreshold (s : State) (val : Nat) : State :=
  let k := 0x400 + val / 2 ^ 20 % 2 * 16 + val / 2 ^ 16 % 16
  (s.updFn 0 (fun x => { x with
    feats := spSet (fun k => if k / 16 % 2 = 0 then 368 else 253) x.feats k (val % 65536) })).postCrit

/-- SET_FEATURES (R117, R136, R137, R309, R552). -/
def execSetFeatures (hd : Hdr) (fid val : Nat) (s : State) : Host.Outcome State Fault Refusal :=
  .next (s.beginAdmin hd (fun id s =>
    match fid with
    | 0x01 => (s.setFeat hd.fn 1 val).finish id 0 0 0
    | 0x02 =>
      if hd.fn ≠ 0 then s.finish id 1 0x0E 0
      else if 3 < val % 32 then s.finish id 0 2 0
      else (s.enterPs (val % 32)).finish id 0 0 0
    | 0x04 => if 8 < val / 2 ^ 16 % 16 ∨ 1 < val / 2 ^ 20 % 4 then s.finish id 0 2 0 else (s.setThreshold val).finish id 0 0 0
    | 0x07 => match s.numQueues hd.fn with
      | some v => s.finish id 0 0 v
      | none => s.finish id 0 2 0
    | 0x08 => (s.setFeat hd.fn 8 val).finish id 0 0 0
    | 0x09 => (s.setFeat hd.fn (0x1_0000 + val % 65536) val).finish id 0 0 0
    | 0x0B => (s.setFeat hd.fn 11 val).finish id 0 0 0
    | _ => s.finish id 0 2 0))

/-- GET_FEATURES (R117, R136, R309). -/
def execGetFeatures (hd : Hdr) (fid : Nat) (s : State) : Host.Outcome State Fault Refusal :=
  .next (s.beginAdmin hd (fun id s =>
    match fid with
    | 0x01 => s.finish id 0 0 (s.feat hd.fn 1)
    | 0x02 => s.finish id 0 0 (s.rd Fd.QUE_PWR_PS)
    | 0x04 => s.finish id 0 0 (s.tempThr 0 0)
    | 0x07 => match s.numQueues hd.fn with
      | some v => s.finish id 0 0 v
      | none => s.finish id 0 2 0
    | 0x08 => s.finish id 0 0 (s.feat hd.fn 8)
    | 0x09 => s.finish id 0 0 (s.feat hd.fn 0x1_0000)
    | 0x0B => s.finish id 0 0 (s.feat hd.fn 11)
    | _ => s.finish id 0 2 0))

/-- I/O commands are held or in hand at the end of an entry into PS3 (R137). -/
def State.ioWaiting (s : State) : Bool :=
  s.nv.held.any (fun h => h.io) || s.nv.ctxs.any (fun c => c.sq != 0)

/-- POWER_STATE_ENTRY_END (R137). -/
def State.endPsEntry (s : State) : State :=
  match s.nv.psAt with
  | some b =>
    if b ≤ s.time.beat then
      let s := (s.wr Fd.QUE_PWR_PS (s.rd Fd.QUE_PWR_TARGET)).wr Fd.QUE_PWR_ENTRY 0
      let s := s.updNv (fun n => { n with psAt := none })
      let s := if s.rd Fd.QUE_PWR_PS = 3 ∧ s.ioWaiting = true then s.wakeIo else s
      s.drain
    else s
  | none => s

def execPowerStateEntryEnd (s : State) : Host.Outcome State Fault Refusal := .next s.endPsEntry

/-- The end of the exit from PS3 (R137): back in the operational state before, the I/O completions follow. -/
def State.endPs3 (s : State) : State :=
  if s.rd Fd.QUE_PWR_EXIT = 1 then
    (((s.wr Fd.QUE_PWR_PS s.nv.psPrev).wr Fd.QUE_PWR_EXIT 0).updNv (fun n => { n with exitAt := none })).drain
  else s

/-- PS3_EXIT (R137). -/
def execPs3Exit (s : State) : Host.Outcome State Fault Refusal := .next s.endPs3

/-! ### Log pages (R123, R140, R141, R155, R227) -/

/-- The erases of blocks other than SLC ones, of the dies in use, since the blocks came into use; those of blocks that are retired by
now count only towards what the mean gained (`worn` false). -/
def State.eraseSum (s : State) (worn : Bool) : Nat :=
  sumOf (fun p => if p.2.st = .slc ∨ (worn = true ∧ (p.2.st = .bad ∨ p.2.st = .retired)) ∨ (s.die (p.1 / 2 ^ 18)).st ≠ 1 then 0
    else p.2.erases) s.md.blks

/-- The blocks in TLC or QLC mode of the dies in use, in every plane. -/
def State.blockSum (s : State) : Nat :=
  sumOf (fun d => sumOf (fun p => (s.blkEnd d p - firstBlk p) - ((s.planeBlks d p).filter (fun q =>
    (q.2.st == .bad || q.2.st == .retired || q.2.st == .slc) && decide (firstBlk p ≤ q.1) && decide (q.1 < s.blkEnd d p))).length)
    (List.range (planesOf (s.mediaOf d)))) s.dieNums

/-- The rated erase count: that of the TLC mode while a TLC die is in use, else that of the QLC mode (DESIGN CHOICE, log entry 45). -/
def State.ratedErases (s : State) : Nat :=
  if s.dieNums.any (fun d => decide (s.mediaOf d < 2)) then s.rd Fd.MED_ENDUR0_TLC else s.rd Fd.MED_ENDUR0_QLC

/-- Percentage Used (R227): 100 × mean erase count of TLC and QLC blocks over the rated count, at most 255. -/
def State.percentUsed (s : State) : Nat :=
  if s.blockSum = 0 ∨ s.ratedErases = 0 then 0 else min 255 (100 * s.eraseSum true / (s.blockSum * s.ratedErases))

/-- Bytes of a layout of fields, each a value and its width in bytes, little-endian. -/
def layout (l : List (Nat × Nat)) : List Nat := l.flatMap (fun p => (List.range p.2).map (fun i => p.1 / 256 ^ i % 256))

/-- Page 02h of a function (R227). Controller Busy Time is a figure of timing, left open. -/
def State.page02 (s : State) (f : Nat) : List Nat × State :=
  let x := s.fn f
  let busy := s.free
  (layout ([(s.critWarning, 1), ((s.composite / 16 + 273).toNat, 2), (s.spare, 1), (s.rd Fd.MED_HEALTH_THRESH, 1), (s.percentUsed, 1), (0, 26),
    ((x.rdSecs + 999) / 1000, 16), ((x.wrSecs + 999) / 1000, 16), (x.rdCmds, 16), (x.wrCmds, 16), (busy.1, 16), (s.bt.cycles, 16),
    ((s.bt.onBeats + s.time.beat) / 900000000, 16), (s.lg.badShut, 16), (x.medErrs, 16), (x.errLog, 16),
    (s.evt.warmAll / 15000000, 4), (s.evt.hotAll / 15000000, 4)] ++
    (List.range 8).map (fun i => (if sensorValid s.variant (i + 1) then (s.sensorK i).toNat else 0, 2))), busy.2)

/-- Page C1h of a function (R140). -/
def C1h.bytes (p : C1h) : List Nat :=
  layout ([(p.entries.length, 2), (boolNat p.overflow, 1), (0, 5), (p.change, 8)] ++ p.entries.flatMap (fun e =>
    [(e.nsid, 4), (e.slba, 8), (e.nlb, 4), (e.cause, 1), (0, 7), (e.beat, 8)]))

/-- Page C2h of a function (R155). -/
def State.pageC2h (s : State) (f : Nat) : List Nat :=
  let t := s.tenantOf f
  let x := s.setOf t
  let p := s.shownSet t
  let d := s.published
  layout [(t, 1), (boolNat (decide (d < 1024)) + 2 * boolNat (!s.lackingSbs.isEmpty), 1), (d, 2), (0, 4), (s.sched.dChange, 8),
    (x.riops, 4), (x.read, 2), (x.write, 2), (4 * x.ceil, 4), (p.riops, 4), (p.read, 2), (p.write, 2),
    (4 * s.rd Fd.TEN_CEIL_PUB t, 4), (s.rd Fd.TEN_MISSTOT_COUNT t, 8), (s.sched.dAt, 8), (0, 8)]

/-- Page 05h of a function (R115): the commands it supports, admin opcodes from byte 0 and I/O opcodes from byte 1,024, bit 0 of each
double word (PRESUMED, log entry 144: NVMe 2.0). -/
def State.page05 (s : State) (f : Nat) : List Nat :=
  let ok := fun (o : Nat) => opcodeKnown true o && (s.isPfNow f || !([0x0D, 0x15, 0x80, 0x84].contains o))
  layout ((List.range 256).map (fun o => (boolNat (ok o), 4)) ++ (List.range 256).map (fun o => (boolNat (opcodeKnown false o), 4)))

/-- The length of a page in bytes. -/
def pageLen : Nat → Option Nat
  | 0x01 => some 64
  | 0x02 => some 512
  | 0x03 => some 512
  | 0x04 => some 4096
  | 0x05 => some 4096
  | 0xC1 => some 8208
  | 0xC2 => some 64
  | _ => none

/-- The bytes of a page up to its last field; the others are 0. Pages 01h, 03h and 04h are laid out as in NVMe 2.0 (PRESUMED, log
entry 144): the newest error's count, the active slot and its revision, and the namespaces changed since the last read. -/
def State.pageBytes (s : State) (f lid : Nat) : List Nat × State :=
  match lid with
  | 0x01 => (layout [((s.fn f).errLog, 8)], s)
  | 0x02 => s.page02 f
  | 0x03 => (layout [(1, 8), (s.bt.run.fw.fwver, 8)], s)
  | 0x04 => (layout ((sortBy (fun a b => decide (a < b)) (s.fn f).nsLog).map (fun n => (n, 4))), s)
  | 0x05 => (s.page05 f, s)
  | 0xC1 => ((s.fn f).c1h.bytes, s)
  | 0xC2 => (s.pageC2h f, s)
  | _ => ([], s)

/-- A read of a page with RAE cleared: its masks clear and a kept event that names it is discarded (R552); page C1h is
emptied (R141), and so is page 04h. -/
def State.pageRead (s : State) (f lid : Nat) : State :=
  let s := s.unmask f lid
  if lid = 4 then s.updFn f (fun x => { x with nsLog := [] })
  else if lid = 0xC1 then
    let p := (s.fn f).c1h
    if p.entries.isEmpty ∧ p.overflow = false then s
    else s.setC1h f { p with entries := [], overflow := false, change := p.change + 1 }
  else s

/-- The bytes that Get Log Page returns (R123): from the offset, at most NUMD + 1 dwords, of the page as it stands now. -/
def State.sendPage (s : State) (hd : Hdr) (lid numd off : Nat) : State :=
  let r := s.pageBytes hd.fn lid
  r.2.emit (.page hd.fn hd.cid lid (numd + 1) ((r.1.drop off).take (4 * (numd + 1))))

/-- GET_LOG_PAGE (R115, R123, R141, R158, R227, R552): `numd`, 0-based, dwords from byte offset `off`; bytes past the end read 0. -/
def execGetLogPage (hd : Hdr) (nsid lid numd off : Nat) (rae : Bool) (s : State) : Host.Outcome State Fault Refusal :=
  .next (s.beginAdmin hd (fun id s =>
    let named := nsid ≠ 0 ∧ nsid ≠ 0xFFFF_FFFF
    match pageLen lid with
    | none => s.finish id 1 9 0
    | some len =>
      if len ≤ off ∨ (lid = 2 ∧ named) then s.finish id 0 2 0
      else if named ∧ ((s.ns nsid).map (fun n => n.fns.contains hd.fn)).getD false = false then s.finish id 0 0x0B 0
      else
        ((s.sendPage hd lid numd off).when (!rae) (fun s => s.pageRead hd.fn lid)).finish id 0 0 0))

/-! ### Identify (R114, R136, R158, R163, R168, R309) -/

/-- What Identify reports of a namespace: NSZE, NCAP, the format with its metadata choice, protection information, DLFEAT (R168), NAWUN
and NAWUPF, 1 MiB in blocks of its format, 0-based (R114). -/
def Ns.idFields (n : Ns) : List Nat :=
  [n.lbas, n.lbas, n.lbaf + 16 * boolNat n.ext, n.pi, 0x19, 1048576 / n.lbaBytes - 1, 1048576 / n.lbaBytes - 1]

/-- The power states (R136): package power in W, 1 for a non-operational state, ENLAT and EXLAT in µs. -/
def powerStates : List (List Nat) := [[48, 0, 0, 0], [36, 0, 1000, 1000], [25, 0, 1000, 1000], [12, 1, 2000, 4000]]

/-- The fields that Identify reports: a namespace; the controller; or the active namespaces of the function above an identifier. Of the
controller: VS, CAP, MDTS, NN, ACL, AERL, AWUN and AWUPF (1 MiB in blocks of the largest format, 0-based), ACWU, VWC, SGLS, FRMW, MTFA,
WCTEMP and CCTEMP (R309), CMBLOC and CMBSZ, PMRCAP, and the power states (encodings and the largest format PRESUMED, log entry 144). -/
def State.identifyFields (s : State) (f cns nsid : Nat) : Option (List Nat) :=
  match cns with
  | 0 => match s.ns nsid with
    | some n => some (if n.fns.contains f then n.idFields else List.replicate 7 0)
    | none => some (List.replicate 7 0)
  | 1 => some ([0x20000, s.capReg f, 9, 1024, 7, 7, 255, 255, 0, 0, 0x1_0001, 0x13, 1, 368, 378, (s.cmbRegs f).1, (s.cmbRegs f).2,
      s.pmrCap f] ++ powerStates.flatMap (fun p => p))
  | 2 => some (sortBy (fun a b => decide (a < b))
      ((s.tr.ns.filter (fun n => n.fns.contains f && decide (nsid < n.id))).map (fun n => n.id)))
  | _ => none

/-- IDENTIFY (R158). -/
def execIdentify (hd : Hdr) (cns nsid : Nat) (s : State) : Host.Outcome State Fault Refusal :=
  .next (s.beginAdmin hd (fun id s =>
    match s.identifyFields hd.fn cns nsid with
    | some fs => (s.emit (.fields hd.fn hd.cid fs)).finish id 0 0 0
    | none => s.finish id 0 2 0))

/-! ### Namespaces (R158, R163, R168, R169, R488 to R491) -/

/-- The listed logical tarts of a namespace that are valid. -/
def State.validOf (s : State) (n : Ns) : List Nat :=
  let mine := fun (l : Nat) => n.granules.contains (l / 65536)
  let l := ((s.tr.map.filter (fun p => mine p.1 && !p.2.dealloc)).map (fun p => p.1)) ++
    ((s.tr.vers.filter (fun v => v.nsid == n.id && !v.units.isEmpty && (v.st == .committed || v.st == .programming))).map (fun v => v.ltn))
  l.foldl (fun a x => addOnce x a) []

/-- Commands in hand for a namespace end with a status (DESIGN CHOICE, log entry 38). -/
def State.endNsCmds (s : State) (nsid sct sc : Nat) : State :=
  s.each ((s.nv.ctxs.filter (fun c => c.nsid == nsid && c.sq != 0 && c.status.isNone)).map (fun c => c.id)) (fun s c =>
    s.finish c sct sc 0)

/-- What an acknowledged part leaves in the journal is satisfied by the deallocation of its namespace. -/
def JRec.forgetNs (nsid : Nat) (r : JRec) : JRec :=
  match r.body with
  | .commit n fn kind last slba nlb oseq _ =>
    if n = nsid then { r with body := .commit n fn kind last slba nlb oseq [] } else r
  | _ => r

/-- Deallocate every map entry of a namespace (R169, R491): versions and parts of the namespace are gone, what programs still carry of
them maps nothing, and V falls by the tarts that were valid (DEDUCED from R224's first sentence, log entry 39). -/
def State.clearNs (s : State) (n : Ns) (sct sc : Nat) : State :=
  let s := s.endNsCmds n.id sct sc
  let l := s.validOf n
  let mine := fun (l : Nat) => n.granules.contains (l / 65536)
  let bare := fun (p : Placed) => if mine p.ltn then { p with vids := [] } else p
  let s := s.updMd (fun m => { m with ops := m.ops.map (fun o => { o with tarts := o.tarts.map bare }) })
  let s := s.updTr (fun t => { t with
    vers := t.vers.filter (fun v => v.nsid != n.id),
    mapq := updWhere (fun w => mine w.ltn) (fun w => { w with vids := [] }) t.mapq,
    parts := updWhere (fun p => p.nsid == n.id && p.begun) (fun p => { p with vids := [], tarts := [] })
      (t.parts.filter (fun p => p.nsid != n.id || p.begun)),
    staged := t.staged.filter (fun g => g.ns != n.id), ra := t.ra.filter (fun g => g.ns != n.id) })
  let s := s.each l (fun s x => s.issueMap 4 x 0 false true none 0 [])
  let s := s.setLive (fun live => (live.map (fun r => r.forgetNs n.id)).filter (fun r => !r.emptyCommit))
  (s.updMd (fun m => { m with valid := m.valid - l.length })).grantParts

/-- A new namespace key (R488): keys are handles, distinct for each generation. -/
def State.newKey (s : State) : Nat × State := (s.tr.nextKey, s.updTr (fun t => { t with nextKey := t.nextKey + 1 }))

def State.updNs (s : State) (nsid : Nat) (f : Ns → Ns) : State :=
  s.updTr (fun t => { t with ns := updWhere (fun n => n.id == nsid) f t.ns })

/-- Free granules of the exported capacity, lowest first (R163). -/
def State.freeGranules (s : State) (n : Nat) : List Nat :=
  let used := s.tr.ns.flatMap (fun x => x.granules)
  ((List.range (min (s.exported / 65536) (used.length + n))).filter (fun g => !used.contains g)).take n

/-- Granules that a size needs. -/
def granulesFor (lbaf lbas : Nat) : Nat := ceilDiv (ceilDiv lbas (if lbaf < 2 then 32 else 4)) 65536

/-- The random generator can serve (R493). -/
def State.rngOk (s : State) : Bool := s.rd Fd.SEC_STAT_RNGOK == 1

/-- A format that R116 lists: protection information needs metadata. -/
def formatOk (lbaf pi : Nat) : Bool := decide (lbaf ≤ 4) && (pi == 0 || (decide (pi ≤ 3) && lbaf != 0 && lbaf != 2))

/-- A namespace has changed for functions (page 04h). -/
def State.logNs (s : State) (nsid : Nat) (fns : List Nat) : State :=
  s.each fns (fun s f => s.updFn f (fun x => { x with nsLog := addOnce nsid x.nsLog }))

/-- Forget what functions keep for a namespace. -/
def State.forgetNs (s : State) (nsid : Nat) (reports : Bool) : State :=
  s.each (s.nv.fns.map (fun p => p.1)) (fun s f =>
    let x := s.fn f
    let s := s.updFn f (fun x => { x with notReady := x.notReady.filter (fun n => n != nsid) })
    if reports = true ∧ x.c1h.pending.contains nsid = true then
      s.setC1h f { x.c1h with pending := x.c1h.pending.filter (fun n => n != nsid) }
    else s)

/-! ### Key table changes (R489, R492) -/

/-- New keys for every namespace under the next KEK (steps 3 and 4 of R492). -/
def State.newKeys (s : State) : State :=
  (s.count Fd.SEC_FUSE_KEKGEN).each s.tr.ns (fun s n =>
    let k := s.newKey
    (k.2.updNs n.id (fun n => { n with key := some k.1 })).forgetNs n.id false)

/-- Step 5 of R492: every entry is deallocated, and the write buffer, staging, the CMB and the PMR are overwritten with zeros. -/
def State.sanitizeData (s : State) : State :=
  let s := s.each s.tr.ns (fun s n => s.clearNs n 0 0x1D)
  let s := s.updTr (fun t => { t with staged := [], ra := [] })
  let s := s.updDr (fun d => { d with cmb := [] })
  let s := s.updLg (fun l => { l with words := spClear l.words (0x28C_0000 / 8) (0x390_0000 / 8) })
  s.runMapq s.tr.mapq.length

/-- A change of the key table has ended: a sanitize goes on to its next step (R492), another command may complete. -/
def State.keysChanged (s : State) (j : KeyChange) : State :=
  if s.nv.sanitize = some j.ctx then
    if s.rd Fd.SEC_SANITIZE_STEP = 2 then (s.newKeys.wr Fd.SEC_SANITIZE_STEP 4).changeKeys 0 j.ctx
    else (s.wr Fd.SEC_SANITIZE_STEP 5).sanitizeData
  else s.checkDealloc

/-- Carry the changes of the key table on as far as they go. -/
def State.runKeys (s : State) : Nat → State
  | 0 => s
  | n + 1 => match s.pumpKeys with
    | (some j, t) => State.runKeys (t.keysChanged j) n
    | (none, t) => t

/-- The changes of the key table go on; each command causes at most two. -/
def State.goKeys (s : State) : State := s.runKeys (2 * s.md.keyJobs.length)

/-- Create a namespace (R163, R488). -/
def State.createNs (s : State) (id lbaf lbas pi : Nat) (ext : Bool) : State :=
  let need := granulesFor lbaf lbas
  let gs := s.freeGranules need
  match (List.range' 1 1024).find? (fun i => (s.ns i).isNone) with
  | none => s.finish id 1 0x16 0
  | some nsid =>
    if formatOk lbaf pi = false then s.finish id 1 0x0A 0
    else if lbas = 0 then s.finish id 0 2 0
    else if gs.length < need then s.finish id 1 0x15 0
    else if s.rngOk = false then s.finish id 0 6 0
    else
      let k := s.newKey
      let s := k.2.updTr (fun t => { t with ns := t.ns ++ [⟨nsid, lbaf, pi, ext, lbas, gs, [], some k.1⟩] })
      ((s.updCtx id (fun c => { c with cmd := .nsChange nsid })).changeKeys 0 id).goKeys

/-- Delete a namespace (R139, R491). -/
def State.deleteNs (s : State) (n : Ns) : State :=
  (((s.clearNs n 0 0x0B).updTr (fun t => { t with ns := t.ns.filter (fun x => x.id != n.id) })).forgetNs n.id true).logNs n.id n.fns

/-- What a command did to namespaces has been begun: it completes with its map writes and its change of the key table. -/
def State.endChange (s : State) (id : Nat) (keys : Bool) : State :=
  let s := s.updCtx id (fun c => { c with cmd := .nsChange 0 })
  let s := s.when keys (fun s => s.changeKeys 0 id)
  ((s.runMapq s.tr.mapq.length).goKeys).checkDealloc

/-- NAMESPACE_MANAGEMENT (R115, R158, R163, R488, R491): `sel` 0 creates, 1 deletes. -/
def execNamespaceManagement (hd : Hdr) (sel nsid lbaf lbas pi : Nat) (ext : Bool) (s : State) :
    Host.Outcome State Fault Refusal :=
  .next (s.beginAdmin hd (fun id s =>
    if s.isPfNow hd.fn = false then s.finish id 0 1 0
    else match sel with
      | 0 => s.createNs id lbaf lbas pi ext
      | 1 =>
        if nsid = 0xFFFF_FFFF then (s.each s.tr.ns (fun s n => s.deleteNs n)).endChange id true
        else match s.ns nsid with
          | some n => (s.deleteNs n).endChange id true
          | none => s.finish id 0 0x0B 0
      | _ => s.finish id 0 2 0))

/-- NAMESPACE_ATTACHMENT (R115, R158): `sel` 0 attaches, 1 detaches; all functions of the list or none. -/
def execNamespaceAttachment (hd : Hdr) (sel nsid : Nat) (fns : List Nat) (s : State) : Host.Outcome State Fault Refusal :=
  .next (s.beginAdmin hd (fun id s =>
    if s.isPfNow hd.fn = false then s.finish id 0 1 0
    else match s.ns nsid with
      | none => s.finish id 0 0x0B 0
      | some n =>
        if fns.isEmpty = true ∨ fns.any (fun f => !s.fnUp f) = true then s.finish id 1 0x1C 0
        else match sel with
          | 0 =>
            if fns.any (fun f => n.fns.contains f) then s.finish id 1 0x18 0
            else ((s.updNs nsid (fun n => { n with fns := n.fns ++ fns })).logNs nsid fns).finish id 0 0 0
          | 1 =>
            if fns.any (fun f => !n.fns.contains f) then s.finish id 1 0x1A 0
            else ((s.updNs nsid (fun n => { n with fns := n.fns.filter (fun f => !fns.contains f) })).logNs nsid fns).finish id 0 0 0
          | _ => s.finish id 0 2 0))

/-- Format one namespace (R491): SES 1 and 2 replace its key, and end the state of a key that could not be unwrapped
(R490). The size keeps its tarts in the new format. -/
def State.formatNs (s : State) (n : Ns) (lbaf ses pi : Nat) (ext : Bool) : State :=
  let s := s.clearNs n 0 7
  let per := if lbaf < 2 then 32 else 4
  let s := (s.updNs n.id (fun n => { n with lbaf := lbaf, pi := pi, ext := ext, lbas := n.lbas * per / n.perTart })).logNs n.id n.fns
  if ses = 0 then s
  else
    let k := s.newKey
    (k.2.updNs n.id (fun n => { n with key := some k.1 })).forgetNs n.id false

/-- FORMAT_NVM (R115, R158, R491, R493). -/
def execFormatNvm (hd : Hdr) (nsid lbaf ses pi : Nat) (ext : Bool) (s : State) : Host.Outcome State Fault Refusal :=
  .next (s.beginAdmin hd (fun id s =>
    let all := nsid == 0xFFFF_FFFF
    let mine := s.tr.ns.filter (fun n => n.fns.contains hd.fn && (all || n.id == nsid))
    if s.isPfNow hd.fn = false then s.finish id 0 1 0
    else if mine.isEmpty = true ∧ all = false then s.finish id 0 0x0B 0
    else if formatOk lbaf pi = false then s.finish id 1 0x0A 0
    else if 2 < ses then s.finish id 0 2 0
    else if s.nv.sanitize.isSome then s.finish id 0 0x1D 0
    else if ses ≠ 0 ∧ s.rngOk = false then s.finish id 0 6 0
    else (s.each mine (fun s n => s.formatNs n lbaf ses pi ext)).endChange id (ses != 0)))

/-! ### Sanitize (R492) -/

/-- The KEKGEN fuse is exhausted: its field holds its largest value. -/
def State.kekSpent (s : State) : Bool := s.rd Fd.SEC_FUSE_KEKGEN == 127

/-- The die blocks of a die in an order: those of the superblocks, then the SLC ones; `none` past the last. Block 0 of plane 0, the die
record's, is none of them (R197). -/
def State.dieBlock (s : State) (d i : Nat) : Option (List Nat) :=
  let slc := s.rd Fd.MED_RSVCFG_SLCBLK
  let n := s.lastBlk d - slc - 1
  let k := planesOf (s.mediaOf d)
  if i < n then some ((List.range k).map (fun p => i + firstBlk p))
  else if i < n + slc then some (List.replicate k (s.lastBlk d - slc + (i - n)))
  else none

/-- Step 6 of R492: the erases of the die blocks outside the die records and the key blocks begin, as far as the ring takes their
records. -/
def State.eraseAll (s : State) : Nat → State
  | 0 => s
  | n + 1 => match s.md.sanAt with
    | none => s
    | some (d, i) =>
      let at_ := fun (s : State) (p : Option (Nat × Nat)) => s.updMd (fun m => { m with sanAt := p })
      if s.variant.diesN ≤ d then at_ s none
      else match (if (s.die d).st = 1 then s.dieBlock d i else none) with
        | none => State.eraseAll (at_ s (some (d + 1, 0))) n
        | some b =>
          let skip := s.md.keyBlks.any (fun k => k.die == d && k.blocks == b) || s.md.erases.any (fun e => e.die == d && e.blocks == b) ||
            (b.zip (List.range b.length)).all (fun p => (s.blk d p.2 p.1).st == .retired || (s.blk d p.2 p.1).st == .bad)
          if skip then State.eraseAll (at_ s (some (d, i + 1))) n
          else match s.eraseIntent d b with
            | some t => State.eraseAll (at_ t (some (d, i + 1))) n
            | none => s

/-- A sanitize goes on: once the map is deallocated, a Block Erase erases the flash. At most 4,096 die blocks are taken up at a time
(DESIGN CHOICE, log entry 150). -/
def State.pumpSanitize (s : State) : State :=
  if s.nv.sanitize.isNone ∨ s.rd Fd.SEC_SANITIZE_STEP < 5 ∨ s.tr.mapq.any (fun w => w.cause == 4) = true then s
  else
    let s := if s.rd Fd.SEC_SANITIZE_STEP = 5 ∧ s.md.sanAt.isSome then
        (s.wr Fd.SEC_SANITIZE_STEP 6).updMd (fun m => { m with
          sbs := [], copies := [], dests := [], rfs := [], partials := [], ops := m.ops.filter (fun o => o.st == .busy || o.why == .key) })
      else s
    let s := s.eraseAll 4096
    match s.md.sanAt with
    | some (d, _) => s.wr Fd.SEC_SANITIZE_PROGRESS (256 * d / s.variant.diesN)
    | none => s

/-- A sanitize begins at step 2 of R492 with its pending action, or at step 3 after a start that found it pending. -/
def State.startSanitize (s : State) (ctx action : Nat) (block : Bool) : State :=
  let s := (s.updNv (fun n => { n with sanitize := some ctx })).updMd (fun m => { m with sanAt := if block then some (0, 0) else none })
  let s := (s.wr Fd.SEC_SANITIZE_STATE 1).wr Fd.SEC_SANITIZE_PROGRESS 0
  ((s.wr Fd.SEC_SANITIZE_STEP 2).changeKeys action ctx).goKeys.pumpSanitize

/-- SANITIZE (R115, R492, R493): `sanact` 1 Exit Failure Mode, 2 Block Erase, 4 Crypto Erase. -/
def execSanitize (hd : Hdr) (sanact : Nat) (s : State) : Host.Outcome State Fault Refusal :=
  .next (s.begin hd .sanitize 0 0 0 noXfer (fun id s =>
    if s.isPfNow hd.fn = false then s.finish id 0 1 0
    else if sanact = 1 then (s.wr Fd.SEC_SANITIZE_STATE 0).finish id 0 0 0
    else if sanact ≠ 2 ∧ sanact ≠ 4 then s.finish id 0 2 0
    else if s.nv.sanitize.isSome then s.finish id 0 0x1D 0
    else
      let s := s.wr Fd.SEC_SANITIZE_ACTION sanact
      if s.rngOk = false then (s.wr Fd.SEC_SANITIZE_STATE 3).finish id 0 6 0
      else
        let s := s.each ((s.nv.ctxs.filter (fun c => c.sq != 0 && c.status.isNone)).map (fun c => c.id)) (fun s c =>
          s.finish c 0 0x1D 0)
        s.startSanitize id sanact (sanact == 2 || s.kekSpent)))

/-- The last step of a sanitize has ended: its map writes are done, and for a Block Erase every erase. -/
def State.sanitized (s : State) : Bool :=
  decide (5 ≤ s.rd Fd.SEC_SANITIZE_STEP) && !(s.tr.mapq.any (fun w => w.cause == 4)) && s.md.sanAt.isNone &&
    (s.rd Fd.SEC_SANITIZE_STEP == 5 || s.md.erases.isEmpty)

/-- SANITIZE_END (R492). -/
def execSanitizeEnd (s : State) : Host.Outcome State Fault Refusal :=
  .next (match s.nv.sanitize with
    | none => s
    | some id =>
      let s := s.pumpSanitize
      if s.sanitized then
        let s := ((s.wr Fd.SEC_SANITIZE_STATE 2).wr Fd.SEC_SANITIZE_STEP 0).wr Fd.SEC_SANITIZE_PROGRESS 255
        (s.updNv (fun n => { n with sanitize := none })).finish id 0 0 0
      else s)

end Sys2Proof.Machine
end

