-- ==== Sys2Proof/Machine/Streams.lean ====
section
/-! DEFINITION. Streams (R202 to R206): how tarts that wait become program units of open superblocks, merge reads (R173),
parity (R268), padding and early closing, and the confirmation of relocations (R209). -/

namespace Sys2Proof.Machine

/-! ### The block table (R320) -/

/-- Begin the BLKTAB records of block table changes that wait, in order, as far as the ring has room. The word's layout
is the model's: the superblock's number above a code of its state (DESIGN CHOICE, log entry 40). -/
def State.pumpTab (s : State) : State :=
  s.md.tabq.foldl (fun s c =>
    match s.md.tabq with
    | x :: rest =>
      if x = c then
        match s.beginRec (fun _ => .blkTab c.1 0 c.2.1 (BitVec.ofNat 64 c.2.2)) false with
        | some (_, s) => s.updMd (fun m => { m with tabq := rest })
        | none => s
      else s
    | [] => s) s

/-- A change of a die block's word in the block table is recorded before it takes effect there (BLKTAB_WRITTEN). -/
def State.noteBlk (s : State) (die blk word : Nat) : State :=
  s.updMd (fun m => { m with tabq := m.tabq ++ [(die, blk, word)] })

/-- The code of a superblock's state in the block table. -/
def SbSt.code : SbSt → Nat
  | .open_ => 1
  | .closed => 2
  | .victim => 3
  | .erasing => 4

/-- Record the state of a superblock in the words of its die blocks. -/
def State.noteSb (s : State) (id : Nat) : State :=
  match s.sb id with
  | some x => (s.each x.members (fun s m => s.noteBlk m.die (m.blocks.getD 0 0) (16 * id + x.st.code))).pumpTab
  | none => s

/-- Set the state of a superblock. -/
def State.setSbSt (s : State) (id : Nat) (st : SbSt) : State := (s.updSb id (fun x => { x with st := st })).noteSb id

/-! ### Streams and their operations -/

/-- The slot class of a stream's programs. -/
def Stream.slotCls : Stream → SlotCls
  | .host _ => .host
  | .gc _ => .gc
  | .refresh => .rfs
  | .metadata => .rfs
  | .flush => .host

/-- The kind of a stream for the shares of R204, with its share. -/
def Stream.kind : Stream → Nat × Nat
  | .host _ => (0, 512)
  | .gc _ => (1, 64)
  | _ => (2, 16)

/-- The tenant that a stream's programs are charged to (R146). -/
def State.streamTenant (s : State) : Stream → Nat
  | .host ns => s.ownerOf ns
  | _ => 0

/-- The program operations of a superblock. -/
def State.opsOf (s : State) (id : Nat) : List Op :=
  s.md.ops.filter (fun o => o.sb == id && (o.why == .unit || o.why == .parity))

/-- A die takes new operations: not one of a slot whose planned removal has closed it (R250 step 5). -/
def State.dieTakes (s : State) (d : Nat) : Bool := !(s.slots.getD (slotOf d) .init).closing

/-- Data members of the open stripe that can still take a program: present, taking operations, with none issued or
formed. -/
def State.freeMembers (s : State) (x : Sb) : List Nat :=
  let ops := s.opsOf x.id
  (List.range x.members.length).filter (fun i =>
    let m := x.members.getD i ⟨0, [], 1⟩
    i != parityMember x.members.length x.stripe && !(x.issued.contains i) && !(ops.any (fun o => o.mem == i)) &&
      !m.lacks && s.dieTakes m.die)

/-- Every data member of the open stripe has reported success, or is lost or closed to it. -/
def State.stripeDone (s : State) (x : Sb) : Bool :=
  (List.range x.members.length).all (fun i =>
    let m := x.members.getD i ⟨0, [], 1⟩
    i == parityMember x.members.length x.stripe || x.done.contains i || m.lacks ||
      (!s.dieTakes m.die && !x.issued.contains i))

/-- The parity member of the open stripe can take its program. -/
def State.parityTakes (s : State) (x : Sb) : Bool :=
  let m := x.members.getD (parityMember x.members.length x.stripe) ⟨0, [], 1⟩
  !m.lacks && s.dieTakes m.die

/-- The member of the open stripe for the next program unit. -/
def State.freeMember (s : State) (x : Sb) : Option Nat := (s.freeMembers x).head?

/-- A stripe is open once a program of it has been formed. -/
def State.stripeOpen (s : State) (x : Sb) : Bool := !x.issued.isEmpty || !(s.opsOf x.id).isEmpty

/-- Operations that keep a die from taking a program: those in it and the programs that wait for it. -/
def State.dieLoad (s : State) (d : Nat) : Nat :=
  (s.md.ops.filter (fun o => o.die == d && (o.st != .wait || o.kind == .program))).length

/-- Form the program of a member's unit in the open stripe of a superblock. -/
def State.addUnit (s : State) (x : Sb) (i : Nat) (why : OpWhy) (tarts : List Placed) (units : List Nat) : State :=
  let d := (x.members.getD i ⟨0, [], 0⟩).die
  (s.addOp { newOp .program x.stream.slotCls d (s.streamTenant x.stream) why with
    sb := x.id, unit := x.stripe, mem := i, tarts := tarts, units := units }).2

/-! ### Confirmed tarts -/

/-- Step 6 of R28 has ended for the tarts of a host program: their map writes follow with the newest OSEQ included
(R317). -/
def State.confirmHost (s : State) (x : Sb) (i : Nat) (tarts : List Placed) : State :=
  let m := x.members.getD i ⟨0, [], 0⟩
  s.each (tarts.zip (List.range tarts.length)) (fun s t =>
    if t.1.vids.isEmpty then s
    else
      let cseq := t.1.vids.foldl (fun a v => max a (((s.ver v).map (fun y => y.oseq)).getD 0)) 0
      s.issueMap 1 t.1.ltn (s.unitPpa m x.stripe t.2) (t.1.secs.any (fun y => y.tag == .poison)) false none cseq t.1.vids)

/-! ### The partial parity (R204) -/

/-- A program unit of a superblock adds to the partial parity of its open stripe, or replaces it. -/
def State.setPartial (s : State) (id : Nat) (pages : List (List Sector)) : State :=
  s.updMd (fun m => { m with partials := m.partials.filter (fun p => p.sb != id) ++ [⟨id, pages⟩] })

def State.dropPartial (s : State) (id : Nat) : State :=
  s.updMd (fun m => { m with partials := m.partials.filter (fun p => p.sb != id) })

/-- The payloads of a member's unit in the open stripe. -/
def State.unitPages (s : State) (x : Sb) (i : Nat) : List (List Sector) :=
  (List.range (unitTarts x.media)).map (fun j => (s.page (s.unitPpa (x.members.getD i ⟨0, [], 0⟩) x.stripe j)).secs)

/-- A programmed unit enters the partial parity of its stripe. -/
def State.addPartial (s : State) (x : Sb) (i : Nat) : State :=
  let old := (s.partialOf x.id).getD []
  s.setPartial x.id (((s.unitPages x i).zip (List.range (unitTarts x.media))).map (fun p => xorPage (old.getD p.2 []) p.1))

/-! ### Closing stripes and superblocks -/

/-- The die block of a flash address, by superblock and member. -/
def State.dieBlkId (s : State) (p : Nat) : Option (Nat × Nat) := (s.sbOfPpa p).map (fun q => (q.1.id, q.2))

/-- Something of the die block at `p`, which a refresh relocates, is not settled yet (R223). -/
def State.refreshLeft (s : State) (p : Nat) : Bool :=
  let here := fun (q : Nat) => s.dieBlkId q == s.dieBlkId p
  let mine := fun (t : Placed) => t.cls == 4 && (match t.src with | some q => here q | none => false)
  s.md.copies.any mine || s.md.dests.any (fun d => mine d.tart) ||
    s.md.ops.any (fun o => (o.cls == .rfs && (match o.why with | .copy _ _ => here o.ppa | _ => false)) || o.tarts.any mine)

/-- The relocations to a closed superblock are confirmed (R209), those of a failed block apart, which its failure took out:
their map writes are issued. A refreshed block with nothing left counts in MED_CNT_RFS (R223). -/
def State.confirmDests (s : State) (id : Nat) : State :=
  let mine := s.md.dests.filter (fun d => d.sb == id)
  let s := s.updMd (fun m => { m with dests := m.dests.filter (fun d => d.sb != id) })
  let s := s.each mine (fun s d => s.issueMap 2 d.tart.ltn d.ppa d.tart.poison false d.tart.src 0 [])
  let blocks := (mine.filter (fun d => d.tart.cls == 4)).filterMap (fun d => d.tart.src)
  let firsts := blocks.foldl (fun (l : List Nat) p =>
    if l.any (fun q => s.dieBlkId q == s.dieBlkId p) then l else l ++ [p]) []
  s.each firsts (fun s p => if s.refreshLeft p then s else s.count Fd.MED_CNT_RFS_COUNT)

/-- A superblock closes (R203): its destination blocks are confirmed (R209). -/
def State.closeSb (s : State) (id : Nat) : State :=
  (((s.dropPartial id).updSb id (fun x => { x with
    closedBar := s.bar, issued := [], done := [], parity := false })).setSbSt id .closed).confirmDests id

/-- The open stripe of a superblock is closed (R201): the next stripe opens, or after the last stripe, or a failure, the
superblock closes. -/
def State.closeStripe (s : State) (id : Nat) : State :=
  match s.sb id with
  | some x =>
    if x.failed = true ∨ s.unitsOf x.media ≤ x.stripe + 1 then s.closeSb id
    else (s.dropPartial id).updSb id (fun x => { x with stripe := x.stripe + 1, issued := [], done := [], parity := false })
  | none => s

/-- Once every data member has reported success, the parity is programmed; a stripe whose parity member lacks closes
without it. `closing` are the tarts whose program closed the stripe, and their member. -/
def State.finishStripe (s : State) (id : Nat) (closing : List Placed) (mem : Nat) : State :=
  match s.sb id with
  | some x =>
    if x.st ≠ .open_ ∨ x.parity = true ∨ x.done.isEmpty = true ∨ s.stripeDone x = false ∨ (s.opsOf id).isEmpty = false then s
    else
      if s.parityTakes x = false then s.closeStripe id
      else (s.updSb id (fun x => { x with parity := true })).addUnit x (parityMember x.members.length x.stripe) .parity closing [mem]
  | none => s

/-- Pad the open stripe (R204): every data position without a program takes zeros. -/
def State.padStripe (s : State) (id : Nat) : State :=
  match s.sb id with
  | some x =>
    (s.each (s.freeMembers x) (fun s i => s.addUnit x i .unit [] [])).finishStripe id [] 0
  | none => s

/-- Tarts of a program that is not carried out return: versions to COMMITTED (R171, R211), relocations to the tarts that
wait to be placed. -/
def State.returnTarts (s : State) (tarts : List Placed) : State :=
  s.each tarts (fun s t =>
    match t.src with
    | some _ => s.updMd (fun m => { m with copies := m.copies ++ [t] })
    | none =>
      let s := s.updTr (fun x => { x with
        vers := updWhere (fun v => t.vids.contains v.id && v.st == .programming) (fun v => { v with st := .committed }) x.vers })
      let s := s.each (s.tr.vers.filter (fun v => v.ltn == t.ltn && v.st == .committed)) (fun s v => s.supersede v)
      (s.pumpDealloc t.ltn).freeVers)

/-- Drop a program that waits, with its merge reads. -/
def State.dropProgram (s : State) (o : Op) : State :=
  let ms := s.tr.merges.filter (fun m => m.prog == o.id)
  let s := s.dropOp o.id
  let s := s.updMd (fun m => { m with ops := m.ops.filter (fun p => match p.why with
    | .merge i => p.st == .busy || p.st == .suspended || !(ms.any (fun x => x.id == i))
    | _ => true) })
  let s := s.updTr (fun t => { t with
    merges := t.merges.filter (fun m => m.prog != o.id),
    watch := t.watch.filter (fun w => !(w.kind == 3 && ms.any (fun x => x.id == w.item))) })
  s.returnTarts (o.tarts.filter (fun t => t.src.isSome || !t.vids.isEmpty))

/-- Close a superblock early (R205, R209, R211): it takes no more programs, its open stripe is padded, and it closes with
that stripe, or at once when nothing of the stripe is programmed. -/
def State.closeEarly (s : State) (id : Nat) : State :=
  match s.sb id with
  | some x =>
    if x.st ≠ .open_ ∨ x.failed = true then s
    else
      let s := s.updSb id (fun x => { x with failed := true })
      let s := s.each ((s.opsOf id).filter (fun o => o.why == .unit && (o.st == .wait || o.st == .chosen))) (fun s o =>
        s.dropProgram o)
      if x.issued.isEmpty = true ∧ (s.opsOf id).isEmpty = true then s.closeSb id else s.padStripe id
  | none => s

/-- A tart that nothing can read any more: every sector carries the poison mark (R221). -/
def lostPlaced (ltn ppa cls victim : Nat) : Placed :=
  ⟨ltn, List.replicate 32 poisonSector, [], some ppa, true, 2 ^ 32 - 1, cls, victim⟩

/-- A tart at a flash address as its stripe yields it (R205, R269): a sector whose GUARD fails, or whose tag names another sector, is
lost. -/
def State.rebuiltTart (s : State) (ppa ltn cls victim : Nat) : Placed :=
  if s.canRecon ppa then
    let got := (s.rebuiltPage ppa).map readPayload
    let secs := (List.range 32).map (fun k => match got.getD k none with
      | some y => if tagNames y (ltn * 32 + k) then (y, false) else (poisonSector, true)
      | none => (poisonSector, true))
    let lost := sumOf (fun k => if (secs.getD k (emptySector, false)).2 then 2 ^ k else 0) (List.range 32)
    ⟨ltn, secs.map (fun p => p.1), [], some ppa, secs.any (fun p => p.1.tag == .poison), lost, cls, victim⟩
  else lostPlaced ltn ppa cls victim

/-- The tarts that a member's unit in the open stripe holds, with their flash addresses. -/
def State.unitTartsAt (s : State) (x : Sb) (i : Nat) : List (Nat × Nat) :=
  ((List.range (unitTarts x.media)).map (fun j => s.unitPpa (x.members.getD i ⟨0, [], 0⟩) x.stripe j)).filterMap (fun ppa =>
    (s.page ppa).ltn.map (fun l => (l, ppa)))

/-- The programmed data of a member of an open stripe, rebuilt, waits to be placed in the GC rebuild stream (R205). A relocation whose
source no map entry holds is dropped when its map write is issued (R169, R252). -/
def State.rebuildUnit (s : State) (x : Sb) (i : Nat) : State :=
  s.updMd (fun m => { m with copies := m.copies ++ (s.unitTartsAt x i).map (fun t => s.rebuiltTart t.2 t.1 1 x.id) })

/-- A member of an open stripe is lost (R205): its programmed data is rebuilt, its program in flight fails, and the superblock closes
early. The stripe's parity keeps the lost member's programmed data, so that it can be rebuilt until it is relocated (DEDUCED, log
entry 154). -/
def State.loseMember (s : State) (id i : Nat) : State :=
  match s.sb id with
  | some x =>
    let d := (x.members.getD i ⟨0, [], 0⟩).die
    let s := if x.done.contains i then s.rebuildUnit x i else s
    let s := s.dropReads (fun o => o.why == .close id && o.die == d)
    -- Data that closed the stripe with this member is programmed no longer; with the parity's member it needs no parity.
    let s := s.each ((s.opsOf id).filter (fun o => o.why == .parity && o.mem != i && o.units.getD 0 x.members.length == i)) (fun s o =>
      (s.updOp o.id (fun o => { o with tarts := [] })).returnTarts o.tarts)
    let s := s.each ((s.opsOf id).filter (fun o => o.mem == i)) (fun s o =>
      if o.why = .parity then (s.dropOp o.id).confirmHost x (o.units.getD 0 0) o.tarts else (s.dropOp o.id).returnTarts o.tarts)
    let s := s.updSb id (fun x => { x with
      done := x.done.filter (fun k => k != i), parity := x.parity && i != parityMember x.members.length x.stripe })
    (s.closeEarly id).finishStripe id [] 0
  | none => s

/-- A lost member of an open superblock has something to settle: the superblock is not closing yet, or the member has data or a program
in the open stripe. -/
def State.toLose (s : State) (x : Sb) (i : Nat) : Bool :=
  (x.members.getD i ⟨0, [], 1⟩).lacks && (!x.failed || x.done.contains i || (s.opsOf x.id).any (fun o => o.mem == i))

/-- Every open superblock that lacks a member is closed early, each lost member settled. -/
def State.settleOpen (s : State) : State :=
  s.each (s.md.sbs.filter (fun x => x.st == .open_)) (fun s x =>
    s.each (List.range x.members.length) (fun s i => match s.sb x.id with
      | some y => if y.st = .open_ ∧ s.toLose y i = true then s.loseMember x.id i else s
      | none => s))

/-- Reads of an open stripe's programmed members, of which its parity is formed again (R206, R365). -/
def State.readMembers (s : State) (x : Sb) : State :=
  s.each (x.done.filter (fun i => !(x.members.getD i ⟨0, [], 1⟩).lacks)) (fun s i =>
    s.each (List.range (unitTarts x.media)) (fun s j =>
      (s.addRead .gc 0 false (.close x.id) (s.unitPpa (x.members.getD i ⟨0, [], 0⟩) x.stripe j)).2))

/-- Close the open stripe of a superblock whose partial parity is gone (R206): the programmed members are read in GC slots, and the
stripe is padded; a parity program in its die goes on. A position whose program a power loss interrupted is not programmed again
(DESIGN CHOICE, log entry 155). -/
def State.closeAgain (s : State) (x : Sb) : State :=
  let ops := s.opsOf x.id
  let p := parityMember x.members.length x.stripe
  let cut := x.issued.filter (fun i => !(x.done.contains i) && !(ops.any (fun o => o.mem == i)))
  if ops.any (fun o => o.why == .parity && (o.st == .busy || o.st == .suspended)) then s
  else if cut.contains p then s.closeStripe x.id
  else
    let s := s.readMembers x
    ((s.setPartial x.id []).updSb x.id (fun y => { y with
      done := y.done ++ cut, parity := ops.any (fun o => o.why == .parity) })).padStripe x.id

/-- Close every open stripe before any new program to its superblock (R206). -/
def State.closeOpenStripes (s : State) : State :=
  let s := (s.dropReads (fun o => match o.why with | .close _ => true | _ => false)).updMd (fun m => { m with partials := [] })
  s.each (s.md.sbs.filter (fun x => x.st == .open_ && s.stripeOpen x)) (fun s x => s.closeAgain x)

/-! ### Where the next unit goes (R202, R204) -/

/-- The open superblocks of a stream (on media type `k` where the stream follows its victims'), each with its next member
and that member's die's load. -/
def State.openSbs (s : State) (st : Stream) (k : Option Nat) : List Sb :=
  s.md.sbs.filter (fun x => x.stream == st && x.st == .open_ && !x.failed && (k.isNone || k == some x.media))

/-- Open stripes of the kind of a stream, least recently programmed first. -/
def State.openStripes (s : State) (kind : Nat) : List Sb :=
  sortBy (fun a b => decide (a.stamp < b.stamp))
    (s.md.sbs.filter (fun x => x.st == .open_ && x.stream.kind.1 == kind && s.stripeOpen x))

/-- The superblock and member that take the next unit of a stream: the open superblock whose next member's die is
soonest free; a new one when all wait on busy dies and the stream holds fewer than 4. -/
def State.target (s : State) (st : Stream) (k : Option Nat) : Option (Nat × Nat × State) :=
  let cands := (s.openSbs st k).filterMap (fun x =>
    (s.freeMember x).map (fun i => (s.dieLoad (x.members.getD i ⟨0, [], 0⟩).die, x.id, i)))
  let best := cands.foldl (fun (a : Option (Nat × Nat × Nat)) c => match a with
    | none => some c
    | some b => if c.1 < b.1 then some c else some b) none
  let fresh : Option State :=
    if (s.md.sbs.filter (fun x => x.stream == st && x.st == .open_)).length < 4 then
      (match k with | some k => s.formSb st k | none => s.formStream st)
    else none
  match best with
  | some (0, id, i) => some (id, i, s)
  | some (_, id, i) => (match fresh with
    | some t => (t.sb s.md.nextSb).bind (fun x => (t.freeMember x).map (fun j => (x.id, j, t.noteSb x.id)))
    | none => some (id, i, s))
  | none => fresh.bind (fun t => (t.sb s.md.nextSb).bind (fun x => (t.freeMember x).map (fun j => (x.id, j, t.noteSb x.id))))

/-- Form a unit of a stream with the given tarts; `none` when no superblock takes it. A stream that needs to open a
stripe when its share is full has the least recently programmed open stripe of its kind padded first (R204). -/
def State.formUnit (s : State) (st : Stream) (k : Option Nat) (tarts : List Placed) : Bool × State :=
  match s.target st k with
  | none => (false, s)
  | some (id, i, t) =>
    match t.sb id with
    | none => (false, s)
    | some x =>
      let opened := s.openStripes st.kind.1
      if t.stripeOpen x = false ∧ st.kind.2 ≤ opened.length then
        match opened with
        | y :: _ => (false, s.padStripe y.id)
        | [] => (false, s)
      else (true, t.addUnit x i .unit (tarts.take (unitTarts x.media)) [])

/-! ### Host programs (R170, R173) -/

/-- The COMMITTED versions of a tart that a program includes, oldest commit first. -/
def State.toProgram (s : State) (ltn : Nat) : List Ver :=
  (s.indexOf ltn).filter (fun v => v.st == .committed && !v.units.isEmpty)

/-- A program of the tart is in flight or formed (R170). -/
def State.programmed (s : State) (ltn : Nat) : Bool :=
  s.tr.vers.any (fun v => v.ltn == ltn && v.st == .programming) ||
    s.md.ops.any (fun o => o.why == .unit && o.cls == .host && o.tarts.any (fun t => t.ltn == ltn))

/-- Every COMMITTED version of a tart is ready for step 6 (R28, R173), a deallocation that it follows carried out. -/
def State.tartReady (s : State) (ltn : Nat) : Bool :=
  (s.indexOf ltn).all (fun v => v.st != .committed || (v.ready && !v.units.isEmpty))

/-- A Flush waits for a tart: it covers a version of it, or one that superseded it (R130). -/
def State.flushWaits (s : State) (ltn : Nat) : Bool :=
  s.nv.ctxs.any (fun c => c.cmd == .flush && c.status.isNone && (s.indexOf ltn).any (fun v => c.refs.contains v.id))

/-- The tarts of a namespace that wait for a program: those that a Flush waits for first (R130), then oldest first. -/
def State.waitingTarts (s : State) (ns : Nat) : List Nat :=
  let all := (((s.tr.vers.filter (fun v => v.nsid == ns && v.st == .committed && !v.units.isEmpty)).map (fun v => v.ltn)).foldl
    (fun l t => addOnce t l) []).filter (fun l => !s.programmed l && s.tartReady l)
  all.filter (fun l => s.flushWaits l) ++ all.filter (fun l => !s.flushWaits l)

/-- The included versions, if there are any, do not write every sector. -/
def State.partialTart (s : State) (ltn : Nat) : Bool :=
  let vs := s.toProgram ltn
  !vs.isEmpty && (List.range 32).any (fun i => !(vs.any (fun v => v.secs.any (fun q => q.1 == i))))

/-- A version that a program of the tart is to include is of an urgent command (R122). -/
def State.tartUrgent (s : State) (ltn : Nat) : Bool := (s.toProgram ltn).any (fun v => v.urgent)

/-- Begin the merge of a tart of a formed program (R173): a read of its location where its entry has one, else zeros, or poison for a
lost tart; the lookup that returns the entry is held to R166 and R185. -/
def State.startMerge (s : State) (prog owner ltn : Nat) : State :=
  let e := s.mapEntry ltn
  let there := e.located && s.legal e
  let s := s.lookedUp ltn e
  let id := s.tr.nextId
  let s := s.updTr (fun x => { x with
    nextId := id + 1
    merges := x.merges ++ [⟨id, prog, ltn, e.gen, e.ppa, false, if there then none else some (s.unmapped ltn e)⟩] })
  if there then ((s.addRead .host owner (s.tartUrgent ltn) (.merge id) e.ppa).2).addWatch 3 id ltn else s

/-- The merge of a tart that a formed program has still holds: what it took is at the tart's present map location (R173). -/
def State.mergeHolds (s : State) (m : Merged) : Bool := m.secs.isNone || m.gen == (s.mapEntry m.ltn).gen

/-- Merges that the tarts of a formed program need and do not have, once a watch entry is free. -/
def State.pumpMerges (s : State) (o : Op) (owner : Nat) : State :=
  let s := s.updTr (fun x => { x with merges := x.merges.filter (fun m => m.prog != o.id || s.mergeHolds m) })
  s.each o.tarts (fun s t =>
    if s.partialTart t.ltn = false ∨ s.watchFree 3 = false ∨ s.segHeld t.ltn = true ∨
        s.tr.merges.any (fun m => m.prog == o.id && m.ltn == t.ltn) = true then s
    else s.startMerge o.id owner t.ltn)

/-- A tart that waits for a program, as a formed unit names it. -/
def waitingPlaced (ltn : Nat) : Placed := ⟨ltn, [], [], none, false, 0, 0, 0⟩

/-- Put waiting tarts into a formed unit of their stream that has room and is not yet chosen. -/
def State.joinUnit (s : State) (ns : Nat) : State :=
  match s.md.ops.find? (fun o => o.why == .unit && o.st == .wait && (match s.sb o.sb with
      | some x => x.stream == .host ns && !x.failed && decide (o.tarts.length < unitTarts x.media)
      | none => false)) with
  | some o => match s.sb o.sb with
    | some x =>
      let more := (s.waitingTarts ns).take (unitTarts x.media - o.tarts.length)
      s.updOp o.id (fun o => { o with tarts := o.tarts ++ more.map waitingPlaced })
    | none => s
  | none => s

/-- Form the units of a namespace's stream: `fuel` bounds the units formed in one window. -/
def State.formHost (ns : Nat) : Nat → State → State
  | 0, s => s
  | n + 1, s =>
    match s.waitingTarts ns with
    | [] => s
    | ts =>
      let r := s.formUnit (.host ns) none (ts.map waitingPlaced)
      if r.1 then State.formHost ns n r.2 else r.2

/-- The host streams: every tart with a COMMITTED version goes into the next unit of its namespace's stream, padded where
no further tart waits (DESIGN CHOICE, log entry 41). -/
def State.formHosts (s : State) : State :=
  let s := s.each (s.tr.vers.filter (fun v => v.units.isEmpty && v.st == .committed && v.ready)) (fun s v => s.pumpDealloc v.ltn)
  let s := s.each (s.tr.ns.map (fun n => n.id)) (fun s ns => State.formHost ns 4 (s.joinUnit ns))
  s.each (s.md.ops.filter (fun o => o.why == .unit && o.cls == .host && o.st == .wait)) (fun s o => s.pumpMerges o o.tenant)

/-! ### Relocations (R208 step 3 and 4, R223) -/

/-- Copies of a class still to come: reads that wait or are in a die. -/
def State.copiesComing (s : State) (cls : Nat) : Bool :=
  s.md.ops.any (fun o => match o.why with | .copy sb _ => s.copyClass sb o.cls == cls | _ => false)

/-- Form the units of a GC class's stream, or of the refresh stream (4): full units, and the rest once no further copy
of the class is to come. -/
def State.formCopies (cls : Nat) : Nat → State → State
  | 0, s => s
  | n + 1, s =>
    match s.md.copies.filter (fun t => t.cls == cls) with
    | [] => s
    | t :: ts =>
      let k := s.mediaOf ((t.src.map ppaDie).getD 0)
      let same := (t :: ts).filter (fun u => cls == 4 || s.mediaOf ((u.src.map ppaDie).getD 0) == k)
      let kind := if cls = 4 then none else some k
      if same.length < unitTarts k ∧ s.copiesComing cls = true then s
      else
        let r := s.formUnit (if cls = 4 then .refresh else .gc cls) kind same
        if r.1 then
          let used := (r.2.md.ops.getLast?.map (fun o => o.tarts)).getD []
          State.formCopies cls n (r.2.updMd (fun m => { m with copies := m.copies.filter (fun u => !used.contains u) }))
        else r.2

end Sys2Proof.Machine
end

