-- ==== Sys2Proof/Machine/Program.lean ====
section
/-! DEFINITION. What programs leave behind (steps 6 to 8 of R28, R191, R192, R201, R209 to R211, R330), and the map
write (R169), with the commands FLASH_PROGRAM_COMPLETE, MAP_WRITE, FLASH_PROGRAM_FAILURE, DELTA_PAGE_PROGRAM, BLKTAB_WRITTEN
and OPERATION_TIMEOUT. -/

namespace Sys2Proof.Machine

/-! ### Pages -/

/-- A sector of padding (R271). -/
def padSector : Sector := ⟨0, 0, .padding⟩

/-- Write the pages of a program unit: its tarts, then padding (R204). -/
def State.storeUnit (s : State) (m : Member) (k u : Nat) (tarts : List Placed) : State :=
  s.each (List.range (unitTarts k)) (fun s j =>
    let p : Page := match tarts[j]? with
      | some t => ⟨some t.ltn, t.secs⟩
      | none => ⟨none, List.replicate 32 padSector⟩
    s.updMd (fun d => { d with flash := spSet (fun _ => .init) d.flash (s.unitPpa m u j) p }))

/-- The parity of a stripe at a page position (R268): the partial parity, else the XOR of the payloads of its other members. -/
def State.parityPage (s : State) (x : Sb) (p j : Nat) : List Sector :=
  match s.partialOf x.id with
  | some pages => xorPage (pages.getD j []) []
  | none => ((List.range x.members.length).filter (fun i => i != p)).foldl (fun a i =>
      xorPage a (s.page (s.unitPpa (x.members.getD i ⟨0, [], 0⟩) x.stripe j)).secs) (xorPage [] [])

/-- Write the pages of a stripe's parity. -/
def State.storeParity (s : State) (x : Sb) (p : Nat) : State :=
  let m := x.members.getD p ⟨0, [], 0⟩
  s.each (List.range (unitTarts x.media)) (fun s j =>
    s.updMd (fun d => { d with flash := spSet (fun _ => .init) d.flash (s.unitPpa m x.stripe j) ⟨none, s.parityPage x p j⟩ }))

/-! ### Confirmed tarts -/

/-- A relocation has been programmed and waits for its block (R209); sectors that its copy poisoned are counted and
recorded (R210). -/
def State.placeDests (s : State) (x : Sb) (i : Nat) (tarts : List Placed) : State :=
  let m := x.members.getD i ⟨0, [], 0⟩
  s.each (tarts.zip (List.range tarts.length)) (fun s t =>
    let ppa := s.unitPpa m x.stripe t.2
    let s := s.updMd (fun d => { d with dests := d.dests ++ [⟨x.id, i, ppa, t.1⟩] })
    if t.1.lost = 0 then s
    else (s.count Fd.MED_CNT_LOST_COUNT (sumOf (fun b => boolNat (bit t.1.lost b)) (List.range 32))).aev 0 0x0503
      [t.1.ltn, t.1.lost, t.1.src.getD 0, ppa])

/-- A data unit's program reports success (R201): the data that closes its stripe waits for the parity. -/
def State.unitDone (s : State) (x : Sb) (o : Op) : State :=
  let m := x.members.getD o.mem ⟨0, [], 0⟩
  let s := (s.storeUnit m x.media o.unit o.tarts).addPartial x o.mem
  let s := s.updSb x.id (fun x => { x with done := addOnce o.mem x.done, stamp := s.md.stamp })
  let s := s.updMd (fun d => { d with stamp := d.stamp + 1 })
  let hosted := o.cls == .host
  let closes := match s.sb x.id with
    | some y => s.stripeDone y && (s.opsOf x.id).isEmpty && s.parityTakes y
    | none => false
  let s := if hosted then (if closes then s else s.confirmHost x o.mem o.tarts) else s.placeDests x o.mem o.tarts
  s.finishStripe x.id (if hosted ∧ closes = true then o.tarts else []) o.mem

/-- The parity's program reports success: the stripe closes (R201), and the data that closed it is confirmed. -/
def State.parityDone (s : State) (x : Sb) (o : Op) : State :=
  let s := s.storeParity x o.mem
  (s.confirmHost x (o.units.getD 0 0) o.tarts).closeStripe x.id

/-! ### Metadata (R192, R301, R322) -/

/-- Release the delta pages whose programs were confirmed two complete passes ago (R192). -/
def State.releasePages (s : State) : State :=
  s.updTr (fun t => { t with pages := t.pages.filter (fun c => decide (t.passes < c.passes + 2)) })

/-- The deltas of valid records up to a map sequence number, in order: the contents of a delta page (R192). -/
def State.pageDeltas (s : State) (top : Nat) : List (Nat × Nat × MapEntry) :=
  sortBy (fun (a b : Nat × Nat × MapEntry) => decide (a.1 < b.1)) (s.lg.live.filterMap (fun r => match r.body with
    | .mapDelta l _ e m _ => if r.valid = true ∧ m ≤ top then some (m, l, e) else none
    | _ => none))

/-- The copies of segments `at'` to `at' + 3` that were being written become the newest, and of each segment the two newest count (R192,
R193). -/
def State.copiesDone (s : State) (at' : Nat) : State :=
  let mine := fun (c : SegCopy) => decide (at' ≤ c.seg) && decide (c.seg < at' + 4)
  s.updTr (fun t =>
    let new := t.copying.filter mine
    let old := t.segs.filter (fun c => !new.any (fun n => n.seg == c.seg) || t.segs.find? (fun x => x.seg == c.seg) == some c)
    { t with segs := new ++ old, copying := t.copying.filter (fun c => !mine c) })

/-- An SLC block of the metadata stream takes one program unit more; a full one begins again. -/
def State.metaUnit (s : State) (d b : Nat) : State :=
  s.updMd (fun m => { m with
    slcUsed := spSet (fun _ => 0) m.slcUsed (d * 2 ^ 15 + b) (spGet (fun _ => 0) m.slcUsed (d * 2 ^ 15 + b) % max 1 (s.unitsOf (s.mediaOf d)) + 1) })

/-- The last JSEQ given out. -/
def State.lastJseq (s : State) : Nat := s.lg.jseq - 1

/-- Queue a program of the metadata stream on a die (the model turns through the dies in use; DESIGN CHOICE, log
entry 42), with its SLC block in plane 0. -/
def State.addMetaPage (s : State) (units : List Nat) : State :=
  match s.dieNums with
  | [] => s
  | ds =>
    let d := ds.getD (s.md.nextOp % ds.length) 0
    (s.addOp { newOp .program .rfs d 0 .metadata with sb := s.metaBlk d s.md.nextOp, units := units }).2

/-- A structure of the metadata stream is written: in both formats, as separate pages, while SEC_STAT.DUAL is 1 (R484). Kind 9 is a page
in the fall-back's format, with the same contents. -/
def State.addMeta (s : State) (units : List Nat) : State :=
  (s.addMetaPage units).when (s.rd Fd.SEC_STAT_DUAL == 1) (fun s => s.addMetaPage (9 :: units))

/-- Deltas whose records are valid and that no delta page holds or will hold (R192), by map sequence number. -/
def State.freshDeltas (s : State) : List Nat :=
  let top := (s.md.ops.filter (fun o => o.why == .metadata && o.units.getD 0 9 == 0)).foldl (fun a o => max a (o.units.getD 1 0 + 1)) 0
  sortBy (fun a b => decide (a < b)) (s.lg.live.filterMap (fun r => match r.body with
    | .mapDelta _ _ _ m _ => if r.valid = true ∧ top ≤ m then some m else none
    | _ => none))

/-- A metadata program is confirmed: a delta page releases the ledger space of its deltas; the copy of the last segment
ends a pass, which releases delta pages and has the block table checkpointed (R192); loop states become the newest copy; a
block table checkpoint releases the records it holds. -/
def State.metaDone (s : State) (o : Op) : State :=
  let s := s.metaUnit o.die o.sb
  let top := o.units.getD 1 0
  match o.units.getD 0 0 with
  | 0 =>
    let page := s.pageDeltas top
    let s := s.setLive (fun l => l.filter (fun r => match r.body with
      | .mapDelta _ _ _ m _ => !(r.valid && decide (m ≤ top))
      | _ => true))
    let s := s.updTr (fun t => { t with pages := t.pages ++ [⟨page, t.passes⟩] })
    ((s.wr Fd.MAP_CKPSEQ_LO_SEQ (top % 2 ^ 32)).wr Fd.MAP_CKPSEQ_HI_SEQ (top / 2 ^ 32)).pumpDeltas
  | 1 =>
    let s := s.copiesDone top
    if o.units.getD 2 0 = 1 then
      (((s.count Fd.MAP_CKPSTAT_PASSES).updTr (fun t => { t with passes := t.passes + 1 })).releasePages).addMeta [3, s.lastJseq]
    else s
  | 2 => s.updRg (fun r => { r with saved := r.saving })
  | 9 => s
  | _ => s.setLive (fun l => l.filter (fun r => match r.body with
      | .eraseDone .. => !(r.valid && decide (r.jseq ≤ top))
      | .blkTab .. => !(r.valid && decide (r.jseq ≤ top))
      | _ => true))

/-! ### The flush reserve (R330, R331) -/

/-- Queue the flush programs of write-buffer units, a page to a program, charged to a tenant. Programs turn through the dies, each to the
first block of its die with room (DESIGN CHOICE, log entry 44); `no` is a die that is left out. -/
def State.addFlush (tenant no : Nat) : Nat → List Nat → State → State
  | 0, _, s => s
  | n + 1, us, s =>
    let room := s.flushBlks.filter (fun p => decide (s.flushUsed p < s.flushCap p.1) && p.1 != no &&
      !s.md.erases.any (fun e => e.die == p.1 && e.blk == p.2))
    let ds := (room.map (fun p => p.1)).foldl (fun l d => addOnce d l) []
    let d := ds.getD (s.md.nextOp % max 1 ds.length) 0
    match us, room.find? (fun p => p.1 == d) with
    | u :: us, some p =>
      let at' := s.flushUsed p
      let s := (s.addOp { newOp .program .host d tenant .flush with sb := p.2, ppa := at', units := (u :: us).take 4 }).2
      State.addFlush tenant no n ((u :: us).drop 4) (s.setFlushUsed p (at' + 4))
    | _, _ => s

/-- The flash address and quarter of position `n` of a die block of the flush reserve: its pages in turn through the planes (DESIGN
CHOICE, log entry 44). -/
def State.flushPos (s : State) (d blk n : Nat) : Nat × Nat :=
  let k := planesOf (s.mediaOf d)
  (s.mkPpa d (n / 4 % k) blk (n / 4 / k), n % 4)

/-- A confirmed flush program has the directory words of its units written (R330); the position of its first unit is
its `ppa` field. -/
def State.flushProgDone (s : State) (o : Op) : State :=
  let s := s.each (o.units.zip (List.range o.units.length)) (fun s u =>
    let p := s.flushPos o.die o.sb (o.ppa + u.2)
    s.writeDir u.1 p.1 p.2)
  s.updLg (fun l => { l with loss := l.loss.map (fun x => { x with units := x.units + o.units.length }) })

/-- FLASH_PROGRAM_COMPLETE (R28 step 6, R192, R201, R209, R330). -/
def execFlashProgramComplete (op : Nat) (s : State) : Host.Outcome State Fault Refusal :=
  .next (match s.op op with
    | none => s
    | some o =>
      if o.kind ≠ .program ∨ o.st ≠ .busy ∨ o.left ≠ 0 then s
      else
        let s := (s.dropOp op).setDie o.die (fun d => { d with noResp := 0 })
        match o.why with
        | .metadata => s.metaDone o
        | .flush => s.flushProgDone o
        | .key => (s.keyPageDone o).goKeys
        | .unit => (match s.sb o.sb with | some x => s.unitDone x o | none => s)
        | .parity => (match s.sb o.sb with | some x => s.parityDone x o | none => s)
        | _ => s)

/-- MAP_WRITE (R28 step 7, R162, R169, R182, R191, R317): the map write that may be carried out now. -/
def execMapWrite (mseq : Nat) (s : State) : Host.Outcome State Fault Refusal :=
  .next (match s.tr.mapq.find? (fun w => w.mseq == mseq) with
    | some w => if s.mapReady w then s.mapWrite w else s
    | none => s)

/-! ### Failures (R205, R209, R211) -/

/-- Read again, from their sources, the relocations that a failed destination block held or was to hold (R209 step 4). -/
def State.recopy (s : State) (t : Placed) : State :=
  match t.src with
  | some p => if s.validAt p t.ltn then (s.addRead (if t.cls = 4 then .rfs else .gc) 0 false (.copy t.victim t.ltn) p).2 else s
  | none => s

/-- A program of a stream's superblock fails: the block is retired, the superblock closes early, and what the block held
or was to hold is placed again. -/
def State.unitFailed (s : State) (x : Sb) (o : Op) : State :=
  let m := x.members.getD o.mem ⟨0, [], 0⟩
  let reloc := o.cls != .host
  let held := if reloc then s.md.dests.filter (fun d => d.sb == x.id && d.mem == o.mem) else []
  let s := s.updMd (fun d => { d with dests := d.dests.filter (fun e => !held.contains e) })
  let s := s.updSb x.id (fun y => { y with
    issued := y.issued.filter (fun i => i != o.mem), parity := if o.why = .parity then false else y.parity })
  let s := s.retireBlock m.die m.blocks 1
  let s := (s.closeEarly x.id).finishStripe x.id [] 0
  let s := if reloc then
      let victim := ((o.tarts ++ held.map (fun d => d.tart)).head?.map (fun t => t.victim)).getD 0
      (s.count Fd.MED_CNT_GCFAIL_COUNT).aev 0 0x0502 [m.die, m.blocks.getD 0 0, victim]
    else s
  if reloc then s.each ((if o.why = .unit then o.tarts else []) ++ held.map (fun d => d.tart)) (fun s t => s.recopy t)
  else s.returnTarts o.tarts

/-- A program of the metadata or flush stream fails: the SLC block is retired and the data is programmed again on another
die. -/
def State.slcFailed (s : State) (o : Op) : State :=
  let k := planesOf (s.mediaOf o.die)
  let s := s.retireBlock o.die (List.replicate k o.sb) 1
  if o.why = .flush then State.addFlush o.tenant o.die 1 o.units s else
  let ds := s.dieNums.filter (fun d => d != o.die)
  let d := ds.getD (s.md.nextOp % max 1 ds.length) o.die
  (s.addOp { o with die := d, sb := s.metaBlk d o.id, st := .wait, tries := 0 }).2

/-- A program reports failure. -/
def State.programFailed (s : State) (o : Op) : State :=
  let s := (s.dropOp o.id).count Fd.MED_CNT_PFAIL_COUNT
  let s := match o.why with
    | .metadata => s.slcFailed o
    | .flush => s.slcFailed o
    | .key => (s.keyPageFailed o).goKeys
    | .unit => (match s.sb o.sb with | some x => s.unitFailed x o | none => s)
    | .parity => (match s.sb o.sb with | some x => s.unitFailed x o | none => s)
    | _ => s
  s.settleOpen.postCrit

/-- FLASH_PROGRAM_FAILURE (R205, R209, R211, R218). -/
def execFlashProgramFailure (op : Nat) (s : State) : Host.Outcome State Fault Refusal :=
  .next (match s.op op with
    | none => s
    | some o =>
      if o.kind ≠ .program ∨ o.st ≠ .busy ∨ o.left ≠ 0 then s
      else (s.setDie o.die (fun d => { d with noResp := 0 })).programFailed o)

/-! ### Delta pages and the block table -/

/-- DELTA_PAGE_PROGRAM (R192): each 1,024 accumulated deltas become one delta page. -/
def execDeltaPageProgram (s : State) : Host.Outcome State Fault Refusal :=
  .next (match s.freshDeltas[1023]? with
    | some m => if s.active.isSome ∧ s.hub.hold = false then s.addMeta [0, m] else s
    | none => s)

/-- BLKTAB_WRITTEN (R320): the record is valid, and its word takes effect in the block table. -/
def execBlktabWritten (jseq : Nat) (s : State) : Host.Outcome State Fault Refusal :=
  .next (match s.lg.live.find? (fun r => r.jseq == jseq && !r.valid) with
    | some r => match r.body with
      | .blkTab die plane blk w =>
        if s.headerReady jseq then
          (s.endRec jseq).updMd (fun m => { m with table := spSet (fun _ => 0) m.table (blkKey die plane blk) w })
        else s
      | _ => s
    | none => s)

/-! ### Time limits (R237) -/

/-- The time limit of an operation in beats (FCH_TIMk). The erased-margin read, for which the manual names no field, has that of a read
(DESIGN CHOICE, log entry 156). -/
def State.timeLimit (s : State) (o : Op) : Nat :=
  let k := s.mediaOf o.die
  match o.kind with
  | .read => s.rd Fd.FCH_TIMA_READ k
  | .program => s.rd Fd.FCH_TIMA_PROG k
  | .erase => s.rd Fd.FCH_TIMB_ERASE k
  | .margin => s.rd Fd.FCH_TIMA_READ k

/-- Beats that an operation has run: time spent suspended does not count. -/
def State.ranBeats (s : State) (o : Op) : Nat := s.time.beat - o.issued - o.suspBeats

/-- An operation is past its limit, or a suspend of it was not acknowledged in time. -/
def State.pastLimit (s : State) (o : Op) : Bool :=
  o.st == .busy && (decide (s.timeLimit o < s.ranBeats o) ||
    (decide (0 < o.suspAt) && decide (s.rd Fd.FCH_TIMA_SUSP (s.mediaOf o.die) < s.time.beat + 1 - o.suspAt)))

/-- The die block of an erase operation. -/
def State.eraseOf (s : State) (die blk : Nat) : Option Erase := s.md.erases.find? (fun e => e.die == die && e.blk == blk)

/-- The next die block of an inserted die has been brought into use, or retired (R249). -/
def State.passErased (s : State) (e : Erase) : State :=
  if e.blk = (s.die e.die).erased + 1 then s.setDie e.die (fun d => { d with erased := d.erased + 1 }) else s

/-- An erase, or its margin read, fails (R241): the block is retired and no erase-done record is written. -/
def State.eraseFailed (s : State) (e : Erase) (trig : Nat) : State :=
  let s := s.updMd (fun m => { m with
    erases := m.erases.filter (fun x => x != e),
    ops := m.ops.filter (fun o => !(o.die == e.die && o.why == .erase && o.ppa == e.blk)) })
  (((s.count Fd.MED_CNT_EFAIL_COUNT).retireBlock e.die e.blocks trig).passErased e).settleOpen.postCrit.goKeys

/-- The settlement of an operation past its limit, by its kind (R237): a read is issued once more, and its second
timeout is a failed decode that rung 15 takes up. -/
def State.settleTimeout (s : State) (o : Op) : State :=
  match o.kind with
  | .read =>
    if o.tries = 0 then s.updOp o.id (fun x => { x with st := .wait, tries := 1 })
    else
      readDone ((s.dropOp o.id).failRead o)
  | .program => s.programFailed o
  | .erase => (match s.eraseOf o.die o.ppa with | some e => s.eraseFailed e 2 | none => s.dropOp o.id)
  | .margin => (match s.eraseOf o.die o.ppa with | some e => s.eraseFailed e 2 | none => s.dropOp o.id)

/-- OPERATION_TIMEOUT (R237, R218): counted; NORESP timeouts in a row retire the die. -/
def execOperationTimeout (op : Nat) (s : State) : Host.Outcome State Fault Refusal :=
  .next (match s.op op with
    | none => s
    | some o =>
      if s.pastLimit o = false then s
      else
        let n := (s.die o.die).noResp + 1
        let s := (s.count Fd.FCH_CNT_TIMEOUT_COUNT).settleTimeout o
        let s := s.setDie o.die (fun d => { d with noResp := n })
        if s.rd Fd.MED_RETCFG_NORESP ≤ n then (s.retireDie o.die 2).settleOpen.postCrit else s)

end Sys2Proof.Machine
end

