-- ==== Sys2Proof/Machine/Gc.lean ====
section
/-! DEFINITION. Garbage collection, erase, refresh, wear and the plan shift (R203, R207, R208, R212, R214 to R216, R222,
R223, R241 to R243), with the commands GC_VICTIM_SELECT, VICTIM_ERASE_START, GC_PLAN_SHIFT, WEAR_BUDGET_CHECK and the
ERASE commands. -/

namespace Sys2Proof.Machine

/-! ### Victims (R207, R214) -/

/-- Data tarts of a superblock. -/
def State.dataTarts (s : State) (x : Sb) : Nat := (x.members.length - 1) * s.unitsOf x.media * unitTarts x.media

/-- Mean erase count of a superblock's die blocks, times their number over that number; compared as a fraction. -/
def State.sbErases (s : State) (x : Sb) : Nat × Nat :=
  (sumOf (fun m => (s.blk m.die 0 (m.blocks.getD 0 0)).erases) x.members, max 1 x.members.length)

/-- The space class runs (R207): it starts when the free die blocks of any slice are below START 1,024ths of its die
blocks, and ends when those of all are at or above STOP. -/
def State.spaceRuns (s : State) : Bool :=
  let ms := s.presentSlices
  if ms.any (fun m => decide (1024 * s.sliceFree m < s.rd Fd.MED_GCCFG_START * s.sliceBlocks m)) then true
  else if ms.all (fun m => decide (s.rd Fd.MED_GCCFG_STOP * s.sliceBlocks m ≤ 1024 * s.sliceFree m)) then false
  else s.md.space

def State.updSpace (s : State) : State := s.updMd (fun m => { m with space := s.spaceRuns })

/-- The first of a list by an order. -/
def firstBy {α : Type} (before : α → α → Bool) (l : List α) : Option α := (sortBy before l).head?

/-- A superblock with no valid tart, nor a relocation or host tart still to be confirmed in it. -/
def State.noValid (s : State) (x : Sb) : Bool :=
  (s.validTarts x).isEmpty && !(s.tr.mapq.any (fun w => !w.entry.dealloc && ((s.sbOfPpa w.entry.ppa).map (fun q => q.1.id)) == some x.id))

/-- The CLOSED superblock that static levelling takes in a die (R214): the one with the die's lowest-count block, when the
spread of the erase counts of its in-use blocks exceeds SPREAD. -/
def State.wearVictim (s : State) (d : Nat) : Option Sb :=
  let used := (s.planeBlks d 0).filter (fun p => match p.2.st with | .used _ => true | _ => false)
  match minOf (used.map (fun p => p.2.erases)) with
  | none => none
  | some lo =>
    let hi := used.foldl (fun a p => max a p.2.erases) 0
    if hi ≤ lo + s.rd Fd.MED_WLCFG_SPREAD then none
    else s.md.sbs.find? (fun x => x.st == .closed && x.members.any (fun m => m.die == d &&
      (s.blk d 0 (m.blocks.getD 0 0)).erases == lo))

/-- The victims of a class, the first in its order (R207). -/
def State.victimOf (s : State) (m cls : Nat) : Option Sb :=
  let closed := s.md.sbs.filter (fun x => x.st == .closed)
  let older := fun (a b : Sb) => decide (a.closedBar < b.closedBar)
  match cls with
  | 0 => firstBy older (closed.filter (fun x => s.noValid x))
  | 1 => firstBy (fun a b =>
      let n := fun (x : Sb) => (x.members.filter (fun k => k.lack != 0)).length
      decide (n b < n a) || (n a == n b && older a b)) (closed.filter (fun x => x.lacking))
  | 2 =>
    if s.md.sbs.any (fun x => x.st == .victim && x.cls == 2 && x.members.any (fun k => decide (k.die / 256 = m))) then none
    else firstBy (fun a b => let p := s.sbErases a
                             let q := s.sbErases b
                             decide (p.1 * q.2 < q.1 * p.2)) ((s.sliceDies m).filterMap (fun d => s.wearVictim d))
  | _ =>
    if s.spaceRuns then
      let score := fun (x : Sb) =>
        let t := s.dataTarts x
        let v := (s.validTarts x).length
        ((t - v) * (s.bar - x.closedBar), max 1 (t + v))
      firstBy (fun a b => decide ((score b).1 * (score a).2 < (score a).1 * (score b).2)) closed
    else none

/-- A tart lies where nothing can read it: its member is gone, and its stripe cannot be rebuilt (R221). -/
def State.unreadable (s : State) (ppa : Nat) : Bool := s.goneAt ppa && !s.canRecon ppa

/-- GC marks a superblock VICTIM and reads its valid tarts in GC slots (R208 steps 1 and 2). -/
def State.takeVictim (s : State) (x : Sb) (cls : Nat) : State :=
  let s := (s.updSb x.id (fun y => { y with cls := cls })).setSbSt x.id .victim
  s.each (s.validTarts x) (fun s t =>
    if s.unreadable t.2 then s.updMd (fun m => { m with copies := m.copies ++ [lostPlaced t.1 t.2 cls x.id] })
    else (s.addRead .gc 0 false (.copy x.id t.1) t.2).2)

/-- GC_VICTIM_SELECT (R207, R208, R214): by class order, for the copy datapath of a media slice. -/
def execGcVictimSelect (slice : Nat) (s : State) : Host.Outcome State Fault Refusal :=
  .next (
    let s := s.updSpace
    if s.active.isNone ∨ s.hub.hold = true ∨ s.lg.loss.isSome then s
    else match (List.range 4).findSome? (fun c => (s.victimOf slice c).map (fun x => (x, c))) with
      | some (x, c) => s.takeVictim x c
      | none => s)

/-! ### Erase (R208 step 6, R241 to R243) -/

/-- Every tart of a victim is settled: none is valid or on its way, and every destination that took one is confirmed; no
patrol or scrub read of its die blocks is outstanding (R208, R281). -/
def State.victimSettled (s : State) (x : Sb) : Bool :=
  let mine := fun (p : Nat) => ((s.sbOfPpa p).map (fun q => q.1.id)) == some x.id
  let from' := fun (t : Placed) => match t.src with | some p => mine p | none => false
  s.noValid x && !(s.md.copies.any from') && !(s.md.dests.any (fun d => from' d.tart)) &&
    !(s.tr.mapq.any (fun w => match w.src with | some p => mine p | none => false)) &&
    !(s.md.ops.any (fun o => o.tarts.any from')) &&
    !(s.readsOf.any (fun o => match o.why with
      | .copy _ _ => mine o.ppa
      | .patrol => mine o.ppa
      | .scrub => mine o.ppa
      | _ => false))

/-- A superblock whose die blocks have all left it is gone. -/
def State.dropSbs (s : State) : State :=
  s.updMd (fun m => { m with sbs := m.sbs.filter (fun x => x.st != .erasing || m.erases.any (fun e =>
    x.members.any (fun k => k.die == e.die && k.blocks == e.blocks))) })

/-- An erase of a die block of the superblock is in progress. -/
def State.erasesOf (s : State) (x : Sb) : Bool := s.md.erases.any (fun e => x.members.any (fun k => k.die == e.die && k.blocks == e.blocks))

/-- A settled victim's blocks are erased: a block that a read retired is retired now (R219), a block on a die that is gone
stays as it is, and one on a die that has come back is erased like the others (R249). While the ring cannot take the records, nothing
happens. The superblock is ERASING from the first erase-intent record that is written (R203); with no block to erase it is gone. -/
def State.eraseVictim (s : State) (x : Sb) : State :=
  let r := x.members.foldl (fun (a : Option State) m => a.bind (fun s =>
    if m.lack = 3 then some (s.retireBlock m.die m.blocks 4).postCrit
    else if m.lack = 1 ∨ (s.die m.die).st ≠ 1 then some s
    else s.eraseIntent m.die m.blocks)) (some s)
  match r with
  | some t => if t.erasesOf x then t else (t.setSbSt x.id .erasing).dropSbs
  | none => s

/-- VICTIM_ERASE_START (R208 step 6, R241, R318, R320). -/
def execVictimEraseStart (sb : Nat) (s : State) : Host.Outcome State Fault Refusal :=
  .next (match s.sb sb with
    | some x =>
      if x.st = .victim ∧ s.erasesOf x = false ∧ s.victimSettled x = true ∧ s.active.isSome ∧ s.hub.hold = false ∧ s.lg.loss.isNone then
        s.eraseVictim x
      else s
    | none => s)

/-- The erase-intent record of a die block that waits for its header, or the erase-done record. -/
def State.eraseRec (s : State) (e : Erase) (done : Bool) : Option JRec :=
  s.lg.live.find? (fun r => !r.valid && (match r.body with
    | .eraseIntent d _ c b => !done && d == e.die && c == e.count && b == e.blocks
    | .eraseDone d _ c b => done && d == e.die && c == e.count && b == e.blocks
    | _ => false))

/-- States that an erase of the die block does not change: SLC blocks stay so, and bad or retired blocks of a plane take
no part (R217, R218). -/
def BlkSt.keeps : BlkSt → Bool
  | .slc => true
  | .bad => true
  | .retired => true
  | _ => false

def State.updErase (s : State) (e : Erase) (st : EraseSt) : State :=
  s.updMd (fun m => { m with erases := updWhere (fun x => x == e) (fun x => { x with st := st }) m.erases })

/-- The erase, or its margin read, waits for a GC slot of the die. -/
def State.addErase (s : State) (e : Erase) (kind : OpKind) : State :=
  (s.addOp { newOp kind .gc e.die 0 .erase with ppa := e.blk }).2

/-- ERASE_INTENT_WRITTEN (R203, R241 step 1, R243, R320): the die block is half-erased from now on, its superblock ERASING, and its erase
may be issued. -/
def execEraseIntentWritten (die blk : Nat) (s : State) : Host.Outcome State Fault Refusal :=
  .next (match s.eraseOf die blk with
    | none => s
    | some e =>
      let s := if e.st = .intent ∧ (s.eraseRec e false).isNone = true then
          match s.beginRec (fun _ => .eraseIntent e.die e.blocks.length e.count e.blocks) false with
          | some (_, t) => t
          | none => s
        else s
      match s.eraseRec e false with
      | some r =>
        if e.st = .intent ∧ s.headerReady r.jseq = true then
          let s := (s.endRec r.jseq).setDieBlk die e.blocks (fun b => if b.st.keeps then b else { b with st := .half })
          let s := match s.md.sbs.find? (fun x => x.st == .victim && x.members.any (fun k => k.die == die && k.blocks == e.blocks)) with
            | some x => s.setSbSt x.id .erasing
            | none => s
          (s.updErase e .allowed).addErase e .erase
        else s
      | none => s)

/-- The erase operation of a die block that is in its die. -/
def State.eraseOp (s : State) (die blk : Nat) (kind : OpKind) : Option Op :=
  s.md.ops.find? (fun o => o.die == die && o.why == .erase && o.ppa == blk && o.kind == kind && o.st == .busy)

/-- The pages of an erased die block are no longer there. -/
def State.wipe (s : State) (die : Nat) (blocks : List Nat) : State :=
  let gone := fun (p : Nat) => decide (ppaDie p = die) && blocks.getD (s.ppaPlane p) (2 ^ 15) == s.ppaBlk p
  s.updMd (fun m => { m with flash := m.flash.filter (fun p => !gone p.1) })

/-- ERASE_COMPLETE (R241 steps 2 and 3): success leads to the erased-margin read, failure retires the block. -/
def execEraseComplete (die blk : Nat) (ok : Bool) (s : State) : Host.Outcome State Fault Refusal :=
  .next (match s.eraseOf die blk, s.eraseOp die blk .erase with
    | some e, some o =>
      let s := (s.dropOp o.id).setDie die (fun d => { d with noResp := 0 })
      if ok then ((s.wipe die e.blocks).updErase e .margin).addErase e .margin else s.eraseFailed e 2
    | _, _ => s)

/-- ERASED_MARGIN_READ_RESULT (R241 steps 3 and 4, R242): `cells` are the cells sensed above the level in each 4 KiB
region. -/
def execErasedMarginReadResult (die blk : Nat) (cells : List Nat) (s : State) : Host.Outcome State Fault Refusal :=
  .next (match s.eraseOf die blk, s.eraseOp die blk .margin with
    | some e, some o =>
      let s := (s.dropOp o.id).setDie die (fun d => { d with noResp := 0 })
      if cells.all (fun c => decide (c ≤ s.rd Fd.FCH_ERCFG_THR)) then
        match s.beginRec (fun _ => .eraseDone die e.blocks.length e.count e.blocks) false with
        | some (_, t) => t.updErase e .passed
        | none => s.updErase e .passed
      else s.eraseFailed e 3
    | _, _ => s)

/-- A free die block of a die that takes the place of an SLC one: the highest number that is free in every plane (DESIGN CHOICE, log
entry 158). -/
def State.slcSpare (s : State) (d : Nat) : Option Nat :=
  let planes := List.range (planesOf (s.mediaOf d))
  (List.range (s.lastBlk d)).reverse.find? (fun b => planes.all (fun p =>
    (s.blk d p b).st == .free && decide (firstBlk p ≤ b) && decide (b < s.blkEnd d p)))

/-- An SLC die block that has reached its rating is retired, and a free die block takes its place (R216). -/
def State.slcWorn (s : State) (d : Nat) (blocks : List Nat) : State :=
  let b := blocks.getD 0 0
  if (s.blk d 0 b).st ≠ .slc ∨ (s.blk d 0 b).erases < s.rd Fd.MED_ENDUR1_SLC then s
  else
    let s := s.retireBlock d blocks 0
    match s.slcSpare d, (List.range (s.lastBlk d)).find? (fun n => s.slcAt d n == b) with
    | some f, some n => (s.setDieBlk d (List.replicate blocks.length f) (fun x => { x with st := .slc })).setSlc d n f
    | _, _ => s

/-- ERASE_DONE_WRITTEN (R241 steps 4 and 5, R203, R216): the die block enters the free pool, and its erase-intent record is
live no longer (R322). -/
def execEraseDoneWritten (die blk : Nat) (s : State) : Host.Outcome State Fault Refusal :=
  .next (match s.eraseOf die blk with
    | none => s
    | some e =>
      if e.st ≠ .passed then s
      else
        let s := if (s.eraseRec e true).isSome then s else match s.beginRec (fun _ => .eraseDone die e.blocks.length e.count e.blocks) false with
          | some (_, t) => t
          | none => s
        match s.eraseRec e true with
        | none => s
        | some r =>
          if s.headerReady r.jseq = false then s
          else
            let s := (s.endRec r.jseq).setLive (fun l => l.filter (fun q => match q.body with
              | .eraseIntent d _ _ b => !(d == e.die && b == e.blocks)
              | _ => true))
            let s := s.setDieBlk die e.blocks (fun b => if b.st.keeps then b else { b with st := .free, reads := 0 })
            let s := s.updMd (fun m => { m with erases := m.erases.filter (fun x => x != { e with st := .passed }) })
            let s := (s.setRec die (fun r => { r with erases := r.erases + 1 })).setFlushUsed (die, e.blk) 0
            let s := if s.md.keyBlks.any (fun k => k.die == die && k.blocks == e.blocks) then s.keyErased die blk else s
            (((s.slcWorn die e.blocks).passErased e).dropSbs).updSpace.goKeys)

/-! ### Refresh (R222, R223) -/

/-- The first block of the refresh queue: highest priority, then earliest. -/
def State.firstRfs (s : State) : Option Rfs :=
  firstBy (fun a b => decide (a.prio < b.prio) || (a.prio == b.prio && decide (a.seq < b.seq))) s.md.rfs

/-- A refresh is in progress: reads or tarts of the refresh stream are not yet settled. -/
def State.refreshing (s : State) : Bool :=
  s.copiesComing 4 || s.md.copies.any (fun t => t.cls == 4) || s.md.ops.any (fun o => o.cls == .rfs && o.why == .unit && o.st == .wait)

/-- The relocation of the next queued block begins (R223): its valid tarts are read in RFS slots. A block whose
superblock is being reclaimed has left the queue's reach. -/
def State.beginRefresh (s : State) : State :=
  match s.firstRfs with
  | none => s
  | some r =>
    if s.refreshing then s
    else
      let s := s.updMd (fun m => { m with rfs := m.rfs.erase r })
      match s.md.sbs.find? (fun x => x.members.any (fun m => m.die == r.die && m.blocks.getD 0 0 == r.blk)) with
      | none => s
      | some x =>
        let ts := (s.validTarts x).filter (fun t => decide (ppaDie t.2 = r.die))
        if x.st = .erasing then s
        else if ts.isEmpty then s.count Fd.MED_CNT_RFS_COUNT
        else s.each ts (fun s t => (s.addRead .rfs 0 false (.copy x.id t.1) t.2).2)

/-! ### The plan shift (R212) -/

/-- Entry by entry, `new` moves entries of class `a` to class `b` and changes nothing else. -/
def movesOnly (old new : Nat) (a b : Nat) : Bool :=
  (List.range 16).all (fun i =>
    let x := old / 2 ^ (2 * i) % 4
    let y := new / 2 ^ (2 * i) % 4
    x == y || (x == a && y == b))

/-- The words move entries of class `a` of the slice to class `b`: each belongs to a pattern row that a die of the slice uses, some entry
moves, and nothing else changes (R212; what firmware writes is its choice, log entry 157). -/
def State.movesSlice (s : State) (h : Half) (slice : Nat) (rows : List (Nat × Nat)) (a b : Nat) : Bool :=
  let mine := (s.sliceDies slice).map (fun d => s.rd Fd.SCH_DIEPAT_ROW d h)
  rows.all (fun r => mine.contains (r.1 / 16) && movesOnly (s.pendRow h r.1).toNat r.2 a b) &&
    rows.any (fun r => decide ((s.pendRow h r.1).toNat ≠ r.2))

/-- GC_PLAN_SHIFT (R212): when the slice's free die blocks have been below START for 250 bars, firmware writes pattern row
words that move HOST entries to GC and commits the plan; when they are at or above STOP again, words that return them. -/
def execGcPlanShift (slice : Nat) (rows : List (Nat × Nat)) (s : State) : Host.Outcome State Fault Refusal :=
  .next (
    let h := s.act
    let shifted := s.sched.shifted.contains slice
    let toGc := !shifted && decide (250 ≤ s.sched.lowBars.getD slice 0) && s.movesSlice h slice rows 0 1
    let back := shifted && decide (s.rd Fd.MED_GCCFG_STOP * s.sliceBlocks slice ≤ 1024 * s.sliceFree slice) &&
      s.movesSlice h slice rows 1 0
    if s.active.isNone ∨ (toGc || back) = false ∨ s.rd Fd.SCH_PLAN_CTRL_COMMIT 0 h = 1 then s
    else
      let s := s.each (rows.filter (fun r => decide (r.1 < 256))) (fun s r =>
        s.setReg h Blk.SCH (Reg.SCH_PATROW.at r.1) (BitVec.ofNat 32 r.2))
      (s.wr Fd.SCH_PLAN_CTRL_COMMIT 1 0 h).updSched (fun c => { c with
        shifted := if shifted then c.shifted.filter (fun x => x != slice) else c.shifted ++ [slice] }))

/-! ### The wear budget (R215) -/

/-- Beats of 24 hours. -/
def dayBeats : Nat := 21600000000

/-- WEAR_BUDGET_CHECK (R215): at a 24-hour mark of power-on time, the mean erase count gained over the last 30 days, as far back as there
are marks, is compared with 30 days of the rated count spread over 7 years of 365 days (DESIGN CHOICE, log entry 169). -/
def execWearBudgetCheck (s : State) : Host.Outcome State Fault Refusal :=
  .next (
    if (s.bt.onBeats + s.time.beat) % dayBeats ≠ 0 ∨ s.active.isNone then s
    else
      let gain := s.eraseSum false - s.md.snaps.headD 0
      let t := s.updMd (fun m => { m with snaps := (if m.snaps.length < 30 then m.snaps else m.snaps.drop 1) ++ [s.eraseSum false] })
      if s.ratedErases * 30 * s.blockSum < gain * 2555 then (t.wr Fd.MED_HEALTH_OVERBUDGET 1).aev 0 0x0505 []
      else t.wr Fd.MED_HEALTH_OVERBUDGET 0)

/-- SHORT_ZQ_CALIBRATION (R234): every ZQINT bars the calibration of a trained channel takes RFS channel beats of it; the next one is
the calibration's (DESIGN CHOICE, log entry 153). -/
def execShortZqCalibration (c : Nat) (s : State) : Host.Outcome State Fault Refusal :=
  .next (
    let st := s.rd Fd.FCH_CHSTAT_STATE c
    if (st = 1 ∨ st = 2) ∧ c < s.variant.channels then s.updMd (fun m => { m with zq := addOnce c m.zq }) else s)

end Sys2Proof.Machine
end

