-- ==== Sys2Proof/Machine/Choice.lean ====
section
/-! DEFINITION. The slots' choice (R53 to R59, R238, R279, R305, R306): contexts, steps, tiers and the slices' energy, with
the command SLOT_CHOICE_WINDOW. -/

namespace Sys2Proof.Machine

/-! ### What can be issued -/

/-- A tart of a formed host program can be programmed now: no program of it is in flight (R170), its versions are ready for step 6
(R28), and the merge it needs holds (R173). -/
def State.placedReady (s : State) (prog : Nat) (t : Placed) : Bool :=
  !(s.tr.vers.any (fun v => v.ltn == t.ltn && v.st == .programming)) && s.tartReady t.ltn &&
    (!s.partialTart t.ltn || s.tr.merges.any (fun m => m.prog == prog && m.ltn == t.ltn && m.secs.isSome && s.mergeHolds m))

/-- An operation can be issued: a program once its stripe is the open one (R201), is not being closed again (R206), and its tarts can be
programmed. -/
def State.opReady (s : State) (o : Op) : Bool :=
  match o.why with
  | .unit =>
    (match s.sb o.sb with | some x => x.stripe == o.unit | none => false) && !s.stripeClosing o.sb &&
      (o.cls != .host || o.tarts.all (fun t => s.placedReady o.id t))
  | .parity => !s.stripeClosing o.sb
  | _ => true

/-- A host program of data that a Flush waits for (R130). -/
def State.flushOp (s : State) (o : Op) : Bool :=
  o.why == .unit && o.cls == .host && o.st == .wait && o.tarts.any (fun t => s.flushWaits t.ltn) && s.opReady o

/-- A host program gives way to one of the same stream that a Flush waits for (R130). -/
def State.givesWay (s : State) (o : Op) : Bool :=
  let streamOf := fun (x : Op) => (s.sb x.sb).map (fun y => y.stream)
  o.why == .unit && o.cls == .host && !s.flushOp o && s.md.ops.any (fun x => s.flushOp x && streamOf x == streamOf o)

/-- Contexts of a class per die (R59). -/
def contextsOf : SlotCls → Nat
  | .host => 8
  | .gc => 2
  | .reg => 1
  | .rfs => 1

/-- The rank of an operation among those of RFS slots (R279). -/
def State.rfsRank (s : State) (o : Op) : Nat :=
  match o.why with
  | .metadata => 1
  | .key => 1
  | .patrol => if s.rd Fd.ECC_PATSTAT_LATE = 1 then 3 else 5
  | .scrub => 4
  | _ => 2

/-- The operations of a class that hold a context of a die (R59): those in the die, then those that wait, oldest first (in
the order of R279 for RFS), at most 4 HOST contexts to one tenant. -/
def State.inContext (s : State) (d : Nat) (c : SlotCls) : List Op :=
  let mine := s.md.ops.filter (fun o => o.die == d && o.cls == c)
  let waiting := mine.filter (fun o => o.st == .wait && s.opReady o && !s.givesWay o)
  let waiting := if c = .rfs then sortBy (fun a b => decide (s.rfsRank a < s.rfsRank b)) waiting else waiting
  waiting.foldl (fun acc o =>
    if contextsOf c ≤ acc.length ∨ (c = .host ∧ 4 ≤ (acc.filter (fun x => x.tenant == o.tenant)).length) then acc
    else acc ++ [o]) (mine.filter (fun o => o.st != .wait))

/-- Credits of a tenant in the media slice of a die that no operation chosen for the next beat takes. -/
def State.creditsLeft (s : State) (d t : Nat) : Nat :=
  s.credits (d / 256) t -
    (s.md.ops.filter (fun o => o.st == .chosen && o.cls == .host && o.tenant == t && decide (o.die / 256 = d / 256))).length

/-- An operation is issued for an urgent command (R122): a program, when a version that it is to include is. -/
def State.urgentOp (s : State) (o : Op) : Bool := o.urgent || (o.why == .unit && o.cls == .host && o.tarts.any (fun t => s.tartUrgent t.ltn))

/-- The step of R55 in which a host operation would be chosen; read-ahead only in step 3 (R184). A read that serves another keeps the
step of that one (R265). -/
def State.stepOf (s : State) (o : Op) : Nat :=
  let stage := match o.why with | .stage _ _ => true | _ => false
  if o.kept then o.step
  else if stage = true ∨ s.creditsLeft o.die o.tenant = 0 then 3 else if s.urgentOp o then 1 else 2

/-- In PS3 no HOST slot is used (R136). -/
def State.hostSlots (s : State) : Bool := s.rd Fd.QUE_PWR_PS != 3

/-- The power-loss flush has the slots (R334). -/
def State.flushMode (s : State) : Bool := match s.lg.loss with | some l => l.flushing | none => false

/-- The sequencers issue: for the active half outside a hold, or for the flusher of the fenced state (R334, R414). -/
def State.sequencing (s : State) : Bool :=
  if s.hub.fenced then s.flushMode && s.hub.flusher.isSome else s.active.isSome && !s.hub.hold && !s.withdrawn

/-- The operation that a die's slot in a beat would carry, with its step (R54 to R56, R239): none while the die is busy; a
die with a suspended operation takes only reads, and in a HOST slot those of steps 1 and 2. -/
def State.candidate (s : State) (d beat : Nat) : Option (Op × Nat) :=
  if s.md.ops.any (fun o => o.die == d && (o.st == .busy || o.st == .chosen)) = true ∨ s.dieTakes d = false then none
  else if s.flushMode then
    (s.md.ops.find? (fun o => o.die == d && o.why == .flush && o.st == .wait)).map (fun o => (o, 0))
  else
    let c := s.slotClass d beat
    let susp := s.md.ops.any (fun o => o.die == d && o.st == .suspended)
    let l := ((s.inContext d c).filter (fun o => o.st == .wait && (!susp || o.kind == .read)))
    match c with
    | .host =>
      if s.hostSlots = false then none else
      let l := (l.map (fun o => (o, s.stepOf o))).filter (fun p => !susp || decide (p.2 < 3))
      (([1, 2, 3].findSome? (fun k => l.find? (fun p => p.2 == k))))
    | _ => l.head?.map (fun o => (o, 0))

/-! ### Energy (R305, R306) -/

/-- The index of an operation in RGL_ENERGYk. -/
def Op.energyIdx (o : Op) : Nat :=
  match o.kind, o.why with
  | .read, .calib _ _ => 5
  | .read, _ => 0
  | .program, .metadata => 2
  | .program, .key => 2
  | .program, .flush => 2
  | .program, _ => 1
  | .erase, _ => 3
  | .margin, _ => 4

def State.pkgOf (s : State) (o : Op) : Nat := s.rd Fd.RGL_ENERGY_PKG (8 * s.mediaOf o.die + o.energyIdx)
def State.cartOf (s : State) (o : Op) : Nat := s.rd Fd.RGL_ENERGY_CART (8 * s.mediaOf o.die + o.energyIdx)

/-- The tier of a candidate (R305). An erase of no superblock's block settles a half-erased block (R244). -/
def State.tierOf (s : State) (o : Op) (step : Nat) : Nat :=
  match o.cls with
  | .host => if step = 1 then 1 else if step = 3 then 6 else 2
  | .gc =>
    if o.why = .erase ∧ o.ppa ≤ (s.die o.die).erased ∧ s.md.sbs.all (fun x => x.members.all (fun m => m.die != o.die || m.blocks.getD 0 0 != o.ppa)) = true
    then 0 else 3
  | .reg => 5
  | .rfs => if o.why = .metadata ∨ o.why = .key then 0 else 4

/-- The cartridge power of a slot's busy dies, those chosen for the next beat included; a suspended die counts as
idle. -/
def State.cartSum (s : State) (slot : Nat) : Nat :=
  sumOf (fun o => s.cartOf o) (s.md.ops.filter (fun o => slotOf o.die == slot && (o.st == .busy || o.st == .chosen)))

/-- R306 withholds a candidate of a slot. -/
def State.cartOver (s : State) (o : Op) : Bool :=
  let lim := s.rd Fd.RGL_SLOTLIM_LIM
  decide (lim ≠ 0) && decide (lim < s.cartSum (slotOf o.die) + s.cartOf o)

/-- The operation that waits for its slot's limit (R306), and the held claim of a slice (R305), by number, while they
wait. -/
def State.waitingOp (s : State) (n : Nat) : Option Op :=
  if n = 0 then none else s.md.ops.find? (fun o => o.id + 1 == n && o.st == .wait)

def State.cartClaim (s : State) (slot : Nat) : Option Op := s.waitingOp (spGet (fun _ => 0) s.rg.cartHeld slot)
def State.claim (s : State) (m : Nat) : Option Op := s.waitingOp (spGet (fun _ => 0) s.rg.claims m)

def State.setClaim (s : State) (m n : Nat) : State := s.updRg (fun r => { r with claims := spSet (fun _ => 0) r.claims m n })
def State.setCartClaim (s : State) (k n : Nat) : State :=
  s.updRg (fun r => { r with cartHeld := spSet (fun _ => 0) r.cartHeld k n })

/-- The LDPC rate of a block: that of an SLC one is ECC_CFG.SLCRATE (R261). -/
def State.blkRate (s : State) (d plane b : Nat) : Nat :=
  let x := s.blk d plane b
  if x.st = .slc then s.rd Fd.ECC_CFG_SLCRATE else x.rate

/-- The quanta of 512 B that an operation transfers (R58, R260): a page for a read or an SLC program, the pages of a program unit. -/
def State.opQuanta (s : State) (o : Op) : Nat :=
  let page := match o.kind, s.sb o.sb with
    | .read, _ => rawPageBytes (s.blkRate o.die (s.ppaPlane o.ppa) (s.ppaBlk o.ppa))
    | _, some x => if o.why = .unit ∨ o.why = .parity then
        unitTarts x.media * rawPageBytes (s.blkRate o.die 0 ((x.members.getD o.mem ⟨0, [], 0⟩).blocks.getD 0 0))
      else rawPageBytes (s.rd Fd.ECC_CFG_SLCRATE)
    | _, none => rawPageBytes (s.rd Fd.ECC_CFG_SLCRATE)
  if o.kind = .read ∨ o.kind = .program then ceilDiv page 512 else 0

/-- Choose an operation for the next beat; its whole transfer is still to come. -/
def State.choose (s : State) (o : Op) (step : Nat) : State :=
  s.updOp o.id (fun x => { x with st := .chosen, step := step, slotAt := s.time.beat + 1, left := s.opQuanta o, quanta := 0 })

/-- The spending of a slice: the state, what the bucket still covers, what was spent, and whether issues have
stopped. -/
structure Spend where
  s : State
  left : Nat
  spent : Nat
  stopped : Bool

/-- A candidate of tier 1 or 2 was seen, and issued or withheld (R308). -/
def State.noteTier (s : State) (tier : Nat) (issued : Bool) : State :=
  if tier = 1 ∨ tier = 2 then
    s.updRg (fun r => { r with barTier := (r.barTier.1 + boolNat issued, r.barTier.2 + 1) })
  else s

/-- Spend on the candidate of a die, if it is of the tier in turn. A candidate that the bucket cannot cover while the slice holds an
older claim stops the slice's issues and does not displace that claim (R305 does not say; DESIGN CHOICE, log entry 168). -/
def Spend.try (m beat tier : Nat) (a : Spend) (d : Nat) : Spend :=
  match a.s.candidate d beat with
  | none => a
  | some (o, step) =>
    if a.s.tierOf o step ≠ tier ∨ (a.s.claim m).map (fun c => c.id) = some o.id then a
    else if a.s.withholds = false then { a with s := a.s.choose o step }
    else
      let e := a.s.pkgOf o
      let held := match a.s.cartClaim (slotOf d) with | some c => c.id != o.id | none => false
      if a.stopped = true ∨ held = true then { a with s := a.s.noteTier tier false }
      else if a.s.cartOver o then { a with s := (a.s.noteTier tier false).setCartClaim (slotOf d) (o.id + 1) }
      else if a.left < e then
        let s := a.s.noteTier tier false
        { a with
          s := if (s.claim m).isNone then (s.setClaim m (o.id + 1)).updOp o.id (fun x => { x with step := step }) else s,
          stopped := true }
      else { a with s := (a.s.choose o step).noteTier tier true, left := a.left - e, spent := a.spent + e }

/-- The held claim is considered first: it issues when its die holds a slot of its class and the bucket covers it; else
its energy is set aside. -/
def State.spendClaim (s : State) (m beat bucket : Nat) : Spend :=
  match s.claim m with
  | none => ⟨s.setClaim m 0, bucket, 0, false⟩
  | some o =>
    let e := s.pkgOf o
    let free := !(s.md.ops.any (fun x => x.die == o.die && x.st != .wait))
    let held := match s.cartClaim (slotOf o.die) with | some c => c.id != o.id | none => false
    if (s.die o.die).st = 1 ∧ s.slotClass o.die beat = o.cls ∧ (o.cls ≠ .host ∨ s.hostSlots = true) ∧ free = true ∧
        s.opReady o = true ∧ e ≤ bucket ∧
        s.cartOver o = false ∧ held = false then
      ⟨(s.choose o o.step).setClaim m 0, bucket - e, e, false⟩
    else ⟨s, bucket - e, 0, false⟩

/-- The choices of a media slice for the next beat: the claim, then tier by tier over its dies in the rotating order. -/
def State.chooseSlice (s : State) (m : Nat) : State :=
  let beat := s.time.beat + 1
  let dies := s.sliceDies m
  let n := max 1 dies.length
  let dies := dies.drop (s.rg.rot % n) ++ dies.take (s.rg.rot % n)
  let bucket := spGet (fun _ => 0) s.rg.bucket m
  let r := (List.range 7).foldl (fun a tier => dies.foldl (Spend.try m beat tier) a) (s.spendClaim m beat bucket)
  let s := r.s.updRg (fun g => { g with bucket := spSet (fun _ => 0) g.bucket m (bucket - r.spent) })
  s.each (List.range 16) (fun s k => if (s.cartClaim k).isNone then s.setCartClaim k 0 else s)

/-! ### Quanta (R51, R58) -/

/-- An operation that may transfer in a channel's next beat: of the beat's class, in its die, or a program to be issued in that beat;
in the power-loss flush, any program (R334). -/
def State.transfers (s : State) (c : Nat) (o : Op) : Bool :=
  chanOf o.die == c && decide (0 < o.left) &&
    (o.st == .busy || (o.st == .chosen && o.kind == .program && o.slotAt == s.time.beat + 1)) &&
    (if s.flushMode then o.kind == .program else o.cls == s.chClass c (s.time.beat + 1))

/-- The quanta of a channel's next beat, given out to the operations longest in their dies first (DESIGN CHOICE, log entry 159): none in an RFS beat
that a short ZQ calibration takes (R234). -/
def State.chooseQuanta (s : State) (c : Nat) : State :=
  if s.chClass c (s.time.beat + 1) = .rfs ∧ s.md.zq.contains c = true ∧ s.flushMode = false then
    s.updMd (fun m => { m with zq := m.zq.erase c })
  else
    let ops := sortBy (fun (a b : Op) => decide (a.issued < b.issued)) (s.md.ops.filter (fun o => s.transfers c o))
    (ops.foldl (fun (a : Nat × State) o =>
      let n := min a.1 o.left
      (a.1 - n, a.2.updOp o.id (fun x => { x with quanta := n, slotAt := s.time.beat + 1 })))
      (quantaOf (s.rd Fd.FCH_CHSTAT_RATE c), s)).2

/-- SLOT_CHOICE_WINDOW (R51, R53 to R59, R279, R305, R306). -/
def execSlotChoiceWindow (s : State) : Host.Outcome State Fault Refusal :=
  .next (
    if s.sequencing = false then s
    else
      let s := (s.each (List.range s.variant.slices) (fun s m => s.chooseSlice m)).updRg (fun r => { r with rot := r.rot + 1 })
      s.each (List.range s.variant.channels) (fun s c => s.chooseQuanta c))

end Sys2Proof.Machine
end

