-- ==== Sys2Proof/Machine/Sequencer.lean ====
section
/-! DEFINITION. The command window (R52, R170, R173, R237 to R240, R253, R278, R282, R298): issue, suspension, and the forming of
operations, with the commands COMMAND_WINDOW and SUSPEND_ACKNOWLEDGED. -/

namespace Sys2Proof.Machine

/-! ### Issue -/

/-- The sector of a version as a program reads it (R273, R275): the other copy stands in for one that is uncorrectable or fails its
integrity tag; with both lost the sector carries the poison mark. -/
def Ver.primLost (v : Ver) : Bool := v.primBad || v.primTag
def Ver.lostCopies (v : Ver) : Bool := v.primLost && (v.mirrorBad || v.mirrorTag || !v.mirror)

/-- The cause of R138: the primary copy went with a half that lost the role (4); the tag of a copy fails (2; one copy with a bad tag and
the other uncorrectable too, DESIGN CHOICE, log entry 160); both uncorrectable (1). -/
def Ver.lostCause (v : Ver) : Nat := if v.mirror = false ∧ v.mirrorBad = true then 4 else if v.primTag || v.mirrorTag then 2 else 1

def Ver.sector (v : Ver) (i : Nat) : Option Sector :=
  (v.secs.find? (fun q => q.1 == i)).map (fun q => if v.lostCopies then { q.2 with tag := .poison } else q.2)

/-- The content of a tart of a host program (R173): what no included version writes comes from its merge. -/
def State.fillTart (s : State) (prog : Nat) (t : Placed) : Placed :=
  let vs := (s.toProgram t.ltn).reverse
  let merged := (s.tr.merges.find? (fun m => m.prog == prog && m.ltn == t.ltn)).bind (fun m => m.secs)
  let secs := (List.range 32).map (fun i => match vs.findSome? (fun v => v.sector i) with
    | some x => x
    | none => if vs.isEmpty then padSector else (merged.getD []).getD i poisonSector)
  { t with secs := secs, vids := vs.map (fun v => v.id) }

/-- The LBA range of a version's sectors: first LBA and count. -/
def State.verRange (s : State) (v : Ver) : Nat × Nat :=
  match s.nsOfLtn v.ltn with
  | some (n, k) =>
    let idx := v.secs.map (fun q => q.1)
    let lo := (minOf idx).getD 0
    let hi := idx.foldl max 0
    (k * n.perTart + lo / n.secsPer, hi / n.secsPer - lo / n.secsPer + 1)
  | none => (0, 0)

/-- A version whose copies are both lost is a deferred write error (R138); its sectors are programmed with the poison mark. -/
def State.noteLost (s : State) (v : Ver) : State :=
  if v.lostCopies then
    (s.count Fd.QUE_CNT_DEFER_COUNT).addC1h v.fn ⟨v.nsid, (s.verRange v).1, (s.verRange v).2, v.lostCause, s.time.beat⟩
  else s

/-- The tarts of a host program take their data at its issue; the versions included are PROGRAMMING from now on (R171). A copy that
fails its tag counts (R273). -/
def State.fillUnit (s : State) (o : Op) : State :=
  let ts := o.tarts.map (fun t => s.fillTart o.id t)
  let vids := ts.flatMap (fun t => t.vids)
  let mine := s.tr.vers.filter (fun v => vids.contains v.id)
  let s := s.count Fd.ECC_CNT_TAGERR_COUNT (sumOf (fun v => if v.primTag then v.secs.length else 0) mine)
  let s := s.each mine (fun s v => s.noteLost v)
  let s := s.updTr (fun t => { t with
    vers := updWhere (fun v => vids.contains v.id) (fun v => { v with st := .programming }) t.vers,
    merges := t.merges.filter (fun m => m.prog != o.id) })
  s.updOp o.id (fun x => { x with tarts := ts })

/-- The command that a read serves, itself or through the ladder (R151, R265); `n` bounds the reads that it goes through. -/
def State.servedCtx (s : State) : Nat → OpWhy → Option Nat
  | _, .host id _ => some id
  | n + 1, .rung k _ => (s.climb k).bind (fun c => s.servedCtx n c.op.why)
  | n + 1, .recon k _ => (s.climb k).bind (fun c => s.servedCtx n c.op.why)
  | _, _ => none

/-- A charged read is issued for a command in media slice `m` (R151); beyond the tenant's credits, the slice is marked for the tenant. -/
def State.noteRead (s : State) (o : Op) (m : Nat) (beyond : Bool) : State :=
  let s := s.when beyond (fun s => s.updSched (fun c => { c with beyond := spSet (fun _ => 0) c.beyond (256 * m + o.tenant) 1 }))
  match s.servedCtx 3 o.why with
  | some id => s.updCtx id (fun c => { c with slices := addOnce m c.slices })
  | none => s

/-- The credit of an issue (R55): steps 1 and 2 charge one, step 3 only while credits remain. -/
def State.charge (s : State) (o : Op) : State :=
  if o.cls ≠ .host then s
  else
    let m := o.die / 256
    let c := s.credits m o.tenant
    let s := s.setCredits m o.tenant (c - 1)
    if o.kind = .read then s.noteRead o m (c == 0) else s

/-- The rung that a read is for, and the distance of its levels from it in read-level steps (R264): a soft decode adds the reads above
and below, further out with the second pair. -/
def State.readStep (s : State) (o : Op) : Nat × Int :=
  match o.why with
  | .rung id i => (match (s.climb id).bind (fun c => c.cws.find? (fun e => e.i == i)) with
    | some e =>
      let d : Int := (e.phase * s.rd Fd.ECC_SOFTCFG_DELTA : Nat)
      (e.rung, if e.left = 0 then -d else d)
    | none => (0, 0))
  | _ => (0, 0)

/-- Issue an operation to its die; a read with the levels that its LVL primitive applies (R290). -/
def State.issueOp (s : State) (o : Op) : State :=
  let s := s.charge o
  let s := s.updRg (fun r => { r with energy := r.energy + s.pkgOf o })
  let r := s.readStep o
  let s := s.updOp o.id (fun x => { x with
    st := .busy, issued := s.time.beat, born := s.time.beat, us := if o.kind = .read then s.loopOuts o.ppa else []
    levels := if o.kind = .read then s.levelsAt o.ppa r.1 r.2 else [] })
  match o.why with
  | .unit =>
    let s := if o.cls = .host then s.fillUnit o else s
    (s.updSb o.sb (fun x => { x with issued := addOnce o.mem x.issued, stamp := s.md.stamp })).updMd (fun m => { m with stamp := m.stamp + 1 })
  | .parity => s.updSb o.sb (fun x => { x with issued := addOnce o.mem x.issued })
  | .erase => (match s.eraseOf o.die o.ppa with
    | some e => if o.kind = .erase then s.updErase e .erasing else s
    | none => s)
  | _ => s

/-! ### Suspension (R238, R239) -/

/-- A host read that waits for the die, or is chosen for this beat, in step 1 or 2 of R55. -/
def State.eligibleRead (s : State) (d : Nat) : Bool :=
  s.hostSlots && s.md.ops.any (fun o => o.die == d && o.kind == .read && o.cls == .host &&
    ((o.st == .chosen && decide (o.step < 3)) || (o.st == .wait && decide (s.stepOf o < 3))))

/-- A program or erase in the die that may be suspended now (R238): a program, once its data is in the die. -/
def State.maySuspend (s : State) (o : Op) : Bool :=
  let era := o.kind == .erase
  let run := s.rd (if era then Fd.FCH_SUSPCFG_MINRUNE else Fd.FCH_SUSPCFG_MINRUNP)
  let most := s.rd (if era then Fd.FCH_SUSPCFG_MAXE else Fd.FCH_SUSPCFG_MAXP)
  (o.kind == .program || era) && o.st == .busy && o.left == 0 && o.suspAt == 0 && decide (o.born + run ≤ s.time.beat) &&
    decide (o.susp < most) && decide (o.suspBeats < s.rd Fd.FCH_SUSPCFG_SUSPMAX)

/-- The resume of a suspended operation (R239 step 4). -/
def State.resume (s : State) (o : Op) : State :=
  let s := s.updMd (fun m => { m with ops := updWhere (fun x => x.die == o.die && x.st == .chosen) (fun x => { x with st := .wait }) m.ops })
  s.updOp o.id (fun x => { x with
    st := .busy, born := s.time.beat, suspBeats := x.suspBeats + (s.time.beat + 1 - x.suspAt), suspAt := 0, wake := false })

/-- What a die's slot of this beat carries: the operation chosen, a suspend, or a resume. -/
def State.dieSlot (s : State) (d : Nat) : State :=
  let chosen := s.md.ops.find? (fun o => o.die == d && o.st == .chosen && o.slotAt == s.time.beat)
  let busy := s.md.ops.find? (fun o => o.die == d && o.st == .busy)
  match s.md.ops.find? (fun o => o.die == d && o.st == .suspended) with
  | some o =>
    if busy.isSome then s
    else if s.flushMode then (match chosen with | some c => s.issueOp c | none => s)
    else if o.wake = true ∨ s.eligibleRead d = false ∨ s.rd Fd.FCH_SUSPCFG_SUSPMAX ≤ o.suspBeats + (s.time.beat + 1 - o.suspAt) then s.resume o
    else match chosen with | some c => s.issueOp c | none => s
  | none => match chosen, busy with
    | some c, none => s.issueOp c
    | _, some o =>
      if s.slotClass d s.time.beat = .host ∧ s.maySuspend o = true ∧ s.eligibleRead d = true ∧ s.flushMode = false then
        s.updOp o.id (fun x => { x with suspAt := s.time.beat + 1 })
      else s
    | none, none => s

/-- SUSPEND_ACKNOWLEDGED (R239 step 2): the die reports its operation suspended. -/
def execSuspendAcknowledged (die : Nat) (s : State) : Host.Outcome State Fault Refusal :=
  .next (match s.md.ops.find? (fun o => o.die == die && o.st == .busy && decide (0 < o.suspAt)) with
    | some o => (s.updOp o.id (fun x => { x with st := .suspended, susp := x.susp + 1, suspAt := s.time.beat + 1 })).count
        Fd.FCH_CNT_SUSP_COUNT
    | none => s)

/-! ### Operations of a die that is gone (R63, R253) -/

/-- An operation whose die has no slots any more: a read of data goes on as a reconstruction from the other members, or
fails (R252, R269), and so does a patrol read; scrub, calibration and erase operations end, and programs of a key block; programs of the other SLC streams
move to another die. Programs of stripes are settled with their stripe. -/
def State.settleAbsent (s : State) (o : Op) : State :=
  let gone := decide ((s.die o.die).st ≠ 1) || (o.kind == .read && o.die == ppaDie o.ppa && s.goneAt o.ppa)
  if gone = false then s
  else match o.kind, o.why with
    | .read, .calib _ _ => s.dropOp o.id
    | .read, .scrub => (s.dropOp o.id).updMd (fun m => { m with scrub := m.scrub.map (fun x => { x with skipped := x.skipped + 1 }) })
    | .read, _ => readDone ((s.dropOp o.id).failRead o)
    | .program, .metadata => s.updOp o.id (fun x => { x with
        die := s.dieNums.headD o.die, sb := s.metaBlk (s.dieNums.headD o.die) o.id, st := .wait })
    | .program, .flush => State.addFlush o.tenant o.die 1 o.units (s.dropOp o.id)
    | .program, .key => s.dropOp o.id
    | .program, _ => s
    | _, _ => s.dropOp o.id

def State.settleDies (s : State) : State := s.each s.md.ops (fun s o => if (s.op o.id).isSome then s.settleAbsent o else s)

/-! ### Patrol, scrub and calibration reads -/

/-- Pages that the patrol reads outside superblocks: the die record of each die in use, and the pages of the SLC metadata blocks, a page
to each program unit and plane (DESIGN CHOICE, log entry 101). -/
def State.slcPages (s : State) : List Nat :=
  s.dieNums.map (fun d => s.mkPpa d 0 0 0) ++ s.md.slcUsed.flatMap (fun p =>
    let d := p.1 / 2 ^ 15
    (List.range (planesOf (s.mediaOf d))).flatMap (fun k => (List.range p.2).map (fun u => s.mkPpa d k (p.1 % 2 ^ 15) u)))

/-- The pages that the patrol reads (R278, R281), by address: programmed pages of superblocks that are not being erased, SLC metadata
pages and die records. -/
def State.patrolPages (s : State) : List Nat :=
  sortBy (fun a b => decide (a < b)) ((s.md.flash.filter (fun p => match s.sbOfPpa p.1 with
    | some q => q.1.st != .erasing
    | none => false)).map (fun p => p.1) ++ s.slcPages)

/-- The patrol queues its next read; at the end of a pass the next pass begins. -/
def State.formPatrol (s : State) : State :=
  if s.md.ops.any (fun o => o.why == .patrol && o.st == .wait) then s
  else match s.patrolPages.find? (fun p => decide (s.md.patrol.next ≤ p) && decide ((s.die (ppaDie p)).st = 1)) with
    | some p => (s.addRead .rfs 0 false .patrol p).2.updMd (fun m => { m with
        patrol := { m.patrol with next := p + 1, count := m.patrol.count + 1 } })
    | none =>
      if s.md.patrol.next = 0 then s
      else s.updMd (fun m => { m with patrol := ⟨0, 0, s.time.beat, false⟩ })

/-- The next position of a range scrub (R282): a deallocated tart is skipped, a lost one counts as unrecoverable. `fuel`
bounds the tarts passed in one window. -/
def State.formScrub : Nat → State → State
  | 0, s => s
  | n + 1, s => match s.md.scrub with
    | none => s
    | some x =>
      if x.cancel = true ∨ s.md.ops.any (fun o => o.why == .scrub && o.st == .wait) = true then s
      else if x.kind = 0 then
        if x.start + x.count ≤ x.next then s
        else
          let e := s.mapEntry x.next
          let put (f : Scrub → Scrub) (s : State) : State :=
            s.updMd (fun m => { m with scrub := m.scrub.map (fun y => f { y with next := y.next + 1 }) })
          let s := s.lookedUp x.next e
          if s.legal e = false then State.formScrub n (put (fun y => { y with unrec := y.unrec + 1 }) s)
          else if e.dealloc then State.formScrub n (put (fun y => { y with skipped := y.skipped + 1 }) s)
          else if e.ppa = lostPpa then State.formScrub n (put (fun y => { y with unrec := y.unrec + 1 }) s)
          else (put id s).addRead .rfs 0 false .scrub e.ppa |>.2
      else match s.patrolPages.find? (fun p => decide (x.next ≤ p) && decide (x.start ≤ ppaDie p) && decide (ppaDie p < x.start + x.count)) with
        | none => s.updMd (fun m => { m with scrub := m.scrub.map (fun y => { y with next := (x.start + x.count) * 2 ^ 25 }) })
        | some p =>
          let s := s.updMd (fun m => { m with scrub := m.scrub.map (fun y => { y with next := p + 1 }) })
          if (s.die (ppaDie p)).st = 1 then (s.addRead .rfs 0 false .scrub p).2
          else State.formScrub n (s.updMd (fun m => { m with scrub := m.scrub.map (fun y => { y with skipped := y.skipped + 1 }) }))

/-- The most recently programmed die block of a die and block group in an OPEN or CLOSED superblock with programmed
pages. -/
def State.calibBlock (s : State) (d g : Nat) : Option (Sb × Member) :=
  (s.md.sbs.foldl (fun (a : Option (Sb × Member)) x =>
    if x.st ≠ .open_ ∧ x.st ≠ .closed then a
    else match x.members.find? (fun m => m.die == d && s.groupOf d (m.blocks.getD 0 0) == g) with
      | none => a
      | some m =>
        if (s.page (s.unitPpa m 0 0)).secs.isEmpty then a
        else match a with
          | none => some (x, m)
          | some y => if y.1.stamp < x.stamp then some (x, m) else a) none)

/-- The calibration read of a die's REG slot (R298): the next block group in turn, the next zone that holds a programmed
page, and the page positions of a unit in turn, a position to each round of the zones (DESIGN CHOICE, log entry 46). The
die's position counts its calibration reads above the group read last. -/
def State.formCalib (s : State) (d : Nat) : State :=
  if s.slotClass d (s.time.beat + 1) ≠ .reg ∨ s.md.ops.any (fun o => o.die == d && o.cls == .reg) = true then s
  else
    let pos := spGet (fun _ => 0) s.rg.calib d
    let n := pos / 16
    let k := s.mediaOf d
    match ((List.range 16).map (fun i => (pos + 1 + i) % 16)).findSome? (fun g => (s.calibBlock d g).map (fun b => (g, b.2))) with
    | none => s
    | some (g, m) =>
      let upb := max 1 (s.unitsOf k)
      let at' := fun (z : Nat) => (List.range' (ceilDiv (z * upb) 16) (ceilDiv ((z + 1) * upb) 16 - ceilDiv (z * upb) 16)).find? (fun u =>
        !(s.page (s.unitPpa m u 0)).secs.isEmpty)
      match ((List.range 16).map (fun i => (n + i) % 16)).findSome? (fun z => (at' z).map (fun u => (z, u))) with
      | none => s
      | some (z, u) =>
        (s.addRead .reg 0 false (.calib g z) (s.unitPpa m u (n / 16 % bitsOf k))).2.updRg (fun r => { r with
          calib := spSet (fun _ => 0) r.calib d (16 * (n + 1) + g) })

/-! ### The flush reserve in protected commit mode (R331) -/

/-- The blocks of the flush reserve that may be erased (R339, R550) are erased: full ones, as those of a released epoch count, none of whose
positions a valid directory word of the current epoch names or a queued program is to hold. -/
def State.eraseReserve (s : State) : State :=
  let named := s.flushNamed
  s.each (s.flushBlks.filter (fun p => decide (s.flushCap p.1 ≤ s.flushUsed p) && !named.contains (flushKey p) &&
      !s.md.erases.any (fun e => e.die == p.1 && e.blk == p.2) &&
      !s.md.ops.any (fun o => o.why == .flush && o.die == p.1 && o.sb == p.2))) (fun s p =>
    (s.eraseIntent p.1 (List.replicate (planesOf (s.mediaOf p.1)) p.2)).getD s)

/-- The units that a flush program holds already. -/
def State.flushQueued (s : State) : List Nat := (s.md.ops.filter (fun o => o.why == .flush)).flatMap (fun o => o.units)

/-- In protected commit mode the units of every part that is ready to commit are programmed to the flush reserve first. -/
def State.formFlush (s : State) : State :=
  if s.protectedMode = false then s
  else s.each (s.tr.parts.filter (fun p => s.partReady p)) (fun s p =>
    let queued := s.flushQueued
    let us := (p.vids.flatMap (fun i => ((s.ver i).map (fun v => v.held)).getD [])).filter (fun u =>
      !s.dirValid u && !queued.contains u)
    State.addFlush (s.ownerOf p.nsid) s.variant.diesN us.length us s)

/-- Write-buffer units of COMMITTED or PROGRAMMING versions; until recovery has ended, of those it has already reloaded
(R334, R533). -/
def State.unitsToFlush (s : State) : List Nat :=
  let n := s.rd Fd.BTA_BOOTSTAT_STEP
  let all := s.hub.linkOn || (decide (14 ≤ n) && decide (n ≠ 17))
  (s.tr.vers.filter (fun v => (v.st == .committed || v.st == .programming) && (all || s.lg.reloaded.contains v.id))).flatMap
    (fun v => v.held)

/-- A write-buffer unit lies in the rank that a row repair holds: its 64 lines lie in one rank of every subchannel (R346,
R347, R369). -/
def State.unitBlocked (s : State) (u : Nat) : Bool :=
  let two := s.rd Fd.DRC_CFG_RANKS == 1
  match s.dr.repair with
  | some (x, _, _) => two == false || lineRank two (2 ^ 24 + 64 * u) == x.sr % 2
  | none => false

/-- The power-loss flush (R334, R335): every unit of every COMMITTED or PROGRAMMING version that has no directory word, those in
the rank of a repair in progress after all others (R370). -/
def State.formLossFlush (s : State) : State :=
  let queued := s.flushQueued
  let us := s.unitsToFlush.filter (fun u => !s.unitFlushed u && !queued.contains u)
  let us := us.filter (fun u => !s.unitBlocked u) ++ us.filter (fun u => s.unitBlocked u)
  State.addFlush 0 s.variant.diesN us.length us s

/-! ### The window -/

/-- Dies brought in by an insertion have their die blocks erased one after another (R249). A block that a superblock still
names as lost keeps its place until the superblock has been relocated (DESIGN CHOICE, log entry 47). -/
def State.formErases (s : State) : State :=
  s.each s.dieNums (fun s d =>
    let e := (s.die d).erased
    let k := s.mediaOf d
    if s.lastBlk d ≤ e + 1 ∨ s.md.erases.any (fun x => x.die == d) = true then s
    else
      let blocks := (List.range (planesOf k)).map (fun p => e + firstBlk p)
      let lost := (blocks.zip (List.range blocks.length)).any (fun b => match (s.blk d b.2 b.1).st with | .used _ => true | _ => false)
      if lost then s.setDie d (fun x => { x with erased := e + 1 }) else (s.eraseIntent d blocks).getD s)

/-- Reads that found no free watch entry are tried again (R180), and so is the closing of stripes. -/
def State.retryReads (s : State) : State :=
  s.each ((s.nv.ctxs.filter (fun c => c.status.isNone && !c.lookups.isEmpty)).map (fun c => c.id)) (fun s id => s.pumpReads id)

/-- Transfers of this beat: the quanta chosen for it pass (R51, R58). -/
def State.moveQuanta (s : State) : State :=
  let now := fun (o : Op) => o.st == .busy && o.slotAt == s.time.beat
  s.updMd (fun m => { m with ops := updWhere now (fun o => { o with left := o.left - o.quanta, quanta := 0 }) m.ops })

/-- Operations for the slots of the beats to come. -/
def State.formOps (s : State) : State :=
  let s := s.retryReads.pumpTab.formHosts.formFlush.eraseReserve
  let s := if (s.sv.act.bind (fun a => a.b)).isSome then s.formLossFlush else s
  let s := s.each (s.md.sbs.filter (fun x => x.st == .open_)) (fun s x => s.finishStripe x.id [] 0)
  let s := s.each (List.range 5) (fun s c => State.formCopies c 4 s)
  let s := State.formScrub 64 s.formErases.beginRefresh.formPatrol
  s.each s.dieNums (fun s d => s.formCalib d)

/-- COMMAND_WINDOW (R51, R52, R58, R56, R170, R173, R200 to R204, R223, R239, R278, R298). -/
def execCommandWindow (s : State) : Host.Outcome State Fault Refusal :=
  .next (
    let s := { s with time := { s.time with cycle := 100 } }
    if s.sequencing = false then s
    else
      let s := (s.settleDies.settleOpen)
      let s := (s.each s.dieNums (fun s d => s.dieSlot d)).moveQuanta.unchoose (fun o => o.st == .chosen)
      if s.lg.loss.isSome then (if s.flushMode then s.formLossFlush else s) else s.formOps)

end Sys2Proof.Machine
end

