-- ==== Sys2Proof/Machine/Slots.lean ====
section
/-! DEFINITION. Cartridge slots (R231 to R234, R245 to R255): presence, power, training, planned and surprise removal, with the commands
of a slot's pins and of CTG_SLOTCTRLn. -/

namespace Sys2Proof.Machine

/-- A slot. The signals of one that the variant lacks are not connected: nothing changes it (R256). -/
def State.slot (s : State) (n : Nat) : Slot := s.slots.getD n .init

def State.updSlot (s : State) (n : Nat) (f : Slot → Slot) : State :=
  if n < s.variant.slotsN then
    { s with slots := (s.slots.zip (List.range s.slots.length)).map (fun p => if p.2 = n then f p.1 else p.1) }
  else s

/-- Dies in use in a slot. -/
def State.slotDies (s : State) (n : Nat) : List Nat := s.dieNums.filter (fun d => slotOf d == n)

/-- A test mode of the NAND interface has a channel of the slot as its target, at a depth that R523 guards. -/
def State.testSlot (s : State) (n : Nat) : Bool :=
  s.ts.isSome && s.rd Fd.TST_CTRL_IFACE == 3 && s.rd Fd.TST_CTRL_DEPTH != 2 && s.rd Fd.TST_CTRL_TARGET / 2 == n

/-! ### Presence -/

/-- CARTRIDGE_INSERTION (R248, R523): PRSNT_N is sampled low. A pad-level test of a channel of the slot ends. -/
def execCartridgeInsertion (n : Nat) (s : State) : Host.Outcome State Fault Refusal :=
  .next (
    if (s.slot n).prsnt then s
    else
      let s := s.updSlot n (fun x => { x with prsnt := true, debounce := 0 })
      if s.testSlot n = true ∧ s.rd Fd.TST_CTRL_DEPTH = 1 then s.testMeets 7 else s)

/-- The slot is powered (R248): POWERING, until power good or PGTIMEOUT. The hub holds PWREN during an output hold (R245): what asks
for power then starts nothing (DESIGN CHOICE, log entry 170). -/
def State.powerSlot (s : State) (n : Nat) : State :=
  if s.testSlot n = true ∨ s.hub.hold = true then s
  else (s.when (s.rd Fd.PWR_DOM_STATE (64 + n / 4) != 0) (fun s => s.setDom (64 + n / 4) 0)).updSlot n (fun x => { x with
    st := .powering, pwren := true, onAt := s.time.beat, goodAt := none })

/-- SLOT_PRESENCE_DEBOUNCE (R248): PRSNT_N has been sampled low at DEBOUNCE consecutive bar boundaries. A test of a
channel of the slot holds PRESENT back until its run ends (R523). -/
def execSlotPresenceDebounce (n : Nat) (s : State) : Host.Outcome State Fault Refusal :=
  .next (
    let x := s.slot n
    if x.st = .empty ∧ x.prsnt = true ∧ s.rd Fd.CTG_CFG_DEBOUNCE ≤ x.debounce ∧ s.testSlot n = false then
      let s := (s.updSlot n (fun x => { x with st := .present })).count Fd.CTG_SLOTCNT_INSERT 1 n
      if s.rd Fd.CTG_CFG_AUTOON = 1 then s.powerSlot n else s
    else s)

/-! ### Planned removal (R250) -/

/-- The test of step 3: 1 when a superblock lacks a member in another slot, 2 when fewer than three other slots would
remain IN_USE, 0 when the removal may go on. -/
def State.removalTest (s : State) (n : Nat) : Nat :=
  if s.md.sbs.any (fun x => x.members.any (fun m => m.lack != 0 && slotOf m.die != n)) then 1
  else if ((List.range s.variant.slotsN).filter (fun k => k != n && (s.slot k).st == .inUse)).length < 3 then 2
  else 0

/-- The record of a planned removal (R549): 1 or 2 refused, 3 completed, 4 cancelled. -/
def State.removalEvent (s : State) (n what dies : Nat) : State := s.hev 0x0701 [n, what, dies, 0]

/-- A refusal returns the slot to IN_USE with the attention indicator blinking for 5 s. -/
def State.refuseRemoval (s : State) (n why : Nat) : State :=
  (s.updSlot n (fun x => { x with st := .inUse, abortEnd := none, closing := false, blinkEnd := s.time.beat + 1250000 })).removalEvent n why
    (s.slotDies n).length

/-- The removal starts: the first test, then the abort window. -/
def State.beginRemoval (s : State) (n : Nat) : State :=
  match s.removalTest n with
  | 0 => s.updSlot n (fun x => { x with st := .removing, abortEnd := some (s.time.beat + s.rd Fd.CTG_CFG_ABORTWIN * 25000) })
  | w => s.refuseRemoval n w

/-- A cancel within the abort window. -/
def State.cancelRemoval (s : State) (n : Nat) : State :=
  if (s.slot n).st = .removing ∧ (s.slot n).abortEnd.isSome then
    (s.updSlot n (fun x => { x with st := .inUse, abortEnd := none })).removalEvent n 4 (s.slotDies n).length
  else s

/-- PRESENT slots are powered while AUTOON is set (R248). -/
def State.autoSlots (s : State) : State :=
  if s.hub.linkOn = false ∨ s.active.isNone ∨ s.rd Fd.CTG_CFG_AUTOON = 0 then s
  else s.each (List.range s.variant.slotsN) (fun s n => if (s.slot n).st = .present then s.powerSlot n else s)

/-- What a registered press does (R248, R250). -/
def State.press (s : State) (n : Nat) : State :=
  match (s.slot n).st with
  | .present => s.powerSlot n
  | .off => s.powerSlot n
  | .inUse => s.beginRemoval n
  | .removing => s.cancelRemoval n
  | _ => s

/-- BUTTON_PRESS (R247): a sample of ATTNBTN_N at a bar boundary; the 20th low one in a row registers a press, once until
the button has been sampled high. -/
def execButtonPress (n : Nat) (low : Bool) (s : State) : Host.Outcome State Fault Refusal :=
  .next (
    if s.atBar = false then s
    else if low = false then s.updSlot n (fun x => { x with lowBars := 0, armed := true })
    else
      let s := s.updSlot n (fun x => { x with lowBars := x.lowBars + 1 })
      let x := s.slot n
      if x.armed = true ∧ 20 ≤ x.lowBars then (s.updSlot n (fun x => { x with btn := true, armed := false })).press n
      else s)

/-- REQON (R248, R258). -/
def State.reqOn (s : State) (n : Nat) : State :=
  if (s.slot n).st = .present ∨ (s.slot n).st = .off then s.powerSlot n else s

def execReqon (_m n : Nat) (s : State) : Host.Outcome State Fault Refusal := .next (s.reqOn n)

/-- REQOFF (R250). -/
def State.reqOff (s : State) (n : Nat) : State := if (s.slot n).st = .inUse then s.beginRemoval n else s

def execReqoff (_m n : Nat) (s : State) : Host.Outcome State Fault Refusal := .next (s.reqOff n)

/-- CANCEL (R250). -/
def execCancel (_m n : Nat) (s : State) : Host.Outcome State Fault Refusal := .next (s.cancelRemoval n)

/-- ABORT_WINDOW_END (R250 steps 3 to 6): the second test; then the slot's dies take no new operation, and every open
stripe with a member on the slot is padded and closed. -/
def execAbortWindowEnd (n : Nat) (s : State) : Host.Outcome State Fault Refusal :=
  .next (match (s.slot n).st, (s.slot n).abortEnd with
    | .removing, some e =>
      if s.time.beat < e then s
      else match s.removalTest n with
        | 0 =>
          let s := s.updSlot n (fun x => { x with abortEnd := none, closing := true })
          s.each (s.md.sbs.filter (fun x => x.st == .open_ && x.members.any (fun m => slotOf m.die == n))) (fun s x => s.closeEarly x.id)
        | w => s.refuseRemoval n w
    | _, _ => s)

/-! ### Absence -/

/-- A channel of a slot without power is untrained. -/
def State.channelOff (s : State) (c : Nat) : State :=
  let s := ((s.wr Fd.FCH_CHSTAT_DIES 0 c).wr Fd.FCH_CHSTAT_RATE 0 c)
  if s.rd Fd.FCH_CHSTAT_STATE c = 3 then s else s.wr Fd.FCH_CHSTAT_STATE 0 c

/-- A slot's dies become absent (R63, R220, R250 step 7, R252): superblocks with members on them are LACKING, and tarts of
stripes that lack two members are lost (R253). The result counts the dies and the superblocks. -/
def State.absentDies (s : State) (n : Nat) : (Nat × Nat) × State :=
  let dies := s.slotDies n
  let here := fun (x : Sb) => x.members.any (fun m => slotOf m.die == n && m.lack != 2)
  let sbs := (s.md.sbs.filter here).length
  let s := s.each dies (fun s d => s.setDie d (fun x => { x with st := 0 }))
  let s := (s.markLack (fun _ m => slotOf m.die == n) 2).noteLoss
  let s := (s.channelOff (2 * n)).channelOff (2 * n + 1)
  ((dies.length, sbs), s.setBudget)

/-- Work on a removed cartridge is settled (R252): reads go on as reconstructions, stripes close without their lost
member, relocations to an unconfirmed destination block on the slot are copied again from their victims. -/
def State.settleRemoved (s : State) (n : Nat) : State :=
  let lost := s.md.dests.filter (fun d => match s.sb d.sb with
    | some x => slotOf (x.members.getD d.mem ⟨0, [], 0⟩).die == n
    | none => false)
  let s := s.updMd (fun m => { m with dests := m.dests.filter (fun d => !lost.contains d) })
  let s := s.settleOpen.settleDies
  (s.each lost (fun s d => s.recopy d.tart)).postCrit

/-- SLOT_POWER_OFF (R250 steps 7 and 8): once every operation on the slot's dies has ended. -/
def execSlotPowerOff (n : Nat) (s : State) : Host.Outcome State Fault Refusal :=
  .next (
    let x := s.slot n
    if x.st = .removing ∧ x.closing = true ∧ s.hub.hold = false ∧
        s.md.ops.all (fun o => slotOf o.die != n || (o.st != .busy && o.st != .suspended)) = true then
      let dies := (s.slotDies n).length
      let s := s.absentDies n |>.2
      let s := s.updSlot n (fun x => { x with st := .off, pwren := false, pwrgd := false, closing := false, cause := 1 })
      (s.settleRemoved n).removalEvent n 3 dies
    else s)

/-- A detected removal is settled (R252, R253): 0 presence loss, 1 power-good loss, 2 power fault. -/
def State.settleRemoval (s : State) (n why : Nat) : State :=
  let s := s.updSlot n (fun x => { x with unsettled := none })
  let r := s.absentDies n
  (r.2.settleRemoved n).hev 0x0702 [n, why, r.1.1, r.1.2]

/-- A removal is detected in a slot that is IN_USE or REMOVING (R251). One that the hub detects during an output hold is settled after
the release (R403). -/
def State.removal (s : State) (n why : Nat) : State :=
  if (s.slot n).st = .inUse ∨ (s.slot n).st = .removing then
    let s := s.updSlot n (fun x => { x with
      st := if why = 0 then .empty else .fault, pwren := false, abortEnd := none, closing := false, debounce := 0,
      cause := if why = 0 then 2 else 3, unsettled := some why })
    let s := if why = 0 then s.count Fd.CTG_SLOTCNT_SURPRISE 1 n else s
    if s.hub.hold then s else s.settleRemoval n why
  else s

/-- Removals detected during an output hold are settled: by the new active half after the release (R403), or where the flush begins. -/
def State.settleSlots (s : State) : State :=
  s.each (List.range s.variant.slotsN) (fun s n => match (s.slot n).unsettled with | some why => s.settleRemoval n why | none => s)

/-- SURPRISE_REMOVAL (R251 to R253). -/
def execSurpriseRemoval (n why : Nat) (s : State) : Host.Outcome State Fault Refusal :=
  .next (
    if (s.slot n).st = .inUse ∨ (s.slot n).st = .removing then
      (s.updSlot n (fun x => { x with
        prsnt := x.prsnt && decide (why ≠ 0), pwrgd := x.pwrgd && decide (why ≠ 1), pwrflt := x.pwrflt || decide (why = 2) })).removal n why
    else s)

/-- SLOT_PRESENCE_LOSS (R248, R251): PRSNT_N is sampled high. -/
def execSlotPresenceLoss (n : Nat) (s : State) : Host.Outcome State Fault Refusal :=
  .next (
    let s := s.updSlot n (fun x => { x with prsnt := false, debounce := 0 })
    if (s.slot n).st = .inUse ∨ (s.slot n).st = .removing then s.removal n 0
    else s.updSlot n (fun x => { x with st := .empty, pwren := false }))

/-- POWER_GOOD_LOSS (R248, R251): PWRGD is sampled low. Before power good was seen in POWERING, PGTIMEOUT decides. -/
def execPowerGoodLoss (n : Nat) (s : State) : Host.Outcome State Fault Refusal :=
  .next (
    let x := s.slot n
    let s := s.updSlot n (fun x => { x with pwrgd := false })
    if x.pwren = false then s
    else match x.st with
      | .inUse => s.removal n 1
      | .removing => s.removal n 1
      | .powering => if x.goodAt.isSome then s.updSlot n (fun x => { x with st := .fault, pwren := false }) else s
      | .training => s.updSlot n (fun x => { x with st := .fault, pwren := false })
      | _ => s)

/-- SLOT_POWER_FAULT (R245, R248, R251): PWRFLT_N is sampled low: the fault is latched and PWREN goes low. -/
def execSlotPowerFault (n : Nat) (s : State) : Host.Outcome State Fault Refusal :=
  .next (
    let x := s.slot n
    let s := s.updSlot n (fun x => { x with pwrflt := true, pwren := false })
    match x.st with
    | .inUse => s.removal n 2
    | .removing => s.removal n 2
    | .powering => s.updSlot n (fun x => { x with st := .fault })
    | .training => s.updSlot n (fun x => { x with st := .fault })
    | _ => s)

/-! ### Power on -/

/-- SLOT_POWER_GOOD (R248): PWRGD is sampled high. -/
def execSlotPowerGood (n : Nat) (s : State) : Host.Outcome State Fault Refusal :=
  .next (s.updSlot n (fun x => { x with
    pwrgd := true, goodAt := if x.st = .powering ∧ x.goodAt.isNone then some s.time.beat else x.goodAt }))

/-- POWER_GOOD_TIMEOUT (R248): PWRGD is not high within PGTIMEOUT bars. -/
def execPowerGoodTimeout (n : Nat) (s : State) : Host.Outcome State Fault Refusal :=
  .next (
    let x := s.slot n
    if x.st = .powering ∧ x.goodAt.isNone ∧ x.onAt + s.rd Fd.CTG_CFG_PGTIMEOUT * 250 ≤ s.time.beat ∧ s.hub.hold = false then
      s.updSlot n (fun x => { x with st := .fault, pwren := false })
    else s)

/-- SLOT_TRAINING_START (R234, R248): two bars after PWRGD was first sampled high. -/
def execSlotTrainingStart (n : Nat) (s : State) : Host.Outcome State Fault Refusal :=
  .next (match (s.slot n).st, (s.slot n).goodAt with
    | .powering, some g => if g + 500 ≤ s.time.beat then s.updSlot n (fun x => { x with st := .training }) else s
    | _, _ => s)

/-- Training of a channel ends (R234): at the configured rate, at a lower one, which is recorded, or not even at 800 MT/s,
which retires the channel. FCH_CNT_TRAINFAIL counts one failure for a training that does not pass at the configured rate, whatever the
number of rates that failed in it (DESIGN CHOICE, log entry 161). -/
def State.trainChannel (s : State) (c : Nat) (rate : Option Nat) : State :=
  match rate with
  | some r =>
    let low := decide (r < s.rd Fd.FCH_TRAINCFG_RATE)
    let s := ((s.wr Fd.FCH_CHSTAT_STATE (if low then 2 else 1) c).wr Fd.FCH_CHSTAT_RATE r c).free.2.wr Fd.FCH_CHSTAT_TOGGLE s.free.1 c
    if low then (s.count Fd.FCH_CNT_TRAINFAIL_COUNT).aev 0 0x0602 [] else s
  | none =>
    let s := (s.wr Fd.FCH_CHSTAT_STATE 3 c).count Fd.FCH_CNT_TRAINFAIL_COUNT
    if s.rd Fd.MED_CHSTAT_RETIRED c = 1 then s
    else ((s.wr Fd.MED_CHSTAT_RETIRED 1 c).count Fd.MED_RETSTAT_CHANNELS).retireEvent 2 c 0 2

/-- A die found above a gap of its chip enable (R232). -/
def aboveGap (found : List DieFound) (d : Nat) : Bool :=
  (List.range (d % 8)).any (fun v => !(found.any (fun f => f.die == d - d % 8 + v)))

/-- The die record of a die on the same channel marks a found die retired (R249). -/
def retiredBy (found : List DieFound) (f : DieFound) : Bool := found.any (fun g => chanOf g.die == chanOf f.die && g.dies.contains f.die)

/-- The media type of a found die that is in use (R233). -/
def State.typeOf (s : State) (f : DieFound) : Option Nat := f.media.filter (fun k => s.rd Fd.MED_GEOM_VALID k == 1)

/-- An identified die is used (R196, R232, R233, R249): it matches a media type in use whose fields address it, no die record retires it,
and its channel was trained. -/
def State.usableDie (s : State) (found : List DieFound) (f : DieFound) : Bool :=
  !(retiredBy found f) && !aboveGap found f.die && s.rd Fd.FCH_CHSTAT_STATE (chanOf f.die) != 3 &&
    (match s.typeOf f with | some k => s.fits k | none => false)

/-- Bring an identified die into use, with what its record lists; every other content of the cartridge is discarded (R249). `erased` die
blocks of it are in use already. Blocks that superblocks still name as lost stay as they are. -/
def State.addDie (s : State) (f : DieFound) (erased : Nat) : State :=
  let d := f.die
  let k := f.media.getD 0
  let s := s.updMd (fun m => { m with erases := m.erases.filter (fun e => e.die != d) })
  let s := (s.setDie d (fun _ => ⟨1, k, 0, erased, f.bad.length⟩)).setRec d (fun _ => ⟨f.bad, f.grown, f.dies, f.chans, 0⟩)
  let s := s.updMd (fun m => { m with slcSub := m.slcSub.filter (fun p => decide (p.1 / 2 ^ 15 ≠ d)), slcUsed := m.slcUsed.filter (fun p => decide (p.1 / 2 ^ 15 ≠ d)) })
  let s := s.updLg (fun l => { l with flushUsed := l.flushUsed.filter (fun p => decide (p.1 / 2 ^ 15 ≠ d)) })
  let slc := (List.range (s.rd Fd.MED_RSVCFG_SLCBLK)).flatMap (fun i => (List.range (planesOf k)).map (fun p => (p, s.lastBlk d - 1 - i)))
  let s := s.each slc (fun s b => s.setBlk d b.1 b.2 (fun x => { x with st := .slc }))
  let s := s.each f.bad (fun s b => s.setBlk d b.1 b.2 (fun x => { x with st := .bad }))
  let s := s.each f.grown (fun s b => s.setBlk d b.1 b.2 (fun x => { x with st := .retired }))
  (s.wr Fd.FCH_CHSTAT_DIES (s.rd Fd.FCH_CHSTAT_DIES (chanOf d) + 1) (chanOf d)).updRg (fun r => { r with
    loops := r.loops.filter (fun p => decide (p.1 / 16 ≠ d)), calib := r.calib.filter (fun p => decide (p.1 ≠ d)) })

/-- The new cartridge's dies carry nothing over from the old one's block table (R249, R255): entries go but those of blocks
that a superblock still names as lost, and so do the pages of all other blocks. -/
def State.forgetDie (s : State) (d : Nat) : State :=
  let kept := fun (b : Blk) => match b.st with | .used _ => true | _ => false
  let s := s.updMd (fun m => { m with flash := m.flash.filter (fun p => decide (ppaDie p.1 ≠ d) || kept (s.blk d (s.ppaPlane p.1) (s.ppaBlk p.1))) })
  s.updMd (fun m => { m with blks := m.blks.filter (fun p => decide (p.1 / 2 ^ 15 / 8 ≠ d) || kept p.2) })

/-- A usable die lifts the retirement of its channel (R218): it stays retired only while every die on it is. -/
def State.unretireChannel (s : State) (c : Nat) : State :=
  if s.rd Fd.MED_CHSTAT_RETIRED c = 1 ∧ s.rd Fd.FCH_CHSTAT_STATE c ≠ 3 ∧ (s.dieNums.any (fun d => chanOf d == c)) = true then
    s.wr Fd.MED_CHSTAT_RETIRED 0 c
  else s

/-- Start-up has not yet decided the dies (R460). -/
def State.deciding (s : State) : Bool :=
  !s.hub.linkOn && decide (1 ≤ s.rd Fd.BTA_BOOTSTAT_STEP) && decide (s.rd Fd.BTA_BOOTSTAT_STEP ≤ 12)

/-- Dies that are not used are recorded (R232, R233); one whose geometry its fields cannot address is marked retired (R196), and one in
use that fails identification at start-up is retired (R218). -/
def State.noteUnused (s : State) (found : List DieFound) : State :=
  s.each (found.filter (fun f => !(retiredBy found f) && !s.usableDie found f)) (fun s f =>
    match s.typeOf f with
    | some k =>
      if s.fits k then s.aev 0 0x0601 []
      else if (s.die f.die).st = 2 then s
      else ((s.setDie f.die (fun _ => ⟨2, k, 0, 0, 0⟩)).count Fd.MED_RETSTAT_DIES).aev 0 0x0501 []
    | none => (s.when (s.deciding && (s.die f.die).st == 3) (fun s => s.retireDie f.die 3)).aev 0 0x0601 [])

/-- SLOT_TRAINING_DONE (R234, R248, R249, R255): both channels are trained and their dies identified: IN_USE, or FAULT with
no usable die. During start-up the slot stays in TRAINING until its dies have been decided (R460). -/
def execSlotTrainingDone (n : Nat) (rate0 rate1 : Option Nat) (found : List DieFound) (s : State) :
    Host.Outcome State Fault Refusal :=
  .next (
    if (s.slot n).st ≠ .training ∨ s.hub.hold = true then s
    else
      let found := found.filter (fun f => slotOf f.die == n)
      let s := (((s.trainChannel (2 * n) rate0).trainChannel (2 * n + 1) rate1).noteUnused found)
      let use := found.filter (fun f => s.usableDie found f)
      if s.deciding then s
      else if use.isEmpty then s.updSlot n (fun x => { x with st := .fault, pwren := false })
      else
        let s := s.each use (fun s f => (s.forgetDie f.die).addDie f 0)
        let s := (s.unretireChannel (2 * n)).unretireChannel (2 * n + 1)
        (s.updSlot n (fun x => { x with st := .inUse, closing := false })).setBudget)

end Sys2Proof.Machine
end

