-- ==== Sys2Proof/Machine/Patrol.lean ====
section
/-! DEFINITION. Range scrubs (R282 to R284), the patrol's need (R278), the checkpoint writer (R192) and the loop states' copies (R301),
with the commands SCRUB_GO, SCRUB_CANCEL, SCRUB_END and LOOP_STATE_SAVE. -/

namespace Sys2Proof.Machine

/-! ### Range scrubs -/

/-- START of a request: the first logical tart, or the first die in bits 9:0. -/
def State.scrubStart (s : State) (kind : Nat) : Nat :=
  let n := s.rd Fd.ECC_SCRUBSTART_LO_START + s.rd Fd.ECC_SCRUBSTART_HI_START * 2 ^ 32
  if kind = 1 then n % 1024 else n

/-- One past the last die present. -/
def State.lastDie (s : State) : Nat := s.dieNums.foldl (fun a d => max a (d + 1)) 0

/-- Why a request is refused (R282): REASON, none when it is accepted. A kind that does not exist is refused; the manual
names no REASON for it, which is a free value. -/
def State.scrubRefusal (s : State) (kind : Nat) : Option (Nat × State) :=
  let count := s.rd Fd.ECC_SCRUBCOUNT_COUNT
  let top := if kind = 0 then s.exported else s.lastDie
  if s.md.scrub.isSome then some (1, s)
  else if count = 0 then some (2, s)
  else if 2 ≤ kind then some (s.free.1 % 4, s.free.2)
  else if top < s.scrubStart kind + count then some (3, s)
  else none

/-- A write of ECC_SCRUBCTRL with GO (R282). -/
def State.scrubGo (s : State) (val : Nat) : State :=
  let kind := val / 4 % 4
  let s := (s.wr Fd.ECC_SCRUBCTRL_KIND kind).wr Fd.ECC_SCRUBCTRL_ID (val / 2 ^ 16 % 2 ^ 16)
  if bit val 0 = false then s
  else match s.scrubRefusal kind with
    | some (r, s) => ((s.wr Fd.ECC_SCRUBSTAT_REJECT 1).wr Fd.ECC_SCRUBSTAT_REASON r).aev 0 0x0803 []
    | none =>
      let start := s.scrubStart kind
      (s.wr Fd.ECC_SCRUBSTAT_BUSY 1).updMd (fun d => { d with
        scrub := some ⟨val / 2 ^ 16 % 2 ^ 16, kind, start, s.rd Fd.ECC_SCRUBCOUNT_COUNT, if kind = 1 then start * 2 ^ 25 else start,
          false, s.time.beat, 0, 0, 0, 0, 0, 0, 0, 0, 0⟩ })

/-- SCRUB_GO (R282). -/
def execScrubGo (_m val : Nat) (s : State) : Host.Outcome State Fault Refusal := .next (s.scrubGo val)

/-- A cancel of the request in progress (R284). -/
def State.scrubCancel (s : State) : State :=
  s.updMd (fun d => { d with scrub := d.scrub.map (fun x => { x with cancel := true }) })

/-- SCRUB_CANCEL (R284). -/
def execScrubCancel (_m : Nat) (s : State) : Host.Outcome State Fault Refusal := .next s.scrubCancel

/-- The summary record as 16 words of 32 bits (R283). -/
def Scrub.words (x : Scrub) (status now : Nat) : List Nat :=
  [x.id + x.kind * 2 ^ 16 + status * 2 ^ 24, x.start % 2 ^ 32, x.start / 2 ^ 32, x.count, x.read, x.soft, x.ladder, x.recon,
   x.unrec, x.poisoned, x.skipped, x.cbmax + x.refresh * 2 ^ 16, x.begun % 2 ^ 32, x.begun / 2 ^ 32, now % 2 ^ 32, now / 2 ^ 32]

/-- The first four 8-byte items of a summary, which the arguments of its record hold (DESIGN CHOICE, log entry 48). -/
def summaryArgs (ws : List Nat) : List Nat := (List.range 4).map (fun i => ws.getD (2 * i) 0 + ws.getD (2 * i + 1) 0 * 2 ^ 32)

/-- A request ends (R283): its summary record, DONE, and an event. -/
def State.endScrub (s : State) (x : Scrub) (status : Nat) : State :=
  let ws := x.words status s.time.beat
  let s := s.updMd (fun m => { m with scrub := none, ops := m.ops.filter (fun o => o.why != .scrub || o.st == .busy) })
  let s := s.each (ws.zip (List.range 16)) (fun s w => s.wr Fd.ECC_SUM_WORD w.1 w.2)
  ((s.wr Fd.ECC_SCRUBSTAT_BUSY 0).wr Fd.ECC_SCRUBSTAT_DONE 1).aev 0 0x0804 (summaryArgs ws)

/-- A request has passed its whole range and its reads have ended. -/
def State.scrubOver (s : State) (x : Scrub) : Bool :=
  decide ((x.start + x.count) * (if x.kind = 1 then 2 ^ 25 else 1) ≤ x.next) && !(s.readsOf.any (fun o => o.why == .scrub))

/-- SCRUB_END (R283, R284): at the end of the range, or at the bar boundary after a cancel. -/
def execScrubEnd (s : State) : Host.Outcome State Fault Refusal :=
  .next (match s.md.scrub with
    | some x =>
      if x.cancel then (if s.atBar then s.endScrub x 1 else s)
      else if s.scrubOver x then s.endScrub x 0 else s
    | none => s)

/-! ### The patrol's need (R278) -/

/-- RFS entries per bar of the live plan over the dies in use. -/
def State.rfsSlots (s : State) : Nat :=
  sumOf (fun d => ((List.range 250).filter (fun b => rowEntry s.liveRow (Fd.SCH_DIEPAT_ROW.get (s.liveDie d)) b == 3)).length) s.dieNums

/-- At a bar boundary: NEED, LATE with its event once per pass, and the progress of the pass. The RFS slots that the plan
leaves the patrol are all its RFS slots (DESIGN CHOICE, log entry 49). -/
def State.patrolNeed (s : State) : State :=
  let total := s.patrolPages.length
  let p := s.md.patrol
  let left := total - p.count
  let passEnd := p.start / 250 + s.rd Fd.ECC_PATCFG_PERIOD * 86400000
  let bars := max 1 (passEnd - s.bar)
  let need := ceilDiv left bars
  let late := decide (s.rfsSlots < need)
  let s := ((s.wr Fd.ECC_PATSTAT_NEED (min 65535 need)).wr Fd.ECC_PATSTAT_LATE (boolNat late)).wr Fd.ECC_PATSTAT_PROGRESS
    (if total = 0 then 0 else min 1023 (1024 * p.count / total))
  if late = true ∧ p.late = false then (s.updMd (fun m => { m with patrol := { p with late := true } })).aev 0 0x0801 [] else s

/-! ### The checkpoint writer (R192) -/

/-- Segments of the map. -/
def State.segments (s : State) : Nat := ceilDiv s.exported 3200

/-- The copy of a map segment as its entries stand (R192): every delta of the segment before `next` has been applied. -/
def State.segCopy (s : State) (seg : Nat) : SegCopy :=
  let mine := fun (l : Nat) => l / 3200 == seg
  ⟨seg, (minOf ((s.tr.mapq.filter (fun w => mine w.ltn)).map (fun w => w.mseq))).getD s.tr.mseq, false, s.tr.map.filter (fun p => mine p.1)⟩

/-- Copy segments into SLC program units of one segment to a plane, from segment `at'` on; the last segment is marked. -/
def State.copySegs (at' : Nat) : Nat → Nat → State → State
  | 0, _, s => s
  | n + 1, left, s =>
    if left = 0 ∨ s.segments ≤ at' ∨ s.dieNums.isEmpty = true then s
    else
      let k := min left (min 4 (s.segments - at'))
      let s := s.addMeta [1, at', if at' + k = s.segments then 1 else 0]
      let s := s.updTr (fun t => { t with copying := t.copying ++ (List.range' at' k).map (fun g => s.segCopy g) })
      State.copySegs (at' + k) n (left - k) s

/-- Each bar the writer copies RATE segments, in order, and wraps round. -/
def State.copyBar (s : State) : State :=
  if s.segments = 0 ∨ s.dieNums.isEmpty = true then s
  else
    let r := s.rd Fd.MAP_CKPCFG_RATE
    let seg := s.tr.seg
    (State.copySegs seg r r s).updTr (fun t => { t with seg := if s.segments ≤ seg + r then 0 else seg + r })

/-! ### Loop states (R301) -/

/-- LOOP_STATE_SAVE (R301): every 1,000 bars the loop states are programmed to the metadata stream. -/
def execLoopStateSave (s : State) : Host.Outcome State Fault Refusal :=
  .next (if s.active.isSome ∧ s.hub.hold = false ∧ s.atBar = true ∧ s.bar % 1000 = 0 then
    (s.updRg (fun r => { r with saving := r.loops })).addMeta [2] else s)

end Sys2Proof.Machine
end

