-- ==== Sys2Proof/Machine/BootArray.lean ====
section
/-! DEFINITION. The boot array (R439 to R455): words and their two programs, operations with their log, refusals, brown-out, the
option area with the bank descriptors and the two repair lists, and the commands PROGRAM_RUN, ERASE, BTA_OPERATION_END and
BROWN_OUT. -/

namespace Sys2Proof.Machine

/-! ### Words and sectors (R439, R440) -/

def State.updBt (s : State) (f : Boot → Boot) : State := { s with bt := f s.bt }

def State.setArr (s : State) (addr : Nat) (w : ArrWord) : State :=
  s.updBt (fun b => { b with arr := spSet (fun _ => .init) b.arr (arrIdx b.remaps addr) w })

/-- One program of a word, with its status: 5 THIRD, 4 RAISE, 0 done (R440). -/
def ArrWord.program (w : ArrWord) (v : Word64) : Nat × ArrWord :=
  if 2 ≤ w.n then (5, w) else if v &&& ~~~w.val ≠ 0 then (4, w) else (0, ⟨w.n + 1, v⟩)

def State.progWord (s : State) (addr : Nat) (v : Word64) : State := s.setArr addr ((s.arrWord addr).program v).2

/-- The addresses of a run of words, with the words. -/
def runOf (addr : Nat) (ws : List Word64) : List (Nat × Word64) := ((List.range ws.length).map (fun i => addr + 8 * i)).zip ws

/-- The first refusal that a word of a run meets; 0 for none. -/
def State.runStatus (s : State) (addr : Nat) (ws : List Word64) : Nat :=
  (((runOf addr ws).map (fun p => ((s.arrWord p.1).program p.2).1)).find? (fun st => st != 0)).getD 0

def State.progRun (s : State) (addr : Nat) (ws : List Word64) : State :=
  s.each (runOf addr ws) (fun s p => s.progWord p.1 p.2)

def sectorBase (addr : Nat) : Nat := addr / 4096 * 4096

def State.eraseSector (s : State) (addr : Nat) : State :=
  s.updBt (fun b =>
    let i := arrIdx b.remaps (sectorBase addr)
    { b with arr := spClear b.arr i (i + 512) })

/-- What an interrupted operation leaves in its words is not stated: free values, of contents and of programs. -/
def State.spoil (s : State) (addr n : Nat) : State :=
  s.each (List.range n) (fun s i =>
    let v := s.free
    let k := v.2.free
    k.2.setArr (addr + 8 * i) ⟨k.1 % 3, BitVec.ofNat 64 v.1⟩)

/-! ### The operation log (R446) -/

def arrBank (addr : Nat) : Nat := addr / 2 ^ 24 % 2
def logBase (bank : Nat) : Nat := bank * 2 ^ 24 + 0x1000

/-- The next erased word of a bank's operation log. -/
def State.logFree (s : State) (bank : Nat) : Option Nat :=
  ((List.range 512).map (fun i => logBase bank + 8 * i)).find? (fun a => (s.arrWord a).n == 0)

/-- The log word of an operation; its bits without a field are 0. -/
def logWord (op addr seq : Nat) : Word64 :=
  BitVec.ofNat 64 (op + addr / 4096 % 4096 * 4 + seq % 2 ^ 32 * 2 ^ 16 + 2 ^ 63)

/-- Log an operation before its first pulse; a log with no erased word is erased first. -/
def State.beginLog (s : State) (op addr : Nat) : Nat × State :=
  let bank := arrBank addr
  let s := if (s.logFree bank).isSome then s else s.eraseSector (logBase bank)
  let a := (s.logFree bank).getD (logBase bank)
  (a, (s.progWord a (logWord op addr s.bt.seq)).updBt (fun b => { b with seq := (b.seq + 1) % 2 ^ 32 }))

/-- The log word's second program, which clears bit 63. -/
def State.endLog (s : State) (a : Nat) : State := s.progWord a ((s.arrWord a).val &&& BitVec.ofNat 64 (2 ^ 63 - 1))

/-- A program run or an erase done from its log word to its end within one command: the operations of firmware at start-up
and in service, and those of the hub's recorder (DESIGN CHOICE, log entry 57). -/
def State.wholeRun (s : State) (addr : Nat) (ws : List Word64) : State :=
  let l := s.beginLog 1 addr
  (l.2.progRun addr ws).endLog l.1

def State.wholeErase (s : State) (addr : Nat) : State :=
  let l := s.beginLog 2 addr
  (l.2.eraseSector addr).endLog l.1

/-! ### Operations by masters (R443 to R448) -/

/-- A bank is busy while the image loader reads an image from it: the bank chosen, while a half loads or its images are
verified (R444). -/
def State.bankBusy (s : State) (bank : Nat) : Bool :=
  let step := s.rd Fd.BTA_BOOTSTAT_STEP
  (decide (s.rd Fd.BTA_BOOTSTAT_BANK = bank) && (step == 5 || step == 6)) ||
    (decide (s.rd Fd.BTA_STAT_RUNBANK = bank) && decide (7 ≤ step) && (s.hub.a.st == .loading || s.hub.b.st == .loading))

/-- A target that R445 protects: the set of the running bank, the operation logs, and for an erase the event areas. -/
def State.protectedTarget (s : State) (op addr : Nat) : Bool :=
  let off := addr % 2 ^ 24
  (s.bt.run.fwOk && arrBank addr == s.rd Fd.BTA_STAT_RUNBANK && decide (0x20_0000 ≤ off)) ||
    (decide (0x1000 ≤ off) && decide (off < 0x2000)) ||
    (op == 2 && decide (0x10_0000 ≤ off) && decide (off < 0x20_0000))

/-- The words of BTA_BUF. -/
def State.btaWords (s : State) (n : Nat) : List Word64 :=
  (List.range n).map (fun i => BitVec.ofNat 64 (s.rd Fd.BTA_BUF_DATA (2 * i) + s.rd Fd.BTA_BUF_DATA (2 * i + 1) * 2 ^ 32))

/-- The status with which an operation is refused, 0 when it begins. Where several reasons stand, the order is the model's
(DESIGN CHOICE, log entry 56). -/
def State.opRefusal (s : State) (op addr count : Nat) : Nat :=
  if s.bt.op.isSome then 1
  else if op = 3 then 8
  else if op = 1 ∧ (count = 0 ∨ 64 < count ∨ 4096 < addr % 4096 + 8 * count) then 8
  else if s.protectedTarget op addr then 3
  else if s.bankBusy (arrBank addr) then 2
  else if op = 1 then s.runStatus addr (s.btaWords count)
  else 0

/-- No new operation begins after the detection of power loss, in an output hold or below the brown-out threshold (R401,
R447, R448). -/
def State.noPulse (s : State) : Bool := s.lg.loss.isSome || s.hub.hold || s.hub.outputsHeld || s.rd Fd.BTA_STAT_BROWN == 1

/-- OP written: the operation begins with its log word, or is refused with its status. -/
def State.issueOpBta (s : State) (op : Nat) : State :=
  let addr := 8 * s.rd Fd.BTA_OPADDR_ADDR
  let count := s.rd Fd.BTA_OPCTRL_COUNT
  if s.noPulse then s
  else match s.opRefusal op addr count with
    | 0 =>
      let seq := s.bt.seq
      let l := s.beginLog op addr
      let ws := if op = 1 then s.btaWords count else []
      let a := if op = 1 then addr else sectorBase addr
      (l.2.updBt (fun b => { b with op := some ⟨op, a, ws, l.1, s.time.beat⟩ })).wr Fd.BTA_OPSTAT_SEQ (seq % 2 ^ 16)
    | st => (s.wr Fd.BTA_OPSTAT_STATUS st).when (st == 2) (fun s => s.count Fd.BTA_CNT_BUSY_COUNT)

/-- A write of BTA_OPCTRL: masters of the clapper holder issue operations (R443, R466). -/
def State.opctrlWrite (s : State) (m op count : Nat) : State :=
  if 96 ≤ m ∨ s.active.isNone then s.discarded s.act m Blk.BTA Reg.BTA_OPCTRL.off (op + count * 256)
  else
    let s := s.wr Fd.BTA_OPCTRL_COUNT count
    if op % 4 = 0 then s else s.issueOpBta (op % 4)

/-- PROGRAM_RUN (R443, R444, R445, R446). -/
def execProgramRun (m count : Nat) (s : State) : Host.Outcome State Fault Refusal := .next (s.opctrlWrite m 1 count)

/-- ERASE (R443, R444, R445, R446). -/
def execErase (m : Nat) (s : State) : Host.Outcome State Fault Refusal :=
  .next (s.opctrlWrite m 2 (s.rd Fd.BTA_OPCTRL_COUNT))

/-- The operation in progress ends with a status. -/
def State.endOp (s : State) (status : Nat) : State :=
  ((s.updBt (fun b => { b with op := none })).wr Fd.BTA_OPSTAT_DONE 1).wr Fd.BTA_OPSTAT_STATUS status

/-- The limits of R441, in beats. -/
def opLimit (op : Nat) : Nat := if op = 1 then 250 else 25000

/-- BTA_OPERATION_END (R441, R446): the effect and the log word's second program; an operation that reaches its limit ends
with status TIMEOUT, and its words hold what the manual does not state. -/
def execBtaOperationEnd (timedOut : Bool) (s : State) : Host.Outcome State Fault Refusal :=
  .next (match s.bt.op with
    | none => s
    | some o =>
      if timedOut = true ∧ o.begun + opLimit o.op ≤ s.time.beat then
        ((s.spoil o.addr (if o.op = 1 then o.words.length else 512)).endLog o.log).endOp 6
      else ((if o.op = 1 then s.progRun o.addr o.words else s.eraseSector o.addr).endLog o.log).endOp 0)

/-- BROWN_OUT (R447): no new pulse; the operation ends with status BROWNOUT, and without a second log program. -/
def execBrownOut (s : State) : Host.Outcome State Fault Refusal :=
  .next (
    let s := (s.wr Fd.BTA_STAT_BROWN 1).wr Fd.PWR_STAT_BROWN 1
    match s.bt.op with
    | none => s
    | some o => ((s.spoil o.addr (if o.op = 1 then o.words.length else 512)).endOp 7).count Fd.BTA_CNT_BROWNOUT_COUNT)

/-! ### The option area (R451, R452) -/

def optAddr (copy i : Nat) : Nat := copy * 2 ^ 24 + 8 * i

/-- A word of the option area: copy A where it is programmed, else copy B. -/
def State.optWord (s : State) (i : Nat) : Word64 :=
  let a := s.arrWord (optAddr 0 i)
  if a.n = 0 then (s.arrWord (optAddr 1 i)).val else a.val

def State.optErased (s : State) (i : Nat) : Bool :=
  (s.arrWord (optAddr 0 i)).n == 0 && (s.arrWord (optAddr 1 i)).n == 0

/-- Program a word in copy A and then in copy B. -/
def State.progOpt (s : State) (i : Nat) (v : Word64) : State :=
  (s.wholeRun (optAddr 0 i) [v]).wholeRun (optAddr 1 i) [v]

/-- Rewrite one copy from given words; erased words stay erased. -/
def State.writeCopy (s : State) (copy : Nat) (ws : List (Nat × Word64)) : State :=
  (s.wholeErase (optAddr copy 0)).each ws (fun s p => s.wholeRun (optAddr copy p.1) [p.2])

/-- The programmed words of one copy. -/
def State.copyWords (s : State) (copy : Nat) : List (Nat × Word64) :=
  (List.range 512).filterMap (fun i =>
    let w := s.arrWord (optAddr copy i)
    if w.n = 0 then none else some (i, w.val))

def State.rewgen (s : State) (copy : Nat) : Nat := (s.arrWord (optAddr copy 1)).val.toNat / 2 ^ 16 % 2 ^ 32

/-- A rewrite (R452) that returns the words `drop` to erased: the new content with REWGEN + 1 and its CRC, into copy B and
then into copy A. -/
def State.rewriteOpt (s : State) (drop : List Nat) : State :=
  let kept := (List.range 512).filterMap (fun i =>
    if s.optErased i = true ∨ i ∈ drop then none else some (i, s.optWord i))
  let w1 := BitVec.ofNat 64 ((s.optWord 1).toNat % 2 ^ 16 + ((s.optWord 1).toNat / 2 ^ 16 + 1) % 2 ^ 32 * 2 ^ 16)
  let crc := (Config.crc32 [s.optWord 0, w1, s.optWord 2]).setWidth 64
  let ws := kept.map (fun p => if p.1 = 1 then (1, w1) else if p.1 = 3 then (3, crc) else p)
  (s.writeCopy 1 ws).writeCopy 0 ws

/-- A copy passes at start (R452): its words were read without failure, and its MAGIC and its CRC are right. -/
def State.copyPasses (s : State) (c : Nat) (readOk : Bool) : Bool :=
  let w := fun (i : Nat) => (s.arrWord (optAddr c i)).val
  readOk && w 0 == optMagic && (w 3).setWidth 32 == Config.crc32 [w 0, w 1, w 2]

/-- The variant code of the option area (R4, R451). -/
def State.optVariant (s : State) : Nat := (s.optWord 1).toNat / 256 % 256

/-- The choice between the copies at start (R452), of those that pass; `none` when no copy passes. -/
def State.chooseCopies (s : State) (a b : Bool) : Option State :=
  match a, b with
  | false, false => none
  | true, false => some (s.writeCopy 1 (s.copyWords 0))
  | false, true => some (s.writeCopy 0 (s.copyWords 1))
  | true, true =>
    if s.rewgen 1 < s.rewgen 0 then some (s.writeCopy 1 (s.copyWords 0))
    else if s.rewgen 0 < s.rewgen 1 then some (s.writeCopy 0 (s.copyWords 1))
    else
      let only := fun (c : Nat) => (s.copyWords c).filter (fun p => (s.arrWord (optAddr (1 - c) p.1)).n == 0)
      some ((s.each (only 0) (fun s p => s.wholeRun (optAddr 1 p.1) [p.2])).each (only 1) (fun s p => s.wholeRun (optAddr 0 p.1) [p.2]))

/-! ### Bank descriptors (R453, R454) -/

/-- Word D`j` of a bank's descriptor, by its place in the option area. -/
def descIdx (bank j : Nat) : Nat := 8 + 8 * bank + j

def State.setgen (s : State) (bank : Nat) : Nat := (s.optWord (descIdx bank 0)).toNat % 2 ^ 32

/-- The state of a bank: 0 EMPTY, 1 WRITING, 2 STAGED, 3 TRIAL, 4 CONFIRMED, 5 FAILED. -/
def State.bankState (s : State) (bank : Nat) : Nat :=
  let on := fun (j : Nat) => !s.optErased (descIdx bank j)
  if on 4 then 5 else if on 3 then 4 else if on 2 then 3 else if on 1 then 2 else if on 0 then 1 else 0

/-- Program a mark of a bank: D1 STAGED, D2 TRIAL, D3 CONFIRMED, D4 FAILED; once, to zero. -/
def State.markBank (s : State) (bank j : Nat) : State :=
  if s.optErased (descIdx bank j) then s.progOpt (descIdx bank j) 0 else s

/-- Attempt word `j` (1 to 3) of a bank was begun; it reached service. -/
def State.attemptBegun (s : State) (bank j : Nat) : Bool := (s.optWord (descIdx bank (4 + j))).toNat % 2 ^ 32 == 0
def State.attemptDone (s : State) (bank j : Nat) : Bool := (s.optWord (descIdx bank (4 + j))).toNat / 2 ^ 32 == 0

/-- Failed attempts of a bank: begun, not in this start, and without reaching service. -/
def State.failedAttempts (s : State) (bank : Nat) : Nat :=
  ([1, 2, 3].filter (fun j => s.attemptBegun bank j && !s.attemptDone bank j && s.bt.attempt != some (bank, j))).length

/-- The bank that a start takes (R454). -/
def State.chooseBank (s : State) : Option Nat :=
  let conf := [0, 1].filter (fun b => s.bankState b == 4)
  match [0, 1].find? (fun b => s.bankState b == 3 && decide (s.failedAttempts b < 2) && conf.all (fun c => decide (s.setgen c < s.setgen b))) with
  | some b => some b
  | none => match conf with
    | [b] => some b
    | [b, c] => if s.setgen b < s.setgen c then some c else some b
    | _ => none

/-! ### The boot array repair list (R449, R450) -/

/-- The entries of the boot array repair list that are programmed. -/
def State.repairs (s : State) : List Nat := ((List.range 64).filter (fun i => !s.optErased (24 + i))).map (fun i => (s.optWord (24 + i)).toNat)

/-- SPARE of an entry. -/
def entrySpare (e : Nat) : Nat := e / 2 ^ 16 % 256

/-- A repair entry as it is first programmed, and as its second program leaves it. -/
def entryNew (sector cause : Nat) : Word64 := BitVec.ofNat 64 (sector + cause * 2 ^ 13 + 0xFF * 2 ^ 16 + (2 ^ 40 - 1) * 2 ^ 24)
def entrySettled (sector cause spare : Nat) : Word64 :=
  BitVec.ofNat 64 (sector + cause * 2 ^ 13 + spare * 2 ^ 16 + (2 ^ 39 - 1) * 2 ^ 24)

/-- Spare sectors of a bank that no entry uses. -/
def State.freeSpares (s : State) (bank : Nat) : List Nat :=
  let used := (s.repairs.filter (fun e => e % 2 ^ 13 / 4096 == bank)).map entrySpare
  (List.range 254).filter (fun k => !used.contains k)

/-- Settle a marked sector by its region; `dead` are the sectors that fail their settlement by erasure. The result is the
entry's SPARE. -/
def State.settleSector (s : State) (sec : Nat) (dead : List Nat) : Nat × State :=
  let bank := sec / 4096
  let off := sec % 4096
  if off = 0 then (0xFF, s.writeCopy bank (s.copyWords (1 - bank)))
  else if off < 0x100 then
    if sec ∈ dead then
      match s.freeSpares bank with
      | k :: _ => (k, s.updBt (fun b => { b with remaps := spSet (fun _ => 0) b.remaps sec (k + 1) }))
      | [] => (0xFE, s.hev 0x1101 [])
    else (0xFF, s.eraseSector (sec * 4096))
  else if off < 0x200 then (0xFF, s)
  else (0xFF, s.markBank bank 4)

/-- Mark and settle one sector: its entry is programmed before and after; a full list is recorded as an event. -/
def State.markSector (s : State) (sec cause : Nat) (dead : List Nat) : State :=
  match (List.range 64).find? (fun i => s.optErased (24 + i)) with
  | none => ((s.settleSector sec dead).2).hev 0x1101 []
  | some i =>
    let r := (s.progOpt (24 + i) (entryNew sec cause)).settleSector sec dead
    r.2.progOpt (24 + i) (entrySettled sec cause r.1)

/-- The interrupted operations that a bank's log names: log address, sector and OP. -/
def State.interrupted (s : State) (bank : Nat) : List (Nat × Nat × Nat) :=
  ((List.range 512).map (fun i => logBase bank + 8 * i)).filterMap (fun a =>
    let w := s.arrWord a
    if w.n = 1 ∧ bit w.val.toNat 63 = true then some (a, bank * 4096 + w.val.toNat / 4 % 4096, w.val.toNat % 4) else none)

/-- The settle step of start-up (R449, R450): the sectors named by interrupted log entries and those whose reads failed; a
log sector that fails names an interrupted erase of itself. The log words settled take their second program, and every
remap is loaded into the hub. -/
def State.settleArray (s : State) (bad dead : List Nat) : State :=
  let names := s.interrupted 0 ++ s.interrupted 1
  let s := s.updBt (fun b => { b with remaps := [] })
  let s := s.each (s.repairs.filter (fun e => decide (entrySpare e < 254))) (fun s e =>
    s.updBt (fun b => { b with remaps := spSet (fun _ => 0) b.remaps (e % 2 ^ 13) (entrySpare e + 1) }))
  let s := s.each names (fun s p => s.endLog p.1)
  let marks := names.map (fun p => (p.2.1, p.2.2)) ++ bad.map (fun x => (x % 8192, if x % 4096 = 1 then 2 else 4))
  let firsts := marks.foldl (fun l p => if l.any (fun q => q.1 == p.1) then l else l ++ [p]) ([] : List (Nat × Nat))
  s.each firsts (fun s p => s.markSector p.1 p.2 dead)

/-! ### The DRAM repair list (R370, R451) -/

/-- A DRAM repair entry; HARDPEND is bit 63. -/
def RepRow.word (r : RepRow) : Word64 :=
  BitVec.ofNat 64 (r.sr + r.dev * 16 + r.bank * 256 + r.row * 2 ^ 13 + (2 ^ 32 - 1) * 2 ^ 31 + (if r.hard then 2 ^ 63 else 0))

def RepRow.ofWord (n : Nat) : RepRow := ⟨n % 16, n / 16 % 16, n / 256 % 32, n / 2 ^ 13 % 2 ^ 18, bit n 63⟩

/-- The rows of the DRAM repair list, with the words that hold them. -/
def State.repairRows (s : State) : List (Nat × RepRow) :=
  ((List.range 256).filter (fun i => !s.optErased (88 + i))).map (fun i => (88 + i, RepRow.ofWord (s.optWord (88 + i)).toNat))

/-- A row joins the list, while it has room. -/
def State.addRepairRow (s : State) (r : RepRow) : State :=
  match (List.range 256).find? (fun i => s.optErased (88 + i)) with
  | some i => s.progOpt (88 + i) { r with hard := true }.word
  | none => s

/-- Hard repair of every listed row that waits for it. -/
def State.hardRepairs (s : State) : State :=
  s.each (s.repairRows.filter (fun p => p.2.hard)) (fun s p => s.progOpt p.1 { p.2 with hard := false }.word)

end Sys2Proof.Machine
end

