-- ==== Sys2Proof/Machine/Sram.lean ====
section
/-! DEFINITION. The SRAM words of a half with their valid bits (R372, R373), the loading of a firmware image into the memories of its
cores and sequencers (R420, R457), and the loader's check of the sequencer microcode (R235). -/

namespace Sys2Proof.Machine

/-! ### Words and valid bits (R373) -/

/-- The valid bit of a word: the majority of its three cells. -/
def SramWord.valid (w : SramWord) : Bool := decide (2 ≤ w.cells % 2 + w.cells / 2 % 2 + w.cells / 4 % 2)

def SramWord.at_ (w : SramWord) (mac i : Nat) : Bool := w.mac == mac && w.idx == i

/-- A read of a word: its bytes, or zeros when its valid bit is 0. -/
def State.sramRead (s : State) (h : Half) (mac i : Nat) : List Byte :=
  match (s.half h).sram.find? (fun w => w.at_ mac i) with
  | some w => if w.valid then w.bytes else List.replicate 8 0
  | none => List.replicate 8 0

/-- A write of bytes of a word, by place: the others keep what a read gives, zeros where the word was not valid; the valid bit is set. -/
def State.sramWrite (s : State) (h : Half) (mac i : Nat) (bs : List (Nat × Byte)) : State :=
  let old := s.sramRead h mac i
  let new := (List.range 8).map (fun k => ((bs.find? (fun b => b.1 == k)).map (fun b => b.2)).getD (old.getD k 0))
  s.updHalf h (fun r => { r with sram := r.sram.filter (fun w => !w.at_ mac i) ++ [⟨mac, i, 7, new⟩] })

/-- A clear of every memory resets every valid bit. -/
def State.sramClear (s : State) (h : Half) : State := s.updHalf h (fun r => { r with sram := [] })

/-- A disagreement among the three cells of a word is corrected. -/
def State.sramVote (s : State) (h : Half) : State :=
  s.updHalf h (fun r => { r with sram := (r.sram.filter SramWord.valid).map (fun w => { w with cells := 7 }) })

/-- A cell of a valid bit has changed over (memory, word, cell). A word whose cells were all clear holds zeros. -/
def State.sramUpset (s : State) (h : Half) (x : Nat × Nat × Nat) : State :=
  let c := 2 ^ (x.2.2 % 3)
  let w := ((s.half h).sram.find? (fun w => w.at_ x.1 x.2.1)).getD ⟨x.1, x.2.1, 0, List.replicate 8 0⟩
  let w := { w with cells := if w.cells / c % 2 = 1 then w.cells - c else w.cells + c }
  s.updHalf h (fun r => { r with sram := r.sram.filter (fun y => !y.at_ x.1 x.2.1) ++ [w] })

/-! ### The image loader (R457) -/

/-- Instances of a target: control slice pairs, host slice cores, media slice cores, flash sequencers, regulation engines (R423). -/
def targetCount (v : Variant) (t : Nat) : Nat :=
  match t with
  | 1 => 2
  | 2 => 8
  | 3 => 4 * v.slices
  | 4 => 8 * v.slices
  | 5 => 2
  | _ => 0

/-- Bytes of a memory: 192 KiB of instruction memory, 128 KiB of data memory. A sequencer store is judged by its instructions (R235). -/
def memLimit (mem : Nat) : Option Nat := if mem = 0 then some 196608 else if mem = 1 then some 131072 else none

/-- A segment names a target and a memory of the variant, and fits in it. -/
def segOk (v : Variant) (x : FwSeg) : Bool :=
  decide (1 ≤ x.target) && decide (x.target ≤ 5) && decide (x.mem ≤ 2) &&
    (x.index == 255 || decide (x.index < targetCount v x.target)) &&
    (match memLimit x.mem with | some n => decide (x.load + x.len ≤ n) | none => true)

/-- The test of a firmware image (R457): its signature and header (`fwOk`), and its segments. -/
def fwPasses (v : Variant) (img : ImageMeta) : Bool := img.fwOk && decide (img.segs.length ≤ 64) && img.segs.all (segOk v)

/-- The memories that a segment targets: of a control slice pair, those of both cores (R420). -/
def memsOf (v : Variant) (x : FwSeg) : List Nat :=
  let is := if x.index = 255 then List.range (targetCount v x.target) else [x.index]
  let is := if x.target = 1 then is.flatMap (fun p => [2 * p, 2 * p + 1]) else is
  is.map (fun i => (x.target * 256 + i) * 4 + x.mem)

/-- The firmware image slot of a bank (R442). -/
def fwBase (bank : Nat) : Nat := 0x40_0000 + 0x100_0000 * bank

/-- A byte of the boot array. -/
def State.arrByte (s : State) (addr : Nat) : Byte := byteOf (s.arrWord (addr / 8 * 8)).val (addr % 8)

/-- A segment is read once and written to every memory that it targets in the half being loaded. -/
def State.loadSeg (s : State) (h : Half) (bank : Nat) (x : FwSeg) : State :=
  if x.len = 0 then s
  else s.each (memsOf s.variant x) (fun s mac =>
    s.each (List.range' (x.load / 8) ((x.load + x.len - 1) / 8 - x.load / 8 + 1)) (fun s i =>
      s.sramWrite h mac i (((List.range 8).filter (fun k => decide (x.load ≤ 8 * i + k) && decide (8 * i + k < x.load + x.len))).map (fun k =>
        (k, s.arrByte (fwBase bank + x.off + (8 * i + k - x.load)))))))

/-- The firmware image of a bank is loaded into a half. -/
def State.loadBank (s : State) (h : Half) (bank : Nat) (img : ImageMeta) : State := s.each img.segs (fun s x => s.loadSeg h bank x)

/-- The running firmware image is loaded into a half. -/
def State.loadImage (s : State) (h : Half) : State := s.loadBank h (s.rd Fd.BTA_STAT_RUNBANK) s.bt.run

/-! ### Sequencer microcode (R235) -/

/-- An instruction has an encoding of the table, within its limit. -/
def UStep.ok : UStep → Bool
  | .addr n => decide (1 ≤ n) && decide (n ≤ 6)
  | .wait ns => decide (1 ≤ ns) && decide (ns ≤ 65535)
  | .other => false
  | _ => true

/-- The required entry points. -/
def requiredEntries : List UEntry :=
  [.read, .multiPlaneRead, .cacheRead, .programUnit, .slcProgram, .erase, .erasedMarginRead, .status, .dieReset, .suspend, .resume,
   .featureAccess, .training, .parameterPage, .zqCalibration]

/-- The loader accepts the microcode: at most 4,096 instructions, all of the table's, and at most 64 entry points into the store, the
required ones among them. -/
def ucodeOk (u : Ucode) : Bool :=
  decide (u.store.length ≤ 4096) && decide (u.entries.length ≤ 64) && u.store.all UStep.ok &&
    u.entries.all (fun e => decide (e.2 < u.store.length)) && requiredEntries.all (fun k => u.entries.any (fun e => e.1 == k))

end Sys2Proof.Machine
end

