-- ==== Sys2Proof/Machine/Dram.lean ====
section
/-! DEFINITION. Chapter 12: the DRAM controller: ports and their regions (R348, R349), the order of requests (R350 to
R355), the merge buffer (R364), decoding and settlement (R361 to R365, R376), patrol and range scrub (R366, R367), row repair
(R368 to R370), the helpers (R360, R376, R386), refresh (R358) and the SRAM patrol (R374). -/

namespace Sys2Proof.Machine

/-! ### Ports -/

def State.ranks2 (s : State) : Bool := s.rd Fd.DRC_CFG_RANKS == 1

/-- Lines of the fitted DRAM (R344). -/
def State.dramLines (s : State) : Nat := if s.ranks2 = true ∨ s.rd Fd.DRC_CFG_DENS = 1 then 2 ^ 32 else 2 ^ 31

/-- The write-buffer region of a half (R347). -/
def wbRegion : Half → Nat
  | .a => 1
  | .b => 2

/-- The regions a port writes (R348); `act` is the active half. -/
def portWrites (act : Half) (port region : Nat) : Bool :=
  match port with
  | 0 => region == 10
  | 1 => region == wbRegion act || region == 3 || region == 4 || region == 9
  | 2 => region == 5 || region == 6
  | 3 => region == 0 || region == 7
  | 4 => region == wbRegion (otherHalf act)
  | _ => port == 5

/-- The regions a port reads (R349). -/
def portReads (act : Half) (port region : Nat) : Bool :=
  match port with
  | 1 => portWrites act 1 region || region == 7
  | 3 | 5 => true
  | _ => portWrites act port region

/-- The slice named for a refused write (DESIGN CHOICE, log entry 51): the host slice for the map and host-buffer ports,
the control slice for the others. -/
def portSlice (port : Nat) : Nat := if port = 0 ∨ port = 1 ∨ port = 4 then 4 else 5

/-- A port is present: port 4 only in the FK9640 (R385). -/
def portPresent (v : Variant) (port : Nat) : Bool := decide (port < 6) && (v.twin || port != 4)

/-- Credits that the requester of a request has left in this beat (R350). The GC port's credits are in two halves, one for each
lane of the copy datapath: lane 1 carries patrol, refresh and metadata (R64, R348). -/
def State.credLeft (s : State) (r : DReq) : Nat :=
  let credits := s.rd Fd.DRC_PORT_CREDITS r.port
  let n := spGet (fun _ => 0) s.dr.served r.port
  if r.port ≠ 2 then credits - n
  else if r.rfs then credits / 2 - s.dr.rfsServed else credits / 2 - (n - s.dr.rfsServed)

/-- Cycles since a request arrived at its port. -/
def State.elapsed (s : State) (r : DReq) : Nat := s.time.beat * 8000 + s.time.cycle - (r.beat * 8000 + r.cyc)

/-- The urgency of a request (R351). A port without a target has none. -/
def State.urgency (s : State) (r : DReq) : Nat :=
  let t := s.rd Fd.DRC_PORT_TARGET r.port
  let e := s.elapsed r
  if s.credLeft r = 0 ∨ t = 0 then 0 else if 2 * t ≤ e then 3 else if t ≤ e then 2 else if t ≤ 2 * e then 1 else 0

/-- The urgency of a port: the highest among its queued requests (R351). -/
def State.portUrgency (s : State) (port : Nat) : Nat :=
  (s.dr.queue.filter (fun r => r.port == port && !r.issued)).foldl (fun a r => max a (s.urgency r)) 0

/-- A request late against its port's target is counted (R353). -/
def State.noteLate (s : State) (r : DReq) : State :=
  let t := s.rd Fd.DRC_PORT_TARGET r.port
  if t ≠ 0 ∧ t < s.elapsed r then s.count Fd.DRC_CNT_LATE_COUNT 1 r.port else s

/-! ### The merge buffer (R364) -/

def State.noteMerge (s : State) : State := s.wr Fd.DRC_STAT_MERGE s.dr.merge.length

/-- The place of a request in the order of arrival: the read of a merge entry stands in its first request's place. -/
def State.ord (s : State) (r : DReq) : Nat :=
  match s.dr.merge.find? (fun m => m.readId == some r.id) with
  | some m => m.reqs.headD r.id
  | none => r.id

/-- A partial write takes its place in the merge buffer when it can: it joins the entry of its line when nothing else of
that line waits behind the entry, or opens one of the 32 entries, whose read it queues. -/
def State.mergeReq (s : State) (r : DReq) : State :=
  if s.dr.merge.any (fun m => m.reqs.contains r.id) then s
  else match s.dr.merge.find? (fun m => m.line == r.line) with
    | some m =>
      if s.dr.queue.any (fun q => q.line == r.line && decide (q.id < r.id) && !m.reqs.contains q.id && m.readId != some q.id &&
          !q.issued) then s
      else s.updDr (fun d => { d with
        merge := updWhere (fun x => x.line == r.line) (fun x => { x with reqs := x.reqs ++ [r.id] }) d.merge })
    | none =>
      if 32 ≤ s.dr.merge.length then s
      else
        let id := s.dr.nextReq
        (s.updDr (fun d => { d with
          nextReq := id + 1, merge := d.merge ++ [⟨r.line, [r.id], some id, false⟩],
          queue := d.queue ++ [⟨id, r.port, false, r.rfs, r.line, false, r.half, s.time.beat, s.time.cycle, false⟩] })).noteMerge

/-- Partial writes enter the merge buffer in the order they arrived. -/
def State.pumpMerge (s : State) : State :=
  s.each (s.dr.queue.filter (fun r => r.part && r.wr && !r.issued)) (fun s r => s.mergeReq r)

/-! ### Order (R352, R354, R355) -/

/-- A row repair holds a request back: its rank is out of service, but the requests queued to the row before the block
are issued (R369). -/
def State.repairHolds (s : State) (r : DReq) : Bool :=
  match s.dr.repair with
  | some (x, _, mark) =>
    lineSr s.ranks2 r.line == x.sr &&
      !(lineBank r.line == x.bank && lineRowNo s.ranks2 r.line == x.row && decide (r.id < mark))
  | none => false

/-- A request may be issued: it is a whole write, a read, or the first request of a merge entry whose read has returned;
no earlier request of its line waits, nor of its row in in-order mode. A test mode of the DRAM makes every request wait (R517). -/
def State.issuable (s : State) (r : DReq) : Bool :=
  let o := s.ord r
  !r.issued && !s.repairHolds r && !s.testRuns 4 &&
    (!(r.part && r.wr) || s.dr.merge.any (fun m => m.reqs.head? == some r.id && m.readId.isNone)) &&
    s.dr.queue.all (fun q => q.issued || decide (o ≤ s.ord q) || q.line != r.line) &&
    (!(s.dr.inOrder.any (fun p => p.1 == lineRow r.line)) ||
      s.dr.queue.all (fun q => q.issued || decide (o ≤ s.ord q) || lineRow q.line != lineRow r.line))

/-- The row of a request is open in its bank. -/
def State.rowOpen (s : State) (line : Nat) : Bool :=
  spGet (fun _ => 0) s.dr.openRows (rowBank s.ranks2 (lineRow line)) == lineRow line + 1

/-- `a` goes before `b` (R352). -/
def State.dramBefore (s : State) (a b : DReq) : Bool :=
  let la := decide (0 < s.credLeft a)
  let lb := decide (0 < s.credLeft b)
  if la != lb then la
  else
    let ua := s.portUrgency a.port
    let ub := s.portUrgency b.port
    if ua ≠ ub then decide (ub < ua)
    else if s.rowOpen a.line != s.rowOpen b.line then s.rowOpen a.line
    else decide (s.ord a < s.ord b)

/-- In-order mode ends for a row when nothing that arrived before its switch is queued (R355). -/
def State.endInOrder (s : State) : State :=
  s.updDr (fun d => { d with inOrder := d.inOrder.filter (fun p =>
    d.queue.any (fun q => !q.issued && lineRow q.line == p.1 && decide (q.id < p.2))) })

/-- A write issued to a line: poisoned when the read of its merge entry was bad, else good (R363, R364). -/
def State.lineWritten (s : State) (line : Nat) (bad : Bool) : State :=
  s.updDr (fun d => { d with
    poisoned := (d.poisoned.filter (fun l => l != line)) ++ (if bad then [line] else []), flips := spSet (fun _ => 0) d.flips line 0 })

/-- The devices that the flip mask touches (R376), bit d for device d: a ×4 device drives four lanes, device d the lanes 4d to
4d + 3 (PRESUMED, log entry 164). -/
def State.flipMask (s : State) : Nat :=
  let lanes := s.rd Fd.DRC_FLIP_LO_MASK + 2 ^ 32 * s.rd Fd.DRC_FLIP_HI_MASK
  (List.range 10).foldl (fun a d => if lanes / 16 ^ d % 16 = 0 then a else a + 2 ^ d) 0

/-- The first whole-line write of the firmware port to subchannel SUB after ARM has the lanes of the flip mask inverted in one
burst beat, one symbol of each device touched; then ARM clears (R376). -/
def State.flip (s : State) (r : DReq) : State :=
  if r.port = 3 ∧ r.part = false ∧ s.rd Fd.DRC_FLIPCTRL_ARM = 1 ∧
      2 * lineChan r.line + lineSub r.line = s.rd Fd.DRC_FLIPCTRL_SUB then
    (s.updDr (fun d => { d with flips := spSet (fun _ => 0) d.flips r.line s.flipMask })).wr Fd.DRC_FLIPCTRL_ARM 0
  else s

/-- A request is issued (R350, R353, R356): it costs its port a credit and opens its row; a write is acknowledged and
leaves the queue, with every request of its merge entry; a read waits for its data. -/
def State.issueReq (s : State) (r : DReq) : State :=
  let n := spGet (fun _ => 0) s.dr.served r.port
  let bank := rowBank s.ranks2 (lineRow r.line)
  let s := s.updDr (fun d => { d with
    served := spSet (fun _ => 0) d.served r.port (n + 1), rfsServed := d.rfsServed + boolNat (r.port == 2 && r.rfs),
    openRows := spSet (fun _ => 0) d.openRows bank (lineRow r.line + 1) })
  let s := if r.wr = false then
      s.updDr (fun d => { d with queue := updWhere (fun q => q.id == r.id) (fun q => { q with issued := true }) d.queue })
    else
      let m := s.dr.merge.find? (fun m => m.reqs.contains r.id)
      let gone := match m with | some m => m.reqs | none => [r.id]
      let s := s.each (s.dr.queue.filter (fun q => gone.contains q.id)) (fun s q => s.noteLate q)
      let s := s.updDr (fun d => { d with
        queue := d.queue.filter (fun q => !gone.contains q.id), merge := d.merge.filter (fun x => x.line != r.line || r.part == false) })
      ((s.lineWritten r.line ((m.map (fun m => m.bad)).getD false)).flip r).noteMerge
  s.endInOrder.pumpMerge

/-- DRAM_COMMAND_ISSUE (R350 to R356): one command opportunity; the hub's refresh, refresh management or calibration
comes first. -/
def execDramCommandIssue (hubDue : Bool) (s : State) : Host.Outcome State Fault Refusal :=
  .next (if hubDue then s
    else match firstBy s.dramBefore (s.dr.queue.filter (fun r => s.issuable r)) with
      | some r => s.issueReq r
      | none => s)

/-- DRAM_REQUEST_ARRIVAL (R27, R64, R349, R355, R364): half `h` presents a request, `rfs` when it is one of patrol, refresh or
metadata. A request outside its port's regions is refused. So is one of a half at a port that is not its own: the mirror port is the
standby half's only one, and a write at another port is a control fault of that half (DEDUCED, log entry 163). A read that
meets an earlier queued write of its line in an open row switches the row to in-order mode. -/
def execDramRequestArrival (port : Nat) (wr : Bool) (line : Nat) (part : Bool) (h : Half) (rfs : Bool) (s : State) :
    Host.Outcome State Fault Refusal :=
  .next (match s.active with
    | none => s
    | some act =>
      if portPresent s.variant port = false ∨ (s.variant.twin = false ∧ h = .b) then s
      else if (h = act) = (port = 4) then (if wr then s.controlFault h 12 (portSlice port) else s)
      else if wr = true ∧ portWrites act port (dramRegion line) = false then
        s.controlFault (if port = 4 then otherHalf act else act) 12 (portSlice port)
      else if wr = false ∧ portReads act port (dramRegion line) = false then s
      else
        let id := s.dr.nextReq
        let switch := !wr && s.rowOpen line && s.dr.queue.any (fun q => q.wr && !q.issued && q.line == line) &&
          !(s.dr.inOrder.any (fun p => p.1 == lineRow line))
        let s := s.updDr (fun d => { d with
          nextReq := id + 1, queue := d.queue ++ [⟨id, port, wr, rfs, line, part, h, s.time.beat, s.time.cycle, false⟩] })
        let s := if switch then
            (s.updDr (fun d => { d with inOrder := d.inOrder ++ [(lineRow line, id)] })).count Fd.DRC_CNT_INORDER_COUNT
          else s
        s.pumpMerge)

/-- MAPWAIT_PUBLISH (R353): every 64 cycles; the read that a merge entry makes for itself is no request of the port. -/
def execMapwaitPublish (s : State) : Host.Outcome State Fault Refusal :=
  .next (match s.dr.queue.filter (fun r => r.port == 0 && !r.issued && !s.dr.merge.any (fun m => m.readId == some r.id)) with
    | [] => s.wr Fd.DRC_MAPWAIT_EST 0
    | r :: more => s.wr Fd.DRC_MAPWAIT_EST (min 65535 (s.elapsed r + 16 * more.length)))

/-! ### Corrected and uncorrectable lines -/

/-- Lines found corrected on a device of a subchannel and rank in this pass (R362). -/
def State.devLines (s : State) (sr dev : Nat) : Nat :=
  (s.dr.rowSeen.filter (fun x => x.1 == sr && x.2.1 == dev)).length

/-- DRC_DEVSTAT of a subchannel and rank: the failed device, or the one with the most corrected lines. -/
def State.noteDev (s : State) (sr : Nat) : State :=
  let dev := if s.rd Fd.DRC_DEVSTAT_FAILED sr = 1 then s.rd Fd.DRC_DEVSTAT_DEVICE sr
    else (List.range 10).foldl (fun a d => if s.devLines sr a < s.devLines sr d then d else a) 0
  (s.wr Fd.DRC_DEVSTAT_DEVICE dev sr).wr Fd.DRC_DEVSTAT_CORR (min 65535 (s.devLines sr dev)) sr

/-- A device whose count has reached DEVTHR is marked failed until power-on reset (R362). -/
def State.markDevice (s : State) (sr dev : Nat) : State :=
  if s.rd Fd.DRC_DEVSTAT_FAILED sr = 0 ∧ s.rd Fd.DRC_ECCCFG_DEVTHR ≤ s.devLines sr dev then
    (((s.wr Fd.DRC_DEVSTAT_FAILED 1 sr).wr Fd.DRC_DEVSTAT_DEVICE dev sr).wr Fd.DRC_STAT_ERASURE 1).aev 0 0x0B03 []
  else s

/-- DEVICE_MARKED_FAILED (R362). -/
def execDeviceMarkedFailed (sr dev : Nat) (s : State) : Host.Outcome State Fault Refusal := .next (s.markDevice sr dev)

/-- A corrected line (R361, R362, R368): counted once, and entered once a pass under each device that held a corrected symbol,
and under its row. -/
def State.noteCorrected (s : State) (line : Nat) (devs : List Nat) : State :=
  let sr := lineSr s.ranks2 line
  let bank := lineBank line
  let row := lineRowNo s.ranks2 line
  s.each devs (fun s dev =>
    let s := s.updDr (fun d => { d with rowSeen := addOnce (sr, dev, bank, row, line) d.rowSeen })
    (s.noteDev sr).markDevice sr dev) |>.count Fd.DRC_CNT_CORR_COUNT

/-- The element of a list that a free value picks: which one the manual does not say. -/
def State.pickFree {α : Type} (s : State) (l : List α) : Option α × State :=
  if l.isEmpty then (none, s) else (l[s.free.1 % l.length]?, s.free.2)

/-- The write-buffer copy that lies on a line is bad: its sectors carry the poison tag in that copy (R365). -/
def State.poisonUnit (s : State) (line : Nat) : State :=
  let u := (line * 64 - 0x4000_0000) % 0x1000_0000 / 4096
  let prim := dramRegion line == wbRegion s.act
  s.updTr (fun t => { t with vers := updWhere (fun v => v.units.contains u) (fun v =>
    if prim then { v with primBad := true } else { v with mirrorBad := v.mirrorBad || v.mirror }) t.vers })

/-- A relocation that waits for a program unit is read again from its source (R365, step 2 of R208). -/
def State.recopyWaiting (s : State) (p : Placed) : State :=
  (s.updMd (fun m => { m with copies := m.copies.erase p })).recopy p

/-- The parity of an open stripe of a kind of stream is formed again from the stripe's programmed members, as R206 does (R365);
which open stripe the line belongs to is not stated: a free value. -/
def State.recomputeParity (s : State) (host : Bool) : State :=
  match s.pickFree (s.md.sbs.filter (fun x => x.st == .open_ && s.stripeOpen x && (x.stream.kind.1 == 0) == host)) with
  | (some x, s) => if s.stripeClosing x.id then s else (s.setPartial x.id []).readMembers x
  | (none, s) => s

/-- The deltas that confirmed delta pages and the ledger hold, in sequence order (R193 steps 2 and 3), but those whose map writes are
still to be carried out. -/
def State.allDeltas (s : State) : List (Nat × Nat × MapEntry) :=
  (s.tr.pages.flatMap (fun p => p.deltas) ++ s.pageDeltas s.tr.mseq).filter (fun d => s.tr.mapq.all (fun w => w.mseq != d.1))

/-- The value that marks a tart as lost (R166). -/
def lostEntry : MapEntry := ⟨lostPpa, 0, true, false⟩

/-- A segment that has been copied, and none of whose two newest copies passes its check, is lost (R193 step 4). -/
def State.segLost (s : State) (seg : Nat) : Bool :=
  let cs := s.tr.segs.filter (fun c => c.seg == seg)
  !cs.isEmpty && cs.all (fun c => c.bad)

/-- Steps 1 to 4 of R193 for one segment, into map `m`: the newest copy whose check passes, or the lost value in every entry; then
the deltas that the copy does not hold. A segment of which no copy has been written yet has only its deltas (DESIGN CHOICE, log
entry 101). -/
def State.rebuildSeg (s : State) (seg : Nat) (m : Sparse MapEntry) : Sparse MapEntry :=
  let set := fun (m : Sparse MapEntry) l e => spSet (fun _ => .init) m l e
  let ds := s.allDeltas.filter (fun d => d.2.1 / 3200 == seg)
  match s.tr.segs.find? (fun c => c.seg == seg && !c.bad) with
  | some c =>
    let m := c.entries.foldl (fun m p => set m p.1 p.2) m
    (ds.filter (fun d => decide (c.next ≤ d.1))).foldl (fun m d => set m d.2.1 d.2.2) m
  | none =>
    let m := if s.segLost seg then (List.range' (3200 * seg) 3200).foldl (fun m l => set m l lostEntry) m else m
    ds.foldl (fun m d => set m d.2.1 d.2.2) m

/-- An uncorrectable line of the map: its segment is rebuilt as at start-up (R365). -/
def State.settleSeg (s : State) (seg : Nat) : State :=
  (s.updTr (fun t => { t with map := s.rebuildSeg seg (spClear t.map (3200 * seg) (3200 * seg + 3200)) })).updDr (fun d => { d with
    rebuild := addOnce seg d.rebuild })

/-- The settlement of an uncorrectable or poisoned read by its region (R365). A rebuilt block table word holds
what it held; lookups and writes of a map segment wait until the next boundary (DESIGN CHOICE, log entry 52). Which staged tart or
relocation a line belongs to is not stated: a free value. -/
def State.settleLine (s : State) (line : Nat) : State :=
  match dramRegion line with
  | 0 => if blockTableLine line then s else (match s.active with | some h => s.controlFault h 12 5 | none => s)
  | 1 | 2 => s.poisonUnit line
  | 3 => match s.pickFree s.tr.staged with
    | (some g, s) => s.dropStaged g
    | (none, s) => s
  | 4 => s.recomputeParity true
  | 5 => s.recomputeParity false
  | 6 => match s.pickFree s.md.copies with
    | (some p, s) => s.recopyWaiting p
    | (none, s) => s
  | 7 => s.copyRom
  | 9 => s.updDr (fun d => { d with poisoned := addOnce line d.poisoned })
  | 10 => s.settleSeg ((line * 64 - 0x2_0000_0000) / 16000)
  | _ => s

/-- How a DRAM line decodes (R361): clean; corrected, with the devices that held a corrected symbol; uncorrectable; or carrying
the poison pattern (R363). -/
inductive LineRes where
  | clean
  | corrected (devs : List Nat)
  | uncorrectable
  | poisoned
  deriving DecidableEq, Repr

/-- The symbols in error of a line by device, of the 8 that each of the ten devices carries: those the DRAM shows, and the symbol
of each device that the flip mask inverted (R361, R376). -/
def State.symErrs (s : State) (line : Nat) (errs : List (Nat × Nat)) : List (Nat × Nat) :=
  let mask := spGet (fun _ => 0) s.dr.flips line
  ((List.range 10).map (fun d =>
    (d, min 8 ((errs.filter (fun e => e.1 == d)).foldl (fun a e => a + e.2) (mask / 2 ^ d % 2))))).filter (fun e => e.2 != 0)

/-- The decoder (R361, R363): a poisoned line is reported so; else any 8 symbol errors are corrected, or the 8 erasures of a
device marked failed together with up to 4 further symbol errors. A poisoned line with further errors is reported poisoned (DESIGN
CHOICE, log entry 164). -/
def State.decodeLine (s : State) (line : Nat) (errs : List (Nat × Nat)) : LineRes :=
  let sr := lineSr s.ranks2 line
  let es := s.symErrs line errs
  let failed := if s.rd Fd.DRC_DEVSTAT_FAILED sr = 1 then some (s.rd Fd.DRC_DEVSTAT_DEVICE sr) else none
  let n := (es.filter (fun e => failed != some e.1)).foldl (fun (a : Nat) e => a + e.2) 0
  if s.dr.poisoned.contains line then .poisoned
  else if es.isEmpty then .clean
  else if n ≤ 4 ∨ (failed.isNone = true ∧ n ≤ 8) then .corrected (es.map (fun e => e.1)) else .uncorrectable

/-- What a line's decode leaves in the counters. -/
def State.countLine (s : State) (line : Nat) : LineRes → State
  | .clean => s
  | .corrected devs => s.noteCorrected line devs
  | .uncorrectable => s.count Fd.DRC_CNT_UNCORR_COUNT
  | .poisoned => s

def LineRes.bad : LineRes → Bool
  | .uncorrectable | .poisoned => true
  | _ => false

/-- DRAM_READ_RETURN (R353, R361 to R365): the data of an issued read. The read of a merge entry makes its write ready,
poisoned when it is bad; a bad read is settled by its region. `errs` are the symbols in error, by device. -/
def execDramReadReturn (id : Nat) (errs : List (Nat × Nat)) (s : State) : Host.Outcome State Fault Refusal :=
  .next (match s.dr.queue.find? (fun r => r.id == id && r.issued) with
    | none => s
    | some r =>
      let s := (s.noteLate r).updDr (fun d => { d with queue := d.queue.filter (fun q => q.id != id) })
      let res := s.decodeLine r.line errs
      let s := s.countLine r.line res
      let back (m : Merge) : Merge := { m with readId := none, bad := LineRes.bad res }
      let s := s.updDr (fun d => { d with merge := updWhere (fun m => m.readId == some id) back d.merge })
      if LineRes.bad res then s.settleLine r.line else s)

/-! ### Refresh (R358) -/

/-- The rank of a repair is out of service; its refreshes are postponed to the end of the repair (R369). -/
def State.postponed (s : State) (sr : Nat) : Bool :=
  match s.dr.repair with | some (x, _, _) => x.sr == sr | none => false

/-- DRAM_REFRESH (R358): the hub issues a refresh (kind 0), a refresh-management command (1) or a ZQ calibration (2) of a
subchannel and rank, in every state of the halves. -/
def execDramRefresh (kind sr : Nat) (s : State) : Host.Outcome State Fault Refusal :=
  .next (
    let n := spGet (fun _ => 0) s.dr.refreshes (16 * kind + sr)
    if s.postponed sr then
      s.updDr (fun d => { d with postponed := spSet (fun _ => 0) d.postponed (16 * kind + sr) (spGet (fun _ => 0) d.postponed (16 * kind + sr) + 1) })
    else if s.testRuns 4 = true ∧ s.rd Fd.TST_CTRL_DEPTH < 2 then s
    else s.updDr (fun d => { d with refreshes := spSet (fun _ => 0) d.refreshes (16 * kind + sr) (n + 1) }))

/-! ### Patrol and range scrub (R366, R367) -/

/-- The patrol's pass ends: PASSES, and the counts of the pass begin again (R362, R366). -/
def State.endPass (s : State) : State :=
  let s := (s.count Fd.DRC_PATROLSTAT_PASSES).updDr (fun d => { d with patrolAt := 0, rowSeen := [] })
  s.each (List.range 16) (fun s sr => s.wr Fd.DRC_DEVSTAT_CORR 0 sr)

/-- What the patrol or a scrub does with a line it has read: a corrected line is rewritten; an uncorrectable one is an
event that names its address; the map's and partial parity's are settled at once (R365). -/
def State.patrolLine (s : State) (line : Nat) (res : LineRes) : State :=
  let n := spGet (fun _ => 0) s.dr.served 5
  let s := s.updDr (fun d => { d with served := spSet (fun _ => 0) d.served 5 (n + 1) })
  let s := s.countLine line res
  let s := match res with
    | .corrected _ => s.updDr (fun d => { d with flips := spSet (fun _ => 0) d.flips line 0 })
    | .uncorrectable => s.aev 0 0x0B04 [line * 64]
    | _ => s
  let r := dramRegion line
  if LineRes.bad res = true ∧ (r = 4 ∨ r = 5 ∨ r = 10) then s.settleLine line else s

/-- A scrub's counts with one more line. -/
def DScrub.add (x : DScrub) (sr : Nat) (res : LineRes) : DScrub :=
  let x := { x with next := x.next + 1 }
  match res with
  | .clean => x
  | .corrected devs =>
    let one := fun (w : Sparse Nat) dev => spSet (fun _ => 0) w (16 * sr + dev) (spGet (fun _ => 0) w (16 * sr + dev) + 1)
    { x with corrected := x.corrected + 1, worst := devs.foldl one x.worst }
  | .uncorrectable => { x with uncorr := x.uncorr + 1 }
  | .poisoned => { x with poisoned := x.poisoned + 1 }

/-- DRAM_PATROL_READ (R366, R367): the next line of the scrub in progress, or else of the patrol. -/
def execDramPatrolRead (line : Nat) (errs : List (Nat × Nat)) (s : State) : Host.Outcome State Fault Refusal :=
  let res := s.decodeLine line errs
  .next (if s.withdrawn then s else match s.dr.scrub with
    | some x =>
      if line = x.next ∧ x.next < x.start + x.count then
        let s := (s.patrolLine line res).updDr (fun d => { d with scrub := d.scrub.map (fun x => DScrub.add x (lineSr s.ranks2 line) res) })
        s.wr Fd.DRC_SCRUBSTAT_PROGRESS (min 255 (256 * (x.next + 1 - x.start) / x.count))
      else s
    | none =>
      if line = s.dr.patrolAt ∧ line < s.dramLines then
        let s := (s.patrolLine line res).updDr (fun d => { d with patrolAt := line + 1 })
        let s := if line + 1 = s.dramLines then s.endPass else s
        s.wr Fd.DRC_PATROLSTAT_PROGRESS (min 1023 (1024 * s.dr.patrolAt / s.dramLines))
      else s)

/-- Why a scrub is refused (R367). -/
def State.dscrubRefusal (s : State) : Option Nat :=
  let count := s.rd Fd.DRC_SCRUBCOUNT_LINES
  if s.dr.scrub.isSome then some 1 else if count = 0 then some 2
  else if s.dramLines < s.rd Fd.DRC_SCRUBSTART_LINES + count then some 3 else none

/-- A write of DRC_SCRUBCTRL with GO (R367). -/
def State.dscrubGo (s : State) (m val : Nat) : State :=
  let s := s.wr Fd.DRC_SCRUBCTRL_ID (val / 2 ^ 16)
  if bit val 0 = false then s
  else match s.dscrubRefusal with
    | some r =>
      ((s.wr Fd.DRC_SCRUBSTAT_REJECT 1).wr Fd.DRC_SCRUBSTAT_REASON r).discarded s.act m Blk.DRC Reg.DRC_SCRUBCTRL.off val
    | none =>
      let start := s.rd Fd.DRC_SCRUBSTART_LINES
      ((s.wr Fd.DRC_SCRUBSTAT_BUSY 1).wr Fd.DRC_SCRUBSTAT_PROGRESS 0).updDr (fun d => { d with
        scrub := some ⟨val / 2 ^ 16 % 2 ^ 16, start, s.rd Fd.DRC_SCRUBCOUNT_LINES, start, s.time.beat, false, 0, 0, 0, 0, []⟩ })

/-- DRAM_SCRUB_GO (R367). -/
def execDramScrubGo (m val : Nat) (s : State) : Host.Outcome State Fault Refusal := .next (s.dscrubGo m val)

/-- CANCEL of the scrub in progress (R367). -/
def State.dscrubCancel (s : State) : State :=
  s.updDr (fun d => { d with scrub := d.scrub.map (fun x => { x with cancel := true }) })

/-- DRAM_SCRUB_CANCEL (R367). -/
def execDramScrubCancel (_m : Nat) (s : State) : Host.Outcome State Fault Refusal := .next s.dscrubCancel

/-- The device and the subchannel and rank with the most corrected lines: WORST. -/
def DScrub.worstByte (x : DScrub) : Nat :=
  match x.worst.foldl (fun a p => if (match a with | some q => q.2 | none => 0) < p.2 then some p else a) none with
  | some p => p.1 % 16 + p.1 / 16 * 16
  | none => 0

/-- The summary record as eight words (R367). -/
def DScrub.words (x : DScrub) (status now : Nat) : List Nat :=
  [x.id + status * 2 ^ 16 + DScrub.worstByte x * 2 ^ 24, x.start, x.count, x.corrected, x.uncorr, x.poisoned, x.repairs,
   (now - x.begun) % 2 ^ 32]

/-- A scrub ends (R367): its summary in DRC_SUM, DONE, and an event that holds it. -/
def State.endDScrub (s : State) (x : DScrub) (status : Nat) : State :=
  let ws := DScrub.words x status s.time.beat
  let s := s.updDr (fun d => { d with scrub := none })
  let s := s.each (ws.zip (List.range 8)) (fun s w => s.wr Fd.DRC_SUM_WORD w.1 w.2)
  ((s.wr Fd.DRC_SCRUBSTAT_BUSY 0).wr Fd.DRC_SCRUBSTAT_DONE 1).aev 0 0x0B05 (summaryArgs ws)

/-- DRAM_SCRUB_END (R367): at the end of the range, or at the bar boundary after CANCEL. -/
def execDramScrubEnd (s : State) : Host.Outcome State Fault Refusal :=
  .next (match s.dr.scrub with
    | some x =>
      if x.cancel = true ∧ s.atBar = true then s.endDScrub x 1
      else if x.start + x.count ≤ x.next then s.endDScrub x 0 else s
    | none => s)

/-! ### Row repair (R368 to R370) -/

/-- LISTED and HARDPEND of DRC_PPRSTAT. -/
def State.noteRepairs (s : State) : State :=
  (s.wr Fd.DRC_PPRSTAT_LISTED s.repairRows.length).wr Fd.DRC_PPRSTAT_HARDPEND (s.repairRows.filter (fun p => p.2.hard)).length

/-- The row joins the repair list, which holds at most 256 rows (R370); its hard repair is pending. -/
def State.listRow (s : State) (x : RepRow) : State :=
  (s.addRepairRow x).noteRepairs

/-- Repair in service is possible in this device: INSVC, and a soft repair time within 1 to 4 beats (R369). -/
def State.inService (s : State) : Bool :=
  s.rd Fd.DRC_PPRCFG_INSVC == 1 && decide (1 ≤ s.rd Fd.DRC_PPRCFG_PGMBEATS) && decide (s.rd Fd.DRC_PPRCFG_PGMBEATS ≤ 4)

/-- Distinct corrected lines of a row on a device in this pass (R368). -/
def State.rowLines (s : State) (sr dev bank row : Nat) : Nat :=
  (s.dr.rowSeen.filter (fun x => x.1 == sr && x.2.1 == dev && x.2.2.1 == bank && x.2.2.2.1 == row)).length

def RepRow.same (a b : RepRow) : Bool := a.sr == b.sr && a.dev == b.dev && a.bank == b.bank && a.row == b.row

/-- A row is queued, listed or in repair. -/
def State.rowKnown (s : State) (x : RepRow) : Bool :=
  (s.dr.repairQ ++ s.repairRows.map (fun p => p.2)).any (fun y => RepRow.same x y) ||
    (match s.dr.repair with | some (y, _, _) => RepRow.same x y | none => false)

/-- ROW_REPAIR_QUEUED (R368, R369): a row that has reached ROWTHR. With no resource free it sets EXHAUST; where repair in
service is not possible it joins the repair list at once. -/
def execRowRepairQueued (sr dev bank row : Nat) (free : Bool) (s : State) : Host.Outcome State Fault Refusal :=
  .next (
    let x : RepRow := ⟨sr, dev, bank, row, false⟩
    if s.rowLines sr dev bank row < s.rd Fd.DRC_PPRCFG_ROWTHR ∨ s.rowKnown x = true then s
    else if free = false then
      (if s.rd Fd.DRC_PPRSTAT_EXHAUST = 1 then s else (s.wr Fd.DRC_PPRSTAT_EXHAUST 1).aev 0 0x0B06 [])
    else
      let s := s.updDr (fun d => { d with scrub := d.scrub.map (fun y => { y with repairs := y.repairs + 1 }) })
      if s.inService then s.updDr (fun d => { d with repairQ := d.repairQ ++ [x] }) else s.listRow x)

/-- ROW_REPAIR_START (R369): the first queued row, when every condition holds. -/
def execRowRepairStart (s : State) : Host.Outcome State Fault Refusal :=
  .next (match s.dr.repairQ with
    | x :: rest =>
      if s.inService = true ∧ s.holdReady = true ∧ s.dr.repair.isNone = true then
        (s.updDr (fun d => { d with repairQ := rest, repair := some (x, s.time.beat, d.nextReq) })).wr Fd.DRC_STAT_REPAIR 1
      else s
    | [] => s)

/-- A line of the row under repair, read in step 2 and written back in step 5 with fresh check bytes (R369): poisoned when it
was uncorrectable or poisoned. -/
def State.repairLine (s : State) (line : Nat) (errs : List (Nat × Nat)) : State :=
  let res := s.decodeLine line errs
  (s.countLine line res).lineWritten line (LineRes.bad res)

/-- The 128 lines of a row (R346). -/
def State.rowLinesOf (s : State) (x : RepRow) : List Nat :=
  let base := (if s.ranks2 then x.row * 2 ^ 16 + x.sr % 2 * 2 ^ 15 else x.row * 2 ^ 15) + x.bank * 2 ^ 10
  (List.range 128).map (fun k => base + k / 4 * 32 + x.sr / 4 * 8 + x.sr / 2 % 2 * 4 + k % 4)

/-- The hub issues the refreshes that a repair postponed (R369 step 6). -/
def State.issuePostponed (s : State) : State :=
  s.updDr (fun d => { d with
    refreshes := d.postponed.foldl (fun m p => spSet (fun _ => 0) m p.1 (spGet (fun _ => 0) m p.1 + p.2)) d.refreshes, postponed := [] })

/-- ROW_REPAIR_END (R369): after PGMBEATS beats the lines of the row are written back, the row is listed and counted, and an
event; `reads` are the symbols in error of the lines that step 2 found not clean. -/
def execRowRepairEnd (reads : List (Nat × List (Nat × Nat))) (s : State) : Host.Outcome State Fault Refusal :=
  .next (match s.dr.repair with
    | some (x, at_, _) =>
      if at_ + s.rd Fd.DRC_PPRCFG_PGMBEATS ≤ s.time.beat then
        let s := s.each (s.rowLinesOf x) (fun s l => s.repairLine l ((reads.filter (fun r => r.1 == l)).flatMap (fun r => r.2)))
        let s := s.issuePostponed.updDr (fun d => { d with repair := none })
        (((s.wr Fd.DRC_STAT_REPAIR 0).listRow x).count Fd.DRC_CNT_PPR_COUNT).aev 0 0x0B06 []
      else s
    | none => s)

/-! ### The helper, mode registers and the flip mask -/

/-- A write of DRC_PATCTRL (R360): GO is refused while SERVICE is 1. -/
def State.helperWrite (s : State) (m val : Nat) : State :=
  let s := (((s.wr Fd.DRC_PATCTRL_MODE (val / 2)).wr Fd.DRC_PATCTRL_PATTERN (val / 8)).wr Fd.DRC_PATCTRL_RAW (val / 64)).wr
    Fd.DRC_PATCTRL_SUBRANK (val / 256)
  let s := s.wr Fd.DRC_PATCTRL_SEED (val / 65536)
  let s := if bit val 13 then s.wr Fd.DRC_PATCTRL_DONE 0 else s
  let s := if bit val 14 then s.wr Fd.DRC_PATCTRL_REFUSED 0 else s
  if bit val 0 = false ∨ s.rd Fd.DRC_PATCTRL_BUSY = 1 then s
  else if s.rd Fd.DRC_CFG_SERVICE = 1 then
    (s.wr Fd.DRC_PATCTRL_REFUSED 1).discarded s.act m Blk.DRC Reg.DRC_PATCTRL.off val
  else s.wr Fd.DRC_PATCTRL_BUSY 1

/-- HELPER_GO (R360). -/
def execHelperGo (m val : Nat) (s : State) : Host.Outcome State Fault Refusal := .next (s.helperWrite m val)

/-- HELPER_DONE (R360, R386): the lanes in error, the bit errors and the first failing line of the run. -/
def execHelperDone (lanes errs first : Nat) (s : State) : Host.Outcome State Fault Refusal :=
  .next (if s.rd Fd.DRC_PATCTRL_BUSY = 0 then s
    else
      let s := (s.wr Fd.DRC_PATCTRL_BUSY 0).wr Fd.DRC_PATCTRL_DONE 1
      let s := (s.wr Fd.DRC_PATERR_LO_LANES lanes).wr Fd.DRC_PATERR_HI_LANES (lanes / 2 ^ 32)
      (s.wr Fd.DRC_PATERR_HI_COUNT (min (2 ^ 24 - 1) errs)).wr Fd.DRC_PATADDR_LINE first)

/-- The devices that DEV names: 0 to 9, or all with 0xF. -/
def mrDevices (dev : Nat) : List Nat := if dev = 15 then List.range 10 else if dev < 10 then [dev] else []

def mrKey (sr dev mr : Nat) : Nat := (sr * 16 + dev) * 256 + mr

/-- The fields of a write of DRC_MRCMD. -/
def State.mrFields (s : State) (mr data sr dev op : Nat) : State :=
  ((((s.wr Fd.DRC_MRCMD_MR mr).wr Fd.DRC_MRCMD_DATA data).wr Fd.DRC_MRCMD_SUBRANK sr).wr Fd.DRC_MRCMD_DEV dev).wr Fd.DRC_MRCMD_OP op

/-- DEV names a device, or all (R386, R548). -/
def mrDevOk (dev : Nat) : Bool := decide (dev < 10) || dev == 15

/-- The access names a device that does not exist: the write is discarded and recorded (R548). -/
def State.mrRefused (s : State) (m mr data sr dev op : Nat) : State :=
  s.discarded s.act m Blk.DRC Reg.DRC_MRCMD.off (mr + data * 2 ^ 8 + sr * 2 ^ 16 + dev * 2 ^ 20 + op * 2 ^ 24)

/-- A mode register write: the access completes at once (R386). -/
def State.mrWrite (s : State) (m mr data sr dev : Nat) : State :=
  if mrDevOk dev = false then s.mrRefused m mr data sr dev 1 else
  (s.mrFields mr data sr dev 1).updDr (fun d => { d with
    modeRegs := (mrDevices dev).foldl (fun l k => spSet (fun _ => 0) l (mrKey sr k mr) (data % 256 + 1)) d.modeRegs })

/-- A mode register read: the value last written; of a register never written, or of all devices at once, a free value. -/
def State.mrRead (s : State) (m mr data sr dev : Nat) : State :=
  if mrDevOk dev = false then s.mrRefused m mr data sr dev 2 else
  let v := if dev < 10 then spGet (fun _ => 0) s.dr.modeRegs (mrKey sr dev mr) else 0
  let s := s.mrFields mr data sr dev 2
  if v = 0 then s.free.2.wr Fd.DRC_MRCMD_DATA (s.free.1 % 256) else s.wr Fd.DRC_MRCMD_DATA (v - 1)

/-- MODE_REGISTER_WRITE (R386). -/
def execModeRegisterWrite (m mr data sr dev : Nat) (s : State) : Host.Outcome State Fault Refusal :=
  .next (s.mrWrite m (mr % 256) data (sr % 16) (dev % 16))

/-- MODE_REGISTER_READ (R386). -/
def execModeRegisterRead (m mr sr dev : Nat) (s : State) : Host.Outcome State Fault Refusal :=
  .next (s.mrRead m (mr % 256) (s.rd Fd.DRC_MRCMD_DATA) (sr % 16) (dev % 16))

/-- A write of DRC_FLIPCTRL (R376). -/
def State.flipWrite (s : State) (val : Nat) : State :=
  let s := (s.wr Fd.DRC_FLIPCTRL_SUB (val / 2)).wr Fd.DRC_FLIPCTRL_BEAT (val / 16)
  if bit val 0 then s.wr Fd.DRC_FLIPCTRL_ARM 1 else s

/-- FLIP_ARM (R376). -/
def execFlipArm (_m val : Nat) (s : State) : Host.Outcome State Fault Refusal := .next (s.flipWrite val)

/-! ### The SRAM patrol (R374) -/

/-- A sector of a command's data takes the poison tag. -/
def State.poisonBuffer (s : State) (ctx sector : Nat) : State :=
  s.updCtx ctx (fun c => { c with data := c.data.map (fun p => if p.1 = sector then (p.1, { p.2 with tag := .poison }) else p) })

/-- SRAM_PATROL (R372, R373, R374): the cells of valid bits that have changed over are outvoted; corrected bytes are counted; an
uncorrectable byte in a buffer poisons its sector, any other is a control fault of the half. -/
def execSramPatrol (h : Half) (corr : Nat) (unc : Option SramHit) (cells : List (Nat × Nat × Nat)) (s : State) :
    Host.Outcome State Fault Refusal :=
  .next (if s.runs h = false then s
    else
      let s := (s.each cells (fun s x => s.sramUpset h x)).sramVote h
      let s := s.count Fd.SAF_CNT_SRAMCORR_COUNT corr
      match unc with
      | none => s
      | some (.buffer ctx sector) => (s.count Fd.SAF_CNT_SRAMUNC_COUNT).poisonBuffer ctx sector
      | some (.other slice) => (s.count Fd.SAF_CNT_SRAMUNC_COUNT).controlFault h 6 slice)

end Sys2Proof.Machine
end

