-- ==== Sys2Proof/Machine/Twin.lean ====
section
/-! DEFINITION. Chapter 13: shadowing and synchronisation (R390 to R393), renewal of the clapper (R394 to R397), the role
change and its settlement (R34, R190, R213, R398 to R403), swap drills (R404 to R406), restoring a half (R407, R408),
faults (R412) and the fenced state (R413 to R415). LEASE_LAPSE stands in Startup.lean. -/

namespace Sys2Proof.Machine

/-! ### Shadowing -/

/-- The half that receives the shadow: STANDBY or SYNCING. -/
def State.shadowed (s : State) : Option Half :=
  [Half.a, Half.b].find? (fun h => ((s.half h).st == .standby || (s.half h).st == .syncing) && s.hub.holder != some h)

/-- The closing state of a beat, as the record carries it. -/
def State.closing (s : State) : Shadow :=
  ⟨s.time.beat, s.lg.jseq, s.nv.sqs, s.nv.grants, s.nv.ctxs.map (fun c => c.id)⟩

/-- A shadow fault (R391, R412): counted and recorded, and the half enters SYNCING. A withdrawn device suspends it (R524). -/
def State.shadowFault (s : State) (h : Half) : State :=
  if s.withdrawn then s
  else
  let s := (s.recordFault h 3 10 5 true).count Fd.SAF_CNT_SHADOW_COUNT
  (s.enterState h .syncing).updHalf h (fun r => { r with shadow := none, bulk := false })

/-- A half enters SYNCING from LOADING: the bulk copy begins with the fetch positions as they are now (R33, R393). -/
def State.beginSync (s : State) (h : Half) : State :=
  (s.enterState h .syncing).updHalf h (fun r => { r with heads := positions s.nv.grants s.nv.sqs })

/-- A half applies a record (R391): the fetch positions it holds are the record's, and completions of entries before them need no
note any more (R33, R35). -/
def State.applyRecord (s : State) (h : Half) (r : Shadow) : State :=
  let ps := positions r.grants r.sqs
  (s.updHalf h (fun x => { x with shadow := some r, heads := ps, arrived := true, bulk := true })).updNv (fun n => { n with
    posted := n.posted.filter (fun e => decide (positionIn ps e.1 e.2.1 ≤ e.2.2)) })

/-- SHADOW_RECORD_ARRIVAL (R391, R393): the record on the wire is applied by the half that receives it, or is a shadow
fault. The first record a syncing half applies follows the bulk copy. -/
def execShadowRecordArrival (crcOk : Bool) (named : Nat) (s : State) : Host.Outcome State Fault Refusal :=
  .next (match s.shadowed, s.hub.wire with
    | some h, some r =>
      let s := s.updHub (fun u => { u with wire := none })
      if crcOk = false ∨ named + 1 ≠ s.time.beat then s.shadowFault h
      else s.applyRecord h r
    | _, _ => s)

/-- SHADOW_DEADLINE (R391): at 0.40 µs, a record of the active half that has not arrived is a shadow fault of the standby
half; a half that was granted the clapper in this beat, or has withdrawn, owes none. -/
def execShadowDeadline (s : State) : Host.Outcome State Fault Refusal :=
  .next (match s.active, s.shadowed with
    | some k, some h =>
      if (s.half k).gone = true ∨ s.time.beat ≤ (s.half k).since ∨ (s.half h).arrived = true ∨ (s.half h).st ≠ .standby ∨
          s.time.beat ≤ (s.half h).since then s
      else s.shadowFault h
    | _, _ => s)

/-- Every COMMITTED or PROGRAMMING version has its mirror copy (R393 step 2). -/
def State.allMirrored (s : State) : Bool :=
  s.tr.vers.all (fun v => v.mirror || !(v.st == .committed || v.st == .programming))

/-- SYNC_COMPLETE (R393 step 4): at a bar boundary, once the bulk copy and the mirror copies are there. -/
def execSyncComplete (s : State) : Host.Outcome State Fault Refusal :=
  .next (match s.shadowed with
    | some h =>
      let r := s.half h
      if r.st = .syncing ∧ r.bulk = true ∧ s.atBar = true ∧ s.active.isSome ∧ s.allMirrored = true then
        (s.enterState h .standby).hev 0x0D03 [halfNum h, s.time.beat - r.since, 0, 0]
      else s
    | none => s)

/-- SYNC_TIMEOUT (R388): a half still SYNCING after SYNCBARS bars becomes UNFIT. -/
def execSyncTimeout (s : State) : Host.Outcome State Fault Refusal :=
  .next (match s.shadowed with
    | some h =>
      if (s.half h).st = .syncing ∧ (s.half h).since + 250 * s.rd Fd.SAF_CFG_SYNCBARS ≤ s.time.beat then s.enterUnfit h else s
    | none => s)

/-- The comparison of a bar boundary (R392) over the record of the beat that ends (DEDUCED, log entry 54): every record whose
header the ledger holds is one the shadow shows as begun. -/
def State.headAgrees (s : State) (r : Shadow) : Bool := s.lg.live.all (fun x => !x.valid || decide (x.jseq < r.jseq))

/-! ### Faults -/

/-- The mechanisms that a withdrawn device suspends (R524). -/
def suspendedMech (mech : Nat) : Bool := mech == 10 || mech == 12 || mech == 13 || mech == 14

/-- CONTROL_FAULT (R396, R403, R409, R412). -/
def execControlFault (h : Half) (mech slice : Nat) (s : State) : Host.Outcome State Fault Refusal :=
  .next (if (s.variant.twin = false ∧ h = .b) ∨ (s.withdrawn = true ∧ suspendedMech mech = true) then s else s.controlFault h mech slice)

/-- DATA_PATH_FAULT (R273, R412): the command concerned fails, a write with Internal Error, a read with Unrecovered Read
Error; the fault counts against the half. -/
def execDataPathFault (h : Half) (slice : Nat) (ctx : Option Nat) (s : State) : Host.Outcome State Fault Refusal :=
  .next (
    let r := s.half h
    if r.st = .off ∨ r.st = .unfit ∨ r.st = .held then s
    else
      let s := s.dpFault h slice
      match ctx.bind (fun c => s.ctx c) with
      | some c => if c.cmd = .write then s.finish c.id 0 6 0 else s.finish c.id 2 0x81 0
      | none => s)

/-- HUB_FAULT (R23, R413). -/
def execHubFault (unit : Nat) (s : State) : Host.Outcome State Fault Refusal := .next (s.hubFault unit)

/-! ### Settlement of a role change -/

/-- The header of a record is written. -/
def State.recValid (s : State) (j : Nat) : Bool := s.lg.live.any (fun r => r.jseq == j && r.valid)

/-- Records without a header are not there for the new active half (R321): the head goes back to the first of them, and
block table changes among them are recorded again. -/
def State.dropUnfinished (s : State) : State :=
  match s.lg.live.find? (fun r => !r.valid) with
  | none => s
  | some first =>
    let tabs := s.lg.live.filterMap (fun r => match r.body with
      | .blkTab d _ b w => if r.valid then none else some (d, b, w.toNat)
      | _ => none)
    (s.updLg (fun l => { l with live := l.live.filter (fun r => r.valid), head := first.off, jseq := first.jseq })).updMd
      (fun m => { m with tabq := tabs ++ m.tabq })

/-- Map writes (R34, R213, R357): those whose record is complete are issued again; a relocation, or the map write of a
program, without a complete record is given up; any other is recorded again. -/
def State.settleMapq (s : State) : State :=
  let ok := fun (w : MapWr) => w.written && s.recValid w.jseq
  s.updTr (fun t => { t with
    mapq := (t.mapq.filter (fun w => ok w || (w.src.isNone && w.cause != 1))).map
      (fun w => if ok w then w else { w with written := false }) })

/-- Operations (R34, R190, R213, R240, R401): reads are not carried over; an operation chosen for this beat or later is not
issued; a program of tarts that waits returns them, and one in a die no longer counts for them. -/
def State.settleOps (s : State) : State :=
  let s := s.each (s.md.ops.filter (fun o => o.why == .unit && (o.st == .wait || o.st == .chosen))) (fun s o => s.dropProgram o)
  let strip (o : Op) : Op :=
    let o := if o.st = .chosen then { o with st := .wait } else { o with wake := o.st == .suspended }
    if o.why = .unit ∨ o.why = .parity then
      { o with tarts := if o.cls = .host then o.tarts.map (fun t => { t with vids := [] }) else [] }
    else if o.why = .flush ∧ o.st ≠ .wait then { o with units := [] }
    else o
  s.updMd (fun m => { m with
    ops := (m.ops.filter (fun o => o.kind != .read || o.why == .test)).map strip, copies := [], dests := [], climbs := [] })

/-- An erase whose erase-intent record is not in the ledger after a role change is not begun: its count falls back. -/
def State.dropErase (s : State) (e : Erase) : State :=
  (s.setDieBlk e.die e.blocks (fun b => { b with erases := b.erases - 1 })).updMd (fun m => { m with erases := m.erases.filter (fun x => x != e) })

/-- Victims none of whose blocks has an erase-intent record are CLOSED again (R213). Any other erase without a record is recorded
again. -/
def State.settleVictims (s : State) : State :=
  let here := fun (e : Erase) => s.lg.live.any (fun r => r.valid && (match r.body with
    | .eraseIntent d _ c b => d == e.die && c == e.count && b == e.blocks
    | _ => false))
  let lost := s.md.erases.filter (fun e => e.st == .intent && !here e)
  let s := s.each lost (fun s e => s.dropErase e)
  let s := s.each (s.md.sbs.filter (fun x => x.st == .victim && !s.erasesOf x)) (fun s x => s.setSbSt x.id .closed)
  s.each lost (fun s e =>
    if s.md.sbs.any (fun x => x.st == .closed && x.members.any (fun m => m.die == e.die && m.blocks == e.blocks)) then s
    else (s.eraseIntent e.die e.blocks).getD s)

/-- Versions (R34, R36, R190): the mirror copy, which the new active half wrote, becomes the primary; in a drill the other
copy stays as the mirror. What was being programmed is programmed again, and no pin survives. -/
def State.settleVers (s : State) (drill : Bool) : State :=
  let kept := s.tr.mapq.flatMap (fun w => w.vids)
  let move (v : Ver) : Ver :=
    let v := { v with pins := 0, st := if v.st = .programming ∧ kept.contains v.id = false then .committed else v.st }
    if v.units.isEmpty then v
    else if drill then { v with
        prim := v.mirror, mirror := v.prim, primBad := v.mirrorBad, mirrorBad := v.primBad, primTag := v.mirrorTag, mirrorTag := v.primTag }
    else { v with prim := v.mirror, mirror := false, primBad := v.mirrorBad, mirrorBad := true, primTag := v.mirrorTag, mirrorTag := false }
  (s.updTr (fun t => { t with vers := t.vers.map move, merges := [], watch := [], pred := [], staged := [], ra := [] })).freeVers

/-- Parts (R34): one with a complete record is committed; any other has its copies discarded and starts again from step 2,
or is gone when its command is. -/
def State.settleParts (s : State) : State :=
  let done := sortBy (fun (a b : Part) => decide (a.jseq < b.jseq)) (s.tr.parts.filter (fun p => p.st == .header))
  let s := s.each done (fun s p => s.commitPoint p)
  s.each s.tr.parts (fun s p =>
    let s := s.updTr (fun t => { t with vers := t.vers.filter (fun v => !p.vids.contains v.id) })
    if p.ctx.isNone then s.updTr (fun t => { t with parts := t.parts.filter (fun q => q.id != p.id) })
    else s.updPart p.id (fun p => { p with st := .wait, vids := [], jseq := 0 }))

/-- The parts of a command are formed anew: a write without a complete commit record is executed again from step 2 (R34). -/
def State.reformParts (s : State) (c : Ctx) (kind : Nat) : State :=
  (s.updTr (fun t => { t with parts := t.parts.filter (fun p => p.ctx != some c.id) })).addParts c.id c.fn kind c.nsid [(c.slba, c.nlb)]

/-- A command that has not completed is executed again (R34). A deallocation goes on with the parts that have no complete record. -/
def State.restartCtx (s : State) (c : Ctx) : State :=
  let len := match s.ns c.nsid with | some n => c.nlb * n.lbaBytes | none => 0
  let s := s.updCtx c.id (fun c => { c with
    reads := [], data := [], listsLeft := c.xfer.listLen, lookups := [], results := [], batches := 0, hold := false,
    refs := if c.cmd = .flush then c.refs else [] })
  match c.cmd with
  | .write => (s.reformParts c 0).beginXfer c.id c.xfer len
  | .writeZeroes => s.reformParts c 1
  | .read => ((s.beginXfer c.id c.xfer 0).openBatch c.id).advance c.id
  | .compare => ((s.beginXfer c.id c.xfer len).openBatch c.id).advance c.id
  | .verify => (s.openBatch c.id).advance c.id
  | .flush => s.flushDone c.id
  | _ => s

/-- A command that only reads: it is executed again after a role change unless its completion was transmitted (R34). -/
def Cmd.again : Cmd → Bool
  | .read | .compare | .verify | .flush => true
  | _ => false

/-- A read whose status was decided, but whose completion was not transmitted, has not completed (R34). -/
def State.undecide (s : State) : State :=
  let cs := s.nv.ctxs.filter (fun c => Cmd.again c.cmd && c.status.isSome)
  s.updNv (fun n => { n with
    held := n.held.filter (fun h => !cs.any (fun c => c.fn == h.fn && c.sq == h.sq && c.cid == h.cid)),
    ctxs := updWhere (fun c => cs.any (fun x => x.id == c.id)) (fun c => { c with status := none }) n.ctxs })

/-- A command that the last record does not show, and that has neither committed nor changed the device as an admin command, is
fetched again (R34). What an admin command did stands, and it is not executed again (DESIGN CHOICE, log entry 55). -/
def State.fetchAgain (r : Shadow) (c : Ctx) : Bool := c.status.isNone && !r.ctxs.contains c.id && c.sq != 0

/-- The queues go back to the fetch positions of the last record (R34). Entries that record shows as fetched are executed, but those
whose completion the hub has transmitted (R35), or that a context holds; these are passed over when they are met again. -/
def State.settleQueues (s : State) (r : Shadow) : State :=
  let ps := positions r.grants r.sqs
  let done := fun (f q i : Nat) => s.nv.posted.contains (f, q, i) || s.nv.ctxs.any (fun c => c.fn == f && c.sq == q && c.idx == i)
  let gs := r.grants.filter (fun g => g.here && (s.sq g.fn g.sq).isSome && !done g.fn g.sq g.idx)
  let queue := fun (q : Sq) =>
    let p := positionIn ps q.fn q.qid
    let old := ((r.sqs.find? (fun x => x.fn == q.fn && x.qid == q.qid)).map (fun x => x.skip)).getD []
    let posted := s.nv.posted.filterMap (fun e => if e.1 = q.fn ∧ e.2.1 = q.qid then some e.2.2 else none)
    let held := s.nv.ctxs.filterMap (fun c => if c.fn = q.fn ∧ c.sq = q.qid then some c.idx else none)
    let here := gs.filterMap (fun g => if g.fn = q.fn ∧ g.sq = q.qid then some g.idx else none)
    { q with head := p, skip := (old ++ posted ++ held ++ here).filter (fun i => decide (p ≤ i)) }
  s.updNv (fun n => { n with sqs := n.sqs.map queue, grants := gs })

/-- Commands (R34, R35): an entry fetched in a beat not shadowed is fetched again, an entry shadowed as fetched is executed, and
what has not completed is executed again. Reads in flight on the link are orphaned (DESIGN CHOICE, log entry 55). -/
def State.settleCtxs (s : State) (r : Shadow) : State :=
  let s := (s.updNv (fun n => { n with tags := n.tags.map (fun t => { t with orphan := true }) })).settleParts.undecide
  let s := s.each (s.nv.ctxs.filter (State.fetchAgain r)) (fun s c => s.killCtx c.id)
  (s.settleQueues r).grantParts

/-- The settlement of a role change by the new active half `h` (R399 steps 3 and 4), from the last record it applied. -/
def State.settleRole (s : State) (h : Half) (drill : Bool) : State :=
  let r := ((s.half h).shadow).getD s.closing
  let s := s.dropUnfinished
  let s := s.settleMapq.settleOps
  let s := (s.settleCtxs r).settleVers drill
  let s := s.settleVictims.closeOpenStripes
  let s := s.updRg (fun g => { g with meas := [] })
  let bare (x : Scrub) : Scrub := { x with
    read := 0, soft := 0, ladder := 0, recon := 0, unrec := 0, poisoned := 0, skipped := 0, cbmax := 0, refresh := 0 }
  let s := match s.md.scrub with
    | some x => s.endScrub (bare x) 2
    | none => s
  let s := match s.dr.scrub with | some x => s.endDScrub x 2 | none => s
  s.each (s.nv.ctxs.filter (fun c => c.status.isNone)) (fun s c => s.restartCtx c)

/-- The new active half's beat scheduler has the plan registers of the old one (DESIGN CHOICE, log entry 58): the pending
plan, its commit, and the enrolment. -/
def State.copyPlan (s : State) (old new : Half) : State :=
  let mine (off : Nat) : Bool := off == 0x10 || (decide (0x28 ≤ off) && decide (off < 0xC0)) || decide (0x800 ≤ off)
  let base (h : Half) : Nat := regKey h Blk.SCH 0
  let of (h : Half) (k : Nat) : Bool := decide (base h ≤ k) && decide (k < base h + 2 ^ 16) && mine (k - base h)
  let news := s.regs.filter (fun p => of new p.1)
  let olds := s.regs.filter (fun p => of old p.1)
  let s := s.each news (fun s p => { s with regs := spSet regDefault s.regs p.1 (regDefault p.1) })
  s.each olds (fun s p => { s with regs := spSet regDefault s.regs (p.1 - base old + base new) p.2 })

/-- A role change (R397 to R399, R402): the grant, the settlement, and split mode for every function after a fault. -/
def State.takeRole (s : State) (h : Half) (drill : Bool) : State :=
  let s := ((s.copyPlan (otherHalf h) h).grant h).updHub (fun u => { u with hold := true, take := some ⟨h, s.time.beat, drill, false⟩, wire := none })
  let s := ((s.wr Fd.CLP_TAKEOVER_PLANNED (boolNat drill)).count Fd.CLP_TAKEOVER_COUNT).dropDram
  let s := (s.settleRole h drill).endSessions.endUpdate
  let s := s.updHalf h (fun r => { r with shadow := none, bulk := false, arrived := false })
  let s := (s.updHalf (otherHalf h) (fun r => { r with heads := positions s.nv.grants s.nv.sqs })).updNv (fun n => { n with posted := [] })
  if drill then s
  else s.each (List.range 256) (fun s f => if s.fnUp f then s.updFn f (fun x => { x with splitRole := some (s.barAfter 2) }) else s)

/-- TAKEOVER_READY (R399, R400): the new active half signals ready. -/
def execTakeoverReady (s : State) : Host.Outcome State Fault Refusal :=
  .next (match s.hub.take with
    | some t => if s.active = some t.half then s.updHub (fun u => { u with take := some { t with ready := true } }) else s
    | none => s)

/-- TAKEOVER_TIMEOUT (R400): no ready signal by L + 5. -/
def execTakeoverTimeout (s : State) : Host.Outcome State Fault Refusal :=
  .next (match s.hub.take with
    | some t => if t.ready = false ∧ t.drill = false ∧ t.grantAt + 5 ≤ s.time.beat then s.fence 2 (some t.half) else s
    | none => s)

/-- The release of the hold at the first boundary after the ready signal (R400, R402, R405 step 7): held outputs go out;
after a fault the device reports Corrected Internal Error and the overrun's event; in a drill the window begins. -/
def State.releaseHold (s : State) (t : TakeOver) : State :=
  let s := s.wr Fd.CLP_TAKEOVER_HOLDBEATS (min 15 (s.time.beat - s.hub.holdFrom))
  let s := (s.updHub (fun u => { u with hold := false, take := none })).noteOverrun (otherHalf t.half)
  let s := if t.drill then
      (s.wr Fd.CLP_DRILLSTAT_STATE 3).updHub (fun u => { u with
        drill := { u.drill with passAt := some ((s.bar + s.rd Fd.CLP_DRILLCFG_WIN) * 250) } })
    else s.aerPfs .correctedInternal
  s.drainIngress.drain.pump.resumeReads.issueAll

/-! ### Swap drills (R404 to R406) -/

def State.updDrill (s : State) (f : Drill → Drill) : State := s.updHub (fun u => { u with drill := f u.drill })

def hourBeats : Nat := 900000000

/-- DRILL_NOW (R404): a write of CLP_DRILLCTRL.NOW. -/
def State.drillNow (s : State) : State := (s.wr Fd.CLP_DRILLCTRL_NOW 1).updDrill (fun d => { d with nowReq := true })

def execDrillNow (_m : Nat) (s : State) : Host.Outcome State Fault Refusal :=
  .next (if s.variant.twin then s.drillNow else s)

/-- DRILL_MARK (R404): PERIOD hours after the link was enabled or the previous drill, or at the bar boundary after NOW. -/
def execDrillMark (s : State) : Host.Outcome State Fault Refusal :=
  .next (
    let d := s.hub.drill
    if s.variant.twin = true ∧ s.hub.linkOn = true ∧ d.mark.isNone = true ∧ d.d.isNone = true ∧
        ((d.nowReq = true ∧ s.atBar = true) ∨ d.next ≤ s.time.beat) then
      s.updDrill (fun d => { d with mark := some s.time.beat, nowReq := false, deferred := 0, reported := 0 })
    else s)

/-- The conditions under which a drill begins (R404). -/
def State.drillFit (s : State) : Bool :=
  match s.active with
  | none => false
  | some h =>
    let o := s.half (otherHalf h)
    !(s.half h).gone && o.st == .standby && decide (o.since + 250 * s.rd Fd.SAF_CFG_SYNCBARS ≤ s.time.beat) &&
      s.lg.loss.isNone && s.sv.act.isNone && s.dr.repair.isNone && s.hub.take.isNone && !s.hub.hold && !s.hub.fenced &&
      s.ts.isNone && s.nv.tags.all (fun t => t.quar.isSome)

/-- A drill begins at this boundary. -/
def State.drillStarts (s : State) : Bool := s.hub.drill.mark.isSome && s.atBar && s.drillFit

/-- A handover word stands in place of renewals from D to the grant (R405). -/
def State.handover (s : State) : Bool := s.drillStarts || (s.hub.drill.d.isSome && !s.hub.drill.granted)

/-- DRILL_BEGIN (R404, R405 steps 1 to 3), or a bar of deferral. -/
def execDrillBegin (s : State) : Host.Outcome State Fault Refusal :=
  .next (
    if s.hub.drill.mark.isNone = true ∨ s.atBar = false then s
    else match s.active with
      | some h =>
        if s.drillFit then
          let s := (s.beginHold).enterState h .standby
          let s := ((s.wr Fd.CLP_DRILLCTRL_NOW 0).wr Fd.CLP_DRILLSTAT_STATE 2).wr Fd.CLP_DRILLSTAT_DEFERRED 0
          s.updDrill (fun d => { d with
            mark := none, d := some s.time.beat, cand := otherHalf h, granted := false, passAt := none, deferred := 0 })
        else
          let s := s.updDrill (fun d => { d with deferred := d.deferred + 1 })
          ((s.wr Fd.CLP_DRILLSTAT_STATE 1).wr Fd.CLP_DRILLSTAT_DEFERRED (min 65535 (s.hub.drill.deferred / 1000))).issueAll
      | none => s)

/-- DRILL_GRANT (R405 steps 5 and 6): at boundary D + 1. -/
def execDrillGrant (s : State) : Host.Outcome State Fault Refusal :=
  .next (match s.hub.drill.d with
    | some d =>
      if s.hub.drill.granted = false ∧ d + 1 ≤ s.time.beat ∧ s.hub.fenced = false then
        (s.takeRole s.hub.drill.cand true).updDrill (fun x => { x with granted := true })
      else s
    | none => s)

/-- DRILL_READY_TIMEOUT (R406): no ready signal by D + 5; the candidate withdraws and is UNFIT with class drill, and the
former active half takes the role again. -/
def execDrillReadyTimeout (s : State) : Host.Outcome State Fault Refusal :=
  .next (match s.hub.drill.d, s.hub.take with
    | some d, some t =>
      if t.drill = true ∧ t.ready = false ∧ d + 5 ≤ s.time.beat then
        let s := (s.recordFault t.half 4 0 5 true).updHalf t.half (fun r => { r with gone := true })
        ((s.drillFailed 1).enterUnfit t.half).takeRole (otherHalf t.half) false
      else s
    | _, _ => s)

/-- DRILL_PASS (R405 step 9): at the end of the window. -/
def execDrillPass (s : State) : Host.Outcome State Fault Refusal :=
  .next (match s.hub.drill.d, s.hub.drill.passAt with
    | some d, some p =>
      if p ≤ s.time.beat then
        let s := (s.count Fd.CLP_CNT_DRILL_PASSED).hev 0x0E01 [d, halfNum s.hub.drill.cand, 0, s.rd Fd.CLP_EPOCH_EPOCH]
        let s := (s.wr Fd.CLP_DRILLSTAT_STATE 0).wr Fd.CLP_DRILLSTAT_LAST 1
        s.updDrill (fun x => { x with
          d := none, passAt := none, granted := false, next := d + s.rd Fd.CLP_DRILLCFG_PERIOD * hourBeats })
      else s
    | _, _ => s)

/-- DRILL_DEFERRAL_REPORT (R404): after each hour of continuous deferral. -/
def execDrillDeferralReport (s : State) : Host.Outcome State Fault Refusal :=
  .next (match s.hub.drill.mark with
    | some m =>
      if s.hub.drill.reported < s.hub.drill.deferred / 3600000 then
        (s.updDrill (fun d => { d with reported := d.reported + 1 })).hev 0x0E03 [m, s.hub.drill.deferred, 0, 0]
      else s
    | none => s)

/-- A power loss abandons a drill (R406): before the grant the former active half renews and keeps the role. -/
def State.abandonDrill (s : State) : State :=
  match s.hub.drill.d with
  | none => s
  | some d =>
    let former := otherHalf s.hub.drill.cand
    let s := if s.hub.drill.granted then s
      else ((s.enterState former .active).updHub (fun u => { u with hold := false, holder := some former, leaseEnd := s.time.beat + 5 }))
    let s := (s.wr Fd.CLP_DRILLSTAT_STATE 0).wr Fd.CLP_DRILLSTAT_LAST 3
    s.updDrill (fun x => { x with
      d := none, passAt := none, granted := false, next := d + s.rd Fd.CLP_DRILLCFG_PERIOD * hourBeats })

/-! ### Restoring a half (R407, R408) -/

/-- The UNFIT half, if there is one. -/
def State.unfitHalf (s : State) : Option Half := [Half.a, Half.b].find? (fun h => (s.half h).st == .unfit)

/-- A half enters LOADING: its chimes are emptied and its locks freed (R430, R435), its domains go ON (R542), and every SRAM valid bit
is cleared (R373). -/
def State.loadHalf (s : State) (h : Half) : State :=
  ((((s.setHalfDoms h 0).emptyChimes h).freeLocks h).sramClear h).updHalf h (fun r => { r with
    st := .loading, since := s.time.beat, gone := false, shadow := none, bulk := false, arrived := false, dones := [] })

/-- A restore may run (R407, R523): no drill, power-loss sequence, activation, take-over or test run is in progress. -/
def State.mayRestore (s : State) : Bool :=
  s.active.isSome && s.hub.drill.d.isNone && s.lg.loss.isNone && s.sv.act.isNone && s.hub.take.isNone && !s.hub.hold &&
    !s.hub.fenced && s.hub.restoring.isNone && s.ts.isNone

/-- A restore begins (R408 step 1). -/
def State.beginRestore (s : State) (h : Half) : State :=
  ((s.loadHalf h).wr Fd.SAF_CTRL_RESTORE 0).updHub (fun u => { u with restoring := some h })

/-- A write of SAF_CTRL.RESTORE (R407): discarded while no half is UNFIT; it waits while a restore may not run. -/
def State.restoreWrite (s : State) (m : Nat) : State :=
  match s.unfitHalf with
  | none => s.discarded s.act m Blk.SAF Reg.SAF_CTRL.off 1
  | some h => if s.mayRestore then s.beginRestore h else s.wr Fd.SAF_CTRL_RESTORE 1

/-- RESTORE (R407, R408). -/
def execRestore (m : Nat) (s : State) : Host.Outcome State Fault Refusal :=
  .next (if s.variant.twin then s.restoreWrite m else s)

/-- AUTO_RESTORE (R407): RESTDELAY × 100 bars after the half entered UNFIT, or a requested restore that waited. -/
def execAutoRestore (s : State) : Host.Outcome State Fault Refusal :=
  .next (match s.unfitHalf with
    | none => s
    | some h =>
      if s.variant.twin = true ∧ s.mayRestore = true ∧ (s.rd Fd.SAF_CTRL_RESTORE = 1 ∨ (s.rd Fd.SAF_CFG_AUTORESTORE = 1 ∧
          (s.half h).since + s.rd Fd.SAF_CFG_RESTDELAY * 25000 ≤ s.time.beat)) then s.beginRestore h
      else s)

/-- A half fails its self-test: UNFIT, with class self-test; the mechanism and slice of such a fault are not stated (free
values). -/
def State.selfTestFails (s : State) (h : Half) : State :=
  let a := s.free
  let b := a.2.free
  (b.2.recordFault h 5 (a.1 % 16) (b.1 % 8) true).enterUnfit h

/-- RESTORE_SELF_TEST_DONE (R408 steps 3 and 4). -/
def execRestoreSelfTestDone (ok : Bool) (s : State) : Host.Outcome State Fault Refusal :=
  .next (match s.hub.restoring with
    | none => s
    | some h =>
      let s := s.updHub (fun u => { u with restoring := none })
      if (s.half h).st ≠ .loading then s
      else if ok then (s.loadImage h).beginSync h else s.selfTestFails h)

/-! ### The fenced state (R413 to R415) -/

/-- The lease of a holder that has withdrawn has run out. -/
def State.lapsed (s : State) : Option Half :=
  match s.hub.holder with
  | some h => if (s.half h).gone = true ∧ s.hub.leaseEnd ≤ s.time.beat then some h else none
  | none => none

/-- A cause of the fenced state stands, with the half its flusher is judged by. -/
def State.fenceDue (s : State) (cause : Nat) : Option (Option Half) :=
  match cause with
  | 1 => match s.lapsed with
    | some h => if s.variant.twin = true ∧ s.hub.linkOn = true ∧ (s.half (otherHalf h)).st ≠ .standby then some (some h) else none
    | none => none
  | 2 => match s.hub.take with
    | some t => if t.ready = false ∧ t.drill = false ∧ t.grantAt + 5 ≤ s.time.beat then some (some t.half) else none
    | none => none
  | 3 =>
    let down := fun (r : HalfRec) => r.quit || ((r.st == .unfit || r.st == .held) && r.since == s.time.beat)
    if s.variant.twin = true ∧ down s.hub.a = true ∧ down s.hub.b = true then some none else none
  | 4 => if s.rd Fd.SAF_HUBFLT_VALID = 1 then some none else none
  | 5 => if 3 ≤ s.rg.hot then some none else none
  | 6 => match s.lapsed with
    | some h => if s.variant.twin = true ∨ s.hub.linkOn = false then none else some (some h)
    | none => none
  | _ => none

/-- FENCED_STATE_ENTRY (R413, R414). -/
def execFencedStateEntry (cause : Nat) (s : State) : Host.Outcome State Fault Refusal :=
  .next (match s.fenceDue cause with
    | some h => s.fence cause h
    | none => s)

/-- FENCE_FLUSH_END (R414 step 5, R415, R506): the flush has ended, with FLUSH_DONE or without; every output is held from now
on, and the recorder stops. -/
def execFenceFlushEnd (s : State) : Host.Outcome State Fault Refusal :=
  .next (if s.hub.fenced = true ∧ s.hub.flusher.isSome ∧ s.hub.outputsHeld = false then
      (s.updHub (fun u => { u with outputsHeld := true })).updEvt (fun e => { e with stopped := true })
    else s)

end Sys2Proof.Machine
end

