-- ==== Sys2Proof/Machine/Startup.lean ====
section
/-! DEFINITION. Resets of the whole device (R464), start-up (R458 to R463) with the recovery of R340 and R341, the trial reset
(R455), and the lapse of a lease (R398, R458). Commands POWER_ON_RESET, BOOTING_HALF_RELEASE, STARTUP_STEP_COMPLETE,
STARTUP_STEP_TIMEOUT and LEASE_LAPSE. -/

namespace Sys2Proof.Machine

/-! ### Power-on reset (R464) -/

/-- The slots lose power; their presence pins are the board's. -/
def Slot.unpowered (x : Slot) : Slot := { Slot.init with prsnt := x.prsnt }

/-- What the journal holds of the commands in progress: parts whose header is written are committed, map writes whose record
is complete are kept for step 12, and everything else of the commands is gone. -/
def State.settleJournal (s : State) : State :=
  let s := s.updTr (fun t => { t with parts := t.parts.map (fun p => { p with ctx := none }) })
  s.settleParts.settleMapq

/-- Programs interrupted in their dies; what was being programmed is reloaded or lost as its version is (R337). -/
def State.brokenPrograms (s : State) : List Op :=
  (s.md.ops.filter (fun o => o.kind == .program && (o.st == .busy || o.st == .suspended))).map (fun o =>
    { o with st := .busy, tarts := if o.cls = .host then o.tarts.map (fun t => { t with vids := [] }) else [] })

/-- Media management as flash and the block table keep it; a die in use (1) waits to be identified (3). -/
def State.mediaAfter (s : State) : Media :=
  let d := fun (x : Die) => if x.st = 1 then { x with st := 3, noResp := 0 } else x
  { Media.init with
    dies := spMap (fun _ => .init) s.md.dies (fun _ => d), blks := s.md.blks, flash := s.md.flash, sbs := s.md.sbs, ops := s.brokenPrograms,
    nextOp := s.md.nextOp, nextSb := s.md.nextSb, stamp := s.md.stamp, erases := s.md.erases, valid := s.md.valid,
    table := s.md.table, tabq := s.md.tabq, u0 := s.md.u0, recs := s.md.recs, keyBlks := s.md.keyBlks,
    slcSub := s.md.slcSub, snaps := s.md.snaps, slcUsed := s.md.slcUsed }

/-- The translation unit: DRAM's contents, the map among them, are not used again (R464); delta pages and segment copies are in flash,
and so is what the journal holds. A copy whose program was interrupted is programmed again. -/
def State.transAfter (s : State) : Trans :=
  let again := fun (c : SegCopy) => s.brokenPrograms.any (fun o => o.why == .metadata && o.units.getD 0 0 == 1 &&
    decide (o.units.getD 1 0 ≤ c.seg) && decide (c.seg < o.units.getD 1 0 + 4))
  { Trans.init with
    ns := s.tr.ns, nextKey := s.tr.nextKey, vers := s.tr.vers, nextId := s.tr.nextId, mapq := s.tr.mapq, mseq := s.tr.mseq,
    seg := s.tr.seg, pages := s.tr.pages, segs := s.tr.segs, copying := s.tr.copying.filter again, passes := s.tr.passes }

def State.ledgerAfter (s : State) : Ledger :=
  { Ledger.init with
    words := s.lg.words, live := s.lg.live, head := s.lg.head, jseq := s.lg.jseq, anchor := s.lg.anchor,
    flushRec := s.lg.flushRec, gran := s.lg.gran, granWr := s.lg.granWr, granLife := s.lg.granLife, spares := s.lg.spares,
    badShut := s.lg.badShut, flushUsed := s.lg.flushUsed }

/-- The recorder after power-on reset (R502, R509, R510): SEQ goes on from the ring, and the history is rebuilt from it. -/
def State.eventsAfter (s : State) : Evt :=
  { Evt.init with
    seq := s.ringNext, pbase := s.evt.pbase, perm := s.evt.perm, clearing := s.evt.clearing, clearPos := s.evt.clearPos,
    hist := s.ringHours, warmAll := s.evt.warmAll, hotAll := s.evt.hotAll }

/-- A function after power-on reset: its page C1h and its lifetime counts are kept (R140, R227). -/
def Fn.after (x : Fn) : Fn :=
  { Fn.init with
    c1h := x.c1h, rdSecs := x.rdSecs, wrSecs := x.wrSecs, rdCmds := x.rdCmds, wrCmds := x.wrCmds, medErrs := x.medErrs,
    errLog := x.errLog }

/-- The fields whose contents do not lie in registers that a reset clears: fuses, the epoch and the power-loss count of the
ledger, retirements, and the sequence number in flash of the map's deltas. -/
def keptFields : List (Fd × Nat) :=
  [(Fd.SEC_FUSE_UDS, 1), (Fd.SEC_FUSE_FWKEY, 1), (Fd.SEC_FUSE_OPKEY, 1), (Fd.SEC_FUSE_SECVER, 1), (Fd.SEC_FUSE_KEKGEN, 1),
   (Fd.LDG_STAT_EPOCH, 1), (Fd.LDG_CNT_PLOSS_COUNT, 1), (Fd.MED_RETSTAT_DIES, 1), (Fd.MED_RETSTAT_CHANNELS, 1),
   (Fd.MED_CHSTAT_RETIRED, 32), (Fd.MAP_CKPSEQ_LO_SEQ, 1), (Fd.MAP_CKPSEQ_HI_SEQ, 1)]

/-- A reset that counts as power-on reset (R464): every die starts afresh, and the boot array, the ledger and flash are kept.
CAUSE is that of PWR_RSTCAUSE. Port 1 of a device of one half has other default
credits (R385), and the FK9612 a narrower superblock (R229). -/
def State.powerOn (s : State) (cause supply : Nat) : State :=
  let s := match s.bt.op with
    | some o => s.spoil o.addr (if o.op = 1 then o.words.length else 512)
    | none => s
  let s := s.settleJournal
  let t : State := { State.reset with
    pending := s.pending, variant := s.variant, freeCtr := s.freeCtr, out := s.out, evt := s.eventsAfter,
    nv := { Nvme.init with fns := spMap (fun _ => .init) s.nv.fns (fun _ x => x.after), nextCtx := s.nv.nextCtx },
    tr := s.transAfter, md := s.mediaAfter, lg := s.ledgerAfter, slots := s.slots.map Slot.unpowered,
    rg := { Regul.init with saved := s.rg.saved },
    bt := { Boot.init with arr := s.bt.arr, seq := s.bt.seq, fmts := s.bt.fmts, trip := s.bt.trip, cycles := s.bt.cycles + 1, onBeats := s.bt.onBeats + s.time.beat },
    sv := { Svc.init with aliasGen := s.sv.aliasGen } }
  let t := t.each keptFields (fun t f => t.each (List.range f.2) (fun t i => t.wr f.1 (s.rd f.1 i) i))
  let t := if t.variant.twin then t else t.wr Fd.DRC_PORT_CREDITS 7000 1
  let t := if t.variant = .fk9612 then t.wr Fd.MED_SBCFG_WIDTH 8 else t
  (t.wr Fd.PWR_RSTCAUSE_CAUSE cause).wr Fd.PWR_RSTCAUSE_SUPPLY supply

/-- POWER_ON_RESET (R464, R416, R337): by cause 1 PORST_N or cold start, 2 a supply, 3 SYSCLK. -/
def execPowerOnReset (cause supply : Nat) (s : State) : Host.Outcome State Fault Refusal := .next (s.powerOn cause supply)

/-! ### The booting half (R458) -/

def State.toStep (s : State) (n : Nat) : State := (s.wr Fd.BTA_BOOTSTAT_STEP n).updBt (fun b => { b with stepAt := s.time.beat })

/-- The hub releases a half as the booting half; its first grant follows at the next boundary. -/
def State.releaseHalf (s : State) (h : Half) : State :=
  (((s.loadHalf h).wr Fd.BTA_BOOTSTAT_HALF (halfNum h)).toStep 1).updBt (fun b => { b with release := some h })

/-- The half that may start next: Half A, or Half B once Half A has failed in this start. -/
def State.nextBoot (s : State) : Option Half :=
  if !s.bt.failed.contains .a then some .a
  else if s.variant.twin && !s.bt.failed.contains .b then some .b else none

/-- BOOTING_HALF_RELEASE (R458, R461). -/
def execBootingHalfRelease (s : State) : Host.Outcome State Fault Refusal :=
  .next (
    if s.hub.linkOn = true ∨ s.hub.fenced = true ∨ s.active.isSome ∨ s.hub.holder.isSome ∨ s.bt.release.isSome ∨
        s.rd Fd.BTA_BOOTSTAT_STEP = 17 ∨ s.lg.loss.isSome then s
    else match s.nextBoot with
      | some h => s.releaseHalf h
      | none => s)



/-- The half that carries start-up: ACTIVE before the host link is enabled, in one of the steps of R461. A power loss stops
start-up (R533). -/
def State.booting (s : State) : Option Half :=
  match s.active with
  | some h =>
    let n := s.rd Fd.BTA_BOOTSTAT_STEP
    if (s.half h).gone = false ∧ s.hub.linkOn = false ∧ 1 ≤ n ∧ n ≤ 15 ∧ s.lg.loss.isNone ∧ s.hub.fenced = false then some h else none
  | none => none

/-! ### Failures (R463) -/

/-- Start-up stops: the host link stays disabled, CAUSE holds the cause, and an event. The port stays available (R463): a mask
ROM serves it when no firmware was loaded (R495), or when every half has failed. -/
def State.stopStart (s : State) (cause : Nat) : State :=
  (((s.toStep 17).wr Fd.BTA_BOOTSTAT_CAUSE cause).hev 0x1102 []).when (!s.bt.run.fwOk || cause == 5) (fun s =>
    { s with sv := { s.sv with recovery := true } })

/-- The booting half fails: it withdraws and is UNFIT; its lease runs to its lapse. The mechanism and slice are not stated
(free values). Classes: 1 control, 5 self-test. -/
def State.bootFails (s : State) (h : Half) (cls : Nat) : State :=
  let a := s.free
  let b := a.2.free
  (((b.2.recordFault h cls (a.1 % 16) (b.1 % 8) true).withdraw h).enterUnfit h).unchoose (fun _ => true)

/-- The lapse before the host link is enabled (R458, R455, R463): the next half is released; when every half present has
failed, a start from a TRIAL bank ends in a trial reset, and any other stops. -/
def State.bootLapse (s : State) (h : Half) : State :=
  let s := (s.updBt (fun b => { b with failed := addOnce h b.failed })).updHub (fun u => { u with holder := none, hold := false })
  let s := s.unchoose (fun _ => true)
  match s.nextBoot with
  | some k => s.releaseHalf k
  | none => if s.bt.trial then s.powerOn 5 0 else s.stopStart 5

/-- The first boundary after a release (R388, R397, R458): the half released is granted the clapper, and writes the event of an overrun of
the half that failed before it (R68); a half that has failed meanwhile is not, and start-up goes on as at a lapse (R66). -/
def State.firstGrant (s : State) : State :=
  match s.bt.release with
  | some h =>
    let s := s.updBt (fun b => { b with release := none })
    if (s.half h).st = .loading then (s.grant h).noteOverrun (otherHalf h) else s.bootLapse h
  | none => s

/-- In a drill, the former active half is granted the clapper again at the first boundary after the candidate's withdrawal
before its ready signal (R406). -/
def State.earlyGrant (s : State) : State :=
  match s.hub.take with
  | some t =>
    if t.drill = true ∧ t.ready = false ∧ (s.half t.half).gone = true ∧ (s.half (otherHalf t.half)).st = .standby then
      s.takeRole (otherHalf t.half) false
    else s
  | none => s

/-- LEASE_LAPSE (R398, R413): the STANDBY half is granted the clapper, or the device is fenced; before the host link is
enabled, the lapse is settled as R458 states. -/
def execLeaseLapse (s : State) : Host.Outcome State Fault Refusal :=
  .next (match s.lapsed with
    | none => s
    | some h =>
      if s.hub.fenced then s
      else if s.hub.linkOn = false then s.bootLapse h
      else if s.variant.twin = false then s.fence 6 (some h)
      else if (s.half (otherHalf h)).st = .standby then s.takeRole (otherHalf h) false
      else s.fence 1 (some h))

/-! ### Steps 1 to 7 -/

/-- Step 4 (R454, R455): TRIAL banks with two failed attempts receive their FAILED mark, a bank is chosen, and an attempt word
begun for a start from a TRIAL bank, at most one in a start. -/
def State.selectBank (s : State) : State :=
  let s := s.each ([0, 1].filter (fun b => s.bankState b == 3 && decide (2 ≤ s.failedAttempts b))) (fun s b => s.markBank b 4)
  match s.chooseBank with
  | none => s.stopStart 3
  | some b =>
    let trial := s.bankState b == 3
    let s := (s.wr Fd.BTA_BOOTSTAT_BANK b).updBt (fun x => { x with trial := trial, verFails := 0 })
    let s := match trial && s.bt.attempt.isNone, [1, 2, 3].find? (fun j => !s.attemptBegun b j) with
      | true, some j =>
        ((s.progOpt (descIdx b (4 + j)) (BitVec.ofNat 64 ((2 ^ 32 - 1) * 2 ^ 32))).updBt (fun x => { x with attempt := some (b, j) })).wr
          Fd.BTA_BOOTSTAT_ATTEMPT j
      | _, _ => s
    s.toStep 5

/-- An image of the bank fails verification (R454, R477): twice in a row, the bank receives its FAILED mark, and the next
candidate is taken. -/
def State.verifyFails (s : State) : State :=
  let s := s.count Fd.SEC_CNT_VERIFYFAIL_COUNT
  if s.bt.verFails = 0 then s.updBt (fun b => { b with verFails := 1 })
  else ((s.markBank (s.rd Fd.BTA_BOOTSTAT_BANK) 4).updBt (fun b => { b with verFails := 0 })).toStep 4

/-- The test of a configuration image (R456): its signature and header (`cfgOk`), its entries, and admission (R150). -/
def configPasses (v : Variant) (img : ImageMeta) : Bool := img.cfgOk && entriesOk v img.entries && (admission v img.entries).isNone

/-- A configuration image whose settings fail admission alone is reported in TEN_ADMIT and recorded (R150). -/
def State.noteAdmission (s : State) (img : ImageMeta) : State :=
  if img.cfgOk = true ∧ entriesOk s.variant img.entries = true then
    (match admission s.variant img.entries with | some x => s.refuseAdmission x img.cfgver | none => s)
  else s

/-- Step 5 (R456, R150): the configuration image; a refusal at admission is reported. -/
def State.checkConfig (s : State) (r : StepRes) : State :=
  if configPasses s.variant r.img then (s.updBt (fun b => { b with verFails := 0 })).toStep 6
  else (s.noteAdmission r.img).verifyFails

/-- The entries of a configuration image are loaded into their registers, RO fields included (R456): the fields that come from the
image take their values, and the others keep theirs. -/
def State.loadEntries (s : State) (h : Half) (e : List (Nat × Nat × Nat)) : State :=
  s.each (e.filter (fun x => x.1 != 0)) (fun s x => s.setReg h x.1 x.2.1 (loadWord x.1 x.2.1 (s.reg h x.1 x.2.1) x.2.2))

/-- SEC_FMT and SEC_STAT.DUAL (R484): dual writing while RUNBANK is TRIAL and the other bank is CONFIRMED with another
STATEFMT. -/
def State.noteFormats (s : State) : State :=
  let b := s.rd Fd.BTA_STAT_RUNBANK
  let f := spGet (fun _ => 0) s.bt.fmts (1 - b)
  let dual := s.bankState b == 3 && s.bankState (1 - b) == 4 && f != s.bt.run.fw.statefmt
  ((s.wr Fd.SEC_FMT_STATEFMT s.bt.run.fw.statefmt).wr Fd.SEC_FMT_FALLBACK (if dual then f else 0)).wr Fd.SEC_STAT_DUAL (boolNat dual)

/-- The alias key and certificate are made anew (R472). -/
def State.newAlias (s : State) : State := { s with sv := { s.sv with aliasGen := s.sv.aliasGen + 1 } }.wr Fd.SEC_STAT_ALIAS 1

/-- Advance the SECVER fuse and fail the other CONFIRMED bank (R485 steps 2 and 3). -/
def State.settleConfirm (s : State) (bank : Nat) : State :=
  let s := if s.rd Fd.SEC_FUSE_SECVER < s.bt.run.fw.secver then s.wr Fd.SEC_FUSE_SECVER s.bt.run.fw.secver else s
  if s.bankState (1 - bank) = 4 then s.markBank (1 - bank) 4 else s

/-- The set runs: RUNBANK, its entries, its formats and the keys that depend on it. -/
def State.runSet (s : State) (h : Half) (b : Nat) (img : ImageMeta) : State :=
  let s := (s.wr Fd.BTA_STAT_RUNBANK b).updBt (fun x => { x with
    run := img, verFails := 0, fmts := spSet (fun _ => 0) x.fmts b img.fw.statefmt })
  let s := s.wr Fd.FCH_UCODE_VERSION img.ucode.version
  ((s.loadEntries h img.entries).admitSets img.entries).noteFormats.newAlias

/-- A supply trip that led to this start is recorded by the booting half (R528). -/
def State.noteTrip (s : State) (h : Half) : State :=
  match s.bt.trip with
  | some t => ((s.submit (halfSrc h) 0 0x1601 [t.1, t.2, 0, 0]).2).updBt (fun x => { x with trip := none })
  | none => s

/-- Step 7 begins: the other half of the FK9640 enters LOADING. -/
def State.beginOther (s : State) (h : Half) : State :=
  let o := otherHalf h
  if s.variant.twin = false then s.toStep 8
  else (if (s.half o).st = .off then s.loadHalf o else s).toStep 7

/-- Step 6 (R457, R477): the firmware is loaded and runs from here, with the random generator healthy; the configuration
entries are applied. Microcode that the loader refuses fails the half (R235, R463). A start that finds both banks CONFIRMED completes
the confirmation (R485). -/
def State.loadFirmware (s : State) (h : Half) (r : StepRes) : State :=
  let b := s.rd Fd.BTA_BOOTSTAT_BANK
  if fwPasses s.variant r.img = false ∨ r.img.fw.secver < s.rd Fd.SEC_FUSE_SECVER then s.verifyFails
  else if r.ok = false ∨ ucodeOk r.img.ucode = false then s.bootFails h 1
  else
    let s := ((s.runSet h b r.img).loadImage h).wr Fd.SEC_STAT_RNGOK 1
    let both := s.bankState 0 == 4 && s.bankState 1 == 4
    ((if both then s.settleConfirm b else s).noteTrip h).beginOther h

/-- Step 7: the other half's load and self-test; one that fails is UNFIT, and start-up goes on. -/
def State.otherLoaded (s : State) (h : Half) (ok : Bool) : State :=
  let o := otherHalf h
  (if (s.half o).st ≠ .loading then s else if ok then s.loadImage o else s.selfTestFails o).toStep 8

/-! ### Steps 8 to 13: recovery (R340, R341, R193) -/

/-- A range of a namespace is added to page C1h of every function that it is attached to; the cause that the entry carries is
not stated there (a free value of the four). -/
def State.lostRange (s : State) (n : Ns) (lo cnt : Nat) : State :=
  let c := s.free
  c.2.each n.fns (fun s f => s.addC1h f ⟨n.id, lo * n.perTart, cnt * n.perTart, 1 + c.1 % 4, s.time.beat⟩)

/-- A tart whose acknowledged data might be stale is poisoned and reported (R341). -/
def State.staleTart (s : State) (ltn : Nat) : State :=
  let s := s.poisonTart ltn
  match s.nsOfLtn ltn with
  | some (n, k) => s.lostRange n k 1
  | none => s

/-- The tarts of the units that have a directory word and that no readable COMMIT claims (R341). -/
def State.staleTarts (s : State) (bad : List Nat) : List Nat :=
  (s.lg.live.filter (fun r => bad.contains r.jseq)).flatMap (fun r => match r.body with
    | .commit _ _ _ _ _ _ _ tarts => (tarts.filter (fun t => t.2.any (fun u => u != 0xFFFF && s.dirValid u))).map (fun t => t.1)
    | _ => [])

/-- Step 8 (R340 step 1, R341): the ring is parsed to its head, an unfinished record and what follows it is not part of the
journal, and unreadable records are settled: the tarts they may concern are poisoned once the map is rebuilt. -/
def State.scanLedger (s : State) (bad : List Nat) : State :=
  let s := s.dropUnfinished
  let s := (s.wr Fd.LDG_HEAD_LO_JSEQ (s.lastJseq % 2 ^ 32)).wr Fd.LDG_HEAD_HI_JSEQ (s.lastJseq / 2 ^ 32)
  let hit := s.lg.live.any (fun r => bad.contains r.jseq)
  if hit = false then s
  else
    let ts := s.staleTarts bad
    let s := s.setLive (fun l => l.filter (fun r => !bad.contains r.jseq))
    let s := s.updTr (fun t => { t with vers := t.vers.filter (fun v => !bad.contains v.oseq) })
    (s.updLg (fun l => { l with stale := ts })).aev 0 0x0A03 []

/-- Bytes of the DRAM found (R344); 0 for a population that is not supported. -/
def dramFound (ranks2 dens32 : Bool) : Nat :=
  match ranks2, dens32 with
  | false, false => 2 ^ 37
  | true, false => 2 ^ 38
  | false, true => 2 ^ 38
  | true, true => 0

/-- DRC_STAT.LINES by rate code (R350). -/
def trainedLines : Nat → Nat
  | 0 => 8000
  | 1 => 7000
  | _ => 6000

/-- Step 9 (R344, R345, R359, R370, R375, R44, R350). -/
def State.trainDram (s : State) (r : StepRes) : State :=
  let size := dramFound r.ranks2 r.dens32
  if r.ok = false ∨ size = 0 ∨ 2 < r.rate ∨ size < 5 * s.exported + 2 ^ 33 then (s.aev 0 0x0B01 []).stopStart 4
  else if r.checksOk = false then (s.aev 0 0x0B07 []).stopStart 4
  else
    let s := (((s.wr Fd.DRC_CFG_RANKS (boolNat r.ranks2)).wr Fd.DRC_CFG_DENS (boolNat r.dens32)).wr Fd.DRC_CFG_RATE r.rate).wr
      Fd.DRC_CFG_TRAINED 1
    let s := s.wr Fd.DRC_STAT_LINES (trainedLines r.rate)
    let s := if r.rate = 0 then s
      else (s.each (List.range 6) (fun s p => s.wr Fd.DRC_PORT_CREDITS (s.rd Fd.DRC_PORT_CREDITS p * trainedLines r.rate / 8000) p)).aev 0 0x0B02 []
    ((s.wr Fd.MAP_BASE_BASE 0x20000).hardRepairs.noteRepairs).toStep 10

/-- Step 10 begins: firmware commits the bar plan, which is latched at the bar latch point (R60). -/
def State.commitFirst (s : State) (h : Half) : State :=
  if s.rd Fd.BTA_BOOTSTAT_STEP = 10 then s.wr Fd.SCH_PLAN_CTRL_COMMIT 1 0 h else s

/-- Step 10 ends once the latch point has acted on the commit: the remaining units are enrolled. Step 11 then powers every slot found
PRESENT. -/
def State.enrolAll (s : State) (h : Half) : State :=
  if s.rd Fd.SCH_PLAN_CTRL_COMMIT 0 h = 1 then s else
  let s := s.wr Fd.SCH_ENROLL_UNIT (sumOf (fun n => 2 ^ n) ((List.range 15).filter (fun n => unitPresent s.variant n))) 0 h
  let s := s.each ((List.range s.variant.slotsN).filter (fun n => (s.slot n).st == .present)) (fun s n => s.powerSlot n)
  s.toStep 11

/-- Step 11 has ended: every powered slot has trained its channels. -/
def State.slotsTrained (s : State) : Bool :=
  (List.range s.variant.slotsN).all (fun n => match (s.slot n).st with
    | .powering => false
    | .training => s.rd Fd.FCH_CHSTAT_STATE (2 * n) != 0 && s.rd Fd.FCH_CHSTAT_STATE (2 * n + 1) != 0
    | _ => true)

/-- The dies of a slot are decided (R460): they keep their data when all of them are recorded as in use with the same unique
ID; otherwise every die is newly inserted. -/
def State.decideSlot (s : State) (n : Nat) (all : List DieFound) : State :=
  let found := all.filter (fun f => slotOf f.die == n)
  let use := found.filter (fun f => s.usableDie found f)
  if use.isEmpty then s.updSlot n (fun x => { x with st := .fault, pwren := false })
  else
    let s := if use.all (fun f => f.same && (s.die f.die).st == 3) then
        s.each use (fun s f => (s.setDie f.die (fun d => { d with st := 1 })).wr Fd.FCH_CHSTAT_DIES (s.rd Fd.FCH_CHSTAT_DIES (chanOf f.die) + 1)
          (chanOf f.die))
      else (s.markLack (fun _ m => slotOf m.die == n) 2).each use (fun s f => (s.forgetDie f.die).addDie f 0)
    let s := (s.unretireChannel (2 * n)).unretireChannel (2 * n + 1)
    s.updSlot n (fun x => { x with st := .inUse, closing := false })

/-- A recorded die that was not found is absent (R460, R63). -/
def State.dropMissing (s : State) : State :=
  let gone := (s.md.dies.filter (fun p => p.2.st == 3)).map (fun p => p.1)
  (s.each gone (fun s d => s.setDie d (fun x => { x with st := 0 }))).markLack (fun _ m => gone.contains m.die) 2

/-- The runs of consecutive numbers in a rising list, each as its first number and its length. -/
def runsOf (ks : List Nat) : List (Nat × Nat) :=
  ks.foldr (fun k rs => match rs with
    | (a, n) :: more => if a = k + 1 then (k, n + 1) :: more else (k, 1) :: rs
    | [] => [(k, 1)]) []

/-- A map segment neither of whose copies passes (R193 step 4): every entry that no delta has set has the lost value; each range of
them is reported for the namespace it lies in, with an event. -/
def State.loseSegment (s : State) (seg : Nat) : State :=
  let set := (s.allDeltas.map (fun d => d.2.1)).filter (fun l => l / 3200 == seg)
  let kept := fun (l : Nat) => set.contains l
  let ranges := s.tr.ns.flatMap (fun n =>
    let mine := (List.range (n.granules.length * 65536)).filter (fun k => decide (n.ltn k / 3200 = seg) && !kept (n.ltn k))
    (runsOf mine).map (fun r => (n, r)))
  (s.each ranges (fun s x => s.lostRange x.1 x.2.1 x.2.2)).aev 17 0x0401 []

/-- The copies of segments that fail their check are known for it from now on: a list of a segment's two newest copies, by its place
there. -/
def markCopies (bad : List (Nat × Nat)) (cs : List SegCopy) : List SegCopy :=
  (cs.zip (List.range cs.length)).map (fun p =>
    let at' := (cs.take p.2).filter (fun c => c.seg == p.1.seg)
    { p.1 with bad := p.1.bad || bad.contains (p.1.seg, at'.length) })

/-- The map is rebuilt (R193): each segment that a copy or a delta names. -/
def State.rebuildMap (s : State) (bad : List (Nat × Nat)) : State :=
  let s := s.updTr (fun t => { t with segs := markCopies bad t.segs })
  let all := (s.tr.segs.map (fun c : SegCopy => c.seg) ++ s.allDeltas.map (fun d : Nat × Nat × MapEntry => d.2.1 / 3200)).foldl (fun l g => addOnce g l) []
  let s := s.updTr (fun t => { t with map := all.foldl (fun m g => s.rebuildSeg g m) [] })
  s.each (all.filter (fun g => s.segLost g)) (fun s g => s.loseSegment g)

/-- Step 12 (R340 steps 2 and 3, R341, R460, R301, R554): the map from its copies and deltas, with what the ledger's deltas have still
to write, the tarts to be poisoned, the dies, and the loop states. Firmware places data in DRAM from here on (R360). -/
def State.rebuild (s : State) (f : Found) : State :=
  let s := (s.wr Fd.DRC_CFG_SERVICE 1).rebuildMap f.badCopies
  let s := s.each (s.tr.mapq.filter (fun w => w.written && s.recValid w.jseq)) (fun s w => s.mapWrite w)
  let s := (s.each s.lg.stale (fun s l => s.staleTart l)).updLg (fun l => { l with stale := [] })
  let s := s.updRg (fun r => { r with loops := r.saved })
  let s := s.each ((List.range s.variant.slotsN).filter (fun n => (s.slot n).st == .training)) (fun s n => s.decideSlot n f.dies)
  ((s.dropMissing.noteLoss.sizeFlush).setBudget).toStep 13

/-- Commit replay of one version (R340 step 4): reloaded into both DRAM copies when every unit has its directory word and the
tart's LSN, else a deferred write error of cause 3. -/
def State.replay (s : State) (v : Ver) (bad : List Nat) : State :=
  if v.units.all (fun u => u == 0xFFFF || s.dirValid u) = true ∧ v.id ∉ bad then
    (s.updTr (fun t => { t with vers := updWhere (fun x => x.id == v.id) (fun x => { x with
      st := .committed, prim := true, mirror := s.variant.twin, primBad := false, mirrorBad := false, primTag := false,
      mirrorTag := false, pins := 0 }) t.vers })).updLg
      (fun l => { l with reloaded := l.reloaded ++ [v.id], flushOld := l.flushOld ++ v.held })
  else
    let r := s.verRange v
    let s := s.updTr (fun t => { t with vers := t.vers.filter (fun x => x.id != v.id) })
    (s.deferError v.fn v.nsid r.1 r.2 3 [v.ltn]).satisfy v.ltn s.lg.jseq

/-- A half-erased die block is erased again from the beginning, with a new erase-intent record (R244). -/
def State.eraseAgain (s : State) (e : Erase) : State :=
  if (s.die e.die).st ≠ 1 then s
  else
    let t := s.updMd (fun m => { m with
      erases := m.erases.filter (fun x => x != e), ops := m.ops.filter (fun o => !(o.die == e.die && o.why == .erase && o.ppa == e.blk)) })
    (t.eraseIntent e.die e.blocks).getD s

/-- Unsafe Shutdowns, the count of power-loss sequences and LDG_FLUSH (R340 step 6). -/
def State.countFlush (s : State) : State :=
  let s := match s.lg.flushRec with
    | some (n, complete, notShut) =>
      let s := ((s.wr Fd.LDG_FLUSH_UNITS n).wr Fd.LDG_FLUSH_COMPLETE (boolNat complete)).wr Fd.LDG_FLUSH_UNSAFE (boolNat notShut)
      let s := s.count Fd.LDG_CNT_PLOSS_COUNT
      if notShut then s.updLg (fun l => { l with badShut := l.badShut + 1 }) else s
    | none => (s.wr Fd.LDG_STAT_FLUSHINC 1).updLg (fun l => { l with badShut := l.badShut + 1 })
  s.updLg (fun l => { l with flushRec := none, toRelease := true })

/-- The keys are those of the newest whole copy of the key table (R489); `ids` are the namespaces whose keys neither copy unwraps
(R490). -/
def State.takeKeys (s : State) (ids : List Nat) : State :=
  let key := fun (n : Ns) => if ids.contains n.id then none
    else match s.keyTable with
      | some t => (t.keys.find? (fun e => e.1 == n.id)).map (fun e => e.2)
      | none => if s.md.keyBlks.isEmpty then n.key else none
  (s.count Fd.SEC_CNT_UNWRAPFAIL_COUNT (s.tr.ns.filter (fun n => (key n).isNone)).length).updTr (fun t => { t with
    ns := t.ns.map (fun n => { n with key := key n }) })

/-- A start that finds SANPEND set repeats the sanitize from step 3 (R492); no command waits for its end. -/
def State.resumeSanitize (s : State) : State :=
  match s.keyTable.map (fun t => t.sanpend) with
  | none | some 0 => s
  | some a =>
    let id := s.nv.nextCtx
    let block := a == 2 || s.kekSpent
    let s := (s.updNv (fun n => { n with sanitize := some id, nextCtx := id + 1 })).updMd (fun m => { m with
      sanAt := if block then some (0, 0) else none })
    let s := ((s.wr Fd.SEC_SANITIZE_ACTION a).wr Fd.SEC_SANITIZE_STATE 1).wr Fd.SEC_SANITIZE_PROGRESS 0
    ((s.newKeys.wr Fd.SEC_SANITIZE_STEP 4).changeKeys 0 id).goKeys.pumpSanitize

/-- Step 13 (R340 steps 4 to 7, R337, R244, R489, R554): the keys, replay, programs interrupted at their dies, superblocks, open
stripes, half-erased die blocks and a sanitize that was interrupted. The release of the epoch follows with EPOCH_RELEASE. -/
def State.recover (s : State) (f : Found) : State :=
  let s := s.takeKeys f.lostKeys
  let s := s.updTr (fun t => { t with vers := t.vers.filter (fun v => v.st == .committed || v.st == .programming) })
  let vs := sortBy (fun (a b : Ver) => decide (a.oseq < b.oseq)) (s.tr.vers.filter (fun v => !v.units.isEmpty))
  let s := s.each vs (fun s v => s.replay v f.badVers)
  let s := s.each (s.md.ops.filter (fun o => o.kind == .program && o.st == .busy)) (fun s o => s.programFailed o)
  let s := s.settleVictims.closeOpenStripes
  let s := s.each s.md.erases (fun s e => s.eraseAgain e)
  (s.countFlush.updSpace).resumeSanitize.toStep 14

/-! ### Step 15 -/

/-- The mode after recovery: normal, or protected commit while the hold-up is not ready (R331). -/
def State.enterMode (s : State) : State :=
  let r := s.holdReady
  (s.wr Fd.LDG_STAT_MODE (boolNat (!r))).wr Fd.LDG_STAT_HOLDRDY (boolNat r)

/-- Step 15 (R461, R455, R393): the host link is enabled, the attempt word completed, an event with the bank, SETGEN and the
beat counter; then the other half is brought up to date. -/
def State.enterService (s : State) (h : Half) : State :=
  let s := s.updMd (fun d => { d with u0 := if d.u0 = 0 then s.usable else d.u0 })
  let s := s.enterMode.updHub (fun u => { u with
    linkOn := true, drill := { u.drill with next := s.time.beat + s.rd Fd.CLP_DRILLCFG_PERIOD * hourBeats } })
  let b := s.rd Fd.BTA_STAT_RUNBANK
  let s := match s.bt.attempt with
    | some (k, j) => if k = b then s.progOpt (descIdx k (4 + j)) 0 else s
    | none => s
  let s := (s.aev 0 0x1103 [b, s.setgen b, s.time.beat, 0]).toStep 16
  let o := otherHalf h
  if (s.half o).st = .loading then s.beginSync o else s

/-! ### The rows -/

/-- Each step of R461 as the booting half ends it. -/
def State.stepDone (s : State) (h : Half) (r : StepRes) : State :=
  match s.rd Fd.BTA_BOOTSTAT_STEP with
  | 1 => if r.ok then s.toStep 2 else s.bootFails h 5
  | 2 => match s.chooseCopies (s.copyPasses 0 r.copyA) (s.copyPasses 1 r.copyB) with
    | none => s.stopStart 1
    | some t => if t.optVariant = variantCode s.variant then t.toStep 3 else t.stopStart 2
  | 3 => (s.settleArray r.badSectors r.dead).toStep 4
  | 4 => s.selectBank
  | 5 => s.checkConfig r
  | 6 => s.loadFirmware h r
  | 7 => s.otherLoaded h r.otherOk
  | 8 => (s.scanLedger r.found.badRecords).toStep 9
  | 9 => (s.trainDram r).commitFirst h
  | 10 => s.enrolAll h
  | 11 => if s.slotsTrained then s.toStep 12 else s
  | 12 => s.rebuild r.found
  | 13 => s.recover r.found
  | 14 => s.copyRom.toStep 15
  | 15 => if s.nv.sanitize.isSome then s else s.enterService h
  | _ => s

/-- STARTUP_STEP_COMPLETE (R461, R463). -/
def execStartupStepComplete (r : StepRes) (s : State) : Host.Outcome State Fault Refusal :=
  .next (match s.booting with
    | some h => s.stepDone h r
    | none => s)

/-- The limit of a step in bars (R462); in steps 12 to 14 it runs from the last change of PROGRESS. -/
def stepLimit (n : Nat) : Nat :=
  if n = 1 then 20 else if n ≤ 5 then 10 else if n = 6 then 50 else if n = 7 then 80 else if n = 8 then 30
  else if n = 9 then 600 else if n ≤ 11 then 400 else if n ≤ 14 then 1000 else 5

/-- STARTUP_STEP_TIMEOUT (R462, R463): the half whose step exceeds its limit fails; in step 7 that is the other half. -/
def execStartupStepTimeout (s : State) : Host.Outcome State Fault Refusal :=
  .next (match s.booting with
    | some h =>
      let n := s.rd Fd.BTA_BOOTSTAT_STEP
      if s.time.beat < s.bt.stepAt + 250 * stepLimit n then s
      else if n = 7 then s.otherLoaded h false
      else s.bootFails h 1
    | none => s)

end Sys2Proof.Machine
end

