-- ==== Sys2Proof/Machine/Loss.lean ====
section
/-! DEFINITION. The power-loss sequence (R334 to R337, R415, R533) and the release of a flush epoch (R339), with the commands
POWER_LOSS_DETECTED, FLUSH_START, FLUSH_DONE_WRITE and EPOCH_RELEASE. -/

namespace Sys2Proof.Machine

/-! ### Detection -/

/-- Start-up has not begun the recovery from the ledger, or stopped before it (R463): a detection stops it, and nothing is
written (R533). -/
def State.beforeRecovery (s : State) : Bool :=
  let n := s.rd Fd.BTA_BOOTSTAT_STEP
  let c := s.rd Fd.BTA_BOOTSTAT_CAUSE
  !s.hub.linkOn && (decide (n < 8) || (n == 17 && (c == 1 || c == 2 || c == 3)))

/-- A power loss before the activation hold ends the activation under the old image (R487); during the hold the halves write
nothing. -/
def State.lossMeetsAct (s : State) : State :=
  match s.sv.act with
  | some a =>
    if a.holdAt.isSome ∧ a.changed.isNone then s
    else { s with sv := { s.sv with act := none } }.wr Fd.QUE_ACT_STATE 0
  | none => s

/-- The sequence begins (R334, within 1 µs): parts whose COMMIT body is not begun are dropped, their commands end without a
completion, and no new read is issued. A drill is abandoned (R406), a test ends (R523), and the RETAIN domains of the active half
go ON (R542). -/
def State.beginLoss (s : State) (why : Nat) : State :=
  let s := (match s.active with | some h => s.lossMeetsAct.wakeHalf h | none => s.lossMeetsAct).updLg (fun l => { l with loss := some ⟨s.time.beat, false, false, 0, why⟩ })
  let s := ((s.wr Fd.LDG_STAT_MODE 2).when (!s.hub.fenced) State.abandonDrill).testMeets 5
  let early := s.tr.parts.filter (fun p => p.st == .wait || p.st == .filling)
  let s := s.each early (fun s p => s.dropPart p)
  s.each (early.filterMap (fun p => p.ctx)) (fun s c => if s.tr.parts.any (fun q => q.ctx == some c) then s else s.killCtx c)

/-- POWER_LOSS_DETECTED (R334, R533): PF is latched. Before recovery has begun, start-up stops at once; with a sequence in
progress, or in the fenced state, whose entry takes the place of detection, nothing further begins. -/
def execPowerLossDetected (s : State) : Host.Outcome State Fault Refusal :=
  .next (
    let s := ((s.wr Fd.LDG_STAT_PF 1).wr Fd.PWR_STAT_PWRFAIL 1).testMeets 5
    if s.lg.loss.isSome ∨ s.hub.fenced = true then s
    else if s.beforeRecovery then s.updLg (fun l => { l with loss := some ⟨s.time.beat, false, false, 0, 0⟩ })
    else
      let s := s.aev 0 0x0A02 [s.rd Fd.LDG_STAT_EPOCH, s.unitsToFlush.length, boolNat s.holdReady, s.rd Fd.LDG_HOLDSTAT_BUDGET]
      s.beginLoss 0)

/-! ### The flush -/

/-- The dies at boundary p + 1: reads in flight are dropped, erases in flight are ended by die reset and stay half-erased,
suspended operations stay suspended, and what was chosen is not issued. -/
def State.clearDies (s : State) : State :=
  let keep := fun (o : Op) => o.st == .suspended || o.kind == .program || (o.kind == .erase && o.st == .wait)
  s.updMd (fun m => { m with
    ops := (m.ops.filter keep).map (fun o => if o.st = .chosen then { o with st := .wait } else o) })

/-- The flush starts: every slot belongs to it, and every unit without a directory word is queued for the flush reserve. -/
def State.startFlush (s : State) : State :=
  (s.settleSlots.clearDies.updLg (fun l => { l with loss := l.loss.map (fun x => { x with flushing := true }) })).formLossFlush

/-- FLUSH_START (R334): at boundary p + 1, or in the fenced state for its flusher, from the second row of the sequence
onward (R415). -/
def execFlushStart (s : State) : Host.Outcome State Fault Refusal :=
  .next (
    if s.hub.fenced then
      if s.hub.flusher.isSome ∧ s.lg.loss.isNone ∧ s.hub.outputsHeld = false then (s.beginLoss 0).startFlush else s
    else match s.lg.loss with
      | some l => if l.flushing = false ∧ l.at_ + 1 ≤ s.time.beat ∧ s.beforeRecovery = false ∧ s.active.isSome ∧ s.hub.hold = false then
          s.startFlush else s
      | none => s)

/-- Programs in flight at a die. -/
def State.programsInFlight (s : State) : Bool := s.md.ops.any (fun o => o.kind == .program && o.st == .busy)

/-- UNSAFE of FLUSH_DONE (R319, R415). -/
def State.unsafeNow (s : State) : Bool :=
  s.hub.fenced || (List.range 256).any (fun f => (s.fn f).en && (s.fn f).shst != 2)

/-- The records of the queue are written, and the writer stops (R334, R506). -/
def State.lastRecords (s : State) : State :=
  (s.each (List.range (s.evt.queue.length + 1)) (fun s _ => s.takeRecord)).updEvt (fun e => { e with stopped := true })

/-- The reset that follows the sequence: the device reset that asked for it, or the hold-up reset when PWRFAIL_N is sampled
high again (R336, R464). -/
def State.resetAfter (s : State) (l : PLoss) (high : Bool) : State :=
  if l.why = 1 then s.powerOn 6 0 else if high then s.powerOn 4 0 else s

/-- The rest of a withdrawal (R517 steps 2 and 3): the functions are reset as at a link-down, DRAM leaves service. -/
def State.endWithdrawal (s : State) : State :=
  let s := s.updLg (fun g => { g with loss := none })
  let s := s.each ((List.range 256).filter (fun f => (s.fn f).en)) (fun s f => s.resetController f)
  (s.wr Fd.DRC_CFG_SERVICE 0).wr Fd.TST_STAT_WITHDRAWN 1

/-- FLUSH_DONE is written (R334, R319): then no further ledger or flash writes, and the hub holds its outputs. While no channel
is in use no unit can be flushed, and COMPLETE is clear. -/
def State.writeFlushDone (s : State) (l : PLoss) (high : Bool) : State :=
  let complete := !s.channelsUsed.isEmpty
  let pend := s.unitsToFlush.any (fun u => !s.unitFlushed u)
  if s.programsInFlight = true ∨ (complete = true ∧ pend = true) then s
  else match s.writeRec (.flushDone l.units (s.rd Fd.LDG_STAT_EPOCH) complete s.unsafeNow l.at_) with
    | none => s
    | some t =>
      let t := t.updLg (fun g => { g with loss := some { l with done := true }, flushRec := some (l.units, complete, s.unsafeNow) })
      let t := t.wr Fd.LDG_HOLDSTAT_LAST (min 65535 (t.time.beat - l.at_))
      if l.why = 2 then t.endWithdrawal
      else
      let t := t.lastRecords
      let t := if t.hub.fenced then t.wr Fd.SAF_FENCE_FLUSHED 1 else t
      (t.updHub (fun u => { u with outputsHeld := true })).resetAfter l high

/-- FLUSH_DONE_WRITE (R334, R335, R336, R464). After FLUSH_DONE the command reports PWRFAIL_N again; so it does when start-up
was stopped before recovery. -/
def execFlushDoneWrite (high : Bool) (s : State) : Host.Outcome State Fault Refusal :=
  .next (match s.lg.loss with
    | none => s
    | some l =>
      if l.done then s.resetAfter l high
      else if l.flushing then s.writeFlushDone l high
      else if s.beforeRecovery then s.resetAfter l high else s)

/-! ### The epoch (R339) -/

/-- Every version that recovery reloaded is in the write buffer in every copy that the variant has, or mapped since. -/
def State.reloadedOk (s : State) : Bool :=
  s.lg.reloaded.all (fun i => match s.ver i with
    | some v => v.prim && (v.mirror || !s.variant.twin || v.mirrorBad)
    | none => true)

/-- The blocks of the released epoch take nothing more until they are erased. -/
def State.sealReserve (s : State) : State :=
  s.each (s.flushBlks.filter (fun p => decide (0 < s.flushUsed p))) (fun s p => s.setFlushUsed p (s.flushCap p.1))

/-- EPOCH_RELEASE (R339, R340 step 7): RELEASE is written, the epoch advances, and the reserve blocks are erased. -/
def execEpochRelease (s : State) : Host.Outcome State Fault Refusal :=
  .next (
    if s.lg.toRelease = true ∧ s.reloadedOk = true ∧ s.holdReady = true ∧ s.active.isSome ∧ s.hub.hold = false ∧ s.lg.loss.isNone ∧
        s.hub.fenced = false then
      let e := s.rd Fd.LDG_STAT_EPOCH
      match s.writeRec (.release e) with
      | some t =>
        let t := t.wr Fd.LDG_STAT_EPOCH ((e + 1) % 65536)
        (t.updLg (fun l => { l with toRelease := false, reloaded := [], flushOld := [] })).sealReserve.eraseReserve
      | none => s
    else s)

end Sys2Proof.Machine
end

