-- ==== Sys2Proof/Machine/Port.lean ====
section
/-! DEFINITION. The service port (R467 to R470, R495): who serves it, the I3C target and its CCCs, MCTP packets and control
messages, PLDM type 0, and replies as the port holds them. -/

namespace Sys2Proof.Machine

/-! ### Who serves (R400, R401, R473, R495) -/

/-- The firmware of the clapper holder serves the port: not in a hold, not in the fenced state. -/
def State.svcFull (s : State) : Bool :=
  match s.active with
  | some h => !(s.half h).gone && !s.hub.hold && !s.hub.fenced && !s.hub.outputsHeld && s.bt.run.fwOk && !s.sv.recovery
  | none => false

/-- The half whose mask ROM serves the port (R495): the booting half when start-up has stopped; in the fenced state, once the outputs
are held, Half A, unless a fault of Half A caused the fence and Half B is present and not HELD. -/
def State.romHalf (s : State) : Option Half :=
  if s.hub.fenced = true ∧ s.hub.outputsHeld = true then
    some (if s.hub.a.gone = true ∧ s.variant.twin = true ∧ s.hub.b.st ≠ .held then .b else .a)
  else if s.sv.recovery then some (if s.rd Fd.BTA_BOOTSTAT_HALF = 0 then .a else .b)
  else none

/-- The recovery responder of a mask ROM serves the port (R495). -/
def State.svcRecovery (s : State) : Bool := s.romHalf.isSome

/-- A request that arrives while nothing serves the port, or while a test cuts it off (R514), waits: it changes nothing, and is
issued again. -/
def State.svcUp (s : State) : Bool := !s.portCut && (s.svcFull || s.svcRecovery)

def State.updSv (s : State) (f : Svc → Svc) : State := { s with sv := f s.sv }

/-! ### Replies (R468) -/

def State.raiseIbi (s : State) : State :=
  if s.rd Fd.SVC_I3C_IBIEN = 1 ∧ s.sv.pkts.isEmpty = false ∧ s.portCut = false then s.emit .ibi else s

/-- A reply, one packet (DESIGN CHOICE, log entry 59): held while fewer than 8 are, else it waits. CODE is the message type of
R469 times 256 plus the message's number: its code of R476 for a service command, and otherwise the model's own number, by
the message's place in the list of its rule, from 1 (0x50 more for PLDM type 5). -/
def State.reply (s : State) (code : Nat) (fields : List Nat) : State :=
  if s.sv.pkts.length < 8 then (s.updSv (fun v => { v with pkts := v.pkts ++ [(code, fields)] })).raiseIbi
  else s.updSv (fun v => { v with waitPkts := v.waitPkts ++ [(code, fields)] })

/-- The bus owner reads the first packet held: its place is free for the first that waits. -/
def State.readPacket (s : State) : State :=
  match s.sv.pkts with
  | [] => s
  | p :: t =>
    (((s.emit (.mctp p.1 p.2)).updSv (fun v => { v with pkts := t ++ v.waitPkts.take 1, waitPkts := v.waitPkts.drop 1 }))).raiseIbi

/-- OUTBOUND_PACKET_READ (R468). -/
def execOutboundPacketRead (s : State) : Host.Outcome State Fault Refusal :=
  .next (if s.svcUp then s.readPacket else s)

/-! ### The I3C target (R467) -/

/-- A CCC reaches the target unless a test cuts the port off (R514). -/
def State.ccc (s : State) (f : State → State) : State := if s.portCut then s else f s

def State.setDa (s : State) (da : Nat) : State := (s.wr Fd.SVC_I3C_DA (da % 128)).wr Fd.SVC_I3C_DAVALID 1

/-- PID: its bits above 11 are fixed, UNIT below. -/
def State.pid (s : State) : Nat := (Config.fixedValue 0).toNat % 2 ^ 36 * 2 ^ 12 + (s.optWord 2).toNat % 2 ^ 12

/-- ENTDAA (R467): a target without a dynamic address sends PID, BCR and DCR and takes one. -/
def execEntdaa (da : Nat) (s : State) : Host.Outcome State Fault Refusal :=
  .next (s.ccc (fun s => if s.rd Fd.SVC_I3C_DAVALID = 1 then s else (s.emit (.i3c [s.pid, 6, 0])).setDa da))

/-- SETDASA (R467): from the static address, while no dynamic address is assigned. -/
def execSetdasa (da : Nat) (s : State) : Host.Outcome State Fault Refusal :=
  .next (s.ccc (fun s => if s.rd Fd.SVC_I3C_DAVALID = 1 then s else s.setDa da))

/-- SETNEWDA (R467): a new address in place of the one assigned. -/
def execSetnewda (da : Nat) (s : State) : Host.Outcome State Fault Refusal :=
  .next (s.ccc (fun s => if s.rd Fd.SVC_I3C_DAVALID = 1 then s.setDa da else s))

/-- RSTDAA (R467). -/
def execRstdaa (s : State) : Host.Outcome State Fault Refusal :=
  .next (s.ccc (fun s => (s.wr Fd.SVC_I3C_DA 0).wr Fd.SVC_I3C_DAVALID 0))

/-- ENEC (R467, R468): IBIs enabled; a packet that is held raises one. -/
def execEnec (s : State) : Host.Outcome State Fault Refusal := .next (s.ccc (fun s => (s.wr Fd.SVC_I3C_IBIEN 1).raiseIbi))

/-- DISEC (R467). -/
def execDisec (s : State) : Host.Outcome State Fault Refusal := .next (s.ccc (fun s => s.wr Fd.SVC_I3C_IBIEN 0))

/-- GETPID (R467). -/
def execGetpid (s : State) : Host.Outcome State Fault Refusal := .next (s.ccc (fun s => s.emit (.i3c [s.pid])))

/-- GETBCR (R467). -/
def execGetbcr (s : State) : Host.Outcome State Fault Refusal := .next (s.ccc (fun s => s.emit (.i3c [6])))

/-- GETDCR (R467). -/
def execGetdcr (s : State) : Host.Outcome State Fault Refusal := .next (s.ccc (fun s => s.emit (.i3c [0])))

/-- GETSTATUS (R467): the status word is not stated (a free value). -/
def execGetstatus (s : State) : Host.Outcome State Fault Refusal :=
  .next (s.ccc (fun s =>
    let a := s.free
    a.2.emit (.i3c [a.1 % 2 ^ 16])))

/-- GETMWL (R467). -/
def execGetmwl (s : State) : Host.Outcome State Fault Refusal := .next (s.ccc (fun s => s.emit (.i3c [s.sv.mwl])))

/-- GETMRL (R467). -/
def execGetmrl (s : State) : Host.Outcome State Fault Refusal := .next (s.ccc (fun s => s.emit (.i3c [s.sv.mrl])))

/-- The payload of a packet: 248 B once MWL and MRL are at least 256, else 64 B (R469). -/
def State.noteTu (s : State) : State := s.wr Fd.SVC_I3C_TU (if 256 ≤ s.sv.mwl ∧ 256 ≤ s.sv.mrl then 248 else 64)

/-- SETMWL (R467): 64 to 256 bytes; any other value is not accepted. -/
def execSetmwl (v : Nat) (s : State) : Host.Outcome State Fault Refusal :=
  .next (s.ccc (fun s => if 64 ≤ v ∧ v ≤ 256 then (s.updSv (fun x => { x with mwl := v })).noteTu else s))

/-- SETMRL (R467). -/
def execSetmrl (v : Nat) (s : State) : Host.Outcome State Fault Refusal :=
  .next (s.ccc (fun s => if 64 ≤ v ∧ v ≤ 256 then (s.updSv (fun x => { x with mrl := v })).noteTu else s))

/-! ### Sessions (R470) -/

def State.sess (s : State) (id : Nat) : Option Sess := s.sv.sess.find? (fun x => x.id == id && x.est)

/-- An established operator session. -/
def State.operSess (s : State) (id : Nat) : Bool := s.sv.sess.any (fun x => x.id == id && x.est && x.oper)

def State.updSess (s : State) (id : Nat) (f : Sess → Sess) : State :=
  s.updSv (fun v => { v with sess := updWhere (fun x => x.id == id) f v.sess })

/-- A message of a session restarts its heartbeat period (R473). -/
def State.touch (s : State) (id : Nat) : State := s.updSess id (fun x => { x with last := s.time.beat })

/-- A message that needs an operator session: outside one it is discarded and counted. -/
def State.oper (s : State) (id : Nat) (f : State → State) : State :=
  if s.svcUp = false then s
  else if s.operSess id then f (s.touch id)
  else s.count Fd.SVC_CNT_AUTHFAIL_COUNT

/-! ### MCTP (R469) -/

/-- A packet: discarded and counted when its PEC or its assembly fails; an assembled message of type 1 (PLDM type 5) or 0x7F
outside an operator session is discarded and counted; a secured message is taken within a session; any other type is
discarded. What an accepted message does is its own row. -/
def State.packet (s : State) (p : Packet) : State :=
  if p.pecOk = false ∨ p.asmOk = false then s.count Fd.SVC_CNT_PKTERR_COUNT
  else if p.eom = false then s
  else
    let within := match p.sess with | some i => s.operSess i | none => false
    if (p.typ = 1 ∧ p.fwUpdate = true) ∨ p.typ = 0x7F then
      if within then s else s.count Fd.SVC_CNT_AUTHFAIL_COUNT
    else match p.sess with
      | some i => if p.typ = 6 then s.touch i else s
      | none => s

/-- MCTP_PACKET (R468, R469, R470). -/
def execMctpPacket (pkt : Packet) (s : State) : Host.Outcome State Fault Refusal :=
  .next (if s.svcUp then s.packet pkt else s)

/-- SET_ENDPOINT_ID (R469): the null and the broadcast EID are not assigned (PRESUMED, log entry 60). The answer: 0 accepted
or 1, and the EID. -/
def execSetEndpointId (eid : Nat) (s : State) : Host.Outcome State Fault Refusal :=
  .next (if s.svcUp = false then s
    else if eid = 0 ∨ 255 ≤ eid then s.reply 0x001 [1, s.rd Fd.SVC_MCTP_EID]
    else ((s.wr Fd.SVC_MCTP_EID eid).wr Fd.SVC_MCTP_EIDVALID 1).reply 0x001 [0, eid])

/-- GET_ENDPOINT_ID (R469). -/
def execGetEndpointId (s : State) : Host.Outcome State Fault Refusal :=
  .next (if s.svcUp then s.reply 0x002 [s.rd Fd.SVC_MCTP_EID] else s)

/-- GET_MCTP_VERSION_SUPPORT (R469): 1.3. -/
def execGetMctpVersionSupport (s : State) : Host.Outcome State Fault Refusal :=
  .next (if s.svcUp then s.reply 0x003 [1, 3] else s)

/-- GET_MESSAGE_TYPE_SUPPORT (R469). -/
def execGetMessageTypeSupport (s : State) : Host.Outcome State Fault Refusal :=
  .next (if s.svcUp then s.reply 0x004 [0x00, 0x01, 0x05, 0x06, 0x7F] else s)

/-- GET_VENDOR_DEFINED_MESSAGE_SUPPORT (R469): Serustra's IANA enterprise number. -/
def execGetVendorDefinedMessageSupport (s : State) : Host.Outcome State Fault Refusal :=
  .next (if s.svcUp then s.reply 0x005 [(Config.fixedValue 1).toNat] else s)

/-! ### PLDM type 0 (R469) -/

/-- GETTID (R469). -/
def execGettid (s : State) : Host.Outcome State Fault Refusal := .next (if s.svcUp then s.reply 0x101 [s.sv.tid] else s)

/-- SETTID (R469). -/
def execSettid (tid : Nat) (s : State) : Host.Outcome State Fault Refusal :=
  .next (if s.svcUp then (s.updSv (fun v => { v with tid := tid })).reply 0x102 [tid] else s)

/-- GETPLDMVERSION (R469): the versions are not stated. -/
def execGetpldmversion (s : State) : Host.Outcome State Fault Refusal :=
  .next (if s.svcUp then s.reply 0x103 [(Config.fixedValue 3).toNat, (Config.fixedValue 4).toNat] else s)

/-- GETPLDMTYPES (R469): types 0 and 5. -/
def execGetpldmtypes (s : State) : Host.Outcome State Fault Refusal :=
  .next (if s.svcUp then s.reply 0x104 [0, 5] else s)

/-- GETPLDMCOMMANDS (R469, R478): the commands of type 0 and of type 5, by the model's numbers. -/
def execGetpldmcommands (s : State) : Host.Outcome State Fault Refusal :=
  .next (if s.svcUp then s.reply 0x105 (List.range' 1 5 ++ List.range' 0x51 13) else s)

end Sys2Proof.Machine
end

