-- ==== Sys2Proof/Machine/Spdm.lean ====
section
/-! DEFINITION. Attestation and the random generator (R470 to R475, R493): the SPDM responder over its three transports,
measurements, sessions, and the commands that carry SPDM over the host link. -/

namespace Sys2Proof.Machine

/-! ### Transports (R474) -/

def trKey : Transport → Nat
  | .mctp => 0
  | .doe p => 1 + p % 2
  | .secp f => 8 + f

/-- How far a transport's requester has come: 1 GET_VERSION, 2 GET_CAPABILITIES, 3 NEGOTIATE_ALGORITHMS (R470). -/
def State.spdmStage (s : State) (tr : Transport) : Nat := spGet (fun _ => 0) s.sv.spdm (trKey tr)

def State.setSpdmStage (s : State) (tr : Transport) (n : Nat) : State :=
  s.updSv (fun v => { v with spdm := spSet (fun _ => 0) v.spdm (trKey tr) n })

/-- An answer goes back by the transport of its request; CODE is the request's place in the list of R473, from 1, and 0 for an
error. Over SECP E8h it is kept for Security Receive. -/
def State.answer (s : State) (tr : Transport) (code : Nat) (fields : List Nat) : State :=
  match tr with
  | .mctp => s.reply (0x500 + code) fields
  | .doe p => s.emit (.doe p code fields)
  | .secp f => s.updSv (fun v => { v with secResp := spSet (fun _ => []) v.secResp f (code :: fields) })

/-- The service port reaches the responder whenever it is served; the host link only that of the firmware. -/
def State.spdmUp (s : State) : Transport → Bool
  | .mctp => s.svcUp
  | _ => s.svcFull

/-- A request, taken once its transport has reached the stage it needs; before that the answer is an error (PRESUMED, log entry
61). In a hold DOE reports Busy. -/
def State.spdm (s : State) (tr : Transport) (need : Nat) (f : State → State) : State :=
  if s.spdmUp tr then (if s.spdmStage tr < need then s.answer tr 0 [] else f s)
  else match tr with
    | .doe p => if s.hub.hold then s.emit (.doeBusy p) else s
    | _ => s

/-! ### Connection -/

/-- GET_VERSION (R470, R473): versions 1.2 and 1.3. -/
def State.spdmVersion (s : State) (tr : Transport) : State := s.spdm tr 0 (fun s => (s.setSpdmStage tr 1).answer tr 1 [0x12, 0x13])

/-- GET_CAPABILITIES (R473): CERT, CHAL, MEAS with signature, KEY_EX, MUT_AUTH, ENCAP, ENCRYPT, MAC, HBEAT and KEY_UPD, by their
place in that row; data transfer size 4,096. -/
def State.spdmCaps (s : State) (tr : Transport) : State :=
  s.spdm tr 1 (fun s => (s.setSpdmStage tr (max 2 (s.spdmStage tr))).answer tr 2 [2 ^ 10 - 1, 4096])

/-- NEGOTIATE_ALGORITHMS (R473): one choice of each kind, by its place in that row. -/
def State.spdmAlgs (s : State) (tr : Transport) : State :=
  s.spdm tr 2 (fun s => (s.setSpdmStage tr 3).answer tr 3 [1, 2, 3, 4, 5, 6])

/-- The digest of the chain in slot 0: Serustra root, DeviceID, alias. It depends on the alias certificate alone. -/
def State.chainDigest (s : State) : Nat := (Config.sha384 [0x100, s.sv.aliasGen]).toNat

/-- GET_DIGESTS (R473): slot 0 only. -/
def State.spdmDigests (s : State) (tr : Transport) : State := s.spdm tr 3 (fun s => s.answer tr 4 [1, s.chainDigest])

/-- GET_CERTIFICATE (R473): the three certificates of slot 0; the other slots are empty. -/
def State.spdmCert (s : State) (tr : Transport) (slot : Nat) : State :=
  s.spdm tr 3 (fun s => if slot = 0 then s.answer tr 5 [0, s.sv.aliasGen] else s.answer tr 0 [])

/-- CHALLENGE (R473): signed with the alias key; the signature's bits are not modelled. -/
def State.spdmChallenge (s : State) (tr : Transport) (slot : Nat) : State :=
  s.spdm tr 3 (fun s => if slot = 0 then s.answer tr 6 [0, s.chainDigest] else s.answer tr 0 [])

/-! ### Measurements (R475) -/

def fwNums (f : FwMeta) : List Nat := [f.fwver, f.secver, f.statefmt, f.readmin]

/-- What a measurement is the digest of, as far as the model keeps it: an index and what the measured thing is known by (log
entry 62). -/
def State.measuredIdx (s : State) (i : Nat) : List Nat :=
  let b := s.rd Fd.BTA_STAT_RUNBANK
  match i with
  | 1 => [1]
  | 2 => 2 :: fwNums s.bt.run.fw
  | 3 => [3, s.bt.run.cfgver] ++ s.bt.run.entries.flatMap (fun e => [e.1, e.2.1, e.2.2])
  | 4 => [4, b, s.setgen b]
  | 5 => [5, s.rd Fd.SEC_FUSE_SECVER, s.rd Fd.SEC_FUSE_KEKGEN, s.bt.run.fw.secver]
  | 6 => [6, s.rd Fd.SVC_CONSOLE_LEVEL]
  | 7 => [7, b, s.setgen b, s.bankState 0, s.bankState 1]
  | _ => [8, (s.optWord (descIdx (1 - b) 0)).toNat]

/-- A set is staged in the other bank. -/
def State.stagedOther (s : State) : Bool :=
  let n := s.bankState (1 - s.rd Fd.BTA_STAT_RUNBANK)
  n == 2 || n == 3

/-- The value of a measurement: index 2 is zero in recovery (R495), index 8 when no set is staged. -/
def State.measurement (s : State) (i : Nat) : Nat :=
  if (i = 2 ∧ s.svcFull = false) ∨ (i = 8 ∧ s.stagedOther = false) then 0 else (Config.sha384 (s.measuredIdx i)).toNat

/-- GET_MEASUREMENTS (R475): index 0 asks for their number and 0xFF for all of them (PRESUMED, log entry 61). -/
def State.spdmMeas (s : State) (tr : Transport) (idx : Nat) : State :=
  s.spdm tr 3 (fun s =>
    if idx = 0 then s.answer tr 7 [8]
    else if idx = 0xFF then s.answer tr 7 ((List.range' 1 8).map s.measurement)
    else if idx ≤ 8 then s.answer tr 7 [s.measurement idx]
    else s.answer tr 0 [])

/-! ### Sessions (R470, R473) -/

/-- KEY_EXCHANGE (R470, R474): sessions only over the service port, at most 4. A session that asked for mutual authentication, by a
requester whose chain ends in the operator key, is an operator session once established. -/
def State.spdmKeyExchange (s : State) (tr : Transport) (mutAuth opKey : Bool) : State :=
  s.spdm tr 3 (fun s =>
    if tr ≠ .mctp ∨ 4 ≤ s.sv.sess.length then s.answer tr 0 []
    else
      let id := s.sv.nextSess
      let s := s.updSv (fun v => { v with
        nextSess := v.nextSess + 1, sess := v.sess ++ [⟨id, mutAuth && opKey, false, none, s.time.beat, mutAuth⟩] })
      s.noteSess.answer tr 8 [id])

/-- A session ends, with its nonce (R476). -/
def State.closeSess (s : State) (id : Nat) : State :=
  (s.updSv (fun v => { v with sess := v.sess.filter (fun x => x.id != id) })).noteSess

/-- A session that is open, established or not, over the service port. -/
def State.withSess (s : State) (id : Nat) (f : Sess → State → State) : State :=
  if s.svcUp = false then s
  else match s.sv.sess.find? (fun x => x.id == id) with
    | some x => f x (s.touch id)
    | none => s.reply 0x500 []

/-- FINISH (R473): the session is established once mutual authentication, where it was asked for, is done; one that fails ends. -/
def State.spdmFinish (s : State) (id : Nat) (ok : Bool) : State :=
  s.withSess id (fun x s =>
    if x.est = true ∨ x.mutPend = true then s.reply 0x500 []
    else if ok then ((s.updSess id (fun y => { y with est := true })).noteSess).reply 0x509 [id]
    else (s.closeSess id).reply 0x500 [])

/-- A request within an established session. -/
def State.inSess (s : State) (id : Nat) (f : State → State) : State :=
  s.withSess id (fun x s => if x.est then f s else s.reply 0x500 [])

/-- GET_VERSION (R473). -/
def execGetVersion (tr : Transport) (s : State) : Host.Outcome State Fault Refusal := .next (s.spdmVersion tr)

/-- GET_CAPABILITIES (R473). -/
def execGetCapabilities (tr : Transport) (s : State) : Host.Outcome State Fault Refusal := .next (s.spdmCaps tr)

/-- NEGOTIATE_ALGORITHMS (R473). -/
def execNegotiateAlgorithms (tr : Transport) (s : State) : Host.Outcome State Fault Refusal := .next (s.spdmAlgs tr)

/-- GET_DIGESTS (R473). -/
def execGetDigests (tr : Transport) (s : State) : Host.Outcome State Fault Refusal := .next (s.spdmDigests tr)

/-- GET_CERTIFICATE (R473). -/
def execGetCertificate (tr : Transport) (slot : Nat) (s : State) : Host.Outcome State Fault Refusal := .next (s.spdmCert tr slot)

/-- CHALLENGE (R473). -/
def execChallenge (tr : Transport) (slot : Nat) (s : State) : Host.Outcome State Fault Refusal := .next (s.spdmChallenge tr slot)

/-- GET_MEASUREMENTS (R475). -/
def execGetMeasurements (tr : Transport) (idx : Nat) (s : State) : Host.Outcome State Fault Refusal := .next (s.spdmMeas tr idx)

/-- KEY_EXCHANGE (R470). -/
def execKeyExchange (tr : Transport) (mutAuth opKey : Bool) (s : State) : Host.Outcome State Fault Refusal :=
  .next (s.spdmKeyExchange tr mutAuth opKey)

/-- FINISH (R473). -/
def execFinish (sess : Nat) (ok : Bool) (s : State) : Host.Outcome State Fault Refusal := .next (s.spdmFinish sess ok)

/-- HEARTBEAT (R473): keeps the session alive. -/
def execHeartbeat (sess : Nat) (s : State) : Host.Outcome State Fault Refusal :=
  .next (s.inSess sess (fun s => s.reply 0x50A [sess]))

/-- KEY_UPDATE (R473): the session's keys, which the model does not hold, are replaced. -/
def execKeyUpdate (sess : Nat) (s : State) : Host.Outcome State Fault Refusal :=
  .next (s.inSess sess (fun s => s.reply 0x50B [sess]))

/-- END_SESSION (R473). -/
def execEndSession (sess : Nat) (s : State) : Host.Outcome State Fault Refusal :=
  .next (s.inSess sess (fun s => (s.closeSess sess).reply 0x50C [sess]))

/-- GET_ENCAPSULATED_REQUEST (R473): the device asks for the requester's certificate while mutual authentication is due. -/
def execGetEncapsulatedRequest (sess : Nat) (s : State) : Host.Outcome State Fault Refusal :=
  .next (s.withSess sess (fun x s => if x.mutPend then s.reply 0x50D [sess] else s.reply 0x500 []))

/-- DELIVER_ENCAPSULATED_RESPONSE (R473): the requester's certificate and signature; one that fails ends the session. -/
def execDeliverEncapsulatedResponse (sess : Nat) (ok : Bool) (s : State) : Host.Outcome State Fault Refusal :=
  .next (s.withSess sess (fun x s =>
    if x.mutPend = false then s.reply 0x500 []
    else if ok then (s.updSess sess (fun y => { y with mutPend := false })).reply 0x50E [sess]
    else (s.closeSess sess).reply 0x500 []))

/-- HEARTBEAT_TIMEOUT (R473): a session without a message within its heartbeat period of 30 s ends. -/
def execHeartbeatTimeout (sess : Nat) (s : State) : Host.Outcome State Fault Refusal :=
  .next (match s.sess sess with
    | some x => if x.last + 7500000 ≤ s.time.beat then s.closeSess sess else s
    | none => s)

/-! ### SPDM over the host link (R474) -/

/-- A request by its number; the certificate slot asked for is 0 and the measurement index 0xFF. Requests of sessions are not
in the scope of these transports. -/
def State.spdmRequest (s : State) (tr : Transport) : Nat → State
  | 1 => s.spdmVersion tr
  | 2 => s.spdmCaps tr
  | 3 => s.spdmAlgs tr
  | 4 => s.spdmDigests tr
  | 5 => s.spdmCert tr 0
  | 6 => s.spdmChallenge tr 0
  | 7 => s.spdmMeas tr 0xFF
  | _ => s.spdm tr 0 (fun s => s.answer tr 0 [])

/-- DOE_SPDM_REQUEST (R474): through DOE of PF0 or PF1; Busy during a hold. -/
def execDoeSpdmRequest (pf code : Nat) (s : State) : Host.Outcome State Fault Refusal :=
  .next (s.spdmRequest (.doe (pf % 2)) code)

/-- SECURITY_SEND (R474): SECP E8h carries an SPDM request; any other is refused. -/
def execSecuritySend (hd : Hdr) (secp code : Nat) (s : State) : Host.Outcome State Fault Refusal :=
  .next (s.beginAdmin hd (fun id s =>
    if secp = 0xE8 then (s.spdmRequest (.secp hd.fn) code).finish id 0 0 0 else s.finish id 0 2 0))

/-- SECURITY_RECEIVE (R474): SECP 00h lists the protocols 00h and E8h, SECP E8h returns the response that Security Send
left (none: an empty one). -/
def execSecurityReceive (hd : Hdr) (secp : Nat) (s : State) : Host.Outcome State Fault Refusal :=
  .next (s.beginAdmin hd (fun id s =>
    if secp = 0 then (s.emit (.spdm hd.fn hd.cid [0x00, 0xE8])).finish id 0 0 0
    else if secp = 0xE8 then
      let r := spGet (fun _ => []) s.sv.secResp hd.fn
      let s := s.updSv (fun v => { v with secResp := spSet (fun _ => []) v.secResp hd.fn [] })
      (s.emit (.spdm hd.fn hd.cid r)).finish id 0 0 0
    else s.finish id 0 2 0))

/-! ### The random generator (R493) -/

/-- RNG_HEALTH_FAILURE (R493). -/
def execRngHealthFailure (s : State) : Host.Outcome State Fault Refusal :=
  .next ((s.wr Fd.SEC_STAT_RNGOK 0).count Fd.SEC_CNT_RNGFAIL_COUNT)

/-- RNG_RESEED (R493): a reseed that passes. -/
def execRngReseed (s : State) : Host.Outcome State Fault Refusal := .next (s.wr Fd.SEC_STAT_RNGOK 1)

end Sys2Proof.Machine
end

