-- ==== Sys2Proof/Machine/Update.lean ====
section
/-! DEFINITION. Firmware update and activation (R478 to R487, R134, R135): PLDM type 5, staging into the target bank, activation with
and without reset, and the device reset of a service request (R464). -/

namespace Sys2Proof.Machine

/-! ### Banks and slots (R442, R478, R495) -/

/-- The slot of a component in a bank: its offset and its size. -/
def compSlot : Nat → Nat × Nat
  | 1 => (0x40_0000, 0xC0_0000)
  | 2 => (0x20_0000, 0x10_0000)
  | 3 => (0x30_0000, 0x10_0000)
  | _ => (0, 0)

/-- A component is supported: its identifier is known and its size fits its slot (R480). -/
def compFits (comp size : Nat) : Bool := decide (1 ≤ comp) && decide (comp ≤ 3) && decide (size ≤ (compSlot comp).2)

/-- The target bank T: the bank other than RUNBANK; in recovery the bank that is not CONFIRMED, or that of lower SETGEN when both
banks are in one state (R479, R495). Of two banks in different states of which neither is CONFIRMED, the manual names none: the
bank of lower SETGEN (DESIGN CHOICE, log entry 63). -/
def State.targetBank (s : State) : Nat :=
  if s.svcFull then 1 - s.rd Fd.BTA_STAT_RUNBANK
  else
    let c0 := s.bankState 0 == 4
    let c1 := s.bankState 1 == 4
    if c0 = true ∧ c1 = false then 1
    else if c0 = false ∧ c1 = true then 0
    else if s.setgen 1 < s.setgen 0 then 1 else 0

/-! ### Update mode -/

/-- Completion of a PLDM command, in the model's numbers: 0 accepted, 1 ALREADY_IN_UPDATE_MODE, 2 UNABLE_TO_INITIATE_UPDATE,
3 INVALID_STATE_FOR_COMMAND, 4 refused or not supported, 5 not in update mode. The commands are numbered by their place in
R478. -/
def pldm (n : Nat) : Nat := 0x150 + n

def State.setUpd (s : State) (f : Upd → Upd) : State := s.updSv (fun v => { v with upd := v.upd.map f })

/-- A PLDM message of the update, in the operator session that holds update mode. -/
def State.inUpdate (s : State) (sess n : Nat) (f : Upd → State → State) : State :=
  s.oper sess (fun s => match s.sv.upd with
    | some u => if u.sess = sess then f u (s.setUpd (fun x => { x with last := s.time.beat })) else s.reply (pldm n) [5]
    | none => s.reply (pldm n) [5])

def State.pldmState (s : State) (n : Nat) : State := s.wr Fd.SVC_PLDMSTAT_STATE n

/-- Why an update cannot begin (R480): RUNBANK is TRIAL, the device is fenced, or an activation, a sanitize or a power-loss
sequence is in progress. -/
def State.unable (s : State) : Bool :=
  (s.svcFull && s.bankState (s.rd Fd.BTA_STAT_RUNBANK) == 3) || s.hub.fenced || s.sv.act.isSome || s.nv.sanitize.isSome || s.lg.loss.isSome

/-- RequestUpdate (R479 step 1, R480). -/
def State.requestUpdate (s : State) (sess maxXfer : Nat) : State :=
  if s.sv.upd.isSome then (s.wr Fd.SVC_PLDMSTAT_REASON 4).reply (pldm 3) [1]
  else if s.unable then (s.wr Fd.SVC_PLDMSTAT_REASON 4).reply (pldm 3) [2]
  else
    let s := s.updSv (fun v => { v with
      upd := some ⟨sess, min 4096 maxXfer, [], [], none, 0, false, false, false, s.time.beat⟩ })
    ((((s.pldmState 1).wr Fd.SVC_PLDMSTAT_TARGET s.targetBank).wr Fd.SVC_PLDMSTAT_COMP 0).wr Fd.SVC_PLDMSTAT_PROGRESS 0).reply (pldm 3) [0]

/-- QUERY_DEVICE_IDENTIFIERS (R478): IANA enterprise identifier, part number and UNIT. -/
def execQueryDeviceIdentifiers (sess : Nat) (s : State) : Host.Outcome State Fault Refusal :=
  .next (s.oper sess (fun s => s.reply (pldm 1) [(Config.fixedValue 1).toNat, (Config.fixedValue 2).toNat, (s.optWord 2).toNat % 2 ^ 32]))

/-- GET_FIRMWARE_PARAMETERS (R478): of the running set and of the other bank, what the bank descriptors name. -/
def execGetFirmwareParameters (sess : Nat) (s : State) : Host.Outcome State Fault Refusal :=
  .next (s.oper sess (fun s =>
    let b := s.rd Fd.BTA_STAT_RUNBANK
    s.reply (pldm 2) [s.bt.run.fw.fwver, s.bt.run.cfgver, b, s.setgen b, s.bankState (1 - b), (s.optWord (descIdx (1 - b) 0)).toNat]))

/-- REQUEST_UPDATE (R479, R480). -/
def execRequestUpdate (sess maxXfer : Nat) (s : State) : Host.Outcome State Fault Refusal :=
  .next (s.oper sess (fun s => s.requestUpdate sess maxXfer))

/-- PASS_COMPONENT_TABLE (R480): a component that is not supported is reported so. -/
def execPassComponentTable (sess comp size : Nat) (s : State) : Host.Outcome State Fault Refusal :=
  .next (s.inUpdate sess 4 (fun _ s =>
    if compFits comp size then
      ((s.setUpd (fun u => { u with table := addOnce comp u.table })).pldmState 2).reply (pldm 4) [0, comp]
    else s.reply (pldm 4) [4, comp]))

/-! ### Staging (R479) -/

/-- FWVER of D0: the ComparisonStamp of component 1, or the running FWVER when the package holds none. Where the table names
component 1 and another component is updated first, the stamp is not yet known to the model (a free value). -/
def State.stageVer (s : State) (u : Upd) (comp stamp : Nat) : Nat × State :=
  if comp = 1 then (stamp, s)
  else if u.table.contains 1 then s.free
  else (s.bt.run.fw.fwver, s)

/-- Step 2: T's descriptor is erased, and D0 programmed with the next SETGEN. -/
def State.beginStaging (s : State) (u : Upd) (comp stamp : Nat) : State :=
  if u.begun then s
  else
    let t := s.rd Fd.SVC_PLDMSTAT_TARGET
    let gen := max (s.setgen 0) (s.setgen 1) + 1
    let v := s.stageVer u comp stamp
    ((v.2.rewriteOpt ((List.range 8).map (descIdx t))).progOpt (descIdx t 0)
      (BitVec.ofNat 64 (gen % 2 ^ 32 + v.1 % 2 ^ 32 * 2 ^ 32))).setUpd (fun x => { x with begun := true })

def bankBase (bank : Nat) : Nat := bank * 2 ^ 24

/-- The array address of a component's slot in the target bank. -/
def State.slotBase (s : State) (comp : Nat) : Nat := bankBase (s.rd Fd.SVC_PLDMSTAT_TARGET) + (compSlot comp).1

/-- UPDATE_COMPONENT (R479 steps 2 and 3, R480): each component at most once. The sectors it needs are erased, and the first chunk
is requested. Below the brown-out threshold or after a power loss nothing begins. -/
def State.updateComponent (s : State) (u : Upd) (comp size stamp : Nat) (lastComp : Bool) : State :=
  if s.noPulse then s
  else if s.rd Fd.SVC_PLDMSTAT_STATE ≠ 2 ∨ u.staged = true then s.reply (pldm 5) [3]
  else if compFits comp size = false ∨ comp ∈ u.applied then s.reply (pldm 5) [4]
  else
    let s := s.beginStaging u comp stamp
    let s := s.each (List.range (ceilDiv size 4096)) (fun s i => s.wholeErase (s.slotBase comp + 4096 * i))
    let s := s.setUpd (fun x => { x with cur := some (comp, size), got := 0, lastComp := lastComp })
    let s := ((s.pldmState 3).wr Fd.SVC_PLDMSTAT_COMP comp).wr Fd.SVC_PLDMSTAT_PROGRESS 0
    (s.reply (pldm 5) [0]).reply (pldm 6) [0, min u.chunk size]

def execUpdateComponent (sess comp size stamp : Nat) (lastComp : Bool) (s : State) : Host.Outcome State Fault Refusal :=
  .next (s.inUpdate sess 5 (fun u s => s.updateComponent u comp size stamp lastComp))

/-- Words programmed from an address in program runs of at most 64 words, none across a 512-byte boundary. -/
def State.progData : Nat → Nat → List Word64 → State → State
  | 0, _, _, s => s
  | n + 1, addr, ws, s =>
    if ws.isEmpty then s
    else
      let k := 64 - addr / 8 % 64
      State.progData n (addr + 8 * k) (ws.drop k) (s.wholeRun addr (ws.take k))

/-- Step 5: a component that the package lacks is copied from the running set into T. -/
def State.copyComp (s : State) (comp : Nat) : State :=
  let src := bankBase (s.rd Fd.BTA_STAT_RUNBANK) + (compSlot comp).1
  let dst := s.slotBase comp
  s.each (List.range ((compSlot comp).2 / 4096)) (fun s i =>
    let ws := (List.range 512).map (fun j => (s.arrWord (src + 4096 * i + 8 * j)).val)
    State.progData 9 (dst + 4096 * i) ws (s.wholeErase (dst + 4096 * i)))

/-- Steps 5 and 6, after the last component: the copies, which equal images that have passed, and the mark STAGED. With no
running set, as in recovery, T stays WRITING when the package lacks a component. -/
def State.finishSet (s : State) (u : Upd) : State :=
  let lack := [1, 2, 3].filter (fun c => !u.applied.contains c)
  if lack.isEmpty = false ∧ s.svcFull = false then s.pldmState 2
  else
    ((((s.each lack (fun s c => s.copyComp c)).markBank (s.rd Fd.SVC_PLDMSTAT_TARGET) 1).setUpd (fun x => { x with staged := true })).pldmState 6).wr
      Fd.SVC_PLDMSTAT_COMP 0

/-- A firmware image passes its test (R477): that of R457, at the SECVER floor or above. -/
def State.firmwarePasses (s : State) (img : ImageMeta) : Bool :=
  fwPasses s.variant img && decide (s.rd Fd.SEC_FUSE_SECVER ≤ img.fw.secver)

/-- The test of R477 for one component. -/
def State.compPasses (s : State) (comp : Nat) (img : ImageMeta) : Bool :=
  if comp = 1 then s.firmwarePasses img else if comp = 2 then configPasses s.variant img else img.romOk

/-- TransferComplete: the slot is read back and tested under R477; `img` is what the slot holds. A configuration image that admission
refuses reports the failed test (R150). -/
def State.verifyComp (s : State) (comp : Nat) (img : ImageMeta) : State :=
  let s := (s.reply (pldm 7) [0]).when (comp == 2) (fun s => s.noteAdmission img)
  if s.compPasses comp img = false then ((s.pldmState 4).count Fd.SEC_CNT_VERIFYFAIL_COUNT).reply (pldm 8) [4]
  else
    let s := (s.reply (pldm 8) [0]).reply (pldm 9) [0]
    let s := (s.setUpd (fun u => { u with cur := none, applied := addOnce comp u.applied })).pldmState 2
    match s.sv.upd with
    | some u => if u.lastComp then s.finishSet u else s
    | none => s

/-- A chunk arrives: its words are programmed in order, then the next is requested. -/
def State.takeChunk (s : State) (u : Upd) (comp size : Nat) (data : List Nat) (img : ImageMeta) : State :=
  let left := ceilDiv size 8 - u.got
  let ws := (data.map (fun n => BitVec.ofNat 64 n)).take (min left (ceilDiv u.chunk 8))
  let got := u.got + ws.length
  let s := State.progData (ws.length + 1) (s.slotBase comp + 8 * u.got) ws s
  let s := (s.setUpd (fun x => { x with got := got })).wr Fd.SVC_PLDMSTAT_PROGRESS (ceilDiv (8 * got) (max 1 u.chunk))
  if size ≤ 8 * got then s.verifyComp comp img
  else s.reply (pldm 6) [8 * got, min u.chunk (size - 8 * got)]

/-- FIRMWARE_DATA_RESPONSE (R479 steps 3 to 6). -/
def execFirmwareDataResponse (sess : Nat) (data : List Nat) (img : ImageMeta) (s : State) : Host.Outcome State Fault Refusal :=
  .next (s.inUpdate sess 6 (fun u s => match u.cur with
    | some (comp, size) => if s.noPulse = true ∨ s.rd Fd.SVC_PLDMSTAT_STATE ≠ 3 then s else s.takeChunk u comp size data img
    | none => s))

/-- GET_STATUS (R478). -/
def execGetStatus (sess : Nat) (s : State) : Host.Outcome State Fault Refusal :=
  .next (s.oper sess (fun s => s.reply (pldm 11) [s.rd Fd.SVC_PLDMSTAT_STATE, s.rd Fd.SVC_PLDMSTAT_COMP, s.rd Fd.SVC_PLDMSTAT_PROGRESS,
    s.rd Fd.SVC_PLDMSTAT_REASON]))

/-- CANCEL_UPDATE_COMPONENT (R478): the component in progress is given up, and may be staged again. -/
def execCancelUpdateComponent (sess : Nat) (s : State) : Host.Outcome State Fault Refusal :=
  .next (s.inUpdate sess 12 (fun u s => match u.cur with
    | some _ => ((((s.setUpd (fun x => { x with cur := none, got := 0 })).pldmState 2).wr Fd.SVC_PLDMSTAT_COMP 0).wr
        Fd.SVC_PLDMSTAT_PROGRESS 0).reply (pldm 12) [0]
    | none => s.reply (pldm 12) [3]))

/-- CANCEL_UPDATE (R480): update mode ends. -/
def execCancelUpdate (sess : Nat) (s : State) : Host.Outcome State Fault Refusal :=
  .next (s.inUpdate sess 13 (fun _ s => s.endUpdate.reply (pldm 13) [0]))

/-- UPDATE_TIMEOUT (R480): no PLDM message of the update for 60 s. -/
def execUpdateTimeout (s : State) : Host.Outcome State Fault Refusal :=
  .next (match s.sv.upd with
    | some u => if u.last + 15000000 ≤ s.time.beat then s.endUpdate else s
    | none => s)

/-! ### ActivateFirmware (R481) -/

/-- The condition of R481 that fails, as SVC_PLDMSTAT.REASON names it; 0 when all hold. `anyFmt` takes READMIN as met (R486). -/
def State.actReason (s : State) (img : ImageMeta) (anyFmt : Bool) : Nat :=
  if anyFmt = false ∧ s.bt.run.fw.statefmt < img.fw.readmin then 1
  else if sameSections img.entries s.bt.run.entries = false then 2
  else if s.holdReady = false then 3
  else 0

/-- The test of the images at the copy for an activation and at a load (R477, R150). -/
def State.setPasses (s : State) (img : ImageMeta) : Bool := [1, 2, 3].all (fun c => s.compPasses c img)

/-- An activation without reset is begun (R482 step 1, R134 step 1): the set is copied and tested, and the notice is posted to
every function that has enabled it in Feature 0Bh (bit 9, log entry 64). A copy that fails its test ends it. -/
def State.beginAct (s : State) (bank : Nat) (img : ImageMeta) : State :=
  if s.setPasses img = false then (s.noteAdmission img).count Fd.SEC_CNT_VERIFYFAIL_COUNT
  else
    let s := (s.updBt (fun b => { b with staged := img })).updSv (fun v => { v with
      act := some ⟨bank, s.bt.run, s.rd Fd.BTA_STAT_RUNBANK, none, none, none, false⟩ })
    let s := ((s.wr Fd.QUE_ACT_STATE 1).wr Fd.QUE_ACT_FALLBACK 0).wr Fd.QUE_ACT_BARS 0
    s.each (List.range 256) (fun s f => if bit (s.feat f 0x0B) 9 then s.postAen f ⟨2, 1, 3⟩ false else s)

/-- ACTIVATE_FIRMWARE (R481, R487). -/
def State.activateFirmware (s : State) (selfContained : Bool) (img : ImageMeta) : State :=
  let t := s.targetBank
  if s.sv.act.isSome ∨ s.bankState t ≠ 2 ∨ s.hub.fenced = true ∨ s.noPulse = true ∨ (selfContained = true ∧ s.svcFull = false) then
    (s.wr Fd.SVC_PLDMSTAT_REASON 4).reply (pldm 10) [3]
  else if selfContained = false then ((s.markBank t 2).endUpdate).reply (pldm 10) [0]
  else match s.actReason img false with
    | 0 => (((s.markBank t 2).endUpdate).reply (pldm 10) [0]).beginAct t img
    | r => (s.wr Fd.SVC_PLDMSTAT_REASON r).reply (pldm 10) [3]

def execActivateFirmware (sess : Nat) (selfContained : Bool) (img : ImageMeta) (s : State) : Host.Outcome State Fault Refusal :=
  .next (s.oper sess (fun s => s.activateFirmware selfContained img))

/-! ### An activation without reset (R134, R135, R482) -/

/-- The activation goes on: not after a power loss or in the fenced state. -/
def State.activating (s : State) : Option (Act × Half) :=
  match s.sv.act, s.active with
  | some a, some h => if s.lg.loss.isSome ∨ s.hub.fenced = true ∨ (s.half h).gone = true then none else some (a, h)
  | _, _ => none

def State.updAct (s : State) (f : Act → Act) : State := s.updSv (fun v => { v with act := v.act.map f })

/-- ACTIVATION_QUIESCE (R134 steps 2 and 3, R482 steps 2 to 4): at a bar boundary B outside a hold, fetching stops, CSTS.PP is set,
the standby half is loaded, commits go through protected commit mode, and the units of committed versions are queued for the
flush reserve. -/
def execActivationQuiesce (s : State) : Host.Outcome State Fault Refusal :=
  .next (match s.activating with
    | some (a, h) =>
      if a.b.isSome ∨ s.atBar = false ∨ s.hub.hold = true ∨ s.hub.drill.d.isSome then s
      else
        let s := (s.updAct (fun a => { a with b := some s.time.beat })).testMeets 6
        let s := (s.wr Fd.QUE_ACT_STATE 2).wr Fd.LDG_STAT_MODE 1
        let s := s.each (List.range 256) (fun s f => s.updFn f (fun x => { x with pp := true }))
        let o := otherHalf h
        (if (s.half o).st = .standby ∨ (s.half o).st = .syncing then (s.loadHalf o).loadBank o a.target s.bt.staged else s).formLossFlush
    | none => s)

/-- The drain is done (R482 step 5): begun commands hold their completions, no host request is outstanding but quarantined tags,
no flash operation is in flight, and every unit of the versions of step 4 has its directory word. -/
def State.drained (s : State) : Bool :=
  s.nv.ctxs.all (fun c => !c.begun || c.status.isSome || c.cmd == .aer) && s.nv.tags.all (fun t => t.quar.isSome) &&
    s.md.ops.all (fun o => o.st == .wait) && s.unitsToFlush.all (fun u => s.unitFlushed u)

/-- ACTIVATION_HOLD_BEGIN (R482 step 5): the hub begins the activation hold, and the active half is loaded from the copy; a load
that fails its test (`loadOk` false, or microcode that the loader does not accept: R235) returns to the old image. -/
def execActivationHoldBegin (loadOk : Bool) (s : State) : Host.Outcome State Fault Refusal :=
  .next (match s.activating with
    | some (a, h) =>
      if a.b.isNone ∨ a.holdAt.isSome ∨ s.drained = false ∨ s.hub.hold = true then s
      else
        let ok := loadOk && ucodeOk s.bt.staged.ucode
        let s := s.beginHold.updAct (fun a => { a with holdAt := some s.time.beat, revert := !ok })
        if ok then s.loadBank h a.target s.bt.staged else s.count Fd.SEC_CNT_VERIFYFAIL_COUNT
    | none => s)

/-- Channels emptied and locks freed at the image change, with their events (R430, R435). -/
def State.clearCores (s : State) (h : Half) : State :=
  let n := s.chimesHeld h
  let s := if n = 0 then s else (s.count Fd.CHM_CNT_DROP_COUNT n 0 h).uev h 0 0x0F01 [n, 0, 0, 0]
  ((s.each (s.heldLocks h) (fun s _ => s.uev h 0 0x1003 [])).emptyChimes h).freeLocks h

/-- The console is locked, recorded as an event (R494). -/
def State.lockConsole (s : State) : State :=
  if s.rd Fd.SVC_CONSOLE_LEVEL = 0 then s else (s.wr Fd.SVC_CONSOLE_LEVEL 0).hev 0x1201 []

/-- The hub ends the activation hold and renews the lease (R482 step 6). -/
def State.endActHold (s : State) : State := s.updHub (fun u => { u with hold := false, leaseEnd := s.time.beat + 5 })

/-- Both halves start an image at this bar boundary (R482 steps 6 and 7, R470, R494): the hold ends, the lease is renewed, the
configuration entries are applied, the bar plan is committed, to be latched at the bar's latch point (R60), and the standby half is
synchronised. -/
def State.startImage (s : State) (h : Half) (bank : Nat) (img : ImageMeta) : State :=
  let t := ((((s.clearCores h).endSessions).endUpdate).lockConsole).endActHold
  let t := (t.runSet h bank img).wr Fd.SCH_PLAN_CTRL_COMMIT 1 0 h
  let o := otherHalf h
  if (t.half o).st = .loading then t.beginSync o else t

/-- The first erased attempt word of the bank receives its first program. -/
def State.beginAttempt (s : State) (bank : Nat) : State :=
  match [1, 2, 3].find? (fun j => s.optErased (descIdx bank (4 + j))) with
  | some j =>
    ((s.progOpt (descIdx bank (4 + j)) (BitVec.ofNat 64 ((2 ^ 32 - 1) * 2 ^ 32))).updBt (fun x => { x with attempt := some (bank, j) })).wr
      Fd.BTA_BOOTSTAT_ATTEMPT j
  | none => s

/-- The kept copy of the running set is loaded into both halves and starts; T receives its FAILED mark (R482, R135). QUE_ACT.FALLBACK
says that the activation returned to the old image (R144). -/
def State.returnOld (s : State) (h : Half) (a : Act) : State :=
  let s := s.loadBank h a.oldBank a.old
  let o := otherHalf h
  let s := if (s.half o).st = .loading then s.loadBank o a.oldBank a.old else s
  ((s.startImage h a.oldBank a.old).markBank a.target 4).wr Fd.QUE_ACT_FALLBACK 1

/-- IMAGE_CHANGE (R482 step 6): the bar boundary after the hold began. When the load failed, the old image starts again, and T
receives its FAILED mark. -/
def execImageChange (s : State) : Host.Outcome State Fault Refusal :=
  .next (match s.activating with
    | some (a, h) => match a.holdAt with
      | some t =>
        if s.atBar = false ∨ s.time.beat ≤ t ∨ a.changed.isSome then s
        else
          let s := ((s.updAct (fun a => { a with changed := some s.time.beat })).wr Fd.QUE_ACT_STATE 3)
          if a.revert then s.returnOld h a
          else (s.startImage h a.target s.bt.staged).beginAttempt a.target
      | none => s
    | none => s)

/-- Arbitration resumes (R134 step 5): held completions are posted, CSTS.PP is cleared, and the commit mode is that of the
hold-up. -/
def State.resumeAct (s : State) : State :=
  let s := (s.updSv (fun v => { v with act := none })).wr Fd.QUE_ACT_STATE 0
  let s := s.each (List.range 256) (fun s f => s.updFn f (fun x => { x with pp := false }))
  (s.enterMode.drain.grantParts.pump).issueAll

/-- The attempt of the running bank reached service: its word receives its second program. -/
def State.attemptService (s : State) (bank : Nat) : State :=
  match s.bt.attempt with
  | some (k, j) => if k = bank then s.progOpt (descIdx k (4 + j)) 0 else s
  | none => s

/-- ACTIVATION_RESUME (R134 step 5, R482 step 7): the bar boundary after the image change, at most 8 bars after B (R135). -/
def execActivationResume (s : State) : Host.Outcome State Fault Refusal :=
  .next (match s.activating with
    | some (a, _) => match a.changed, a.b with
      | some t, some b =>
        if s.atBar = false ∨ s.time.beat ≤ t ∨ b + 2000 < s.time.beat ∨ s.hub.hold = true then s
        else if a.revert then s.resumeAct
        else ((s.attemptService a.target).resumeAct).aev 0 0x1302 []
      | _, _ => s
    | none => s)

/-- ACTIVATION_FALLBACK (R135): no resumption by boundary B + 2,000. At the next bar boundary the old image starts again and resumes,
T receives its FAILED mark, and an event and a report on the service port follow. -/
def execActivationFallback (s : State) : Host.Outcome State Fault Refusal :=
  .next (match s.activating with
    | some (a, h) => match a.b with
      | some t =>
        if s.atBar = false ∨ s.time.beat ≤ t + 2000 then s
        else
          let s := s.returnOld h a
          ((s.resumeAct).aev 0 0x0203 []).reply (pldm 10) [4]
      | none => s
    | none => s)

/-! ### Device reset (R464) -/

/-- A device reset: the power-loss sequence runs first, from its second row. In the fenced state its flush has ended when the
recovery responder serves; where no half serves, or recovery has not begun, there is nothing to flush. -/
def State.deviceReset (s : State) : State :=
  if s.hub.fenced = true ∨ s.active.isNone ∨ s.beforeRecovery = true then s.powerOn 6 0
  else match s.lg.loss with
    | some l => s.updLg (fun g => { g with loss := some { l with why := 1 } })
    | none => s.beginLoss 1

/-! ### Confirmation and revert (R485, R486) -/

/-- The attempt of the running bank has reached service. -/
def State.attemptServed (s : State) : Bool :=
  match s.bt.attempt with
  | some (k, j) => decide (k = s.rd Fd.BTA_STAT_RUNBANK) && s.attemptDone k j
  | none => false

/-- The status of CONFIRM (R485, R487). -/
def State.confirmStatus (s : State) : Nat :=
  if s.bankState (s.rd Fd.BTA_STAT_RUNBANK) ≠ 3 ∨ s.attemptServed = false ∨ s.sv.act.isSome ∨ s.noPulse = true then 1 else 0

/-- Confirmation (R485). Dual writing stops at the next bar boundary. -/
def State.confirmSet (s : State) : State :=
  let b := s.rd Fd.BTA_STAT_RUNBANK
  ((s.markBank b 3).settleConfirm b).aev 0 0x1301 []

/-- The status of REVERT (R486, R487). -/
def State.revertStatus (s : State) : Nat :=
  let b := s.rd Fd.BTA_STAT_RUNBANK
  if s.bankState b ≠ 3 ∨ s.bankState (1 - b) ≠ 4 ∨ s.sv.act.isSome ∨ s.noPulse = true then 1 else 0

/-- REVERT (R486): the FAILED mark of RUNBANK, then the CONFIRMED set without reset, or a device reset. -/
def State.revertSet (s : State) (img : ImageMeta) : State :=
  let b := s.rd Fd.BTA_STAT_RUNBANK
  let s := s.markBank b 4
  if s.actReason img true = 0 then s.beginAct (1 - b) img else s.deviceReset

end Sys2Proof.Machine
end

