-- ==== Sys2Proof/Machine/Recorder.lean ====
section
/-! DEFINITION. The recorder's long procedures (chapter 17): the permanent copy of a record (R505), the clearing of the recorder
(R508, R509), the reading of a record (R507), and snapshots (R511, R512). -/

namespace Sys2Proof.Machine

/-! ### The permanent area (R505) -/

def permAddr (p : Nat) : Nat := 0x10_0000 + 64 * p

/-- The hub's recorder may program or erase a bank now: no operation in progress, the bank not busy, pulses allowed, and no
test of the array's interface (R517). A refusal with BUSY or BANK_BUSY is issued again at a bar boundary. -/
def State.mayProgram (s : State) (bank : Nat) : Bool := s.bt.op.isNone && !s.bankBusy bank && !s.noPulse && !s.testRuns 8

/-- A record in the boot array: a run with the MARK bits left at ones, then the second program of word 7. -/
def State.programRecord (s : State) (addr : Nat) (ws : List Word64) : State :=
  let w7 := ws.getD 7 0
  (s.wholeRun addr (ws.take 7 ++ [w7 ||| BitVec.ofNat 64 (0xFFFF * 2 ^ 48)])).wholeRun (addr + 56) [w7]

/-- The words of a ring record. -/
def State.ringWords (s : State) (seq : Nat) : List Word64 :=
  (List.range 8).map (fun i => s.ledgerWord (ringSlot s.variant seq + 8 * i))

/-- The next record to be copied, in order of p. -/
def State.copyNext (s : State) : Option Nat :=
  let q := s.evt.pbase + s.evt.perm
  if s.evt.perm < 16384 ∧ q < s.evt.seq then some q else none

def State.permanentCopy (s : State) : State :=
  match s.copyNext with
  | some q => (s.programRecord (permAddr s.evt.perm) (s.ringWords q)).updEvt (fun e => { e with perm := e.perm + 1 })
  | none => s

/-! ### Clearing (R508) -/

def clearAddr (q : Nat) : Nat := 0x110_0000 + 64 * q

/-- The clearing record: code 0x1402, the hub's unit, and the arguments with DONE. The SEQ of the record in the clearing record
area is not stated: the model gives it that of the ring record (DESIGN CHOICE, log entry 65). -/
def State.clearRecord (s : State) (c : Clearing) (done : Nat) : List Word64 :=
  recWords ⟨s.time.beat, 0x1402, 0, 0x80, 0, [c.lastSeq, c.keyHash, c.nonce, done]⟩ (c.lastSeq + 1)

/-- Steps 1 to 4: the clearing record, a ring of zeros, and the ring's first record with SEQ LASTSEQ + 1, the new PBASE. -/
def State.clearRing (s : State) (keyHash nonce : Nat) : State :=
  let last := (s.evt.seq + 2 ^ 48 - 1) % 2 ^ 48
  let c : Clearing := ⟨5, last, keyHash, nonce, s.evt.clearPos, 256⟩
  let s := s.programRecord (clearAddr c.pos) (s.clearRecord c (2 ^ 64 - 1))
  let base := eventRing s.variant / 8
  let s := s.updLg (fun l => { l with words := spClear l.words base (base + 524288) })
  let n := (last + 1) % 2 ^ 48
  let s := s.ledgerWrite (ringSlot s.variant n) (s.clearRecord c 0)
  s.updEvt (fun e => { e with seq := n + 1, pbase := n, perm := 0, clearing := some c, clearPos := c.pos + 1 })

/-- Steps 5 and 6: the 256 sectors of the permanent area are erased, and DONE programmed to 0. -/
def State.clearPermanent (s : State) (c : Clearing) : State :=
  let s := s.each (List.range c.sectors) (fun s i => s.wholeErase (permAddr 0 + 4096 * i))
  (s.wholeRun (clearAddr c.pos + 40) [0]).updEvt (fun e => { e with clearing := none })

/-- Steps 5 and 6 when bank 0 takes operations; else they are issued again at a bar boundary. -/
def State.clearRest (s : State) : State :=
  match s.evt.clearing with
  | some c => if s.mayProgram 0 then s.clearPermanent c else s
  | none => s

/-- The status with which EVENT_CLEAR is refused (R508). -/
def State.clearStatus (s : State) : Nat :=
  if s.hub.fenced = true ∨ s.lg.loss.isSome ∨ s.evt.clearing.isSome ∨ 16384 ≤ s.evt.clearPos ∨ s.noPulse = true then 1 else 0

/-- PERMANENT_COPY (R505, R508): what remains of a clearing comes first. -/
def execPermanentCopy (s : State) : Host.Outcome State Fault Refusal :=
  .next (if s.evt.clearing.isSome then s.clearRest
    else if s.mayProgram 0 = true ∧ s.evt.stopped = false then s.permanentCopy else s)

/-! ### Reading a record (R507) -/

/-- The SEQs that the ring holds: from the larger of PBASE and EVT_LAST − 65,535 up to EVT_LAST. -/
def State.inRing (s : State) (seq : Nat) : Bool :=
  decide (s.evt.pbase ≤ seq) && decide (seq < s.evt.seq) && decide (s.evt.seq ≤ seq + 65536)

/-- The words that EVT_RDw returns for a ring SEQ or a permanent position. -/
def State.recordWords (s : State) (area seq : Nat) : List Word64 :=
  if area = 0 then (if s.inRing seq then s.ringWords seq else List.replicate 8 0)
  else if seq < 16384 then (List.range 8).map (fun i => (s.arrWord (permAddr seq + 8 * i)).val)
  else List.replicate 8 0

/-- The checks of a reader: MARK, SEQ and the CRC of bytes 0 to 47 and 56 to 61. -/
def recordOk (ws : List Word64) (seq : Nat) : Bool :=
  let w7 := ws.getD 7 0
  w7 == BitVec.ofNat 64 (seq % 2 ^ 48 + 0xA55A * 2 ^ 48) &&
    (ws.getD 6 0).setWidth 32 == Config.crc32 (ws.take 6 ++ [BitVec.ofNat 64 (seq % 2 ^ 48)])

end Sys2Proof.Machine
end

