-- ==== Sys2Proof/Machine/Command.lean ====
section
/-! DEFINITION. Service commands (R476, R485, R486, R494, R508): nonces and signatures, statuses, confirmation, revert, device reset,
the clearing of the recorder, and the debug console. REG_READ, REG_WRITE and the console's register lines stand in Access.lean. -/

namespace Sys2Proof.Machine

/-- The codes that a recovery responder offers: GET_NONCE, REG_READ and DEVICE_RESET (R495). -/
def recoveryCode (code : Nat) : Bool := code == 1 || code == 2 || code == 6

def svcCode (code : Nat) : Nat := 0x7F00 + code

/-- A service command that is executed: counted, answered with status 0 and the fields, then its effect. -/
def State.executed (s : State) (code : Nat) (fields : List Nat) (act : State → State) : State :=
  act ((s.count Fd.SVC_CNT_CMD_COUNT).reply (svcCode code) (0 :: fields))

/-- A service command in an operator session (R476): its status, 1 for one that the recovery responder does not offer. -/
def State.command (s : State) (sess code : Nat) (test : State → Nat) (act : State → State) : State :=
  s.oper sess (fun s =>
    if s.svcFull = false ∧ recoveryCode code = false then s.reply (svcCode code) [1]
    else if test s = 0 then s.executed code [] act
    else s.reply (svcCode code) [test s])

/-- 60 s in beats. -/
def nonceBeats : Nat := 15000000

/-- The nonce in force in a session. -/
def State.nonceOf (s : State) (sess : Nat) : Option Nat :=
  match s.sess sess with
  | some x => x.nonce.bind (fun n => if s.time.beat < n.2 + nonceBeats then some n.1 else none)
  | none => none

/-- A signed command (R476): the nonce serves it whatever the signature is; a nonce or signature that fails is counted, with
status 2. -/
def State.signed (s : State) (sess code : Nat) (sigOk : Bool) (test : State → Nat) (act : Nat → State → State) : State :=
  s.oper sess (fun s =>
    let n := s.nonceOf sess
    let t := s.updSess sess (fun x => { x with nonce := none })
    if t.svcFull = false ∧ recoveryCode code = false then t.reply (svcCode code) [1]
    else match sigOk, n with
      | true, some k => if test t = 0 then t.executed code [] (act k) else t.reply (svcCode code) [test t]
      | _, _ => (t.count Fd.SVC_CNT_AUTHFAIL_COUNT).reply (svcCode code) [2])

/-- GET_NONCE (R476): a fresh value. -/
def State.getNonce (s : State) (sess : Nat) : State :=
  s.oper sess (fun s =>
    let v := s.free
    (v.2.updSess sess (fun x => { x with nonce := some (v.1, s.time.beat) })).executed 1 [v.1] (fun s => s))

def execGetNonce (sess : Nat) (s : State) : Host.Outcome State Fault Refusal := .next (s.getNonce sess)

/-- NONCE_EXPIRY (R476): 60 s after it was returned. -/
def execNonceExpiry (sess : Nat) (s : State) : Host.Outcome State Fault Refusal :=
  .next (match s.sess sess with
    | some x => match x.nonce with
      | some n => if n.2 + nonceBeats ≤ s.time.beat then s.updSess sess (fun y => { y with nonce := none }) else s
      | none => s
    | none => s)

/-- CONFIRM (R485). -/
def execConfirm (sess : Nat) (s : State) : Host.Outcome State Fault Refusal :=
  .next (s.command sess 4 State.confirmStatus State.confirmSet)

/-- REVERT (R486). -/
def execRevert (sess : Nat) (sigOk : Bool) (img : ImageMeta) (s : State) : Host.Outcome State Fault Refusal :=
  .next (s.signed sess 5 sigOk State.revertStatus (fun _ s => s.revertSet img))

/-- DEVICE_RESET (R464). -/
def execDeviceReset (sess : Nat) (sigOk : Bool) (s : State) : Host.Outcome State Fault Refusal :=
  .next (s.signed sess 6 sigOk (fun _ => 0) (fun _ s => s.deviceReset))

/-- EVENT_CLEAR (R508): ARG1 and ARG2 of the clearing record are `keyHash` and the nonce. -/
def execEventClear (sess : Nat) (sigOk : Bool) (keyHash : Nat) (s : State) : Host.Outcome State Fault Refusal :=
  .next (s.signed sess 7 sigOk State.clearStatus (fun n s => (s.clearRing keyHash n).clearRest))

/-! ### Debug console (R494) -/

/-- Hours in beats. -/
def hourIn : Nat := 900000000

/-- LEVEL 1 or 2 and HOURS 1 to 24. -/
def unlockStatus (level hours : Nat) : Nat := if 1 ≤ level ∧ level ≤ 2 ∧ 1 ≤ hours ∧ hours ≤ 24 then 0 else 3

def State.unlock (s : State) (level hours : Nat) : State :=
  ((s.wr Fd.SVC_CONSOLE_LEVEL level).updSv (fun v => { v with consEnd := s.time.beat + hours * hourIn })).hev 0x1201 []

/-- CONSOLE_UNLOCK (R494). -/
def execConsoleUnlock (sess : Nat) (sigOk : Bool) (level hours : Nat) (s : State) : Host.Outcome State Fault Refusal :=
  .next (s.signed sess 8 sigOk (fun _ => unlockStatus level hours) (fun _ s => s.unlock level hours))

/-- CONSOLE_LOCK (R494). -/
def execConsoleLock (sess : Nat) (s : State) : Host.Outcome State Fault Refusal :=
  .next (s.command sess 9 (fun _ => 0) State.lockConsole)

/-- CONSOLE_EXPIRY (R494). -/
def execConsoleExpiry (s : State) : Host.Outcome State Fault Refusal :=
  .next (if s.rd Fd.SVC_CONSOLE_LEVEL ≠ 0 ∧ s.sv.consEnd ≤ s.time.beat then s.lockConsole else s)

/-- The console takes lines: it is unlocked and the firmware runs. -/
def State.consoleOpen (s : State) (level : Nat) : Bool := s.svcFull && decide (level ≤ s.rd Fd.SVC_CONSOLE_LEVEL)

/-- CONSOLE_EVENT_READ (R494, R507): "e N" prints ring record N when it passes the reader's checks. -/
def execConsoleEventRead (seq : Nat) (s : State) : Host.Outcome State Fault Refusal :=
  .next (if s.consoleOpen 1 then
      let ws := s.recordWords 0 seq
      s.emit (.uart (if recordOk ws seq then ws.map (fun w => w.toNat) else []))
    else s)

end Sys2Proof.Machine
end

