-- ==== Sys2Proof/Machine/Test.lean ====
section
/-! DEFINITION. Production and field test (chapter 18): the modes with their classes and conditions, GO and its refusals, withdrawal,
the run, its checker and its end. Commands TEST_GO, TEST_STOP, TEST_RUN_START, TEST_RUN_END, CHECKER_LOCK and CHECKER_LOCK_LOSS. -/

namespace Sys2Proof.Machine

/-! ### Modes (R514, R515) -/

/-- A mode as TST_CTRL names it. -/
structure Mode where
  iface : Nat
  depth : Nat
  target : Nat
  deriving DecidableEq, Repr

/-- IFACE, DEPTH and TARGET of a value of TST_CTRL. -/
def modeOf (val : Nat) : Mode := ⟨val / 4 % 16, val / 64 % 4, val / 256 % 1024⟩

/-- The mode in TST_CTRL. -/
def State.mode (s : State) : Mode := ⟨s.rd Fd.TST_CTRL_IFACE, s.rd Fd.TST_CTRL_DEPTH, s.rd Fd.TST_CTRL_TARGET⟩

/-- RATE of the phantom dies fits ECC_RAWk: at most MAXRATE, and its page of four code words at most BYTES (R260, R520). -/
def State.phantomOk (s : State) : Bool :=
  let k := s.rd Fd.TST_PHCFG_TYPE
  let r := s.rd Fd.TST_PHCFG_RATE
  s.rd Fd.MED_GEOM_VALID k == 1 && decide (r ≤ s.rd Fd.ECC_RAW_MAXRATE k) && decide (rawPageBytes r ≤ s.rd Fd.ECC_RAW_BYTES k)

/-- The combination exists and its target is present (R515, R525). -/
def State.modeExists (s : State) (x : Mode) : Bool :=
  let ch := x.target % 32
  match x.iface with
  | 1 => decide (x.depth ≤ 2) && (x.target == 0 || (x.target == 1 && s.bifur))
  | 2 => x.depth == 2 && decide (x.target < 256) && s.fnUp x.target
  | 3 => if x.depth = 2 then decide (ch < s.variant.channels)
    else decide (x.target < s.variant.channels) && (x.depth != 3 || s.phantomOk)
  | 4 => x.depth != 2 && decide (x.target < 16) && (s.ranks2 || x.target % 2 == 0)
  | 5 => decide (x.depth ≤ 1) && x.target == 0
  | 6 => s.variant.twin && (x.depth == 0 || x.depth == 2) && decide (x.target < 2)
  | 7 => (x.depth == 0 || x.depth == 2) && x.target == 0
  | 8 => (x.depth == 0 || x.depth == 2) && x.target == 0
  | _ => false

/-- The half that a mode of IFACE 6 names. -/
def Mode.half (x : Mode) : Half := if x.target = 1 then .b else .a

/-- The class of a mode: 0 S, 1 P, 2 F, 3 W. -/
def State.classOf (s : State) (x : Mode) : Nat :=
  match x.iface with
  | 1 => 1
  | 3 => if x.depth = 2 then 3 else 0
  | 4 => 3
  | 5 => 2
  | 6 => if (s.half x.half).st = .unfit then 0 else 3
  | 7 => 3
  | 8 => 3
  | _ => 0

/-- The slot of a NAND target is without a cartridge in use. -/
def State.slotIdle (s : State) (n : Nat) : Bool := (s.slot n).st == .empty || (s.slot n).st == .off || (s.slot n).st == .fault

/-- The target condition of a mode; a mode also needs the generators' domain, 70, on (R541). -/
def State.targetOk (s : State) (x : Mode) (timeout : Nat) : Bool :=
  s.rd Fd.PWR_DOM_STATE 70 == 0 &&
  (match x.iface with
    | 1 => x.depth != 2 || (if x.target = 0 then s.rd Fd.HST_LINK_DLUP0 == 1 else s.rd Fd.HST_LINK_DLUP1 == 1)
    | 2 => s.rd Fd.HST_MODE_SPLIT_ALL == 1 && (s.fn x.target).bme && !(s.fn x.target).en
    | 3 =>
      if x.depth = 2 then (s.die (x.target % 32 * 32 + x.target / 32)).st != 0
      else if x.depth = 1 then (s.slot (x.target / 2)).st == .empty
      else s.slotIdle (x.target / 2)
    | 5 => decide (0 < timeout)
    | 6 => s.hub.holder != some x.half
    | 8 => !s.bankBusy 0 && !s.bankBusy 1
    | _ => true)

/-- The class condition: BTA_BOOTSTAT.STEP is 16, or for classes S and W the device is withdrawn. -/
def State.classFits (s : State) (c : Nat) : Bool :=
  s.rd Fd.BTA_BOOTSTAT_STEP == 16 || ((c == 0 || c == 3) && s.withdrawn)

/-- The writers of TST_CTRL by class: masters 0, 1 and 96, and 96 not for class F. -/
def testWriter (c m : Nat) : Bool := m == 0 || m == 1 || (m == 96 && c != 2)

/-- Why a GO is refused, as TST_STAT.REASON; 0 when it is accepted. The order of the tests is the model's (DESIGN CHOICE, log entry
66). -/
def State.goReason (s : State) (m : Nat) (x : Mode) (timeout : Nat) : Nat :=
  if s.ts.isSome then 1
  else if s.modeExists x = false then 4
  else if s.sv.act.isSome then 6
  else if testWriter (s.classOf x) m = false then 5
  else if s.classFits (s.classOf x) = false then 2
  else if s.targetOk x timeout = false then 3
  else 0

/-! ### Entry (R516) -/

/-- The results of a run begin again at GO. -/
def State.clearRun (s : State) : State :=
  let s := (((s.wr Fd.TST_BITS_LO_COUNT 0).wr Fd.TST_BITS_HI_COUNT 0).wr Fd.TST_ERRCNT_COUNT 0).wr Fd.TST_FIRST_LO_COUNT (2 ^ 32 - 1)
  let s := (((s.wr Fd.TST_FIRST_HI_COUNT (2 ^ 32 - 1)).wr Fd.TST_LANEERR_LO_LANES 0).wr Fd.TST_LANEERR_HI_LANES 0).wr Fd.TST_PHRES_PASSES 0
  let s := (((s.wr Fd.TST_PHRES_FAILS 0).wr Fd.TST_PHRES_TIMEOUTS 0).wr Fd.TST_STAT_STATE 0).wr Fd.TST_STAT_RESULT 0
  ((s.wr Fd.TST_STAT_CAUSE 0).wr Fd.TST_STAT_LOCK 0).wr Fd.TST_STAT_LOCKLOSS 0

/-- The fields of TST_CTRL take the value written, GO and STOP clear. -/
def State.takeMode (s : State) (val : Nat) : State :=
  s.setReg .a Blk.TST Reg.TST_CTRL.off (BitVec.ofNat 32 (val / 4 * 4))

/-- GO accepted: for class W a device not yet withdrawn is withdrawn, for class P the port leaves DL_Active; event 0x1501. -/
def State.enterTest (s : State) (x : Mode) (c : Nat) : State :=
  let s := { s with ts := some ⟨c, false, 0, [], 0, ⟨0, false, 0, 0, 0, none⟩⟩ }
  let s := if c = 3 ∧ s.withdrawn = false ∧ s.lg.loss.isNone = true then { (s.beginLoss 2) with ts := s.ts } else s
  let s := if c = 1 then s.linkDown x.target else s
  s.hev 0x1501 [x.iface, x.depth, x.target, c]

/-- A write of TST_CTRL with GO: accepted, or refused with nothing else changed. -/
def State.testGo (s : State) (m val : Nat) : State :=
  let x := modeOf val
  match s.goReason m x (val / 2 ^ 18) with
  | 0 => ((s.clearRun.takeMode val)).enterTest x (s.classOf x)
  | r => (s.wr Fd.TST_STAT_REFUSED 1).wr Fd.TST_STAT_REASON r

/-- STOP, by a writer of the class of the run. -/
def State.testStop (s : State) (m : Nat) : State :=
  match s.ts with
  | some t => if testWriter t.cls m then s.wr Fd.TST_CTRL_STOP 1 else s.discarded s.act m Blk.TST Reg.TST_CTRL.off 2
  | none => s

/-- A write of TST_CTRL (R526): while a run is in progress only STOP is written, and a GO is refused. -/
def State.testWrite (s : State) (m val : Nat) : State :=
  if bit val 0 then s.testGo m val
  else if testWriter 0 m = false then s.discarded s.act m Blk.TST Reg.TST_CTRL.off val
  else if s.ts.isSome then
    if bit val 1 then s.testStop m else s.discarded s.act m Blk.TST Reg.TST_CTRL.off val
  else s.takeMode val

/-- TEST_GO (R516). -/
def execTestGo (m val : Nat) (s : State) : Host.Outcome State Fault Refusal := .next (s.testGo m val)

/-- TEST_STOP (R518). -/
def execTestStop (m : Nat) (s : State) : Host.Outcome State Fault Refusal := .next (s.testStop m)

/-! ### The run (R516, R519) -/

/-- The lanes of a target. -/
def State.lanesOf (s : State) (x : Mode) : Nat :=
  match x.iface with
  | 1 => if s.bifur = true ∨ s.variant = .fk9612 then 8 else 16
  | 2 => 8
  | 3 => 9
  | 4 => 40
  | 5 => 1
  | 8 => 16
  | _ => 64

/-- The pattern is one of the PRBS patterns, on which the checker locks; the host path and the phantom script use pattern 7. -/
def State.prbs (s : State) (x : Mode) : Bool := decide (s.rd Fd.TST_CFG_PATTERN < 4) && x.iface != 2 && !(x.iface == 3 && x.depth == 3)



/-- LOCK: every lane locked. -/
def State.noteLock (s : State) : State :=
  match s.ts with
  | some t => s.wr Fd.TST_STAT_LOCK (boolNat ((List.range (s.lanesOf s.mode)).all (fun j => t.locked.contains j)))
  | none => s

/-- TEST_RUN_START (R516 step 5): at the next bar boundary, for class W once the device is withdrawn. With a pattern that is not a
PRBS every lane is locked from the first compare. -/
def execTestRunStart (s : State) : Host.Outcome State Fault Refusal :=
  .next (match s.ts with
    | some t =>
      if t.started = true ∨ t.cause ≠ 0 ∨ s.atBar = false ∨ (t.cls = 3 ∧ s.withdrawn = false) then s
      else
        let locked := if s.prbs s.mode then [] else List.range (s.lanesOf s.mode)
        (((s.updTs (fun t => { t with started := true, startBar := s.bar, locked := locked })).wr Fd.TST_STAT_STATE 1).noteLock).pump
    | none => s)

/-- CHECKER_LOCK (R519): 64 consecutive correct bits on a lane. -/
def execCheckerLock (lane : Nat) (s : State) : Host.Outcome State Fault Refusal :=
  .next (match s.ts with
    | some t => if t.started = true ∧ lane < s.lanesOf s.mode then
        (s.updTs (fun t => { t with locked := addOnce lane t.locked })).noteLock else s
    | none => s)

/-- CHECKER_LOCK_LOSS (R519): 32 errors within 64 bits on a lane that is locked, with a PRBS pattern. -/
def execCheckerLockLoss (lane : Nat) (s : State) : Host.Outcome State Fault Refusal :=
  .next (match s.ts with
    | some t => if t.started = true ∧ t.locked.contains lane = true ∧ s.prbs s.mode = true then
        ((s.updTs (fun t => { t with locked := t.locked.filter (fun j => j != lane) })).count Fd.TST_STAT_LOCKLOSS).noteLock else s
    | none => s)

/-! ### The end of a run (R518, R523) -/

/-- The run ends now by a cause: 1 STOP, 2 DURATION and 3 TIMEOUT at a bar boundary, 4 to 10 once their happening has met it. -/
def State.runEnds (s : State) (t : TestRun) (cause : Nat) : Bool :=
  match cause with
  | 1 => t.started && s.atBar && s.rd Fd.TST_CTRL_STOP == 1
  | 2 => t.started && s.atBar && decide (0 < s.rd Fd.TST_CFG_DURATION) && decide (t.startBar + s.rd Fd.TST_CFG_DURATION ≤ s.bar)
  | 3 => t.started && s.atBar && t.cls == 2 && decide (t.startBar + s.rd Fd.TST_CTRL_TIMEOUT ≤ s.bar)
  | _ => decide (4 ≤ cause) && t.cause == cause

/-- What the checker and the script counted; errors saturate at 32 bits, and FIRST is all ones without an error. -/
def State.noteRun (s : State) (bits errs first lanes passes fails tos : Nat) : State :=
  let sat := fun (w n : Nat) => min (2 ^ w - 1) n
  let f := if errs = 0 then 2 ^ 64 - 1 else sat 64 first
  let s := (((s.wr Fd.TST_BITS_LO_COUNT (sat 64 bits % 2 ^ 32)).wr Fd.TST_BITS_HI_COUNT (sat 64 bits / 2 ^ 32)).wr Fd.TST_ERRCNT_COUNT (sat 32 errs))
  let s := ((s.wr Fd.TST_FIRST_LO_COUNT (f % 2 ^ 32)).wr Fd.TST_FIRST_HI_COUNT (f / 2 ^ 32)).wr Fd.TST_LANEERR_LO_LANES lanes
  let s := s.wr Fd.TST_LANEERR_HI_LANES (lanes / 2 ^ 32)
  if s.rd Fd.TST_CTRL_IFACE = 3 ∧ s.rd Fd.TST_CTRL_DEPTH = 3 then
    ((s.wr Fd.TST_PHRES_PASSES (sat 16 passes)).wr Fd.TST_PHRES_FAILS (sat 8 fails)).wr Fd.TST_PHRES_TIMEOUTS (sat 8 tos)
  else s

/-- RESULT: 3 aborted by a coincidence, 1 pass, 2 fail. -/
def State.runResult (s : State) (cause : Nat) : Nat :=
  if 4 ≤ cause then 3
  else if s.rd Fd.TST_ERRCNT_COUNT ≤ s.rd Fd.TST_CFG_ERRLIM ∧ s.rd Fd.TST_STAT_LOCK = 1 ∧ s.rd Fd.TST_PHRES_FAILS = 0 ∧
      s.rd Fd.TST_PHRES_TIMEOUTS = 0 then 1
  else 2

/-- The counts of a run: those of the host path test where it runs, else as the checker and the script report them. -/
def State.runCounts (s : State) (t : TestRun) (bits errs first lanes passes fails tos : Nat) : State :=
  if s.rd Fd.TST_CTRL_IFACE = 2 then s.noteRun t.host.bits t.host.errs (t.host.first.getD 0) t.host.lanes 0 0 0
  else s.noteRun bits errs first lanes passes fails tos

/-- TEST_RUN_END (R518, R522, R523): the counts are those of the checker at the end. A port of class P trains again with
PERST_DEASSERT. -/
def execTestRunEnd (cause bits errs first lanes passes fails tos : Nat) (s : State) : Host.Outcome State Fault Refusal :=
  .next (match s.ts with
    | some t =>
      if s.runEnds t cause = false then s
      else
        let s := s.runCounts t bits errs first lanes passes fails tos
        let s := ((s.wr Fd.TST_STAT_RESULT (s.runResult cause)).wr Fd.TST_STAT_CAUSE cause).wr Fd.TST_STAT_STATE 2
        let s := ({ s with ts := none }.wr Fd.TST_CTRL_STOP 0).when (t.cls == 2) State.raiseIbi
        s.hev 0x1502 [s.rd Fd.TST_CTRL_IFACE, s.rd Fd.TST_CTRL_DEPTH, cause, s.rd Fd.TST_ERRCNT_COUNT]
    | none => s)

end Sys2Proof.Machine
end

