-- ==== Sys2Proof/Machine/Power.lean ====
section
/-! DEFINITION. Supplies, the clock and the power domains (R527, R528, R535, R539 to R542): commands SUPPLY_TRIP, SYSCLK_FAULT and
DOMAIN_REQUEST. -/

namespace Sys2Proof.Machine

/-! ### Supplies and clock -/

/-- A supply leaves its range: PWR_STAT.INRANGE. -/
def State.supplyOut (s : State) (k : Nat) : State :=
  let r := s.rd Fd.PWR_STAT_INRANGE
  if bit r k then s.wr Fd.PWR_STAT_INRANGE (r - 2 ^ k) else s

/-- A trip of VDD_A or VDD_B: a control fault of that half, mechanism 8, with an event. The slice of such a fault is not stated (a
free value). -/
def State.halfTrip (s : State) (h : Half) (supply reading : Nat) : State :=
  if s.variant.twin = false ∧ h = .b then s
  else
    let a := s.free
    (a.2.controlFault h 8 (a.1 % 8)).hev 0x1601 [supply, reading, 0, 0]

/-- SUPPLY_TRIP (R528): settled by its supply. -/
def execSupplyTrip (supply reading : Nat) (s : State) : Host.Outcome State Fault Refusal :=
  .next (
    let s := (s.count Fd.PWR_CNT_TRIP_COUNT).supplyOut supply
    match supply with
    | 0 => s.halfTrip .a supply reading
    | 1 => s.halfTrip .b supply reading
    | 8 => s.updLg (fun l => { l with vholdOk := false })
    | _ => if supply < 8 then (s.updBt (fun b => { b with trip := some (supply, reading) })).powerOn 2 supply else s)

/-- SYSCLK_FAULT (R535): an internal power-on reset that names the clock. -/
def execSysclkFault (s : State) : Host.Outcome State Fault Refusal := .next (s.powerOn 3 0)

/-! ### Domains (R539, R541) -/

/-- The half of a domain below 60. -/
def domHalf (d : Nat) : Half := if d < 30 then .a else .b

/-- The enrolled units and the masters of domain `j` of a half. -/
def domUnits (j : Nat) : List Nat :=
  if j < 20 then (if j % 5 < 2 then [7 + 2 * (j / 5) + j % 5] else if j % 5 = 2 then [3 + j / 5] else [])
  else if j = 20 then [1] else if j = 21 then [2] else if j = 22 then [0]
  else if j = 25 then [16] else if j = 26 then [17] else if j = 27 ∨ j = 29 then [15] else []

def domMasters (j : Nat) : List Nat :=
  if j < 20 then
    let b := 32 + 16 * (j / 5)
    match j % 5 with
    | 0 => [b, b + 1]
    | 1 => [b + 2, b + 3]
    | 2 => List.range' (b + 4) 8
    | 3 => [b + 15]
    | _ => [b + 12, b + 13, b + 14]
  else match j with
    | 20 => [8, 9, 10, 11]
    | 21 => [12, 13, 14, 15]
    | 22 => [16, 17]
    | 23 => [18]
    | 24 => [19, 20]
    | 25 => [0]
    | 26 => [1]
    | 27 => [2, 3]
    | 28 => [4]
    | _ => [5, 6, 7]

/-- A half that is up: ACTIVE, SYNCING or STANDBY. -/
def State.halfUp (s : State) (h : Half) : Bool := (s.half h).st == .active || (s.half h).st == .syncing || (s.half h).st == .standby

/-- A port that uses the lanes of domain 60 or 61 and is up. -/
def State.lanesUsed (s : State) (d : Nat) : Bool :=
  if d = 60 then s.rd Fd.HST_LINK_DLUP0 == 1
  else if s.bifur then s.rd Fd.HST_LINK_DLUP1 == 1
  else s.rd Fd.HST_LINK_DLUP0 == 1 && decide (8 < s.rd Fd.HST_LINK_WIDTH0)

/-- A request that takes a domain out of ON is refused (R541). -/
def State.domBusy (s : State) (d : Nat) : Bool :=
  if d < 60 then
    let h := domHalf d
    let j := d % 30
    (s.active == some h && ((domUnits j).any (fun n => (s.enrolled h).contains n) ||
      (s.heldLocks h).any (fun p => (domMasters j).contains p.2) ||
      (decide (j < 20) && j % 5 == 2 && !(s.sliceDies (j / 5)).isEmpty))) ||
    (((s.half h).st == .syncing || (s.half h).st == .standby) && (j == 22 || j == 24 || j == 25 || j == 26 || j == 27 || j == 29))
  else if d < 62 then s.lanesUsed d
  else if d < 64 then s.rd Fd.DRC_CFG_SERVICE == 1
  else if d < 68 then (List.range' (4 * (d - 64)) 4).any (fun n =>
    (s.slot n).st == .powering || (s.slot n).st == .training || (s.slot n).st == .inUse || (s.slot n).st == .removing)
  else if d < 70 then
    let r := if d = 68 then s.hub.a else s.hub.b
    !(r.st == .off || r.st == .unfit || r.st == .held)
  else if d = 70 then s.ts.isSome
  else s.rd Fd.SVC_CONSOLE_LEVEL != 0

/-- A request is refused: a half that is up keeps its domains from OFF, or the domain is in use. -/
def State.domRefused (s : State) (d req : Nat) : Bool :=
  (decide (d < 60) && req == 2 && s.halfUp (domHalf d)) || (req != 0 && s.domBusy d)

/-- Who writes a domain: a half its own, the clapper holder the hub's; the service port bridge acts for the holder. -/
def State.domWriter (s : State) (m : Nat) (h : Half) (d : Nat) : Bool :=
  if m = 96 then true else if d < 60 then domHalf d == h else s.hub.holder == some h

/-- A write of PWR_DOMd (R541, R547): REFUSED clears where its bit is written; REQ takes effect at the next beat boundary. -/
def State.domWrite (s : State) (m : Nat) (h : Half) (d val : Nat) : State :=
  let req := val % 4
  if domPresent s.variant d = false then s
  else if s.domWriter m h d = false ∨ req = 3 then s.discarded h m Blk.PWR (Reg.PWR_DOM.at d) val
  else
    let s := if bit val 4 then s.wr Fd.PWR_DOM_REFUSED 0 d else s
    if s.domRefused d req then (s.wr Fd.PWR_DOM_REFUSED 1 d).hev 0x1602 [d, 0, 0, 0]
    else (s.wr Fd.PWR_DOM_REQ req d).updHub (fun u => { u with domReq := addOnce d u.domReq })

/-- DOMAIN_REQUEST (R540, R541). -/
def execDomainRequest (m : Nat) (h : Half) (d val : Nat) (s : State) : Host.Outcome State Fault Refusal :=
  .next (s.domWrite m h d val)

/-- The requests take effect at a beat boundary; after a power loss or in the fenced state none is applied (R540, R542). -/
def State.applyDoms (s : State) : State :=
  if s.lg.loss.isSome ∨ s.hub.fenced = true then s
  else (s.each s.hub.domReq (fun s d => s.setDom d (s.rd Fd.PWR_DOM_REQ d))).updHub (fun u => { u with domReq := [] })

end Sys2Proof.Machine
end

