-- ==== Sys2Proof/Machine/View.lean ====
section
/-! DEFINITION. What registers read as (R6, R7, R12 to R17): which registers a variant lacks, the fields that show state
held elsewhere, and the contents of a register as a read finds it. -/

namespace Sys2Proof.Machine

/-! ### Fields that show state held elsewhere -/

/-- A field with the value it reads as. -/
abbrev Shown := Fd × Nat

/-- The scheduler's registers. The machine keeps one live plan; the remaining credits of that plan read alike in the SCH blocks of both
halves (R71; DESIGN CHOICE, log entry 167). -/
def State.viewSCH (s : State) (h : Half) (r : Reg) (i : Nat) : List Shown :=
  let o := otherHalf h
  let x := fun (f : Fd) => if s.variant.twin then s.rd f 0 o else 0
  if r = Reg.SCH_CAP then [(Fd.SCH_CAP_INSTANCES, s.variant.slices)]
  else if r = Reg.SCH_BEAT_LO then [(Fd.SCH_BEAT_LO_COUNT, s.time.beat)]
  else if r = Reg.SCH_BEAT_HI then [(Fd.SCH_BEAT_HI_COUNT, s.time.beat / 2 ^ 32)]
  else if r = Reg.SCH_POS then [(Fd.SCH_POS_BEAT, s.time.beat % 250), (Fd.SCH_POS_CYCLE, s.time.cycle)]
  else if r = Reg.SCH_DONE then [(Fd.SCH_DONE_DONE, doneFlags (s.half h).dones)]
  else if r = Reg.SCH_HOSTCAP then [(Fd.SCH_HOSTCAP_CAP, s.hostCap h i)]
  else if r = Reg.SCH_OVRX then [(Fd.SCH_OVRX_UNIT, x Fd.SCH_OVR_UNIT), (Fd.SCH_OVRX_MULTI, x Fd.SCH_OVR_MULTI),
    (Fd.SCH_OVRX_BEAT, x Fd.SCH_OVR_BEAT), (Fd.SCH_OVRX_VALID, x Fd.SCH_OVR_VALID)]
  else if r = Reg.SCH_OVRX_COUNT then [(Fd.SCH_OVRX_COUNT_COUNT, x Fd.SCH_OVR_COUNT_COUNT)]
  else if r = Reg.SCH_TREMAIN then [(Fd.SCH_TREMAIN_CREDITS, s.credits (i / 256) (i % 256))]
  else if r = Reg.SCH_DIEPAT then [(Fd.SCH_DIEPAT_ABSENT, boolNat ((s.die i).st != 1))]
  else []

def State.viewHST (s : State) (r : Reg) (i : Nat) : List Shown :=
  if r = Reg.HST_CAP then [(Fd.HST_CAP_INSTANCES, if s.variant = .fk9612 then 8 else 16)]
  else if r = Reg.HST_LINK then
    [(Fd.HST_LINK_HOLD, boolNat s.hub.hold), (Fd.HST_LINK_TAGMODE, s.tagMode 0), (Fd.HST_LINK_TAGMODE1, if s.bifur then s.tagMode 1 else 0)] ++
      (if s.bifur then [] else [(Fd.HST_LINK_WIDTH1, 0), (Fd.HST_LINK_SPEED1, 0), (Fd.HST_LINK_DLUP1, 0)]) ++
      (if s.variant = .fk9612 then [(Fd.HST_LINK_BIFUR, 0)] else [])
  else if r = Reg.HST_TAGSTAT then
    let q := (s.nv.tags.filter (fun t => t.quar.isSome)).length
    [(Fd.HST_TAGSTAT_OUT, s.nv.tags.length - q), (Fd.HST_TAGSTAT_QUAR, q)]
  else if r = Reg.HST_TAGUSE then [(Fd.HST_TAGUSE_OUT, s.tagOut i), (Fd.HST_TAGUSE_QUAR, s.tagUse i - s.tagOut i)]
  else if r = Reg.HST_FNSTAT then
    let x := s.fn i
    [(Fd.HST_FNSTAT_BME, boolNat x.bme), (Fd.HST_FNSTAT_FLRPEND, boolNat x.flrAt.isSome), (Fd.HST_FNSTAT_SPLIT, boolNat (s.splitMode i)),
     (Fd.HST_FNSTAT_SC_START, boolNat x.splitStart), (Fd.HST_FNSTAT_SC_TEST, s.rd Fd.HST_MODE_SPLIT_ALL),
     (Fd.HST_FNSTAT_SC_RECOV, boolNat (x.splitRole.isSome || x.splitCto.isSome)), (Fd.HST_FNSTAT_CTOENC, ctoEnc x.cfg.cto),
     (Fd.HST_FNSTAT_ORPHAN, (s.nv.tags.filter (fun t => t.fn == i && t.orphan)).length)]
  else []

def State.viewQUE (s : State) (r : Reg) (i : Nat) : List Shown :=
  if r = Reg.QUE_CTXSTAT then [(Fd.QUE_CTXSTAT_INUSE, s.nv.ctxs.length + s.nv.grants.length)]
  else if r = Reg.QUE_FNUSE then [(Fd.QUE_FNUSE_CTX, s.ctxUse i), (Fd.QUE_FNUSE_DEFER, boolNat (!(s.fn i).c1h.pending.isEmpty)),
    (Fd.QUE_FNUSE_HELD, boolNat (s.nv.held.any (fun x => x.fn == i)))]
  else []

/-- Delta pages' worth of deltas held in the ledger and not yet programmed, rounded down. -/
def State.pendingPages (s : State) : Nat := s.freshDeltas.length / 1024

def State.viewMAP (s : State) (r : Reg) (_i : Nat) : List Shown :=
  if r = Reg.MAP_WBSTAT then [(Fd.MAP_WBSTAT_UNITS, s.unitsHeld.length), (Fd.MAP_WBSTAT_FULL, boolNat (s.tr.parts.any (fun p => p.st == .wait)))]
  else if r = Reg.MAP_WATCH then [(Fd.MAP_WATCH_FREE_CMD, 16384 - s.watchUse 0), (Fd.MAP_WATCH_FREE_RA, 32768 - s.watchUse 1)]
  else if r = Reg.MAP_CKPSTAT then [(Fd.MAP_CKPSTAT_PENDPG, s.pendingPages)]
  else []

/-- Blocks of plane 0 in a state: die blocks. -/
def State.dieBlksIn (s : State) (p : Nat → Blk → Bool) : Nat :=
  (s.md.blks.filter (fun q => decide (q.1 / 2 ^ 15 % 8 = 0) && p (q.1 / 2 ^ 18) q.2)).length

def State.viewMED (s : State) (r : Reg) (i : Nat) : List Shown :=
  if r = Reg.MED_CAP then [(Fd.MED_CAP_INSTANCES, s.variant.channels)]
  else if r = Reg.MED_USABLE then [(Fd.MED_USABLE_UNITS, s.usable / 1024)]
  else if r = Reg.MED_VALID then [(Fd.MED_VALID_UNITS, s.md.valid / 1024)]
  else if r = Reg.MED_FREE then [(Fd.MED_FREE_UNITS, s.freePool / 1024)]
  else if r = Reg.MED_USABLE0 then [(Fd.MED_USABLE0_UNITS, s.md.u0 / 1024)]
  else if r = Reg.MED_HEALTH then [(Fd.MED_HEALTH_SPARE, s.spare), (Fd.MED_HEALTH_USED, s.percentUsed)]
  else if r = Reg.MED_GCSTAT then
    [(Fd.MED_GCSTAT_ACTIVE, sumOf (fun n => if s.md.sbs.any (fun x => x.st == .victim && x.cls == n) then 2 ^ n else 0) (List.range 4)),
     (Fd.MED_GCSTAT_LACKING, min 65535 s.lackingSbs.length)]
  else if r = Reg.MED_RFSSTAT then [(Fd.MED_RFSSTAT_QUEUED, s.md.rfs.length)]
  else if r = Reg.MED_CHSTAT then [(Fd.MED_CHSTAT_DIES, (s.dieNums.filter (fun d => chanOf d == i)).length)]
  else if r = Reg.MED_DIESTAT then
    let d := s.die i
    [(Fd.MED_DIESTAT_STATE, if d.st = 3 then 0 else d.st), (Fd.MED_DIESTAT_TYPE, d.media), (Fd.MED_DIESTAT_FREE, min 4095 (s.freeAbove i false)),
     (Fd.MED_DIESTAT_RETBLK, min 4095 (s.dieBlksIn (fun k b => k == i && (b.st == .retired || b.st == .bad))))]
  else []

def State.viewFCH (s : State) (r : Reg) (_i : Nat) : List Shown :=
  if r = Reg.FCH_CAP then [(Fd.FCH_CAP_INSTANCES, s.variant.channels)]
  else if r = Reg.FCH_ERSTAT then [(Fd.FCH_ERSTAT_PENDING, min 65535 (s.dieBlksIn (fun _ b => b.st == .half))),
    (Fd.FCH_ERSTAT_ABSENT, min 65535 (s.dieBlksIn (fun k b => b.st == .half && (s.die k).st != 1 && (s.die k).st != 2)))]
  else []

/-- A slot's state as CTG_SLOTSTATn.STATE encodes it. -/
def SlotSt.code : SlotSt → Nat
  | .empty => 0
  | .present => 1
  | .powering => 2
  | .training => 3
  | .inUse => 4
  | .removing => 5
  | .off => 6
  | .fault => 7

/-- A superblock lacks a member in a slot. -/
def State.lacksIn (s : State) (n : Nat) : Bool :=
  s.md.sbs.any (fun x => x.members.any (fun m => m.lack != 0 && slotOf m.die == n))

/-- The power indicator (R246, R248): off, on, 1 Hz or 0.25 Hz. -/
def State.powerInd (s : State) (n : Nat) : Nat :=
  match (s.slot n).st with
  | .powering | .training | .removing => 2
  | .inUse => if (List.range s.variant.slotsN).any (fun k => k != n && s.lacksIn k) then 3 else 1
  | _ => 0

/-- The attention indicator (R246, R250): on in FAULT; 1 Hz for LOCATE. After a refused removal it blinks, and with LOCATE set in FAULT
it stays on: the manual gives neither the rate nor the order, and the model takes 1 Hz and FAULT (DESIGN CHOICE, log entry 166). -/
def State.attnInd (s : State) (n : Nat) : Nat :=
  if (s.slot n).st = .fault then 1
  else if s.rd Fd.CTG_SLOTCTRL_LOCATE n = 1 ∨ s.time.beat < (s.slot n).blinkEnd then 2 else 0

def State.viewCTG (s : State) (r : Reg) (i : Nat) : List Shown :=
  if r = Reg.CTG_CAP then [(Fd.CTG_CAP_INSTANCES, s.variant.slotsN)]
  else if r = Reg.CTG_STAT then [(Fd.CTG_STAT_REBUILD, boolNat (!s.lackingSbs.isEmpty)),
    (Fd.CTG_STAT_LACKSLOTS, sumOf (fun n => if s.lacksIn n then 2 ^ n else 0) (List.range 16))]
  else if r = Reg.CTG_SLOTSTAT then
    let x := s.slot i
    [(Fd.CTG_SLOTSTAT_STATE, x.st.code), (Fd.CTG_SLOTSTAT_PRSNT, boolNat x.prsnt), (Fd.CTG_SLOTSTAT_PWREN, boolNat x.pwren),
     (Fd.CTG_SLOTSTAT_PWRGD, boolNat x.pwrgd), (Fd.CTG_SLOTSTAT_PWRFLT, boolNat x.pwrflt), (Fd.CTG_SLOTSTAT_BTN, boolNat x.btn),
     (Fd.CTG_SLOTSTAT_PWRIND, s.powerInd i), (Fd.CTG_SLOTSTAT_ATTNIND, s.attnInd i), (Fd.CTG_SLOTSTAT_CAUSE, x.cause),
     (Fd.CTG_SLOTSTAT_DIES, (s.dieNums.filter (fun d => slotOf d == i)).length)]
  else []

/-- The highest rate of R260 whose page bytes fit the raw page of a media type: rate k takes 17,920 + 256 k bytes. -/
def State.maxRate (s : State) (k : Nat) : Nat := min 7 ((s.rd Fd.ECC_RAW_BYTES k - 17920) / 256)

def State.viewECC (s : State) (r : Reg) (i : Nat) : List Shown :=
  if r = Reg.ECC_CAP then [(Fd.ECC_CAP_INSTANCES, s.variant.slices)]
  else if r = Reg.ECC_SCRUBSTAT then
    match s.md.scrub with
    | some x =>
      let at_ := if x.kind = 1 then x.next / 2 ^ 25 else x.next
      [(Fd.ECC_SCRUBSTAT_PROGRESS, if x.count = 0 then 0 else min 255 ((at_ - x.start) * 256 / x.count))]
    | none => []
  else if r = Reg.ECC_RAW then [(Fd.ECC_RAW_MAXRATE, s.maxRate i)]
  else []

def State.viewLDG (s : State) (r : Reg) (_i : Nat) : List Shown :=
  if r = Reg.LDG_CAP then [(Fd.LDG_CAP_INSTANCES, if s.variant = .fk9612 then 16 else 64)]
  else if r = Reg.LDG_RINGSTAT then [(Fd.LDG_RINGSTAT_USED, s.ringUsed * 8 / 65536), (Fd.LDG_RINGSTAT_LIMIT, s.variant.deltaLimit)]
  else if r = Reg.LDG_PMRSTAT then [(Fd.LDG_PMRSTAT_SPARE, s.lg.spares.length)]
  else []

/-- The PHY setting that a value of DRC_PHYSEL selects: the value last written; before that, the setting training found, which the
manual leaves open, and 0 before training. -/
def State.phySetting (s : State) (sel : Nat) : Nat :=
  match spGet (fun _ => 0) s.dr.phy sel with
  | 0 => if s.rd Fd.DRC_CFG_TRAINED = 1 then (Config.fixedValue (16 + sel)).toNat else 0
  | v + 1 => v

def State.viewDRC (s : State) (r : Reg) (_i : Nat) : List Shown :=
  if r = Reg.DRC_PHYDLY then [(Fd.DRC_PHYDLY_VALUE, s.phySetting (s.reg .a Blk.DRC Reg.DRC_PHYSEL.off).toNat)] else []

/-- Buffers of a pool that are allocated; for cakes, the general ones. -/
def State.poolUsed (s : State) (h : Half) (slice cluster pool : Nat) : Nat :=
  (s.bf.recs.filter (fun p => decide (p.1 / 2 ^ 28 = halfNum h) && !p.2.owners.isEmpty && hSlice p.1 == slice && hPool p.1 == pool &&
    hCluster p.1 == cluster && decide (p.1 % 2 ^ 16 < poolTotal slice pool))).length

def State.viewBUF (s : State) (h : Half) (r : Reg) (i : Nat) : List Shown :=
  if r = Reg.BUF_CAP then [(Fd.BUF_CAP_INSTANCES, s.variant.slices + 2)]
  else if r = Reg.BUF_FREE then
    let j := i % 8
    let k := if j = 6 then 3 else j % 3
    let t := poolTotal (i / 8) k
    [(Fd.BUF_FREE_TOTAL, t), (Fd.BUF_FREE_FREE, t - s.poolUsed h (i / 8) (if j = 6 then 0 else j / 3) k)]
  else if r = Reg.BUF_TENUSE then
    [(Fd.BUF_TENUSE_UNITS, s.tenUse h i), (Fd.BUF_TENUSE_WAIT, boolNat (s.bf.waits.any (fun w => w.half == h && w.tenant == i && !w.noq &&
      (masterPool w.master).1 == 4 && decide (s.quotaInForce i < s.tenUse h i + poolUnits w.pool))))]
  else []

def State.viewSAF (s : State) (r : Reg) (_i : Nat) : List Shown :=
  if r = Reg.SAF_CAP then [(Fd.SAF_CAP_INSTANCES, if s.variant.twin then 2 else 1)]
  else if r = Reg.SAF_STATE then
    [(Fd.SAF_STATE_HALFA, s.hub.a.st.code), (Fd.SAF_STATE_HALFB, s.hub.b.st.code), (Fd.SAF_STATE_FENCED, boolNat s.hub.fenced),
     (Fd.SAF_STATE_UNFITA, min 15 (s.unfitCount .a)), (Fd.SAF_STATE_UNFITB, min 15 (s.unfitCount .b))]
  else []

def State.viewCLP (s : State) (r : Reg) (_i : Nat) : List Shown :=
  if r = Reg.CLP_STAT then
    match s.hub.holder with
    | some h => [(Fd.CLP_STAT_HOLDER, halfNum h), (Fd.CLP_STAT_HELD, boolNat (decide (s.time.beat < s.hub.leaseEnd))),
        (Fd.CLP_STAT_LEASE, min 5 (s.hub.leaseEnd - s.time.beat)), (Fd.CLP_STAT_HOLD, boolNat s.hub.hold),
        (Fd.CLP_STAT_WITHDRAWN, boolNat (s.half h).gone)]
    | none => [(Fd.CLP_STAT_HOLD, boolNat s.hub.hold)]
  else []

/-- The channels to (`out`) or from an endpoint that hold a message, as bits by the other endpoint. -/
def State.chanBits (s : State) (h : Half) (e : Nat) (out : Bool) : Nat :=
  sumOf (fun j => if (if out then s.channel h e j else s.channel h j e).full then 2 ^ j else 0) (List.range 26)

/-- SEQ of the message in a channel: one less than the messages accepted; with no message in it, a value the manual leaves open
once the channel has carried one. -/
def State.chanSeq (s : State) (h : Half) (src e : Nat) : Nat :=
  let c := s.channel h src e
  if c.full then (c.next + 255) % 256 else if c.next = 0 then 0 else (Config.fixedValue (2 ^ 20 + chanKey h src e * 256 + c.next)).toNat

def State.viewCHM (s : State) (h : Half) (r : Reg) (i : Nat) : List Shown :=
  if r = Reg.CHM_CAP then [(Fd.CHM_CAP_INSTANCES, 10 + 4 * s.variant.slices)]
  else if r = Reg.CHM_TXSTAT then
    let o := s.chanBits h i true != 0
    let n := s.chanBits h i false != 0
    [(Fd.CHM_TXSTAT_OUTWAIT, boolNat o), (Fd.CHM_TXSTAT_INPEND, boolNat n), (Fd.CHM_TXSTAT_DRAIN, boolNat (o && n))]
  else if r = Reg.CHM_TXFULL then [(Fd.CHM_TXFULL_CHAN, s.chanBits h i true)]
  else if r = Reg.CHM_INPEND then [(Fd.CHM_INPEND_CHAN, s.chanBits h i false)]
  else
    let src := s.rd Fd.CHM_RXSEL_SRC i h
    let c := s.channel h src i
    if r = Reg.CHM_RXSEL then [(Fd.CHM_RXSEL_VALID, boolNat c.full), (Fd.CHM_RXSEL_SEQ, s.chanSeq h src i)]
    else if r = Reg.CHM_RXLO then [(Fd.CHM_RXLO_DATA, if c.full then c.msg.toNat else 0)]
    else if r = Reg.CHM_RXHI then [(Fd.CHM_RXHI_DATA, if c.full then c.msg.toNat / 2 ^ 32 else 0)]
    else []

def State.viewSEM (s : State) (h : Half) (r : Reg) (i : Nat) : List Shown :=
  if r = Reg.SEM_PEEK then
    match s.lockHolder h i with
    | some m => [(Fd.SEM_PEEK_HELD, 1), (Fd.SEM_PEEK_HOLDER, m)]
    | none => []
  else []

def State.viewBTA (s : State) (r : Reg) (_i : Nat) : List Shown :=
  if r = Reg.BTA_STAT then
    [(Fd.BTA_STAT_FETCH0, boolNat (s.bankBusy 0)), (Fd.BTA_STAT_FETCH1, boolNat (s.bankBusy 1)), (Fd.BTA_STAT_OPBUSY, boolNat s.bt.op.isSome),
     (Fd.BTA_STAT_STATE0, s.bankState 0), (Fd.BTA_STAT_STATE1, s.bankState 1)]
  else if r = Reg.BTA_REPAIR then
    let e := s.repairs
    [(Fd.BTA_REPAIR_ENTRIES, e.length), (Fd.BTA_REPAIR_FULL, boolNat (decide (64 ≤ e.length))),
     (Fd.BTA_REPAIR_SPARE0, (s.freeSpares 0).length), (Fd.BTA_REPAIR_SPARE1, (s.freeSpares 1).length),
     (Fd.BTA_REPAIR_UNUSABLE, min 255 (e.filter (fun x => entrySpare x == 0xFE)).length)]
  else []

def State.viewSVC (s : State) (r : Reg) (_i : Nat) : List Shown :=
  if r = Reg.SVC_CONSOLE then
    [(Fd.SVC_CONSOLE_REMAIN, if s.rd Fd.SVC_CONSOLE_LEVEL = 0 then 0 else (s.sv.consEnd - s.time.beat) / 15000000)]
  else []

def State.viewSEC (s : State) (r : Reg) (_i : Nat) : List Shown :=
  if r = Reg.SEC_STAT then [(Fd.SEC_STAT_NSKEYS, (s.tr.ns.filter (fun n => n.key.isSome && !n.fns.isEmpty)).length),
    (Fd.SEC_STAT_KEYBLK, boolNat s.keyMissing)]
  else []

/-- A 32-bit word of a list of 64-bit ones. -/
def halfWord (ws : List Word64) (w : Nat) : Nat := (ws.getD (w / 2) 0).toNat / 2 ^ (32 * (w % 2)) % 2 ^ 32

/-- The words of the record that EVT_RDSEL selects (R507). -/
def State.selected (s : State) : List Word64 :=
  let lo := s.rd Fd.EVT_RDSEL_LO_SEL
  if s.rd Fd.EVT_RDSEL_HI_AREA = 1 then s.recordWords 1 (lo % 16384)
  else s.recordWords 0 (lo + s.rd Fd.EVT_RDSEL_HI_SEL * 2 ^ 32)

def State.viewEVT (s : State) (r : Reg) (i : Nat) : List Shown :=
  let last := s.evt.seq - 1
  if r = Reg.EVT_STAT then [(Fd.EVT_STAT_QUEUE, s.evt.queue.length), (Fd.EVT_STAT_STOPPED, boolNat s.evt.stopped),
    (Fd.EVT_STAT_CLEARING, boolNat s.evt.clearing.isSome), (Fd.EVT_STAT_PERM, s.evt.perm)]
  else if r = Reg.EVT_LAST_LO then [(Fd.EVT_LAST_LO_SEQ, last)]
  else if r = Reg.EVT_LAST_HI then [(Fd.EVT_LAST_HI_SEQ, last / 2 ^ 32)]
  else if r = Reg.EVT_PBASE_LO then [(Fd.EVT_PBASE_LO_SEQ, s.evt.pbase)]
  else if r = Reg.EVT_PBASE_HI then [(Fd.EVT_PBASE_HI_SEQ, s.evt.pbase / 2 ^ 32)]
  else if r = Reg.EVT_RD then [(Fd.EVT_RD_WORD, halfWord s.selected i)]
  else if r = Reg.EVT_THIST then
    [(Fd.EVT_THIST_WORD, halfWord ((s.evt.hist.getD (s.rd Fd.EVT_THSEL_HOUR) []).map (BitVec.ofNat 64)) i)]
  else []

def State.viewPWR (s : State) (r : Reg) (_i : Nat) : List Shown :=
  if r = Reg.PWR_CAP then [(Fd.PWR_CAP_INSTANCES, match s.variant with
    | .fk9640 => 0x48
    | .fk9620 => 0x29
    | .fk9612 => 0x1C)]
  else if r = Reg.PWR_STAT then [(Fd.PWR_STAT_HOLDOK, boolNat s.lg.holdok), (Fd.PWR_STAT_CLKOK, 1)]
  else []

/-- The fields of a register that show state held elsewhere. -/
def State.shown (s : State) (h : Half) (b : Nat) (r : Reg) (i : Nat) : List Shown :=
  match b with
  | 1 => s.viewHST r i
  | 2 => s.viewQUE r i
  | 3 => if r = Reg.TEN_CAP then [(Fd.TEN_CAP_INSTANCES, s.variant.slices)] else []
  | 4 => s.viewMAP r i
  | 5 => s.viewMED r i
  | 6 => s.viewFCH r i
  | 7 => s.viewCTG r i
  | 8 => s.viewECC r i
  | 10 => s.viewLDG r i
  | 11 => s.viewDRC r i
  | 12 => s.viewBUF h r i
  | 13 => s.viewSAF r i
  | 14 => s.viewCLP r i
  | 15 => s.viewCHM h r i
  | 16 => s.viewSEM h r i
  | 17 => s.viewBTA r i
  | 18 => s.viewSVC r i
  | 19 => s.viewSEC r i
  | 20 => s.viewEVT r i
  | 22 => s.viewPWR r i
  | 23 => s.viewSCH h r i
  | _ => []

/-- The contents of a register as a read finds them: WO fields read 0 (R16), absent registers (R6) and RSV bits (R15) read 0. -/
def State.view (s : State) (h : Half) (b off : Nat) : Word :=
  match findRow (regRows b) off with
  | none => 0
  | some (row, i) =>
    if regAbsent s.variant h b row.reg i || regReserved row.reg i then 0
    else
      let w := (s.shown h b row.reg i).foldl (fun w p => p.1.put w p.2) (s.reg h b off)
      row.fields.foldl (fun w f => if f.acc = .wo then Fd.put ⟨row.reg, f.lsb, f.width⟩ w 0 else w) w &&& BitVec.ofNat 32 (fieldBits row i)

end Sys2Proof.Machine
end

