-- ==== Sys2Proof/Machine/Access.lean ====
section
/-! DEFINITION. Register access (R6 to R17, R548): writes settled by their register, reads with the shadow of a high word and
the clearing of RC fields, and the commands REGISTER_WRITE, LOW_WORD_READ, the reads of RC registers, REG_READ, REG_WRITE, the
console's register lines and SNAPSHOT_LATCH. -/

namespace Sys2Proof.Machine

/-! ### Reads -/

/-- The low word of a 64-bit quantity (R11): the high word is the next register. -/
def lowWord (r : Reg) (i : Nat) : Bool :=
  r == Reg.SCH_BEAT_LO || r == Reg.MAP_TARTS_LO || r == Reg.MAP_CKPSEQ_LO || r == Reg.ECC_SCRUBSTART_LO || r == Reg.LDG_HEAD_LO ||
  r == Reg.EVT_LAST_LO || r == Reg.EVT_PBASE_LO || r == Reg.EVT_RDSEL_LO || r == Reg.TST_BITS_LO || r == Reg.TST_FIRST_LO ||
  r == Reg.TST_LANEERR_LO || r == Reg.TST_HOSTADDR_LO || r == Reg.DRC_PATERR_LO || r == Reg.DRC_FLIP_LO || r == Reg.CHM_TXLO ||
  r == Reg.CHM_RXLO || r == Reg.EVT_ARG0 || r == Reg.EVT_ARG2 || r == Reg.EVT_ARG4 || r == Reg.EVT_ARG6 ||
  ((r == Reg.BTA_BUF || r == Reg.EVT_RD || r == Reg.EVT_THIST) && i % 2 == 0) || (r == Reg.EVT_SNAP && i == 0) ||
  (r == Reg.ECC_SUM && (i == 1 || i == 12 || i == 14))

/-- The shadow of a high word that a master of a half holds (R12). -/
def hiKey (h : Half) (m b off : Nat) : Nat := (halfNum h * 128 + m) * 2 ^ 25 + regKey h b off

/-- The RC fields of a register with a bit among `n` bytes from byte `byte` return to their reset values (R14, R16). -/
def State.clearRc (s : State) (h : Half) (b off : Nat) (row : RegRow) (i byte n : Nat) : State :=
  let hit := row.fields.filter (fun f => f.acc == .rc && decide (f.lsb < 8 * (byte + n)) && decide (8 * byte < f.lsb + f.width))
  if hit.isEmpty then s
  else
    let s := s.setReg h b off (hit.foldl (fun w f => Fd.put ⟨row.reg, f.lsb, f.width⟩ w f.rst) (s.reg h b off))
    if row.reg = Reg.CTG_SLOTSTAT then s.updSlot i (fun x => { x with btn := false }) else s

/-- An ordinary read of a register: its value, the capture of a high word or its return from the shadow (R12, R13), and the clearing
of RC fields. -/
def State.readPlain (s : State) (h : Half) (m b off : Nat) (row : RegRow) (i byte n : Nat) : Nat × State :=
  match spGet (fun _ => 0) s.hi (hiKey h m b off) with
  | v + 1 => (v, { s with hi := spSet (fun _ => 0) s.hi (hiKey h m b off) 0 })
  | 0 =>
    let v := (s.view h b off).toNat
    let s := if lowWord row.reg i then
        { s with hi := spSet (fun _ => 0) s.hi (hiKey h m b (off + 4)) ((s.view h b (off + 4)).toNat + 1) }
      else s
    (v, s.clearRc h b off row i byte n)

/-- A read by master `m` of half `h` of `n` bytes from byte `byte` of the register at `off`: a lock register is acquired (R431); the
registers of a chime endpoint answer its master and masters 0 and 1, others read 0 and are counted (R437); absent registers read 0
(R6). -/
def State.readReg (s : State) (h : Half) (m b off byte n : Nat) : Nat × State :=
  match findRow (regRows b) off with
  | none => (0, s)
  | some (row, i) =>
    if regAbsent s.variant h b row.reg i then (0, s)
    else if row.reg = Reg.SEM_LOCK then
      let t := s.readLock h m i
      (t.readData, t)
    else if b = Blk.CHM ∧ 0x100 ≤ row.reg.off ∧ m ≠ endpointMaster i ∧ 2 ≤ m then (0, s.refuseChime h i m off 0)
    else s.readPlain h m b off row i byte n

/-- The part of a read that falls in word `k`. -/
def State.readWord (h : Half) (m b off width : Nat) (a : Nat × State) (k : Nat) : Nat × State :=
  let lo := max off (4 * k)
  let n := min (off + width) (4 * k + 4) - lo
  let r := a.2.readReg h m b (4 * k) (lo - 4 * k) n
  (a.1 + r.1 / 2 ^ (8 * (lo - 4 * k)) % 2 ^ (8 * n) * 2 ^ (8 * (lo - off)), r.2)

/-- A read of any width (R14): the addressed bytes, the lower word first. -/
def State.readAt (s : State) (h : Half) (m b off width : Nat) : State :=
  if width = 0 then { s with readData := 0 }
  else
    let r := (List.range' (off / 4) ((off + width - 1) / 4 - off / 4 + 1)).foldl (State.readWord h m b off width) (0, s)
    { r.2 with readData := r.1 }

/-! ### Writes -/

/-- Another master than those the block admits writes it: SAF and CLP take the clapper holder and the service port (R418, R419),
BTA masters of the clapper holder (R466), EVT_LIM the clapper holder (R513), EVT_ARGm master m (R501), TST the writers of R514 while
no run is in progress (R526). -/
def State.writerOk (s : State) (h : Half) (m b : Nat) (r : Reg) (i : Nat) : Bool :=
  if b = Blk.SAF ∨ b = Blk.CLP then m == 96 || s.hub.holder == some h
  else if b = Blk.BTA then m != 96 && s.hub.holder == some h
  else if r = Reg.EVT_LIM then m != 96 && s.hub.holder == some h
  else if b = Blk.EVT ∧ 0x1000 ≤ r.off ∧ r ≠ Reg.EVT_SUB then m == i
  else if b = Blk.TST ∧ r ≠ Reg.TST_CTRL then testWriter 0 m && s.ts.isNone
  else true

/-- A write breaks the rule of its register that goes beyond one field's range: the space class thresholds, superblocks of the FK9612,
write-buffer reservations, the rates of R261, and the credits of R350. -/
def State.badRule (s : State) (r : Reg) (i val : Nat) : Bool :=
  if r = Reg.MED_GCCFG then decide (val / 2 ^ 16 % 2 ^ 10 ≤ val % 2 ^ 10)
  else if r = Reg.MED_SBCFG then s.variant == .fk9612 && decide (8 < val % 32)
  else if r = Reg.MAP_WBTEN then
    decide (4096 < val % 2 ^ 12 + sumOf (fun t => if t = i then 0 else s.rd Fd.MAP_WBTEN_RES t) (List.range 256))
  else if r = Reg.ECC_GRPRATE then
    ((s.die (i / 2)).st == 1 || (s.die (i / 2)).st == 2) && (ratesOf val).any (fun k => decide (s.maxRate (s.mediaOf (i / 2)) < k))
  else if r = Reg.ECC_CFG then
    (List.range 4).any (fun k => s.rd Fd.MED_GEOM_VALID k == 1 && decide (s.maxRate k < val % 8))
  else if r = Reg.DRC_PORT then
    decide (s.rd Fd.DRC_STAT_LINES <
      val % 2 ^ 13 + sumOf (fun p => if p = i ∨ portPresent s.variant p = false then 0 else s.rd Fd.DRC_PORT_CREDITS p) (List.range 6))
  else if r = Reg.DRC_MRCMD then decide (9 < val / 2 ^ 20 % 16) && val / 2 ^ 20 % 16 != 15
  else false

/-- A field's contents after a write (R16): RW takes the value written, W1C clears, W1S sets; RO, RC and WO fields keep theirs. -/
def fieldAfter (old val : Nat) : Acc → Nat
  | .rw => val
  | .w1c => (List.range 32).foldl (fun a k => if bit old k && !bit val k then a + 2 ^ k else a) 0
  | .w1s => (List.range 32).foldl (fun a k => if bit old k || bit val k then a + 2 ^ k else a) 0
  | _ => old

/-- A write of the fields of a register by their access codes; RSV bits keep reading 0 (R15). -/
def State.writeFields (s : State) (h : Half) (b off : Nat) (row : RegRow) (val : Nat) : State :=
  s.setReg h b off (row.fields.foldl (fun w f =>
    Fd.put ⟨row.reg, f.lsb, f.width⟩ w (fieldAfter (Fd.get ⟨row.reg, f.lsb, f.width⟩ w) (val / 2 ^ f.lsb % 2 ^ f.width) f.acc)) (s.reg h b off))

/-- The registers of the pending plan, which a COMMIT that waits holds as they are (R60). -/
def planReg (r : Reg) : Bool := r == Reg.SCH_PATROW || r == Reg.SCH_DIEPAT || r == Reg.SCH_CHPAT || r == Reg.SCH_TBUDGET

/-- A write of BUF_OPm issues the operation on the handle in BUF_ARGm (R384); an operation of no code is invalid. -/
def State.bufWrite (s : State) (h : Half) (m val : Nat) : State :=
  s.bufOp h m val (fun s =>
    let hd := s.rd Fd.BUF_ARG_HANDLE m h
    match val % 8 with
    | 1 => s.bufAlloc ⟨h, m, val / 2 ^ 4 % 4, bit val 7, val / 2 ^ 8 % 2 ^ 8, 0⟩
    | 2 => s.bufShare h m hd (val / 2 ^ 16 % 2 ^ 7)
    | 3 => s.bufFree h m hd
    | 4 => s.bufQuery h m hd
    | _ => s.bufRes h m 4 0)

/-- A write of CTG_SLOTCTRLn: LOCATE, then the requests. -/
def State.slotWrite (s : State) (n val : Nat) : State :=
  let s := s.wr Fd.CTG_SLOTCTRL_LOCATE (val / 8) n
  let s := s.when (bit val 0) (fun s => s.reqOn n)
  let s := s.when (bit val 1) (fun s => s.reqOff n)
  s.when (bit val 2) (fun s => s.cancelRemoval n)

/-- A write of RGL_LOOPCMD (R300): with OP 0 it sets the fields alone. -/
def State.loopWrite (s : State) (_m val : Nat) : State :=
  let s := s.when (bit val 30) (fun s => s.wr Fd.RGL_LOOPCMD_REFUSED 0)
  let op := val / 2 ^ 24 % 8
  if op = 0 then ((s.wr Fd.RGL_LOOPCMD_DIE val).wr Fd.RGL_LOOPCMD_GROUP (val / 2 ^ 16)).wr Fd.RGL_LOOPCMD_OP 0
  else s.loopCommand (val % 2 ^ 10) (val / 2 ^ 16 % 16) op s.time.cycle

/-- A write of DRC_MRCMD (R386). -/
def State.mrCmd (s : State) (m val : Nat) : State :=
  let mr := val % 2 ^ 8
  let data := val / 2 ^ 8 % 2 ^ 8
  let sr := val / 2 ^ 16 % 16
  let dev := val / 2 ^ 20 % 16
  match val / 2 ^ 24 % 4 with
  | 1 => s.mrWrite m mr data sr dev
  | 2 => s.mrRead m mr data sr dev
  | op => if mrDevOk dev then s.mrFields mr data sr dev op else s.discarded s.act m Blk.DRC Reg.DRC_MRCMD.off val

/-- A write of DRC_PHYDLY sets the setting that DRC_PHYSEL selects. -/
def State.phyWrite (s : State) (val : Nat) : State :=
  let sel := (s.reg .a Blk.DRC Reg.DRC_PHYSEL.off).toNat
  s.updDr (fun d => { d with phy := spSet (fun _ => 0) d.phy sel (val % 2 ^ 10 + 1) })

/-- Registers of the half's own blocks and of the host link whose write issues an operation; `none` for every other register. -/
def State.issueHalf (s : State) (h : Half) (m b : Nat) (r : Reg) (i val : Nat) : Option State :=
  if b = Blk.SCH then
    if r = Reg.SCH_DONE_SET then some (s.doneWrite h val s.time.cycle)
    else if r = Reg.SCH_ENROLL then some (s.enrollWrite m h val)
    else if r = Reg.SCH_PLAN_CTRL then some (s.planWrite h val)
    else if planReg r = true ∧ s.rd Fd.SCH_PLAN_CTRL_COMMIT 0 h = 1 then some (s.discarded h m b (r.at i) val)
    else none
  else if b = Blk.HST then
    if r = Reg.HST_MODE then some (s.splitWrite val)
    else if r = Reg.HST_TAGBUD then some (s.tagbudWrite m i val)
    else if r = Reg.HST_WIN_CTRL then some (s.winWrite i val)
    else if (r = Reg.HST_WIN_OFF ∨ r = Reg.HST_WIN_TGT ∨ r = Reg.HST_WIN_REQ) ∧ s.rd Fd.HST_WIN_CTRL_EN i = 1 then
      some (s.discarded h m b (r.at i) val)
    else none
  else if b = Blk.QUE then (if r = Reg.QUE_FNCTX then some (s.ctxBudgetWrite m i val) else none)
  else if b = Blk.BUF then (if r = Reg.BUF_OP then some (s.bufWrite h i val) else none)
  else if b = Blk.CHM then
    if 0x100 ≤ r.off ∧ m ≠ endpointMaster i then some (s.refuseChime h i m (r.at i) 1)
    else if r = Reg.CHM_TXCTRL then some (s.chimeTx h m i val)
    else if r = Reg.CHM_RXACK then some (s.chimeRx h m i (bit val 0))
    else none
  else if b = Blk.SEM then
    if r = Reg.SEM_LOCK then some (s.releaseLock h m i val) else if r = Reg.SEM_FORCE then some (s.forceLock h m val) else none
  else none

/-- Registers of the other blocks whose write issues an operation. -/
def State.issueRest (s : State) (h : Half) (m b : Nat) (r : Reg) (i val : Nat) : Option State :=
  if b = Blk.CTG then (if r = Reg.CTG_SLOTCTRL then some (s.slotWrite i val) else none)
  else if b = Blk.ECC then
    (if r = Reg.ECC_SCRUBCTRL then some ((s.scrubGo val).when (bit val 1) (fun s => s.scrubCancel)) else none)
  else if b = Blk.RGL then (if r = Reg.RGL_LOOPCMD then some (s.loopWrite m val) else none)
  else if b = Blk.DRC then
    if r = Reg.DRC_SCRUBCTRL then some ((s.dscrubGo m val).when (bit val 1) (fun s => s.dscrubCancel))
    else if r = Reg.DRC_PATCTRL then some (s.helperWrite m val)
    else if r = Reg.DRC_MRCMD then some (s.mrCmd m val)
    else if r = Reg.DRC_PHYDLY then some (s.phyWrite val)
    else if r = Reg.DRC_FLIPCTRL then some (s.flipWrite val)
    else none
  else if b = Blk.SAF then
    (if r = Reg.SAF_CTRL then some (if bit val 0 && s.variant.twin then s.restoreWrite m else s) else none)
  else if b = Blk.CLP then (if r = Reg.CLP_DRILLCTRL then some (if bit val 0 then s.drillNow else s) else none)
  else if b = Blk.BTA then (if r = Reg.BTA_OPCTRL then some (s.opctrlWrite m (val % 4) (val / 2 ^ 8 % 2 ^ 7)) else none)
  else if b = Blk.EVT then
    if r = Reg.EVT_SUB then some (s.submitByMaster h m i val)
    else if r = Reg.EVT_SNAPCTRL then some (s.snapWrite val) else none
  else if b = Blk.TST then (if r = Reg.TST_CTRL then some (s.testWrite m val) else none)
  else if b = Blk.PWR then (if r = Reg.PWR_DOM then some (s.domWrite m h i val) else none)
  else none

/-- What follows from a register's new contents: a slot's power fault latch, room for waiting writes, the progress of a start-up step,
which restarts its limit (R462). -/
def State.afterWrite (s : State) (b : Nat) (r : Reg) (i val was : Nat) : State :=
  if r = Reg.CTG_SLOTSTAT then s.when (bit val 6) (fun s => s.updSlot i (fun x => { x with pwrflt := false }))
  else if r = Reg.MAP_WBTEN then s.grantParts
  else if b = Blk.BTA ∧ r = Reg.BTA_BOOTSTAT ∧ s.rd Fd.BTA_BOOTSTAT_PROGRESS ≠ was then s.updBt (fun x => { x with stepAt := s.time.beat })
  else s

/-- A write of 32 bits to the register at `off` (R14). -/
def State.writeReg (s : State) (h : Half) (m b off val : Nat) : State :=
  match findRow (regRows b) off with
  | none => s
  | some (row, i) =>
    let val := val % 2 ^ rsvAbove row.reg i
    if regAbsent s.variant h b row.reg i || regReserved row.reg i then s
    else if s.writerOk h m b row.reg i = false then s.discarded h m b off val
    else match (s.issueHalf h m b row.reg i val).or (s.issueRest h m b row.reg i val) with
      | some t => t
      | none =>
        if badRange row val || s.badRule row.reg i val then s.discarded h m b off val
        else (s.writeFields h b off row val).afterWrite b row.reg i val (s.rd Fd.BTA_BOOTSTAT_PROGRESS)

/-- A byte address lies in the range of an absent block or of an absent instance (R6, R7). -/
def State.inAbsent (s : State) (h : Half) (b off : Nat) : Bool :=
  match findRow (regRows b) (off / 4 * 4) with
  | some (row, i) => regAbsent s.variant h b row.reg i
  | none => (regRows b).isEmpty || (perHalf b off && h == .b && !s.variant.twin) || (b == Blk.CLP && !s.variant.twin)

/-- A register write of `width` bytes (R14): 4 aligned bytes act on their register, 8 aligned bytes act as two writes, the lower address
first; every other write is discarded and recorded, unless it falls in an absent range. -/
def State.writeAt (s : State) (h : Half) (m b off width val : Nat) : State :=
  if width = 4 ∧ off % 4 = 0 then s.writeReg h m b off (val % 2 ^ 32)
  else if width = 8 ∧ off % 8 = 0 then (s.writeReg h m b off (val % 2 ^ 32)).writeReg h m b (off + 4) (val / 2 ^ 32 % 2 ^ 32)
  else if s.inAbsent h b off then s
  else s.discarded h m b off val

/-! ### The service port and the console (R476, R494) -/

/-- A REG_WRITE that R476 refuses: TEN and SEC registers, fields loaded from the configuration image, and the plan registers of SCH. A
register that holds other fields too is refused when the write would change an image field. -/
def State.svcRefuses (s : State) (h : Half) (b off val : Nat) : Bool :=
  b == Blk.TEN || b == Blk.SEC ||
  (match findRow (regRows b) off with
  | none => false
  | some (row, _) =>
    let m := imageBits row.reg
    planReg row.reg || row.reg == Reg.SCH_PLAN_CTRL || m == 2 ^ 32 - 1 ||
      ((BitVec.ofNat 32 val ^^^ s.reg h b off) &&& BitVec.ofNat 32 m) != 0)

/-- An address that names a register word. -/
def regAddr (b off : Nat) : Bool := !(regRows b).isEmpty && off % 4 == 0 && decide (off < 65536)

/-- REG_READ (R476): one register as master 96. -/
def State.svcRead (s : State) (sess : Nat) (h : Half) (b off : Nat) : State :=
  s.oper sess (fun s =>
    if regAddr b off = false then s.reply (svcCode 2) [3]
    else
      let r := s.readReg h 96 b off 0 4
      r.2.executed 2 [r.1] (fun s => s))

/-- The status of a REG_WRITE. -/
def State.regWriteStatus (h : Half) (b off val : Nat) (s : State) : Nat :=
  if regAddr b off = false then 3 else if s.svcRefuses h b off val then 1 else 0

/-! ### Snapshots (R511) -/

/-- The registers latched into words 0 to 30. -/
def snapRegs : List (Nat × Nat) :=
  let r := fun (x : Reg) => (x.blk, x.off)
  [r Reg.SCH_BEAT_LO, r Reg.SCH_BEAT_HI, r Reg.ECC_CNT_SOFT, r Reg.ECC_CNT_LADDER, r Reg.ECC_CNT_RECON, r Reg.ECC_CNT_UNREC,
   r Reg.ECC_CNT_MISCOR, r Reg.ECC_CNT_TAGERR, r Reg.MED_CNT_PFAIL, r Reg.MED_CNT_EFAIL, r Reg.MED_CNT_GCFAIL, r Reg.MED_CNT_RFS,
   r Reg.MED_CNT_LOST, r Reg.DRC_CNT_CORR, r Reg.DRC_CNT_UNCORR, r Reg.DRC_CNT_PPR, r Reg.LDG_CNT_CORR, r Reg.LDG_CNT_UNCORR,
   r Reg.LDG_CNT_PLOSS, r Reg.SAF_CNT_CONTROL, r Reg.SAF_CNT_DATAPATH, r Reg.SAF_CNT_SHADOW, r Reg.FCH_CNT_TIMEOUT, r Reg.HST_CNT_CTO,
   r Reg.SCH_OVR_COUNT, r Reg.EVT_CNT_SUPP, r Reg.EVT_CNT_LOST, r Reg.MED_USABLE, r Reg.MED_FREE, r Reg.TEN_DEGRADE, r Reg.CLP_CNT_DRILL]

/-- The latch at a bar boundary: SCH_OVR_COUNT is that of the serving half. -/
def State.latchSnap (s : State) : State :=
  if s.atBar = true ∧ s.rd Fd.EVT_SNAPCTRL_GO = 1 then
    let ws := snapRegs.map (fun p => (s.view s.act p.1 p.2).toNat) ++ [s.rd Fd.EVT_SNAPCTRL_ID]
    let s := s.each (ws.zip (List.range 32)) (fun s p => s.wr Fd.EVT_SNAP_WORD p.1 p.2)
    (s.wr Fd.EVT_SNAPCTRL_GO 0).wr Fd.EVT_SNAPCTRL_DONE 1
  else s

/-! ### The rows -/

/-- REGISTER_WRITE (R14). -/
def execRegisterWrite (m : Nat) (h : Half) (blk off width val : Nat) (s : State) : Host.Outcome State Fault Refusal :=
  .next (s.writeAt h m blk off width val)

/-- LOW_WORD_READ (R12). -/
def execLowWordRead (m : Nat) (h : Half) (blk off width : Nat) (s : State) : Host.Outcome State Fault Refusal :=
  .next (s.readAt h m blk off width)

/-- SCH_SLACK_READ (R69). -/
def execSchSlackRead (h : Half) (byte width : Nat) (s : State) : Host.Outcome State Fault Refusal :=
  .next (s.readAt h 0 Blk.SCH (Reg.SCH_SLACK.off + byte) width)

/-- TEN_MISS_READ (R151). -/
def execTenMissRead (t byte width : Nat) (s : State) : Host.Outcome State Fault Refusal :=
  .next (s.readAt s.act 0 Blk.TEN (Reg.TEN_MISS.at t + byte) width)

/-- MED_RFSSTAT_READ (R222). -/
def execMedRfsstatRead (byte width : Nat) (s : State) : Host.Outcome State Fault Refusal :=
  .next (s.readAt s.act 0 Blk.MED (Reg.MED_RFSSTAT.off + byte) width)

/-- ECC_CBMAX_READ (R16). -/
def execEccCbmaxRead (byte width : Nat) (s : State) : Host.Outcome State Fault Refusal :=
  .next (s.readAt s.act 0 Blk.ECC (Reg.ECC_CBMAX.off + byte) width)

/-- CTG_SLOTSTAT_READ (R247). -/
def execCtgSlotstatRead (n byte width : Nat) (s : State) : Host.Outcome State Fault Refusal :=
  .next (s.readAt s.act 0 Blk.CTG (Reg.CTG_SLOTSTAT.at n + byte) width)

/-- PWR_PKG_READ (R547). -/
def execPwrPkgRead (byte width : Nat) (s : State) : Host.Outcome State Fault Refusal :=
  .next (s.readAt s.act 0 Blk.PWR (Reg.PWR_PKG.off + byte) width)

/-- REG_READ (R476). -/
def execRegRead (sess : Nat) (h : Half) (blk off : Nat) (s : State) : Host.Outcome State Fault Refusal :=
  .next (s.svcRead sess h blk off)

/-- REG_WRITE (R476). -/
def execRegWrite (sess : Nat) (h : Half) (blk off val : Nat) (s : State) : Host.Outcome State Fault Refusal :=
  .next (s.command sess 3 (State.regWriteStatus h blk off val) (fun s => s.writeReg h 96 blk off (val % 2 ^ 32)))

/-- CONSOLE_REGISTER_READ (R494): as REG_READ allows. -/
def execConsoleRegisterRead (h : Half) (blk off : Nat) (s : State) : Host.Outcome State Fault Refusal :=
  .next (if s.consoleOpen 1 = true ∧ regAddr blk off = true then
      let r := s.readReg h 96 blk off 0 4
      r.2.emit (.uart [r.1])
    else s)

/-- CONSOLE_REGISTER_WRITE (R494): level 2, as REG_WRITE allows. -/
def execConsoleRegisterWrite (h : Half) (blk off val : Nat) (s : State) : Host.Outcome State Fault Refusal :=
  .next (if s.consoleOpen 2 = true ∧ State.regWriteStatus h blk off val s = 0 then s.writeReg h 96 blk off (val % 2 ^ 32) else s)

/-- SNAPSHOT_LATCH (R511). -/
def execSnapshotLatch (s : State) : Host.Outcome State Fault Refusal := .next s.latchSnap

end Sys2Proof.Machine
end

