-- ==== Sys2Proof/Machine/Boundary.lean ====
section
/-! DEFINITION. BEAT_BOUNDARY (R45 to R48): the strobe, the renewal of the clapper, the shadow record, what a beat boundary
refills, evaluates and releases, and what a bar boundary does. -/

namespace Sys2Proof.Machine

/-! ### The strobe (R45, R47, R48) -/

/-- The beat counter advances; the done flags of the beat that ended are cleared (R48), the energy of its operations is kept
for the observer (R304), and the beat-boundary interrupt of each running half becomes pending (R424). What was chosen for the beat
that ended and not issued is not carried over (R50), and a half that overran in it falls silent (R67). -/
def State.openBeat (s : State) : State :=
  let s := { s with time := ⟨s.time.beat + 1, 0⟩ }
  let s := s.updRg (fun g => { g with energyPrev := g.energy, energy := 0 })
  let s := s.each [Half.a, Half.b] (fun s h => s.updHalf h (fun r => { r with
    dones := [], arrived := false, beatIrq := r.beatIrq || s.runs h }))
  ((s.unchoose (fun o => decide (o.slotAt < s.time.beat))).quitHalf .a).quitHalf .b

/-- An interval that a half reports (R47). -/
def badInterval (iv : Nat) : Bool := decide (iv < 7996) || decide (8004 < iv)

/-- STROBE_INTERVAL_FAULT (R47): both halves with the same interval are a fault of the hub; otherwise each half that reports has
a control fault. The fault lies in the control slice. -/
def State.strobe (s : State) (ivA ivB : Nat) : State :=
  let a := s.runs .a && badInterval ivA
  let b := s.variant.twin && s.runs .b && badInterval ivB
  let s := s.when a (fun s => s.uev .a 0 0x1703 [])
  let s := s.when b (fun s => s.uev .b 0 0x1703 [])
  if a && b && ivA == ivB then s.hubFault 7
  else (s.when a (fun s => s.controlFault .a 9 5)).when b (fun s => s.controlFault .b 9 5)

/-! ### Renewal (R394 to R396) -/

/-- The words by which half `h` renews: one of each lockstep pair, agreeing, with the current epoch and the beat counter. -/
def State.renews (s : State) (h : Half) (words : List RenewalWord) : Bool :=
  let of (p : Nat) : Option (Nat × Nat) := (words.find? (fun w => w.half == h && w.pair == p)).map (fun w => (w.epoch, w.beat))
  let due := some (s.rd Fd.CLP_EPOCH_EPOCH, s.time.beat)
  (of 0 == due) && (of 1 == due)

/-- Words of a half that does not hold the clapper are discarded, and are a control fault of that half (R394). -/
def State.strayWords (s : State) (words : List RenewalWord) : State :=
  s.each [Half.a, Half.b] (fun s h =>
    let n := (words.filter (fun w => w.half == h)).length
    if n = 0 ∨ s.hub.holder = some h ∨ (s.variant.twin = false ∧ h = .b) then s
    else (s.count Fd.SAF_CNT_DISCARD_COUNT n).controlFault h 2 5)

/-- CLAPPER_RENEWAL (R394 to R396): an accepted renewal extends the lease to five beats from here; the holder withdraws at
the first boundary without one, and the hold begins. A handover word stands in place of renewals in a drill (R405), and in an
activation hold none is due (R482). -/
def State.renewal (s : State) (words : List RenewalWord) : State :=
  if s.hub.fenced then s
  else
    let s := s.strayWords words
    match s.hub.holder with
    | none => s
    | some h =>
      if (s.half h).gone then s.beginHold
      else if s.handover = true ∨ s.actHold h = true then s
      else if s.renews h words then s.updHub (fun u => { u with leaseEnd := s.time.beat + 5 })
      else (s.controlFault h 2 5).withdraw h

/-- The grants of a boundary and the release of the hold after a ready signal (R388, R397, R400, R406). -/
def State.roles (s : State) : State :=
  let s := s.firstGrant.earlyGrant
  match s.hub.take with
  | some t => if t.ready = true ∧ t.grantAt < s.time.beat ∧ s.active = some t.half ∧ s.hub.fenced = false then s.releaseHold t else s
  | none => s

/-- SHADOW_RECORD_SEND (R390): the active half sends the closing state `c` of the beat before to the half that receives it. -/
def State.sendShadow (s : State) (c : Shadow) : State :=
  s.updHub (fun u => { u with wire := match s.active, s.shadowed with
    | some k, some _ => if (s.half k).gone = true ∨ s.hub.fenced = true ∨ s.actHold k = true then none else some c
    | _, _ => none })

/-! ### What a beat boundary refills and evaluates -/

/-- DRAM_CREDIT_REFILL (R350), and the end of the rebuilding of a map segment (log entry 52). -/
def State.refillDram (s : State) : State := s.updDr (fun d => { d with served := [], rfsServed := 0, rebuild := [] })

/-- The device serves from the end of start-up on, and no power loss, hold, fence or withdrawal stands. -/
def State.atWork (s : State) : Bool := s.hub.linkOn && s.serving && s.lg.loss.isNone && !s.withdrawn

/-- Commands fetched before the entry into the write-sealed state (R226): a write none of whose remaining parts has a unit ends
with Capacity Exceeded. -/
def State.settleSeal (s : State) : State :=
  s.each (s.nv.ctxs.filter (fun c => (c.cmd == .write || c.cmd == .writeZeroes) && c.status.isNone &&
      s.tr.parts.all (fun p => p.ctx != some c.id || p.st == .wait))) (fun s c => s.finish c.id 0 0x81 0)

/-- WRITE_SEALED_ENTRY and the exit (R226). -/
def State.setSeal (s : State) (on : Bool) : State :=
  let f := s.freePool
  let s := (s.wr Fd.MED_SEAL_STATE (boolNat on)).when on (fun s => s.count Fd.MED_SEAL_ENTRIES)
  let s := s.aev 0 0x0506 [boolNat on, f, s.rd Fd.MED_SEALCFG_MARGIN, s.rd Fd.MED_SEALCFG_HYST]
  let s := s.postAenAll ⟨7, 0xC3, 2⟩ false
  if on then s.settleSeal else s

/-- WRITE_SEALED_EVALUATION (R225). -/
def State.evalSeal (s : State) : State :=
  let f := s.freePool
  let m := s.rd Fd.MED_SEALCFG_MARGIN
  if s.hub.linkOn = false ∨ s.active.isNone ∨ s.lg.loss.isSome ∨ s.withdrawn = true then s
  else if s.sealed then (if (m + s.rd Fd.MED_SEALCFG_HYST) * 1024 ≤ f then s.setSeal false else s)
  else if f ≤ m * 1024 then s.setSeal true else s

/-- Commands that lost the data of a read when Bus Master Enable was cleared end at the first boundary after it is set again
(R102). -/
def State.endLost (s : State) : State :=
  s.each (s.nv.ctxs.filter (fun c => c.lostData && c.status.isNone && (s.fn c.fn).bme)) (fun s c => s.finish c.id 0 4 0)

/-- The functions whose Delete I/O Submission Queue waits. -/
def State.endDeletes (s : State) : State :=
  s.each ((s.nv.fns.filter (fun p => !p.2.deleting.isEmpty)).map (fun p => p.1)) (fun s f => s.checkDelete f)

/-- The exit from PS3 takes at most four bars (R137). -/
def State.ps3Limit (s : State) : State :=
  match s.nv.exitAt with
  | some b => if b ≤ s.time.beat then s.endPs3 else s
  | none => s

/-- What the queue engine has waited for goes on. -/
def State.resumeQueues (s : State) : State :=
  if s.serving then ((s.endLost.endDeletes.checkShut).ps3Limit.drain).issueAll else s

/-! ### A bar boundary (R46) -/

/-- SPLIT_MODE_END (R94). -/
def State.endSplits (s : State) : State :=
  let now := s.time.beat
  s.each (s.nv.fns.filter (fun p => p.2.splitStart || p.2.splitRole.isSome || p.2.splitCto.isSome)) (fun s p =>
    let f := p.1
    let queues := s.nv.sqs.any (fun q => q.fn == f && q.qid != 0)
    let quiet := !(s.nv.tags.any (fun t => t.fn == f && t.quar.isSome))
    s.updFn f (fun x => { x with
      splitStart := x.splitStart && !queues
      splitRole := x.splitRole.filter (fun b => decide (now < b))
      splitCto := x.splitCto.filter (fun t => !(quiet && decide (t + 250 ≤ now))) }))

/-- PROTECTED_COMMIT_MODE_CHANGE (R331): with the entry comes the event of critical warning bit 4's kind. -/
def State.commitMode (s : State) : State :=
  let r := s.holdReady
  let s := s.wr Fd.LDG_STAT_HOLDRDY (boolNat r)
  if 2 ≤ s.rd Fd.LDG_STAT_MODE ∨ s.rd Fd.QUE_ACT_STATE = 2 ∨ s.rd Fd.QUE_ACT_STATE = 3 then s
  else if r then s.wr Fd.LDG_STAT_MODE 0
  else if s.protectedMode then s
  else (s.wr Fd.LDG_STAT_MODE 1).postAenAll ⟨1, 0, 2⟩ true

/-- The charging time after power-on reset (R331). -/
def State.noteCharge (s : State) : State :=
  s.wr Fd.LDG_STAT_CHARGING (boolNat (decide (s.bar < s.rd Fd.LDG_HOLDCFG_CHARGE * 100)))

/-- JOURNAL_HEAD_COMPARISON (R392) by the standby half, over the record `c` of the beat that ends. -/
def State.compareHead (s : State) (c : Shadow) : State :=
  match s.active, s.shadowed with
  | some k, some h =>
    if (s.half k).gone = true ∨ (s.half h).st ≠ .standby ∨ s.headAgrees c = true then s else s.shadowFault h
  | _, _ => s

/-- The bars in a row for which the free die blocks of each slice have been below START (R212). -/
def State.noteLow (s : State) : State :=
  s.updSched (fun c => { c with lowBars := (List.range s.variant.slices).map (fun m =>
    if !(s.sliceDies m).isEmpty && decide (1024 * s.sliceFree m < s.rd Fd.MED_GCCFG_START * s.sliceBlocks m) then c.lowBars.getD m 0 + 1
    else 0) })

/-- The candidates of tiers 1 and 2 in each of the last 250 bars (R308). -/
def State.rollTier (s : State) : State :=
  s.updRg (fun g => { g with tier := (g.tier ++ [g.barTier]).drop (g.tier.length + 1 - 250), barTier := (0, 0) })

/-- A slot whose presence pin stays asserted counts its bars (R248). -/
def State.debounceSlots (s : State) : State :=
  { s with slots := s.slots.map (fun x => if x.st = .empty ∧ x.prsnt = true then { x with debounce := x.debounce + 1 } else x) }

/-- QUE_ACT.BARS: the bars since B of the activation in progress. -/
def State.noteAct (s : State) : State :=
  match s.sv.act with
  | some a => match a.b with
    | some b => s.wr Fd.QUE_ACT_BARS (min 15 ((s.time.beat - b) / 250))
    | none => s
  | none => s

/-- Firmware runs: a half is ACTIVE and has not failed, the host link is on, and neither the fenced state nor a power loss stands.
An output hold does not stop it. -/
def State.firmwareRuns (s : State) : Bool :=
  match s.active with
  | some h => s.hub.linkOn && !(s.half h).gone && !s.hub.fenced && s.lg.loss.isNone
  | none => false

/-- The work that firmware and the media units begin with a bar: D (R153: at every bar boundary, not in PS3: R308), the patrol's need
(R278), the checkpoint writer (R192), the state of space reclamation (R207, R212), and what key pages and a sanitize wait for. -/
def State.barWork (s : State) : State :=
  let s := s.when (s.firmwareRuns && s.rd Fd.QUE_PWR_PS != 3) State.computeFactor
  s.when s.atWork (fun s => (s.noteLow.updSpace.patrolNeed.copyBar.goKeys).pumpSanitize)

/-- BAR_BOUNDARY (R46). -/
def State.barBoundary (s : State) (c : Shadow) : State :=
  let s := s.updHub (fun u => { u with a := { u.a with dpFaults := 0 }, b := { u.b with dpFaults := 0 } })
  let s := s.endCharges
  let s := ((s.endSplits.noteCharge).rollTier.debounceSlots).noteAct
  let s := if s.hub.linkOn = true ∧ s.active.isSome then (s.commitMode.compareHead c).noteFormats else s
  s.barWork

/-- The boundary: the strobe, then the clapper and the roles, then what the beat and, at a multiple of 250, the bar begins. -/
def State.beatBoundary (s : State) (ivA ivB : Nat) (words : List RenewalWord) : State :=
  let c := s.closing
  let s := ((s.openBeat.strobe ivA ivB).renewal words).roles
  let s := s.when (!s.hub.hold) (fun s => s.settleSlots.autoSlots)
  let s := ((s.sendShadow c).refillDram).applyDoms
  let s := if s.atBar then s.barBoundary c else s
  s.evalSeal.postCrit.resumeQueues

/-- BEAT_BOUNDARY (R45). -/
def execBeatBoundary (ivA ivB : Nat) (words : List RenewalWord) (s : State) : Host.Outcome State Fault Refusal :=
  .next (s.beatBoundary ivA ivB words)

end Sys2Proof.Machine
end

