-- ==== Sys2Proof/Machine/Dispatch.lean ====
section
/-! DEFINITION. Dispatch: one arm per command, each one direct call of the command's meaning. -/

namespace Sys2Proof.Machine

def exec (i : Instr) (s : State) : Host.Outcome State Fault Refusal :=
  match i with
  | .registerWrite m h blk off width val => Sys2Proof.Machine.execRegisterWrite m h blk off width val s
  | .lowWordRead m h blk off width => Sys2Proof.Machine.execLowWordRead m h blk off width s
  | .schSlackRead h byte width => Sys2Proof.Machine.execSchSlackRead h byte width s
  | .tenMissRead t byte width => Sys2Proof.Machine.execTenMissRead t byte width s
  | .medRfsstatRead byte width => Sys2Proof.Machine.execMedRfsstatRead byte width s
  | .eccCbmaxRead byte width => Sys2Proof.Machine.execEccCbmaxRead byte width s
  | .ctgSlotstatRead n byte width => Sys2Proof.Machine.execCtgSlotstatRead n byte width s
  | .pwrPkgRead byte width => Sys2Proof.Machine.execPwrPkgRead byte width s
  | .beatBoundary ivA ivB words => Sys2Proof.Machine.execBeatBoundary ivA ivB words s
  | .arbitrationRound => Sys2Proof.Machine.execArbitrationRound s
  | .commandWindow => Sys2Proof.Machine.execCommandWindow s
  | .loopUpdate eng => Sys2Proof.Machine.execLoopUpdate eng s
  | .envelopeUpdate pm temps meas => Sys2Proof.Machine.execEnvelopeUpdate pm temps meas s
  | .slotChoiceWindow => Sys2Proof.Machine.execSlotChoiceWindow s
  | .barLatchPoint => Sys2Proof.Machine.execBarLatchPoint s
  | .doneDeadline h hw => Sys2Proof.Machine.execDoneDeadline h hw s
  | .schEnrollWrite m h val => Sys2Proof.Machine.execSchEnrollWrite m h val s
  | .schDoneSetWrite m h val cyc => Sys2Proof.Machine.execSchDoneSetWrite m h val cyc s
  | .planCommit m h val => Sys2Proof.Machine.execPlanCommit m h val s
  | .perstDeassert p speed width flit => Sys2Proof.Machine.execPerstDeassert p speed width flit s
  | .configRequestRetry p f reg => Sys2Proof.Machine.execConfigRequestRetry p f reg s
  | .portLinkDown p => Sys2Proof.Machine.execPortLinkDown p s
  | .vfEnable pf num => Sys2Proof.Machine.execVfEnable pf num s
  | .busMasterEnableClear f => Sys2Proof.Machine.execBusMasterEnableClear f s
  | .busMasterEnableSet f cfg => Sys2Proof.Machine.execBusMasterEnableSet f cfg s
  | .flrWrite f => Sys2Proof.Machine.execFlrWrite f s
  | .flrComplete f => Sys2Proof.Machine.execFlrComplete f s
  | .sqTailDoorbell f q v => Sys2Proof.Machine.execSqTailDoorbell f q v s
  | .cqHeadDoorbell f q v => Sys2Proof.Machine.execCqHeadDoorbell f q v s
  | .ccEnableSet f wrr aqOk asq acq asqAddr acqAddr => Sys2Proof.Machine.execCcEnableSet f wrr aqOk asq acq asqAddr acqAddr s
  | .controllerReady f => Sys2Proof.Machine.execControllerReady f s
  | .controllerReset f => Sys2Proof.Machine.execControllerReset f s
  | .controllerResetComplete f => Sys2Proof.Machine.execControllerResetComplete f s
  | .shutdownNotification f => Sys2Proof.Machine.execShutdownNotification f s
  | .inboundWindowTlp f req bar addr len wr data poisoned err => Sys2Proof.Machine.execInboundWindowTlp f req bar addr len wr data poisoned err s
  | .pmrTlp f req addr len wr data checkOk => Sys2Proof.Machine.execPmrTlp f req addr len wr data checkOk s
  | .pmrGranuleRotation g => Sys2Proof.Machine.execPmrGranuleRotation g s
  | .expansionRomTlp pf addr len wr => Sys2Proof.Machine.execExpansionRomTlp pf addr len wr s
  | .windowEnableWrite m p e val => Sys2Proof.Machine.execWindowEnableWrite m p e val s
  | .tagbudWrite m f val => Sys2Proof.Machine.execTagbudWrite m f val s
  | .contextBudgetWrite m f val => Sys2Proof.Machine.execContextBudgetWrite m f val s
  | .splitAllWrite m val => Sys2Proof.Machine.execSplitAllWrite m val s
  | .readCompletionArrival cpl => Sys2Proof.Machine.execReadCompletionArrival cpl s
  | .completionTimeout p tag => Sys2Proof.Machine.execCompletionTimeout p tag s
  | .quarantineEnd p tag => Sys2Proof.Machine.execQuarantineEnd p tag s
  | .outboundTransfer h epoch payload => Sys2Proof.Machine.execOutboundTransfer h epoch payload s
  | .doeSpdmRequest pf code => Sys2Proof.Machine.execDoeSpdmRequest pf code s
  | .writeCommand hd nsid slba nlb x => Sys2Proof.Machine.execWriteCommand hd nsid slba nlb x s
  | .readCommand hd nsid slba nlb x => Sys2Proof.Machine.execReadCommand hd nsid slba nlb x s
  | .compareCommand hd nsid slba nlb x => Sys2Proof.Machine.execCompareCommand hd nsid slba nlb x s
  | .verifyCommand hd nsid slba nlb => Sys2Proof.Machine.execVerifyCommand hd nsid slba nlb s
  | .writeZeroesCommand hd nsid slba nlb => Sys2Proof.Machine.execWriteZeroesCommand hd nsid slba nlb s
  | .datasetManagementCommand hd nsid ranges ad => Sys2Proof.Machine.execDatasetManagementCommand hd nsid ranges ad s
  | .flushCommand hd nsid => Sys2Proof.Machine.execFlushCommand hd nsid s
  | .flushCompletion hd => Sys2Proof.Machine.execFlushCompletion hd s
  | .deleteIoSubmissionQueue hd q => Sys2Proof.Machine.execDeleteIoSubmissionQueue hd q s
  | .createIoSubmissionQueue hd q qsize cq prio base cmb => Sys2Proof.Machine.execCreateIoSubmissionQueue hd q qsize cq prio base cmb s
  | .deleteIoCompletionQueue hd q => Sys2Proof.Machine.execDeleteIoCompletionQueue hd q s
  | .createIoCompletionQueue hd q qsize iv base => Sys2Proof.Machine.execCreateIoCompletionQueue hd q qsize iv base s
  | .getLogPage hd nsid lid numd off rae => Sys2Proof.Machine.execGetLogPage hd nsid lid numd off rae s
  | .identify hd cns nsid => Sys2Proof.Machine.execIdentify hd cns nsid s
  | .abort hd sq acid => Sys2Proof.Machine.execAbort hd sq acid s
  | .setFeatures hd fid val => Sys2Proof.Machine.execSetFeatures hd fid val s
  | .getFeatures hd fid => Sys2Proof.Machine.execGetFeatures hd fid s
  | .asynchronousEventRequest hd => Sys2Proof.Machine.execAsynchronousEventRequest hd s
  | .namespaceManagement hd sel nsid lbaf lbas pi ext => Sys2Proof.Machine.execNamespaceManagement hd sel nsid lbaf lbas pi ext s
  | .namespaceAttachment hd sel nsid fns => Sys2Proof.Machine.execNamespaceAttachment hd sel nsid fns s
  | .formatNvm hd nsid lbaf ses pi ext => Sys2Proof.Machine.execFormatNvm hd nsid lbaf ses pi ext s
  | .securitySend hd secp code => Sys2Proof.Machine.execSecuritySend hd secp code s
  | .securityReceive hd secp => Sys2Proof.Machine.execSecurityReceive hd secp s
  | .sanitize hd sanact => Sys2Proof.Machine.execSanitize hd sanact s
  | .sanitizeEnd => Sys2Proof.Machine.execSanitizeEnd s
  | .powerStateEntryEnd => Sys2Proof.Machine.execPowerStateEntryEnd s
  | .ps3Exit => Sys2Proof.Machine.execPs3Exit s
  | .dramWriteAcknowledge vid mirror tagOk => Sys2Proof.Machine.execDramWriteAcknowledge vid mirror tagOk s
  | .commitRecordStart pid => Sys2Proof.Machine.execCommitRecordStart pid s
  | .commitHeaderWrite pid => Sys2Proof.Machine.execCommitHeaderWrite pid s
  | .commitPoint pid => Sys2Proof.Machine.execCommitPoint pid s
  | .mapLookupReturn ctx idx => Sys2Proof.Machine.execMapLookupReturn ctx idx s
  | .flashReadResult op res => Sys2Proof.Machine.execFlashReadResult op res s
  | .watchCountLimit w => Sys2Proof.Machine.execWatchCountLimit w s
  | .stagedTartExpiry ltn => Sys2Proof.Machine.execStagedTartExpiry ltn s
  | .flashProgramComplete op => Sys2Proof.Machine.execFlashProgramComplete op s
  | .mapWrite mseq => Sys2Proof.Machine.execMapWrite mseq s
  | .flashProgramFailure op => Sys2Proof.Machine.execFlashProgramFailure op s
  | .gcVictimSelect slice => Sys2Proof.Machine.execGcVictimSelect slice s
  | .victimEraseStart sb => Sys2Proof.Machine.execVictimEraseStart sb s
  | .gcPlanShift slice rows => Sys2Proof.Machine.execGcPlanShift slice rows s
  | .wearBudgetCheck => Sys2Proof.Machine.execWearBudgetCheck s
  | .deltaPageProgram => Sys2Proof.Machine.execDeltaPageProgram s
  | .eraseIntentWritten die blk => Sys2Proof.Machine.execEraseIntentWritten die blk s
  | .eraseComplete die blk ok => Sys2Proof.Machine.execEraseComplete die blk ok s
  | .erasedMarginReadResult die blk cells => Sys2Proof.Machine.execErasedMarginReadResult die blk cells s
  | .eraseDoneWritten die blk => Sys2Proof.Machine.execEraseDoneWritten die blk s
  | .blktabWritten jseq => Sys2Proof.Machine.execBlktabWritten jseq s
  | .operationTimeout op => Sys2Proof.Machine.execOperationTimeout op s
  | .suspendAcknowledged die => Sys2Proof.Machine.execSuspendAcknowledged die s
  | .shortZqCalibration c => Sys2Proof.Machine.execShortZqCalibration c s
  | .slotPresenceDebounce n => Sys2Proof.Machine.execSlotPresenceDebounce n s
  | .slotPowerFault n => Sys2Proof.Machine.execSlotPowerFault n s
  | .buttonPress n low => Sys2Proof.Machine.execButtonPress n low s
  | .reqon m n => Sys2Proof.Machine.execReqon m n s
  | .reqoff m n => Sys2Proof.Machine.execReqoff m n s
  | .cancel m n => Sys2Proof.Machine.execCancel m n s
  | .slotPowerGood n => Sys2Proof.Machine.execSlotPowerGood n s
  | .powerGoodTimeout n => Sys2Proof.Machine.execPowerGoodTimeout n s
  | .slotTrainingStart n => Sys2Proof.Machine.execSlotTrainingStart n s
  | .slotTrainingDone n rate0 rate1 found => Sys2Proof.Machine.execSlotTrainingDone n rate0 rate1 found s
  | .abortWindowEnd n => Sys2Proof.Machine.execAbortWindowEnd n s
  | .slotPowerOff n => Sys2Proof.Machine.execSlotPowerOff n s
  | .surpriseRemoval n why => Sys2Proof.Machine.execSurpriseRemoval n why s
  | .scrubGo m val => Sys2Proof.Machine.execScrubGo m val s
  | .scrubCancel m => Sys2Proof.Machine.execScrubCancel m s
  | .scrubEnd => Sys2Proof.Machine.execScrubEnd s
  | .toManual m die grp cyc => Sys2Proof.Machine.execToManual m die grp cyc s
  | .setMan m die grp cyc => Sys2Proof.Machine.execSetMan m die grp cyc s
  | .toAuto m die grp cyc => Sys2Proof.Machine.execToAuto m die grp cyc s
  | .read m die grp cyc => Sys2Proof.Machine.execRead m die grp cyc s
  | .clear m die grp cyc => Sys2Proof.Machine.execClear m die grp cyc s
  | .loopAlarm die grp => Sys2Proof.Machine.execLoopAlarm die grp s
  | .loopRearm die grp => Sys2Proof.Machine.execLoopRearm die grp s
  | .loopStateSave => Sys2Proof.Machine.execLoopStateSave s
  | .thermalFence => Sys2Proof.Machine.execThermalFence s
  | .ringCarry => Sys2Proof.Machine.execRingCarry s
  | .ledgerPatrol addr res => Sys2Proof.Machine.execLedgerPatrol addr res s
  | .powerLossDetected => Sys2Proof.Machine.execPowerLossDetected s
  | .flushStart => Sys2Proof.Machine.execFlushStart s
  | .flushDoneWrite high => Sys2Proof.Machine.execFlushDoneWrite high s
  | .epochRelease => Sys2Proof.Machine.execEpochRelease s
  | .dramRequestArrival port wr line part h rfs => Sys2Proof.Machine.execDramRequestArrival port wr line part h rfs s
  | .dramCommandIssue hubDue => Sys2Proof.Machine.execDramCommandIssue hubDue s
  | .dramReadReturn id res => Sys2Proof.Machine.execDramReadReturn id res s
  | .mapwaitPublish => Sys2Proof.Machine.execMapwaitPublish s
  | .dramRefresh kind sr => Sys2Proof.Machine.execDramRefresh kind sr s
  | .dramPatrolRead line res => Sys2Proof.Machine.execDramPatrolRead line res s
  | .deviceMarkedFailed sr dev => Sys2Proof.Machine.execDeviceMarkedFailed sr dev s
  | .rowRepairQueued sr dev bank row free => Sys2Proof.Machine.execRowRepairQueued sr dev bank row free s
  | .rowRepairStart => Sys2Proof.Machine.execRowRepairStart s
  | .rowRepairEnd reads => Sys2Proof.Machine.execRowRepairEnd reads s
  | .dramScrubGo m val => Sys2Proof.Machine.execDramScrubGo m val s
  | .dramScrubCancel m => Sys2Proof.Machine.execDramScrubCancel m s
  | .dramScrubEnd => Sys2Proof.Machine.execDramScrubEnd s
  | .helperGo m val => Sys2Proof.Machine.execHelperGo m val s
  | .helperDone lanes errs first => Sys2Proof.Machine.execHelperDone lanes errs first s
  | .modeRegisterWrite m mr data sr dev => Sys2Proof.Machine.execModeRegisterWrite m mr data sr dev s
  | .modeRegisterRead m mr sr dev => Sys2Proof.Machine.execModeRegisterRead m mr sr dev s
  | .flipArm m val => Sys2Proof.Machine.execFlipArm m val s
  | .sramPatrol h corr unc cells => Sys2Proof.Machine.execSramPatrol h corr unc cells s
  | .alloc h m pool noquota tenant cls => Sys2Proof.Machine.execAlloc h m pool noquota tenant cls s
  | .allocGrant h => Sys2Proof.Machine.execAllocGrant h s
  | .share h m other => Sys2Proof.Machine.execShare h m other s
  | .free h m => Sys2Proof.Machine.execFree h m s
  | .query h m => Sys2Proof.Machine.execQuery h m s
  | .shadowRecordArrival crcOk named => Sys2Proof.Machine.execShadowRecordArrival crcOk named s
  | .shadowDeadline => Sys2Proof.Machine.execShadowDeadline s
  | .syncComplete => Sys2Proof.Machine.execSyncComplete s
  | .syncTimeout => Sys2Proof.Machine.execSyncTimeout s
  | .controlFault h mech slice => Sys2Proof.Machine.execControlFault h mech slice s
  | .dataPathFault h slice ctx => Sys2Proof.Machine.execDataPathFault h slice ctx s
  | .hubFault unit => Sys2Proof.Machine.execHubFault unit s
  | .leaseLapse => Sys2Proof.Machine.execLeaseLapse s
  | .takeoverReady => Sys2Proof.Machine.execTakeoverReady s
  | .takeoverTimeout => Sys2Proof.Machine.execTakeoverTimeout s
  | .drillMark => Sys2Proof.Machine.execDrillMark s
  | .drillNow m => Sys2Proof.Machine.execDrillNow m s
  | .drillBegin => Sys2Proof.Machine.execDrillBegin s
  | .drillGrant => Sys2Proof.Machine.execDrillGrant s
  | .drillReadyTimeout => Sys2Proof.Machine.execDrillReadyTimeout s
  | .drillPass => Sys2Proof.Machine.execDrillPass s
  | .drillDeferralReport => Sys2Proof.Machine.execDrillDeferralReport s
  | .restore m => Sys2Proof.Machine.execRestore m s
  | .autoRestore => Sys2Proof.Machine.execAutoRestore s
  | .restoreSelfTestDone ok => Sys2Proof.Machine.execRestoreSelfTestDone ok s
  | .fencedStateEntry cause => Sys2Proof.Machine.execFencedStateEntry cause s
  | .fenceFlushEnd => Sys2Proof.Machine.execFenceFlushEnd s
  | .chimeSend h m e dest => Sys2Proof.Machine.execChimeSend h m e dest s
  | .chimeAck h m e ack => Sys2Proof.Machine.execChimeAck h m e ack s
  | .lockRead h m n => Sys2Proof.Machine.execLockRead h m n s
  | .lockRelease h m n val => Sys2Proof.Machine.execLockRelease h m n val s
  | .semForce h m val => Sys2Proof.Machine.execSemForce h m val s
  | .programRun m count => Sys2Proof.Machine.execProgramRun m count s
  | .erase m => Sys2Proof.Machine.execErase m s
  | .btaOperationEnd timedOut => Sys2Proof.Machine.execBtaOperationEnd timedOut s
  | .brownOut => Sys2Proof.Machine.execBrownOut s
  | .powerOnReset cause supply => Sys2Proof.Machine.execPowerOnReset cause supply s
  | .bootingHalfRelease => Sys2Proof.Machine.execBootingHalfRelease s
  | .startupStepComplete r => Sys2Proof.Machine.execStartupStepComplete r s
  | .startupStepTimeout => Sys2Proof.Machine.execStartupStepTimeout s
  | .entdaa da => Sys2Proof.Machine.execEntdaa da s
  | .setdasa da => Sys2Proof.Machine.execSetdasa da s
  | .setnewda da => Sys2Proof.Machine.execSetnewda da s
  | .rstdaa => Sys2Proof.Machine.execRstdaa s
  | .enec => Sys2Proof.Machine.execEnec s
  | .disec => Sys2Proof.Machine.execDisec s
  | .getpid => Sys2Proof.Machine.execGetpid s
  | .getbcr => Sys2Proof.Machine.execGetbcr s
  | .getdcr => Sys2Proof.Machine.execGetdcr s
  | .getstatus => Sys2Proof.Machine.execGetstatus s
  | .getmwl => Sys2Proof.Machine.execGetmwl s
  | .setmwl v => Sys2Proof.Machine.execSetmwl v s
  | .getmrl => Sys2Proof.Machine.execGetmrl s
  | .setmrl v => Sys2Proof.Machine.execSetmrl v s
  | .mctpPacket pkt => Sys2Proof.Machine.execMctpPacket pkt s
  | .setEndpointId eid => Sys2Proof.Machine.execSetEndpointId eid s
  | .getEndpointId => Sys2Proof.Machine.execGetEndpointId s
  | .getMctpVersionSupport => Sys2Proof.Machine.execGetMctpVersionSupport s
  | .getMessageTypeSupport => Sys2Proof.Machine.execGetMessageTypeSupport s
  | .getVendorDefinedMessageSupport => Sys2Proof.Machine.execGetVendorDefinedMessageSupport s
  | .gettid => Sys2Proof.Machine.execGettid s
  | .settid tid => Sys2Proof.Machine.execSettid tid s
  | .getpldmversion => Sys2Proof.Machine.execGetpldmversion s
  | .getpldmtypes => Sys2Proof.Machine.execGetpldmtypes s
  | .getpldmcommands => Sys2Proof.Machine.execGetpldmcommands s
  | .queryDeviceIdentifiers sess => Sys2Proof.Machine.execQueryDeviceIdentifiers sess s
  | .getFirmwareParameters sess => Sys2Proof.Machine.execGetFirmwareParameters sess s
  | .requestUpdate sess maxXfer => Sys2Proof.Machine.execRequestUpdate sess maxXfer s
  | .passComponentTable sess comp size => Sys2Proof.Machine.execPassComponentTable sess comp size s
  | .updateComponent sess comp size stamp lastComp => Sys2Proof.Machine.execUpdateComponent sess comp size stamp lastComp s
  | .firmwareDataResponse sess data img => Sys2Proof.Machine.execFirmwareDataResponse sess data img s
  | .activateFirmware sess selfContained img => Sys2Proof.Machine.execActivateFirmware sess selfContained img s
  | .getStatus sess => Sys2Proof.Machine.execGetStatus sess s
  | .cancelUpdateComponent sess => Sys2Proof.Machine.execCancelUpdateComponent sess s
  | .cancelUpdate sess => Sys2Proof.Machine.execCancelUpdate sess s
  | .updateTimeout => Sys2Proof.Machine.execUpdateTimeout s
  | .activationQuiesce => Sys2Proof.Machine.execActivationQuiesce s
  | .activationHoldBegin loadOk => Sys2Proof.Machine.execActivationHoldBegin loadOk s
  | .imageChange => Sys2Proof.Machine.execImageChange s
  | .activationResume => Sys2Proof.Machine.execActivationResume s
  | .activationFallback => Sys2Proof.Machine.execActivationFallback s
  | .getVersion tr => Sys2Proof.Machine.execGetVersion tr s
  | .getCapabilities tr => Sys2Proof.Machine.execGetCapabilities tr s
  | .negotiateAlgorithms tr => Sys2Proof.Machine.execNegotiateAlgorithms tr s
  | .getDigests tr => Sys2Proof.Machine.execGetDigests tr s
  | .getCertificate tr slot => Sys2Proof.Machine.execGetCertificate tr slot s
  | .challenge tr slot => Sys2Proof.Machine.execChallenge tr slot s
  | .getMeasurements tr idx => Sys2Proof.Machine.execGetMeasurements tr idx s
  | .keyExchange tr mutAuth opKey => Sys2Proof.Machine.execKeyExchange tr mutAuth opKey s
  | .finish sess ok => Sys2Proof.Machine.execFinish sess ok s
  | .heartbeat sess => Sys2Proof.Machine.execHeartbeat sess s
  | .keyUpdate sess => Sys2Proof.Machine.execKeyUpdate sess s
  | .endSession sess => Sys2Proof.Machine.execEndSession sess s
  | .getEncapsulatedRequest sess => Sys2Proof.Machine.execGetEncapsulatedRequest sess s
  | .deliverEncapsulatedResponse sess ok => Sys2Proof.Machine.execDeliverEncapsulatedResponse sess ok s
  | .getNonce sess => Sys2Proof.Machine.execGetNonce sess s
  | .nonceExpiry sess => Sys2Proof.Machine.execNonceExpiry sess s
  | .regRead sess h blk off => Sys2Proof.Machine.execRegRead sess h blk off s
  | .regWrite sess h blk off val => Sys2Proof.Machine.execRegWrite sess h blk off val s
  | .confirm sess => Sys2Proof.Machine.execConfirm sess s
  | .revert sess sigOk img => Sys2Proof.Machine.execRevert sess sigOk img s
  | .deviceReset sess sigOk => Sys2Proof.Machine.execDeviceReset sess sigOk s
  | .eventClear sess sigOk keyHash => Sys2Proof.Machine.execEventClear sess sigOk keyHash s
  | .consoleUnlock sess sigOk level hours => Sys2Proof.Machine.execConsoleUnlock sess sigOk level hours s
  | .consoleLock sess => Sys2Proof.Machine.execConsoleLock sess s
  | .consoleExpiry => Sys2Proof.Machine.execConsoleExpiry s
  | .consoleRegisterRead h blk off => Sys2Proof.Machine.execConsoleRegisterRead h blk off s
  | .consoleRegisterWrite h blk off val => Sys2Proof.Machine.execConsoleRegisterWrite h blk off val s
  | .consoleEventRead seq => Sys2Proof.Machine.execConsoleEventRead seq s
  | .rngHealthFailure => Sys2Proof.Machine.execRngHealthFailure s
  | .eventSubmit h m e code => Sys2Proof.Machine.execEventSubmit h m e code s
  | .eventRecordWrite => Sys2Proof.Machine.execEventRecordWrite s
  | .permanentCopy => Sys2Proof.Machine.execPermanentCopy s
  | .tokenRefill => Sys2Proof.Machine.execTokenRefill s
  | .hourlyTemperatureRecord => Sys2Proof.Machine.execHourlyTemperatureRecord s
  | .snapshotGo m val => Sys2Proof.Machine.execSnapshotGo m val s
  | .snapshotLatch => Sys2Proof.Machine.execSnapshotLatch s
  | .testGo m val => Sys2Proof.Machine.execTestGo m val s
  | .testStop m => Sys2Proof.Machine.execTestStop m s
  | .testRunStart => Sys2Proof.Machine.execTestRunStart s
  | .testRunEnd cause bits errs first lanes passes fails tos => Sys2Proof.Machine.execTestRunEnd cause bits errs first lanes passes fails tos s
  | .supplyTrip supply reading => Sys2Proof.Machine.execSupplyTrip supply reading s
  | .sysclkFault => Sys2Proof.Machine.execSysclkFault s
  | .domainRequest m h d val => Sys2Proof.Machine.execDomainRequest m h d val s
  | .slotPresenceLoss n => Sys2Proof.Machine.execSlotPresenceLoss n s
  | .powerGoodLoss n => Sys2Proof.Machine.execPowerGoodLoss n s
  | .cartridgeInsertion n => Sys2Proof.Machine.execCartridgeInsertion n s
  | .outboundPacketRead => Sys2Proof.Machine.execOutboundPacketRead s
  | .checkerLock lane => Sys2Proof.Machine.execCheckerLock lane s
  | .checkerLockLoss lane => Sys2Proof.Machine.execCheckerLockLoss lane s
  | .rngReseed => Sys2Proof.Machine.execRngReseed s
  | .heartbeatTimeout sess => Sys2Proof.Machine.execHeartbeatTimeout sess s

end Sys2Proof.Machine
end

