-- ==== Sys2Proof/Safety.lean ====
section
/-! DEFINITION. What a good state of the block is, how one state may follow from another, and which parts of a state a command
leaves as they are, in the terms the statements use. -/

namespace Sys2Proof.Machine

/-- The register memory holds its canonical form: keys rising, no entry equal to the register's reset value. -/
def State.regsWf (s : State) : Prop := Memory.wf regDefault s.regs = true

/-- The flash pages, dies and blocks hold their canonical form. -/
structure Media.Wf (m : Media) : Prop where
  flash : Memory.wf (fun _ => Page.init) m.flash = true
  dies : Memory.wf (fun _ => Die.init) m.dies = true
  blks : Memory.wf (fun _ => Blk.init) m.blks = true

/-- The loops and their saved copy hold their canonical form. -/
structure Regul.Wf (r : Regul) : Prop where
  loops : Memory.wf (fun _ => Loop.init) r.loops = true
  saving : Memory.wf (fun _ => Loop.init) r.saving = true
  saved : Memory.wf (fun _ => Loop.init) r.saved = true

/-- The memories of the block hold their canonical form, and the event queue holds at most the 512 records it has room for
(R501). -/
structure State.Inv (s : State) : Prop where
  regs : s.regsWf
  words : Memory.wf (fun _ => 0) s.lg.words = true
  arr : Memory.wf (fun _ => ArrWord.init) s.bt.arr = true
  map : Memory.wf (fun _ => MapEntry.init) s.tr.map = true
  media : s.md.Wf
  cmb : Memory.wf (fun _ => 0) s.dr.cmb = true
  queue : s.evt.queue.length ≤ 512
  chan : Memory.wf (fun _ => Chan.init) s.chan = true
  locks : Memory.wf (fun _ => 0) s.locks = true
  fns : Memory.wf (fun _ => Fn.init) s.nv.fns = true
  regul : s.rg.Wf
  recs : Memory.wf (fun _ => BufRec.init) s.bf.recs = true

/-- What every command does: it leaves the variant and the waiting commands as they are, takes back nothing that has left
the device, uses no free value twice, and keeps the invariant. -/
structure Evolves (s t : State) : Prop where
  variant : t.variant = s.variant
  pending : t.pending = s.pending
  free : s.freeCtr ≤ t.freeCtr
  out : s.out <+: t.out
  inv : s.Inv → t.Inv

/-- The key of the register that holds field `f` of instance `i`, as half `h` sees it. -/
def keyOf (f : Fd) (i : Nat := 0) (h : Half := .a) : Nat := regKey h f.reg.blk (f.reg.at i)

/-- Every register reads in `t` as it does in `s`, but those whose keys are listed. -/
def State.RegsBut (ks : List Nat) (s t : State) : Prop := ∀ k, k ∉ ks → spGet regDefault t.regs k = spGet regDefault s.regs k

/-- The parts of a state that commands change: every field but the variant and the queue of waiting commands. -/
inductive Component where
  /-- the beat counter and the cycle -/
  | time
  /-- the registers -/
  | regs
  /-- the high words latched by reads -/
  | hi
  /-- the data of the last read -/
  | readData
  /-- the count of free values used (the model's own) -/
  | freeCtr
  /-- the event recorder -/
  | evt
  /-- the chime channels -/
  | chan
  /-- the semaphore locks -/
  | locks
  /-- the hub and the halves -/
  | hub
  /-- the beat scheduler -/
  | sched
  /-- what has left the device -/
  | out
  /-- the host link and the queue engine -/
  | nv
  /-- the translation unit and the write buffer -/
  | tr
  /-- media management -/
  | md
  /-- the ledger -/
  | lg
  /-- the cartridge slots -/
  | slots
  /-- the regulation engines -/
  | rg
  /-- the DRAM controller -/
  | dr
  /-- the buffer manager -/
  | bf
  /-- the boot array and start-up -/
  | bt
  /-- the service port -/
  | sv
  /-- the test run -/
  | ts
  deriving DecidableEq, Repr

/-- Component `p` of `t` is that of `s`. -/
def Component.same (s t : State) : Component → Prop
  | .time => t.time = s.time
  | .regs => t.regs = s.regs
  | .hi => t.hi = s.hi
  | .readData => t.readData = s.readData
  | .freeCtr => t.freeCtr = s.freeCtr
  | .evt => t.evt = s.evt
  | .chan => t.chan = s.chan
  | .locks => t.locks = s.locks
  | .hub => t.hub = s.hub
  | .sched => t.sched = s.sched
  | .out => t.out = s.out
  | .nv => t.nv = s.nv
  | .tr => t.tr = s.tr
  | .md => t.md = s.md
  | .lg => t.lg = s.lg
  | .slots => t.slots = s.slots
  | .rg => t.rg = s.rg
  | .dr => t.dr = s.dr
  | .bf => t.bf = s.bf
  | .bt => t.bt = s.bt
  | .sv => t.sv = s.sv
  | .ts => t.ts = s.ts

/-- `t` differs from `s` in no part but the listed ones, and not in the variant or the waiting commands. -/
def State.OnlyIn (ps : List Component) (s t : State) : Prop :=
  t.variant = s.variant ∧ t.pending = s.pending ∧ ∀ p, p ∉ ps → p.same s t

/-- The command answers a next state, of which `p` holds. -/
def State.Answers (s : State) (i : Instr) (p : State → Prop) : Prop := ∃ t, exec i s = .next t ∧ p t

/-- A TLP takes effect at once: no output hold keeps it in the ingress buffer (R75). -/
def State.TakesIn (s : State) : Prop := s.hub.hold = true → s.hub.fenced = true

/-- During an output hold the TLP waits at the end of the ingress buffer, where 256 KiB of posted or 64 KiB of non-posted requests leave
room for it; otherwise it is not sent, and nothing changes (R75). -/
def State.WaitsInHold (s : State) (i : Instr) : Prop :=
  s.hub.hold = true → s.hub.fenced = false →
    exec i s = .next (if sumOf tlpBytes (s.nv.ingress.filter (fun j => nonPosted j == nonPosted i)) + tlpBytes i ≤
        (if nonPosted i then 65536 else 262144) then
      { s with nv := { s.nv with ingress := s.nv.ingress ++ [i] } } else s)

/-- Error `e` is logged in the AER status of function `f`, and its message leaves the device unless the function masks it (R109). -/
def State.Logs (s t : State) (f : Nat) (e : AerErr) : Prop :=
  e ∈ (t.fn f).aerStat ∧ (e ∉ (s.fn f).cfg.aerMask → Out.aer f e ((s.fn f).cfg.aerFatal.contains e) ∈ t.out)

/-- The register of field `f` holds in `t` what it holds in `s` with the field set to `v`: its other bits are unchanged. -/
def State.Sets (s t : State) (f : Fd) (v : Nat) (i : Nat := 0) (h : Half := .a) : Prop :=
  t.reg h f.reg.blk (f.reg.at i) = f.put (s.reg h f.reg.blk (f.reg.at i)) v

/-- The keys of the registers that count the reads that missed their tenant's ceiling (R151). -/
def missKeys : List Nat :=
  (List.range 256).map (fun t => keyOf Fd.TEN_MISS_COUNT t) ++ (List.range 256).map (fun t => keyOf Fd.TEN_MISSTOT_COUNT t)

/-- The keys of the registers that count the events the recorder does not keep (R501, R503). -/
def eventKeys : List Nat := [keyOf Fd.EVT_CNT_SUPP_COUNT, keyOf Fd.EVT_CNT_LOST_COUNT]

/-- An event of a code and a source would be queued: its source is accepted, it is not suppressed, and the queue has room
(R501, R503). -/
def State.Room (s : State) (src code : Nat) : Prop :=
  s.accepts src = true ∧ (exemptCode code = true ∨ s.tokens code ≠ 0) ∧ s.evt.queue.length < 512

/-- Where an event would be queued, `t` has it at the end of the queue. -/
def State.Records (s t : State) (src mid code : Nat) (args : List Nat) : Prop :=
  s.Room src code → t.evt.queue = s.evt.queue ++ [⟨s.time.beat, code, src, mid, 0, args⟩]

/-- As `Records`, for an event of the active half's unit at the position of master `m`, or of the hub when no half is active. -/
def State.Reports (s t : State) (m code : Nat) (args : List Nat) : Prop :=
  s.Records t (match s.active with | some h => halfSrc h | none => 0) (match s.active with | some _ => 0x80 + m | none => 0x80)
    code args

/-- The submission entry of a header has been fetched: the device serves, no activation holds it back, the entry with its identifier has
arrived, and the identifier of the next context is not in use. -/
structure State.Arrived (s : State) (hd : Hdr) : Prop where
  serving : s.serving = true
  open_ : s.rd Fd.QUE_ACT_STATE < 2
  entry : ∃ g ∈ s.nv.grants, g.fn = hd.fn ∧ g.sq = hd.sq ∧ g.cid = hd.cid ∧ g.here = true
  fresh : ∀ c ∈ s.nv.ctxs, c.id ≠ s.nv.nextCtx

/-- A fetched command may be executed: its queue is not being deleted, and its opcode is one of R115. -/
structure State.Fetched (s : State) (hd : Hdr) : Prop where
  arrived : s.Arrived hd
  kept : hd.sq ∉ (s.fn hd.fn).deleting
  known : ∀ o, hd.op = some o → opcodeKnown (hd.sq == 0) o = true

/-- The commands that submission entries carry, with the same header each. -/
def entryCommands (hd : Hdr) (a b c d e : Nat) (x : Xfer) (l : List (Nat × Nat)) (fs : List Nat) (f : Bool) : List Instr :=
  [.writeCommand hd a b c x, .readCommand hd a b c x, .compareCommand hd a b c x, .verifyCommand hd a b c,
   .writeZeroesCommand hd a b c, .datasetManagementCommand hd a l f, .flushCommand hd a, .deleteIoSubmissionQueue hd a,
   .createIoSubmissionQueue hd a b c d e f, .deleteIoCompletionQueue hd a, .createIoCompletionQueue hd a b c d,
   .getLogPage hd a b c d f, .identify hd a b, .abort hd a b, .setFeatures hd a b, .getFeatures hd a, .asynchronousEventRequest hd,
   .namespaceManagement hd a b c d e f, .namespaceAttachment hd a b fs, .formatNvm hd a b c d f, .sanitize hd a, .securitySend hd a b,
   .securityReceive hd a]

/-- The command of a header ends with a status: its completion entry has left the device, or is held until it can be posted. -/
def State.Ended (t : State) (hd : Hdr) (sct sc dw0 : Nat) : Prop :=
  (∃ h ∈ t.nv.held, h.fn = hd.fn ∧ h.sq = hd.sq ∧ h.cid = hd.cid ∧ h.sct = sct ∧ h.sc = sc ∧ h.dw0 = dw0) ∨
  (∃ cq hp, Out.completion hd.fn cq hd.sq hd.cid sct sc (dnrOf sct sc) dw0 hp ∈ t.out)

/-- The command of a header is in progress under context `id`. -/
def State.Runs (t : State) (id : Nat) (hd : Hdr) (cmd : Cmd) : Prop :=
  ∃ c ∈ t.nv.ctxs, c.id = id ∧ c.fn = hd.fn ∧ c.sq = hd.sq ∧ c.cid = hd.cid ∧ c.cmd = cmd ∧ c.status = none

/-- A loop command is held with BUSY until the next update of its engine, or the one after it when it came `late` (R300). -/
def State.LoopCmdTaken (s t : State) (die grp op : Nat) (late : Bool) : Prop :=
  t.rg = { s.rg with cmd := some ⟨die, grp, op, late⟩ } ∧ t.rd Fd.RGL_LOOPCMD_BUSY = 1 ∧ t.rd Fd.RGL_LOOPCMD_OP = op ∧
  t.rd Fd.RGL_LOOPCMD_DIE = die % 2 ^ 10 ∧ t.rd Fd.RGL_LOOPCMD_GROUP = grp % 2 ^ 4 ∧ s.RegsBut [keyOf Fd.RGL_LOOPCMD_BUSY] t ∧
  s.OnlyIn [.regs, .rg] t

/-- A loop command is refused with REFUSED and the event of code 0x0902 (R300). -/
def State.LoopCmdRefused (s t : State) (die : Nat) : Prop :=
  t.rg = s.rg ∧ t.rd Fd.RGL_LOOPCMD_REFUSED = 1 ∧ s.Reports t (2 + engineOf die) 0x0902 [] ∧
  s.RegsBut (keyOf Fd.RGL_LOOPCMD_REFUSED :: eventKeys) t

/-- A slot is powered: POWERING, with PWREN, from this beat on (R248). -/
def State.Powers (s t : State) (n : Nat) : Prop :=
  t.slot n = { s.slot n with st := .powering, pwren := true, onAt := s.time.beat, goodAt := none } ∧ t.rd Fd.PWR_DOM_STATE (64 + n / 4) = 0

/-- A read's first decode recovers each of its four code words at rung 0, none of them reported as erased (R262, R264). -/
def State.Decodes (s : State) (res : DecodeRes) : Prop :=
  ∀ i < 4, ∃ c ∈ res.cws[i]?, c.ok = true ∧ s.rd Fd.ECC_CFG_ERASEDTHR ≤ c.zeros

/-- A reply of the service port: held while fewer than 8 packets are, with an in-band interrupt where they are enabled, and else
waiting (R468). -/
def State.Replies (s t : State) (code : Nat) (fields : List Nat) : Prop :=
  (s.sv.pkts.length < 8 → t.sv.pkts = s.sv.pkts ++ [(code, fields)] ∧ t.sv.waitPkts = s.sv.waitPkts ∧
    t.out = s.out ++ (if s.rd Fd.SVC_I3C_IBIEN = 1 then [.ibi] else [])) ∧
  (8 ≤ s.sv.pkts.length → t.sv.pkts = s.sv.pkts ∧ t.sv.waitPkts = s.sv.waitPkts ++ [(code, fields)] ∧ t.out = s.out)

/-- The message needs operator session `id`: outside it is discarded and counted, and while nothing serves the port it waits
(R470, R401). -/
def State.NeedsSession (s : State) (i : Instr) (id : Nat) : Prop :=
  (s.svcUp = false → exec i s = .next s) ∧
  (s.Inv → s.svcUp = true → s.operSess id = false → s.Answers i (fun t =>
    t.rd Fd.SVC_CNT_AUTHFAIL_COUNT = min (2 ^ 32 - 1) (s.rd Fd.SVC_CNT_AUTHFAIL_COUNT + 1) ∧
    s.RegsBut [keyOf Fd.SVC_CNT_AUTHFAIL_COUNT] t ∧ s.OnlyIn [.regs] t))

/-- The message, the `n`-th of R478, needs update mode held by operator session `id` (R479, R480). -/
def State.NeedsUpdate (s : State) (i : Instr) (id n : Nat) : Prop :=
  s.NeedsSession i id ∧
  (s.svcUp = true → s.operSess id = true → (∀ u, s.sv.upd = some u → u.sess ≠ id) → s.Answers i (fun t =>
    s.Replies t (pldm n) [5] ∧ t.sv.upd = s.sv.upd ∧ s.OnlyIn [.out, .sv] t))

/-- Update `u` is in progress, held by operator session `id`, and the port is served. -/
structure State.InUpdate (s : State) (id : Nat) (u : Upd) : Prop where
  up : s.svcUp = true
  oper : s.operSess id = true
  upd : s.sv.upd = some u
  holder : u.sess = id

/-- An SPDM answer by the transport of its request (R474). -/
def State.Answered (s t : State) (tr : Transport) (code : Nat) (fields : List Nat) : Prop :=
  match tr with
  | .mctp => s.Replies t (0x500 + code) fields
  | .doe p => t.out = s.out ++ [.doe p code fields] ∧ t.sv.pkts = s.sv.pkts
  | .secp f => spGet (fun _ => []) t.sv.secResp f = code :: fields ∧ t.out = s.out

/-- An SPDM request waits while its transport is not served, DOE reports Busy in a hold, and before the stage that the request
needs the answer is an error (R470, R474). -/
def State.NeedsStage (s : State) (i : Instr) (tr : Transport) (need : Nat) : Prop :=
  (s.spdmUp tr = false → s.hub.hold = false ∨ (∀ p, tr ≠ .doe p) → exec i s = .next s) ∧
  (∀ p, tr = .doe p → s.spdmUp tr = false → s.hub.hold = true → exec i s = .next (s.emit (.doeBusy p))) ∧
  (s.spdmUp tr = true → s.spdmStage tr < need → s.Answers i (fun t =>
    s.Answered t tr 0 [] ∧ t.sv.sess = s.sv.sess ∧ t.sv.spdm = s.sv.spdm ∧ s.OnlyIn [.out, .sv] t))

/-- An SPDM request within a session: without that session the answer is an error (R473). -/
def State.NeedsOpen (s : State) (i : Instr) (id : Nat) : Prop :=
  (s.svcUp = false → exec i s = .next s) ∧
  (s.svcUp = true → s.sv.sess.find? (fun x => x.id == id) = none → s.Answers i (fun t =>
    s.Replies t 0x500 [] ∧ t.sv.sess = s.sv.sess ∧ s.OnlyIn [.out, .sv] t))

end Sys2Proof.Machine
end

