-- ==== Sys2Proof/Certificates/Slice0/Obligations.lean ====
section
/-! DEFINITION. The statements about the block, for the provers. A statement that says that a command answers a next state says it for
every state that meets its hypotheses; `Answers`, `Sets`, `RegsBut`, `OnlyIn` and `Records` are defined in Safety.lean. What follows
from a choice of the model, and not from a rule of spec/, is said to be the model's in the statement's own comment. -/

open Sys2Proof Sys2Proof.Machine

/-- For every command and state: a step with the command at the front of the queue is exec of that command on the state with the
rest of the queue. With nothing waiting the block idles: the state is kept, which is the model's choice (log entry 1). -/
def Obligations.StepRunsTheFrontCommand : Prop :=
  (∀ (c : Instr) (q : List Instr) (s : State), s.pending = c :: q → step s = exec c { s with pending := q }) ∧
  (∀ s : State, s.pending = [] → step s = .next s)

/-- After power-on reset the beat counter stands at 0 (R45), both halves are OFF (R388), no half holds the clapper, the device
is not fenced and holds no outputs, the first event record will have SEQ 0 (R502), no chime channel holds a message, no lock is
held, no command waits, and every register whose block is not PWR reads the reset value of its field map. -/
def Obligations.ResetLeavesTheDevice : Prop :=
  State.reset.time = ⟨0, 0⟩ ∧ State.reset.hub.a.st = .off ∧ State.reset.hub.b.st = .off ∧ State.reset.hub.holder = none ∧
  State.reset.hub.fenced = false ∧ State.reset.hub.outputsHeld = false ∧ State.reset.evt.seq = 0 ∧ State.reset.evt.queue = [] ∧
  (∀ h i j, (State.reset.channel h i j).full = false) ∧ (∀ h n, State.reset.lockHolder h n = none) ∧ State.reset.pending = [] ∧
  (∀ h b off, b < 23 → b ≠ Blk.PWR → off < 2 ^ 16 → State.reset.reg h b off = regResetAt b off)

/-- The invariant of the model (every memory of the device in its canonical form, the event queue within its 512 records) holds
right after reset. -/
def Obligations.ResetIsGood : Prop :=
  State.reset.Inv

/-- From every state that meets the invariant, whatever command stands in front, a step that answers a next state gives a state
that meets it: the register memory, the ledger, the boot array, the map, the flash, the CMB, the channels, the locks, the
functions, the loops and the buffers keep their canonical form, and the event queue never holds more than the 512 records of
R501. -/
def Obligations.EveryStepKeepsTheInvariant : Prop :=
  ∀ s t : State, s.Inv → step s = .next t → t.Inv

/-- Every command, in every state, answers a next state: none ends the run. It leaves the variant and the queue of waiting
commands as they are, what has left the device stays as it was and in its order, and no free value is used twice. -/
def Obligations.EveryCommandAnswers : Prop :=
  ∀ (i : Instr) (s : State), s.Answers i (fun t => t.variant = s.variant ∧ t.pending = s.pending ∧ s.out <+: t.out ∧
    s.freeCtr ≤ t.freeCtr)

/-- REGISTER_WRITE of 4 aligned bytes (R14) to a register that the variant has, by a master its block admits, whose write starts
no operation and breaks no range (R548) and no rule: every field takes what its access code gives it (R16; RW the value, W1C and
W1S by the 1s, RO, RC and WO kept), and no other register changes. A write of 8 aligned bytes acts as two writes, the lower
address first. -/
def Obligations.RegisterWriteSettlesItsFields : Prop :=
  (∀ (s : State) (m : Nat) (h : Half) (b off val : Nat) (row : RegRow) (i : Nat), s.Inv → off % 4 = 0 →
    findRow (regRows b) off = some (row, i) → regAbsent s.variant h b row.reg i = false → regReserved row.reg i = false →
    s.writerOk h m b row.reg i = true → s.issueHalf h m b row.reg i (val % 2 ^ 32 % 2 ^ rsvAbove row.reg i) = none →
    s.issueRest h m b row.reg i (val % 2 ^ 32 % 2 ^ rsvAbove row.reg i) = none →
    badRange row (val % 2 ^ 32 % 2 ^ rsvAbove row.reg i) = false →
    s.badRule row.reg i (val % 2 ^ 32 % 2 ^ rsvAbove row.reg i) = false →
    s.Answers (.registerWrite m h b off 4 val) (fun t =>
      (∀ f ∈ row.fields, Fd.get ⟨row.reg, f.lsb, f.width⟩ (t.reg h b off) =
        fieldAfter (Fd.get ⟨row.reg, f.lsb, f.width⟩ (s.reg h b off))
          (val % 2 ^ 32 % 2 ^ rsvAbove row.reg i / 2 ^ f.lsb % 2 ^ f.width) f.acc % 2 ^ f.width) ∧
      s.RegsBut [regKey h b off] t ∧ s.OnlyIn [.regs, .tr, .lg, .slots, .bt] t)) ∧
  (∀ (s t u : State) (m : Nat) (h : Half) (b off val : Nat), off % 8 = 0 →
    exec (.registerWrite m h b off 4 (val % 2 ^ 32)) s = .next t →
    exec (.registerWrite m h b (off + 4) 4 (val / 2 ^ 32 % 2 ^ 32)) t = .next u →
    exec (.registerWrite m h b off 8 val) s = .next u)

/-- REGISTER_WRITE of another width or alignment changes no register: it is recorded as an event of the block (R14, R500) with
the offset, the value and the master, unless it falls in the range of an absent block or instance, where nothing happens (R6,
R7). A write of 4 aligned bytes where no register stands, or to a register that the variant lacks, changes nothing; one that
breaks a field's range or comes from a master that the block does not accept is discarded whole and recorded. -/
def Obligations.RegisterWriteDiscarded : Prop :=
  (∀ (s : State) (m : Nat) (h : Half) (b off width val : Nat), ¬(width = 4 ∧ off % 4 = 0) → ¬(width = 8 ∧ off % 8 = 0) →
    s.Answers (.registerWrite m h b off width val) (fun t =>
      (s.inAbsent h b off = true → t = s) ∧
      (s.inAbsent h b off = false → s.RegsBut eventKeys t ∧ s.OnlyIn [.regs, .evt] t ∧
        s.Records t (if hubBlock b then 0 else halfSrc h) (0x80 + unitPos b) (b * 256) [off, val, m, 0]))) ∧
  (∀ (s : State) (m : Nat) (h : Half) (b off val : Nat), off % 4 = 0 → findRow (regRows b) off = none →
    exec (.registerWrite m h b off 4 val) s = .next s) ∧
  (∀ (s : State) (m : Nat) (h : Half) (b off val : Nat) (row : RegRow) (i : Nat), off % 4 = 0 →
    findRow (regRows b) off = some (row, i) → regAbsent s.variant h b row.reg i = true →
    exec (.registerWrite m h b off 4 val) s = .next s) ∧
  (∀ (s : State) (m : Nat) (h : Half) (b off val : Nat) (row : RegRow) (i : Nat), off % 4 = 0 → val < 2 ^ 32 →
    rsvAbove row.reg i = 32 → findRow (regRows b) off = some (row, i) → regAbsent s.variant h b row.reg i = false →
    regReserved row.reg i = false →
    (s.writerOk h m b row.reg i = false ∨ (s.issueHalf h m b row.reg i val = none ∧ s.issueRest h m b row.reg i val = none ∧
      badRange row val = true)) →
    s.Answers (.registerWrite m h b off 4 val) (fun t => s.RegsBut eventKeys t ∧ s.OnlyIn [.regs, .evt] t ∧
      s.Records t (if hubBlock b then 0 else halfSrc h) (0x80 + unitPos b) (b * 256) [off, val, m, 0]))

/-- LOW_WORD_READ of the low word of a 64-bit quantity (R11, R12) returns the word and captures the high word: whatever happens
to the device in between, as long as the captured words stand, the next read of the high word by the same master returns the
high word as it was at the first read. The hypotheses name the register, its presence, for an endpoint register a master that it
answers, and that no word is captured for the low word's own address. -/
def Obligations.LowWordReadHoldsTheHighWord : Prop :=
  ∀ (s : State) (m : Nat) (h : Half) (b off : Nat) (row row' : RegRow) (i j : Nat), off % 4 = 0 →
    findRow (regRows b) off = some (row, i) → lowWord row.reg i = true → findRow (regRows b) (off + 4) = some (row', j) →
    regAbsent s.variant h b row.reg i = false → regAbsent s.variant h b row'.reg j = false →
    (b = Blk.CHM → m < 2 ∨ (m = endpointMaster i ∧ m = endpointMaster j)) →
    spGet (fun _ => 0) s.hi (hiKey h m b off) = 0 →
    s.Answers (.lowWordRead m h b off 4) (fun t => t.readData = (s.view h b off).toNat ∧
      ∀ u : State, u.hi = t.hi → u.variant = s.variant →
        u.Answers (.lowWordRead m h b (off + 4) 4) (fun v => v.readData = (s.view h b (off + 4)).toNat))

/-- SCH_SLACK_READ, TEN_MISS_READ, MED_RFSSTAT_READ, ECC_CBMAX_READ, CTG_SLOTSTAT_READ and PWR_PKG_READ of 1 to 4 bytes within
the register return the addressed bytes of the register as it stood, return every RC field with a bit among them whole to its
reset value, keep every RC field that lies wholly outside them (R14, R16, R69, R151, R222, R247, R547), and change no other
register. A read of a register that the variant lacks returns 0 (R6, R7). The hypothesis on `hi` says that no captured high word
stands for the register, which holds none. -/
def Obligations.ReadsClearTheirFields : Prop :=
  ∀ (s : State) (byte width : Nat), s.Inv → 0 < width → byte + width ≤ 4 →
    let cleared := fun (t : State) (h : Half) (f : Fd) (i rst : Nat) =>
      t.rd f i h = if f.lsb < 8 * (byte + width) ∧ 8 * byte < f.lsb + f.width then rst else s.rd f i h
    let gives := fun (t : State) (h : Half) (r : Reg) (i : Nat) =>
      t.readData = (s.view h r.blk (r.at i)).toNat / 2 ^ (8 * byte) % 2 ^ (8 * width) ∧
      s.RegsBut [regKey h r.blk (r.at i)] t
    let free := fun (h : Half) (r : Reg) (i : Nat) => spGet (fun _ => 0) s.hi (hiKey h 0 r.blk (r.at i)) = 0
    (∀ h : Half, h = .a ∨ s.variant.twin = true → free h Reg.SCH_SLACK 0 → s.Answers (.schSlackRead h byte width) (fun t =>
      gives t h Reg.SCH_SLACK 0 ∧ cleared t h Fd.SCH_SLACK_MIN 0 0x1FFF ∧ cleared t h Fd.SCH_SLACK_UNIT 0 0 ∧
        s.OnlyIn [.regs, .readData] t)) ∧
    (s.variant.twin = false → s.Answers (.schSlackRead .b byte width) (fun t => t.readData = 0 ∧ s.OnlyIn [.readData] t)) ∧
    (∀ n < 256, free s.act Reg.TEN_MISS n → s.Answers (.tenMissRead n byte width) (fun t =>
      gives t s.act Reg.TEN_MISS n ∧ cleared t s.act Fd.TEN_MISS_COUNT n 0 ∧ s.OnlyIn [.regs, .readData] t)) ∧
    (free s.act Reg.MED_RFSSTAT 0 → s.Answers (.medRfsstatRead byte width) (fun t =>
      gives t s.act Reg.MED_RFSSTAT 0 ∧ cleared t s.act Fd.MED_RFSSTAT_DISPLACED 0 0 ∧ s.OnlyIn [.regs, .readData] t)) ∧
    (free s.act Reg.ECC_CBMAX 0 → s.Answers (.eccCbmaxRead byte width) (fun t =>
      gives t s.act Reg.ECC_CBMAX 0 ∧ cleared t s.act Fd.ECC_CBMAX_MAX 0 0 ∧ cleared t s.act Fd.ECC_CBMAX_DIE 0 0 ∧
        s.OnlyIn [.regs, .readData] t)) ∧
    (∀ n < s.variant.slotsN, free s.act Reg.CTG_SLOTSTAT n → s.Answers (.ctgSlotstatRead n byte width) (fun t =>
      gives t s.act Reg.CTG_SLOTSTAT n ∧ cleared t s.act Fd.CTG_SLOTSTAT_BTN n 0 ∧ s.OnlyIn [.regs, .readData, .slots] t)) ∧
    (∀ n, s.variant.slotsN ≤ n → n < 16 → s.Answers (.ctgSlotstatRead n byte width) (fun t =>
      t.readData = 0 ∧ s.OnlyIn [.readData] t)) ∧
    (free s.act Reg.PWR_PKG 0 → s.Answers (.pwrPkgRead byte width) (fun t =>
      gives t s.act Reg.PWR_PKG 0 ∧ cleared t s.act Fd.PWR_PKG_PEAK 0 0 ∧ s.OnlyIn [.regs, .readData] t))

/-- BEAT_BOUNDARY advances the beat counter by 1 and begins the beat at cycle 0 (R45), and refills the credits of every DRAM
port (R350). COMMAND_WINDOW stands at cycle 100 of its beat (R52); while the sequencers are not at work it changes nothing else,
and it never changes a lock, a channel or a buffer. BAR_LATCH_POINT acts in beat 249 of a bar alone, at cycle 6,000, and only
for an ACTIVE half (R60); it changes no part of the device but time, the registers, the event recorder, the plan, and what the
link and the write buffer keep of completions. -/
def Obligations.TimedCommandsAdvanceTime : Prop :=
  (∀ (s : State) (ivA ivB : Nat) (words : List RenewalWord), s.Answers (.beatBoundary ivA ivB words) (fun t =>
    t.time = ⟨s.time.beat + 1, 0⟩ ∧ t.dr.served = [] ∧ t.dr.rfsServed = 0)) ∧
  (∀ s : State, s.Answers .commandWindow (fun t =>
    t.time = ⟨s.time.beat, 100⟩ ∧
    s.OnlyIn [.time, .regs, .evt, .hub, .sched, .out, .nv, .tr, .md, .lg, .rg, .dr, .ts] t ∧
    (({ s with time := ⟨s.time.beat, 100⟩ } : State).sequencing = false → t = { s with time := ⟨s.time.beat, 100⟩ }))) ∧
  (∀ s : State, s.active = none ∨ s.time.beat % 250 ≠ 249 → exec .barLatchPoint s = .next s) ∧
  (∀ s : State, s.active ≠ none → s.time.beat % 250 = 249 → s.Answers .barLatchPoint (fun t =>
    t.time = ⟨s.time.beat, 6000⟩ ∧ s.OnlyIn [.time, .regs, .evt, .sched, .out, .nv, .tr] t))

/-- BAR_LATCH_POINT in beat 249 with half h ACTIVE. A committed plan that passes the check becomes the live plan: pattern rows,
die and channel selections and budgets are those of the pending registers, every tenant's credits its budget, COMMIT clears and
LIVE_ID is its PLAN_ID (R57, R60). A committed plan that fails is rejected: COMMIT clears, REJECT is set with REASON and SLICE,
and the live rows, selections and budgets are kept (R61). With no commit the live plan is kept and, where no slice is short, the
credits return to the budgets (R57, R62). The clause on a latched plan is for a bar in which no degradation factor waits. -/
def Obligations.LatchPointSettlesThePlan : Prop :=
  ∀ (s : State) (h : Half), s.Inv → s.active = some h → s.time.beat % 250 = 249 →
    let k := { s with time := { s.time with cycle := 6000 } }
    (s.rd Fd.SCH_PLAN_CTRL_COMMIT 0 h = 1 → k.planFault h = none → s.sched.dPend = none → s.Answers .barLatchPoint (fun t =>
      (∀ i < 256, t.liveRow i = s.pendRow h i) ∧
      (∀ d < s.variant.diesN, t.liveDie d = s.reg h Blk.SCH (Reg.SCH_DIEPAT.at d)) ∧
      (∀ c < s.variant.channels, t.liveCh c = s.reg h Blk.SCH (Reg.SCH_CHPAT.at c)) ∧
      (∀ m < s.variant.slices, ∀ n < 256, t.liveBudget m n = s.pendBudget h m n ∧ t.credits m n = s.pendBudget h m n) ∧
      t.rd Fd.SCH_PLAN_CTRL_COMMIT 0 h = 0 ∧ t.rd Fd.SCH_PLAN_STATUS_LIVE_ID 0 h = s.rd Fd.SCH_PLAN_CTRL_PLAN_ID 0 h ∧
      s.RegsBut [keyOf Fd.SCH_PLAN_CTRL_COMMIT 0 h, keyOf Fd.SCH_PLAN_STATUS_LIVE_ID 0 h] t ∧ s.OnlyIn [.time, .regs, .sched] t)) ∧
    (∀ reason slice, s.rd Fd.SCH_PLAN_CTRL_COMMIT 0 h = 1 → k.planFault h = some (reason, slice) → s.Answers .barLatchPoint (fun t =>
      t.sched.rows = s.sched.rows ∧ t.sched.diePat = s.sched.diePat ∧ t.sched.chPat = s.sched.chPat ∧
      t.sched.budget = s.sched.budget ∧ t.rd Fd.SCH_PLAN_CTRL_COMMIT 0 h = 0 ∧ t.rd Fd.SCH_PLAN_STATUS_REJECT 0 h = 1 ∧
      t.rd Fd.SCH_PLAN_STATUS_REASON 0 h = reason ∧
      t.rd Fd.SCH_PLAN_STATUS_SLICE 0 h = slice ∧ t.rd Fd.SCH_PLAN_STATUS_LIVE_ID 0 h = s.rd Fd.SCH_PLAN_STATUS_LIVE_ID 0 h ∧
      s.OnlyIn [.time, .regs, .evt, .sched] t)) ∧
    (s.rd Fd.SCH_PLAN_CTRL_COMMIT 0 h ≠ 1 → s.Answers .barLatchPoint (fun t =>
      t.sched.rows = s.sched.rows ∧ t.sched.diePat = s.sched.diePat ∧ t.sched.chPat = s.sched.chPat ∧
      t.sched.budget = s.sched.budget ∧ s.OnlyIn [.time, .regs, .evt, .sched] t ∧
      ((∀ m < s.variant.slices, s.liveSum m ≤ s.liveCap m) → (∀ p ∈ s.sched.budget, p.2 ≠ 0) →
        t.sched.remain = s.sched.budget)))

/-- DONE_DEADLINE of half h stands at cycle 7,600. For a half that does not run, or the active half in an activation hold,
nothing else happens (R482). Where every enrolled unit's flag is set by then, no half is harmed and SCH_SLACK.MIN is at most the
margin of every enrolled unit (R69), only SCH_SLACK changing. Where a flag is missing, the half is UNFIT or HELD afterwards,
whether it served or stood by (R65 to R67). -/
def Obligations.DoneDeadlineSamplesTheFlags : Prop :=
  ∀ (s : State) (h : Half) (hw : List (Nat × Nat)),
    let k := { s with time := ⟨s.time.beat, 7600⟩ }
    let d := k.setDones h (hw.filter (fun p => !firmwareUnit p.1))
    (s.runs h = false ∨ (s.half h).quit = true ∨ halfPresent s.variant h = false ∨ s.actHold h = true →
      exec (.doneDeadline h hw) s = .next k) ∧
    (s.Inv → s.runs h = true → (s.half h).quit = false → halfPresent s.variant h = true → s.actHold h = false →
      (d.noteSlack h).missing h = [] → s.Answers (.doneDeadline h hw) (fun t =>
      (∀ n ∈ s.enrolled h, ∀ c, doneCycle (d.half h).dones n = some c → c ≤ 7600 ∧ t.rd Fd.SCH_SLACK_MIN 0 h ≤ 7600 - c) ∧
      s.RegsBut [keyOf Fd.SCH_SLACK_MIN 0 h] t ∧ s.OnlyIn [.time, .hub, .regs] t)) ∧
    (s.Inv → (s.half h).st = .active → (s.half h).quit = false → halfPresent s.variant h = true → s.actHold h = false →
      ∀ n rest, (d.noteSlack h).missing h = n :: rest → s.Answers (.doneDeadline h hw) (fun t =>
      (t.half h).quit = true ∧ (t.half h).st = .active ∧ (t.half h).ovrAt = some s.time.beat ∧
      t.rd Fd.SCH_OVR_UNIT 0 h = n ∧ t.rd Fd.SCH_OVR_VALID 0 h = 1 ∧ t.rd Fd.SCH_OVR_MULTI 0 h = (if rest = [] then 0 else 1) ∧
      t.rd Fd.SCH_OVR_BEAT 0 h = s.time.beat % 250 ∧ t.time = k.time ∧ s.OnlyIn [.time, .regs, .evt, .hub, .out, .nv, .dr, .ts] t)) ∧
    (s.runs h = true → (s.half h).st ≠ .active → (s.half h).quit = false → halfPresent s.variant h = true →
      (d.noteSlack h).missing h ≠ [] → s.Answers (.doneDeadline h hw) (fun t =>
      ((t.half h).st = .unfit ∨ (t.half h).st = .held) ∧ t.time = k.time ∧ s.OnlyIn [.time, .regs, .evt, .hub, .out, .nv, .dr, .ts] t))

/-- SCH_ENROLL_WRITE sets the enrolled units before the host link is enabled or in the quiesced period of an activation, and
changes no other register; at any other time it is discarded and recorded. Units 15 to 17 stay enrolled whatever is written;
another unit that is present is enrolled by its bit (R49). SCH_DONE_SET_WRITE sets the flags of the firmware units whose bits
are 1, present in the variant and not yet set, at its cycle, and no other (R48). PLAN_COMMIT sets PLAN_ID, and COMMIT where its
bit is 1; a 0 leaves COMMIT as it is (R60). To a half that the variant lacks each write does nothing (R6). -/
def Obligations.EnrolmentChangesOnlyWhenOpen : Prop :=
  (∀ (s : State) (m : Nat) (h : Half) (val : Nat), s.Inv → halfPresent s.variant h = true → s.hub.linkOn = false ∨ s.rd Fd.QUE_ACT_STATE = 2 →
    s.Answers (.schEnrollWrite m h val) (fun t =>
    s.Sets t Fd.SCH_ENROLL_UNIT val 0 h ∧ s.RegsBut [keyOf Fd.SCH_ENROLL_UNIT 0 h] t ∧ s.OnlyIn [.regs] t)) ∧
  (∀ (s : State) (m : Nat) (h : Half) (val : Nat), halfPresent s.variant h = true → s.hub.linkOn = true → s.rd Fd.QUE_ACT_STATE ≠ 2 →
    s.Answers (.schEnrollWrite m h val) (fun t =>
    s.Records t (halfSrc h) 0x80 (Blk.SCH * 256) [Reg.SCH_ENROLL.off, val, m, 0] ∧ s.RegsBut eventKeys t ∧
    s.OnlyIn [.regs, .evt] t)) ∧
  (∀ (s : State) (h : Half) (n : Nat), 15 ≤ n → n < 18 → n ∈ s.enrolled h) ∧
  (∀ (s : State) (h : Half) (n : Nat), n < 15 →
    (n ∈ s.enrolled h ↔ unitPresent s.variant n = true ∧ bit (s.rd Fd.SCH_ENROLL_UNIT 0 h) n = true)) ∧
  (∀ (s : State) (m : Nat) (h : Half) (val cyc n : Nat), halfPresent s.variant h = true → s.Answers (.schDoneSetWrite m h val cyc) (fun t =>
    doneCycle (t.half h).dones n = (match doneCycle (s.half h).dones n with
      | some c => some c
      | none => if n < 18 ∧ firmwareUnit n = true ∧ unitPresent s.variant n = true ∧ bit val n = true then some cyc else none) ∧
    s.OnlyIn [.time, .hub] t)) ∧
  (∀ (s : State) (m : Nat) (h : Half) (val : Nat), s.Inv → halfPresent s.variant h = true → s.Answers (.planCommit m h val) (fun t =>
    t.rd Fd.SCH_PLAN_CTRL_PLAN_ID 0 h = val / 2 ^ 16 % 2 ^ 16 ∧
    t.rd Fd.SCH_PLAN_CTRL_COMMIT 0 h = (if bit val 0 then 1 else s.rd Fd.SCH_PLAN_CTRL_COMMIT 0 h) ∧
    s.RegsBut [keyOf Fd.SCH_PLAN_CTRL_COMMIT 0 h] t ∧ s.OnlyIn [.regs] t)) ∧
  (∀ (s : State) (m : Nat) (h : Half) (val cyc : Nat), halfPresent s.variant h = false → exec (.schEnrollWrite m h val) s = .next s ∧
    exec (.schDoneSetWrite m h val cyc) s = .next s ∧ exec (.planCommit m h val) s = .next s)

/-- PERST_DEASSERT of port 0, and of port 1 in a bifurcated link, with a rate and a width that the port can train to, brings the
port up with them; 64 GT/s is in flit mode always (R72, R459); any other leaves the link as it is. CONFIG_REQUEST_RETRY answers
with Request Retry Status until the host link is enabled and while the device is withdrawn (R459, R517); after that a read of a
function that is not there is an Unsupported Request, and a function answers one byte, which is 0 in BAR4 and BAR5, for the
Interrupt Pin, and in the ROM BAR of a PF in window mode (R80, R81, R108). PORT_LINK_DOWN of a port takes the port down and
resets the controller of every enabled function of the port and of no other function (R76). VF_ENABLE gives a PF its VFs, none
where the number is 0; a VF that is there no longer loses its queues and its commands, and every other function is kept (R79).
-/
def Obligations.PortsAndFunctionsAppear : Prop :=
  (∀ (s : State) (speed width : Nat) (flit : Bool), s.Inv → s.trainsTo speed width = true →
    s.Answers (.perstDeassert 0 speed width flit) (fun t =>
    t.rd Fd.HST_LINK_DLUP0 = 1 ∧ t.rd Fd.HST_LINK_SPEED0 = speed ∧ t.rd Fd.HST_LINK_WIDTH0 = width ∧
    t.rd Fd.HST_LINK_FLIT = (if flit = true ∨ speed = 6 then 1 else 0) ∧
    s.RegsBut [keyOf Fd.HST_LINK_DLUP0] t ∧ s.OnlyIn [.regs, .nv] t)) ∧
  (∀ (s : State) (speed width : Nat) (flit : Bool), s.Inv → s.bifur = true → s.trainsTo speed width = true →
    s.Answers (.perstDeassert 1 speed width flit) (fun t =>
    t.rd Fd.HST_LINK_DLUP1 = 1 ∧ t.rd Fd.HST_LINK_SPEED1 = speed ∧ t.rd Fd.HST_LINK_WIDTH1 = width ∧
    (t.nv.flit1 = true ↔ flit = true ∨ speed = 6) ∧ s.RegsBut [keyOf Fd.HST_LINK_DLUP0] t ∧ s.OnlyIn [.regs, .nv] t)) ∧
  (∀ (s : State) (p speed width : Nat) (flit : Bool), 2 ≤ p ∨ (p = 1 ∧ s.bifur = false) ∨ s.trainsTo speed width = false →
    exec (.perstDeassert p speed width flit) s = .next s) ∧
  (∀ (s : State) (p f reg : Nat), s.hub.linkOn = false ∨ s.withdrawn = true →
    exec (.configRequestRetry p f reg) s = .next { s with out := s.out ++ [.crs] }) ∧
  (∀ (s : State) (p f reg : Nat), s.hub.linkOn = true → s.withdrawn = false → s.fnUp f = false →
    exec (.configRequestRetry p f reg) s = .next { s with out := s.out ++ [.ur] }) ∧
  (∀ (s : State) (p f reg : Nat), s.hub.linkOn = true → s.withdrawn = false → s.fnUp f = true →
    s.Answers (.configRequestRetry p f reg) (fun t =>
      (∃ b : Byte, t.out = s.out ++ [.dataIn [b] false] ∧
        ((0x20 ≤ reg ∧ reg < 0x28) ∨ reg = 0x3D ∨
          (0x30 ≤ reg ∧ reg < 0x34 ∧ s.rd Fd.HST_BARCFG_MODE (s.pfNow f) = 0) → b = 0)) ∧
      s.OnlyIn [.freeCtr, .out] t)) ∧
  (∀ (s : State) (p : Nat), s.Inv → p < 2 → s.Answers (.portLinkDown p) (fun t =>
    t.rd (if p = 0 then Fd.HST_LINK_DLUP0 else Fd.HST_LINK_DLUP1) = 0 ∧
    (∀ f < 256, s.portOf f = p → (s.fn f).en = true → (t.fn f).en = false ∧ (t.fn f).resetAt = some (s.barAfter 2) ∧
      ∀ q ∈ t.nv.sqs, q.fn ≠ f) ∧
    (∀ f, s.portOf f ≠ p → t.fn f = s.fn f) ∧ s.RegsBut [keyOf Fd.HST_LINK_DLUP0] t ∧ s.OnlyIn [.regs, .hub, .nv, .tr, .md, .lg, .bf] t)) ∧
  (∀ (s : State) (pf num : Nat), s.Inv → s.Answers (.vfEnable pf num) (fun t =>
    t.fn (s.pfFn (pf % 2)) = { s.fn (s.pfFn (pf % 2)) with vfOn := decide (0 < num), numVfs := min 127 num } ∧
    (∀ f, f ≠ s.pfFn (pf % 2) → s.fnUp f = false ∨ t.fnUp f = true → t.fn f = s.fn f) ∧
    (∀ f < 256, s.fnUp f = true → t.fnUp f = false → (t.fn f).en = false ∧ (t.fn f).bme = false ∧ (∀ q ∈ t.nv.sqs, q.fn ≠ f) ∧
      (∀ q ∈ t.nv.cqs, q.fn ≠ f) ∧ ∀ c ∈ t.nv.ctxs, c.fn ≠ f) ∧ s.OnlyIn [.regs, .hub, .nv, .tr, .md, .lg, .bf] t))

/-- BUS_MASTER_ENABLE_CLEAR of a function whose bit is set clears it, marks the data of its outstanding reads lost and forgets
the grants whose entries have not arrived, so that they are fetched again (R102). BUS_MASTER_ENABLE_SET of a function outside an
FLR sets it, with the PCIe control settings that come with it, whose payload and read request sizes change only to sizes that
exist (R73). FLR_WRITE begins an FLR that ends at the second bar boundary after it: the function stops, its queues and contexts
are gone, its tags are orphaned, and its configuration space is reset (R103, R131). FLR_COMPLETE from that boundary on ends it
with RDY cleared; before it nothing happens. -/
def Obligations.BusMasteringStopsAndResumes : Prop :=
  (∀ (s : State) (f : Nat), s.Inv → s.fnUp f = true → (s.fn f).bme = true → s.Answers (.busMasterEnableClear f) (fun t =>
    t.fn f = { s.fn f with bme := false } ∧ (∀ g, g ≠ f → t.fn g = s.fn g) ∧
    (∀ x ∈ t.nv.tags, x.fn = f → x.quar = none → x.orphan = false → x.lost = true) ∧
    (∀ g ∈ t.nv.grants, g.fn = f → g.here = true) ∧ s.OnlyIn [.nv, .ts] t)) ∧
  (∀ (s : State) (f : Nat), s.fnUp f = false ∨ (s.fn f).bme = false → exec (.busMasterEnableClear f) s = .next s) ∧
  (∀ (s : State) (f : Nat) (cfg : FnCfg), s.Inv → s.fnUp f = true → (s.fn f).flrAt = none →
    s.Answers (.busMasterEnableSet f cfg) (fun t =>
      (t.fn f).bme = true ∧ (t.fn f).cfg.cto = cfg.cto ∧ (t.fn f).cfg.ro = cfg.ro ∧
      (t.fn f).cfg.mrrs = (if cfg.mrrs ∈ [128, 256, 512, 1024, 2048, 4096] then cfg.mrrs else (s.fn f).cfg.mrrs) ∧
      (t.fn f).cfg.mps = (if cfg.mps ∈ [128, 256, 512] then cfg.mps else (s.fn f).cfg.mps) ∧ s.OnlyIn [.regs, .evt, .hub, .out, .nv, .tr, .md, .lg, .dr, .ts] t)) ∧
  (∀ (s : State) (f : Nat) (cfg : FnCfg), s.fnUp f = false ∨ (s.fn f).flrAt ≠ none →
    exec (.busMasterEnableSet f cfg) s = .next s) ∧
  (∀ (s : State) (f : Nat), s.Inv → s.fnUp f = true → (s.fn f).flrAt = none → s.Answers (.flrWrite f) (fun t =>
    (t.fn f).flrAt = some (s.barAfter 2) ∧ (t.fn f).en = false ∧ (t.fn f).bme = false ∧ (t.fn f).cfg = fnCfgInit ∧
    (t.fn f).resetAt = none ∧ (s.isPfNow f = true → (t.fn f).vfOn = false) ∧ (∀ q ∈ t.nv.sqs, q.fn ≠ f) ∧
    (∀ q ∈ t.nv.cqs, q.fn ≠ f) ∧ (∀ c ∈ t.nv.ctxs, c.fn ≠ f) ∧
    (∀ x ∈ t.nv.tags, x.fn = f → x.quar = none → x.orphan = true) ∧ s.OnlyIn [.regs, .hub, .nv, .tr, .md, .lg, .bf, .ts] t)) ∧
  (∀ (s : State) (f : Nat), s.fnUp f = false ∨ (s.fn f).flrAt ≠ none → exec (.flrWrite f) s = .next s) ∧
  (∀ (s : State) (f b : Nat), s.Inv → (s.fn f).flrAt = some b → b ≤ s.time.beat → s.Answers (.flrComplete f) (fun t =>
    t.fn f = { s.fn f with flrAt := none, rdy := false, cfs := (s.fn f).cfs && s.hub.fenced, shst := 0, shn := false } ∧
    (∀ g, g ≠ f → t.fn g = s.fn g) ∧ s.OnlyIn [.nv] t)) ∧
  (∀ (s : State) (f : Nat), (∀ b, (s.fn f).flrAt = some b → s.time.beat < b) → exec (.flrComplete f) s = .next s)

/-- CC_ENABLE_SET of a function that is present, disabled and in no reset enables it with its admin queues, in split mode, and
sets the next bar boundary for its readiness (R94, R132). CONTROLLER_READY from that boundary on sets RDY where the admin queue
registers passed their check and CFS where they did not. CONTROLLER_RESET of an enabled function disables it, ends its contexts,
grants, held completions and queues, and orphans its tags (R131). CONTROLLER_RESET_COMPLETE from the second bar boundary on
clears RDY, and CFS unless the device is fenced (R132). SHUTDOWN_NOTIFICATION marks the shutdown, which is complete at once
where nothing is in hand (R133). Where its condition does not hold each changes nothing. During an output hold the three that
the host writes wait in the ingress buffer (R75). -/
def Obligations.ControllersStartAndStop : Prop :=
  (∀ (s : State) (f : Nat) (wrr aqOk : Bool) (asq acq asqAddr acqAddr : Nat), s.Inv → s.TakesIn → s.fnUp f = true →
    (s.fn f).en = false → (s.fn f).resetAt = none → (s.fn f).flrAt = none →
    s.Answers (.ccEnableSet f wrr aqOk asq acq asqAddr acqAddr) (fun t =>
      t.fn f = { s.fn f with en := true, wrr := wrr, aqOk := aqOk, startAt := some (s.barAfter 1), splitStart := true,
                             regs := adminRegs (s.fn f).regs wrr asq acq asqAddr acqAddr } ∧
      (∀ g, g ≠ f → t.fn g = s.fn g) ∧
      t.nv.sqs = s.nv.sqs ++ [{ fn := f, qid := 0, size := asq, cq := 0, prio := 0, base := asqAddr, cmb := false, head := 0,
                                tail := 0, skip := [] }] ∧
      t.nv.cqs = s.nv.cqs ++ [{ fn := f, qid := 0, size := acq, iv := 0, base := acqAddr, head := 0, tail := 0, sent := 0 }] ∧
      s.OnlyIn [.nv, .ts] t)) ∧
  (∀ (s : State) (f : Nat) (wrr aqOk : Bool) (asq acq asqAddr acqAddr : Nat), s.TakesIn →
    s.fnUp f = false ∨ (s.fn f).en = true ∨ (s.fn f).resetAt ≠ none ∨ (s.fn f).flrAt ≠ none →
    exec (.ccEnableSet f wrr aqOk asq acq asqAddr acqAddr) s = .next s) ∧
  (∀ (s : State) (f b : Nat), s.Inv → (s.fn f).startAt = some b → b ≤ s.time.beat → s.Answers (.controllerReady f) (fun t =>
    (t.fn f).rdy = (s.fn f).aqOk ∧ (t.fn f).cfs = ((s.fn f).cfs || !(s.fn f).aqOk) ∧ (t.fn f).startAt = none ∧
    (t.fn f).en = (s.fn f).en ∧ (∀ g, g ≠ f → (t.fn g).rdy = (s.fn g).rdy) ∧ s.OnlyIn [.regs, .out, .nv, .tr] t)) ∧
  (∀ (s : State) (f : Nat), (∀ b, (s.fn f).startAt = some b → s.time.beat < b) → exec (.controllerReady f) s = .next s) ∧
  (∀ (s : State) (f : Nat), s.Inv → s.TakesIn → (s.fn f).en = true → s.fnUp f = true → s.Answers (.controllerReset f) (fun t =>
    (t.fn f).en = false ∧ (t.fn f).resetAt = some (s.barAfter 2) ∧ (t.fn f).bme = (s.fn f).bme ∧
    (t.fn f).cfg = (s.fn f).cfg ∧ (∀ g, g ≠ f → t.fn g = s.fn g) ∧ (∀ q ∈ t.nv.sqs, q.fn ≠ f) ∧ (∀ q ∈ t.nv.cqs, q.fn ≠ f) ∧
    (∀ c ∈ t.nv.ctxs, c.fn ≠ f) ∧ (∀ h ∈ t.nv.held, h.fn ≠ f) ∧
    (∀ x ∈ t.nv.tags, x.fn = f → x.quar = none → x.orphan = true) ∧ s.OnlyIn [.hub, .nv, .tr, .md, .lg, .bf] t)) ∧
  (∀ (s : State) (f : Nat), s.TakesIn → (s.fn f).en = false ∨ s.fnUp f = false → exec (.controllerReset f) s = .next s) ∧
  (∀ (s : State) (f b : Nat), s.Inv → (s.fn f).resetAt = some b → b ≤ s.time.beat →
    s.Answers (.controllerResetComplete f) (fun t =>
      t.fn f = { s.fn f with resetAt := none, rdy := false, cfs := (s.fn f).cfs && s.hub.fenced, shst := 0, shn := false } ∧
      (∀ g, g ≠ f → t.fn g = s.fn g) ∧ s.OnlyIn [.nv] t)) ∧
  (∀ (s : State) (f : Nat), (∀ b, (s.fn f).resetAt = some b → s.time.beat < b) → exec (.controllerResetComplete f) s = .next s) ∧
  (∀ (s : State) (f : Nat), s.Inv → s.TakesIn → s.fnUp f = true → (s.fn f).en = true → s.Answers (.shutdownNotification f) (fun t =>
    (t.fn f).shn = true ∧ (t.fn f).shst = (if s.shutReady f then 2 else 1) ∧ s.OnlyIn [.nv] t)) ∧
  (∀ (s : State) (f : Nat), s.TakesIn → s.fnUp f = false ∨ (s.fn f).en = false → exec (.shutdownNotification f) s = .next s) ∧
  (∀ (s : State) (f : Nat) (wrr aqOk : Bool) (asq acq asqAddr acqAddr : Nat),
    s.WaitsInHold (.ccEnableSet f wrr aqOk asq acq asqAddr acqAddr) ∧ s.WaitsInHold (.controllerReset f) ∧
    s.WaitsInHold (.shutdownNotification f))

/-- ARBITRATION_ROUND gives grants besides those that stand. Where the device may not fetch it changes nothing. The grants of a
round number at most QUE_ARBCFG.GRANTMAX, and each is for a function that may fetch (R115 to R120). Where some function with a
queue may fetch, has a context free and an entry waiting, and GRANTMAX is not 0, at least one grant is given. -/
def Obligations.ArbitrationGrantsEntries : Prop :=
  (∀ s : State, s.fetching = false → exec .arbitrationRound s = .next s) ∧
  (∀ s : State, s.Inv → s.fetching = true → s.Answers .arbitrationRound (fun t =>
    t.nv.grants.length ≤ s.nv.grants.length + s.rd Fd.QUE_ARBCFG_GRANTMAX ∧ s.nv.grants.length ≤ t.nv.grants.length ∧
    (∀ g ∈ t.nv.grants, g ∈ s.nv.grants ∨ (s.mayFetch g.fn = true ∧ g.beat = s.time.beat)) ∧
    ((∃ f < 256, s.mayFetch f = true ∧ s.ctxFree f = true ∧ (s.pickQueue f).isSome = true) →
      s.rd Fd.QUE_ARBCFG_GRANTMAX ≠ 0 → s.nv.grants.length < t.nv.grants.length) ∧ s.OnlyIn [.out, .nv] t))

/-- SQ_TAIL_DOORBELL with a value within the queue sets the tail of that queue and of no other. CQ_HEAD_DOORBELL with a value
that does not pass the tail sets the head of that queue; entries posted then move its tail alone. A doorbell of no queue, or
with a value the queue cannot hold, moves no pointer and is recorded with code 0x0204 (R124). A doorbell of a function that is
not there changes nothing. During an output hold a doorbell waits in the ingress buffer (R75). -/
def Obligations.DoorbellsMoveTheirPointers : Prop :=
  (∀ (s : State) (f q v : Nat), s.TakesIn → s.fnUp f = false → exec (.sqTailDoorbell f q v) s = .next s ∧ exec (.cqHeadDoorbell f q v) s = .next s) ∧
  (∀ (s : State) (f q v : Nat) (x : Sq), s.TakesIn → s.fnUp f = true → s.sq f q = some x → v < x.size → s.Answers (.sqTailDoorbell f q v) (fun t =>
    t.sq f q = some { x with tail := v } ∧ (∀ g r, (g, r) ≠ (f, q) → t.sq g r = s.sq g r) ∧ t.nv.cqs = s.nv.cqs ∧
    s.OnlyIn [.nv] t)) ∧
  (∀ (s : State) (f q v : Nat), s.TakesIn → s.fnUp f = true → (∀ x, s.sq f q = some x → x.size ≤ v) → s.Answers (.sqTailDoorbell f q v) (fun t =>
    t.nv.sqs = s.nv.sqs ∧ s.Reports t 16 0x0204 [f, 0x1000 + 8 * q, v, if (s.sq f q).isNone then 2 else 1] ∧
    s.RegsBut eventKeys t ∧ s.OnlyIn [.regs, .evt, .out, .nv, .tr] t)) ∧
  (∀ (s : State) (f q v : Nat) (x : Cq), s.TakesIn → s.fnUp f = true → s.cq f q = some x → v < x.size →
    (v + x.size - x.head) % x.size ≤ (x.tail + x.size - x.head) % x.size → s.Answers (.cqHeadDoorbell f q v) (fun t =>
      (∃ y, t.cq f q = some y ∧ y.head = v ∧ y.size = x.size ∧ y.iv = x.iv) ∧
      (∀ g r, (g, r) ≠ (f, q) → (t.cq g r).map (fun c => c.head) = (s.cq g r).map (fun c => c.head)) ∧ t.nv.sqs = s.nv.sqs ∧
      s.OnlyIn [.regs, .evt, .out, .nv, .tr, .lg] t)) ∧
  (∀ (s : State) (f q v : Nat), s.TakesIn → s.fnUp f = true → (∀ x, s.cq f q = some x → x.size ≤ v ∨
      (x.tail + x.size - x.head) % x.size < (v + x.size - x.head) % x.size) → s.Answers (.cqHeadDoorbell f q v) (fun t =>
    t.nv.cqs.map (fun c => (c.fn, c.qid, c.head)) = s.nv.cqs.map (fun c => (c.fn, c.qid, c.head)) ∧
    s.Reports t 16 0x0204 [f, 0x1004 + 8 * q, v, if (s.cq f q).isNone then 2 else 1] ∧ s.RegsBut eventKeys t ∧
    s.OnlyIn [.regs, .evt, .out, .nv, .tr, .lg] t)) ∧
  (∀ (s : State) (f q v : Nat), s.WaitsInHold (.sqTailDoorbell f q v) ∧ s.WaitsInHold (.cqHeadDoorbell f q v))

/-- INBOUND_WINDOW_TLP and PMR_TLP of an unfenced device whose link is enabled, to a window BAR: a TLP that matches no entry, or
writes to an entry that is read-only, is a window miss, counted, reported and, for a read, completed as an Unsupported Request
(R85); a poisoned write is dropped with an advisory error (R110); a write that matches puts its bytes into the CMB and no other
byte changes; a read returns the CMB's bytes (R84, R118). With a PMR target the bytes go to and come from the granules of the
ledger (R326 to R328); a write is dropped and counted while HSTS is 2, and a read whose word fails its check is poisoned and
sets HSTS to 3. BAR0 holds the NVMe registers, which a read returns, and the doorbells, which a write rings (R80). A TLP that
arrives malformed is dropped and logged (R109). In the fenced state a read gets Completer Abort and a write nothing (R111);
before the link is enabled nothing happens; in an output hold a TLP that is not for the PMR waits in the ingress buffer (R75,
R326). -/
def Obligations.WindowTlpsReachTheirTargets : Prop :=
  (∀ (s : State) (f req bar addr len : Nat) (wr : Bool) (data : List Byte) (poisoned ok : Bool), s.TakesIn → s.hub.linkOn = false →
    exec (.inboundWindowTlp f req bar addr len wr data poisoned none) s = .next s ∧
    exec (.pmrTlp f req addr len wr data ok) s = .next s) ∧
  (∀ (s : State) (f req bar addr len : Nat) (wr : Bool) (data : List Byte) (poisoned ok : Bool), s.hub.linkOn = true →
    s.hub.fenced = true →
    exec (.inboundWindowTlp f req bar addr len wr data poisoned none) s = .next (if wr then s else { s with out := s.out ++ [.ca] }) ∧
    exec (.pmrTlp f req addr len wr data ok) s = .next (if wr then s else { s with out := s.out ++ [.ca] })) ∧
  (∀ (s : State) (f req addr len : Nat) (wr : Bool) (data : List Byte) (poisoned : Bool), s.Inv → s.TakesIn → s.hub.linkOn = true →
    s.hub.fenced = false → s.fnUp f = true → s.windowSize f ≠ 0 →
    (∀ w, s.matchWin f req addr (if wr then data.length else len) = some w → wr = true ∧ w.acc = 1 ∧ w.tgt < pmrBase) →
    s.Answers (.inboundWindowTlp f req 2 addr len wr data poisoned none) (fun t =>
      t.rd Fd.HST_CNT_WMISS_COUNT = min (2 ^ 32 - 1) (s.rd Fd.HST_CNT_WMISS_COUNT + 1) ∧
      s.Logs t f .advisoryUr ∧ (wr = false → .ur ∈ t.out) ∧ s.RegsBut [keyOf Fd.HST_CNT_WMISS_COUNT] t ∧
      s.OnlyIn [.regs, .out, .nv] t)) ∧
  (∀ (s : State) (f req addr len : Nat) (data : List Byte) (w : Win), s.TakesIn → s.hub.linkOn = true → s.hub.fenced = false →
    s.fnUp f = true → s.windowSize f ≠ 0 → s.matchWin f req addr data.length = some w → w.acc ≠ 1 →
    s.Answers (.inboundWindowTlp f req 2 addr len true data true none) (fun t =>
      s.Logs t f .advisoryPoison ∧ s.OnlyIn [.out, .nv] t)) ∧
  (∀ (s : State) (f req addr len : Nat) (data : List Byte) (w : Win), s.Inv → s.TakesIn → s.hub.linkOn = true → s.hub.fenced = false →
    s.fnUp f = true → s.windowSize f ≠ 0 → s.matchWin f req addr data.length = some w → w.acc ≠ 1 →
    w.tgt + (addr - w.off) < pmrBase → s.Answers (.inboundWindowTlp f req 2 addr len true data false none) (fun t =>
      (∀ i (hi : i < data.length), t.cmbByte (w.tgt + (addr - w.off) + i) = data[i]) ∧
      (∀ a, a < w.tgt + (addr - w.off) ∨ w.tgt + (addr - w.off) + data.length ≤ a → t.cmbByte a = s.cmbByte a) ∧
      s.OnlyIn [.dr] t)) ∧
  (∀ (s : State) (f req addr len : Nat) (data : List Byte) (p : Bool) (w : Win), s.TakesIn → s.hub.linkOn = true →
    s.hub.fenced = false → s.fnUp f = true → s.windowSize f ≠ 0 → s.matchWin f req addr len = some w →
    w.tgt + (addr - w.off) < pmrBase → s.Answers (.inboundWindowTlp f req 2 addr len false data p none) (fun t =>
      t.out = s.out ++ [.dataIn ((List.range len).map (fun i => s.cmbByte (w.tgt + (addr - w.off) + i)))
        ((linesOf (w.tgt + (addr - w.off)) len).any (fun l => s.dr.poisoned.contains l))] ∧ s.OnlyIn [.out] t)) ∧
  (∀ (s : State) (f req addr len : Nat) (data : List Byte) (ok : Bool) (w : Win), s.Inv → s.hub.linkOn = true → s.hub.fenced = false →
    s.fnUp f = true → s.windowSize f ≠ 0 → s.matchWin f req addr data.length = some w → w.acc ≠ 1 → pmrBase ≤ w.tgt →
    s.rd Fd.LDG_PMRSTAT_HSTS = 2 → s.Answers (.pmrTlp f req addr len true data ok) (fun t =>
      t.rd Fd.LDG_CNT_PMRDROP_COUNT = min (2 ^ 32 - 1) (s.rd Fd.LDG_CNT_PMRDROP_COUNT + 1) ∧
      s.RegsBut [keyOf Fd.LDG_CNT_PMRDROP_COUNT] t ∧ s.OnlyIn [.regs] t)) ∧
  (∀ (s : State) (f req addr len : Nat) (data : List Byte) (ok : Bool) (w : Win), s.Inv → s.hub.linkOn = true → s.hub.fenced = false →
    s.fnUp f = true → s.windowSize f ≠ 0 → s.matchWin f req addr data.length = some w → w.acc ≠ 1 → pmrBase ≤ w.tgt →
    s.rd Fd.LDG_PMRSTAT_HSTS ≠ 2 → (∀ g k, s.granOf g = s.granOf k → g = k) →
    s.Answers (.pmrTlp f req addr len true data ok) (fun t =>
      (∀ i (hi : i < data.length), t.ledgerByte (t.pmrAddr (w.tgt + (addr - w.off) - pmrBase + i)) = data[i]) ∧
      s.OnlyIn [.lg] t)) ∧
  (∀ (s : State) (f req addr len : Nat) (data : List Byte) (ok : Bool) (w : Win), s.Inv → s.hub.linkOn = true → s.hub.fenced = false →
    s.fnUp f = true → s.windowSize f ≠ 0 → s.matchWin f req addr len = some w → pmrBase ≤ w.tgt →
    s.variant.pmr = true → s.granOf ((w.tgt + (addr - w.off) - pmrBase) / 4096) < 4160 →
    s.Answers (.pmrTlp f req addr len false data ok) (fun t =>
      t.out = s.out ++ [.dataIn ((List.range len).map (fun i =>
        s.ledgerByte (s.pmrAddr (w.tgt + (addr - w.off) - pmrBase + i)))) (!ok)] ∧
      (ok = false → t.rd Fd.LDG_PMRSTAT_HSTS = 3) ∧ (ok = true → s.OnlyIn [.out] t))) ∧
  (∀ (s : State) (f req addr len : Nat) (data : List Byte) (p : Bool), s.TakesIn → s.hub.linkOn = true → s.hub.fenced = false →
    s.fnUp f = true → addr + len ≤ 0x2_0000 → s.Answers (.inboundWindowTlp f req 0 addr len false data p none) (fun t =>
      t.out = s.out ++ [.dataIn ((List.range len).map (fun i =>
        BitVec.ofNat 8 (s.bar0Word f ((addr + i) / 4 * 4) / 2 ^ (8 * ((addr + i) % 4))))) false] ∧ s.OnlyIn [.out] t)) ∧
  (∀ (s : State) (f req q len : Nat) (data : List Byte), s.TakesIn → s.hub.linkOn = true → s.hub.fenced = false → s.fnUp f = true →
    data.length = 4 → q < 0x1E00 →
    exec (.inboundWindowTlp f req 0 (0x1000 + 8 * q) len true data false none) s = exec (.sqTailDoorbell f q (bytesNat data % 65536)) s ∧
    exec (.inboundWindowTlp f req 0 (0x1004 + 8 * q) len true data false none) s =
      exec (.cqHeadDoorbell f q (bytesNat data % 65536)) s) ∧
  (∀ (s : State) (f req bar addr len : Nat) (wr : Bool) (data : List Byte) (poisoned : Bool), s.fnUp f = true →
    s.Answers (.inboundWindowTlp f req bar addr len wr data poisoned (some .malformed)) (fun t =>
      s.Logs t f .malformed ∧ s.OnlyIn [.out, .nv] t)) ∧
  (∀ (s : State) (f req bar addr len : Nat) (wr : Bool) (data : List Byte) (poisoned ok : Bool),
    s.toPmr f req addr (if wr then data.length else len) = false →
    s.WaitsInHold (.inboundWindowTlp f req bar addr len wr data poisoned none) ∧ s.WaitsInHold (.pmrTlp f req addr len wr data ok))

/-- WINDOW_ENABLE_WRITE of an entry sets the fields of its control register; with EN 1 the entry is enabled where it passes
every test of R86, and otherwise EN reads 0 and HST_WINERR names the entry and the first reason. EXPANSION_ROM_TLP in ROM mode
reads the bytes of the boot option image, and a write is counted and dropped (R82); without a ROM it is an Unsupported Request
(R81, R109). PMR_GRANULE_ROTATION of a granule that has taken fewer than 2^26 writes does nothing; otherwise the granule moves
to the first spare with its bytes, and with no spare left the PMR becomes read-only, HSTS 2 (R329). -/
def Obligations.WindowsAreEnabledByTheirRules : Prop :=
  (∀ (s : State) (m p e val : Nat), s.Inv → p < 2 → e < 64 → bit val 0 = false → s.Answers (.windowEnableWrite m p e val) (fun t =>
    t.rd Fd.HST_WIN_CTRL_EN (64 * p + e) = 0 ∧ t.rd Fd.HST_WIN_CTRL_OWNER (64 * p + e) = val / 2 ^ 16 % 2 ^ 8 ∧
    s.RegsBut [keyOf Fd.HST_WIN_CTRL_EN (64 * p + e)] t ∧ s.OnlyIn [.regs] t)) ∧
  (∀ (s : State) (m p e val : Nat), s.Inv → p < 2 → e < 64 → bit val 0 = true →
    (s.winSet (64 * p + e) val).winReason (64 * p + e) = 0 →
    s.Answers (.windowEnableWrite m p e val) (fun t =>
      t.rd Fd.HST_WIN_CTRL_EN (64 * p + e) = 1 ∧ t.rd Fd.HST_WIN_CTRL_OWNER (64 * p + e) = val / 2 ^ 16 % 2 ^ 8 ∧
      s.RegsBut [keyOf Fd.HST_WIN_CTRL_EN (64 * p + e)] t ∧ s.OnlyIn [.regs] t)) ∧
  (∀ (s : State) (m p e val : Nat), s.Inv → p < 2 → e < 64 → bit val 0 = true →
    (s.winSet (64 * p + e) val).winReason (64 * p + e) ≠ 0 →
    s.Answers (.windowEnableWrite m p e val) (fun t =>
      t.rd Fd.HST_WIN_CTRL_EN (64 * p + e) = 0 ∧ t.rd Fd.HST_WINERR_PF = p ∧ t.rd Fd.HST_WINERR_ENTRY = e ∧
      t.rd Fd.HST_WINERR_REASON = (s.winSet (64 * p + e) val).winReason (64 * p + e) ∧ t.rd Fd.HST_WINERR_VALID = 1 ∧
      s.RegsBut [keyOf Fd.HST_WIN_CTRL_EN (64 * p + e), keyOf Fd.HST_WINERR_PF] t ∧ s.OnlyIn [.regs] t)) ∧
  (∀ (s : State) (m p e val : Nat), 2 ≤ p ∨ 64 ≤ e → exec (.windowEnableWrite m p e val) s = .next s) ∧
  (∀ (s : State) (pf addr len : Nat), s.TakesIn → s.hub.linkOn = true → s.hub.fenced = false → s.rd Fd.HST_BARCFG_MODE (pf % 2) ≠ 0 →
    addr + len ≤ 2 ^ s.rd Fd.HST_BARCFG_ROMLOG (pf % 2) → exec (.expansionRomTlp pf addr len false) s =
      .next { s with out := s.out ++ [.dataIn ((List.range len).map (fun i => s.romByte (addr + i))) false] }) ∧
  (∀ (s : State) (pf addr len : Nat), s.Inv → s.TakesIn → s.hub.linkOn = true → s.hub.fenced = false →
    s.rd Fd.HST_BARCFG_MODE (pf % 2) ≠ 0 → addr + len ≤ 2 ^ s.rd Fd.HST_BARCFG_ROMLOG (pf % 2) →
    s.Answers (.expansionRomTlp pf addr len true) (fun t =>
      t.rd Fd.HST_CNT_WMISS_COUNT = min (2 ^ 32 - 1) (s.rd Fd.HST_CNT_WMISS_COUNT + 1) ∧
      s.RegsBut [keyOf Fd.HST_CNT_WMISS_COUNT] t ∧ s.OnlyIn [.regs] t)) ∧
  (∀ (s : State) (pf addr len : Nat) (wr : Bool), s.TakesIn → s.hub.linkOn = true → s.hub.fenced = false →
    s.rd Fd.HST_BARCFG_MODE (pf % 2) = 0 → s.Answers (.expansionRomTlp pf addr len wr) (fun t =>
      s.Logs t (s.pfFn (pf % 2)) .unsupportedRequest ∧ (wr = false → .ur ∈ t.out) ∧ s.OnlyIn [.out, .nv] t)) ∧
  (∀ (s : State) (pf addr len : Nat) (wr : Bool), s.WaitsInHold (.expansionRomTlp pf addr len wr)) ∧
  (∀ (s : State) (g : Nat), s.variant.pmr = false ∨ 4096 ≤ g ∨ spGet (fun _ => 0) s.lg.granWr (s.granOf g) < 2 ^ 26 →
    exec (.pmrGranuleRotation g) s = .next s) ∧
  (∀ (s : State) (g : Nat), s.Inv → s.variant.pmr = true → g < 4096 → 2 ^ 26 ≤ spGet (fun _ => 0) s.lg.granWr (s.granOf g) →
    s.lg.spares = [] → s.rd Fd.LDG_PMRSTAT_HSTS = 0 → s.Answers (.pmrGranuleRotation g) (fun t =>
      t.rd Fd.LDG_PMRSTAT_HSTS = 2 ∧ s.RegsBut [keyOf Fd.LDG_PMRSTAT_HSTS] t ∧ s.OnlyIn [.regs] t)) ∧
  (∀ (s : State) (g q : Nat) (rest : List Nat), s.Inv → s.variant.pmr = true → g < 4096 → s.granOf g < 4160 → q < 4160 →
    2 ^ 26 ≤ spGet (fun _ => 0) s.lg.granWr (s.granOf g) → s.lg.spares = q :: rest → s.Answers (.pmrGranuleRotation g) (fun t =>
      t.granOf g = q ∧ spGet (fun _ => 0) t.lg.granWr q = 0 ∧
      (∀ i < 4096, t.ledgerByte (0x28C_0000 + 4096 * q + i) = s.ledgerByte (s.pmrAddr (4096 * g + i))) ∧
      s.RegsBut [keyOf Fd.LDG_PMRSTAT_ROTATIONS] t ∧ s.OnlyIn [.regs, .lg] t))

/-- TAGBUD_WRITE and CONTEXT_BUDGET_WRITE set the reservation and the cap of their function where RESV is at most CAP and the
reservations stay within their total; otherwise they are discarded and recorded (R91, R119). SPLIT_ALL_WRITE sets SPLIT_ALL
(R94). None changes another register. -/
def Obligations.BudgetWritesAreTested : Prop :=
  (∀ (s : State) (m f val : Nat), s.Inv → val % 2 ^ 14 ≤ val / 2 ^ 16 % 2 ^ 14 →
    sumOf (fun g => if s.portOf g = s.portOf f then (if g = f then val % 2 ^ 14 else s.rd Fd.HST_TAGBUD_RESV g) else 0)
      (List.range 256) ≤ 8192 → s.Answers (.tagbudWrite m f val) (fun t =>
      t.rd Fd.HST_TAGBUD_RESV f = val % 2 ^ 14 ∧ t.rd Fd.HST_TAGBUD_CAP f = val / 2 ^ 16 % 2 ^ 14 ∧
        s.RegsBut [keyOf Fd.HST_TAGBUD_RESV f] t ∧ s.OnlyIn [.regs, .out, .nv, .ts] t)) ∧
  (∀ (s : State) (m f val : Nat), val / 2 ^ 16 % 2 ^ 14 < val % 2 ^ 14 ∨
    8192 < sumOf (fun g => if s.portOf g = s.portOf f then (if g = f then val % 2 ^ 14 else s.rd Fd.HST_TAGBUD_RESV g) else 0)
      (List.range 256) → s.Answers (.tagbudWrite m f val) (fun t =>
      s.Records t (if hubBlock Blk.HST then 0 else halfSrc s.act) 0x80 (Blk.HST * 256)
        [Reg.HST_TAGBUD.at f, val, m, 0] ∧ s.RegsBut eventKeys t ∧ s.OnlyIn [.regs, .evt] t)) ∧
  (∀ (s : State) (m f val : Nat), s.Inv → s.ctxBudgetOk f (val % 2 ^ 12) (val / 2 ^ 16 % 2 ^ 12) = true →
    s.Answers (.contextBudgetWrite m f val) (fun t =>
      t.rd Fd.QUE_FNCTX_RESV f = val % 2 ^ 12 ∧ t.rd Fd.QUE_FNCTX_CAP f = val / 2 ^ 16 % 2 ^ 12 ∧
        s.RegsBut [keyOf Fd.QUE_FNCTX_RESV f] t ∧ s.OnlyIn [.regs] t)) ∧
  (∀ (s : State) (m f val : Nat), s.ctxBudgetOk f (val % 2 ^ 12) (val / 2 ^ 16 % 2 ^ 12) = false →
    s.Answers (.contextBudgetWrite m f val) (fun t =>
      s.Records t (halfSrc s.act) 0x90 (Blk.QUE * 256) [Reg.QUE_FNCTX.at f, val, m, 0] ∧
        s.RegsBut eventKeys t ∧ s.OnlyIn [.regs, .evt] t)) ∧
  (∀ (s : State) (m val : Nat), s.Inv → s.Answers (.splitAllWrite m val) (fun t =>
    t.rd Fd.HST_MODE_SPLIT_ALL = val % 2 ∧ s.RegsBut [keyOf Fd.HST_MODE_SPLIT_ALL] t ∧ s.OnlyIn [.regs, .out, .nv, .ts] t))

/-- READ_COMPLETION_ARRIVAL that matches no outstanding request, or not its function, count or address, is an unexpected
completion, counted and reported, and gives no data to any command (R100). One that completes the read of a submission entry
makes the entry's grant ready with the command identifier it holds. In the fenced state it changes nothing. COMPLETION_TIMEOUT
before boundary k + N changes nothing; from then on the tag is in quarantine until k + 3N, counted, and logged in the function
unless the tag is orphaned; the second failure of an entry's reads sets CFS (R98, R99). QUARANTINE_END from that boundary on
frees the tag. OUTBOUND_TRANSFER passes for the holder of the clapper with the current epoch, and is discarded and counted
otherwise (R22, R397). -/
def Obligations.ReadsOfHostMemoryEnd : Prop :=
  (∀ (s : State) (cpl : ReadCpl), s.hub.fenced = true → exec (.readCompletionArrival cpl) s = .next s) ∧
  (∀ (s : State) (cpl : ReadCpl), s.Inv → s.hub.fenced = false →
    (∀ x, s.nv.tags.find? (fun t => t.port == cpl.port && t.val == cpl.tag && t.quar.isNone) = some x →
      cpl.fn ≠ x.fn ∨ cpl.shapeOk = false ∨ x.left < cpl.nbytes) →
    s.Answers (.readCompletionArrival cpl) (fun t =>
      t.rd Fd.HST_CNT_UCPL_COUNT = min (2 ^ 32 - 1) (s.rd Fd.HST_CNT_UCPL_COUNT + 1) ∧
      s.Logs t (match s.nv.tags.find? (fun t => t.port == cpl.port && t.val == cpl.tag && t.quar.isNone) with
        | some x => x.fn | none => cpl.fn) .advisoryUcpl ∧
      t.nv.tags = s.nv.tags ∧ t.nv.ctxs = s.nv.ctxs ∧ s.RegsBut [keyOf Fd.HST_CNT_UCPL_COUNT] t ∧ s.OnlyIn [.regs, .out, .nv] t)) ∧
  (∀ (s : State) (cpl : ReadCpl) (x : TagRec) (q i : Nat) (g : Grant), s.hub.fenced = false →
    s.nv.tags.find? (fun t => t.port == cpl.port && t.val == cpl.tag && t.quar.isNone) = some x → cpl.fn = x.fn →
    cpl.shapeOk = true → x.left = cpl.nbytes → x.orphan = false → x.lost = false → cpl.poisoned = false → x.why = .entry q i →
    s.nv.grants.find? (Grant.of x.fn q i) = some g →
    s.Answers (.readCompletionArrival cpl) (fun t =>
      (∃ k ∈ t.nv.grants, k.fn = x.fn ∧ k.sq = q ∧ k.idx = i ∧ k.here = true ∧ k.cid = cpl.cid) ∧
      t.nv.ctxs.length = s.nv.ctxs.length ∧ s.OnlyIn [.out, .nv, .bf, .ts] t)) ∧
  (∀ (s : State) (p tag : Nat), (∀ x, s.nv.tags.find? (fun t => t.port == p && t.val == tag && t.quar.isNone) = some x →
    s.time.beat < x.issued + x.n) → exec (.completionTimeout p tag) s = .next s) ∧
  (∀ (s : State) (p tag : Nat) (x : TagRec), s.Inv →
    s.nv.tags.find? (fun t => t.port == p && t.val == tag && t.quar.isNone) = some x → x.issued + x.n ≤ s.time.beat →
    s.Answers (.completionTimeout p tag) (fun t =>
      (∃ y ∈ t.nv.tags, y.port = p ∧ y.val = tag ∧ y.fn = x.fn ∧ y.quar = some (x.issued + 3 * x.n)) ∧
      t.rd Fd.HST_CNT_CTO_COUNT = min (2 ^ 32 - 1) (s.rd Fd.HST_CNT_CTO_COUNT + 1) ∧
      (x.orphan = false → s.Logs t x.fn .completionTimeout) ∧ s.OnlyIn [.regs, .evt, .out, .nv, .tr, .md, .lg, .ts] t)) ∧
  (∀ (s : State) (p tag : Nat) (x : TagRec) (q i : Nat) (g : Grant), s.Inv →
    s.nv.tags.find? (fun t => t.port == p && t.val == tag && t.quar.isNone) = some x → x.issued + x.n ≤ s.time.beat →
    x.orphan = false → x.lost = false → x.why = .entry q i → s.nv.grants.find? (Grant.of x.fn q i) = some g →
    s.Answers (.completionTimeout p tag) (fun t =>
      (t.fn x.fn).cfs = ((s.fn x.fn).cfs || g.tries != 0) ∧ s.RegsBut [keyOf Fd.HST_CNT_CTO_COUNT] t ∧ s.OnlyIn [.regs, .evt, .out, .nv, .tr, .md, .lg, .ts] t)) ∧
  (∀ (s : State) (p tag b : Nat) (x : TagRec), s.nv.tags.find? (fun t => t.port == p && t.val == tag) = some x → x.quar = some b →
    b ≤ s.time.beat → s.Answers (.quarantineEnd p tag) (fun t =>
      (∀ y ∈ t.nv.tags, y.port = p → y.val = tag → y.quar = none) ∧ s.OnlyIn [.out, .nv, .bf, .ts] t)) ∧
  (∀ (s : State) (p tag : Nat), (∀ x, s.nv.tags.find? (fun t => t.port == p && t.val == tag) = some x →
    ∀ b, x.quar = some b → s.time.beat < b) → exec (.quarantineEnd p tag) s = .next s) ∧
  (∀ (s : State) (h : Half) (epoch payload : Nat), s.hub.holder = some h → epoch = s.rd Fd.CLP_EPOCH_EPOCH →
    exec (.outboundTransfer h epoch payload) s = .next s) ∧
  (∀ (s : State) (h : Half) (epoch payload : Nat), s.Inv → s.hub.holder ≠ some h ∨ epoch ≠ s.rd Fd.CLP_EPOCH_EPOCH →
    s.Answers (.outboundTransfer h epoch payload) (fun t =>
      t.rd Fd.SAF_CNT_DISCARD_COUNT = min (2 ^ 32 - 1) (s.rd Fd.SAF_CNT_DISCARD_COUNT + 1) ∧
      s.RegsBut [keyOf Fd.SAF_CNT_DISCARD_COUNT] t ∧ s.OnlyIn [.regs] t))

/-- Where the device does not serve, an activation holds it back, or no fetched entry of the queue with the identifier stands
ready, none of the commands that submission entries carry does anything: their entries stay where they are (R102, R119, R134). A
fetched command of a queue that is being deleted ends with Command Aborted due to SQ Deletion (R551), and one whose opcode is
none of R115 with Invalid Command Opcode. -/
def Obligations.UnfetchedCommandsWait : Prop :=
  (∀ (s : State) (hd : Hdr), s.takeGrant hd = none → ∀ (a b c d e : Nat) (x : Xfer) (l : List (Nat × Nat)) (fs : List Nat) (f : Bool),
    ∀ i ∈ entryCommands hd a b c d e x l fs f, exec i s = .next s) ∧
  (∀ (s : State) (hd : Hdr), s.Arrived hd → hd.sq ∈ (s.fn hd.fn).deleting → ∀ (a b c d e : Nat) (x : Xfer) (l : List (Nat × Nat))
    (fs : List Nat) (f : Bool), ∀ i ∈ entryCommands hd a b c d e x l fs f, s.Answers i (fun t => t.Ended hd 0 8 0)) ∧
  (∀ (s : State) (hd : Hdr) (o : Nat), s.Arrived hd → hd.sq ∉ (s.fn hd.fn).deleting → hd.op = some o →
    opcodeKnown (hd.sq == 0) o = false → ∀ (a b c d e : Nat) (x : Xfer) (l : List (Nat × Nat)) (fs : List Nat) (f : Bool),
    ∀ i ∈ entryCommands hd a b c d e x l fs f, s.Answers i (fun t => t.Ended hd 0 1 0))

/-- CREATE_IO_COMPLETION_QUEUE, CREATE_IO_SUBMISSION_QUEUE and DELETE_IO_COMPLETION_QUEUE, once fetched, end with success and
the queue made or gone, or with the status of the first test that fails and every queue kept: identifier outside the allocation
or in use (01h), size (02h), vector beyond the table (08h), completion queue absent (00h) or in use (0Ch), a CMB that the
function has not (12h) (R117, R118, R123, R551). DELETE_IO_SUBMISSION_QUEUE of a queue that is not there or is being deleted is
refused with 01h; otherwise the queue is being deleted, and it is gone at once, with success, where nothing of it is in hand. -/
def Obligations.QueuesAreCreatedAndDeleted : Prop :=
  (∀ (s : State) (hd : Hdr) (q qsize iv base : Nat), s.Fetched hd → s.qidOk hd.fn q = false ∨ (s.cq hd.fn q).isSome = true → s.Answers (.createIoCompletionQueue hd q qsize iv base) (fun t =>
    t.Ended hd 1 1 0 ∧ t.nv.cqs.map (fun c => (c.fn, c.qid, c.size, c.iv, c.base)) = s.nv.cqs.map (fun c => (c.fn, c.qid, c.size, c.iv, c.base)))) ∧
  (∀ (s : State) (hd : Hdr) (q qsize iv base : Nat), s.Fetched hd → s.qidOk hd.fn q = true → (s.cq hd.fn q).isSome = false → qsize = 0 ∨ 4095 < qsize → s.Answers (.createIoCompletionQueue hd q qsize iv base) (fun t =>
    t.Ended hd 1 2 0 ∧ (t.cq hd.fn q).isSome = false)) ∧
  (∀ (s : State) (hd : Hdr) (q qsize iv base : Nat), s.Fetched hd → s.qidOk hd.fn q = true → (s.cq hd.fn q).isSome = false → 0 < qsize → qsize ≤ 4095 → s.msixSize hd.fn ≤ iv → s.Answers (.createIoCompletionQueue hd q qsize iv base) (fun t =>
    t.Ended hd 1 8 0 ∧ (t.cq hd.fn q).isSome = false)) ∧
  (∀ (s : State) (hd : Hdr) (q qsize iv base : Nat), s.Fetched hd → s.qidOk hd.fn q = true → (s.cq hd.fn q).isSome = false → 0 < qsize → qsize ≤ 4095 → iv < s.msixSize hd.fn → s.Answers (.createIoCompletionQueue hd q qsize iv base) (fun t =>
    t.Ended hd 0 0 0 ∧ t.nv.cqs.map (fun c => (c.fn, c.qid, c.size, c.iv, c.base)) =
      s.nv.cqs.map (fun c => (c.fn, c.qid, c.size, c.iv, c.base)) ++ [(hd.fn, q, qsize + 1, iv, base)] ∧ t.nv.sqs = s.nv.sqs ∧
    s.OnlyIn [.regs, .out, .nv, .tr, .md, .lg] t)) ∧
  (∀ (s : State) (hd : Hdr) (q qsize cqid prio addr : Nat) (inCmb : Bool), s.Fetched hd → s.qidOk hd.fn q = false ∨ (s.sq hd.fn q).isSome = true →
    s.Answers (.createIoSubmissionQueue hd q qsize cqid prio addr inCmb) (fun t => t.Ended hd 1 1 0 ∧ t.nv.sqs = s.nv.sqs)) ∧
  (∀ (s : State) (hd : Hdr) (q qsize cqid prio addr : Nat) (inCmb : Bool), s.Fetched hd → s.qidOk hd.fn q = true → (s.sq hd.fn q).isSome = false → qsize = 0 ∨ 4095 < qsize →
    s.Answers (.createIoSubmissionQueue hd q qsize cqid prio addr inCmb) (fun t => t.Ended hd 1 2 0 ∧ t.nv.sqs = s.nv.sqs)) ∧
  (∀ (s : State) (hd : Hdr) (q qsize cqid prio addr : Nat) (inCmb : Bool), s.Fetched hd → s.qidOk hd.fn q = true → (s.sq hd.fn q).isSome = false → 0 < qsize → qsize ≤ 4095 → cqid = 0 ∨ (s.cq hd.fn cqid).isNone = true →
    s.Answers (.createIoSubmissionQueue hd q qsize cqid prio addr inCmb) (fun t => t.Ended hd 1 0 0 ∧ t.nv.sqs = s.nv.sqs)) ∧
  (∀ (s : State) (hd : Hdr) (q qsize cqid prio addr : Nat) (inCmb : Bool), s.Fetched hd → s.qidOk hd.fn q = true → (s.sq hd.fn q).isSome = false → 0 < qsize → qsize ≤ 4095 → cqid ≠ 0 → (s.cq hd.fn cqid).isSome = true → inCmb = true → s.cmbWin hd.fn = none →
    s.Answers (.createIoSubmissionQueue hd q qsize cqid prio addr inCmb) (fun t => t.Ended hd 0 0x12 0 ∧ t.nv.sqs = s.nv.sqs)) ∧
  (∀ (s : State) (hd : Hdr) (q qsize cqid prio addr : Nat) (inCmb : Bool), s.Fetched hd → s.qidOk hd.fn q = true → (s.sq hd.fn q).isSome = false → 0 < qsize → qsize ≤ 4095 → cqid ≠ 0 → (s.cq hd.fn cqid).isSome = true → inCmb = false ∨ s.cmbWin hd.fn ≠ none →
    s.Answers (.createIoSubmissionQueue hd q qsize cqid prio addr inCmb) (fun t => t.Ended hd 0 0 0 ∧
      t.nv.sqs = s.nv.sqs ++ [{ fn := hd.fn, qid := q, size := qsize + 1, cq := cqid, prio := prio % 4, base := addr, cmb := inCmb,
                                head := 0, tail := 0, skip := [] }] ∧ s.OnlyIn [.regs, .out, .nv, .tr, .md, .lg] t)) ∧
  (∀ (s : State) (hd : Hdr) (q : Nat), s.Fetched hd → q = 0 ∨ s.cq hd.fn q = none → s.Answers (.deleteIoCompletionQueue hd q) (fun t =>
    t.Ended hd 1 1 0 ∧ t.nv.sqs = s.nv.sqs)) ∧
  (∀ (s : State) (hd : Hdr) (q : Nat), s.Fetched hd → q ≠ 0 → (s.cq hd.fn q).isSome = true →
    (∃ x ∈ s.nv.sqs, x.fn = hd.fn ∧ x.cq = q ∧ x.qid ≠ 0) → s.Answers (.deleteIoCompletionQueue hd q) (fun t =>
      t.Ended hd 1 0x0C 0 ∧ (t.cq hd.fn q).isSome = true ∧ t.nv.sqs = s.nv.sqs)) ∧
  (∀ (s : State) (hd : Hdr) (q : Nat), s.Fetched hd → q ≠ 0 → (s.cq hd.fn q).isSome = true →
    (∀ x ∈ s.nv.sqs, x.fn = hd.fn → x.cq = q → x.qid = 0) → s.Answers (.deleteIoCompletionQueue hd q) (fun t =>
      t.Ended hd 0 0 0 ∧ t.cq hd.fn q = none ∧ t.nv.sqs = s.nv.sqs ∧ s.OnlyIn [.regs, .out, .nv, .tr, .md, .lg] t)) ∧
  (∀ (s : State) (hd : Hdr) (q : Nat), s.Fetched hd → q = 0 ∨ (s.sq hd.fn q).isNone = true ∨ q ∈ (s.fn hd.fn).deleting →
    s.Answers (.deleteIoSubmissionQueue hd q) (fun t => t.Ended hd 1 1 0 ∧ t.nv.sqs = s.nv.sqs)) ∧
  (∀ (s : State) (hd : Hdr) (q : Nat), s.Inv → s.Fetched hd → q ≠ 0 → (s.sq hd.fn q).isSome = true → q ∉ (s.fn hd.fn).deleting →
    s.Answers (.deleteIoSubmissionQueue hd q) (fun t =>
      (q ∈ (t.fn hd.fn).deleting ∨ t.sq hd.fn q = none) ∧ s.OnlyIn [.regs, .hub, .out, .nv, .tr, .md, .lg] t)) ∧
  (∀ (s : State) (hd : Hdr) (q : Nat), s.Inv → s.Fetched hd → q ≠ 0 → (s.sq hd.fn q).isSome = true → (s.fn hd.fn).deleting = [] →
    hd.sq ≠ q → (∀ c ∈ s.nv.ctxs, c.fn = hd.fn → c.sq ≠ q) → (∀ h ∈ s.nv.held, h.fn = hd.fn → h.sq ≠ q) →
    (∀ g ∈ s.nv.grants, g.fn = hd.fn → g.sq = q → g.here = false) →
    s.Answers (.deleteIoSubmissionQueue hd q) (fun t => t.Ended hd 0 0 0 ∧ t.sq hd.fn q = none ∧ (t.fn hd.fn).deleting = []))

/-- GET_LOG_PAGE of a page that the device has not ends with Invalid Log Page; with an offset past the page, or for page 02h a
single namespace, with Invalid Field; with a namespace that is not attached to the function, with Invalid Namespace (R123, R158,
R227). Otherwise the bytes of the page from the offset, at most NUMD + 1 dwords, leave the device and the command succeeds. With
RAE set the kept events and masks of the function stay; with RAE cleared no mask names the page any more, and page C1h is
emptied (R141, R552). IDENTIFY answers CNS 00h, 01h and 02h with the fields, and any other with Invalid Field (R114, R158); it
changes no namespace. -/
def Obligations.PagesAndIdentifyAnswer : Prop :=
  (∀ (s : State) (hd : Hdr) (nsid lid numd off : Nat) (rae : Bool), s.Inv → s.Fetched hd → pageLen lid = none →
    s.Answers (.getLogPage hd nsid lid numd off rae) (fun t => t.Ended hd 1 9 0)) ∧
  (∀ (s : State) (hd : Hdr) (nsid lid numd off len : Nat) (rae : Bool), s.Inv → s.Fetched hd → pageLen lid = some len → len ≤ off ∨ (lid = 2 ∧ nsid ≠ 0 ∧ nsid ≠ 0xFFFF_FFFF) →
    s.Answers (.getLogPage hd nsid lid numd off rae) (fun t => t.Ended hd 0 2 0)) ∧
  (∀ (s : State) (hd : Hdr) (nsid lid numd off len : Nat) (rae : Bool), s.Inv → s.Fetched hd → pageLen lid = some len → off < len → lid ≠ 2 → nsid ≠ 0 → nsid ≠ 0xFFFF_FFFF → (∀ n, s.ns nsid = some n → n.fns.contains hd.fn = false) →
    s.Answers (.getLogPage hd nsid lid numd off rae) (fun t => t.Ended hd 0 0x0B 0)) ∧
  (∀ (s : State) (hd : Hdr) (nsid lid numd off len : Nat) (rae : Bool), s.Inv → s.Fetched hd → pageLen lid = some len → off < len → nsid = 0 ∨ nsid = 0xFFFF_FFFF ∨ (lid ≠ 2 ∧ ∃ n ∈ s.ns nsid, n.fns.contains hd.fn = true) → rae = true →
    s.Answers (.getLogPage hd nsid lid numd off rae) (fun t => 
      t.Ended hd 0 0 0 ∧ Out.page hd.fn hd.cid lid (numd + 1) (((s.pageBytes hd.fn lid).1.drop off).take (4 * (numd + 1))) ∈ t.out ∧
      (t.fn hd.fn).kept = (s.fn hd.fn).kept ∧ (t.fn hd.fn).masks = (s.fn hd.fn).masks ∧ (t.fn hd.fn).c1h = (s.fn hd.fn).c1h ∧
      s.OnlyIn [.regs, .freeCtr, .out, .nv, .tr, .md, .lg] t)) ∧
  (∀ (s : State) (hd : Hdr) (nsid lid numd off len : Nat) (rae : Bool), s.Inv → s.Fetched hd → pageLen lid = some len → off < len → nsid = 0 ∨ nsid = 0xFFFF_FFFF ∨ (lid ≠ 2 ∧ ∃ n ∈ s.ns nsid, n.fns.contains hd.fn = true) → rae = false →
    s.Answers (.getLogPage hd nsid lid numd off rae) (fun t => 
      t.Ended hd 0 0 0 ∧ Out.page hd.fn hd.cid lid (numd + 1) (((s.pageBytes hd.fn lid).1.drop off).take (4 * (numd + 1))) ∈ t.out ∧
      (∀ e ∈ (t.fn hd.fn).masks, e.page ≠ lid) ∧ (lid = 0xC1 → (t.fn hd.fn).c1h.entries = []) ∧ s.OnlyIn [.regs, .freeCtr, .out, .nv, .tr, .md, .lg] t)) ∧
  (∀ (s : State) (hd : Hdr) (cns nsid : Nat), s.Fetched hd → 3 ≤ cns → s.Answers (.identify hd cns nsid) (fun t =>
    t.Ended hd 0 2 0 ∧ t.tr.ns = s.tr.ns)) ∧
  (∀ (s : State) (hd : Hdr) (cns nsid : Nat) (fields : List Nat), s.Fetched hd → s.identifyFields hd.fn cns nsid = some fields →
    s.Answers (.identify hd cns nsid) (fun t =>
      t.Ended hd 0 0 0 ∧ Out.fields hd.fn hd.cid fields ∈ t.out ∧ t.tr.ns = s.tr.ns ∧ s.OnlyIn [.regs, .out, .nv, .tr, .md, .lg] t))

/-- ABORT beyond the eighth in hand ends with Abort Command Limit Exceeded (R128). Otherwise an abortable command, or one
fetched that has not begun, is ended with Command Abort Requested and the Abort with dword 0 bit 0 clear, counted in ABORTED;
for a command that is not there or past its last abortable point the Abort ends with bit 0 set, counted in NOTABORTED (R127).
ASYNCHRONOUS_EVENT_REQUEST beyond the eighth outstanding ends with its limit status; otherwise it waits, or takes an event that
is kept (R552). -/
def Obligations.AbortsAndEventsEnd : Prop :=
  (∀ (s : State) (hd : Hdr) (sq acid : Nat), s.Inv → s.Fetched hd → 8 ≤ (s.nv.ctxs.filter (fun c => c.fn == hd.fn && c.cmd == .abort)).length →
    s.Answers (.abort hd sq acid) (fun t => t.Ended hd 1 3 0 ∧ s.OnlyIn [.regs, .out, .nv, .tr, .md, .lg] t)) ∧
  (∀ (s : State) (hd : Hdr) (sq acid : Nat) (c : Ctx), s.Inv → s.Fetched hd → (s.nv.ctxs.filter (fun c => c.fn == hd.fn && c.cmd == .abort)).length < 8 →
    s.nv.ctxs.find? (fun c => c.fn == hd.fn && c.sq == sq && c.cid == acid && c.status.isNone) = some c → s.ctx c.id = some c → c.abortable = true →
    s.Answers (.abort hd sq acid) (fun t => 
      t.Ended hd 0 0 0 ∧ t.Ended ⟨hd.fn, c.sq, c.cid, none⟩ 0 7 0 ∧ t.rd Fd.QUE_CNT_ABORT_ABORTED = min (2 ^ 16 - 1) (s.rd Fd.QUE_CNT_ABORT_ABORTED + 1) ∧
      t.rd Fd.QUE_CNT_ABORT_NOTABORTED = s.rd Fd.QUE_CNT_ABORT_NOTABORTED ∧ s.RegsBut (keyOf Fd.QUE_CNT_ABORT_ABORTED :: missKeys) t ∧ s.OnlyIn [.regs, .out, .nv, .tr, .md, .lg] t)) ∧
  (∀ (s : State) (hd : Hdr) (sq acid : Nat) (c : Ctx), s.Inv → s.Fetched hd → (s.nv.ctxs.filter (fun c => c.fn == hd.fn && c.cmd == .abort)).length < 8 →
    s.nv.ctxs.find? (fun c => c.fn == hd.fn && c.sq == sq && c.cid == acid && c.status.isNone) = some c → c.abortable = false →
    s.Answers (.abort hd sq acid) (fun t => 
      t.Ended hd 0 0 1 ∧ t.rd Fd.QUE_CNT_ABORT_NOTABORTED = min (2 ^ 16 - 1) (s.rd Fd.QUE_CNT_ABORT_NOTABORTED + 1) ∧
      t.rd Fd.QUE_CNT_ABORT_ABORTED = s.rd Fd.QUE_CNT_ABORT_ABORTED ∧ s.RegsBut (keyOf Fd.QUE_CNT_ABORT_ABORTED :: missKeys) t ∧ s.OnlyIn [.regs, .out, .nv, .tr, .md, .lg] t)) ∧
  (∀ (s : State) (hd : Hdr) (sq acid : Nat) (g : Grant), s.Inv → s.Fetched hd → (s.nv.ctxs.filter (fun c => c.fn == hd.fn && c.cmd == .abort)).length < 8 →
    s.nv.ctxs.find? (fun c => c.fn == hd.fn && c.sq == sq && c.cid == acid && c.status.isNone) = none →
    s.nv.grants.find? (fun g => g.fn == hd.fn && g.sq == sq && g.cid == acid && g.here && (g.sq != hd.sq || g.cid != hd.cid)) = some g →
    s.Answers (.abort hd sq acid) (fun t => 
      t.Ended hd 0 0 0 ∧ t.Ended ⟨hd.fn, g.sq, g.cid, none⟩ 0 7 0 ∧ t.rd Fd.QUE_CNT_ABORT_ABORTED = min (2 ^ 16 - 1) (s.rd Fd.QUE_CNT_ABORT_ABORTED + 1) ∧
      t.rd Fd.QUE_CNT_ABORT_NOTABORTED = s.rd Fd.QUE_CNT_ABORT_NOTABORTED ∧ s.RegsBut (keyOf Fd.QUE_CNT_ABORT_ABORTED :: missKeys) t ∧ s.OnlyIn [.regs, .out, .nv, .tr, .md, .lg] t)) ∧
  (∀ (s : State) (hd : Hdr) (sq acid : Nat), s.Inv → s.Fetched hd → (s.nv.ctxs.filter (fun c => c.fn == hd.fn && c.cmd == .abort)).length < 8 →
    s.nv.ctxs.find? (fun c => c.fn == hd.fn && c.sq == sq && c.cid == acid && c.status.isNone) = none →
    (∀ g ∈ s.nv.grants, g.fn = hd.fn → g.sq = sq → g.cid ≠ acid ∨ g.here = false) →
    s.Answers (.abort hd sq acid) (fun t => 
      t.Ended hd 0 0 1 ∧ t.rd Fd.QUE_CNT_ABORT_NOTABORTED = min (2 ^ 16 - 1) (s.rd Fd.QUE_CNT_ABORT_NOTABORTED + 1) ∧
      t.rd Fd.QUE_CNT_ABORT_ABORTED = s.rd Fd.QUE_CNT_ABORT_ABORTED ∧ s.RegsBut (keyOf Fd.QUE_CNT_ABORT_ABORTED :: missKeys) t ∧ s.OnlyIn [.regs, .out, .nv, .tr, .md, .lg] t)) ∧
  (∀ (s : State) (hd : Hdr), s.Fetched hd → 8 ≤ (s.nv.ctxs.filter (fun c => c.fn == hd.fn && c.cmd == .aer && c.status.isNone)).length →
    s.Answers (.asynchronousEventRequest hd) (fun t => t.Ended hd 1 5 0)) ∧
  (∀ (s : State) (hd : Hdr), s.Fetched hd → (s.nv.ctxs.filter (fun c => c.fn == hd.fn && c.cmd == .aer && c.status.isNone)).length < 8 →
    (s.fn hd.fn).kept = [] → s.Answers (.asynchronousEventRequest hd) (fun t =>
      t.Runs s.nv.nextCtx hd .aer ∧ t.out = s.out ∧ s.OnlyIn [.regs, .out, .nv, .tr, .md, .lg] t))

/-- SET_FEATURES keeps features 01h, 08h, 09h and 0Bh for the function and ends with success; Number of Queues answers the
function's allocation whatever is asked, and without one ends with Invalid Field (R117); Power Management is refused to every
function but 0 with Feature Not Changeable, with Invalid Field above state 3, and otherwise begins the entry into the state
(R136, R137); a temperature threshold of a sensor above 8 is refused, any other is kept (R309); every other identifier is
refused. GET_FEATURES answers the value kept, the power state, the composite threshold and the allocation, and changes no
feature. -/
def Obligations.FeaturesAreSetAndRead : Prop :=
  (∀ (s : State) (hd : Hdr) (fid val : Nat), s.Inv → s.Fetched hd → fid = 1 ∨ fid = 8 ∨ fid = 11 → s.Answers (.setFeatures hd fid val) (fun t =>
    t.Ended hd 0 0 0 ∧ (t.fn hd.fn).feats = spSet (fun _ => 0) (s.fn hd.fn).feats fid val ∧ (∀ k, k ≠ fid → t.feat hd.fn k = s.feat hd.fn k) ∧
    s.OnlyIn [.regs, .out, .nv, .tr, .md, .lg] t)) ∧
  (∀ (s : State) (hd : Hdr) (fid val : Nat), s.Inv → s.Fetched hd → fid = 9 → s.Answers (.setFeatures hd fid val) (fun t =>
    t.Ended hd 0 0 0 ∧ t.feat hd.fn (0x1_0000 + val % 65536) = val ∧ (∀ k, k ≠ 0x1_0000 + val % 65536 → t.feat hd.fn k = s.feat hd.fn k))) ∧
  (∀ (s : State) (hd : Hdr) (fid val v : Nat), s.Inv → s.Fetched hd → fid = 7 → s.numQueues hd.fn = some v → s.Answers (.setFeatures hd fid val) (fun t =>
    t.Ended hd 0 0 v ∧ ∀ f k, t.feat f k = s.feat f k)) ∧
  (∀ (s : State) (hd : Hdr) (fid val : Nat), s.Inv → s.Fetched hd → fid = 7 → s.numQueues hd.fn = none → s.Answers (.setFeatures hd fid val) (fun t =>
    t.Ended hd 0 2 0 ∧ ∀ f k, t.feat f k = s.feat f k)) ∧
  (∀ (s : State) (hd : Hdr) (fid val : Nat), s.Inv → s.Fetched hd → fid = 2 → hd.fn ≠ 0 → s.Answers (.setFeatures hd fid val) (fun t =>
    t.Ended hd 1 0x0E 0 ∧ t.rd Fd.QUE_PWR_ENTRY = s.rd Fd.QUE_PWR_ENTRY ∧ ∀ f k, t.feat f k = s.feat f k)) ∧
  (∀ (s : State) (hd : Hdr) (fid val : Nat), s.Inv → s.Fetched hd → fid = 2 → hd.fn = 0 → 3 < val % 32 → s.Answers (.setFeatures hd fid val) (fun t =>
    t.Ended hd 0 2 0 ∧ t.rd Fd.QUE_PWR_ENTRY = s.rd Fd.QUE_PWR_ENTRY ∧ ∀ f k, t.feat f k = s.feat f k)) ∧
  (∀ (s : State) (hd : Hdr) (fid val : Nat), s.Inv → s.Fetched hd → fid = 2 → hd.fn = 0 → val % 32 ≤ 3 → s.Answers (.setFeatures hd fid val) (fun t =>
    t.Ended hd 0 0 0 ∧ t.rd Fd.QUE_PWR_TARGET = val % 32 ∧ t.rd Fd.QUE_PWR_ENTRY = 1 ∧
      t.rd Fd.QUE_PWR_PS = s.rd Fd.QUE_PWR_PS ∧ t.nv.psAt = some (s.barAfter (if val % 32 = 3 then 2 else 1)) ∧
      s.RegsBut (keyOf Fd.QUE_PWR_PS :: missKeys) t ∧ s.OnlyIn [.regs, .out, .nv, .tr, .md, .lg] t)) ∧
  (∀ (s : State) (hd : Hdr) (fid val : Nat), s.Inv → s.Fetched hd → fid = 4 → 8 < val / 2 ^ 16 % 16 ∨ 1 < val / 2 ^ 20 % 4 → s.Answers (.setFeatures hd fid val) (fun t =>
    t.Ended hd 0 2 0 ∧ ∀ f k, t.feat f k = s.feat f k)) ∧
  (∀ (s : State) (hd : Hdr) (fid val : Nat), s.Inv → s.Fetched hd → fid = 4 → val / 2 ^ 16 % 16 ≤ 8 → val / 2 ^ 20 % 4 ≤ 1 → s.Answers (.setFeatures hd fid val) (fun t =>
    t.Ended hd 0 0 0 ∧ t.tempThr (val / 2 ^ 20 % 4) (val / 2 ^ 16 % 16) = val % 65536 ∧
    (∀ h k, h < 2 → k < 16 → 16 * h + k ≠ 16 * (val / 2 ^ 20 % 4) + val / 2 ^ 16 % 16 → t.tempThr h k = s.tempThr h k))) ∧
  (∀ (s : State) (hd : Hdr) (fid val : Nat), s.Inv → s.Fetched hd → fid ∉ [1, 2, 4, 7, 8, 9, 11] → s.Answers (.setFeatures hd fid val) (fun t =>
    t.Ended hd 0 2 0 ∧ ∀ f k, t.feat f k = s.feat f k ∧ s.RegsBut missKeys t)) ∧
  (∀ (s : State) (hd : Hdr) (fid : Nat), s.Inv → s.Fetched hd → fid = 1 ∨ fid = 8 ∨ fid = 11 → s.Answers (.getFeatures hd fid) (fun t =>
    t.Ended hd 0 0 (s.feat hd.fn fid) ∧ ∀ f k, t.feat f k = s.feat f k ∧ s.OnlyIn [.regs, .out, .nv, .tr, .md, .lg] t)) ∧
  (∀ (s : State) (hd : Hdr) (fid : Nat), s.Inv → s.Fetched hd → fid = 9 → s.Answers (.getFeatures hd fid) (fun t =>
    t.Ended hd 0 0 (s.feat hd.fn 0x1_0000) ∧ ∀ f k, t.feat f k = s.feat f k)) ∧
  (∀ (s : State) (hd : Hdr) (fid : Nat), s.Inv → s.Fetched hd → fid = 2 → s.Answers (.getFeatures hd fid) (fun t =>
    t.Ended hd 0 0 (s.rd Fd.QUE_PWR_PS) ∧ ∀ f k, t.feat f k = s.feat f k)) ∧
  (∀ (s : State) (hd : Hdr) (fid : Nat), s.Inv → s.Fetched hd → fid = 4 → s.Answers (.getFeatures hd fid) (fun t =>
    t.Ended hd 0 0 (s.tempThr 0 0) ∧ ∀ f k, t.feat f k = s.feat f k)) ∧
  (∀ (s : State) (hd : Hdr) (fid v : Nat), s.Inv → s.Fetched hd → fid = 7 → s.numQueues hd.fn = some v → s.Answers (.getFeatures hd fid) (fun t =>
    t.Ended hd 0 0 v ∧ ∀ f k, t.feat f k = s.feat f k)) ∧
  (∀ (s : State) (hd : Hdr) (fid : Nat), s.Inv → s.Fetched hd → fid = 7 → s.numQueues hd.fn = none → s.Answers (.getFeatures hd fid) (fun t =>
    t.Ended hd 0 2 0 ∧ ∀ f k, t.feat f k = s.feat f k)) ∧
  (∀ (s : State) (hd : Hdr) (fid : Nat), s.Inv → s.Fetched hd → fid ∉ [1, 2, 4, 7, 8, 9, 11] → s.Answers (.getFeatures hd fid) (fun t =>
    t.Ended hd 0 2 0 ∧ ∀ f k, t.feat f k = s.feat f k))

/-- NAMESPACE_MANAGEMENT, NAMESPACE_ATTACHMENT and FORMAT_NVM of a function that is no PF are refused with Invalid Command
Opcode and change no namespace (R158). A creation that finds its granules, an identifier and the random generator makes one
namespace with its size, format and a new key, and answers its identifier once the key table holds the key (R163, R488, R489);
one that does not keeps every namespace. A deletion leaves no namespace with the identifier and none of its versions (R491). An
attachment of functions, all of them there and none attached, adds them all, and a detachment of functions, all attached,
removes them; otherwise the attachments are kept. A format with a bad format or setting, or during a sanitize, is refused; one
without a secure erase keeps every key, one with it gives a new key (R491, R493). -/
def Obligations.NamespacesAreManaged : Prop :=
  (∀ (s : State) (hd : Hdr) (a b c d e : Nat) (f : Bool) (fs : List Nat), s.Fetched hd → s.isPfNow hd.fn = false →
    ∀ i ∈ [Instr.namespaceManagement hd a b c d e f, .namespaceAttachment hd a b fs, .formatNvm hd a b c d f], s.Answers i (fun t =>
      t.Ended hd 0 1 0 ∧ t.tr.ns = s.tr.ns)) ∧
  (∀ (s : State) (hd : Hdr) (nsid lf sz pit : Nat) (ex : Bool), s.Fetched hd → s.isPfNow hd.fn = true → (List.range' 1 1024).find? (fun i => (s.ns i).isNone) = none →
    s.Answers (.namespaceManagement hd 0 nsid lf sz pit ex) (fun t => t.Ended hd 1 0x16 0 ∧ t.tr.ns = s.tr.ns)) ∧
  (∀ (s : State) (hd : Hdr) (nsid lf sz pit : Nat) (ex : Bool), s.Fetched hd → s.isPfNow hd.fn = true → ((List.range' 1 1024).find? (fun i => (s.ns i).isNone)).isSome = true → formatOk lf pit = false →
    s.Answers (.namespaceManagement hd 0 nsid lf sz pit ex) (fun t => t.Ended hd 1 0x0A 0 ∧ t.tr.ns = s.tr.ns)) ∧
  (∀ (s : State) (hd : Hdr) (nsid lf sz pit : Nat) (ex : Bool), s.Fetched hd → s.isPfNow hd.fn = true → ((List.range' 1 1024).find? (fun i => (s.ns i).isNone)).isSome = true → formatOk lf pit = true → sz = 0 →
    s.Answers (.namespaceManagement hd 0 nsid lf sz pit ex) (fun t => t.Ended hd 0 2 0 ∧ t.tr.ns = s.tr.ns)) ∧
  (∀ (s : State) (hd : Hdr) (nsid lf sz pit : Nat) (ex : Bool), s.Fetched hd → s.isPfNow hd.fn = true → ((List.range' 1 1024).find? (fun i => (s.ns i).isNone)).isSome = true → formatOk lf pit = true → sz ≠ 0 →
    (s.freeGranules (granulesFor lf sz)).length < granulesFor lf sz →
    s.Answers (.namespaceManagement hd 0 nsid lf sz pit ex) (fun t => t.Ended hd 1 0x15 0 ∧ t.tr.ns = s.tr.ns)) ∧
  (∀ (s : State) (hd : Hdr) (nsid lf sz pit : Nat) (ex : Bool), s.Fetched hd → s.isPfNow hd.fn = true → ((List.range' 1 1024).find? (fun i => (s.ns i).isNone)).isSome = true → formatOk lf pit = true → sz ≠ 0 →
    granulesFor lf sz ≤ (s.freeGranules (granulesFor lf sz)).length → s.rngOk = false →
    s.Answers (.namespaceManagement hd 0 nsid lf sz pit ex) (fun t => t.Ended hd 0 6 0 ∧ t.tr.ns = s.tr.ns)) ∧
  (∀ (s : State) (hd : Hdr) (nsid lf sz pit : Nat) (ex : Bool) (newId : Nat), s.Fetched hd → s.isPfNow hd.fn = true → (List.range' 1 1024).find? (fun i => (s.ns i).isNone) = some newId → formatOk lf pit = true → sz ≠ 0 →
    granulesFor lf sz ≤ (s.freeGranules (granulesFor lf sz)).length → s.rngOk = true → s.nv.sanitize = none →
    s.Answers (.namespaceManagement hd 0 nsid lf sz pit ex) (fun t => 
      (t.Ended hd 0 0 newId ∨ t.Runs s.nv.nextCtx hd (.nsChange newId)) ∧ t.tr.nextKey = s.tr.nextKey + 1 ∧
      t.tr.ns = s.tr.ns ++ [{ id := newId, lbaf := lf, pi := pit, ext := ex, lbas := sz, granules := s.freeGranules (granulesFor lf sz),
                              fns := [], key := some s.tr.nextKey }] ∧ s.OnlyIn [.regs, .evt, .hub, .out, .nv, .tr, .md, .lg, .rg, .dr, .ts] t)) ∧
  (∀ (s : State) (hd : Hdr) (nsid lbaf lbas pi : Nat) (ext : Bool) (n : Ns), s.Fetched hd → s.isPfNow hd.fn = true → nsid ≠ 0xFFFF_FFFF →
    s.ns nsid = some n → s.Answers (.namespaceManagement hd 1 nsid lbaf lbas pi ext) (fun t =>
      (t.Ended hd 0 0 0 ∨ t.Runs s.nv.nextCtx hd (.nsChange 0)) ∧ t.ns nsid = none ∧ (∀ v ∈ t.tr.vers, v.nsid ≠ nsid) ∧
      s.OnlyIn [.regs, .evt, .hub, .out, .nv, .tr, .md, .lg, .rg, .dr, .ts] t)) ∧
  (∀ (s : State) (hd : Hdr) (nsid lbaf lbas pi : Nat) (ext : Bool), s.Fetched hd → s.isPfNow hd.fn = true → nsid ≠ 0xFFFF_FFFF →
    s.ns nsid = none → s.Answers (.namespaceManagement hd 1 nsid lbaf lbas pi ext) (fun t => t.Ended hd 0 0x0B 0 ∧ t.tr.ns = s.tr.ns)) ∧
  (∀ (s : State) (hd : Hdr) (nsid : Nat) (l : List Nat) (n : Ns), s.Fetched hd → s.isPfNow hd.fn = true → s.ns nsid = some n → l ≠ [] →
    (∀ f ∈ l, s.fnUp f = true) → (∀ f ∈ l, f ∉ n.fns) → s.Answers (.namespaceAttachment hd 0 nsid l) (fun t => t.Ended hd 0 0 0 ∧
      t.ns nsid = some { n with fns := n.fns ++ l } ∧ s.OnlyIn [.regs, .out, .nv, .tr, .md, .lg] t)) ∧
  (∀ (s : State) (hd : Hdr) (nsid : Nat) (l : List Nat) (n : Ns), s.Fetched hd → s.isPfNow hd.fn = true → s.ns nsid = some n → l ≠ [] →
    (∃ f ∈ l, s.fnUp f = false) → s.Answers (.namespaceAttachment hd 0 nsid l) (fun t => t.Ended hd 1 0x1C 0 ∧ t.tr.ns = s.tr.ns)) ∧
  (∀ (s : State) (hd : Hdr) (nsid : Nat) (l : List Nat) (n : Ns), s.Fetched hd → s.isPfNow hd.fn = true → s.ns nsid = some n → l ≠ [] →
    (∀ f ∈ l, s.fnUp f = true) → (∃ f ∈ l, f ∈ n.fns) → s.Answers (.namespaceAttachment hd 0 nsid l) (fun t => t.Ended hd 1 0x18 0 ∧ t.tr.ns = s.tr.ns)) ∧
  (∀ (s : State) (hd : Hdr) (nsid : Nat) (l : List Nat) (n : Ns), s.Fetched hd → s.isPfNow hd.fn = true → s.ns nsid = some n → l ≠ [] →
    (∀ f ∈ l, s.fnUp f = true) → (∀ f ∈ l, f ∈ n.fns) → s.Answers (.namespaceAttachment hd 1 nsid l) (fun t => t.Ended hd 0 0 0 ∧
      t.ns nsid = some { n with fns := n.fns.filter (fun f => !l.contains f) } ∧ s.OnlyIn [.regs, .out, .nv, .tr, .md, .lg] t)) ∧
  (∀ (s : State) (hd : Hdr) (nsid : Nat) (l : List Nat) (n : Ns), s.Fetched hd → s.isPfNow hd.fn = true → s.ns nsid = some n → l ≠ [] →
    (∀ f ∈ l, s.fnUp f = true) → (∃ f ∈ l, f ∉ n.fns) → s.Answers (.namespaceAttachment hd 1 nsid l) (fun t => t.Ended hd 1 0x1A 0 ∧ t.tr.ns = s.tr.ns)) ∧
  (∀ (s : State) (hd : Hdr) (nsid lbaf ses pi : Nat) (ext : Bool) (n : Ns), s.Fetched hd → s.isPfNow hd.fn = true → nsid ≠ 0xFFFF_FFFF →
    s.ns nsid = some n → n.fns.contains hd.fn = true → formatOk lbaf pi = false → s.Answers (.formatNvm hd nsid lbaf ses pi ext) (fun t =>
      t.Ended hd 1 0x0A 0 ∧ t.tr.ns = s.tr.ns)) ∧
  (∀ (s : State) (hd : Hdr) (nsid lbaf ses pi : Nat) (ext : Bool) (n : Ns), s.Fetched hd → s.isPfNow hd.fn = true → nsid ≠ 0xFFFF_FFFF →
    s.ns nsid = some n → n.fns.contains hd.fn = true → formatOk lbaf pi = true → 2 < ses → s.Answers (.formatNvm hd nsid lbaf ses pi ext) (fun t =>
      t.Ended hd 0 2 0 ∧ t.tr.ns = s.tr.ns)) ∧
  (∀ (s : State) (hd : Hdr) (nsid lbaf ses pi : Nat) (ext : Bool) (n : Ns), s.Fetched hd → s.isPfNow hd.fn = true → nsid ≠ 0xFFFF_FFFF →
    s.ns nsid = some n → n.fns.contains hd.fn = true → formatOk lbaf pi = true → ses ≤ 2 → s.nv.sanitize.isSome = true → s.Answers (.formatNvm hd nsid lbaf ses pi ext) (fun t =>
      t.Ended hd 0 0x1D 0 ∧ t.tr.ns = s.tr.ns)) ∧
  (∀ (s : State) (hd : Hdr) (nsid lbaf ses pi : Nat) (ext : Bool) (n : Ns), s.Fetched hd → s.isPfNow hd.fn = true → nsid ≠ 0xFFFF_FFFF →
    s.ns nsid = some n → n.fns.contains hd.fn = true → formatOk lbaf pi = true → ses = 1 ∨ ses = 2 → s.nv.sanitize = none → s.rngOk = false → s.Answers (.formatNvm hd nsid lbaf ses pi ext) (fun t =>
      t.Ended hd 0 6 0 ∧ t.tr.ns = s.tr.ns)) ∧
  (∀ (s : State) (hd : Hdr) (nsid lbaf ses pi : Nat) (ext : Bool) (n : Ns), s.Fetched hd → s.isPfNow hd.fn = true → nsid ≠ 0xFFFF_FFFF →
    s.ns nsid = some n → n.fns.contains hd.fn = true → formatOk lbaf pi = true → ses = 0 → s.nv.sanitize = none → s.Answers (.formatNvm hd nsid lbaf ses pi ext) (fun t =>
      (t.Ended hd 0 0 0 ∨ t.Runs s.nv.nextCtx hd (.nsChange 0)) ∧ (∀ v ∈ t.tr.vers, v.nsid ≠ nsid) ∧
      (t.ns nsid).map (fun x => (x.lbaf, x.pi, x.ext)) = some (lbaf, pi, ext) ∧
      t.tr.ns.map (fun x => (x.id, x.key, x.granules, x.fns)) = s.tr.ns.map (fun x => (x.id, x.key, x.granules, x.fns)) ∧
      s.OnlyIn [.regs, .evt, .hub, .out, .nv, .tr, .md, .lg, .rg, .dr, .ts] t)) ∧
  (∀ (s : State) (hd : Hdr) (nsid lbaf ses pi : Nat) (ext : Bool) (n : Ns), s.Fetched hd → s.isPfNow hd.fn = true → nsid ≠ 0xFFFF_FFFF →
    s.ns nsid = some n → n.fns.contains hd.fn = true → formatOk lbaf pi = true → ses = 1 ∨ ses = 2 → s.nv.sanitize = none → s.rngOk = true → s.Answers (.formatNvm hd nsid lbaf ses pi ext) (fun t =>
      (t.Ended hd 0 0 0 ∨ t.Runs s.nv.nextCtx hd (.nsChange 0)) ∧ (∀ v ∈ t.tr.vers, v.nsid ≠ nsid) ∧
      (t.ns nsid).map (fun x => (x.lbaf, x.pi, x.ext, x.key)) = some (lbaf, pi, ext, some s.tr.nextKey) ∧ s.OnlyIn [.regs, .evt, .hub, .out, .nv, .tr, .md, .lg, .rg, .dr, .ts] t))

/-- SANITIZE by a function that is no PF, or with an action other than Exit Failure Mode, Block Erase and Crypto Erase, or while
one is in progress, is refused; without the random generator it fails, with STATE 3 (R492, R493). One that begins stays in hand,
with the change of the key table that marks it pending; once step 4 is reached the key generation is counted, and once step 5
is, the CMB and the staged data are gone. SANITIZE_END ends it once every step is done, with STATE completed, and otherwise
takes it as far as it goes; with none in progress it changes nothing. POWER_STATE_ENTRY_END at the boundary of the entry or
later puts the device into the target state (R137), earlier it does nothing. PS3_EXIT in an exit brings the earlier state back,
and otherwise does nothing. -/
def Obligations.SanitizeAndPowerStatesEnd : Prop :=
  (∀ (s : State) (hd : Hdr) (sanact : Nat), s.Inv → s.Fetched hd → s.isPfNow hd.fn = false → s.Answers (.sanitize hd sanact) (fun t =>
    t.Ended hd 0 1 0 ∧ t.rd Fd.SEC_SANITIZE_STATE = s.rd Fd.SEC_SANITIZE_STATE)) ∧
  (∀ (s : State) (hd : Hdr) (sanact : Nat), s.Inv → s.Fetched hd → s.isPfNow hd.fn = true → sanact ∉ [1, 2, 4] → s.Answers (.sanitize hd sanact) (fun t =>
    t.Ended hd 0 2 0 ∧ t.rd Fd.SEC_SANITIZE_STATE = s.rd Fd.SEC_SANITIZE_STATE)) ∧
  (∀ (s : State) (hd : Hdr) (sanact : Nat), s.Inv → s.Fetched hd → s.isPfNow hd.fn = true → sanact = 1 → s.Answers (.sanitize hd sanact) (fun t =>
    t.Ended hd 0 0 0 ∧ t.rd Fd.SEC_SANITIZE_STATE = 0)) ∧
  (∀ (s : State) (hd : Hdr) (sanact : Nat), s.Inv → s.Fetched hd → s.isPfNow hd.fn = true → sanact = 2 ∨ sanact = 4 → s.nv.sanitize.isSome = true → s.Answers (.sanitize hd sanact) (fun t =>
    t.Ended hd 0 0x1D 0 ∧ t.rd Fd.SEC_SANITIZE_STATE = s.rd Fd.SEC_SANITIZE_STATE)) ∧
  (∀ (s : State) (hd : Hdr) (sanact : Nat), s.Inv → s.Fetched hd → s.isPfNow hd.fn = true → sanact = 2 ∨ sanact = 4 → s.nv.sanitize = none → s.rngOk = false → s.Answers (.sanitize hd sanact) (fun t =>
    t.Ended hd 0 6 0 ∧ t.rd Fd.SEC_SANITIZE_STATE = 3 ∧ t.rd Fd.SEC_SANITIZE_ACTION = sanact)) ∧
  (∀ (s : State) (hd : Hdr) (sanact : Nat), s.Inv → s.Fetched hd → s.isPfNow hd.fn = true → sanact = 2 ∨ sanact = 4 → s.nv.sanitize = none → s.rngOk = true → s.Answers (.sanitize hd sanact) (fun t =>
    t.nv.sanitize = some s.nv.nextCtx ∧ t.Runs s.nv.nextCtx hd .sanitize ∧ t.rd Fd.SEC_SANITIZE_STATE = 1 ∧
      t.rd Fd.SEC_SANITIZE_ACTION = sanact ∧
      (t.rd Fd.SEC_SANITIZE_STEP < 5 → ∃ j ∈ t.md.keyJobs, j.ctx = s.nv.nextCtx) ∧
      (4 ≤ t.rd Fd.SEC_SANITIZE_STEP → t.rd Fd.SEC_FUSE_KEKGEN = min 127 (s.rd Fd.SEC_FUSE_KEKGEN + 1)) ∧
      (5 ≤ t.rd Fd.SEC_SANITIZE_STEP → t.dr.cmb = [] ∧ t.tr.staged = []) ∧ s.OnlyIn [.regs, .evt, .hub, .out, .nv, .tr, .md, .lg, .rg, .dr, .ts] t)) ∧
  (∀ (s : State) (id : Nat), s.Inv → s.nv.sanitize = some id → s.pumpSanitize.sanitized = true → s.Answers .sanitizeEnd (fun t =>
    t.nv.sanitize = none ∧ t.rd Fd.SEC_SANITIZE_STATE = 2 ∧ t.rd Fd.SEC_SANITIZE_STEP = 0 ∧ t.rd Fd.SEC_SANITIZE_PROGRESS = 255 ∧
    (∀ c, s.ctx id = some c → c.status = none → t.Ended ⟨c.fn, c.sq, c.cid, none⟩ 0 0 0) ∧ s.OnlyIn [.regs, .out, .nv, .tr, .md, .lg] t)) ∧
  (∀ (s : State) (id : Nat), s.Inv → s.nv.sanitize = some id → s.pumpSanitize.sanitized = false → s.Answers .sanitizeEnd (fun t =>
    t.nv.sanitize = some id ∧ t.rd Fd.SEC_SANITIZE_STATE = s.rd Fd.SEC_SANITIZE_STATE ∧ t.out = s.out ∧ s.OnlyIn [.regs, .out, .nv, .tr, .md, .lg] t)) ∧
  (∀ s : State, s.nv.sanitize = none → exec .sanitizeEnd s = .next s) ∧
  (∀ (s : State) (b : Nat), s.Inv → s.nv.psAt = some b → b ≤ s.time.beat → s.Answers .powerStateEntryEnd (fun t =>
    t.rd Fd.QUE_PWR_PS = s.rd Fd.QUE_PWR_TARGET ∧ t.rd Fd.QUE_PWR_ENTRY = 0 ∧ t.nv.psAt = none ∧
    s.RegsBut (keyOf Fd.QUE_PWR_PS :: missKeys) t ∧ s.OnlyIn [.regs, .out, .nv, .tr] t)) ∧
  (∀ s : State, (∀ b, s.nv.psAt = some b → s.time.beat < b) → exec .powerStateEntryEnd s = .next s) ∧
  (∀ s : State, s.Inv → s.rd Fd.QUE_PWR_EXIT = 1 → s.Answers .ps3Exit (fun t =>
    t.rd Fd.QUE_PWR_PS = s.nv.psPrev % 4 ∧ t.rd Fd.QUE_PWR_EXIT = 0 ∧ t.nv.exitAt = none ∧
    s.RegsBut (keyOf Fd.QUE_PWR_PS :: missKeys) t ∧ s.OnlyIn [.regs, .out, .nv, .tr] t)) ∧
  (∀ s : State, s.rd Fd.QUE_PWR_EXIT ≠ 1 → exec .ps3Exit s = .next s)

/-- WRITE, READ, COMPARE, VERIFY, WRITE ZEROES and DATASET MANAGEMENT, once fetched: a namespace that is not there or not
attached ends them with Invalid Namespace; a range past the namespace with LBA Out of Range; a DMA descriptor that exceeds its
buffer with Internal Error, counted; in the write-sealed state a Write, Compare and Write Zeroes with Capacity Exceeded (R123,
R126, R158, R225). A command that passes the tests begins: a Write waits for its data, and the others are in progress or have
ended (R28, R125, R176). -/
def Obligations.IoCommandsBeginOrAreRefused : Prop :=
  (∀ (s : State) (hd : Hdr) (nsid slba nlb : Nat) (x : Xfer), s.Inv → s.Fetched hd → nsid ≠ 0xFFFF_FFFF →
    (s.fn hd.fn).c1h.pending.contains nsid = false → (∀ n, s.ns nsid = some n → n.fns.contains hd.fn = false) →
    s.Answers (.writeCommand hd nsid slba nlb x) (fun t => t.Ended hd 0 0x0B 0) ∧
    s.Answers (.readCommand hd nsid slba nlb x) (fun t => t.Ended hd 0 0x0B 0) ∧
    s.Answers (.compareCommand hd nsid slba nlb x) (fun t => t.Ended hd 0 0x0B 0) ∧
    s.Answers (.verifyCommand hd nsid slba nlb) (fun t => t.Ended hd 0 0x0B 0) ∧
    s.Answers (.writeZeroesCommand hd nsid slba nlb) (fun t => t.Ended hd 0 0x0B 0) ∧
    ∀ l ad, s.Answers (.datasetManagementCommand hd nsid l ad) (fun t => t.Ended hd 0 0x0B 0)) ∧
  (∀ (s : State) (hd : Hdr) (nsid slba nlb : Nat) (x : Xfer) (n : Ns), s.Inv → s.Fetched hd → s.refuseNs hd.fn nsid = none →
    s.ns nsid = some n → nlb * n.lbaBytes ≤ 2097152 → n.lbas < slba + nlb →
    s.Answers (.writeCommand hd nsid slba nlb x) (fun t => t.Ended hd 0 0x80 0) ∧
    s.Answers (.readCommand hd nsid slba nlb x) (fun t => t.Ended hd 0 0x80 0) ∧
    s.Answers (.compareCommand hd nsid slba nlb x) (fun t => t.Ended hd 0 0x80 0) ∧
    s.Answers (.verifyCommand hd nsid slba nlb) (fun t => t.Ended hd 0 0x80 0) ∧
    s.Answers (.writeZeroesCommand hd nsid slba nlb) (fun t => t.Ended hd 0 0x80 0)) ∧
  (∀ (s : State) (hd : Hdr) (nsid slba nlb : Nat) (x : Xfer) (n : Ns), s.Inv → s.Fetched hd → s.refuseNs hd.fn nsid = none →
    s.ns nsid = some n → (s.refuseRange hd n slba nlb x true).isNone = true → s.sealed = true →
    s.Answers (.writeCommand hd nsid slba nlb x) (fun t => t.Ended hd 0 0x81 0) ∧
    s.Answers (.compareCommand hd nsid slba nlb x) (fun t => t.Ended hd 0 0x81 0) ∧
    s.Answers (.writeZeroesCommand hd nsid slba nlb) (fun t => t.Ended hd 0 0x81 0)) ∧
  (∀ (s : State) (hd : Hdr) (nsid slba nlb : Nat) (x : Xfer) (n : Ns), s.Inv → s.Fetched hd → s.refuseNs hd.fn nsid = none →
    s.ns nsid = some n → (s.refuseRange hd n slba nlb x true).isNone = true → s.sealed = false → 0 < nlb →
    s.Answers (.writeCommand hd nsid slba nlb x) (fun t =>
      (∃ c ∈ t.nv.ctxs, c.id = s.nv.nextCtx ∧ c.fn = hd.fn ∧ c.sq = hd.sq ∧ c.cid = hd.cid ∧ c.cmd = .write ∧ c.nsid = nsid ∧
        c.slba = slba ∧ c.nlb = nlb ∧ c.status = none ∧ c.bytesLeft = (if x.cmb = true then 0 else nlb * n.lbaBytes) ∧
        c.partsLeft = (n.parts slba nlb).length) ∧ s.OnlyIn [.regs, .evt, .out, .nv, .tr, .md, .lg] t) ∧
    s.Answers (.compareCommand hd nsid slba nlb x) (fun t =>
      (t.Runs s.nv.nextCtx hd .compare ∨ ∃ sct sc, t.Ended hd sct sc 0) ∧ s.OnlyIn [.regs, .evt, .hub, .out, .nv, .tr, .md, .lg, .rg, .dr, .ts] t) ∧
    s.Answers (.writeZeroesCommand hd nsid slba nlb) (fun t =>
      (∃ c ∈ t.nv.ctxs, c.id = s.nv.nextCtx ∧ c.cmd = .writeZeroes ∧ c.status = none ∧ c.partsLeft = (n.parts slba nlb).length) ∧
      s.OnlyIn [.regs, .evt, .out, .nv, .tr, .md, .lg] t)) ∧
  (∀ (s : State) (hd : Hdr) (nsid slba nlb : Nat) (x : Xfer) (n : Ns), s.Inv → s.Fetched hd → s.refuseNs hd.fn nsid = none →
    s.ns nsid = some n → (s.refuseRange hd n slba nlb x true).isNone = true → 0 < nlb →
    s.Answers (.readCommand hd nsid slba nlb x) (fun t =>
      (t.Runs s.nv.nextCtx hd .read ∨ ∃ sct sc, t.Ended hd sct sc 0) ∧ s.OnlyIn [.regs, .evt, .hub, .out, .nv, .tr, .md, .lg, .rg, .dr, .ts] t) ∧
    s.Answers (.verifyCommand hd nsid slba nlb) (fun t =>
      (t.Runs s.nv.nextCtx hd .verify ∨ ∃ sct sc, t.Ended hd sct sc 0) ∧ s.OnlyIn [.regs, .evt, .hub, .out, .nv, .tr, .md, .lg, .rg, .dr, .ts] t)) ∧
  (∀ (s : State) (hd : Hdr) (nsid slba nlb : Nat) (x : Xfer) (n : Ns) (d : Desc), s.Inv → s.Fetched hd → s.refuseNs hd.fn nsid = none →
    s.ns nsid = some n → nlb * n.lbaBytes ≤ 2097152 → slba + nlb ≤ n.lbas → x.dataLen = none → x.metaLen = none → x.prpBad = false →
    x.cmb = false → x.descs.find? descTooLong = some d →
    ∀ i ∈ [Instr.writeCommand hd nsid slba nlb x, .readCommand hd nsid slba nlb x, .compareCommand hd nsid slba nlb x],
      s.Answers i (fun t => t.Ended hd 0 6 0 ∧
        t.rd Fd.QUE_CNT_DESCREJ_COUNT = min (2 ^ 32 - 1) (s.rd Fd.QUE_CNT_DESCREJ_COUNT + 1))) ∧
  (∀ (s : State) (hd : Hdr) (nsid : Nat) (l : List (Nat × Nat)) (ad : Bool) (n : Ns), s.Inv → s.Fetched hd → s.refuseNs hd.fn nsid = none →
    s.ns nsid = some n → (∃ r ∈ l, 0 < r.2 ∧ n.lbas < r.1 + r.2) → s.Answers (.datasetManagementCommand hd nsid l ad) (fun t =>
      t.Ended hd 0 0x80 0)) ∧
  (∀ (s : State) (hd : Hdr) (nsid : Nat) (l : List (Nat × Nat)) (ad : Bool) (n : Ns), s.Inv → s.Fetched hd → s.refuseNs hd.fn nsid = none →
    s.ns nsid = some n → (∀ r ∈ l, 0 < r.2 → r.1 + r.2 ≤ n.lbas) → ad = false ∨ (∀ r ∈ l, r.2 = 0) →
    s.Answers (.datasetManagementCommand hd nsid l ad) (fun t => t.Ended hd 0 0 0)) ∧
  (∀ (s : State) (hd : Hdr) (nsid : Nat) (l : List (Nat × Nat)) (n : Ns), s.Inv → s.Fetched hd → s.refuseNs hd.fn nsid = none →
    s.ns nsid = some n → (∀ r ∈ l, 0 < r.2 → r.1 + r.2 ≤ n.lbas) → (∃ r ∈ l, r.2 ≠ 0) →
    s.Answers (.datasetManagementCommand hd nsid l true) (fun t => t.Runs s.nv.nextCtx hd .dsm ∧ s.OnlyIn [.regs, .evt, .out, .nv, .tr, .md, .lg] t))

/-- FLUSH_COMMAND of a namespace that is ready covers the committed and programming versions of the namespace that carry a
command whose completion was posted before its fetch; with none, and in a beat after its fetch, it ends with success, and
otherwise it waits for them (R129, R130). FLUSH_COMPLETION ends a Flush that waits for no version any more, in a beat after its
fetch, and does nothing for any other command. -/
def Obligations.FlushWaitsForItsVersions : Prop :=
  (∀ (s : State) (hd : Hdr) (nsid : Nat) (g : Grant) (u : State), s.Inv → s.Fetched hd → s.takeGrant hd = some (g, u) →
    s.refuseNs hd.fn nsid = none → nsid ≠ 0xFFFF_FFFF → s.covered [nsid] g.mark ≠ [] →
    s.Answers (.flushCommand hd nsid) (fun t =>
      (∃ c ∈ t.nv.ctxs, c.id = s.nv.nextCtx ∧ c.cmd = .flush ∧ c.status = none ∧ c.refs = s.covered [nsid] g.mark) ∧
      s.OnlyIn [.regs, .out, .nv, .tr, .md, .lg] t)) ∧
  (∀ (s : State) (hd : Hdr) (nsid : Nat) (g : Grant) (u : State), s.Inv → s.Fetched hd → s.takeGrant hd = some (g, u) →
    s.refuseNs hd.fn nsid = none → nsid ≠ 0xFFFF_FFFF → s.covered [nsid] g.mark = [] → g.beat < s.time.beat →
    s.Answers (.flushCommand hd nsid) (fun t => t.Ended hd 0 0 0)) ∧
  (∀ (s : State) (hd : Hdr) (c : Ctx), s.ctxAt hd.fn hd.sq hd.cid = some c → s.ctx c.id = some c → c.cmd = .flush → c.refs = [] →
    c.status = none → c.beat < s.time.beat → s.Answers (.flushCompletion hd) (fun t => t.Ended hd 0 0 0 ∧ s.OnlyIn [.regs, .out, .nv, .tr, .md, .lg] t)) ∧
  (∀ (s : State) (hd : Hdr) (c : Ctx), s.ctxAt hd.fn hd.sq hd.cid = some c → s.ctx c.id = some c →
    c.cmd ≠ .flush ∨ c.refs ≠ [] ∨ c.status ≠ none ∨ s.time.beat ≤ c.beat → exec (.flushCompletion hd) s = .next s) ∧
  (∀ (s : State) (hd : Hdr), s.ctxAt hd.fn hd.sq hd.cid = none → exec (.flushCompletion hd) s = .next s)

/-- Steps 3 to 5 of R28. DRAM_WRITE_ACKNOWLEDGE marks the primary copy of a full version that is filling, or its mirror copy
while the other half takes one, and nothing else; a mirror copy whose tag differs is counted, and differing a second time it
ends the command (R32). COMMIT_RECORD_START of a part whose data is there, whose earlier parts have begun, and, in protected
commit mode, whose units are in the flush reserve, appends a COMMIT record with the next JSEQ at the head of a ring that has
room, and leaves the record's header unwritten (R315, R316, R331); in a ring without room it waits (R324). COMMIT_HEADER_WRITE,
once earlier headers have been acknowledged, makes the record valid, and the last JSEQ is in LDG_HEAD. COMMIT_POINT of the
oldest record begun makes the part's versions COMMITTED with the record's JSEQ as their OSEQ, and a command whose last part it
was completes with success (R175). Where its condition does not hold each changes nothing. -/
def Obligations.WritesCommit : Prop :=
  (∀ (s : State) (vid : Nat) (mirror ok : Bool), (∀ v, s.ver vid = some v → v.full = false ∨ (mirror = true ∧ s.mirrored = false) ∨
    (mirror = false ∧ v.st ≠ .filling)) → exec (.dramWriteAcknowledge vid mirror ok) s = .next s) ∧
  (∀ (s : State) (vid : Nat) (ok : Bool) (v : Ver), s.ver vid = some v → v.full = true → v.st = .filling →
    s.Answers (.dramWriteAcknowledge vid false ok) (fun t => t.ver vid = some { v with prim := true, primTag := !ok } ∧
      (∀ w, w ≠ vid → t.ver w = s.ver w) ∧ s.OnlyIn [.tr] t)) ∧
  (∀ (s : State) (vid : Nat) (v : Ver), s.ver vid = some v → v.full = true → s.mirrored = true →
    s.Answers (.dramWriteAcknowledge vid true true) (fun t =>
      t.ver vid = some { v with mirror := true, mirrorBad := false, mirrorTag := false } ∧
      (∀ w, w ≠ vid → t.ver w = s.ver w) ∧ s.OnlyIn [.tr] t)) ∧
  (∀ (s : State) (vid : Nat) (v : Ver), s.Inv → s.ver vid = some v → v.full = true → s.mirrored = true → v.mirrorTag = false →
    s.Answers (.dramWriteAcknowledge vid true false) (fun t => t.ver vid = some { v with mirrorTag := true } ∧
      t.rd Fd.ECC_CNT_TAGERR_COUNT = min (2 ^ 32 - 1) (s.rd Fd.ECC_CNT_TAGERR_COUNT + 1) ∧
      (∀ w, w ≠ vid → t.ver w = s.ver w) ∧ s.RegsBut [keyOf Fd.ECC_CNT_TAGERR_COUNT] t ∧ s.OnlyIn [.regs, .tr] t)) ∧
  (∀ (s : State) (vid : Nat) (v : Ver) (c : Ctx), s.Inv → s.ver vid = some v → v.full = true → s.mirrored = true → v.mirrorTag = true →
    v.st = .filling → v.ctx = some c.id → s.ctx c.id = some c → c.status = none →
    s.Answers (.dramWriteAcknowledge vid true false) (fun t => t.Ended ⟨c.fn, c.sq, c.cid, none⟩ 0 6 0 ∧
      t.rd Fd.ECC_CNT_TAGERR_COUNT = min (2 ^ 32 - 1) (s.rd Fd.ECC_CNT_TAGERR_COUNT + 1) ∧ s.OnlyIn [.regs, .evt, .hub, .out, .nv, .tr, .md, .lg, .dr, .ts] t)) ∧
  (∀ (s : State) (pid : Nat) (p : Part), s.part pid = some p → s.partReady p = true → s.active.isSome = true → s.hub.hold = false →
    s.hub.fenced = false → s.lg.loss = none → (∀ q ∈ s.tr.parts, q.ctx = p.ctx → p.ctx ≠ none → q.id < pid → q.begun = true) →
    (s.protectedMode = true → s.partFlushed p = true) → s.lg.head + 5 + 2 * p.tarts.length ≤ s.variant.ringWords →
    s.ringUsed + 5 + 2 * p.tarts.length < s.variant.ringWords → s.Answers (.commitRecordStart pid) (fun t =>
      t.part pid = some { p with st := .body, jseq := s.lg.jseq } ∧ t.lg.jseq = s.lg.jseq + 1 ∧
      t.lg.live = s.lg.live ++ [⟨s.lg.jseq, false, .commit p.nsid p.fn p.kind p.last p.slba p.nlb s.lg.jseq
        (p.tarts.map (fun (x : Nat × Bool) => (x.1, s.tartUnits p x.1))), s.lg.head, false⟩] ∧
      t.lg.head = (s.lg.head + 5 + 2 * p.tarts.length) % s.variant.ringWords ∧ t.tr.vers = s.tr.vers ∧ s.OnlyIn [.nv, .tr, .lg] t)) ∧
  (∀ (s : State) (pid : Nat), (∀ p, s.part pid = some p → s.partReady p = false ∨ s.active = none ∨ s.hub.hold = true ∨
      s.hub.fenced = true ∨ s.lg.loss ≠ none ∨ (s.protectedMode = true ∧ s.partFlushed p = false) ∨
      s.variant.ringWords ≤ s.ringUsed + 5 + 2 * p.tarts.length) → exec (.commitRecordStart pid) s = .next s) ∧
  (∀ (s : State) (pid : Nat) (p : Part), s.Inv → s.part pid = some p → p.st = .body → s.headerReady p.jseq = true → s.hub.hold = false →
    s.Answers (.commitHeaderWrite pid) (fun t => t.part pid = some { p with st := .header } ∧
      (∀ r ∈ t.lg.live, r.jseq ≤ p.jseq → r.valid = true ∧ r.body.typ ≠ 8) ∧ t.rd Fd.LDG_HEAD_LO_JSEQ = p.jseq % 2 ^ 32 ∧
      t.rd Fd.LDG_HEAD_HI_JSEQ = p.jseq / 2 ^ 32 % 2 ^ 16 ∧ s.RegsBut [keyOf Fd.LDG_HEAD_LO_JSEQ, keyOf Fd.LDG_HEAD_HI_JSEQ] t ∧
      t.tr.vers = s.tr.vers ∧ s.OnlyIn [.regs, .tr, .lg] t)) ∧
  (∀ (s : State) (pid : Nat), (∀ p, s.part pid = some p → p.st ≠ .body ∨ s.headerReady p.jseq = false ∨ s.hub.hold = true) →
    exec (.commitHeaderWrite pid) s = .next s) ∧
  (∀ (s : State) (pid : Nat) (p : Part), s.part pid = some p → p.st = .header → s.active.isSome = true → s.hub.hold = false →
    s.hub.fenced = false → (∀ q ∈ s.tr.parts, q.begun = true → p.jseq ≤ q.jseq) → (∀ i ∈ p.vids, i < s.tr.nextId) →
    s.Answers (.commitPoint pid) (fun t => (∀ q ∈ t.tr.parts, q.id ≠ pid) ∧
      (∀ v ∈ t.tr.vers, v.id ∈ p.vids → v.st ≠ .filling ∧ v.oseq = p.jseq) ∧
      (∀ id c, p.ctx = some id → s.ctx id = some c → c.partsLeft = 1 → c.status = none → t.Ended ⟨c.fn, c.sq, c.cid, none⟩ 0 0 0) ∧
      s.OnlyIn [.regs, .out, .nv, .tr, .md, .lg] t)) ∧
  (∀ (s : State) (pid : Nat), (∀ p, s.part pid = some p → p.st ≠ .header ∨ s.active = none ∨ s.hub.hold = true ∨
      s.hub.fenced = true ∨ (∃ q ∈ s.tr.parts, q.begun = true ∧ q.jseq < p.jseq)) → exec (.commitPoint pid) s = .next s)

/-- MAP_WRITE of a map write whose record's header can be written or is valid, that no command and no rebuild of the segment
holds, and that is the oldest of its tart, makes the entry that of the write and changes no other entry; its versions are MAPPED
(R28 step 7, R169, R317). A half that does not serve writes no entry (R162). DELTA_PAGE_PROGRAM with 1,024 deltas accumulated
adds one program of the metadata stream (R192). BLKTAB_WRITTEN makes the record valid and its word the block table's (R320).
WATCH_COUNT_LIMIT at a count of 7 takes the watch entry away with the staged tart, the prediction, or the merge data it watched;
below 7 nothing happens (R180). STAGED_TART_EXPIRY discards the tart's staged data that has reached its LIFE, and no other
(R184). Where its condition does not hold each changes nothing. -/
def Obligations.MapFollowsTheJournal : Prop :=
  (∀ (s : State) (mseq : Nat) (w : MapWr), s.Inv → s.serving = true → s.tr.mapq.find? (fun w => w.mseq == mseq) = some w → w.written = true →
    ((∃ r ∈ s.lg.live, r.jseq = w.jseq ∧ r.valid = true) ∨ s.headerReady w.jseq = true) → s.mapHeld w.ltn = false →
    s.segHeld w.ltn = false → (∀ v ∈ s.tr.mapq, v.ltn = w.ltn → mseq ≤ v.mseq) → (∀ i ∈ w.vids, i < s.tr.nextId) →
    s.Answers (.mapWrite mseq) (fun t => t.mapEntry w.ltn = w.entry ∧ (∀ l, l ≠ w.ltn → t.mapEntry l = s.mapEntry l) ∧
      (∀ v ∈ t.tr.vers, v.id ∈ w.vids → v.st = .mapped) ∧ s.OnlyIn [.regs, .evt, .hub, .out, .nv, .tr, .md, .lg, .rg, .dr, .ts] t)) ∧
  (∀ (s : State) (mseq : Nat), (∀ w, s.tr.mapq.find? (fun w => w.mseq == mseq) = some w → w.written = false ∨ s.serving = false ∨ s.mapHeld w.ltn = true ∨
      s.segHeld w.ltn = true ∨ (∃ v ∈ s.tr.mapq, v.ltn = w.ltn ∧ v.mseq < mseq) ∨
      (s.headerReady w.jseq = false ∧ ∀ r ∈ s.lg.live, r.jseq = w.jseq → r.valid = false)) → exec (.mapWrite mseq) s = .next s) ∧
  (∀ (s : State) (m : Nat), s.freshDeltas[1023]? = some m → s.active.isSome = true → s.hub.hold = false → s.dieNums ≠ [] →
    s.Answers .deltaPageProgram (fun t => s.md.ops <+: t.md.ops ∧ t.md.ops.length = s.md.ops.length + 1 ∧ (∃ o ∈ t.md.ops.getLast?, o.kind = .program ∧ o.why = .metadata ∧ o.cls = .rfs ∧
      o.units = [0, m] ∧ o.die ∈ s.dieNums ∧ o.st = .wait) ∧ s.OnlyIn [.md] t)) ∧
  (∀ s : State, s.freshDeltas[1023]? = none ∨ s.active = none ∨ s.hub.hold = true ∨ s.dieNums = [] →
    exec .deltaPageProgram s = .next s) ∧
  (∀ (s : State) (r : JRec) (die plane blk : Nat) (w : Word64), s.Inv → s.lg.live.find? (fun x => x.jseq == r.jseq && !x.valid) = some r →
    r.body = .blkTab die plane blk w → s.headerReady r.jseq = true → s.Answers (.blktabWritten r.jseq) (fun t =>
      t.md.table = spSet (fun _ => 0) s.md.table (blkKey die plane blk) w ∧ (∀ q ∈ t.lg.live, q.jseq ≤ r.jseq → q.valid = true) ∧
      t.rd Fd.LDG_HEAD_LO_JSEQ = r.jseq % 2 ^ 32 ∧ s.OnlyIn [.regs, .md, .lg] t)) ∧
  (∀ (s : State) (jseq : Nat), s.headerReady jseq = false ∨ (∀ r ∈ s.lg.live, r.jseq = jseq → r.body.typ ≠ 5) →
    exec (.blktabWritten jseq) s = .next s) ∧
  (∀ (s : State) (w : Nat), (∀ x, s.tr.watch.find? (fun x => x.id == w) = some x → x.count < 7) → exec (.watchCountLimit w) s = .next s) ∧
  (∀ (s : State) (w : Nat) (x : Watch), s.tr.watch.find? (fun x => x.id == w) = some x → 7 ≤ x.count → x.kind = 0 → w < s.tr.nextId →
    s.Answers (.watchCountLimit w) (fun t => t.tr.watch.find? (fun y => y.id == w) = none ∧ t.tr.map = s.tr.map ∧
      s.OnlyIn [.regs, .evt, .hub, .out, .nv, .tr, .md, .lg, .rg, .dr, .ts] t)) ∧
  (∀ (s : State) (w : Nat) (x : Watch), s.tr.watch.find? (fun x => x.id == w) = some x → 7 ≤ x.count → x.kind = 1 →
    exec (.watchCountLimit w) s = .next { s with tr := { s.tr with
      watch := s.tr.watch.filter (fun y => y.id != w), staged := s.tr.staged.filter (fun g => g.id != x.item) } }) ∧
  (∀ (s : State) (w : Nat) (x : Watch), s.tr.watch.find? (fun x => x.id == w) = some x → 7 ≤ x.count → x.kind = 2 →
    exec (.watchCountLimit w) s = .next (if (s.predAt x.ltn).ltn = x.ltn
      then State.setPred { s with tr := { s.tr with watch := s.tr.watch.filter (fun y => y.id != w) } } x.ltn noPred
      else { s with tr := { s.tr with watch := s.tr.watch.filter (fun y => y.id != w) } })) ∧
  (∀ (s : State) (w : Nat) (x : Watch), s.tr.watch.find? (fun x => x.id == w) = some x → 7 ≤ x.count → 3 ≤ x.kind →
    s.Answers (.watchCountLimit w) (fun t => t.tr.watch = s.tr.watch.filter (fun y => y.id != w) ∧
      (∀ m ∈ t.tr.merges, m.id = x.item → m.dead = true) ∧ (∀ m ∈ s.tr.merges, m.id ≠ x.item → m ∈ t.tr.merges) ∧
      s.OnlyIn [.tr] t)) ∧
  (∀ (s : State) (ltn : Nat) (g : Staged), g ∈ s.tr.staged → g.ltn = ltn → g.beat + s.rd Fd.MAP_RACFG_LIFE ≤ s.time.beat →
    s.Answers (.stagedTartExpiry ltn) (fun t => t.tr.staged.contains g = false ∧ s.OnlyIn [.tr, .md] t)) ∧
  (∀ (s : State) (ltn : Nat), s.Answers (.stagedTartExpiry ltn) (fun t =>
    (∀ g ∈ t.tr.staged, g.ltn = ltn → s.time.beat < g.beat + s.rd Fd.MAP_RACFG_LIFE) ∧
    (∀ g ∈ s.tr.staged, g.ltn ≠ ltn ∨ s.time.beat < g.beat + s.rd Fd.MAP_RACFG_LIFE → g ∈ t.tr.staged) ∧
    t.tr.map = s.tr.map ∧ s.OnlyIn [.tr, .md] t))

/-- MAP_LOOKUP_RETURN of a lookup that is out completes the command with Unrecovered Read Error where the entry is not a legal
one (R166), and else leaves the command in progress or ends it (R181 to R183); a lookup that is not out, or whose segment is
being rebuilt, or of a half that does not serve, changes nothing. FLASH_READ_RESULT ends the read operation that is in its die.
Where each code word decodes at rung 0, a command's read is final, a staged tart's read takes the data, a relocation's read adds
one tart to be placed, with the source it came from (R208), and a calibration read counts no failure (R298). Where a code word
fails, or is reported as erased in a programmed page, one more read serves the next attempt of the ladder (R262, R264). An
operation that is no read in its die, or has not transferred its data, gives no result. -/
def Obligations.LookupsAndReadsReturn : Prop :=
  (∀ (s : State) (id i : Nat), (∀ c, s.ctx id = some c → ∀ l, c.lookups.find? (fun l => l.i == i && !l.back) = some l →
      s.segHeld l.ltn = true ∨ s.serving = false) → exec (.mapLookupReturn id i) s = .next s) ∧
  (∀ (s : State) (id i : Nat) (c : Ctx) (l : Lookup), s.ctx id = some c → c.status = none →
    c.lookups.find? (fun l => l.i == i && !l.back) = some l → s.segHeld l.ltn = false → s.serving = true →
    s.legal l.entry = false → s.Answers (.mapLookupReturn id i) (fun t => t.Ended ⟨c.fn, c.sq, c.cid, none⟩ 2 0x81 0 ∧ t.tr.map = s.tr.map ∧ s.OnlyIn [.regs, .evt, .hub, .out, .nv, .tr, .md, .lg, .rg, .dr, .ts] t)) ∧
  (∀ (s : State) (id i : Nat) (c : Ctx) (l : Lookup), s.ctx id = some c → c.status = none →
    c.lookups.find? (fun l => l.i == i && !l.back) = some l → s.segHeld l.ltn = false → s.serving = true →
    s.legal l.entry = true → s.Answers (.mapLookupReturn id i) (fun t =>
      ((∃ d, t.ctx id = some d ∧ d.status = none ∧ d.fn = c.fn ∧ d.sq = c.sq ∧ d.cid = c.cid) ∨
        ∃ sct sc, t.Ended ⟨c.fn, c.sq, c.cid, none⟩ sct sc 0) ∧ t.tr.map = s.tr.map ∧ s.OnlyIn [.regs, .evt, .hub, .out, .nv, .tr, .md, .lg, .rg, .dr, .ts] t)) ∧
  (∀ (s : State) (op : Nat) (res : DecodeRes), (∀ o, s.op op = some o → o.kind ≠ .read ∨ o.st ≠ .busy ∨ o.left ≠ 0) →
    exec (.flashReadResult op res) s = .next s) ∧
  (∀ (s : State) (op : Nat) (res : DecodeRes) (o : Op), s.op op = some o → o.kind = .read → o.st = .busy → o.left = 0 → op < s.md.nextOp →
    s.Answers (.flashReadResult op res) (fun t => t.op op = none ∧ t.tr.map = s.tr.map ∧ t.md.flash = s.md.flash ∧
      s.OnlyIn [.regs, .evt, .hub, .out, .nv, .tr, .md, .lg, .rg, .dr, .ts] t)) ∧
  (∀ (s : State) (op id i : Nat) (res : DecodeRes) (o : Op) (c : Ctx) (r : Result), s.op op = some o → o.kind = .read → o.st = .busy → o.left = 0 →
    s.climb op = none → s.Decodes res → o.why = .host id i → s.ctx id = some c → c.status = none →
    c.results.find? (fun r => r.i == i && r.op == o.id && !r.final) = some r → r.spec = false →
    s.Answers (.flashReadResult op res) (fun t =>
      (∃ d, t.ctx id = some d ∧ d.status = none ∧ ∃ q ∈ d.results, q.i = i ∧ q.op = op ∧ q.final = true ∧ q.secs.length = 32) ∨
      (∃ d, t.ctx id = some d ∧ d.status = none ∧ c.batches < d.batches) ∨ ∃ sct sc, t.Ended ⟨c.fn, c.sq, c.cid, none⟩ sct sc 0)) ∧
  (∀ (s : State) (op f n : Nat) (res : DecodeRes) (o : Op), s.op op = some o → o.kind = .read → o.st = .busy → o.left = 0 →
    s.climb op = none → s.Decodes res → o.why = .stage f n → s.Answers (.flashReadResult op res) (fun t =>
      t.tr.staged.length = s.tr.staged.length ∧
      (∀ g ∈ s.tr.staged, g.fn = f → g.ns = n → g.ppa = o.ppa → g.dec = none →
        ∃ h ∈ t.tr.staged, h.id = g.id ∧ h.ltn = g.ltn ∧ ∃ d ∈ h.dec, d.badTags = res.badTags ∧
          d.secs = (List.range 32).map (fun k => (s.page o.ppa).secs.getD k emptySector)) ∧ s.OnlyIn [.tr, .md] t)) ∧
  (∀ (s : State) (op victim ltn : Nat) (res : DecodeRes) (o : Op), s.op op = some o → o.kind = .read → o.st = .busy → o.left = 0 →
    s.climb op = none → s.Decodes res → o.why = .copy victim ltn → s.Answers (.flashReadResult op res) (fun t =>
      s.md.copies <+: t.md.copies ∧ t.md.copies.length = s.md.copies.length + 1 ∧ ∃ x ∈ t.md.copies.getLast?, x.ltn = ltn ∧ x.src = some o.ppa ∧ x.victim = victim ∧ x.secs.length = 32 ∧
      (∀ k, k < 32 → k ∈ res.badTags → (x.secs[k]?).map (fun y => y.tag) = some .poison) ∧
      (∀ k, k < 32 → k ∉ res.badTags → tagNames ((s.page o.ppa).secs.getD k emptySector) (ltn * 32 + k) = true →
        x.secs[k]? = some ((s.page o.ppa).secs.getD k emptySector)))) ∧
  (∀ (s : State) (op die grp : Nat) (res : DecodeRes) (o : Op), s.Inv → s.op op = some o → o.kind = .read → o.st = .busy → o.left = 0 →
    s.climb op = none → s.Decodes res → o.why = .calib die grp → s.Answers (.flashReadResult op res) (fun t =>
      t.rd Fd.RGL_CNT_CALFAIL_COUNT = s.rd Fd.RGL_CNT_CALFAIL_COUNT ∧ t.climb op = none ∧ t.md.rfs = s.md.rfs ∧ t.md.sbs = s.md.sbs)) ∧
  (∀ (s : State) (op : Nat) (res : DecodeRes) (o : Op) (c : CwTry), s.op op = some o → o.kind = .read → o.st = .busy → o.left = 0 →
    s.climb op = none → o.why = .patrol → res.cws[0]? = some c →
    c.ok = false ∨ (c.zeros < s.rd Fd.ECC_CFG_ERASEDTHR ∧ (s.page o.ppa).secs ≠ []) → s.Answers (.flashReadResult op res) (fun t =>
      (t.climb op).map (fun k => (k.op, k.cws.length)) = some (o, 4) ∧
      (∃ x ∈ t.md.ops, x.kind = .read ∧ x.why = .rung op 0 ∧ x.ppa = o.ppa ∧ x.cls = o.cls ∧ x.st = .wait) ∧
      s.OnlyIn [.regs, .evt, .hub, .out, .nv, .tr, .md, .lg, .rg, .dr, .ts] t))

/-- FLASH_PROGRAM_COMPLETE and FLASH_PROGRAM_FAILURE end the program that is in its die. A delta page's success releases the
ledger space of the deltas it holds and puts the last of them in MAP_CKPSEQ (R192); the loop states' success makes them the
saved copy (R301); a program of a stripe unit puts its tarts into their pages, and one of parity the parity of the stripe (R201,
R202); a failure counts in MED_CNT_PFAIL (R209, R211). OPERATION_TIMEOUT before an operation's limit changes nothing; past it
FCH_CNT_TIMEOUT counts, a first read is issued once more, and a die with NORESP of them in a row is retired (R237, R218).
SUSPEND_ACKNOWLEDGED suspends the operation whose suspend was sent and counts it (R239); SHORT_ZQ_CALIBRATION of a channel in
use asks for the channel's next RFS beat (R234). Where its condition does not hold each changes nothing. -/
def Obligations.ProgramsEnd : Prop :=
  (∀ (s : State) (op : Nat), (∀ o, s.op op = some o → o.kind ≠ .program ∨ o.st ≠ .busy ∨ o.left ≠ 0) →
    exec (.flashProgramComplete op) s = .next s ∧ exec (.flashProgramFailure op) s = .next s) ∧
  (∀ (s : State) (op : Nat) (o : Op), s.op op = some o → o.kind = .program → o.st = .busy → o.left = 0 → op < s.md.nextOp →
    s.Answers (.flashProgramComplete op) (fun t => t.op op = none ∧ t.tr.map = s.tr.map ∧ s.OnlyIn [.regs, .evt, .hub, .out, .nv, .tr, .md, .lg, .rg, .dr, .ts] t)) ∧
  (∀ (s : State) (op : Nat) (o : Op), s.Inv → s.op op = some o → o.kind = .program → o.st = .busy → o.left = 0 → o.why = .metadata →
    o.units.getD 0 0 = 0 → s.Answers (.flashProgramComplete op) (fun t =>
      t.rd Fd.MAP_CKPSEQ_LO_SEQ = o.units.getD 1 0 % 2 ^ 32 ∧ t.rd Fd.MAP_CKPSEQ_HI_SEQ = o.units.getD 1 0 / 2 ^ 32 % 2 ^ 16 ∧
      (∀ r ∈ t.lg.live, r.valid = true → ∀ ltn cause e m cseq, r.body = .mapDelta ltn cause e m cseq → o.units.getD 1 0 < m) ∧
      s.RegsBut [keyOf Fd.MAP_CKPSEQ_LO_SEQ, keyOf Fd.MAP_CKPSEQ_HI_SEQ] t)) ∧
  (∀ (s : State) (op : Nat) (o : Op), s.op op = some o → o.kind = .program → o.st = .busy → o.left = 0 → o.why = .metadata →
    o.units.getD 0 0 = 2 → s.Answers (.flashProgramComplete op) (fun t => t.rg.saved = s.rg.saving ∧ t.rg.loops = s.rg.loops ∧
      s.OnlyIn [.md, .rg] t)) ∧
  (∀ (s : State) (op : Nat) (o : Op) (x : Sb) (m : Member), s.op op = some o → o.kind = .program → o.st = .busy → o.left = 0 → o.why = .unit →
    s.sb o.sb = some x → x.members[o.mem]? = some m → ((List.range (unitTarts x.media)).map (s.unitPpa m o.unit)).Nodup →
    s.Answers (.flashProgramComplete op) (fun t =>
      (List.range (unitTarts x.media)).map (fun j => t.page (s.unitPpa m o.unit j)) = (List.range (unitTarts x.media)).map (fun j =>
        match o.tarts[j]? with
        | some p => ⟨some p.ltn, p.secs⟩
        | none => ⟨none, List.replicate 32 padSector⟩) ∧ s.OnlyIn [.regs, .evt, .hub, .out, .nv, .tr, .md, .lg, .rg, .dr, .ts] t)) ∧
  (∀ (s : State) (op : Nat) (o : Op) (x : Sb) (m : Member), s.op op = some o → o.kind = .program → o.st = .busy → o.left = 0 → o.why = .parity →
    s.sb o.sb = some x → x.members[o.mem]? = some m → ((List.range (unitTarts x.media)).map (s.unitPpa m x.stripe)).Nodup →
    (s.partialOf x.id).isSome = true → s.Answers (.flashProgramComplete op) (fun t =>
      (List.range (unitTarts x.media)).map (fun j => t.page (s.unitPpa m x.stripe j)) = (List.range (unitTarts x.media)).map (fun j =>
        ⟨none, s.parityPage x o.mem j⟩) ∧ s.OnlyIn [.regs, .evt, .hub, .out, .nv, .tr, .md, .lg, .rg, .dr, .ts] t)) ∧
  (∀ (s : State) (op : Nat) (o : Op), s.Inv → s.op op = some o → o.kind = .program → o.st = .busy → o.left = 0 → op < s.md.nextOp →
    s.Answers (.flashProgramFailure op) (fun t => t.op op = none ∧
      t.rd Fd.MED_CNT_PFAIL_COUNT = min (2 ^ 32 - 1) (s.rd Fd.MED_CNT_PFAIL_COUNT + 1) ∧ t.tr.map = s.tr.map ∧
      s.OnlyIn [.regs, .evt, .hub, .out, .nv, .tr, .md, .lg, .rg, .dr, .ts] t)) ∧
  (∀ (s : State) (op : Nat), (∀ o, s.op op = some o → s.pastLimit o = false) → exec (.operationTimeout op) s = .next s) ∧
  (∀ (s : State) (op : Nat) (o : Op), s.Inv → s.op op = some o → s.pastLimit o = true → o.kind = .read → o.tries = 0 →
    (s.die o.die).noResp + 1 < s.rd Fd.MED_RETCFG_NORESP → s.Answers (.operationTimeout op) (fun t =>
      t.op op = some { o with st := .wait, tries := 1 } ∧ (t.die o.die).noResp = (s.die o.die).noResp + 1 ∧
      t.rd Fd.FCH_CNT_TIMEOUT_COUNT = min (2 ^ 32 - 1) (s.rd Fd.FCH_CNT_TIMEOUT_COUNT + 1) ∧
      s.RegsBut [keyOf Fd.FCH_CNT_TIMEOUT_COUNT] t ∧ s.OnlyIn [.regs, .md] t)) ∧
  (∀ (s : State) (op : Nat) (o : Op), s.Inv → s.op op = some o → s.pastLimit o = true →
    s.Answers (.operationTimeout op) (fun t =>
      t.rd Fd.FCH_CNT_TIMEOUT_COUNT = min (2 ^ 32 - 1) (s.rd Fd.FCH_CNT_TIMEOUT_COUNT + 1) ∧
      (t.die o.die).noResp = (s.die o.die).noResp + 1 ∧
      (s.rd Fd.MED_RETCFG_NORESP ≤ (s.die o.die).noResp + 1 → (t.die o.die).st = 2) ∧ s.OnlyIn [.regs, .evt, .hub, .out, .nv, .tr, .md, .lg, .rg, .dr, .ts] t)) ∧
  (∀ (s : State) (die : Nat) (o : Op), s.Inv → s.md.ops.find? (fun o => o.die == die && o.st == .busy && decide (0 < o.suspAt)) = some o →
    s.Answers (.suspendAcknowledged die) (fun t =>
      ({ o with st := .suspended, susp := o.susp + 1, suspAt := s.time.beat + 1 } : Op) ∈ t.md.ops ∧
      (∀ x ∈ s.md.ops, x.id ≠ o.id → x ∈ t.md.ops) ∧
      t.rd Fd.FCH_CNT_SUSP_COUNT = min (2 ^ 32 - 1) (s.rd Fd.FCH_CNT_SUSP_COUNT + 1) ∧ s.RegsBut [keyOf Fd.FCH_CNT_SUSP_COUNT] t ∧
      s.OnlyIn [.regs, .md] t)) ∧
  (∀ (s : State) (die : Nat), (∀ o ∈ s.md.ops, o.die = die → o.st = .busy → o.suspAt = 0) → exec (.suspendAcknowledged die) s = .next s) ∧
  (∀ (s : State) (c : Nat), s.rd Fd.FCH_CHSTAT_STATE c = 1 ∨ s.rd Fd.FCH_CHSTAT_STATE c = 2 → c < s.variant.channels →
    exec (.shortZqCalibration c) s = .next { s with md := { s.md with zq := addOnce c s.md.zq } }) ∧
  (∀ (s : State) (c : Nat), (s.rd Fd.FCH_CHSTAT_STATE c ≠ 1 ∧ s.rd Fd.FCH_CHSTAT_STATE c ≠ 2) ∨ s.variant.channels ≤ c →
    exec (.shortZqCalibration c) s = .next s)

/-- GC_VICTIM_SELECT takes the first victim of the first class that has one and marks it VICTIM (R207, R208); a half that may
not act takes none. VICTIM_ERASE_START begins the erase of each member of a victim all of whose tarts are settled, and of no
other (R208 step 6). ERASE_INTENT_WRITTEN makes the record valid and lets the erase be issued; ERASE_COMPLETE leads to the
erased-margin read, or on failure counts and retires the block; ERASED_MARGIN_READ_RESULT within the limit passes the block;
ERASE_DONE_WRITTEN frees its blocks and ends the live erase-intent record (R241 to R243, R322). GC_PLAN_SHIFT writes pattern
rows that only move HOST entries to GC, or back, and commits the plan (R212). WEAR_BUDGET_CHECK at a 24-hour mark sets
OVERBUDGET with an event where the erases gained exceed the rate, and clears it otherwise (R215; the rated count by mode is the
model's choice, log entry 45, and so is what the gain counts, log entry 169). Where its condition does not hold each changes
nothing but the space class. -/
def Obligations.CollectionAndErase : Prop :=
  (∀ (s : State) (slice : Nat), s.active = none ∨ s.hub.hold = true ∨ s.lg.loss ≠ none ∨ (∀ k < 4, s.updSpace.victimOf slice k = none) →
    exec (.gcVictimSelect slice) s = .next s.updSpace) ∧
  (∀ (s : State) (slice k : Nat) (x : Sb), s.active.isSome = true → s.hub.hold = false → s.lg.loss = none → k < 4 →
    (∀ j < k, s.updSpace.victimOf slice j = none) → s.updSpace.victimOf slice k = some x → s.Answers (.gcVictimSelect slice) (fun t =>
      (∃ y ∈ t.md.sbs, y.id = x.id ∧ y.st = .victim ∧ y.cls = k) ∧ t.tr = s.tr ∧ s.OnlyIn [.md, .lg] t)) ∧
  (∀ (s : State) (id : Nat), (∀ x, s.sb id = some x → x.st ≠ .victim ∨ s.erasesOf x = true ∨ s.victimSettled x = false ∨ s.active = none ∨ s.hub.hold = true ∨
      s.lg.loss ≠ none) → exec (.victimEraseStart id) s = .next s) ∧
  (∀ (s : State) (id : Nat) (x : Sb) (m : Member) (u : State), s.sb id = some x → x.st = .victim → s.erasesOf x = false →
    s.victimSettled x = true → s.active.isSome = true → s.hub.hold = false → s.lg.loss = none → x.members = [m] → m.lack = 0 →
    (s.die m.die).st = 1 → s.eraseIntent m.die m.blocks = some u → s.Answers (.victimEraseStart id) (fun t =>
      (∃ e ∈ t.md.erases, e.die = m.die ∧ e.blocks = m.blocks ∧ e.st = .intent) ∧ t.lg.jseq = s.lg.jseq + (u.lg.jseq - s.lg.jseq) ∧
      (t.sb id).map (fun y => y.st) = some .victim ∧ t.tr = s.tr ∧ s.OnlyIn [.regs, .evt, .out, .nv, .tr, .md, .lg] t)) ∧
  (∀ (s : State) (id : Nat) (x : Sb), s.sb id = some x → x.st = .victim → s.erasesOf x = false → s.victimSettled x = true →
    s.active.isSome = true → s.hub.hold = false → s.lg.loss = none → (∀ m ∈ x.members, m.lack ≠ 3) →
    s.Answers (.victimEraseStart id) (fun t =>
      (∀ m ∈ x.members, m.lack ≠ 1 → (s.die m.die).st = 1 → t = s ∨ ∃ e ∈ t.md.erases, e.die = m.die ∧ e.blocks = m.blocks) ∧
      t.tr = s.tr ∧ s.OnlyIn [.regs, .evt, .out, .nv, .tr, .md, .lg] t)) ∧
  (∀ (s : State) (die blk : Nat), (∀ e, s.eraseOf die blk = some e → e.st ≠ .intent) → exec (.eraseIntentWritten die blk) s = .next s) ∧
  (∀ (s : State) (die blk : Nat) (e : Erase) (r : JRec), s.eraseOf die blk = some e → e.st = .intent → s.eraseRec e false = some r →
    s.headerReady r.jseq = true → s.Answers (.eraseIntentWritten die blk) (fun t =>
      (∃ x ∈ t.md.erases, x = { e with st := .allowed }) ∧ (∃ o ∈ t.md.ops, o.kind = .erase ∧ o.why = .erase ∧ o.die = die ∧
        o.ppa = blk ∧ o.st = .wait) ∧ (∀ q ∈ t.lg.live, q.jseq ≤ r.jseq → q.valid = true) ∧ s.OnlyIn [.regs, .md, .lg] t)) ∧
  (∀ (s : State) (die blk : Nat) (ok : Bool), s.eraseOf die blk = none ∨ s.eraseOp die blk .erase = none →
    exec (.eraseComplete die blk ok) s = .next s) ∧
  (∀ (s : State) (die blk : Nat) (e : Erase) (o : Op), s.eraseOf die blk = some e → s.eraseOp die blk .erase = some o →
    s.Answers (.eraseComplete die blk true) (fun t => ({ e with st := .margin } : Erase) ∈ t.md.erases ∧
      (∃ x ∈ t.md.ops, x.kind = .margin ∧ x.why = .erase ∧ x.die = die ∧ x.ppa = blk ∧ x.st = .wait) ∧
      (∀ p ∈ t.md.flash, ppaDie p.1 = die → e.blocks.getD (s.ppaPlane p.1) (2 ^ 15) ≠ s.ppaBlk p.1) ∧
      (∀ p ∈ s.md.flash, ppaDie p.1 ≠ die → p ∈ t.md.flash) ∧ s.OnlyIn [.md] t)) ∧
  (∀ (s : State) (die blk : Nat) (e : Erase) (o : Op), s.Inv → s.eraseOf die blk = some e → s.eraseOp die blk .erase = some o →
    s.Answers (.eraseComplete die blk false) (fun t => e ∉ t.md.erases ∧
      t.rd Fd.MED_CNT_EFAIL_COUNT = min (2 ^ 32 - 1) (s.rd Fd.MED_CNT_EFAIL_COUNT + 1) ∧ s.OnlyIn [.regs, .evt, .hub, .out, .nv, .tr, .md, .lg, .rg, .dr, .ts] t)) ∧
  (∀ (s : State) (die blk : Nat) (cells : List Nat), s.eraseOf die blk = none ∨ s.eraseOp die blk .margin = none →
    exec (.erasedMarginReadResult die blk cells) s = .next s) ∧
  (∀ (s : State) (die blk : Nat) (cells : List Nat) (e : Erase) (o : Op), s.eraseOf die blk = some e →
    s.eraseOp die blk .margin = some o → (∀ c ∈ cells, c ≤ s.rd Fd.FCH_ERCFG_THR) →
    s.Answers (.erasedMarginReadResult die blk cells) (fun t => ({ e with st := .passed } : Erase) ∈ t.md.erases ∧
      s.OnlyIn [.md, .lg] t)) ∧
  (∀ (s : State) (die blk : Nat) (cells : List Nat) (e : Erase) (o : Op), s.Inv → s.eraseOf die blk = some e →
    s.eraseOp die blk .margin = some o → (∃ c ∈ cells, s.rd Fd.FCH_ERCFG_THR < c) →
    s.Answers (.erasedMarginReadResult die blk cells) (fun t => e ∉ t.md.erases ∧
      t.rd Fd.MED_CNT_EFAIL_COUNT = min (2 ^ 32 - 1) (s.rd Fd.MED_CNT_EFAIL_COUNT + 1) ∧ s.OnlyIn [.regs, .evt, .hub, .out, .nv, .tr, .md, .lg, .rg, .dr, .ts] t)) ∧
  (∀ (s : State) (die blk : Nat), (∀ e, s.eraseOf die blk = some e → e.st ≠ .passed) → exec (.eraseDoneWritten die blk) s = .next s) ∧
  (∀ (s : State) (die blk : Nat) (e : Erase) (r : JRec), s.Inv → s.eraseOf die blk = some e → e.st = .passed →
    s.eraseRec e true = some r → s.headerReady r.jseq = true → s.Answers (.eraseDoneWritten die blk) (fun t => e ∉ t.md.erases ∧
      (∀ q ∈ t.lg.live, ∀ p c b, q.body = .eraseIntent die p c b → b ≠ e.blocks) ∧
      (∀ b, e.blocks.head? = some b → (s.blk die 0 b).st.keeps = false → (t.blk die 0 b).st = .free) ∧ s.OnlyIn [.regs, .evt, .hub, .out, .nv, .tr, .md, .lg, .rg, .dr, .ts] t)) ∧
  (∀ (s : State) (slice : Nat) (rows : List (Nat × Nat)) (h : Half), s.Inv → s.active = some h → s.rd Fd.SCH_PLAN_CTRL_COMMIT 0 h = 0 →
    ((s.sched.shifted.contains slice = false ∧ 250 ≤ s.sched.lowBars.getD slice 0 ∧
        s.movesSlice h slice rows 0 1 = true) ∨
      (s.sched.shifted.contains slice = true ∧ s.rd Fd.MED_GCCFG_STOP * s.sliceBlocks slice ≤ 1024 * s.sliceFree slice ∧
        s.movesSlice h slice rows 1 0 = true)) → s.Answers (.gcPlanShift slice rows) (fun t =>
      t.rd Fd.SCH_PLAN_CTRL_COMMIT 0 h = 1 ∧ t.sched.shifted.contains slice = !s.sched.shifted.contains slice ∧
      (∀ r ∈ rows, r.1 < 256 → (∀ q ∈ rows, q.1 = r.1 → q = r) → t.reg h Blk.SCH (Reg.SCH_PATROW.at r.1) = BitVec.ofNat 32 r.2) ∧
      s.OnlyIn [.regs, .sched] t)) ∧
  (∀ (s : State) (slice : Nat) (rows : List (Nat × Nat)), s.active = none ∨ (s.sched.shifted.contains slice = false ∧
      s.sched.lowBars.getD slice 0 < 250) ∨ (s.sched.shifted.contains slice = true ∧
      1024 * s.sliceFree slice < s.rd Fd.MED_GCCFG_STOP * s.sliceBlocks slice) → exec (.gcPlanShift slice rows) s = .next s) ∧
  (∀ s : State, (s.bt.onBeats + s.time.beat) % dayBeats ≠ 0 ∨ s.active = none → exec .wearBudgetCheck s = .next s) ∧
  (∀ s : State, s.Inv → (s.bt.onBeats + s.time.beat) % dayBeats = 0 → s.active.isSome = true →
    s.ratedErases * 30 * s.blockSum < (s.eraseSum false - s.md.snaps.headD 0) * 2555 → s.Answers .wearBudgetCheck (fun t =>
      t.rd Fd.MED_HEALTH_OVERBUDGET = 1 ∧ s.Reports t 0 0x0505 [] ∧ t.md.snaps.getLast? = some (s.eraseSum false) ∧
      s.RegsBut (keyOf Fd.MED_HEALTH_OVERBUDGET :: eventKeys) t ∧ s.OnlyIn [.regs, .evt, .md] t)) ∧
  (∀ s : State, s.Inv → (s.bt.onBeats + s.time.beat) % dayBeats = 0 → s.active.isSome = true →
    (s.eraseSum false - s.md.snaps.headD 0) * 2555 ≤ s.ratedErases * 30 * s.blockSum → s.Answers .wearBudgetCheck (fun t =>
      t.rd Fd.MED_HEALTH_OVERBUDGET = 0 ∧ t.md.snaps.getLast? = some (s.eraseSum false) ∧ t.evt = s.evt ∧
      s.RegsBut [keyOf Fd.MED_HEALTH_OVERBUDGET] t ∧ s.OnlyIn [.regs, .evt, .md] t))

/-- SLOT_CHOICE_WINDOW turns the order of the dies by one, and only marks operations that were waiting: none begins, ends, or
moves to another die (R53 to R59, R305, R306); where nothing sequences it changes nothing. RING_CARRY in a ring no more than
CARRYPCT % full carries nothing; in a fuller one whose only live record is valid it writes that record again at the head with a
later JSEQ and CARRIED set, and counts it (R323). LEDGER_PATROL counts a corrected word in LDG_CNT_CORR, an uncorrectable one in
LDG_CNT_UNCORR with the event of code 0x0A01, and sets LDG_PMRSTAT.HSTS to 3 where it lies in the PMR (R325, R327); a word that
passes, or a withdrawn device, counts nothing. -/
def Obligations.ChoicesCarriesAndLedgerPatrol : Prop :=
  (∀ s : State, s.sequencing = false → exec .slotChoiceWindow s = .next s) ∧
  (∀ s : State, s.sequencing = true → s.Answers .slotChoiceWindow (fun t => t.rg.rot = s.rg.rot + 1 ∧
    t.md.ops.map (fun o => (o.id, o.kind, o.die, o.ppa)) = s.md.ops.map (fun o => (o.id, o.kind, o.die, o.ppa)) ∧
    ((s.md.ops.map (fun o => o.id)).Nodup → ∀ o ∈ s.md.ops, o.st ≠ .wait → o ∈ t.md.ops) ∧
    (∀ o ∈ t.md.ops, o.st = .busy → ∃ x ∈ s.md.ops, x.id = o.id ∧ x.st = .busy) ∧
    t.md.flash = s.md.flash ∧ t.rg.loops = s.rg.loops ∧ s.OnlyIn [.md, .rg] t)) ∧
  (∀ s : State, s.ringFull = false ∨ s.lg.live = [] ∨ (∃ r ∈ s.lg.live, r.valid = false) → exec .ringCarry s = .next s) ∧
  (∀ (s : State) (r : JRec), s.Inv → s.ringFull = true → s.lg.live = [r] → r.valid = true → r.jseq < s.lg.jseq → r.body.typ ≠ 8 →
    s.ringUsed + 2 * (1 + r.body.words.length) < s.variant.ringWords → s.Answers .ringCarry (fun t =>
      t.lg.live.length = 1 ∧ (∃ q ∈ t.lg.live, q.body = r.body ∧ q.carried = true ∧ q.valid = true ∧ r.jseq < q.jseq) ∧
      t.rd Fd.LDG_CNT_CARRY_COUNT = min (2 ^ 32 - 1) (s.rd Fd.LDG_CNT_CARRY_COUNT + 1) ∧ s.OnlyIn [.regs, .tr, .lg] t)) ∧
  (∀ (s : State) (addr res : Nat), s.withdrawn = true ∨ res = 0 → exec (.ledgerPatrol addr res) s = .next s) ∧
  (∀ (s : State) (addr : Nat), s.Inv → s.withdrawn = false → s.Answers (.ledgerPatrol addr 1) (fun t =>
    t.rd Fd.LDG_CNT_CORR_COUNT = min (2 ^ 32 - 1) (s.rd Fd.LDG_CNT_CORR_COUNT + 1) ∧ s.RegsBut [keyOf Fd.LDG_CNT_CORR_COUNT] t ∧
    s.OnlyIn [.regs] t)) ∧
  (∀ (s : State) (addr res : Nat), s.Inv → s.withdrawn = false → 2 ≤ res → s.Answers (.ledgerPatrol addr res) (fun t =>
    t.rd Fd.LDG_CNT_UNCORR_COUNT = min (2 ^ 32 - 1) (s.rd Fd.LDG_CNT_UNCORR_COUNT + 1) ∧ s.Reports t 0 0x0A01 [] ∧
    (s.variant.pmr = true → 0x28C_0000 ≤ addr → addr < 0x390_0000 → t.rd Fd.LDG_PMRSTAT_HSTS = 3) ∧
    (s.variant.pmr = false ∨ addr < 0x28C_0000 ∨ 0x390_0000 ≤ addr → t.rd Fd.LDG_PMRSTAT_HSTS = s.rd Fd.LDG_PMRSTAT_HSTS) ∧
    s.RegsBut (keyOf Fd.LDG_CNT_UNCORR_COUNT :: keyOf Fd.LDG_PMRSTAT_HSTS :: eventKeys) t ∧ s.OnlyIn [.regs, .evt] t))

/-- CARTRIDGE_INSERTION records presence; SLOT_PRESENCE_DEBOUNCE of an EMPTY slot whose presence has lasted DEBOUNCE boundaries
makes it PRESENT, counts the insertion and, with AUTOON, powers it; REQON powers a slot that is PRESENT or OFF (R248); during an
output hold nothing powers a slot (the model's choice, log entry 170). SLOT_POWER_GOOD notes the beat of power good;
POWER_GOOD_TIMEOUT faults a slot without it after PGTIMEOUT bars; SLOT_TRAINING_START two bars after it begins training.
SLOT_TRAINING_DONE sets the state of both channels by their rates (R234): a slot with a usable die is IN_USE and its die in use,
one with none is in FAULT, and during start-up it stays in TRAINING (R460). No other slot changes. -/
def Obligations.SlotsComeUp : Prop :=
  (∀ (s : State) (n : Nat), (s.slot n).prsnt = true → exec (.cartridgeInsertion n) s = .next s) ∧
  (∀ (s : State) (n : Nat), n < s.variant.slotsN → n < s.slots.length → (s.slot n).prsnt = false → s.testSlot n = false →
    s.Answers (.cartridgeInsertion n) (fun t =>
      t.slot n = { s.slot n with prsnt := true, debounce := 0 } ∧ (∀ k, k ≠ n → t.slot k = s.slot k) ∧ s.OnlyIn [.slots] t)) ∧
  (∀ (s : State) (n : Nat), (s.slot n).st ≠ .empty ∨ (s.slot n).prsnt = false ∨ (s.slot n).debounce < s.rd Fd.CTG_CFG_DEBOUNCE ∨
    s.testSlot n = true → exec (.slotPresenceDebounce n) s = .next s) ∧
  (∀ (s : State) (n : Nat), s.Inv → n < s.variant.slotsN → n < s.slots.length → (s.slot n).st = .empty → (s.slot n).prsnt = true →
    s.rd Fd.CTG_CFG_DEBOUNCE ≤ (s.slot n).debounce → s.testSlot n = false → s.rd Fd.CTG_CFG_AUTOON = 0 ∨ s.hub.hold = true →
    s.Answers (.slotPresenceDebounce n) (fun t =>
      t.slot n = { s.slot n with st := .present } ∧ (∀ k, k ≠ n → t.slot k = s.slot k) ∧
      t.rd Fd.CTG_SLOTCNT_INSERT n = min (2 ^ 16 - 1) (s.rd Fd.CTG_SLOTCNT_INSERT n + 1) ∧
      s.RegsBut [keyOf Fd.CTG_SLOTCNT_INSERT n] t ∧ s.OnlyIn [.regs, .slots] t)) ∧
  (∀ (s : State) (n : Nat), s.Inv → n < s.variant.slotsN → n < s.slots.length → (s.slot n).st = .empty → (s.slot n).prsnt = true →
    s.rd Fd.CTG_CFG_DEBOUNCE ≤ (s.slot n).debounce → s.testSlot n = false → s.rd Fd.CTG_CFG_AUTOON = 1 → s.hub.hold = false →
    s.Answers (.slotPresenceDebounce n) (fun t => s.Powers t n ∧ (∀ k, k ≠ n → t.slot k = s.slot k) ∧
      t.rd Fd.CTG_SLOTCNT_INSERT n = min (2 ^ 16 - 1) (s.rd Fd.CTG_SLOTCNT_INSERT n + 1) ∧ s.OnlyIn [.regs, .slots] t)) ∧
  (∀ (s : State) (m n : Nat), s.Inv → n < s.variant.slotsN → n < s.slots.length → (s.slot n).st = .present ∨ (s.slot n).st = .off →
    s.testSlot n = false → s.hub.hold = false → s.Answers (.reqon m n) (fun t =>
      s.Powers t n ∧ (∀ k, k ≠ n → t.slot k = s.slot k) ∧ s.OnlyIn [.regs, .slots] t)) ∧
  (∀ (s : State) (m n : Nat), ((s.slot n).st ≠ .present ∧ (s.slot n).st ≠ .off) ∨ s.testSlot n = true ∨ s.hub.hold = true →
    exec (.reqon m n) s = .next s) ∧
  (∀ (s : State) (n : Nat), n < s.variant.slotsN → n < s.slots.length → s.Answers (.slotPowerGood n) (fun t =>
    t.slot n = { s.slot n with pwrgd := true, goodAt :=
      (if (s.slot n).st = .powering ∧ (s.slot n).goodAt = none then some s.time.beat else (s.slot n).goodAt) } ∧
    (∀ k, k ≠ n → t.slot k = s.slot k) ∧ s.OnlyIn [.slots] t)) ∧
  (∀ (s : State) (n : Nat), n < s.variant.slotsN → n < s.slots.length → (s.slot n).st = .powering → (s.slot n).goodAt = none →
    (s.slot n).onAt + s.rd Fd.CTG_CFG_PGTIMEOUT * 250 ≤ s.time.beat → s.hub.hold = false → s.Answers (.powerGoodTimeout n) (fun t =>
      t.slot n = { s.slot n with st := .fault, pwren := false } ∧ (∀ k, k ≠ n → t.slot k = s.slot k) ∧ s.OnlyIn [.slots] t)) ∧
  (∀ (s : State) (n : Nat), (s.slot n).st ≠ .powering ∨ (s.slot n).goodAt ≠ none ∨ s.hub.hold = true ∨
    s.time.beat < (s.slot n).onAt + s.rd Fd.CTG_CFG_PGTIMEOUT * 250 → exec (.powerGoodTimeout n) s = .next s) ∧
  (∀ (s : State) (n g : Nat), n < s.variant.slotsN → n < s.slots.length → (s.slot n).st = .powering → (s.slot n).goodAt = some g →
    g + 500 ≤ s.time.beat → s.Answers (.slotTrainingStart n) (fun t =>
      t.slot n = { s.slot n with st := .training } ∧ (∀ k, k ≠ n → t.slot k = s.slot k) ∧ s.OnlyIn [.slots] t)) ∧
  (∀ (s : State) (n : Nat), (s.slot n).st ≠ .powering ∨ (∀ g, (s.slot n).goodAt = some g → s.time.beat < g + 500) →
    exec (.slotTrainingStart n) s = .next s) ∧
  (∀ (s : State) (n : Nat) (r0 r1 : Option Nat) (found : List DieFound), (s.slot n).st ≠ .training ∨ s.hub.hold = true →
    exec (.slotTrainingDone n r0 r1 found) s = .next s) ∧
  (∀ (s : State) (n : Nat) (r0 r1 : Option Nat) (found : List DieFound), s.Inv → n < s.variant.slotsN → n < s.slots.length →
    (s.slot n).st = .training → s.hub.hold = false → s.Answers (.slotTrainingDone n r0 r1 found) (fun t =>
      t.rd Fd.FCH_CHSTAT_STATE (2 * n) = (match r0 with | some r => (if r < s.rd Fd.FCH_TRAINCFG_RATE then 2 else 1) | none => 3) ∧
      t.rd Fd.FCH_CHSTAT_STATE (2 * n + 1) = (match r1 with | some r => (if r < s.rd Fd.FCH_TRAINCFG_RATE then 2 else 1) | none => 3) ∧
      (∀ k, k ≠ n → t.slot k = s.slot k) ∧ s.OnlyIn [.regs, .freeCtr, .evt, .md, .lg, .slots, .rg] t)) ∧
  (∀ (s : State) (n : Nat) (r0 r1 : Option Nat) (found : List DieFound), s.Inv → n < s.variant.slotsN → n < s.slots.length →
    (s.slot n).st = .training → s.hub.hold = false → s.deciding = true → s.Answers (.slotTrainingDone n r0 r1 found) (fun t =>
      t.slot n = s.slot n ∧ t.md.blks = s.md.blks)) ∧
  (∀ (s : State) (n : Nat) (r0 r1 : Option Nat) (found : List DieFound), s.Inv → n < s.variant.slotsN → n < s.slots.length →
    (s.slot n).st = .training → s.hub.hold = false → s.deciding = false → (∀ f ∈ found, slotOf f.die ≠ n) →
    s.Answers (.slotTrainingDone n r0 r1 found) (fun t => t.slot n = { s.slot n with st := .fault, pwren := false } ∧
      t.md.dies = s.md.dies)) ∧
  (∀ (s : State) (n r0 r1 k : Nat) (f : DieFound), s.Inv → n < s.variant.slotsN → n < s.slots.length →
    (s.slot n).st = .training → s.hub.hold = false → s.deciding = false → slotOf f.die = n → f.die % 8 = 0 → f.dies = [] →
    f.media = some k → s.rd Fd.MED_GEOM_VALID k = 1 → s.fits k = true →
    s.Answers (.slotTrainingDone n (some r0) (some r1) [f]) (fun t =>
      (t.slot n).st = .inUse ∧ (t.slot n).pwren = (s.slot n).pwren ∧ (t.die f.die).st = 1 ∧ (t.die f.die).media = k ∧
      (∀ d, d ≠ f.die → t.die d = s.die d) ∧ (∀ j, j ≠ n → t.slot j = s.slot j)))

/-- BUTTON_PRESS, a sample at a bar boundary, registers the 20th low sample in a row, once until a high one (R247); a press,
REQOFF and CANCEL begin and cancel a planned removal, which the tests of R250 may refuse with an event of code 0x0701.
ABORT_WINDOW_END after the window closes the slot's stripes or refuses. SLOT_POWER_OFF, once no operation is in a die of the
slot, turns it OFF and its dies are in use no more. SURPRISE_REMOVAL, SLOT_PRESENCE_LOSS, POWER_GOOD_LOSS and SLOT_POWER_FAULT
of a slot that is IN_USE or REMOVING take its power and its dies away: EMPTY when presence is lost, FAULT otherwise (R251 to
R253); in the other states R248 says what follows. During an output hold the removal is detected, and settled after the release
(R403). Where its condition does not hold each changes nothing, as do those of a slot that the variant has not (R256). No other
slot changes. -/
def Obligations.SlotsGoDown : Prop :=
  (∀ (s : State) (n : Nat) (low : Bool), s.atBar = false → exec (.buttonPress n low) s = .next s) ∧
  (∀ (s : State) (n : Nat), n < s.variant.slotsN → n < s.slots.length → s.atBar = true → s.Answers (.buttonPress n false) (fun t =>
    t.slot n = { s.slot n with lowBars := 0, armed := true } ∧ (∀ k, k ≠ n → t.slot k = s.slot k) ∧ s.OnlyIn [.slots] t)) ∧
  (∀ (s : State) (n : Nat), n < s.variant.slotsN → n < s.slots.length → s.atBar = true → (s.slot n).armed = false ∨ (s.slot n).lowBars < 19 →
    s.Answers (.buttonPress n true) (fun t =>
      t.slot n = { s.slot n with lowBars := (s.slot n).lowBars + 1 } ∧ (∀ k, k ≠ n → t.slot k = s.slot k) ∧ s.OnlyIn [.slots] t)) ∧
  (∀ (s : State) (n : Nat), s.Inv → n < s.variant.slotsN → n < s.slots.length → s.atBar = true → (s.slot n).armed = true →
    19 ≤ (s.slot n).lowBars → s.Answers (.buttonPress n true) (fun t =>
      (t.slot n).btn = true ∧ (t.slot n).armed = false ∧ (t.slot n).lowBars = (s.slot n).lowBars + 1 ∧
      ((s.slot n).st = .present ∨ (s.slot n).st = .off → s.testSlot n = false → s.hub.hold = false →
        (t.slot n).st = .powering ∧ (t.slot n).pwren = true) ∧
      ((s.slot n).st = .inUse → (t.slot n).st = (if s.removalTest n = 0 then .removing else .inUse)) ∧
      ((s.slot n).st = .removing → (s.slot n).abortEnd.isSome = true → (t.slot n).st = .inUse) ∧
      (∀ k, k ≠ n → t.slot k = s.slot k) ∧ s.OnlyIn [.regs, .evt, .slots] t)) ∧
  (∀ (s : State) (m n : Nat), (s.slot n).st ≠ .inUse → exec (.reqoff m n) s = .next s) ∧
  (∀ (s : State) (m n : Nat), n < s.variant.slotsN → n < s.slots.length → (s.slot n).st = .inUse → s.removalTest n = 0 →
    s.Answers (.reqoff m n) (fun t =>
      t.slot n = { s.slot n with st := .removing, abortEnd := some (s.time.beat + s.rd Fd.CTG_CFG_ABORTWIN * 25000) } ∧
      (∀ k, k ≠ n → t.slot k = s.slot k) ∧ s.OnlyIn [.slots] t)) ∧
  (∀ (s : State) (m n : Nat), s.Inv → n < s.variant.slotsN → n < s.slots.length → (s.slot n).st = .inUse → s.removalTest n ≠ 0 →
    s.Answers (.reqoff m n) (fun t =>
      t.slot n = { s.slot n with st := .inUse, abortEnd := none, closing := false, blinkEnd := s.time.beat + 1250000 } ∧
      s.Records t 0 0x80 0x0701 [n, s.removalTest n, (s.slotDies n).length, 0] ∧ s.RegsBut eventKeys t ∧
      (∀ k, k ≠ n → t.slot k = s.slot k) ∧ s.OnlyIn [.regs, .evt, .slots] t)) ∧
  (∀ (s : State) (m n : Nat), (s.slot n).st ≠ .removing ∨ (s.slot n).abortEnd = none → exec (.cancel m n) s = .next s) ∧
  (∀ (s : State) (m n : Nat), s.Inv → n < s.variant.slotsN → n < s.slots.length → (s.slot n).st = .removing → (s.slot n).abortEnd ≠ none →
    s.Answers (.cancel m n) (fun t =>
      t.slot n = { s.slot n with st := .inUse, abortEnd := none } ∧ s.Records t 0 0x80 0x0701 [n, 4, (s.slotDies n).length, 0] ∧
      (∀ k, k ≠ n → t.slot k = s.slot k) ∧ s.RegsBut eventKeys t ∧ s.OnlyIn [.regs, .evt, .slots] t)) ∧
  (∀ (s : State) (n : Nat), (s.slot n).st ≠ .removing ∨ (∀ e, (s.slot n).abortEnd = some e → s.time.beat < e) →
    exec (.abortWindowEnd n) s = .next s) ∧
  (∀ (s : State) (n e : Nat), n < s.variant.slotsN → n < s.slots.length → (s.slot n).st = .removing → (s.slot n).abortEnd = some e →
    e ≤ s.time.beat → s.removalTest n = 0 → s.Answers (.abortWindowEnd n) (fun t =>
      t.slot n = { s.slot n with abortEnd := none, closing := true } ∧ (∀ k, k ≠ n → t.slot k = s.slot k) ∧ s.OnlyIn [.regs, .evt, .nv, .tr, .md, .lg, .slots] t)) ∧
  (∀ (s : State) (n e : Nat), s.Inv → n < s.variant.slotsN → n < s.slots.length → (s.slot n).st = .removing → (s.slot n).abortEnd = some e →
    e ≤ s.time.beat → s.removalTest n ≠ 0 → s.Answers (.abortWindowEnd n) (fun t =>
      t.slot n = { s.slot n with st := .inUse, abortEnd := none, closing := false, blinkEnd := s.time.beat + 1250000 } ∧
      s.Records t 0 0x80 0x0701 [n, s.removalTest n, (s.slotDies n).length, 0] ∧ (∀ k, k ≠ n → t.slot k = s.slot k))) ∧
  (∀ (s : State) (n : Nat), (s.slot n).st ≠ .removing ∨ (s.slot n).closing = false ∨ s.hub.hold = true ∨
    (∃ o ∈ s.md.ops, slotOf o.die = n ∧ (o.st = .busy ∨ o.st = .suspended)) → exec (.slotPowerOff n) s = .next s) ∧
  (∀ (s : State) (n : Nat), s.Inv → n < s.variant.slotsN → n < s.slots.length → (s.slot n).st = .removing → (s.slot n).closing = true →
    s.hub.hold = false → (∀ o ∈ s.md.ops, slotOf o.die = n → o.st ≠ .busy ∧ o.st ≠ .suspended) → s.Answers (.slotPowerOff n) (fun t =>
      t.slot n = { s.slot n with st := .off, pwren := false, pwrgd := false, closing := false, cause := 1 } ∧
      (∀ d ∈ s.slotDies n, (t.die d).st ≠ 1) ∧ (∀ k, k ≠ n → t.slot k = s.slot k) ∧ s.OnlyIn [.regs, .evt, .hub, .out, .nv, .tr, .md, .lg, .slots, .rg, .dr, .ts] t)) ∧
  (∀ (s : State) (n why : Nat), (s.slot n).st ≠ .inUse → (s.slot n).st ≠ .removing → exec (.surpriseRemoval n why) s = .next s) ∧
  (∀ (s : State) (n why : Nat), s.Inv → n < s.variant.slotsN → n < s.slots.length → (s.slot n).st = .inUse ∨ (s.slot n).st = .removing →
    s.Answers (.surpriseRemoval n why) (fun t => (t.slot n).st = (if why = 0 then .empty else .fault) ∧ (t.slot n).pwren = false ∧
      (t.slot n).prsnt = ((s.slot n).prsnt && decide (why ≠ 0)) ∧ (t.slot n).cause = (if why = 0 then 2 else 3) ∧
      (if s.hub.hold = true then (t.slot n).unsettled = some why ∧ t.md = s.md else ∀ d ∈ s.slotDies n, (t.die d).st ≠ 1) ∧
      (∀ k, k ≠ n → t.slot k = s.slot k) ∧ s.OnlyIn [.regs, .evt, .hub, .out, .nv, .tr, .md, .lg, .slots, .rg, .dr, .ts] t)) ∧
  (∀ (s : State) (n : Nat), s.Inv → n < s.variant.slotsN → n < s.slots.length → s.Answers (.slotPresenceLoss n) (fun t =>
    (t.slot n).st = .empty ∧ (t.slot n).prsnt = false ∧ (t.slot n).pwren = false ∧ (t.slot n).debounce = 0 ∧
    ((s.slot n).st = .inUse ∨ (s.slot n).st = .removing → s.hub.hold = false → ∀ d ∈ s.slotDies n, (t.die d).st ≠ 1) ∧
    (∀ k, k ≠ n → t.slot k = s.slot k) ∧ s.OnlyIn [.regs, .evt, .hub, .out, .nv, .tr, .md, .lg, .slots, .rg, .dr, .ts] t)) ∧
  (∀ (s : State) (n : Nat), s.Inv → n < s.variant.slotsN → n < s.slots.length → s.Answers (.powerGoodLoss n) (fun t =>
    (t.slot n).pwrgd = false ∧
    ((s.slot n).pwren = false → t.slot n = { s.slot n with pwrgd := false }) ∧
    ((s.slot n).pwren = true → (s.slot n).st = .inUse ∨ (s.slot n).st = .removing ∨ (s.slot n).st = .training ∨
      ((s.slot n).st = .powering ∧ (s.slot n).goodAt ≠ none) → (t.slot n).st = .fault ∧ (t.slot n).pwren = false) ∧
    ((s.slot n).pwren = true → (s.slot n).st = .inUse ∨ (s.slot n).st = .removing → s.hub.hold = false →
      ∀ d ∈ s.slotDies n, (t.die d).st ≠ 1) ∧
    ((s.slot n).st = .powering → (s.slot n).goodAt = none → t.slot n = { s.slot n with pwrgd := false }) ∧
    (∀ k, k ≠ n → t.slot k = s.slot k) ∧ s.OnlyIn [.regs, .evt, .hub, .out, .nv, .tr, .md, .lg, .slots, .rg, .dr, .ts] t)) ∧
  (∀ (s : State) (n : Nat), s.Inv → n < s.variant.slotsN → n < s.slots.length → s.Answers (.slotPowerFault n) (fun t =>
    (t.slot n).pwrflt = true ∧ (t.slot n).pwren = false ∧
    ((s.slot n).st = .inUse ∨ (s.slot n).st = .removing → s.hub.hold = false → ∀ d ∈ s.slotDies n, (t.die d).st ≠ 1) ∧
    (t.slot n).st = (match (s.slot n).st with | .inUse => .fault | .removing => .fault | .powering => .fault | .training => .fault | x => x) ∧
    (∀ k, k ≠ n → t.slot k = s.slot k) ∧ s.OnlyIn [.regs, .evt, .hub, .out, .nv, .tr, .md, .lg, .slots, .rg, .dr, .ts] t)) ∧
  (∀ (s : State) (m n why : Nat) (low : Bool), s.Inv → s.variant.slotsN ≤ n → s.slot n = Slot.init →
    ∀ i ∈ [Instr.buttonPress n low, .reqon m n, .reqoff m n, .cancel m n, .abortWindowEnd n, .slotPowerOff n, .surpriseRemoval n why,
      .slotPresenceLoss n, .powerGoodLoss n, .slotPowerFault n, .slotPowerGood n, .slotPresenceDebounce n, .slotTrainingStart n,
      .powerGoodTimeout n], exec i s = .next s)

/-- SCRUB_GO takes KIND and ID; with GO it begins the request, or refuses it with its REASON: 1 a request is in progress, 2
COUNT is 0, 3 the range ends beyond what there is (R282; the REASON of a kind that does not exist is a free value, as the spec
names none). SCRUB_CANCEL marks the request in progress. SCRUB_END at the end of the range, or at the bar boundary after a
cancel, writes the summary record, clears BUSY, sets DONE and raises the event of code 0x0804 (R283, R284; how the event's
arguments hold the summary is the model's choice, log entry 48). LOOP_STATE_SAVE every 1,000 bars adds one program of the
metadata stream (R301). Where its condition does not hold each changes nothing. -/
def Obligations.ScrubsRun : Prop :=
  (∀ (s : State) (m val : Nat), s.Inv → val % 2 = 0 → s.Answers (.scrubGo m val) (fun t => t.rd Fd.ECC_SCRUBCTRL_KIND = val / 4 % 4 ∧
    t.rd Fd.ECC_SCRUBCTRL_ID = val / 2 ^ 16 % 2 ^ 16 ∧ s.RegsBut [keyOf Fd.ECC_SCRUBCTRL_KIND] t ∧ s.OnlyIn [.regs] t)) ∧
  (∀ (s : State) (m val : Nat), s.Inv → val % 2 = 1 → s.md.scrub ≠ none ∨ s.rd Fd.ECC_SCRUBCOUNT_COUNT = 0 ∨ 2 ≤ val / 4 % 4 ∨
    (if val / 4 % 4 = 0 then s.exported else s.lastDie) < s.scrubStart (val / 4 % 4) + s.rd Fd.ECC_SCRUBCOUNT_COUNT →
    s.Answers (.scrubGo m val) (fun t => t.rd Fd.ECC_SCRUBSTAT_REJECT = 1 ∧ t.md = s.md ∧
      (s.md.scrub ≠ none → t.rd Fd.ECC_SCRUBSTAT_REASON = 1) ∧
      (s.md.scrub = none → s.rd Fd.ECC_SCRUBCOUNT_COUNT = 0 → t.rd Fd.ECC_SCRUBSTAT_REASON = 2) ∧
      (s.md.scrub = none → s.rd Fd.ECC_SCRUBCOUNT_COUNT ≠ 0 → val / 4 % 4 < 2 → t.rd Fd.ECC_SCRUBSTAT_REASON = 3) ∧
      s.Reports t 0 0x0803 [] ∧ s.RegsBut (keyOf Fd.ECC_SCRUBCTRL_KIND :: keyOf Fd.ECC_SCRUBSTAT_REJECT :: eventKeys) t ∧ s.OnlyIn [.regs, .freeCtr, .evt, .md] t)) ∧
  (∀ (s : State) (m val : Nat), s.Inv → val % 2 = 1 → s.md.scrub = none → s.rd Fd.ECC_SCRUBCOUNT_COUNT ≠ 0 → val / 4 % 4 < 2 →
    s.scrubStart (val / 4 % 4) + s.rd Fd.ECC_SCRUBCOUNT_COUNT ≤ (if val / 4 % 4 = 0 then s.exported else s.lastDie) →
    s.Answers (.scrubGo m val) (fun t => t.rd Fd.ECC_SCRUBSTAT_BUSY = 1 ∧ (∃ x ∈ t.md.scrub, x.id = val / 2 ^ 16 % 2 ^ 16 ∧
      x.kind = val / 4 % 4 ∧ x.start = s.scrubStart (val / 4 % 4) ∧ x.count = s.rd Fd.ECC_SCRUBCOUNT_COUNT ∧ x.cancel = false ∧
      x.begun = s.time.beat ∧ x.read = 0) ∧ s.RegsBut [keyOf Fd.ECC_SCRUBCTRL_KIND, keyOf Fd.ECC_SCRUBSTAT_BUSY] t ∧
      s.OnlyIn [.regs, .md] t)) ∧
  (∀ (s : State) (m : Nat), exec (.scrubCancel m) s = .next { s with md := { s.md with
    scrub := s.md.scrub.map (fun x => { x with cancel := true }) } }) ∧
  (∀ s : State, (∀ x, s.md.scrub = some x → (x.cancel = true ∧ s.atBar = false) ∨ (x.cancel = false ∧ s.scrubOver x = false)) →
    exec .scrubEnd s = .next s) ∧
  (∀ (s : State) (x : Scrub), s.Inv → s.md.scrub = some x → (x.cancel = true ∧ s.atBar = true) ∨ (x.cancel = false ∧ s.scrubOver x = true) →
    s.Answers .scrubEnd (fun t => t.md.scrub = none ∧ t.rd Fd.ECC_SCRUBSTAT_BUSY = 0 ∧ t.rd Fd.ECC_SCRUBSTAT_DONE = 1 ∧
      (∀ i < 16, t.rd Fd.ECC_SUM_WORD i = (x.words (if x.cancel then 1 else 0) s.time.beat).getD i 0 % 2 ^ 32) ∧
      s.Reports t 0 0x0804 (summaryArgs (x.words (if x.cancel then 1 else 0) s.time.beat)) ∧ s.OnlyIn [.regs, .evt, .md] t)) ∧
  (∀ s : State, s.active.isSome = true → s.hub.hold = false → s.atBar = true → s.bar % 1000 = 0 → s.dieNums ≠ [] →
    s.Answers .loopStateSave (fun t => s.md.ops <+: t.md.ops ∧ t.md.ops.length = s.md.ops.length + 1 ∧
      (∃ o ∈ t.md.ops.getLast?, o.kind = .program ∧ o.why = .metadata ∧ o.units = [2] ∧ o.st = .wait) ∧ t.rg.saving = s.rg.loops ∧
      s.OnlyIn [.md, .rg] t)) ∧
  (∀ s : State, s.active = none ∨ s.hub.hold = true ∨ s.atBar = false ∨ s.bar % 1000 ≠ 0 →
    exec .loopStateSave s = .next s)

/-- TO_MANUAL, SET_MAN, TO_AUTO, READ and CLEAR are held with BUSY until the next update (R300); one that comes while another is
held, that names a die that is absent, or a SET_MAN of a loop outside MANUAL, is refused with the event of code 0x0902.
LOOP_UPDATE changes no loop of the other engine, takes its own held command and clears BUSY; TO_MANUAL leaves the outputs where
they were (no bump, R295), CLEAR brings the loop to AUTO with outputs of 0, and READ shows mode and timer as they stood (R293,
R300). LOOP_ALARM of a loop in AUTO past FETIME holds its outputs in ALARM and counts it (R296); LOOP_REARM returns one with
REARM updates within its limit to AUTO (R297). -/
def Obligations.LoopsAreCommandedAndUpdated : Prop :=
  (∀ (s : State) (m die grp cyc : Nat), s.Inv → s.rg.cmd = none → (s.die die).st = 1 ∨ (s.die die).st = 2 →
    s.Answers (.toManual m die grp cyc) (fun t => s.LoopCmdTaken t die grp 1 (decide (400 ≤ cyc))) ∧
    s.Answers (.toAuto m die grp cyc) (fun t => s.LoopCmdTaken t die grp 3 (decide (400 ≤ cyc))) ∧
    s.Answers (.read m die grp cyc) (fun t => s.LoopCmdTaken t die grp 4 (decide (400 ≤ cyc))) ∧
    s.Answers (.clear m die grp cyc) (fun t => s.LoopCmdTaken t die grp 5 (decide (400 ≤ cyc)))) ∧
  (∀ (s : State) (m die grp cyc : Nat), s.Inv → s.rg.cmd = none → (s.die die).st = 1 ∨ (s.die die).st = 2 →
    (s.loop (loopKey die grp)).mode = 1 →
    s.Answers (.setMan m die grp cyc) (fun t => s.LoopCmdTaken t die grp 2 (decide (400 ≤ cyc)))) ∧
  (∀ (s : State) (m die grp cyc : Nat), s.Inv → s.rg.cmd ≠ none ∨ (s.die die).st = 0 ∨ (s.die die).st = 3 →
    ∀ i ∈ [Instr.toManual m die grp cyc, .setMan m die grp cyc, .toAuto m die grp cyc, .read m die grp cyc, .clear m die grp cyc],
      s.Answers i (fun t => s.LoopCmdRefused t die)) ∧
  (∀ (s : State) (m die grp cyc : Nat), s.Inv → (s.loop (loopKey die grp)).mode ≠ 1 →
    s.Answers (.setMan m die grp cyc) (fun t => s.LoopCmdRefused t die)) ∧
  (∀ (s : State) (eng : Nat), s.active = none → exec (.loopUpdate eng) s = .next s) ∧
  (∀ (s : State) (eng : Nat), s.Inv → s.active.isSome = true → s.Answers (.loopUpdate eng) (fun t =>
    (∀ key, engineOf (key / 16) ≠ eng → t.loop key = s.loop key) ∧
    (∀ x ∈ t.rg.meas, engineOf (x.key / 16) = eng → x.late = false ∧ { x with late := true } ∈ s.rg.meas) ∧
    (∀ c, s.rg.cmd = some c → engineOf (loopKey c.die c.grp / 16) = eng → c.late = false → t.rg.cmd = none ∧
      t.rd Fd.RGL_LOOPCMD_BUSY = 0) ∧ s.OnlyIn [.regs, .evt, .rg] t)) ∧
  (∀ (s : State) (die grp : Nat), s.Inv → s.active.isSome = true → grp < 16 → s.rg.cmd = some ⟨die, grp, 1, false⟩ →
    (s.loop (loopKey die grp)).mode = 0 → s.Answers (.loopUpdate (engineOf die)) (fun t =>
      (t.loop (loopKey die grp)).mode = 1 ∧ (t.loop (loopKey die grp)).timer = 0 ∧
      ∀ i < levelsOf (s.die die).media, nth (t.loop (loopKey die grp)).out i = nth (s.loop (loopKey die grp)).out i)) ∧
  (∀ (s : State) (die grp : Nat), s.Inv → s.active.isSome = true → grp < 16 → s.rg.cmd = some ⟨die, grp, 5, false⟩ →
    0 < s.rd Fd.RGL_FECFG_FETIME → s.Answers (.loopUpdate (engineOf die)) (fun t =>
      (t.loop (loopKey die grp)).mode = 0 ∧ (t.loop (loopKey die grp)).timer = 0 ∧
      ∀ i < 15, nth (t.loop (loopKey die grp)).out i = 0)) ∧
  (∀ (s : State) (die grp : Nat), s.Inv → s.active.isSome = true → grp < 16 → s.rg.cmd = some ⟨die, grp, 4, false⟩ →
    s.Answers (.loopUpdate (engineOf die)) (fun t => t.rd Fd.RGL_LOOPSTAT_MODE = (s.loop (loopKey die grp)).mode % 4 ∧
      t.rd Fd.RGL_LOOPSTAT_TIMER = (s.loop (loopKey die grp)).timer % 2 ^ 16)) ∧
  (∀ (s : State) (die grp : Nat), (s.loop (loopKey die grp)).mode ≠ 0 ∨ (s.loop (loopKey die grp)).timer < s.rd Fd.RGL_FECFG_FETIME →
    exec (.loopAlarm die grp) s = .next s) ∧
  (∀ (s : State) (die grp : Nat), s.Inv → grp < 16 → (s.loop (loopKey die grp)).mode = 0 →
    s.rd Fd.RGL_FECFG_FETIME ≤ (s.loop (loopKey die grp)).timer → s.Answers (.loopAlarm die grp) (fun t =>
      (t.loop (loopKey die grp)).mode = 2 ∧ (t.loop (loopKey die grp)).rearm = 0 ∧
      (∀ i < levelsOf (s.die die).media, nth (t.loop (loopKey die grp)).out i = nth (s.loop (loopKey die grp)).out i) ∧
      (∀ k, k ≠ loopKey die grp → t.loop k = s.loop k) ∧
      t.rd Fd.RGL_CNT_ALARM_COUNT = min (2 ^ 32 - 1) (s.rd Fd.RGL_CNT_ALARM_COUNT + 1) ∧ s.OnlyIn [.regs, .evt, .rg] t)) ∧
  (∀ (s : State) (die grp : Nat), (s.loop (loopKey die grp)).mode ≠ 2 ∨ s.rd Fd.RGL_CFG_AUTOREARM = 0 ∨
    (s.loop (loopKey die grp)).rearm < s.rd Fd.RGL_FECFG_REARM → exec (.loopRearm die grp) s = .next s) ∧
  (∀ (s : State) (die grp : Nat), s.Inv → grp < 16 → (s.loop (loopKey die grp)).mode = 2 → s.rd Fd.RGL_CFG_AUTOREARM = 1 →
    s.rd Fd.RGL_FECFG_REARM ≤ (s.loop (loopKey die grp)).rearm → s.Answers (.loopRearm die grp) (fun t =>
      (t.loop (loopKey die grp)).mode = 0 ∧ (t.loop (loopKey die grp)).rearm = 0 ∧ (∀ k, k ≠ loopKey die grp → t.loop k = s.loop k) ∧
      s.OnlyIn [.rg] t))

/-- ENVELOPE_UPDATE takes the package power and its peak, the voltage of every supply and whether it is in range (R303, R527);
while a half is ACTIVE it also takes the temperatures of the sensors, the package power of RGL_ENVSTAT, the critical throttle at
105 °C, and counts the boundaries in a row at 115 °C or more (R303, R309). THERMAL_FENCE after three of them enters the fenced
state with cause 5: every function reports fatal status, and the active half is the flusher (R413, R414); before that, or in the
fenced state, it changes nothing. -/
def Obligations.TheEnvelopeHolds : Prop :=
  (∀ (s : State) (pm : Nat) (temps : List Int) (rails : List (Nat × Nat)), s.Inv → s.Answers (.envelopeUpdate pm temps rails) (fun t =>
    t.rd Fd.PWR_PKG_PM = min 65535 pm ∧ t.rd Fd.PWR_PKG_PEAK = max (s.rd Fd.PWR_PKG_PEAK) (min 65535 pm) ∧
    (∀ k v p, k < 9 → rails[k]? = some (v, p) → t.rd Fd.PWR_MEAS_VOLT k = v % 2 ^ 14 ∧ bit (t.rd Fd.PWR_STAT_INRANGE) k = supplyOk k v) ∧
    (s.active = none → t.rg = s.rg) ∧
    (s.active.isSome = true → t.rd Fd.RGL_ENVSTAT_PM = min 65535 pm ∧
      (∀ i < 8, sensorValid s.variant (i + 1) = true → t.rd Fd.RGL_TEMP_T i = toBits 12 (nth temps i) ∧ t.rd Fd.RGL_TEMP_VALID i = 1 ∧
        nth t.rg.temps i = nth temps i) ∧
      t.rd Fd.RGL_THRSTAT_CRIT = (if 1680 ≤ t.composite then 1 else 0) ∧
      t.rg.hot = (if 1840 ≤ t.composite then s.rg.hot + 1 else 0)) ∧ s.OnlyIn [.regs, .evt, .out, .nv, .tr, .lg, .rg] t)) ∧
  (∀ s : State, s.rg.hot < 3 ∨ s.hub.fenced = true → exec .thermalFence s = .next s) ∧
  (∀ s : State, s.Inv → 3 ≤ s.rg.hot → s.hub.fenced = false → s.Answers .thermalFence (fun t => t.hub.fenced = true ∧
    t.rd Fd.SAF_FENCE_CAUSE = 5 ∧ t.hub.flusher = s.active ∧ t.hub.outputsHeld = s.active.isNone ∧ (∀ f < 256, (t.fn f).cfs = true) ∧
    s.Records t 0 0x80 0x0D04 [5, flusherCode s.active, s.rd Fd.SAF_HUBFLT_UNIT, 0] ∧ s.OnlyIn [.regs, .evt, .hub, .out, .nv, .ts] t))

/-- POWER_LOSS_DETECTED latches PF and PWRFAIL; where no sequence runs it begins one, and once recovery has begun LDG_STAT.MODE
is 2 and no part whose COMMIT has not begun remains (R334, R533). FLUSH_START at the boundary after it starts the flush: no read
goes on, and what was chosen is not issued; in the fenced state its flusher starts it (R415). FLUSH_DONE_WRITE, once every unit
has its directory word and no program is in flight, writes FLUSH_DONE, after which the outputs are held and the recorder has
stopped (R319, R334, R506); when PWRFAIL_N is high after it the hold-up reset follows (R336). EPOCH_RELEASE writes RELEASE,
advances the epoch and lets the kept units go (R339). Where its condition does not hold each changes nothing further. -/
def Obligations.PowerLossIsMet : Prop :=
  (∀ s : State, s.Inv → s.Answers .powerLossDetected (fun t => t.rd Fd.LDG_STAT_PF = 1 ∧ t.rd Fd.PWR_STAT_PWRFAIL = 1 ∧
    (s.lg.loss ≠ none ∨ s.hub.fenced = true → t.lg = s.lg ∧ s.RegsBut [keyOf Fd.LDG_STAT_PF, keyOf Fd.PWR_STAT_PWRFAIL] t) ∧
    (s.lg.loss = none → s.hub.fenced = false → s.beforeRecovery = true → t.lg = { s.lg with loss := some ⟨s.time.beat, false, false, 0, 0⟩ } ∧
      t.tr = s.tr) ∧
    (s.lg.loss = none → s.hub.fenced = false → s.beforeRecovery = false → t.lg.loss = some ⟨s.time.beat, false, false, 0, 0⟩ ∧
      t.rd Fd.LDG_STAT_MODE = 2 ∧ (∀ p ∈ t.tr.parts, p.begun = true) ∧ (∀ p ∈ s.tr.parts, p.begun = true →
        (∀ q ∈ s.tr.parts, q.begun = false → q.id ≠ p.id ∧ (q.ctx = none ∨ q.ctx ≠ p.ctx)) → p ∈ t.tr.parts)) ∧ s.OnlyIn [.regs, .evt, .hub, .nv, .tr, .md, .lg, .sv, .ts] t)) ∧
  (∀ s : State, s.hub.fenced = false → (∀ l, s.lg.loss = some l → l.flushing = true ∨ s.time.beat ≤ l.at_ ∨ s.beforeRecovery = true ∨
    s.active = none ∨ s.hub.hold = true) → exec .flushStart s = .next s) ∧
  (∀ s : State, s.hub.fenced = true → s.hub.flusher = none ∨ s.lg.loss ≠ none ∨ s.hub.outputsHeld = true → exec .flushStart s = .next s) ∧
  (∀ (s : State) (l : PLoss), s.hub.fenced = false → s.lg.loss = some l → l.flushing = false → l.at_ < s.time.beat →
    s.beforeRecovery = false → s.active.isSome = true → s.hub.hold = false → s.Answers .flushStart (fun t =>
      t.lg.loss = some { l with flushing := true } ∧ (∀ o ∈ t.md.ops, o.st ≠ .chosen ∧ (o.kind = .read → o.st = .suspended)) ∧
      (∀ o ∈ s.md.ops, o.kind = .program → o.st = .busy → o ∈ t.md.ops) ∧ s.OnlyIn [.regs, .evt, .hub, .out, .nv, .tr, .md, .lg, .slots, .rg, .dr, .sv, .ts] t)) ∧
  (∀ s : State, s.hub.fenced = true → s.hub.flusher.isSome = true → s.lg.loss = none → s.hub.outputsHeld = false →
    s.Answers .flushStart (fun t => t.lg.loss = some ⟨s.time.beat, true, false, 0, 0⟩ ∧ (∀ p ∈ t.tr.parts, p.begun = true) ∧
      s.OnlyIn [.regs, .evt, .hub, .out, .nv, .tr, .md, .lg, .slots, .rg, .dr, .sv, .ts] t)) ∧
  (∀ (s : State) (high : Bool), s.lg.loss = none → exec (.flushDoneWrite high) s = .next s) ∧
  (∀ (s : State) (l : PLoss), s.lg.loss = some l → l.why ≠ 1 → l.done = true ∨ (l.flushing = false ∧ s.beforeRecovery = true) →
    exec (.flushDoneWrite false) s = .next s ∧ exec (.flushDoneWrite true) s = .next (s.powerOn 4 0)) ∧
  (∀ (s : State) (l : PLoss) (high : Bool), s.lg.loss = some l → l.done = false → l.flushing = true → s.programsInFlight = true ∨
    (s.channelsUsed ≠ [] ∧ ∃ u ∈ s.unitsToFlush, s.dirValid u = false) → exec (.flushDoneWrite high) s = .next s) ∧
  (∀ (s : State) (l : PLoss), s.Inv → s.lg.loss = some l → l.done = false → l.flushing = true → l.why = 0 → s.programsInFlight = false →
    (∀ u ∈ s.unitsToFlush, s.dirValid u = true) → (∀ r ∈ s.lg.live, r.valid = true) → s.ringUsed + 6 < s.variant.ringWords →
    s.Answers (.flushDoneWrite false) (fun t => t.lg.loss = some { l with done := true } ∧ t.hub.outputsHeld = true ∧ t.evt.stopped = true ∧
      t.lg.flushRec = some (l.units, !s.channelsUsed.isEmpty, s.unsafeNow) ∧
      t.rd Fd.LDG_HOLDSTAT_LAST = min 65535 (s.time.beat - l.at_) ∧ (s.hub.fenced = true → t.rd Fd.SAF_FENCE_FLUSHED = 1) ∧
      (∃ r ∈ t.lg.live, r.valid = true ∧ r.body = .flushDone l.units (s.rd Fd.LDG_STAT_EPOCH) (!s.channelsUsed.isEmpty) s.unsafeNow l.at_) ∧
      s.OnlyIn [.time, .regs, .hi, .readData, .freeCtr, .evt, .chan, .locks, .hub, .sched, .out, .nv, .tr, .md, .lg, .slots, .rg, .dr, .bf, .bt, .sv, .ts] t)) ∧
  (∀ s : State, s.lg.toRelease = false ∨ s.reloadedOk = false ∨ s.holdReady = false ∨ s.active = none ∨ s.hub.hold = true ∨
    s.lg.loss ≠ none ∨ s.hub.fenced = true → exec .epochRelease s = .next s) ∧
  (∀ s : State, s.Inv → s.lg.toRelease = true → s.reloadedOk = true → s.holdReady = true → s.active.isSome = true → s.hub.hold = false →
    s.lg.loss = none → s.hub.fenced = false → (∀ r ∈ s.lg.live, r.valid = true) → s.ringUsed + 4 < s.variant.ringWords →
    s.Answers .epochRelease (fun t => t.rd Fd.LDG_STAT_EPOCH = (s.rd Fd.LDG_STAT_EPOCH + 1) % 65536 ∧ t.lg.toRelease = false ∧
      t.lg.reloaded = [] ∧ t.lg.flushOld = [] ∧
      (∃ r ∈ t.lg.live, r.valid = true ∧ r.body = .release (s.rd Fd.LDG_STAT_EPOCH)) ∧ s.OnlyIn [.regs, .md, .lg] t))

/-- DRAM_REQUEST_ARRIVAL of a port that is present, while a half is ACTIVE, queues a request within the port's regions; a write
outside them is a control fault (the slice it names is the model's choice, log entry 51), a read outside them is refused (R348,
R349). So is a request of a half at a port that is not its own: the standby half has the mirror port alone (R27; that its write
is a control fault of that half is the model's reading, log entry 163). A read that meets an earlier write of its line in an
open row switches the row to in-order mode, counted (R355). DRAM_COMMAND_ISSUE issues one request that may be issued: it costs
its port a credit and opens its row; a write leaves the queue, a read waits for its data (R350 to R356); where the hub's own
command comes first, or nothing may be issued, nothing changes. DRAM_READ_RETURN takes an issued read out of the queue; its line
decodes by the symbols in error (R361, R363); an uncorrectable line counts, a bad line of the write buffer marks the copy that
lies there, and the read of a merge entry makes its write ready (R361 to R365). MAPWAIT_PUBLISH estimates the wait of the map
port (R353). DRAM_REFRESH issues the hub's command, postpones it while the rank is in repair, and does nothing while a test
holds the pads (R358, R369). -/
def Obligations.DramRequestsAreServed : Prop :=
  (∀ (s : State) (port : Nat) (wr : Bool) (line : Nat) (part : Bool) (h : Half) (rfs : Bool),
    s.active = none ∨ portPresent s.variant port = false ∨ (s.variant.twin = false ∧ h = .b) →
    exec (.dramRequestArrival port wr line part h rfs) s = .next s) ∧
  (∀ (s : State) (act : Half) (port line : Nat) (part : Bool) (h : Half) (rfs : Bool), s.active = some act →
    portPresent s.variant port = true → s.variant.twin = true ∨ h = .a → (h = act ↔ port = 4) →
    exec (.dramRequestArrival port true line part h rfs) s = .next (s.controlFault h 12 (portSlice port)) ∧
    exec (.dramRequestArrival port false line part h rfs) s = .next s) ∧
  (∀ (s : State) (act : Half) (port line : Nat) (part : Bool) (h : Half) (rfs : Bool), s.active = some act →
    portPresent s.variant port = true → s.variant.twin = true ∨ h = .a → (h = act ↔ port ≠ 4) →
    (portWrites act port (dramRegion line) = false → exec (.dramRequestArrival port true line part h rfs) s =
      .next (s.controlFault h 12 (portSlice port))) ∧
    (portReads act port (dramRegion line) = false → exec (.dramRequestArrival port false line part h rfs) s = .next s)) ∧
  (∀ (s : State) (act : Half) (port line : Nat) (wr part : Bool) (h : Half) (rfs : Bool), s.Inv → s.active = some act →
    portPresent s.variant port = true → s.variant.twin = true ∨ h = .a → (h = act ↔ port ≠ 4) →
    (if wr then portWrites act port (dramRegion line) else portReads act port (dramRegion line)) = true →
    s.Answers (.dramRequestArrival port wr line part h rfs) (fun t =>
      s.dr.queue ++ [⟨s.dr.nextReq, port, wr, rfs, line, part, h, s.time.beat, s.time.cycle, false⟩] <+: t.dr.queue ∧
      (∀ q ∈ t.dr.queue.drop (s.dr.queue.length + 1), q.wr = false ∧ q.part = false ∧ s.dr.nextReq < q.id) ∧
      (wr = false → s.rowOpen line = true → (∃ q ∈ s.dr.queue, q.wr = true ∧ q.issued = false ∧ q.line = line) →
        (∀ p ∈ s.dr.inOrder, p.1 ≠ lineRow line) → (lineRow line, s.dr.nextReq) ∈ t.dr.inOrder ∧
        t.rd Fd.DRC_CNT_INORDER_COUNT = min (2 ^ 32 - 1) (s.rd Fd.DRC_CNT_INORDER_COUNT + 1)) ∧ s.OnlyIn [.regs, .dr] t)) ∧
  (∀ s : State, exec (.dramCommandIssue true) s = .next s) ∧
  (∀ s : State, (∀ r ∈ s.dr.queue, s.issuable r = false) → exec (.dramCommandIssue false) s = .next s) ∧
  (∀ s : State, s.Inv → (∀ q ∈ s.dr.queue, q.id < s.dr.nextReq) → (∃ r ∈ s.dr.queue, s.issuable r = true) →
    s.Answers (.dramCommandIssue false) (fun t => ∃ r ∈ s.dr.queue, s.issuable r = true ∧ 
      spGet (fun _ => 0) t.dr.served r.port = spGet (fun _ => 0) s.dr.served r.port + 1 ∧
      t.rowOpen r.line = true ∧ (r.wr = true → ∀ q ∈ t.dr.queue, q.id ≠ r.id) ∧
      (r.wr = false → { r with issued := true } ∈ t.dr.queue) ∧ s.OnlyIn [.regs, .dr] t)) ∧
  (∀ (s : State) (id : Nat) (errs : List (Nat × Nat)), (∀ r ∈ s.dr.queue, r.id = id → r.issued = false) →
    exec (.dramReadReturn id errs) s = .next s) ∧
  (∀ (s : State) (id : Nat) (errs : List (Nat × Nat)) (r : DReq), s.Inv → s.dr.queue.find? (fun q => q.id == id && q.issued) = some r →
    Machine.LineRes.bad (s.decodeLine r.line errs) = false → s.Answers (.dramReadReturn id errs) (fun t =>
      t.dr.queue = s.dr.queue.filter (fun q => q.id != id) ∧
      (∀ m ∈ s.dr.merge, m.readId = some id → { m with readId := none, bad := false } ∈ t.dr.merge) ∧
      (s.decodeLine r.line errs = .clean → s.RegsBut [keyOf Fd.DRC_CNT_LATE_COUNT r.port] t ∧ s.OnlyIn [.regs, .dr] t) ∧
      s.OnlyIn [.regs, .evt, .dr] t)) ∧
  (∀ (s : State) (id : Nat) (errs : List (Nat × Nat)) (r : DReq), s.Inv → s.dr.queue.find? (fun q => q.id == id && q.issued) = some r →
    r.port < 6 → Machine.LineRes.bad (s.decodeLine r.line errs) = true → s.Answers (.dramReadReturn id errs) (fun t =>
      (s.decodeLine r.line errs = .uncorrectable →
        t.rd Fd.DRC_CNT_UNCORR_COUNT = min (2 ^ 32 - 1) (s.rd Fd.DRC_CNT_UNCORR_COUNT + 1)) ∧
      (∀ m ∈ s.dr.merge, m.readId = some id → { m with readId := none, bad := true } ∈ t.dr.merge) ∧
      (dramRegion r.line = wbRegion s.act → ∀ v ∈ t.tr.vers,
        (r.line * 64 - 0x4000_0000) % 0x1000_0000 / 4096 ∈ v.units → v.primBad = true) ∧ s.OnlyIn [.regs, .freeCtr, .evt, .hub, .out, .nv, .tr, .md, .dr, .ts] t)) ∧
  (∀ (s : State) (line : Nat) (errs : List (Nat × Nat)), s.rd Fd.DRC_DEVSTAT_FAILED (lineSr s.ranks2 line) = 0 →
    spGet (fun _ => 0) s.dr.flips line = 0 → (∀ e ∈ errs, e.1 < 10 ∧ e.2 ≤ 8) → (errs.map (fun e => e.1)).Nodup →
    s.decodeLine line errs = (if line ∈ s.dr.poisoned then .poisoned
      else if ∀ e ∈ errs, e.2 = 0 then .clean
      else if sumOf (fun e => e.2) errs ≤ 8 then
        .corrected ((List.range 10).filter (fun d => errs.any (fun e => e.1 == d && decide (e.2 ≠ 0))))
      else .uncorrectable)) ∧
  (∀ (s : State) (line sr dev : Nat), sr = lineSr s.ranks2 line → dev < 10 → s.rd Fd.DRC_DEVSTAT_FAILED sr = 1 →
    s.rd Fd.DRC_DEVSTAT_DEVICE sr = dev → line ∉ s.dr.poisoned → spGet (fun _ => 0) s.dr.flips line = 0 →
    (∀ n ≤ 4, ∀ k < 10, k ≠ dev → Machine.LineRes.bad (s.decodeLine line [(dev, 8), (k, n)]) = false) ∧
    (∀ n, 4 < n → ∀ k < 10, k ≠ dev → s.decodeLine line [(dev, 8), (k, n)] = .uncorrectable)) ∧
  (∀ s : State, s.Inv → s.Answers .mapwaitPublish (fun t =>
    t.rd Fd.DRC_MAPWAIT_EST =
      (match s.dr.queue.filter (fun r => r.port == 0 && !r.issued && !s.dr.merge.any (fun m => m.readId == some r.id)) with
        | [] => 0
        | r :: more => min 65535 (s.elapsed r + 16 * more.length)) ∧
    s.RegsBut [keyOf Fd.DRC_MAPWAIT_EST] t ∧ s.OnlyIn [.regs] t)) ∧
  (∀ (s : State) (kind sr : Nat), s.postponed sr = true → s.Answers (.dramRefresh kind sr) (fun t =>
    t.dr = { s.dr with postponed := t.dr.postponed } ∧
    (∀ k, spGet (fun _ => 0) t.dr.postponed k = spGet (fun _ => 0) s.dr.postponed k + (if k = 16 * kind + sr then 1 else 0)) ∧
    s.OnlyIn [.dr] t)) ∧
  (∀ (s : State) (kind sr : Nat), s.postponed sr = false → s.testRuns 4 = true → s.rd Fd.TST_CTRL_DEPTH < 2 →
    exec (.dramRefresh kind sr) s = .next s) ∧
  (∀ (s : State) (kind sr : Nat), s.postponed sr = false → s.testRuns 4 = false ∨ 2 ≤ s.rd Fd.TST_CTRL_DEPTH →
    s.Answers (.dramRefresh kind sr) (fun t =>
      spGet (fun _ => 0) t.dr.refreshes (16 * kind + sr) = spGet (fun _ => 0) s.dr.refreshes (16 * kind + sr) + 1 ∧
      (∀ k, k ≠ 16 * kind + sr → spGet (fun _ => 0) t.dr.refreshes k = spGet (fun _ => 0) s.dr.refreshes k) ∧
      t.dr = { s.dr with refreshes := t.dr.refreshes } ∧ s.OnlyIn [.dr] t))

/-- DRAM_PATROL_READ of the next line of the patrol, or of the scrub in progress, moves on by one line; a corrected line and an
uncorrectable one count, the latter with the event of code 0x0B04 and its address; at the end of a pass PASSES counts and the
pass begins again (R361, R362, R366, R367). DEVICE_MARKED_FAILED marks a device that has reached DEVTHR, with the event of code
0x0B03, once (R362). ROW_REPAIR_QUEUED queues a row that has reached ROWTHR, or sets EXHAUST where no resource is free;
ROW_REPAIR_START takes the first queued row out of service for PGMBEATS beats, and ROW_REPAIR_END lists it, writes its lines
back, poisoned where they were, and issues the postponed refreshes (R368, R369). DRAM_SCRUB_GO, DRAM_SCRUB_CANCEL and
DRAM_SCRUB_END begin or refuse, cancel and end a range scrub (R367; how the event of its end holds the summary is the model's
choice, log entry 48). Where its condition does not hold each changes nothing. -/
def Obligations.DramIsPatrolledAndRepaired : Prop :=
  (∀ (s : State) (line : Nat) (errs : List (Nat × Nat)), s.withdrawn = true ∨
    (s.dr.scrub = none ∧ (line ≠ s.dr.patrolAt ∨ s.dramLines ≤ line)) ∨
    (∃ x ∈ s.dr.scrub, line ≠ x.next ∨ x.start + x.count ≤ x.next) → exec (.dramPatrolRead line errs) s = .next s) ∧
  (∀ (s : State) (errs : List (Nat × Nat)), s.Inv → s.withdrawn = false → s.dr.scrub = none → s.dr.patrolAt + 1 < s.dramLines →
    s.Answers (.dramPatrolRead s.dr.patrolAt errs) (fun t => t.dr.patrolAt = s.dr.patrolAt + 1 ∧
      t.rd Fd.DRC_PATROLSTAT_PROGRESS = min 1023 (1024 * (s.dr.patrolAt + 1) / s.dramLines) ∧
      (s.decodeLine s.dr.patrolAt errs = .clean → s.RegsBut [keyOf Fd.DRC_PATROLSTAT_PROGRESS] t) ∧
      (∀ devs, s.decodeLine s.dr.patrolAt errs = .corrected devs →
        t.rd Fd.DRC_CNT_CORR_COUNT = min (2 ^ 32 - 1) (s.rd Fd.DRC_CNT_CORR_COUNT + 1) ∧
        (∀ dev ∈ devs, (lineSr s.ranks2 s.dr.patrolAt, dev, lineBank s.dr.patrolAt, lineRowNo s.ranks2 s.dr.patrolAt, s.dr.patrolAt) ∈
          t.dr.rowSeen)) ∧
      (s.decodeLine s.dr.patrolAt errs = .uncorrectable →
        t.rd Fd.DRC_CNT_UNCORR_COUNT = min (2 ^ 32 - 1) (s.rd Fd.DRC_CNT_UNCORR_COUNT + 1) ∧
        s.Reports t 0 0x0B04 [s.dr.patrolAt * 64]) ∧ s.OnlyIn [.regs, .freeCtr, .evt, .hub, .out, .nv, .tr, .md, .dr, .ts] t)) ∧
  (∀ (s : State) (errs : List (Nat × Nat)), s.Inv → s.withdrawn = false → s.dr.scrub = none → s.dr.patrolAt + 1 = s.dramLines →
    s.Answers (.dramPatrolRead s.dr.patrolAt errs) (fun t => t.dr.patrolAt = 0 ∧ t.dr.rowSeen = [] ∧
      t.rd Fd.DRC_PATROLSTAT_PASSES = min (2 ^ 16 - 1) (s.rd Fd.DRC_PATROLSTAT_PASSES + 1))) ∧
  (∀ (s : State) (x : DScrub) (errs : List (Nat × Nat)), s.Inv → s.withdrawn = false → s.dr.scrub = some x → x.next < x.start + x.count →
    s.Answers (.dramPatrolRead x.next errs) (fun t => (∃ y ∈ t.dr.scrub, y.next = x.next + 1 ∧ y.id = x.id ∧ y.start = x.start ∧
      y.count = x.count ∧ y.cancel = x.cancel ∧ y.uncorr = x.uncorr + (if s.decodeLine x.next errs = .uncorrectable then 1 else 0) ∧
      y.poisoned = x.poisoned + (if s.decodeLine x.next errs = .poisoned then 1 else 0)) ∧ t.dr.patrolAt = s.dr.patrolAt ∧
      t.rd Fd.DRC_SCRUBSTAT_PROGRESS = min 255 (256 * (x.next + 1 - x.start) / x.count))) ∧
  (∀ (s : State) (sr dev : Nat), s.rd Fd.DRC_DEVSTAT_FAILED sr = 1 ∨ s.devLines sr dev < s.rd Fd.DRC_ECCCFG_DEVTHR →
    exec (.deviceMarkedFailed sr dev) s = .next s) ∧
  (∀ (s : State) (sr dev : Nat), s.Inv → sr < 16 → s.rd Fd.DRC_DEVSTAT_FAILED sr = 0 → s.rd Fd.DRC_ECCCFG_DEVTHR ≤ s.devLines sr dev →
    s.Answers (.deviceMarkedFailed sr dev) (fun t => t.rd Fd.DRC_DEVSTAT_FAILED sr = 1 ∧ t.rd Fd.DRC_DEVSTAT_DEVICE sr = dev % 16 ∧
      t.rd Fd.DRC_STAT_ERASURE = 1 ∧ s.Reports t 0 0x0B03 [] ∧
      s.RegsBut (keyOf Fd.DRC_DEVSTAT_FAILED sr :: keyOf Fd.DRC_STAT_ERASURE :: eventKeys) t ∧ s.OnlyIn [.regs, .evt] t)) ∧
  (∀ (s : State) (sr dev bank row : Nat) (free : Bool), s.rowLines sr dev bank row < s.rd Fd.DRC_PPRCFG_ROWTHR ∨
    s.rowKnown ⟨sr, dev, bank, row, false⟩ = true ∨ (free = false ∧ s.rd Fd.DRC_PPRSTAT_EXHAUST = 1) →
    exec (.rowRepairQueued sr dev bank row free) s = .next s) ∧
  (∀ (s : State) (sr dev bank row : Nat), s.Inv → s.rd Fd.DRC_PPRCFG_ROWTHR ≤ s.rowLines sr dev bank row →
    s.rowKnown ⟨sr, dev, bank, row, false⟩ = false →
    (s.rd Fd.DRC_PPRSTAT_EXHAUST = 0 → s.Answers (.rowRepairQueued sr dev bank row false) (fun t => t.rd Fd.DRC_PPRSTAT_EXHAUST = 1 ∧
      s.Reports t 0 0x0B06 [] ∧ t.dr = s.dr ∧ s.RegsBut (keyOf Fd.DRC_PPRSTAT_EXHAUST :: eventKeys) t)) ∧
    s.Answers (.rowRepairQueued sr dev bank row true) (fun t =>
      (s.inService = true → t.dr.repairQ = s.dr.repairQ ++ [⟨sr, dev, bank, row, false⟩] ∧ s.OnlyIn [.dr] t) ∧
      (s.inService = false → t.dr.repairQ = s.dr.repairQ ∧ t.rd Fd.DRC_PPRSTAT_LISTED = t.repairRows.length % 2 ^ 9) ∧
      s.OnlyIn [.regs, .evt, .dr, .bt] t)) ∧
  (∀ s : State, s.dr.repairQ = [] ∨ s.inService = false ∨ s.holdReady = false ∨ s.dr.repair ≠ none → exec .rowRepairStart s = .next s) ∧
  (∀ (s : State) (x : RepRow) (rest : List RepRow), s.Inv → s.dr.repairQ = x :: rest → s.inService = true → s.holdReady = true →
    s.dr.repair = none → s.Answers .rowRepairStart (fun t => t.dr = { s.dr with repairQ := rest, repair := some (x, s.time.beat, s.dr.nextReq) } ∧
      t.rd Fd.DRC_STAT_REPAIR = 1 ∧ s.RegsBut [keyOf Fd.DRC_STAT_REPAIR] t ∧ s.OnlyIn [.regs, .dr] t)) ∧
  (∀ (s : State) (reads : List (Nat × List (Nat × Nat))),
    (∀ x b n, s.dr.repair = some (x, b, n) → s.time.beat < b + s.rd Fd.DRC_PPRCFG_PGMBEATS) → exec (.rowRepairEnd reads) s = .next s) ∧
  (∀ (s : State) (reads : List (Nat × List (Nat × Nat))) (x : RepRow) (b n : Nat), s.Inv → s.dr.repair = some (x, b, n) →
    b + s.rd Fd.DRC_PPRCFG_PGMBEATS ≤ s.time.beat → s.Answers (.rowRepairEnd reads) (fun t =>
      t.dr = { s.dr with
        repair := none, postponed := [], refreshes := t.dr.refreshes, poisoned := t.dr.poisoned, flips := t.dr.flips,
        rowSeen := t.dr.rowSeen } ∧ t.rd Fd.DRC_STAT_REPAIR = 0 ∧
      t.rd Fd.DRC_CNT_PPR_COUNT = min (2 ^ 32 - 1) (s.rd Fd.DRC_CNT_PPR_COUNT + 1) ∧
      (Memory.wf (fun _ => 0) s.dr.postponed = true → ∀ k, spGet (fun _ => 0) t.dr.refreshes k =
        spGet (fun _ => 0) s.dr.refreshes k + spGet (fun _ => 0) s.dr.postponed k) ∧
      (∀ l, l ∉ s.rowLinesOf x → (l ∈ t.dr.poisoned ↔ l ∈ s.dr.poisoned)) ∧
      (reads = [] → s.dr.flips = [] → ∀ l, (l ∈ t.dr.poisoned ↔ l ∈ s.dr.poisoned)) ∧
      (∀ l ∈ s.rowLinesOf x, spGet (fun _ => 0) t.dr.flips l = 0) ∧
      t.rd Fd.DRC_PPRSTAT_LISTED = t.repairRows.length % 2 ^ 9 ∧ s.OnlyIn [.regs, .evt, .dr, .bt] t)) ∧
  (∀ (s : State) (m val : Nat), s.Inv → val % 2 = 0 → s.Answers (.dramScrubGo m val) (fun t =>
    t.rd Fd.DRC_SCRUBCTRL_ID = val / 2 ^ 16 % 2 ^ 16 ∧ s.RegsBut [keyOf Fd.DRC_SCRUBCTRL_ID] t ∧ s.OnlyIn [.regs] t)) ∧
  (∀ (s : State) (m val r : Nat), s.Inv → val % 2 = 1 → s.dscrubRefusal = some r → s.Answers (.dramScrubGo m val) (fun t => t.dr = s.dr ∧
    t.rd Fd.DRC_SCRUBSTAT_REJECT = 1 ∧ t.rd Fd.DRC_SCRUBSTAT_REASON = r ∧ t.rd Fd.DRC_SCRUBCTRL_ID = val / 2 ^ 16 % 2 ^ 16 ∧
    r = (if s.dr.scrub.isSome = true then 1 else if s.rd Fd.DRC_SCRUBCOUNT_LINES = 0 then 2 else 3) ∧ s.OnlyIn [.regs, .evt, .dr] t)) ∧
  (∀ (s : State) (m val : Nat), s.Inv → val % 2 = 1 → s.dr.scrub = none → s.rd Fd.DRC_SCRUBCOUNT_LINES ≠ 0 →
    s.rd Fd.DRC_SCRUBSTART_LINES + s.rd Fd.DRC_SCRUBCOUNT_LINES ≤ s.dramLines → s.Answers (.dramScrubGo m val) (fun t =>
      t.dr.scrub = some ⟨val / 2 ^ 16 % 2 ^ 16, s.rd Fd.DRC_SCRUBSTART_LINES, s.rd Fd.DRC_SCRUBCOUNT_LINES, s.rd Fd.DRC_SCRUBSTART_LINES,
        s.time.beat, false, 0, 0, 0, 0, []⟩ ∧ t.rd Fd.DRC_SCRUBSTAT_BUSY = 1 ∧ t.rd Fd.DRC_SCRUBSTAT_PROGRESS = 0 ∧
      s.RegsBut [keyOf Fd.DRC_SCRUBCTRL_ID, keyOf Fd.DRC_SCRUBSTAT_BUSY] t ∧ s.OnlyIn [.regs, .dr] t)) ∧
  (∀ (s : State) (m : Nat), exec (.dramScrubCancel m) s = .next { s with dr := { s.dr with
    scrub := s.dr.scrub.map (fun x => { x with cancel := true }) } }) ∧
  (∀ s : State, (∀ x, s.dr.scrub = some x → (x.cancel = false ∨ s.atBar = false) ∧ x.next < x.start + x.count) →
    exec .dramScrubEnd s = .next s) ∧
  (∀ (s : State) (x : DScrub), s.Inv → s.dr.scrub = some x → (x.cancel = true ∧ s.atBar = true) ∨ x.start + x.count ≤ x.next →
    s.Answers .dramScrubEnd (fun t => t.dr = { s.dr with scrub := none } ∧ t.rd Fd.DRC_SCRUBSTAT_BUSY = 0 ∧ t.rd Fd.DRC_SCRUBSTAT_DONE = 1 ∧
      (∀ i < 8, t.rd Fd.DRC_SUM_WORD i =
        (x.words (if x.cancel = true ∧ s.atBar = true then 1 else 0) s.time.beat).getD i 0 % 2 ^ 32) ∧
      s.Reports t 0 0x0B05 (summaryArgs (x.words (if x.cancel = true ∧ s.atBar = true then 1 else 0) s.time.beat)) ∧ s.OnlyIn [.regs, .evt, .dr] t))

/-- HELPER_GO sets the fields of DRC_PATCTRL; with GO it starts the helper, or sets REFUSED while DRAM is in service; while BUSY
it starts nothing (R360). HELPER_DONE gives the lanes in error, the bit errors up to the counter's top, and the first failing
line, and is nothing while no run is in progress (R360, R386). MODE_REGISTER_WRITE sets a mode register of the devices it names,
and MODE_REGISTER_READ of one of them gives the byte back in DATA (R386; of a register never written, and of all devices at
once, it is a free value); either is discarded and recorded where DEV names no device (R548). FLIP_ARM sets SUB and BEAT, and
ARM where the write sets it (R376). SRAM_PATROL of a half that runs outvotes the cells of valid bits that have changed over, so
that one of them changes no read (R373), and counts corrected bytes; an uncorrectable byte counts and poisons the sector of the
command whose buffer it lies in, and is a control fault anywhere else (R372, R374). -/
def Obligations.DramHelpersAndSramPatrol : Prop :=
  (∀ (s : State) (m val : Nat), s.Inv → s.Answers (.helperGo m val) (fun t => t.rd Fd.DRC_PATCTRL_MODE = val / 2 % 4 ∧
    t.rd Fd.DRC_PATCTRL_PATTERN = val / 8 % 8 ∧ t.rd Fd.DRC_PATCTRL_RAW = val / 64 % 2 ∧ t.rd Fd.DRC_PATCTRL_SUBRANK = val / 256 % 16 ∧
    t.rd Fd.DRC_PATCTRL_SEED = val / 65536 % 65536 ∧
    t.rd Fd.DRC_PATCTRL_DONE = (if val / 8192 % 2 = 1 then 0 else s.rd Fd.DRC_PATCTRL_DONE) ∧
    t.rd Fd.DRC_PATCTRL_BUSY = (if val % 2 = 1 ∧ s.rd Fd.DRC_CFG_SERVICE = 0 then 1 else s.rd Fd.DRC_PATCTRL_BUSY) ∧
    t.rd Fd.DRC_PATCTRL_REFUSED = (if val % 2 = 1 ∧ s.rd Fd.DRC_PATCTRL_BUSY = 0 ∧ s.rd Fd.DRC_CFG_SERVICE = 1 then 1
      else if val / 16384 % 2 = 1 then 0 else s.rd Fd.DRC_PATCTRL_REFUSED) ∧
    s.RegsBut (keyOf Fd.DRC_PATCTRL_MODE :: eventKeys) t ∧ s.OnlyIn [.regs, .evt] t)) ∧
  (∀ (s : State) (lanes errs first : Nat), s.rd Fd.DRC_PATCTRL_BUSY = 0 → exec (.helperDone lanes errs first) s = .next s) ∧
  (∀ (s : State) (lanes errs first : Nat), s.Inv → s.rd Fd.DRC_PATCTRL_BUSY = 1 → s.Answers (.helperDone lanes errs first) (fun t =>
    t.rd Fd.DRC_PATCTRL_BUSY = 0 ∧ t.rd Fd.DRC_PATCTRL_DONE = 1 ∧ t.rd Fd.DRC_PATERR_LO_LANES = lanes % 2 ^ 32 ∧
    t.rd Fd.DRC_PATERR_HI_LANES = lanes / 2 ^ 32 % 2 ^ 8 ∧ t.rd Fd.DRC_PATERR_HI_COUNT = min (2 ^ 24 - 1) errs ∧
    t.rd Fd.DRC_PATADDR_LINE = first % 2 ^ 32 ∧ s.OnlyIn [.regs] t)) ∧
  (∀ (s : State) (m mr data sr dev : Nat), s.Inv → mrDevOk (dev % 16) = false →
    s.Answers (.modeRegisterWrite m mr data sr dev) (fun t => t.dr = s.dr ∧ s.RegsBut eventKeys t ∧ s.Records t (halfSrc s.act)
      (0x80 + unitPos Blk.DRC) (Blk.DRC * 256) [Reg.DRC_MRCMD.off, mr % 256 + data * 2 ^ 8 + sr % 16 * 2 ^ 16 + dev % 16 * 2 ^ 20 + 2 ^ 24, m, 0]) ∧
    s.Answers (.modeRegisterRead m mr sr dev) (fun t => t.dr = s.dr ∧ s.RegsBut eventKeys t)) ∧
  (∀ (s : State) (m mr data sr dev : Nat), s.Inv → mrDevOk (dev % 16) = true → s.Answers (.modeRegisterWrite m mr data sr dev) (fun t =>
    (∀ k ∈ mrDevices (dev % 16), spGet (fun _ => 0) t.dr.modeRegs (mrKey (sr % 16) k (mr % 256)) = data % 256 + 1) ∧
    t.dr = { s.dr with modeRegs := t.dr.modeRegs } ∧ s.RegsBut [keyOf Fd.DRC_MRCMD_MR] t ∧ s.OnlyIn [.regs, .dr] t ∧
    (∀ k < 10, k ∈ mrDevices (dev % 16) → t.Answers (.modeRegisterRead m mr sr k) (fun u => u.rd Fd.DRC_MRCMD_DATA = data % 256 ∧
      u.rd Fd.DRC_MRCMD_DEV = k ∧ u.dr = t.dr ∧ t.RegsBut [keyOf Fd.DRC_MRCMD_MR] u)))) ∧
  (∀ (s : State) (m mr sr dev : Nat), s.Inv → mrDevOk (dev % 16) = true → s.Answers (.modeRegisterRead m mr sr dev) (fun t => t.rd Fd.DRC_MRCMD_MR = mr % 256 ∧
    t.rd Fd.DRC_MRCMD_SUBRANK = sr % 16 ∧ t.rd Fd.DRC_MRCMD_DEV = dev % 16 ∧ t.dr = s.dr ∧ s.RegsBut [keyOf Fd.DRC_MRCMD_MR] t ∧
    s.OnlyIn [.regs, .freeCtr, .evt] t)) ∧
  (∀ (s : State) (m val : Nat), s.Inv → s.Answers (.flipArm m val) (fun t => t.rd Fd.DRC_FLIPCTRL_SUB = val / 2 % 8 ∧
    t.rd Fd.DRC_FLIPCTRL_BEAT = val / 16 % 16 ∧ t.rd Fd.DRC_FLIPCTRL_ARM = (if val % 2 = 1 then 1 else s.rd Fd.DRC_FLIPCTRL_ARM) ∧
    s.RegsBut [keyOf Fd.DRC_FLIPCTRL_ARM] t ∧ s.OnlyIn [.regs] t)) ∧
  (∀ (s : State) (h : Half) (corr : Nat) (unc : Option SramHit) (cells : List (Nat × Nat × Nat)), s.runs h = false →
    exec (.sramPatrol h corr unc cells) s = .next s) ∧
  (∀ (s : State) (h : Half) (corr : Nat) (cells : List (Nat × Nat × Nat)), s.Inv → s.runs h = true →
    s.Answers (.sramPatrol h corr none cells) (fun t =>
      t.rd Fd.SAF_CNT_SRAMCORR_COUNT = min (2 ^ 32 - 1) (s.rd Fd.SAF_CNT_SRAMCORR_COUNT + corr) ∧
      (∀ x ∈ (t.half h).sram, x.cells = 7) ∧ t.half (otherHalf h) = s.half (otherHalf h) ∧
      s.RegsBut [keyOf Fd.SAF_CNT_SRAMCORR_COUNT] t ∧ s.OnlyIn [.regs, .hub] t)) ∧
  (∀ (s : State) (h : Half) (corr : Nat) (cells : List (Nat × Nat × Nat)), s.runs h = true → cells.length ≤ 1 →
    (∀ x ∈ (s.half h).sram, x.cells = 7) → ((s.half h).sram.map (fun w => (w.mac, w.idx))).Nodup →
    s.Answers (.sramPatrol h corr none cells) (fun t => ∀ mac i, t.sramRead h mac i = s.sramRead h mac i)) ∧
  (∀ (s : State) (h : Half) (corr ctx sector : Nat) (cells : List (Nat × Nat × Nat)) (c : Ctx), s.Inv → s.runs h = true →
    s.ctx ctx = some c → s.Answers (.sramPatrol h corr (some (.buffer ctx sector)) cells) (fun t =>
      t.rd Fd.SAF_CNT_SRAMUNC_COUNT = min (2 ^ 32 - 1) (s.rd Fd.SAF_CNT_SRAMUNC_COUNT + 1) ∧
      (∃ d ∈ t.ctx ctx, (∀ p ∈ d.data, p.1 = sector → p.2.tag = .poison) ∧ (∀ p ∈ c.data, p.1 ≠ sector → p ∈ d.data)) ∧
      (∀ k, k ≠ ctx → t.ctx k = s.ctx k) ∧ s.OnlyIn [.regs, .nv, .hub] t)) ∧
  (∀ (s : State) (h : Half) (corr slice : Nat), s.runs h = true → (∀ x ∈ (s.half h).sram, x.cells = 7) →
    exec (.sramPatrol h corr (some (.other slice)) []) s =
    .next (((s.count Fd.SAF_CNT_SRAMCORR_COUNT corr).count Fd.SAF_CNT_SRAMUNC_COUNT).controlFault h 6 slice))

/-- ALLOC with no earlier allocation waiting takes the buffer that R378 names, owned by the caller alone with the next
generation, or waits where there is none or the quota in force would be passed (R378, R379, R383); with NOQUOTA in the host
slice it is invalid. ALLOC_GRANT grants what can be granted and nothing else. SHARE adds a name for a named owner, up to four;
FREE takes the caller's name away and frees the buffer with the last one (R380, R381). A free of a buffer that is free or of
another generation, and an operation by a master that is not named, change no buffer, set the alarm and count (R381, R382).
QUERY changes no buffer (R384; its status is log entry 22). A buffer that loses its last name while reads target it stays held
and charged (R103). A handle that names no buffer is invalid. In a half or by a master that the variant has not, nothing happens
(R6, R7). An operation while the master's allocation waits is discarded and recorded (R384). Every settled operation sets DONE.
-/
def Obligations.BuffersAreOwned : Prop :=
  (∀ (s : State) (h : Half) (m pool ten cls other : Nat) (noq : Bool) (i : Instr),
    halfPresent s.variant h = false ∨ masterPresent s.variant m = false →
    i ∈ [Instr.alloc h m pool noq ten cls, .share h m other, .free h m, .query h m] → exec i s = .next s) ∧
  (∀ (s : State) (h : Half), halfPresent s.variant h = false → exec (.allocGrant h) s = .next s) ∧
  (∀ (s : State) (h : Half) (m pool ten cls other val : Nat) (noq : Bool) (i : Instr), halfPresent s.variant h = true →
    masterPresent s.variant m = true → s.bufBusy h m = true →
    (i, val) ∈ [(Instr.alloc h m pool noq ten cls, 1 + pool * 16 + (if noq then 128 else 0) + ten * 256), (.share h m other, 2 + other * 2 ^ 16),
      (.free h m, 3), (.query h m, 4)] → s.Answers i (fun t => t.bf = s.bf ∧ s.RegsBut eventKeys t ∧
        s.Records t (halfSrc h) (0x80 + unitPos Blk.BUF) (Blk.BUF * 256) [Reg.BUF_OP.at m, val, m, 0])) ∧
  (∀ (s : State) (h : Half) (m pool ten cls : Nat), s.Inv → halfPresent s.variant h = true → masterPresent s.variant m = true → 
    s.bufBusy h m = false → (masterPool m).1 = 4 →
    s.Answers (.alloc h m pool true ten cls) (fun t => t.bf = s.bf ∧ t.rd Fd.BUF_RES_STATUS m h = 4 ∧ t.rd Fd.BUF_RES_DONE m h = 1 ∧
      s.OnlyIn [.regs] t)) ∧
  (∀ (s : State) (h : Half) (m pool ten cls hd : Nat) (noq : Bool), s.Inv → halfPresent s.variant h = true → masterPresent s.variant m = true → 
    s.bf.waits = [] →
    s.pick h m pool cls = some hd → (masterPool m).1 = 4 → noq = false →
    s.tenUse h ten + poolUnits (hPool hd) ≤ s.quotaInForce ten → s.Answers (.alloc h m pool noq ten cls) (fun t =>
      t.buf h hd = ⟨((s.buf h hd).gen + 1) % 16, [m], some ten, poolUnits (hPool hd)⟩ ∧
      (∀ k b, bufKey k b ≠ bufKey h hd → t.buf k b = s.buf k b) ∧
      t.rd Fd.BUF_ARG_HANDLE m h = (hd + ((s.buf h hd).gen + 1) % 16 * 2 ^ 28) % 2 ^ 32 ∧ t.rd Fd.BUF_RES_STATUS m h = 0 ∧
      t.rd Fd.BUF_RES_OWNERS m h = 1 ∧ t.rd Fd.BUF_RES_GRANTED m h = hPool hd ∧ t.rd Fd.BUF_RES_DONE m h = 1 ∧ t.bf.waits = [] ∧
      s.RegsBut [keyOf Fd.BUF_ARG_HANDLE m h, keyOf Fd.BUF_RES_DONE m h] t ∧ s.OnlyIn [.regs, .bf] t)) ∧
  (∀ (s : State) (h : Half) (m pool ten cls hd : Nat) (noq : Bool), s.Inv → halfPresent s.variant h = true → masterPresent s.variant m = true → 
    s.bf.waits = [] →
    s.pick h m pool cls = some hd → (masterPool m).1 ≠ 4 → s.Answers (.alloc h m pool noq ten cls) (fun t =>
      t.buf h hd = ⟨((s.buf h hd).gen + 1) % 16, [m], none, poolUnits (hPool hd)⟩ ∧
      (∀ k b, bufKey k b ≠ bufKey h hd → t.buf k b = s.buf k b) ∧ t.rd Fd.BUF_RES_STATUS m h = 0 ∧ t.rd Fd.BUF_RES_DONE m h = 1 ∧
      t.bf.waits = [] ∧ s.OnlyIn [.regs, .bf] t)) ∧
  (∀ (s : State) (h : Half) (m pool ten cls : Nat) (noq : Bool), s.Inv → halfPresent s.variant h = true → masterPresent s.variant m = true → 
    s.bf.waits = [] →
    (masterPool m).1 = 4 → noq = false → (∀ hd, s.pick h m pool cls = some hd → s.quotaInForce ten < s.tenUse h ten + poolUnits (hPool hd)) →
    s.Answers (.alloc h m pool noq ten cls) (fun t => t.bf = { s.bf with waits := [⟨h, m, pool, noq, ten, cls⟩] } ∧
      t.rd Fd.BUF_RES_DONE m h = 0 ∧ s.RegsBut [keyOf Fd.BUF_RES_DONE m h] t ∧ s.OnlyIn [.regs, .bf] t)) ∧
  (∀ (s : State) (h : Half), (∀ w ∈ s.bf.waits, w.half = h → s.tryAlloc w = none) → exec (.allocGrant h) s = .next s) ∧
  (∀ (s : State) (w : BufWait) (hd : Nat), s.Inv → halfPresent s.variant w.half = true → masterPresent s.variant w.master = true →
    s.bf.waits = [w] → s.pick w.half w.master w.pool w.cls = some hd →
    ((masterPool w.master).1 = 4 → s.tenUse w.half w.tenant + poolUnits (hPool hd) ≤ s.quotaInForce w.tenant) →
    s.Answers (.allocGrant w.half) (fun t => t.bf.waits = [] ∧ (t.buf w.half hd).owners = [w.master] ∧
      t.rd Fd.BUF_RES_DONE w.master w.half = 1 ∧ t.rd Fd.BUF_RES_STATUS w.master w.half = 0 ∧ s.OnlyIn [.regs, .bf] t)) ∧
  (∀ (s : State) (h : Half) (m hd other : Nat) (i : Instr), s.Inv → halfPresent s.variant h = true → masterPresent s.variant m = true → 
    s.bufBusy h m = false → hd = s.rd Fd.BUF_ARG_HANDLE m h →
    i ∈ [Instr.share h m other, .free h m, .query h m] → bufExists s.variant hd = false → s.Answers i (fun t =>
      t.bf = s.bf ∧ t.rd Fd.BUF_RES_STATUS m h = 4 ∧ t.rd Fd.BUF_RES_OWNERS m h = 0 ∧ t.rd Fd.BUF_RES_DONE m h = 1 ∧
      s.RegsBut [keyOf Fd.BUF_RES_DONE m h] t ∧ s.OnlyIn [.regs] t)) ∧
  (∀ (s : State) (h : Half) (m hd : Nat), s.Inv → halfPresent s.variant h = true → masterPresent s.variant m = true → 
    s.bufBusy h m = false → hd = s.rd Fd.BUF_ARG_HANDLE m h →
    bufExists s.variant hd = true → hGen hd = (s.buf h hd).gen → m ∈ (s.buf h hd).owners → s.Answers (.free h m) (fun t =>
      ((s.buf h hd).owners.filter (fun x => x != m) = [] → t.buf h hd =
        (if s.targeted (bufKey h hd) = true then { s.buf h hd with owners := [] } else ⟨(s.buf h hd).gen, [], none, 0⟩)) ∧
      ((s.buf h hd).owners.filter (fun x => x != m) ≠ [] →
        t.buf h hd = { s.buf h hd with owners := (s.buf h hd).owners.filter (fun x => x != m) }) ∧
      (∀ k b, bufKey k b ≠ bufKey h hd → t.buf k b = s.buf k b) ∧ t.rd Fd.BUF_RES_STATUS m h = 0 ∧ t.rd Fd.BUF_RES_DONE m h = 1 ∧
      t.bf.waits = s.bf.waits ∧ s.RegsBut [keyOf Fd.BUF_RES_DONE m h] t ∧ s.OnlyIn [.regs, .bf] t)) ∧
  (∀ (s : State) (h : Half) (m hd : Nat), s.Inv → halfPresent s.variant h = true → masterPresent s.variant m = true → 
    s.bufBusy h m = false → hd = s.rd Fd.BUF_ARG_HANDLE m h →
    bufExists s.variant hd = true → (s.buf h hd).owners = [] ∨ hGen hd ≠ (s.buf h hd).gen → s.Answers (.free h m) (fun t =>
      t.bf = s.bf ∧ t.rd Fd.BUF_ALARM_DFREE 0 h = 1 ∧
      t.rd Fd.BUF_CNT_DFREE_COUNT 0 h = min (2 ^ 32 - 1) (s.rd Fd.BUF_CNT_DFREE_COUNT 0 h + 1) ∧ t.rd Fd.BUF_RES_STATUS m h = 1 ∧
      t.rd Fd.BUF_RES_DONE m h = 1 ∧
      s.Records t (halfSrc h) 0x80 0x0C01 [hd, m, (s.buf h hd).gen, (s.buf h hd).owners.length] ∧ s.OnlyIn [.regs, .evt, .bf] t)) ∧
  (∀ (s : State) (h : Half) (m hd other : Nat) (i : Instr), s.Inv → halfPresent s.variant h = true → masterPresent s.variant m = true → 
    s.bufBusy h m = false → hd = s.rd Fd.BUF_ARG_HANDLE m h →
    i ∈ [Instr.share h m other, .free h m] → bufExists s.variant hd = true → (s.buf h hd).owners ≠ [] → hGen hd = (s.buf h hd).gen →
    m ∉ (s.buf h hd).owners → s.Answers i (fun t => t.bf = s.bf ∧ t.rd Fd.BUF_ALARM_FOREIGN 0 h = 1 ∧
      t.rd Fd.BUF_CNT_FOREIGN_COUNT 0 h = min (2 ^ 32 - 1) (s.rd Fd.BUF_CNT_FOREIGN_COUNT 0 h + 1) ∧ t.rd Fd.BUF_RES_STATUS m h = 2 ∧
      t.rd Fd.BUF_RES_DONE m h = 1 ∧
      s.Records t (halfSrc h) 0x80 0x0C02 [hd, m, (s.buf h hd).gen, (s.buf h hd).owners.length])) ∧
  (∀ (s : State) (h : Half) (m hd other : Nat), s.Inv → halfPresent s.variant h = true → masterPresent s.variant m = true → 
    s.bufBusy h m = false → hd = s.rd Fd.BUF_ARG_HANDLE m h →
    bufExists s.variant hd = true → hGen hd = (s.buf h hd).gen → m ∈ (s.buf h hd).owners → (s.buf h hd).owners.length ≠ 4 →
    other ∉ (s.buf h hd).owners → s.Answers (.share h m other) (fun t =>
      t.buf h hd = { s.buf h hd with owners := (s.buf h hd).owners ++ [other] } ∧ t.rd Fd.BUF_RES_STATUS m h = 0 ∧
      (∀ k b, bufKey k b ≠ bufKey h hd → t.buf k b = s.buf k b) ∧ t.rd Fd.BUF_RES_DONE m h = 1 ∧ t.bf.waits = s.bf.waits ∧
      s.RegsBut [keyOf Fd.BUF_RES_DONE m h] t ∧ s.OnlyIn [.regs, .bf] t)) ∧
  (∀ (s : State) (h : Half) (m hd other : Nat), s.Inv → halfPresent s.variant h = true → masterPresent s.variant m = true →
    s.bufBusy h m = false → hd = s.rd Fd.BUF_ARG_HANDLE m h →
    bufExists s.variant hd = true → hGen hd = (s.buf h hd).gen → m ∈ (s.buf h hd).owners →
    (s.buf h hd).owners.length = 4 ∨ other ∈ (s.buf h hd).owners → s.Answers (.share h m other) (fun t => t.bf = s.bf ∧
      t.rd Fd.BUF_RES_STATUS m h = (if other ∈ (s.buf h hd).owners then 0 else 3) ∧ t.rd Fd.BUF_RES_DONE m h = 1 ∧
      s.RegsBut [keyOf Fd.BUF_RES_DONE m h] t ∧ s.OnlyIn [.regs] t)) ∧
  (∀ (s : State) (h : Half) (m hd : Nat), s.Inv → halfPresent s.variant h = true → masterPresent s.variant m = true → 
    s.bufBusy h m = false → hd = s.rd Fd.BUF_ARG_HANDLE m h →
    bufExists s.variant hd = true → s.Answers (.query h m) (fun t => t.bf = s.bf ∧
      t.rd Fd.BUF_RES_STATUS m h = (if (s.buf h hd).owners = [] ∨ hGen hd ≠ (s.buf h hd).gen then 1
        else if m ∈ (s.buf h hd).owners then 0 else 2) ∧ t.rd Fd.BUF_RES_DONE m h = 1 ∧ s.RegsBut [keyOf Fd.BUF_RES_DONE m h] t ∧
      s.OnlyIn [.regs] t))

/-- SHADOW_RECORD_ARRIVAL applies the record on the wire when its check passes and it names the beat that ended, and is else a
shadow fault: counted, recorded with class 3, and the half is SYNCING (R391, R393); SHADOW_DEADLINE makes one of a record that
has not come. SYNC_COMPLETE at a bar boundary makes a half with its bulk copy and every mirror copy STANDBY, with the event of
code 0x0D03 (R393); SYNC_TIMEOUT after SYNCBARS bars makes it UNFIT, or HELD at the HOLDCOUNT-th time in seven days (R388,
R409). RESTORE and AUTO_RESTORE bring an UNFIT half to LOADING when a restore may run; a request waits where none may, and is
discarded where no half is UNFIT (R407). RESTORE_SELF_TEST_DONE ends in SYNCING, or in UNFIT or HELD (R408). Where its condition
does not hold each changes nothing. -/
def Obligations.AHalfIsShadowedAndRestored : Prop :=
  (∀ (s : State) (ok : Bool) (named : Nat), s.shadowed = none ∨ s.hub.wire = none → exec (.shadowRecordArrival ok named) s = .next s) ∧
  (∀ (s : State) (h : Half) (r : Shadow) (ok : Bool) (named : Nat), s.Inv → s.shadowed = some h → s.hub.wire = some r →
    s.Answers (.shadowRecordArrival ok named) (fun t => t.hub.wire = none ∧ t.half (otherHalf h) = s.half (otherHalf h) ∧
      (ok = true → named + 1 = s.time.beat → t.half h = { s.half h with shadow := some r, arrived := true, bulk := true } ∧
        s.OnlyIn [.hub] t) ∧
      (ok = false ∨ named + 1 ≠ s.time.beat → s.withdrawn = false → (t.half h).st = .syncing ∧ (t.half h).shadow = none ∧
        (t.half h).bulk = false ∧ t.rd Fd.SAF_CNT_SHADOW_COUNT = min (2 ^ 32 - 1) (s.rd Fd.SAF_CNT_SHADOW_COUNT + 1) ∧
        t.rd Fd.SAF_FAULT_CLASS = 3 ∧ s.Records t 0 0x80 0x0D02 [halfNum h, 3, 10, 5]) ∧
      (ok = false ∨ named + 1 ≠ s.time.beat → s.withdrawn = true → t.half h = s.half h) ∧ s.OnlyIn [.regs, .evt, .hub, .nv] t)) ∧
  (∀ s : State, s.active = none ∨ s.shadowed = none ∨ s.withdrawn = true ∨ (∀ k h, s.active = some k → s.shadowed = some h →
    (s.half k).gone = true ∨ s.time.beat ≤ (s.half k).since ∨ (s.half h).arrived = true ∨ (s.half h).st ≠ .standby ∨
    s.time.beat ≤ (s.half h).since) → exec .shadowDeadline s = .next s) ∧
  (∀ (s : State) (k h : Half), s.Inv → s.active = some k → s.shadowed = some h → s.withdrawn = false → (s.half k).gone = false →
    (s.half k).since < s.time.beat → (s.half h).arrived = false → (s.half h).st = .standby → (s.half h).since < s.time.beat →
    s.Answers .shadowDeadline (fun t => (t.half h).st = .syncing ∧ (t.half h).shadow = none ∧ t.half (otherHalf h) = s.half (otherHalf h) ∧
      t.rd Fd.SAF_CNT_SHADOW_COUNT = min (2 ^ 32 - 1) (s.rd Fd.SAF_CNT_SHADOW_COUNT + 1) ∧
      s.Records t 0 0x80 0x0D02 [halfNum h, 3, 10, 5] ∧ s.OnlyIn [.regs, .evt, .hub] t)) ∧
  (∀ s : State, (∀ h, s.shadowed = some h → (s.half h).st ≠ .syncing ∨ (s.half h).bulk = false ∨ s.atBar = false ∨ s.active = none ∨
    s.allMirrored = false) → exec .syncComplete s = .next s) ∧
  (∀ (s : State) (h : Half), s.shadowed = some h → (s.half h).st = .syncing → (s.half h).bulk = true → s.atBar = true →
    s.active.isSome = true → s.allMirrored = true → s.Answers .syncComplete (fun t =>
      t.half h = { s.half h with st := .standby, since := s.time.beat } ∧ t.half (otherHalf h) = s.half (otherHalf h) ∧
      s.Records t 0 0x80 0x0D03 [halfNum h, s.time.beat - (s.half h).since, 0, 0] ∧ s.RegsBut eventKeys t ∧ s.OnlyIn [.regs, .evt, .hub] t)) ∧
  (∀ s : State, (∀ h, s.shadowed = some h → (s.half h).st ≠ .syncing ∨
    s.time.beat < (s.half h).since + 250 * s.rd Fd.SAF_CFG_SYNCBARS) → exec .syncTimeout s = .next s) ∧
  (∀ (s : State) (h : Half), s.Inv → s.shadowed = some h → (s.half h).st = .syncing →
    (s.half h).since + 250 * s.rd Fd.SAF_CFG_SYNCBARS ≤ s.time.beat → s.Answers .syncTimeout (fun t =>
      (t.half h).st = (if s.rd Fd.SAF_CFG_HOLDCOUNT ≤ s.unfitCount h + 1 then .held else .unfit) ∧ (t.half h).since = s.time.beat ∧
      t.unfitCount h = s.unfitCount h + 1 ∧ t.half (otherHalf h) = s.half (otherHalf h) ∧ s.OnlyIn [.regs, .evt, .hub] t)) ∧
  (∀ (s : State) (m : Nat), (s.variant.twin = false → exec (.restore m) s = .next s) ∧
    (s.variant.twin = true → s.unfitHalf = none → s.Answers (.restore m) (fun t => t.hub = s.hub ∧ s.RegsBut eventKeys t ∧
      s.Records t (if hubBlock Blk.SAF then 0 else halfSrc s.act) 0x80 (Blk.SAF * 256) [Reg.SAF_CTRL.off, 1, m, 0]))) ∧
  (∀ (s : State) (m : Nat) (h : Half), s.Inv → s.variant.twin = true → s.unfitHalf = some h → s.mayRestore = true →
    s.Answers (.restore m) (fun t => (t.half h).st = .loading ∧ (t.half h).since = s.time.beat ∧ (t.half h).gone = false ∧
      t.hub.restoring = some h ∧ t.rd Fd.SAF_CTRL_RESTORE = 0 ∧ t.half (otherHalf h) = s.half (otherHalf h) ∧ s.OnlyIn [.regs, .evt, .chan, .locks, .hub] t)) ∧
  (∀ (s : State) (m : Nat) (h : Half), s.Inv → s.variant.twin = true → s.unfitHalf = some h → s.mayRestore = false →
    s.Answers (.restore m) (fun t => t.hub = s.hub ∧ t.rd Fd.SAF_CTRL_RESTORE = 1 ∧ s.RegsBut [keyOf Fd.SAF_CTRL_RESTORE] t ∧
      s.OnlyIn [.regs] t)) ∧
  (∀ s : State, s.unfitHalf = none ∨ s.variant.twin = false ∨ s.mayRestore = false ∨ (s.rd Fd.SAF_CTRL_RESTORE = 0 ∧
    (s.rd Fd.SAF_CFG_AUTORESTORE = 0 ∨ ∀ h, s.unfitHalf = some h → s.time.beat < (s.half h).since + s.rd Fd.SAF_CFG_RESTDELAY * 25000)) →
    exec .autoRestore s = .next s) ∧
  (∀ (s : State) (h : Half), s.Inv → s.unfitHalf = some h → s.variant.twin = true → s.mayRestore = true →
    s.rd Fd.SAF_CTRL_RESTORE = 1 ∨ (s.rd Fd.SAF_CFG_AUTORESTORE = 1 ∧ (s.half h).since + s.rd Fd.SAF_CFG_RESTDELAY * 25000 ≤ s.time.beat) →
    s.Answers .autoRestore (fun t => (t.half h).st = .loading ∧ t.hub.restoring = some h ∧ t.rd Fd.SAF_CTRL_RESTORE = 0 ∧
      t.half (otherHalf h) = s.half (otherHalf h) ∧ s.OnlyIn [.regs, .chan, .locks, .hub] t)) ∧
  (∀ (s : State) (ok : Bool), s.hub.restoring = none → exec (.restoreSelfTestDone ok) s = .next s) ∧
  (∀ (s : State) (ok : Bool) (h : Half), s.Inv → s.hub.restoring = some h → s.Answers (.restoreSelfTestDone ok) (fun t =>
    t.hub.restoring = none ∧ t.half (otherHalf h) = s.half (otherHalf h) ∧ ((s.half h).st ≠ .loading → t.half h = s.half h) ∧
    ((s.half h).st = .loading → ok = true → t.half h = { s.half h with st := .syncing, since := s.time.beat }) ∧
    ((s.half h).st = .loading → ok = false → (t.half h).st =
      (if s.rd Fd.SAF_CFG_HOLDCOUNT ≤ s.unfitCount h + 1 then .held else .unfit) ∧ t.rd Fd.SAF_FAULT_CLASS = 5 ∧
      t.rd Fd.SAF_FAULT_HALF = halfNum h) ∧ s.OnlyIn [.regs, .freeCtr, .evt, .hub] t))

/-- CONTROL_FAULT of a half that is up is latched in SAF_FAULT and counted; the half becomes UNFIT, or HELD at the HOLDCOUNT-th
time in seven days, and one that was ACTIVE has withdrawn with the output hold begun (R396, R403, R409, R412). DATA_PATH_FAULT
counts and fails its command, a write with Internal Error, another with Unrecovered Read Error (R412). HUB_FAULT latches its
unit and fences the device with cause 4 (R413). LEASE_LAPSE of a holder that has withdrawn grants the clapper to the STANDBY
half with the next epoch and split mode for every function, or fences the device with cause 1, with cause 6 where there is one
half; before the host link is enabled the next half starts (R397, R398, R413, R458). TAKEOVER_READY notes the ready signal,
TAKEOVER_TIMEOUT five beats after the grant fences with cause 2 (R400). FENCED_STATE_ENTRY enters the fenced state for a cause
that stands (R413, R414), and FENCE_FLUSH_END ends its flush: all outputs are held and the recorder stops (R414, R506). Where
its condition does not hold each changes nothing. -/
def Obligations.FaultsRolesAndTheFence : Prop :=
  (∀ (s : State) (h : Half) (mech slice : Nat), (s.variant.twin = false ∧ h = .b) ∨ (s.withdrawn = true ∧ suspendedMech mech = true) ∨
    (s.half h).st = .off ∨ (s.half h).st = .unfit ∨ (s.half h).st = .held → exec (.controlFault h mech slice) s = .next s) ∧
  (∀ (s : State) (h : Half) (mech slice : Nat), s.Inv → ¬(s.variant.twin = false ∧ h = .b) → ¬(s.withdrawn = true ∧ suspendedMech mech = true) →
    (s.half h).st ≠ .off → (s.half h).st ≠ .unfit → (s.half h).st ≠ .held → s.Answers (.controlFault h mech slice) (fun t =>
      (t.half h).st = (if s.rd Fd.SAF_CFG_HOLDCOUNT ≤ s.unfitCount h + 1 then .held else .unfit) ∧ (t.half h).since = s.time.beat ∧
      t.half (otherHalf h) = s.half (otherHalf h) ∧ t.rd Fd.SAF_FAULT_HALF = halfNum h ∧ t.rd Fd.SAF_FAULT_CLASS = 1 ∧
      t.rd Fd.SAF_FAULT_MECH = mech % 16 ∧ t.rd Fd.SAF_FAULT_SLICE = slice % 8 ∧ t.rd Fd.SAF_FAULT_BEAT = s.time.beat % 250 ∧
      t.rd Fd.SAF_FAULT_VALID = 1 ∧ t.rd Fd.SAF_CNT_CONTROL_COUNT = min (2 ^ 32 - 1) (s.rd Fd.SAF_CNT_CONTROL_COUNT + 1) ∧
      ((s.half h).st = .active → (t.half h).gone = true ∧ t.hub.hold = true) ∧ (s.bothFault h = true → t.hub.fenced = true) ∧
      s.OnlyIn [.regs, .evt, .hub, .out, .nv, .dr, .ts] t)) ∧
  (∀ (s : State) (h : Half) (slice : Nat) (ctx : Option Nat), (s.half h).st = .off ∨ (s.half h).st = .unfit ∨ (s.half h).st = .held →
    exec (.dataPathFault h slice ctx) s = .next s) ∧
  (∀ (s : State) (h : Half) (slice : Nat) (ctx : Option Nat), s.Inv → (s.half h).st ≠ .off → (s.half h).st ≠ .unfit → (s.half h).st ≠ .held →
    s.Answers (.dataPathFault h slice ctx) (fun t =>
      t.rd Fd.SAF_CNT_DATAPATH_COUNT = min (2 ^ 32 - 1) (s.rd Fd.SAF_CNT_DATAPATH_COUNT + 1) ∧
      (∀ id c, ctx = some id → s.ctx id = some c → c.status = none →
        t.Ended ⟨c.fn, c.sq, c.cid, none⟩ (if c.cmd = .write then 0 else 2) (if c.cmd = .write then 6 else 0x81) 0) ∧ s.OnlyIn [.regs, .evt, .hub, .out, .nv, .tr, .md, .lg, .dr, .ts] t)) ∧
  (∀ (s : State) (unit : Nat), s.Inv → s.Answers (.hubFault unit) (fun t => t.rd Fd.SAF_HUBFLT_UNIT = unit % 16 ∧
    t.rd Fd.SAF_HUBFLT_VALID = 1 ∧ t.hub.fenced = true ∧ (s.hub.fenced = false → t.rd Fd.SAF_FENCE_CAUSE = 4 ∧
      (∀ f < 256, (t.fn f).cfs = true)) ∧ s.OnlyIn [.regs, .evt, .hub, .out, .nv, .ts] t)) ∧
  (∀ s : State, s.lapsed = none ∨ s.hub.fenced = true → exec .leaseLapse s = .next s) ∧
  (∀ (s : State) (h : Half), s.lapsed = some h → s.hub.fenced = false → s.hub.linkOn = false → exec .leaseLapse s = .next (s.bootLapse h)) ∧
  (∀ (s : State) (h : Half), s.Inv → s.lapsed = some h → s.hub.fenced = false → s.hub.linkOn = true →
    s.variant.twin = false ∨ (s.half (otherHalf h)).st ≠ .standby → s.Answers .leaseLapse (fun t => t.hub.fenced = true ∧
      t.rd Fd.SAF_FENCE_CAUSE = (if s.variant.twin = true then 1 else 6) ∧
      t.hub.flusher = s.flusherOf (if s.variant.twin = true then 1 else 6) (some h) ∧ (∀ f < 256, (t.fn f).cfs = true))) ∧
  (∀ (s : State) (h : Half), s.Inv → s.lapsed = some h → s.hub.fenced = false → s.hub.linkOn = true → s.variant.twin = true →
    (s.half (otherHalf h)).st = .standby → s.Answers .leaseLapse (fun t => t.hub.holder = some (otherHalf h) ∧
      t.rd Fd.CLP_EPOCH_EPOCH = (s.rd Fd.CLP_EPOCH_EPOCH + 1) % 2 ^ 32 ∧ t.hub.hold = true ∧
      t.rd Fd.CLP_TAKEOVER_COUNT = min (2 ^ 16 - 1) (s.rd Fd.CLP_TAKEOVER_COUNT + 1) ∧ t.rd Fd.CLP_TAKEOVER_PLANNED = 0 ∧
      (∀ f < 256, t.fnUp f = true → (t.fn f).splitRole = some (s.barAfter 2)) ∧ t.sv.sess = [] ∧ t.sv.upd = none ∧ s.OnlyIn [.time, .regs, .hi, .readData, .freeCtr, .evt, .chan, .locks, .hub, .sched, .out, .nv, .tr, .md, .lg, .slots, .rg, .dr, .bf, .bt, .sv, .ts] t)) ∧
  (∀ s : State, (∀ t, s.hub.take = some t → s.active ≠ some t.half) → exec .takeoverReady s = .next s) ∧
  (∀ (s : State) (k : TakeOver), s.hub.take = some k → s.active = some k.half → exec .takeoverReady s =
    .next { s with hub := { s.hub with take := some { k with ready := true } } }) ∧
  (∀ s : State, s.hub.fenced = true ∨ (∀ k, s.hub.take = some k → k.ready = true ∨ k.drill = true ∨ s.time.beat < k.grantAt + 5) →
    exec .takeoverTimeout s = .next s) ∧
  (∀ (s : State) (k : TakeOver), s.Inv → s.hub.fenced = false → s.hub.take = some k → k.ready = false → k.drill = false →
    k.grantAt + 5 ≤ s.time.beat → s.Answers .takeoverTimeout (fun t => t.hub.fenced = true ∧ t.rd Fd.SAF_FENCE_CAUSE = 2 ∧
      t.hub.flusher = s.flusherOf 2 (some k.half) ∧ t.hub.take = none ∧ s.OnlyIn [.regs, .evt, .hub, .out, .nv, .ts] t)) ∧
  (∀ (s : State) (cause : Nat), s.fenceDue cause = none ∨ s.hub.fenced = true → exec (.fencedStateEntry cause) s = .next s) ∧
  (∀ (s : State) (cause : Nat) (h : Option Half), s.Inv → s.fenceDue cause = some h → s.hub.fenced = false →
    s.Answers (.fencedStateEntry cause) (fun t => t.hub.fenced = true ∧ t.rd Fd.SAF_FENCE_CAUSE = cause ∧ 1 ≤ cause ∧ cause ≤ 6 ∧
      t.hub.flusher = s.flusherOf cause h ∧ t.rd Fd.SAF_FENCE_FLUSHER = flusherCode (s.flusherOf cause h) ∧
      t.hub.outputsHeld = (s.flusherOf cause h).isNone ∧ t.rd Fd.SAF_FENCE_FLUSHED = 0 ∧ (∀ f < 256, (t.fn f).cfs = true) ∧
      s.OnlyIn [.regs, .evt, .hub, .out, .nv, .ts] t)) ∧
  (∀ s : State, s.hub.fenced = false ∨ s.hub.flusher = none ∨ s.hub.outputsHeld = true → exec .fenceFlushEnd s = .next s) ∧
  (∀ s : State, s.hub.fenced = true → s.hub.flusher.isSome = true → s.hub.outputsHeld = false → exec .fenceFlushEnd s =
    .next { s with hub := { s.hub with outputsHeld := true }, evt := { s.evt with stopped := true } })

/-- DRILL_NOW asks for a drill; DRILL_MARK marks one when PERIOD has passed, or at the bar boundary after the request (R404).
DRILL_BEGIN at a bar boundary begins it where the conditions hold: the output hold begins and the active half stands by; where
they do not, a bar of deferral counts (R404, R405). DRILL_GRANT at the next boundary gives the candidate the clapper with the
next epoch (R405). DRILL_READY_TIMEOUT fails the drill, counted, and the former active half is granted the clapper again (R406).
DRILL_PASS at the end of the window counts and records it, and sets the next one; DRILL_DEFERRAL_REPORT reports each hour of
deferral with the event of code 0x0E03. Where its condition does not hold each changes nothing. -/
def Obligations.SwapDrillsRun : Prop :=
  (∀ (s : State) (m : Nat), (s.variant.twin = false → exec (.drillNow m) s = .next s) ∧ (s.Inv → s.variant.twin = true →
    s.Answers (.drillNow m) (fun t => t.rd Fd.CLP_DRILLCTRL_NOW = 1 ∧ t.hub = { s.hub with drill := { s.hub.drill with nowReq := true } } ∧
      s.RegsBut [keyOf Fd.CLP_DRILLCTRL_NOW] t ∧ s.OnlyIn [.regs, .hub] t))) ∧
  (∀ s : State, s.variant.twin = false ∨ s.hub.linkOn = false ∨ s.hub.drill.mark ≠ none ∨ s.hub.drill.d ≠ none ∨
    ((s.hub.drill.nowReq = false ∨ s.atBar = false) ∧ s.time.beat < s.hub.drill.next) → exec .drillMark s = .next s) ∧
  (∀ s : State, s.variant.twin = true → s.hub.linkOn = true → s.hub.drill.mark = none → s.hub.drill.d = none →
    (s.hub.drill.nowReq = true ∧ s.atBar = true) ∨ s.hub.drill.next ≤ s.time.beat → exec .drillMark s = .next { s with hub := { s.hub with
      drill := { s.hub.drill with mark := some s.time.beat, nowReq := false, deferred := 0, reported := 0 } } }) ∧
  (∀ s : State, s.hub.drill.mark = none ∨ s.atBar = false ∨ s.active = none → exec .drillBegin s = .next s) ∧
  (∀ (s : State) (h : Half), s.Inv → s.hub.drill.mark ≠ none → s.atBar = true → s.active = some h → s.drillFit = true →
    s.Answers .drillBegin (fun t => (t.half h).st = .standby ∧ t.hub.hold = true ∧ t.hub.drill.mark = none ∧
      t.hub.drill.d = some s.time.beat ∧ t.hub.drill.cand = otherHalf h ∧ t.hub.drill.granted = false ∧ t.rd Fd.CLP_DRILLSTAT_STATE = 2 ∧
      t.rd Fd.CLP_DRILLCTRL_NOW = 0 ∧ s.OnlyIn [.regs, .hub, .out, .nv, .dr, .ts] t)) ∧
  (∀ (s : State) (h : Half), s.Inv → s.hub.drill.mark ≠ none → s.atBar = true → s.active = some h → s.drillFit = false →
    s.Answers .drillBegin (fun t => t.hub = { s.hub with drill := { s.hub.drill with deferred := s.hub.drill.deferred + 1 } } ∧
      t.rd Fd.CLP_DRILLSTAT_STATE = 1 ∧ t.rd Fd.CLP_DRILLSTAT_DEFERRED = min 65535 ((s.hub.drill.deferred + 1) / 1000) ∧
      s.OnlyIn [.regs, .hub, .out, .nv, .dr, .ts] t)) ∧
  (∀ s : State, s.hub.fenced = true ∨ s.hub.drill.granted = true ∨ (∀ d, s.hub.drill.d = some d → s.time.beat ≤ d) →
    exec .drillGrant s = .next s) ∧
  (∀ (s : State) (d : Nat), s.Inv → s.hub.fenced = false → s.hub.drill.granted = false → s.hub.drill.d = some d → d < s.time.beat →
    s.Answers .drillGrant (fun t => t.hub.holder = some s.hub.drill.cand ∧ t.hub.drill.granted = true ∧
      t.rd Fd.CLP_EPOCH_EPOCH = (s.rd Fd.CLP_EPOCH_EPOCH + 1) % 2 ^ 32 ∧ t.rd Fd.CLP_TAKEOVER_PLANNED = 1 ∧
      t.rd Fd.CLP_TAKEOVER_COUNT = min (2 ^ 16 - 1) (s.rd Fd.CLP_TAKEOVER_COUNT + 1) ∧ t.hub.hold = true ∧ s.OnlyIn [.regs, .evt, .hub, .out, .nv, .tr, .md, .lg, .rg, .dr, .sv, .ts] t)) ∧
  (∀ s : State, s.hub.drill.d = none ∨ (∀ d k, s.hub.drill.d = some d → s.hub.take = some k → k.drill = false ∨ k.ready = true ∨
    s.time.beat < d + 5) → exec .drillReadyTimeout s = .next s) ∧
  (∀ (s : State) (d : Nat) (k : TakeOver), s.Inv → s.hub.drill.d = some d → s.hub.take = some k → k.drill = true → k.ready = false →
    d + 5 ≤ s.time.beat → s.Answers .drillReadyTimeout (fun t => t.hub.holder = some (otherHalf k.half) ∧ t.hub.drill.d = none ∧
      t.rd Fd.CLP_CNT_DRILL_FAILED = min (2 ^ 16 - 1) (s.rd Fd.CLP_CNT_DRILL_FAILED + 1) ∧ t.rd Fd.CLP_DRILLSTAT_LAST = 2 ∧
      t.rd Fd.CLP_DRILLSTAT_STATE = 0 ∧ t.rd Fd.CLP_EPOCH_EPOCH = (s.rd Fd.CLP_EPOCH_EPOCH + 1) % 2 ^ 32 ∧ s.OnlyIn [.regs, .evt, .hub, .out, .nv, .tr, .md, .lg, .rg, .dr, .sv, .ts] t)) ∧
  (∀ s : State, s.hub.drill.d = none ∨ (∀ p, s.hub.drill.passAt = some p → s.time.beat < p) → exec .drillPass s = .next s) ∧
  (∀ (s : State) (at_ p : Nat), s.Inv → s.hub.drill.d = some at_ → s.hub.drill.passAt = some p → p ≤ s.time.beat → s.Answers .drillPass (fun t =>
    t.rd Fd.CLP_CNT_DRILL_PASSED = min (2 ^ 16 - 1) (s.rd Fd.CLP_CNT_DRILL_PASSED + 1) ∧ t.rd Fd.CLP_DRILLSTAT_STATE = 0 ∧
    t.rd Fd.CLP_DRILLSTAT_LAST = 1 ∧ t.hub = { s.hub with drill := { s.hub.drill with
      d := none, passAt := none, granted := false, next := at_ + s.rd Fd.CLP_DRILLCFG_PERIOD * 900000000 } } ∧
    s.Records t 0 0x80 0x0E01 [at_, halfNum s.hub.drill.cand, 0, s.rd Fd.CLP_EPOCH_EPOCH] ∧ s.OnlyIn [.regs, .evt, .hub] t)) ∧
  (∀ s : State, s.hub.drill.mark = none ∨ s.hub.drill.deferred / 3600000 ≤ s.hub.drill.reported → exec .drillDeferralReport s = .next s) ∧
  (∀ (s : State) (m : Nat), s.hub.drill.mark = some m → s.hub.drill.reported < s.hub.drill.deferred / 3600000 →
    s.Answers .drillDeferralReport (fun t => t.hub = { s.hub with drill := { s.hub.drill with reported := s.hub.drill.reported + 1 } } ∧
      s.Records t 0 0x80 0x0E03 [m, s.hub.drill.deferred, 0, 0] ∧ s.RegsBut eventKeys t ∧ s.OnlyIn [.regs, .evt, .hub] t))

/-- CHIME_SEND by the master of endpoint e puts the message of CHM_TXLO and CHM_TXHI into an empty channel with its next SEQ and
LAST reads sent; with a full channel LAST reads full, the message is unchanged and CHM_CNT_FULL rises; a destination that is e
itself or absent gives invalid (R426). CHIME_ACK by the master empties the channel from SRC; an ACK of an empty channel is
discarded (R427). Any other master is refused: counted in CHM_CNT_BAD and recorded with code 0x0F02 (R437). LOCK_READ acquires a
free lock; a held lock stays held and SEM_CNT_CONTEND rises; the service port bridge peeks (R431). SEM_FORCE by a control slice
pair frees a held lock, raises local interrupt 21, counts and records code 0x1002; another master is discarded and recorded
(R434). A number of no endpoint or no lock, and a half that the variant has not, changes nothing (a lock's read gives 0; R6).
That the release of a free lock is refused as another master's is, is the model's choice (log entry 116); the holder that its
event and the event of SEM_FORCE then name is a free value. -/
def Obligations.ChimesAndLocksAnswer : Prop :=
  (∀ (s : State) (h : Half) (m e dest : Nat) (ack : Bool), halfPresent s.variant h = false ∨ endpointPresent s.variant e = false →
    exec (.chimeSend h m e dest) s = .next s ∧ exec (.chimeAck h m e ack) s = .next s) ∧
  (∀ (s : State) (h : Half) (m e dest : Nat), s.Inv → halfPresent s.variant h = true → endpointPresent s.variant e = true → m ≠ endpointMaster e →
    s.Answers (.chimeSend h m e dest) (fun t => t.chan = s.chan ∧
      t.rd Fd.CHM_CNT_BAD_COUNT 0 h = min (2 ^ 32 - 1) (s.rd Fd.CHM_CNT_BAD_COUNT 0 h + 1) ∧
      s.Records t (halfSrc h) 0x80 0x0F02 [e, m, Reg.CHM_TXCTRL.at e, 1] ∧ s.RegsBut (keyOf Fd.CHM_CNT_BAD_COUNT 0 h :: eventKeys) t ∧
      s.OnlyIn [.regs, .evt, .chan] t)) ∧
  (∀ (s : State) (h : Half) (e dest : Nat), s.Inv → halfPresent s.variant h = true → endpointPresent s.variant e = true → 
    dest % 32 = e ∨ endpointPresent s.variant (dest % 32) = false → s.Answers (.chimeSend h (endpointMaster e) e dest) (fun t =>
      t.chan = s.chan ∧ t.rd Fd.CHM_TXSTAT_LAST e h = 3 ∧ s.RegsBut [keyOf Fd.CHM_TXSTAT_LAST e h] t ∧ s.OnlyIn [.regs, .evt, .chan] t)) ∧
  (∀ (s : State) (h : Half) (e dest : Nat), s.Inv → halfPresent s.variant h = true → endpointPresent s.variant e = true → 
    dest % 32 ≠ e → endpointPresent s.variant (dest % 32) = true → (s.channel h e (dest % 32)).full = true →
    s.Answers (.chimeSend h (endpointMaster e) e dest) (fun t => t.chan = s.chan ∧ t.rd Fd.CHM_TXSTAT_LAST e h = 2 ∧
      t.rd Fd.CHM_CNT_FULL_COUNT 0 h = min (2 ^ 32 - 1) (s.rd Fd.CHM_CNT_FULL_COUNT 0 h + 1) ∧
      s.RegsBut [keyOf Fd.CHM_TXSTAT_LAST e h, keyOf Fd.CHM_CNT_FULL_COUNT 0 h] t ∧ s.OnlyIn [.regs, .evt, .chan] t)) ∧
  (∀ (s : State) (h : Half) (e dest : Nat), s.Inv → halfPresent s.variant h = true → endpointPresent s.variant e = true → 
    dest % 32 ≠ e → endpointPresent s.variant (dest % 32) = true → (s.channel h e (dest % 32)).full = false →
    s.Answers (.chimeSend h (endpointMaster e) e dest) (fun t =>
      t.channel h e (dest % 32) = ⟨true, BitVec.ofNat 64 (s.rd Fd.CHM_TXLO_DATA e h + s.rd Fd.CHM_TXHI_DATA e h * 2 ^ 32),
        ((s.channel h e (dest % 32)).next + 1) % 256⟩ ∧
      (∀ k, k ≠ chanKey h e (dest % 32) → spGet (fun _ => Chan.init) t.chan k = spGet (fun _ => Chan.init) s.chan k) ∧
      t.rd Fd.CHM_TXSTAT_LAST e h = 1 ∧ t.rd Fd.CHM_TXSTAT_SEQ e h = (s.channel h e (dest % 32)).next % 256 ∧
      s.RegsBut [keyOf Fd.CHM_TXSTAT_LAST e h] t ∧ s.OnlyIn [.regs, .evt, .chan] t)) ∧
  (∀ (s : State) (h : Half) (m e : Nat) (ack : Bool), s.Inv → halfPresent s.variant h = true → endpointPresent s.variant e = true → m ≠ endpointMaster e →
    s.Answers (.chimeAck h m e ack) (fun t => t.chan = s.chan ∧
      t.rd Fd.CHM_CNT_BAD_COUNT 0 h = min (2 ^ 32 - 1) (s.rd Fd.CHM_CNT_BAD_COUNT 0 h + 1) ∧
      s.Records t (halfSrc h) 0x80 0x0F02 [e, m, Reg.CHM_RXACK.at e, 1] ∧ s.RegsBut (keyOf Fd.CHM_CNT_BAD_COUNT 0 h :: eventKeys) t ∧
      s.OnlyIn [.regs, .evt, .chan] t)) ∧
  (∀ (s : State) (h : Half) (e : Nat) (ack : Bool), endpointPresent s.variant e = true →
    ack = false ∨ (s.channel h (s.rd Fd.CHM_RXSEL_SRC e h) e).full = false → exec (.chimeAck h (endpointMaster e) e ack) s = .next s) ∧
  (∀ (s : State) (h : Half) (e : Nat), s.Inv → halfPresent s.variant h = true → endpointPresent s.variant e = true → (s.channel h (s.rd Fd.CHM_RXSEL_SRC e h) e).full = true →
    s.Answers (.chimeAck h (endpointMaster e) e true) (fun t =>
      t.channel h (s.rd Fd.CHM_RXSEL_SRC e h) e = ⟨false, 0, (s.channel h (s.rd Fd.CHM_RXSEL_SRC e h) e).next⟩ ∧
      (∀ k, k ≠ chanKey h (s.rd Fd.CHM_RXSEL_SRC e h) e → spGet (fun _ => Chan.init) t.chan k = spGet (fun _ => Chan.init) s.chan k) ∧
      s.OnlyIn [.chan] t)) ∧
  (∀ (s : State) (h : Half) (m n : Nat), 64 ≤ n ∨ halfPresent s.variant h = false → exec (.lockRead h m n) s = .next { s with readData := 0 }) ∧
  (∀ (s : State) (h : Half) (n : Nat), n < 64 → halfPresent s.variant h = true → exec (.lockRead h 96 n) s = .next { s with readData := s.peekLock h n }) ∧
  (∀ (s : State) (h : Half) (m n : Nat), s.Inv → n < 64 → halfPresent s.variant h = true → m ≠ 96 → s.lockHolder h n = none → s.Answers (.lockRead h m n) (fun t =>
    t.lockHolder h n = some m ∧ t.readData = 3 + m * 256 ∧
    (∀ k, k ≠ lockKey h n → spGet (fun _ => 0) t.locks k = spGet (fun _ => 0) s.locks k) ∧ s.OnlyIn [.locks, .readData] t)) ∧
  (∀ (s : State) (h : Half) (m n k : Nat), s.Inv → n < 64 → halfPresent s.variant h = true → m ≠ 96 → s.lockHolder h n = some k → s.Answers (.lockRead h m n) (fun t =>
    t.readData = 2 + k * 256 ∧ t.rd Fd.SEM_CNT_CONTEND_COUNT 0 h = min (2 ^ 32 - 1) (s.rd Fd.SEM_CNT_CONTEND_COUNT 0 h + 1) ∧
    s.RegsBut [keyOf Fd.SEM_CNT_CONTEND_COUNT 0 h] t ∧ s.OnlyIn [.regs, .readData] t)) ∧
  (∀ (s : State) (h : Half) (m val : Nat), halfPresent s.variant h = false → exec (.semForce h m val) s = .next s) ∧
  (∀ (s : State) (h : Half) (m val : Nat), halfPresent s.variant h = true → 2 ≤ m → s.Answers (.semForce h m val) (fun t => t.locks = s.locks ∧
    s.RegsBut eventKeys t ∧ s.Records t (halfSrc h) (0x80 + unitPos Blk.SEM) (Blk.SEM * 256) [Reg.SEM_FORCE.off, val, m, 0] ∧
    s.OnlyIn [.regs, .freeCtr, .evt, .locks, .hub] t)) ∧
  (∀ (s : State) (h : Half) (m val : Nat), s.Inv → halfPresent s.variant h = true → m < 2 → bit val 31 = false → s.Answers (.semForce h m val) (fun t =>
    t.rd Fd.SEM_FORCE_LOCK 0 h = val % 64 ∧ s.RegsBut [keyOf Fd.SEM_FORCE_LOCK 0 h] t ∧ s.OnlyIn [.regs] t)) ∧
  (∀ (s : State) (h : Half) (m val : Nat), s.Inv → halfPresent s.variant h = true → m < 2 → bit val 31 = true → s.lockHolder h (val % 64) = none →
    s.Answers (.semForce h m val) (fun t => t.rd Fd.SEM_FORCE_LOCK 0 h = val % 64 ∧ t.locks = s.locks ∧ t.hub = s.hub ∧
      s.RegsBut (keyOf Fd.SEM_FORCE_LOCK 0 h :: eventKeys) t ∧ s.Records t (halfSrc h) 0x80 0x1002 [val % 64, s.free.1] ∧ s.OnlyIn [.regs, .freeCtr, .evt, .locks, .hub] t)) ∧
  (∀ (s : State) (h : Half) (m val k : Nat), s.Inv → halfPresent s.variant h = true → m < 2 → bit val 31 = true → s.lockHolder h (val % 64) = some k →
    s.Answers (.semForce h m val) (fun t => t.rd Fd.SEM_FORCE_LOCK 0 h = val % 64 ∧ t.lockHolder h (val % 64) = none ∧
      (t.half h).forceIrq = true ∧
      (∀ j, j ≠ lockKey h (val % 64) → spGet (fun _ => 0) t.locks j = spGet (fun _ => 0) s.locks j) ∧
      t.rd Fd.SEM_CNT_FORCE_COUNT 0 h = min (2 ^ 32 - 1) (s.rd Fd.SEM_CNT_FORCE_COUNT 0 h + 1) ∧
      s.RegsBut (keyOf Fd.SEM_FORCE_LOCK 0 h :: keyOf Fd.SEM_CNT_FORCE_COUNT 0 h :: eventKeys) t ∧
      s.Records t (halfSrc h) 0x80 0x1002 [val % 64, k] ∧ s.OnlyIn [.regs, .freeCtr, .evt, .locks, .hub] t)) ∧
  (∀ (s : State) (h : Half) (m n val : Nat), s.Inv → n < 64 → halfPresent s.variant h = true → bit val 31 = true → s.lockHolder h n = none →
    s.Answers (.lockRelease h m n val) (fun t => t.locks = s.locks ∧
      t.rd Fd.SEM_CNT_BADREL_COUNT 0 h = min (2 ^ 32 - 1) (s.rd Fd.SEM_CNT_BADREL_COUNT 0 h + 1) ∧
      s.RegsBut (keyOf Fd.SEM_CNT_BADREL_COUNT 0 h :: eventKeys) t ∧
      s.Records t (halfSrc h) 0x80 0x1001 [n, m, s.free.1] ∧ s.OnlyIn [.regs, .freeCtr, .evt, .locks] t))

/-- LOCK_RELEASE by the holder of a lock frees it. By any other master it is refused: the lock stays with its holder,
SEM_CNT_BADREL rises by 1, and an event of code 0x1001 names the lock, the writer and the holder. With RELEASE 0 it is discarded
(R433). A number of no lock, and a half that the variant has not, changes nothing. -/
def Obligations.LocksAreReleasedByTheirHolder : Prop :=
  (∀ (s : State) (h : Half) (m n val : Nat), 64 ≤ n ∨ halfPresent s.variant h = false ∨ bit val 31 = false → exec (.lockRelease h m n val) s = .next s) ∧
  (∀ (s : State) (h : Half) (m n val : Nat), s.Inv → n < 64 → halfPresent s.variant h = true → bit val 31 = true → s.lockHolder h n = some m →
    s.Answers (.lockRelease h m n val) (fun t => t.lockHolder h n = none ∧
      (∀ k, k ≠ lockKey h n → spGet (fun _ => 0) t.locks k = spGet (fun _ => 0) s.locks k) ∧ s.OnlyIn [.locks] t)) ∧
  (∀ (s : State) (h : Half) (m n val k : Nat), s.Inv → n < 64 → halfPresent s.variant h = true → bit val 31 = true → s.lockHolder h n = some k →
    k ≠ m →
    s.Answers (.lockRelease h m n val) (fun t => t.locks = s.locks ∧ t.lockHolder h n = some k ∧
      t.rd Fd.SEM_CNT_BADREL_COUNT 0 h = min (2 ^ 32 - 1) (s.rd Fd.SEM_CNT_BADREL_COUNT 0 h + 1) ∧
      s.RegsBut (keyOf Fd.SEM_CNT_BADREL_COUNT 0 h :: eventKeys) t ∧
      s.Records t (halfSrc h) 0x80 0x1001 [n, m, k] ∧ s.OnlyIn [.regs, .freeCtr, .evt, .locks] t))

/-- EVENT_SUBMIT by master e is queued, suppressed or discarded as R501 and R503 test it, and RESULT says which (a code that
R500 does not list is discarded: log entry 135); a write of another master is discarded and recorded. EVENT_RECORD_WRITE takes
the front record, gives it SEQ and SUPP and writes its eight words into its ring slot (R499, R502, R504); a slot that awaits its
permanent copy is not overwritten: the record is counted as lost and its code's suppressed count stands (R504, R505).
PERMANENT_COPY copies the next record in order of p (R505), or finishes a clearing (R508). TOKEN_REFILL gives back one token at
each multiple of PERIOD (R503). HOURLY_TEMPERATURE_RECORD records code 0x0903 and keeps its arguments (R510). SNAPSHOT_GO sets
GO and ID; SNAPSHOT_LATCH at the next bar boundary latches the counters of the snapshot table and ID and sets DONE (R511). -/
def Obligations.TheRecorderRecords : Prop :=
  (∀ (s : State) (h : Half) (m e code : Nat), masterPresent s.variant e = false ∨ halfPresent s.variant h = false →
    exec (.eventSubmit h m e code) s = .next s) ∧
  (∀ (s : State) (h : Half) (m e code : Nat), masterPresent s.variant e = true → halfPresent s.variant h = true → m ≠ e →
    s.Answers (.eventSubmit h m e code) (fun t => s.RegsBut eventKeys t ∧
      s.Records t 0 0x80 (Blk.EVT * 256) [Reg.EVT_SUB.at e, code, m, 0] ∧ s.OnlyIn [.regs, .evt] t)) ∧
  (∀ (s : State) (h : Half) (e code : Nat), s.Inv → halfPresent s.variant h = true → masterPresent s.variant e = true →
    s.accepts (halfSrc h) = false ∨ listedCode (code % 65536) = false → s.Answers (.eventSubmit h e e code) (fun t =>
      t.evt = s.evt ∧ t.rd Fd.EVT_SUB_RESULT e h = 3 ∧
      s.RegsBut [keyOf Fd.EVT_SUB_RESULT e h] t ∧ s.OnlyIn [.regs, .evt] t)) ∧
  (∀ (s : State) (h : Half) (e code : Nat), s.Inv → halfPresent s.variant h = true → masterPresent s.variant e = true →
    s.accepts (halfSrc h) = true → listedCode (code % 65536) = true → exemptCode (code % 65536) = false →
    s.tokens (code % 65536) = 0 → s.Answers (.eventSubmit h e e code) (fun t =>
      t.rd Fd.EVT_SUB_RESULT e h = 2 ∧
      t.rd Fd.EVT_CNT_SUPP_COUNT = min (2 ^ 32 - 1) (s.rd Fd.EVT_CNT_SUPP_COUNT + 1) ∧
      t.evt = { s.evt with supp := spSet (fun _ => 0) s.evt.supp (code % 65536) (spGet (fun _ => 0) s.evt.supp (code % 65536) + 1) } ∧
      s.RegsBut (keyOf Fd.EVT_SUB_RESULT e h :: eventKeys) t ∧ s.OnlyIn [.regs, .evt] t)) ∧
  (∀ (s : State) (h : Half) (e code : Nat), s.Inv → halfPresent s.variant h = true → masterPresent s.variant e = true →
    s.accepts (halfSrc h) = true → listedCode (code % 65536) = true → exemptCode (code % 65536) = true ∨ s.tokens (code % 65536) ≠ 0 →
    s.evt.queue.length < 512 → s.Answers (.eventSubmit h e e code) (fun t =>
      t.rd Fd.EVT_SUB_RESULT e h = 1 ∧
      t.evt.queue = s.evt.queue ++ [⟨s.time.beat, code % 65536, halfSrc h, e, 0,
        [s.rd Fd.EVT_ARG0_ARG e h + s.rd Fd.EVT_ARG1_ARG e h * 2 ^ 32, s.rd Fd.EVT_ARG2_ARG e h + s.rd Fd.EVT_ARG3_ARG e h * 2 ^ 32,
         s.rd Fd.EVT_ARG4_ARG e h + s.rd Fd.EVT_ARG5_ARG e h * 2 ^ 32, s.rd Fd.EVT_ARG6_ARG e h + s.rd Fd.EVT_ARG7_ARG e h * 2 ^ 32]⟩] ∧
      t.evt.used = (if exemptCode (code % 65536) then s.evt.used else
        spSet (fun _ => 0) s.evt.used (code % 65536) (spGet (fun _ => 0) s.evt.used (code % 65536) + 1)) ∧
      s.RegsBut [keyOf Fd.EVT_SUB_RESULT e h] t ∧ s.OnlyIn [.regs, .evt] t)) ∧
  (∀ (s : State) (h : Half) (e code : Nat), s.Inv → halfPresent s.variant h = true → masterPresent s.variant e = true →
    s.accepts (halfSrc h) = true → listedCode (code % 65536) = true → exemptCode (code % 65536) = true ∨ s.tokens (code % 65536) ≠ 0 →
    512 ≤ s.evt.queue.length → s.Answers (.eventSubmit h e e code) (fun t =>
      t.rd Fd.EVT_SUB_RESULT e h = 3 ∧ t.evt.queue = s.evt.queue ∧ t.evt.lost = s.evt.lost + 1 ∧
      t.rd Fd.EVT_CNT_LOST_COUNT = min (2 ^ 32 - 1) (s.rd Fd.EVT_CNT_LOST_COUNT + 1) ∧
      s.RegsBut (keyOf Fd.EVT_SUB_RESULT e h :: eventKeys) t ∧ s.OnlyIn [.regs, .evt] t)) ∧
  (∀ s : State, s.evt.queue = [] ∨ s.testRuns 7 = true → exec .eventRecordWrite s = .next s) ∧
  (∀ (s : State) (r : EvRec) (rest : List EvRec), s.Inv → s.evt.queue = r :: rest → s.testRuns 7 = false →
    s.Answers .eventRecordWrite (fun t => t.evt.seq = s.evt.seq + 1 ∧ t.evt.supp =
      (if s.slotAwaitsCopy = true then s.evt.supp else spSet (fun _ => 0) s.evt.supp r.code 0) ∧
      (s.slotAwaitsCopy = false → t.ringWords s.evt.seq =
          recWords { r with supp := min (spGet (fun _ => 0) s.evt.supp r.code) 65535 } s.evt.seq ∧
        (∀ k, k < ringSlot s.variant s.evt.seq / 8 ∨ ringSlot s.variant s.evt.seq / 8 + 8 ≤ k →
          spGet (fun _ => 0) t.lg.words k = spGet (fun _ => 0) s.lg.words k) ∧ t.regs = s.regs ∧
        (s.evt.lost = 0 → t.evt.queue = rest) ∧ (s.evt.lost ≠ 0 → s.evt.stopped = false → t.evt.lost = 0 ∧
          t.evt.queue = rest ++ [⟨s.time.beat, 0x1401, 0, 0x80, 0, [s.evt.lost]⟩])) ∧
      (s.slotAwaitsCopy = true → t.lg = s.lg ∧ t.rd Fd.EVT_CNT_LOST_COUNT = min (2 ^ 32 - 1) (s.rd Fd.EVT_CNT_LOST_COUNT + 1) ∧
        s.RegsBut [keyOf Fd.EVT_CNT_LOST_COUNT] t ∧ (s.evt.stopped = false → t.evt.lost = 0 ∧
          t.evt.queue = rest ++ [⟨s.time.beat, 0x1401, 0, 0x80, 0, [s.evt.lost + 1]⟩])) ∧ s.OnlyIn [.regs, .evt, .lg] t)) ∧
  (∀ (s : State) (c : Clearing), s.evt.clearing = some c →
    exec .permanentCopy s = .next (if s.mayProgram 0 then s.clearPermanent c else s)) ∧
  (∀ s : State, s.evt.clearing = none → s.mayProgram 0 = false ∨ s.evt.stopped = true ∨ s.copyNext = none →
    exec .permanentCopy s = .next s) ∧
  (∀ (s : State) (q : Nat), s.evt.clearing = none → s.mayProgram 0 = true → s.evt.stopped = false → s.copyNext = some q →
    s.Answers .permanentCopy (fun t =>
      t = (s.programRecord (permAddr s.evt.perm) (s.ringWords q)).updEvt (fun e => { e with perm := e.perm + 1 }) ∧
      t.evt.perm = s.evt.perm + 1 ∧ q = s.evt.pbase + s.evt.perm ∧ t.regs = s.regs ∧ s.OnlyIn [.evt, .bt] t)) ∧
  (∀ s : State, s.atBar = false → exec .tokenRefill s = .next s) ∧
  (∀ s : State, s.atBar = true → exec .tokenRefill s = .next { s with evt := { s.evt with
    used := (s.evt.used.map (fun p => p.1)).foldl (fun u code => if s.bar % s.rd Fd.EVT_LIM_PERIOD (code / 256) = 0 then
      spSet (fun _ => 0) u code (spGet (fun _ => 0) u code - 1) else u) s.evt.used } }) ∧
  (∀ s : State, s.time.beat = 0 ∨ s.time.beat % 900000000 ≠ 0 → exec .hourlyTemperatureRecord s = .next s) ∧
  (∀ s : State, s.time.beat ≠ 0 → s.time.beat % 900000000 = 0 → s.Answers .hourlyTemperatureRecord (fun t => s.RegsBut eventKeys t ∧
    s.Records t 0 0x80 0x0903 (t.evt.hist.headD []) ∧ t.evt.warmBeats = 0 ∧ t.evt.hotBeats = 0 ∧
    t.evt.acc = List.replicate 8 ⟨0, 0, 0, 0⟩ ∧ t.evt.hist = ([packTemps s.variant s.evt.acc (fun t => t.max),
      packTemps s.variant s.evt.acc (fun t => t.sum / t.count), packTemps s.variant s.evt.acc (fun t => t.min),
      s.evt.warmBeats / 15000000 + s.evt.hotBeats / 15000000 * 2 ^ 16 + s.time.beat / 900000000 % 65536 * 2 ^ 32] :: s.evt.hist).take 168 ∧
    s.OnlyIn [.regs, .evt] t)) ∧
  (∀ (s : State) (m val : Nat), s.Inv → s.Answers (.snapshotGo m val) (fun t => t.rd Fd.EVT_SNAPCTRL_ID = val / 65536 % 65536 ∧
    t.rd Fd.EVT_SNAPCTRL_DONE = (if bit val 1 then 0 else s.rd Fd.EVT_SNAPCTRL_DONE) ∧
    t.rd Fd.EVT_SNAPCTRL_GO = (if bit val 0 then 1 else s.rd Fd.EVT_SNAPCTRL_GO) ∧ s.RegsBut [keyOf Fd.EVT_SNAPCTRL_GO] t ∧
    s.OnlyIn [.regs] t)) ∧
  (∀ s : State, s.atBar = false ∨ s.rd Fd.EVT_SNAPCTRL_GO = 0 → exec .snapshotLatch s = .next s) ∧
  (∀ s : State, s.Inv → s.atBar = true → s.rd Fd.EVT_SNAPCTRL_GO = 1 → s.Answers .snapshotLatch (fun t => t.rd Fd.EVT_SNAPCTRL_GO = 0 ∧
    t.rd Fd.EVT_SNAPCTRL_DONE = 1 ∧ (∀ i b o, snapRegs[i]? = some (b, o) → t.rd Fd.EVT_SNAP_WORD i = (s.view s.act b o).toNat) ∧
    t.rd Fd.EVT_SNAP_WORD 31 = s.rd Fd.EVT_SNAPCTRL_ID ∧
    s.RegsBut (keyOf Fd.EVT_SNAPCTRL_GO :: (List.range 32).map (fun i => keyOf Fd.EVT_SNAP_WORD i)) t ∧ s.OnlyIn [.regs] t))

/-- TEST_GO refused by the tests of R516 sets REFUSED and REASON and changes nothing else; accepted, it sets TST_CTRL, clears
the results of the run, and records code 0x1501 with IFACE, DEPTH, TARGET and the class; class W begins the power-loss sequence
of a device not yet withdrawn, and class P takes the port out of DL_Active (R516, R517). TEST_STOP by a writer of the class sets
STOP, by another is discarded and recorded (R518, R526). TEST_RUN_START at a bar boundary makes STATE running (R516); the host
path test then writes its range with pattern 7 from the target function (R522). CHECKER_LOCK and CHECKER_LOCK_LOSS move the
lanes that are locked, with LOCK and LOCKLOSS (R519). TEST_RUN_END ends the run for a cause that holds: the counts, RESULT and
CAUSE are noted and code 0x1502 is recorded (R518, R523); of a host path test the counts are its own (R522). A class F run that
held the service port lets go of it. Where its condition does not hold each changes nothing. The order of the tests of a GO is
the model's (log entry 66). -/
def Obligations.TestRunsBeginAndEnd : Prop :=
  (∀ (s : State) (m val : Nat), s.Inv → s.goReason m (modeOf val) (val / 2 ^ 18) ≠ 0 → s.Answers (.testGo m val) (fun t =>
    t.rd Fd.TST_STAT_REFUSED = 1 ∧ t.rd Fd.TST_STAT_REASON = s.goReason m (modeOf val) (val / 2 ^ 18) ∧
    s.RegsBut [keyOf Fd.TST_STAT_REFUSED] t ∧ s.OnlyIn [.regs] t)) ∧
  (∀ (s : State) (m val : Nat), s.Inv → s.goReason m (modeOf val) (val / 2 ^ 18) = 0 → s.Answers (.testGo m val) (fun t =>
    t.ts = some ⟨s.classOf (modeOf val), false, 0, [], 0, ⟨0, false, 0, 0, 0, none⟩⟩ ∧
    t.reg .a Blk.TST Reg.TST_CTRL.off = BitVec.ofNat 32 (val / 4 * 4) ∧
    t.rd Fd.TST_STAT_STATE = 0 ∧ t.rd Fd.TST_STAT_RESULT = 0 ∧ t.rd Fd.TST_STAT_LOCK = 0 ∧ t.rd Fd.TST_ERRCNT_COUNT = 0 ∧
    t.rd Fd.TST_FIRST_LO_COUNT = 2 ^ 32 - 1 ∧ t.rd Fd.TST_FIRST_HI_COUNT = 2 ^ 32 - 1 ∧
    (s.classOf (modeOf val) = 1 → (modeOf val).target = 0 → t.rd Fd.HST_LINK_DLUP0 = 0) ∧
    (s.classOf (modeOf val) = 1 → (modeOf val).target = 1 → t.rd Fd.HST_LINK_DLUP1 = 0) ∧
    (s.classOf (modeOf val) = 3 → s.withdrawn = false → t.lg.loss.isSome = true) ∧
    (s.classOf (modeOf val) ≠ 1 → (s.classOf (modeOf val) = 3 → s.withdrawn = true) → s.OnlyIn [.regs, .evt, .ts] t ∧
      s.Records t 0 0x80 0x1501 [(modeOf val).iface, (modeOf val).depth, (modeOf val).target, s.classOf (modeOf val)]) ∧ s.OnlyIn [.regs, .evt, .hub, .nv, .tr, .md, .lg, .bf, .sv, .ts] t)) ∧
  (∀ (s : State) (m : Nat), s.ts = none → exec (.testStop m) s = .next s) ∧
  (∀ (s : State) (m : Nat) (r : TestRun), s.ts = some r → testWriter r.cls m = false → s.Answers (.testStop m) (fun t =>
    s.RegsBut eventKeys t ∧ s.Records t 0 0x80 (Blk.TST * 256) [Reg.TST_CTRL.off, 2, m, 0] ∧ s.OnlyIn [.regs, .evt] t)) ∧
  (∀ (s : State) (m : Nat) (r : TestRun), s.Inv → s.ts = some r → testWriter r.cls m = true → s.Answers (.testStop m) (fun t =>
    t.rd Fd.TST_CTRL_STOP = 1 ∧ s.RegsBut [keyOf Fd.TST_CTRL_STOP] t ∧ s.OnlyIn [.regs] t)) ∧
  (∀ s : State, s.atBar = false ∨ (∀ r, s.ts = some r → r.started = true ∨ r.cause ≠ 0 ∨ (r.cls = 3 ∧ s.withdrawn = false)) →
    exec .testRunStart s = .next s) ∧
  (∀ (s : State) (r : TestRun), s.Inv → s.ts = some r → s.atBar = true → r.started = false → r.cause = 0 → (r.cls = 3 → s.withdrawn = true) →
    s.Answers .testRunStart (fun t => t.ts.map (fun q => { q with host := r.host }) = some { r with
        started := true, startBar := s.bar, locked := if s.prbs s.mode then [] else List.range (s.lanesOf s.mode) } ∧
      (s.rd Fd.TST_CTRL_IFACE ≠ 2 → t.ts.map (fun q => q.host) = some r.host) ∧
      t.rd Fd.TST_STAT_STATE = 1 ∧ t.rd Fd.TST_STAT_LOCK = boolNat (!s.prbs s.mode) ∧ s.OnlyIn [.regs, .out, .nv, .ts] t)) ∧
  (∀ (s : State) (r : TestRun) (f : Nat), s.ts = some r → s.atBar = true → r.started = false → r.cause = 0 →
    (r.cls = 3 → s.withdrawn = true) → s.rd Fd.TST_CTRL_IFACE = 2 → s.rd Fd.TST_CTRL_TARGET = f → s.canSend f = true → r.host.wrote = false →
    s.Answers .testRunStart (fun t => t.ts.map (fun q => q.host) = some { r.host with wrote := true } ∧
      ∀ k < s.testLen / max 1 (s.fn f).cfg.mps, Out.testData f (s.testBase + max 1 (s.fn f).cfg.mps * k)
        (s.testBytes (s.testBase + max 1 (s.fn f).cfg.mps * k) (max 1 (s.fn f).cfg.mps)) ∈ t.out)) ∧
  (∀ (s : State) (lane : Nat), (∀ r, s.ts = some r → r.started = false ∨ s.lanesOf s.mode ≤ lane) → exec (.checkerLock lane) s = .next s) ∧
  (∀ (s : State) (lane : Nat) (r : TestRun), s.Inv → s.ts = some r → r.started = true → lane < s.lanesOf s.mode →
    s.Answers (.checkerLock lane) (fun t => t.ts = some { r with locked := addOnce lane r.locked } ∧
      t.rd Fd.TST_STAT_LOCK = boolNat ((List.range (s.lanesOf s.mode)).all (fun j => (addOnce lane r.locked).contains j)) ∧
      s.RegsBut [keyOf Fd.TST_STAT_LOCK] t ∧ s.OnlyIn [.regs, .ts] t)) ∧
  (∀ (s : State) (lane : Nat), (∀ r, s.ts = some r → r.started = false ∨ r.locked.contains lane = false ∨ s.prbs s.mode = false) →
    exec (.checkerLockLoss lane) s = .next s) ∧
  (∀ (s : State) (lane : Nat) (r : TestRun), s.Inv → s.ts = some r → r.started = true → r.locked.contains lane = true → s.prbs s.mode = true →
    s.Answers (.checkerLockLoss lane) (fun t => t.ts = some { r with locked := r.locked.filter (fun j => j != lane) } ∧
      t.rd Fd.TST_STAT_LOCKLOSS = min (2 ^ 16 - 1) (s.rd Fd.TST_STAT_LOCKLOSS + 1) ∧
      (lane < s.lanesOf s.mode → t.rd Fd.TST_STAT_LOCK = 0) ∧ s.RegsBut [keyOf Fd.TST_STAT_LOCK] t ∧ s.OnlyIn [.regs, .ts] t)) ∧
  (∀ (s : State) (cause bits errs first lanes passes fails tos : Nat), (∀ r, s.ts = some r → s.runEnds r cause = false) →
    exec (.testRunEnd cause bits errs first lanes passes fails tos) s = .next s) ∧
  (∀ (s : State) (r : TestRun) (cause bits errs first lanes passes fails tos : Nat), s.Inv → s.ts = some r → s.runEnds r cause = true →
    s.rd Fd.TST_CTRL_IFACE ≠ 2 →
    s.Answers (.testRunEnd cause bits errs first lanes passes fails tos) (fun t => t.ts = none ∧ t.rd Fd.TST_STAT_STATE = 2 ∧
      t.rd Fd.TST_STAT_CAUSE = cause % 16 ∧ t.rd Fd.TST_CTRL_STOP = 0 ∧ t.rd Fd.TST_ERRCNT_COUNT = min (2 ^ 32 - 1) errs ∧
      t.rd Fd.TST_BITS_LO_COUNT + t.rd Fd.TST_BITS_HI_COUNT * 2 ^ 32 = min (2 ^ 64 - 1) bits ∧
      t.rd Fd.TST_FIRST_LO_COUNT + t.rd Fd.TST_FIRST_HI_COUNT * 2 ^ 32 = (if errs = 0 then 2 ^ 64 - 1 else min (2 ^ 64 - 1) first) ∧
      t.rd Fd.TST_LANEERR_LO_LANES + t.rd Fd.TST_LANEERR_HI_LANES * 2 ^ 32 = lanes % 2 ^ 64 ∧
      (s.rd Fd.TST_CTRL_IFACE = 3 → s.rd Fd.TST_CTRL_DEPTH = 3 → t.rd Fd.TST_PHRES_PASSES = min (2 ^ 16 - 1) passes ∧
        t.rd Fd.TST_PHRES_FAILS = min (2 ^ 8 - 1) fails ∧ t.rd Fd.TST_PHRES_TIMEOUTS = min (2 ^ 8 - 1) tos) ∧
      t.rd Fd.TST_STAT_RESULT = (if 4 ≤ cause then 3 else if t.rd Fd.TST_ERRCNT_COUNT ≤ s.rd Fd.TST_CFG_ERRLIM ∧ s.rd Fd.TST_STAT_LOCK = 1 ∧
        t.rd Fd.TST_PHRES_FAILS = 0 ∧ t.rd Fd.TST_PHRES_TIMEOUTS = 0 then 1 else 2) ∧
      s.Records t 0 0x80 0x1502 [s.rd Fd.TST_CTRL_IFACE, s.rd Fd.TST_CTRL_DEPTH, cause, min (2 ^ 32 - 1) errs] ∧
      t.out = s.out ++ (if r.cls = 2 ∧ s.rd Fd.SVC_I3C_IBIEN = 1 ∧ s.sv.pkts ≠ [] then [.ibi] else []) ∧
      s.RegsBut ([keyOf Fd.TST_BITS_LO_COUNT, keyOf Fd.TST_BITS_HI_COUNT, keyOf Fd.TST_ERRCNT_COUNT, keyOf Fd.TST_FIRST_LO_COUNT,
        keyOf Fd.TST_FIRST_HI_COUNT, keyOf Fd.TST_LANEERR_LO_LANES, keyOf Fd.TST_LANEERR_HI_LANES, keyOf Fd.TST_PHRES_PASSES,
        keyOf Fd.TST_STAT_STATE, keyOf Fd.TST_CTRL_STOP] ++ eventKeys) t ∧ s.OnlyIn [.regs, .evt, .out, .ts] t)) ∧
  (∀ (s : State) (r : TestRun) (cause bits errs first lanes passes fails tos : Nat), s.Inv → s.ts = some r → s.runEnds r cause = true →
    s.rd Fd.TST_CTRL_IFACE = 2 →
    s.Answers (.testRunEnd cause bits errs first lanes passes fails tos) (fun t => t.ts = none ∧ t.rd Fd.TST_STAT_STATE = 2 ∧
      t.rd Fd.TST_STAT_CAUSE = cause % 16 ∧ t.rd Fd.TST_CTRL_STOP = 0 ∧ t.rd Fd.TST_ERRCNT_COUNT = min (2 ^ 32 - 1) r.host.errs ∧
      t.rd Fd.TST_BITS_LO_COUNT + t.rd Fd.TST_BITS_HI_COUNT * 2 ^ 32 = min (2 ^ 64 - 1) r.host.bits ∧
      t.rd Fd.TST_FIRST_LO_COUNT + t.rd Fd.TST_FIRST_HI_COUNT * 2 ^ 32 =
        (if r.host.errs = 0 then 2 ^ 64 - 1 else min (2 ^ 64 - 1) (r.host.first.getD 0)) ∧
      t.rd Fd.TST_LANEERR_LO_LANES + t.rd Fd.TST_LANEERR_HI_LANES * 2 ^ 32 = r.host.lanes % 2 ^ 64 ∧
      t.rd Fd.TST_STAT_RESULT = (if 4 ≤ cause then 3 else if t.rd Fd.TST_ERRCNT_COUNT ≤ s.rd Fd.TST_CFG_ERRLIM ∧ s.rd Fd.TST_STAT_LOCK = 1 ∧
        t.rd Fd.TST_PHRES_FAILS = 0 ∧ t.rd Fd.TST_PHRES_TIMEOUTS = 0 then 1 else 2) ∧
      s.Records t 0 0x80 0x1502 [s.rd Fd.TST_CTRL_IFACE, s.rd Fd.TST_CTRL_DEPTH, cause, min (2 ^ 32 - 1) r.host.errs] ∧
      t.out = s.out ++ (if r.cls = 2 ∧ s.rd Fd.SVC_I3C_IBIEN = 1 ∧ s.sv.pkts ≠ [] then [.ibi] else []) ∧
      s.RegsBut ([keyOf Fd.TST_BITS_LO_COUNT, keyOf Fd.TST_BITS_HI_COUNT, keyOf Fd.TST_ERRCNT_COUNT, keyOf Fd.TST_FIRST_LO_COUNT,
        keyOf Fd.TST_FIRST_HI_COUNT, keyOf Fd.TST_LANEERR_LO_LANES, keyOf Fd.TST_LANEERR_HI_LANES, keyOf Fd.TST_PHRES_PASSES,
        keyOf Fd.TST_STAT_STATE, keyOf Fd.TST_CTRL_STOP] ++ eventKeys) t ∧ s.OnlyIn [.regs, .evt, .out, .ts] t))

/-- SUPPLY_TRIP counts and takes the supply out of INRANGE; that of a half is a control fault of mechanism 8 with event 0x1601,
that of the hold-up makes the hold-up not ready, and one of supplies 2 to 7 is an internal power-on reset that names the supply
(R528). SYSCLK_FAULT is a power-on reset that names the clock (R535). DOMAIN_REQUEST by a master that may write the domain sets
REQ, is refused with REFUSED and event 0x1602, or by another is discarded and recorded (R541). PROGRAM_RUN and ERASE by a master
of the clapper holder begin the operation with its log word, or are refused with their status; none begins in an output hold,
after a power loss or below the brown-out threshold (R443 to R448). BTA_OPERATION_END does the operation and the second program
of its log word, or ends it with TIMEOUT at its limit (R441, R446); BROWN_OUT ends it with BROWNOUT (R447). Which of several
refusals stands is the model's choice (log entry 56). -/
def Obligations.SuppliesDomainsAndArrayOperations : Prop :=
  (∀ (s : State) (k v : Nat), s.Inv → 8 < k ∨ (k = 1 ∧ s.variant.twin = false) → s.Answers (.supplyTrip k v) (fun t =>
    t.rd Fd.PWR_CNT_TRIP_COUNT = min (2 ^ 32 - 1) (s.rd Fd.PWR_CNT_TRIP_COUNT + 1) ∧
    t.rd Fd.PWR_STAT_INRANGE = (if bit (s.rd Fd.PWR_STAT_INRANGE) k then s.rd Fd.PWR_STAT_INRANGE - 2 ^ k else s.rd Fd.PWR_STAT_INRANGE) ∧
    s.RegsBut [keyOf Fd.PWR_CNT_TRIP_COUNT, keyOf Fd.PWR_STAT_INRANGE] t ∧ s.OnlyIn [.regs] t)) ∧
  (∀ (s : State) (v : Nat), s.Inv → s.Answers (.supplyTrip 8 v) (fun t => t.lg = { s.lg with vholdOk := false } ∧
    t.rd Fd.PWR_CNT_TRIP_COUNT = min (2 ^ 32 - 1) (s.rd Fd.PWR_CNT_TRIP_COUNT + 1) ∧ bit (t.rd Fd.PWR_STAT_INRANGE) 8 = false ∧
    s.RegsBut [keyOf Fd.PWR_CNT_TRIP_COUNT, keyOf Fd.PWR_STAT_INRANGE] t ∧ s.OnlyIn [.regs, .lg] t)) ∧
  (∀ (s : State) (k v : Nat), 2 ≤ k → k < 8 → s.Answers (.supplyTrip k v) (fun t => t.rd Fd.PWR_RSTCAUSE_CAUSE = 2 ∧
    t.rd Fd.PWR_RSTCAUSE_SUPPLY = k ∧ t.bt.trip = some (k, v) ∧ t.hub = State.reset.hub ∧ t.time = State.reset.time ∧ t.ts = none)) ∧
  (∀ (s : State) (h : Half) (v : Nat), s.Inv → s.variant.twin = true ∨ h = .a → s.Answers (.supplyTrip (halfNum h) v) (fun t =>
    t.rd Fd.PWR_CNT_TRIP_COUNT = min (2 ^ 32 - 1) (s.rd Fd.PWR_CNT_TRIP_COUNT + 1) ∧ bit (t.rd Fd.PWR_STAT_INRANGE) (halfNum h) = false ∧
    t.half (otherHalf h) = s.half (otherHalf h) ∧
    ((s.half h).st = .off ∨ (s.half h).st = .unfit ∨ (s.half h).st = .held → t.half h = s.half h ∧
      s.Records t 0 0x80 0x1601 [halfNum h, v, 0, 0]) ∧
    ((s.half h).st ≠ .off → (s.half h).st ≠ .unfit → (s.half h).st ≠ .held →
      (t.half h).st = (if s.rd Fd.SAF_CFG_HOLDCOUNT ≤ s.unfitCount h + 1 then .held else .unfit) ∧ t.rd Fd.SAF_FAULT_HALF = halfNum h ∧
      t.rd Fd.SAF_FAULT_CLASS = 1 ∧ t.rd Fd.SAF_FAULT_MECH = 8 ∧ ((s.half h).st = .active → (t.half h).gone = true ∧ t.hub.hold = true) ∧
      (s.bothFault h = false → s.evt.stopped = false → s.evt.queue.length < 500 →
        ⟨s.time.beat, 0x1601, 0, 0x80, 0, [halfNum h, v, 0, 0]⟩ ∈ t.evt.queue)))) ∧
  (∀ s : State, s.Answers .sysclkFault (fun t => t = s.powerOn 3 0 ∧ t.rd Fd.PWR_RSTCAUSE_CAUSE = 3 ∧ t.hub = State.reset.hub ∧
    t.time = State.reset.time ∧ t.ts = none)) ∧
  (∀ (s : State) (m : Nat) (h : Half) (d val : Nat), domPresent s.variant d = false → exec (.domainRequest m h d val) s = .next s) ∧
  (∀ (s : State) (m : Nat) (h : Half) (d val : Nat), domPresent s.variant d = true → s.domWriter m h d = false ∨ val % 4 = 3 →
    s.Answers (.domainRequest m h d val) (fun t => s.Records t 0 0x80 (Blk.PWR * 256) [Reg.PWR_DOM.at d, val, m, 0] ∧ t.hub = s.hub ∧
      s.RegsBut eventKeys t ∧ s.OnlyIn [.regs, .evt, .hub] t)) ∧
  (∀ (s : State) (m : Nat) (h : Half) (d val : Nat), s.Inv → domPresent s.variant d = true → s.domWriter m h d = true → val % 4 ≠ 3 →
    s.domRefused d (val % 4) = true → s.Answers (.domainRequest m h d val) (fun t =>
      t.rd Fd.PWR_DOM_REFUSED d = 1 ∧ t.rd Fd.PWR_DOM_REQ d = s.rd Fd.PWR_DOM_REQ d ∧ t.hub = s.hub ∧
      s.Records t 0 0x80 0x1602 [d, 0, 0, 0] ∧ s.RegsBut (keyOf Fd.PWR_DOM_REFUSED d :: eventKeys) t ∧ s.OnlyIn [.regs, .evt, .hub] t)) ∧
  (∀ (s : State) (m : Nat) (h : Half) (d val : Nat), s.Inv → domPresent s.variant d = true → s.domWriter m h d = true → val % 4 ≠ 3 →
    s.domRefused d (val % 4) = false → s.Answers (.domainRequest m h d val) (fun t =>
      t.rd Fd.PWR_DOM_REQ d = val % 4 ∧ t.hub = { s.hub with domReq := addOnce d s.hub.domReq } ∧
      t.rd Fd.PWR_DOM_REFUSED d = (if bit val 4 then 0 else s.rd Fd.PWR_DOM_REFUSED d) ∧ s.RegsBut [keyOf Fd.PWR_DOM_REQ d] t ∧
      s.OnlyIn [.regs, .hub] t)) ∧
  (∀ (s : State) (m count : Nat), 96 ≤ m ∨ s.active = none → s.Answers (.programRun m count) (fun t => t.bt = s.bt ∧ s.RegsBut eventKeys t ∧
      s.Records t 0 0x80 (Blk.BTA * 256) [Reg.BTA_OPCTRL.off, 1 + count * 256, m, 0] ∧ s.OnlyIn [.regs, .evt, .bt] t) ∧
    s.Answers (.erase m) (fun t => t.bt = s.bt ∧ s.RegsBut eventKeys t ∧
      s.Records t 0 0x80 (Blk.BTA * 256) [Reg.BTA_OPCTRL.off, 2 + s.rd Fd.BTA_OPCTRL_COUNT * 256, m, 0] ∧ s.OnlyIn [.regs, .evt, .bt] t)) ∧
  (∀ (s : State) (m count : Nat), s.Inv → m < 96 → s.active ≠ none → s.noPulse = true → s.Answers (.programRun m count) (fun t =>
    t.rd Fd.BTA_OPCTRL_COUNT = count % 128 ∧ s.RegsBut [keyOf Fd.BTA_OPCTRL_COUNT] t ∧ s.OnlyIn [.regs] t)) ∧
  (∀ (s : State) (m count : Nat), s.Inv → m < 96 → s.active ≠ none → s.noPulse = false →
    s.opRefusal 1 (8 * s.rd Fd.BTA_OPADDR_ADDR) (count % 128) ≠ 0 → s.Answers (.programRun m count) (fun t =>
      t.rd Fd.BTA_OPCTRL_COUNT = count % 128 ∧
      t.rd Fd.BTA_OPSTAT_STATUS = s.opRefusal 1 (8 * s.rd Fd.BTA_OPADDR_ADDR) (count % 128) ∧
      t.rd Fd.BTA_CNT_BUSY_COUNT = (if s.opRefusal 1 (8 * s.rd Fd.BTA_OPADDR_ADDR) (count % 128) = 2 then
        min (2 ^ 32 - 1) (s.rd Fd.BTA_CNT_BUSY_COUNT + 1) else s.rd Fd.BTA_CNT_BUSY_COUNT) ∧
      s.RegsBut [keyOf Fd.BTA_OPCTRL_COUNT, keyOf Fd.BTA_OPSTAT_STATUS, keyOf Fd.BTA_CNT_BUSY_COUNT] t ∧ s.OnlyIn [.regs] t)) ∧
  (∀ (s : State) (m count : Nat), s.Inv → m < 96 → s.active ≠ none → s.noPulse = false →
    s.opRefusal 1 (8 * s.rd Fd.BTA_OPADDR_ADDR) (count % 128) = 0 → s.Answers (.programRun m count) (fun t =>
      t.bt = { (s.beginLog 1 (8 * s.rd Fd.BTA_OPADDR_ADDR)).2.bt with op := some ⟨1, 8 * s.rd Fd.BTA_OPADDR_ADDR, s.btaWords (count % 128),
        (s.beginLog 1 (8 * s.rd Fd.BTA_OPADDR_ADDR)).1, s.time.beat⟩ } ∧ t.bt.seq = (s.bt.seq + 1) % 2 ^ 32 ∧
      t.rd Fd.BTA_OPCTRL_COUNT = count % 128 ∧ t.rd Fd.BTA_OPSTAT_SEQ = s.bt.seq % 2 ^ 16 ∧
      s.RegsBut [keyOf Fd.BTA_OPCTRL_COUNT, keyOf Fd.BTA_OPSTAT_SEQ] t ∧ s.OnlyIn [.regs, .bt] t)) ∧
  (∀ (s : State) (m : Nat), m < 96 → s.active ≠ none → s.noPulse = true → s.Answers (.erase m) (fun t => s.RegsBut [] t ∧
    s.OnlyIn [.regs] t)) ∧
  (∀ (s : State) (m : Nat), s.Inv → m < 96 → s.active ≠ none → s.noPulse = false →
    s.opRefusal 2 (8 * s.rd Fd.BTA_OPADDR_ADDR) (s.rd Fd.BTA_OPCTRL_COUNT) ≠ 0 → s.Answers (.erase m) (fun t =>
      t.rd Fd.BTA_OPSTAT_STATUS = s.opRefusal 2 (8 * s.rd Fd.BTA_OPADDR_ADDR) (s.rd Fd.BTA_OPCTRL_COUNT) ∧
      s.RegsBut [keyOf Fd.BTA_OPSTAT_STATUS, keyOf Fd.BTA_CNT_BUSY_COUNT] t ∧ s.OnlyIn [.regs] t)) ∧
  (∀ (s : State) (m : Nat), s.Inv → m < 96 → s.active ≠ none → s.noPulse = false →
    s.opRefusal 2 (8 * s.rd Fd.BTA_OPADDR_ADDR) (s.rd Fd.BTA_OPCTRL_COUNT) = 0 → s.Answers (.erase m) (fun t =>
      t.bt = { (s.beginLog 2 (8 * s.rd Fd.BTA_OPADDR_ADDR)).2.bt with op := some ⟨2, sectorBase (8 * s.rd Fd.BTA_OPADDR_ADDR), [],
        (s.beginLog 2 (8 * s.rd Fd.BTA_OPADDR_ADDR)).1, s.time.beat⟩ } ∧ t.bt.seq = (s.bt.seq + 1) % 2 ^ 32 ∧
      t.rd Fd.BTA_OPSTAT_SEQ = s.bt.seq % 2 ^ 16 ∧ s.RegsBut [keyOf Fd.BTA_OPSTAT_SEQ] t ∧ s.OnlyIn [.regs, .bt] t)) ∧
  (∀ (s : State) (late : Bool), s.bt.op = none → exec (.btaOperationEnd late) s = .next s) ∧
  (∀ (s : State) (late : Bool) (o : BtaOp), s.Inv → s.bt.op = some o → s.Answers (.btaOperationEnd late) (fun t => t.bt.op = none ∧
    t.rd Fd.BTA_OPSTAT_DONE = 1 ∧ s.RegsBut [keyOf Fd.BTA_OPSTAT_DONE] t ∧
    (late = false ∨ s.time.beat < o.begun + opLimit o.op → t.rd Fd.BTA_OPSTAT_STATUS = 0 ∧ s.OnlyIn [.regs, .bt] t ∧
      t.bt.arr = ((if o.op = 1 then s.progRun o.addr o.words else s.eraseSector o.addr).endLog o.log).bt.arr) ∧
    (late = true → o.begun + opLimit o.op ≤ s.time.beat → t.rd Fd.BTA_OPSTAT_STATUS = 6) ∧ s.OnlyIn [.regs, .freeCtr, .bt] t)) ∧
  (∀ s : State, s.Inv → s.Answers .brownOut (fun t => t.rd Fd.BTA_STAT_BROWN = 1 ∧ t.rd Fd.PWR_STAT_BROWN = 1 ∧ t.bt.op = none ∧
    (s.bt.op = none → t.bt = s.bt ∧ s.RegsBut [keyOf Fd.BTA_STAT_BROWN, keyOf Fd.PWR_STAT_BROWN] t ∧ s.OnlyIn [.regs] t) ∧
    (s.bt.op ≠ none → t.rd Fd.BTA_OPSTAT_STATUS = 7 ∧ t.rd Fd.BTA_OPSTAT_DONE = 1 ∧
      t.rd Fd.BTA_CNT_BROWNOUT_COUNT = min (2 ^ 32 - 1) (s.rd Fd.BTA_CNT_BROWNOUT_COUNT + 1) ∧
      s.RegsBut [keyOf Fd.BTA_STAT_BROWN, keyOf Fd.PWR_STAT_BROWN, keyOf Fd.BTA_OPSTAT_STATUS, keyOf Fd.BTA_CNT_BROWNOUT_COUNT] t) ∧
    s.OnlyIn [.regs, .freeCtr, .bt] t))

/-- POWER_ON_RESET clears time, the hub, the chimes and locks and takes the slots' power; the boot array and flash are kept,
what DRAM held is not, SEQ goes on from the records of the ring, and PWR_RSTCAUSE names the cause (R464, R502).
BOOTING_HALF_RELEASE brings the next half to LOADING in step 1 (R458). STARTUP_STEP_COMPLETE ends the step of the booting half
with what it found: the next step, a failed half, a bank verified again or failed, or the stop of start-up with its cause,
recorded with code 0x1102 (R9, R150, R235, R452, R454, R456, R457, R461, R463); step 10 waits for the latch of the plan that
step 9 commits (R60, R461); step 12 rebuilds the map from the newest copies of its segments and the deltas (R193), step 13 takes
what the flush of the power loss left (R340); step 15 enables the host link (R461). STARTUP_STEP_TIMEOUT at the limit of R462
fails the half; in step 7 start-up goes on without the other half (R463). Where its condition does not hold each changes
nothing. That a reset within one operation of the boot array leaves free values in its words is the model's reading of an
unstated value. -/
def Obligations.TheDeviceStartsUp : Prop :=
  (∀ (s : State) (cause supply : Nat), s.Answers (.powerOnReset cause supply) (fun t => t = s.powerOn cause supply ∧
    t.rd Fd.PWR_RSTCAUSE_CAUSE = cause % 16 ∧ t.rd Fd.PWR_RSTCAUSE_SUPPLY = supply % 16 ∧ t.time = State.reset.time ∧
    t.hub = State.reset.hub ∧ t.chan = [] ∧ t.locks = [] ∧ t.ts = none ∧ t.slots = s.slots.map Slot.unpowered ∧
    t.md.flash = s.md.flash ∧ t.tr.map = [] ∧ t.hi = [] ∧ t.rg.loops = [] ∧ t.nv.sqs = [] ∧ t.nv.tags = [] ∧
    t.evt.seq = s.ringNext ∧ t.evt.queue = [] ∧ (s.bt.op = none → t.bt.arr = s.bt.arr) ∧ t.bt.op = none ∧
    t.variant = s.variant ∧ t.rd Fd.BTA_BOOTSTAT_STEP = State.reset.rd Fd.BTA_BOOTSTAT_STEP ∧
    t.rd Fd.SEC_FUSE_SECVER = s.rd Fd.SEC_FUSE_SECVER)) ∧
  (∀ s : State, s.hub.linkOn = true ∨ s.hub.fenced = true ∨ s.active ≠ none ∨ s.hub.holder ≠ none ∨ s.bt.release ≠ none ∨
    s.rd Fd.BTA_BOOTSTAT_STEP = 17 ∨ s.lg.loss ≠ none ∨ s.nextBoot = none → exec .bootingHalfRelease s = .next s) ∧
  (∀ (s : State) (h : Half), s.Inv → s.hub.linkOn = false → s.hub.fenced = false → s.active = none → s.hub.holder = none → s.bt.release = none →
    s.rd Fd.BTA_BOOTSTAT_STEP ≠ 17 → s.lg.loss = none → s.nextBoot = some h → s.Answers .bootingHalfRelease (fun t =>
      (t.half h).st = .loading ∧ (t.half h).since = s.time.beat ∧ t.half (otherHalf h) = s.half (otherHalf h) ∧
      t.bt = { s.bt with release := some h, stepAt := s.time.beat } ∧ t.rd Fd.BTA_BOOTSTAT_STEP = 1 ∧
      t.rd Fd.BTA_BOOTSTAT_HALF = halfNum h ∧ t.chimesHeld h = 0 ∧ t.heldLocks h = [] ∧ s.OnlyIn [.regs, .chan, .locks, .hub, .bt] t)) ∧
  (∀ (s : State) (r : StepRes), s.booting = none → exec (.startupStepComplete r) s = .next s ∧ exec .startupStepTimeout s = .next s) ∧
  (∀ (s : State) (r : StepRes) (h : Half), s.Inv → s.booting = some h → s.rd Fd.BTA_BOOTSTAT_STEP = 1 →
    r.ok = true → exec (.startupStepComplete r) s = .next (s.toStep 2)) ∧
  (∀ (s : State) (r : StepRes) (h : Half), s.Inv → s.booting = some h → s.rd Fd.BTA_BOOTSTAT_STEP = 1 →
    r.ok = false → s.Answers (.startupStepComplete r) (fun t =>
      (t.half h).st = (if s.rd Fd.SAF_CFG_HOLDCOUNT ≤ s.unfitCount h + 1 then .held else .unfit) ∧ (t.half h).gone = true ∧
      t.rd Fd.SAF_FAULT_CLASS = 5 ∧ t.rd Fd.SAF_FAULT_HALF = halfNum h ∧ t.hub.hold = true ∧ s.OnlyIn [.regs, .freeCtr, .evt, .chan, .locks, .hub, .sched, .out, .nv, .tr, .md, .lg, .slots, .rg, .dr, .bt, .sv, .ts] t)) ∧
  (∀ (s : State) (r : StepRes) (h : Half), s.Inv → s.booting = some h → s.rd Fd.BTA_BOOTSTAT_STEP = 2 →
    s.chooseCopies (s.copyPasses 0 r.copyA) (s.copyPasses 1 r.copyB) = none → s.Answers (.startupStepComplete r) (fun t =>
      t.rd Fd.BTA_BOOTSTAT_STEP = 17 ∧ t.rd Fd.BTA_BOOTSTAT_CAUSE = 1 ∧ s.Records t 0 0x80 0x1102 [] ∧ s.OnlyIn [.regs, .freeCtr, .evt, .chan, .locks, .hub, .sched, .out, .nv, .tr, .md, .lg, .slots, .rg, .dr, .bt, .sv, .ts] t)) ∧
  (∀ (s : State) (r : StepRes) (h : Half) (u : State), s.Inv → s.booting = some h → s.rd Fd.BTA_BOOTSTAT_STEP = 2 →
    s.chooseCopies (s.copyPasses 0 r.copyA) (s.copyPasses 1 r.copyB) = some u → u.optVariant = variantCode s.variant → exec (.startupStepComplete r) s = .next (u.toStep 3)) ∧
  (∀ (s : State) (r : StepRes) (h : Half) (u : State), s.Inv → s.booting = some h → s.rd Fd.BTA_BOOTSTAT_STEP = 2 →
    s.chooseCopies (s.copyPasses 0 r.copyA) (s.copyPasses 1 r.copyB) = some u → u.optVariant ≠ variantCode s.variant → s.Answers (.startupStepComplete r) (fun t =>
      t.rd Fd.BTA_BOOTSTAT_STEP = 17 ∧ t.rd Fd.BTA_BOOTSTAT_CAUSE = 2 ∧ s.OnlyIn [.regs, .freeCtr, .evt, .chan, .locks, .hub, .sched, .out, .nv, .tr, .md, .lg, .slots, .rg, .dr, .bt, .sv, .ts] t)) ∧
  (∀ (s : State) (r : StepRes) (h : Half), s.Inv → s.booting = some h → s.rd Fd.BTA_BOOTSTAT_STEP = 3 → exec (.startupStepComplete r) s = .next ((s.settleArray r.badSectors r.dead).toStep 4)) ∧
  (∀ (s : State) (r : StepRes) (h : Half), s.Inv → s.booting = some h → s.rd Fd.BTA_BOOTSTAT_STEP = 4 →
    (s.each ([0, 1].filter (fun b => s.bankState b == 3 && decide (2 ≤ s.failedAttempts b))) (fun s b => s.markBank b 4)).chooseBank = none → s.Answers (.startupStepComplete r) (fun t =>
      t.rd Fd.BTA_BOOTSTAT_STEP = 17 ∧ t.rd Fd.BTA_BOOTSTAT_CAUSE = 3 ∧ s.OnlyIn [.regs, .freeCtr, .evt, .chan, .locks, .hub, .sched, .out, .nv, .tr, .md, .lg, .slots, .rg, .dr, .bt, .sv, .ts] t)) ∧
  (∀ (s : State) (r : StepRes) (h : Half) (bank : Nat), s.Inv → s.booting = some h → s.rd Fd.BTA_BOOTSTAT_STEP = 4 →
    (s.each ([0, 1].filter (fun b => s.bankState b == 3 && decide (2 ≤ s.failedAttempts b))) (fun s b => s.markBank b 4)).chooseBank = some bank → s.Answers (.startupStepComplete r) (fun t =>
      t.rd Fd.BTA_BOOTSTAT_STEP = 5 ∧ t.rd Fd.BTA_BOOTSTAT_BANK = bank % 2 ∧ t.bt.verFails = 0 ∧ s.OnlyIn [.regs, .freeCtr, .evt, .chan, .locks, .hub, .sched, .out, .nv, .tr, .md, .lg, .slots, .rg, .dr, .bt, .sv, .ts] t)) ∧
  (∀ (s : State) (r : StepRes) (h : Half), s.Inv → s.booting = some h → s.rd Fd.BTA_BOOTSTAT_STEP = 5 →
    configPasses s.variant r.img = true → s.Answers (.startupStepComplete r) (fun t =>
      t.rd Fd.BTA_BOOTSTAT_STEP = 6 ∧ t.bt.verFails = 0 ∧ s.RegsBut [keyOf Fd.BTA_BOOTSTAT_STEP] t ∧ s.OnlyIn [.regs, .freeCtr, .evt, .chan, .locks, .hub, .sched, .out, .nv, .tr, .md, .lg, .slots, .rg, .dr, .bt, .sv, .ts] t)) ∧
  (∀ (s : State) (r : StepRes) (h : Half), s.Inv → s.booting = some h → s.rd Fd.BTA_BOOTSTAT_STEP = 5 →
    configPasses s.variant r.img = false → s.Answers (.startupStepComplete r) (fun t =>
      t.rd Fd.SEC_CNT_VERIFYFAIL_COUNT = min (2 ^ 32 - 1) (s.rd Fd.SEC_CNT_VERIFYFAIL_COUNT + 1) ∧
      (s.bt.verFails = 0 → t.rd Fd.BTA_BOOTSTAT_STEP = 5 ∧ t.bt = { s.bt with verFails := 1 }) ∧
      (s.bt.verFails ≠ 0 → t.rd Fd.BTA_BOOTSTAT_STEP = 4 ∧ t.bt.verFails = 0) ∧
      (∀ test slice ten, r.img.cfgOk = true → entriesOk s.variant r.img.entries = true →
        admission s.variant r.img.entries = some (test, slice, ten) → t.rd Fd.TEN_ADMIT_VALID = 1 ∧ t.rd Fd.TEN_ADMIT_TEST = test % 8 ∧
        t.rd Fd.TEN_ADMIT_SLICE = slice % 4 ∧ t.rd Fd.TEN_ADMIT_TENANT = ten % 256) ∧ s.OnlyIn [.regs, .freeCtr, .evt, .chan, .locks, .hub, .sched, .out, .nv, .tr, .md, .lg, .slots, .rg, .dr, .bt, .sv, .ts] t)) ∧
  (∀ (s : State) (r : StepRes) (h : Half), s.Inv → s.booting = some h → s.rd Fd.BTA_BOOTSTAT_STEP = 6 →
    fwPasses s.variant r.img = false ∨ r.img.fw.secver < s.rd Fd.SEC_FUSE_SECVER → s.Answers (.startupStepComplete r) (fun t =>
      t.rd Fd.SEC_CNT_VERIFYFAIL_COUNT = min (2 ^ 32 - 1) (s.rd Fd.SEC_CNT_VERIFYFAIL_COUNT + 1) ∧ t.bt.run = s.bt.run ∧ s.OnlyIn [.regs, .freeCtr, .evt, .chan, .locks, .hub, .sched, .out, .nv, .tr, .md, .lg, .slots, .rg, .dr, .bt, .sv, .ts] t)) ∧
  (∀ (s : State) (r : StepRes) (h : Half), s.Inv → s.booting = some h → s.rd Fd.BTA_BOOTSTAT_STEP = 6 →
    fwPasses s.variant r.img = true → s.rd Fd.SEC_FUSE_SECVER ≤ r.img.fw.secver → r.ok = false ∨ ucodeOk r.img.ucode = false → s.Answers (.startupStepComplete r) (fun t =>
      (t.half h).st = (if s.rd Fd.SAF_CFG_HOLDCOUNT ≤ s.unfitCount h + 1 then .held else .unfit) ∧ (t.half h).gone = true ∧
      t.rd Fd.SAF_FAULT_CLASS = 1 ∧ t.rd Fd.SAF_FAULT_HALF = halfNum h ∧ t.hub.hold = true ∧ s.OnlyIn [.regs, .freeCtr, .evt, .chan, .locks, .hub, .sched, .out, .nv, .tr, .md, .lg, .slots, .rg, .dr, .bt, .sv, .ts] t)) ∧
  (∀ (s : State) (r : StepRes) (h : Half), s.Inv → s.booting = some h → s.rd Fd.BTA_BOOTSTAT_STEP = 6 →
    fwPasses s.variant r.img = true → s.rd Fd.SEC_FUSE_SECVER ≤ r.img.fw.secver → r.ok = true → ucodeOk r.img.ucode = true → s.Answers (.startupStepComplete r) (fun t =>
      t.bt.run = r.img ∧ t.rd Fd.BTA_BOOTSTAT_STEP = (if s.variant.twin then 7 else 8) ∧ t.rd Fd.SEC_STAT_RNGOK = 1 ∧
      t.rd Fd.BTA_STAT_RUNBANK = s.rd Fd.BTA_BOOTSTAT_BANK ∧
      (s.variant.twin = true → (s.half (otherHalf h)).st = .off → (t.half (otherHalf h)).st = .loading) ∧ s.OnlyIn [.regs, .freeCtr, .evt, .chan, .locks, .hub, .sched, .out, .nv, .tr, .md, .lg, .slots, .rg, .dr, .bt, .sv, .ts] t)) ∧
  (∀ (s : State) (r : StepRes) (h : Half), s.Inv → s.booting = some h → s.rd Fd.BTA_BOOTSTAT_STEP = 7 →
    (s.half (otherHalf h)).st ≠ .loading → exec (.startupStepComplete r) s = .next (s.toStep 8)) ∧
  (∀ (s : State) (r : StepRes) (h : Half), s.Inv → s.booting = some h → s.rd Fd.BTA_BOOTSTAT_STEP = 7 →
    (s.half (otherHalf h)).st = .loading → r.otherOk = true → exec (.startupStepComplete r) s = .next ((s.loadImage (otherHalf h)).toStep 8)) ∧
  (∀ (s : State) (r : StepRes) (h : Half), s.Inv → s.booting = some h → s.rd Fd.BTA_BOOTSTAT_STEP = 7 →
    (s.half (otherHalf h)).st = .loading → r.otherOk = false → s.Answers (.startupStepComplete r) (fun t =>
      t.rd Fd.BTA_BOOTSTAT_STEP = 8 ∧ (t.half (otherHalf h)).st =
        (if s.rd Fd.SAF_CFG_HOLDCOUNT ≤ s.unfitCount (otherHalf h) + 1 then .held else .unfit) ∧ t.half h = s.half h ∧ t.rd Fd.SAF_FAULT_CLASS = 5 ∧ s.OnlyIn [.regs, .freeCtr, .evt, .chan, .locks, .hub, .sched, .out, .nv, .tr, .md, .lg, .slots, .rg, .dr, .bt, .sv, .ts] t)) ∧
  (∀ (s : State) (r : StepRes) (h : Half), s.Inv → s.booting = some h → s.rd Fd.BTA_BOOTSTAT_STEP = 8 → s.Answers (.startupStepComplete r) (fun t =>
      t.rd Fd.BTA_BOOTSTAT_STEP = 9 ∧ t.rd Fd.LDG_HEAD_LO_JSEQ = s.lastJseq % 2 ^ 32 ∧
      t.rd Fd.LDG_HEAD_HI_JSEQ = s.lastJseq / 2 ^ 32 % 2 ^ 16 ∧ (∀ x ∈ t.lg.live, x.jseq ∉ r.found.badRecords) ∧ s.OnlyIn [.regs, .freeCtr, .evt, .chan, .locks, .hub, .sched, .out, .nv, .tr, .md, .lg, .slots, .rg, .dr, .bt, .sv, .ts] t)) ∧
  (∀ (s : State) (r : StepRes) (h : Half), s.Inv → s.booting = some h → s.rd Fd.BTA_BOOTSTAT_STEP = 9 →
    r.ok = false ∨ dramFound r.ranks2 r.dens32 = 0 ∨ 2 < r.rate ∨ dramFound r.ranks2 r.dens32 < 5 * s.exported + 2 ^ 33 ∨
    r.checksOk = false → s.Answers (.startupStepComplete r) (fun t =>
      t.rd Fd.BTA_BOOTSTAT_STEP = 17 ∧ t.rd Fd.BTA_BOOTSTAT_CAUSE = 4 ∧ s.OnlyIn [.regs, .freeCtr, .evt, .chan, .locks, .hub, .sched, .out, .nv, .tr, .md, .lg, .slots, .rg, .dr, .bt, .sv, .ts] t)) ∧
  (∀ (s : State) (r : StepRes) (h : Half), s.Inv → s.booting = some h → s.rd Fd.BTA_BOOTSTAT_STEP = 9 →
    r.ok = true → dramFound r.ranks2 r.dens32 ≠ 0 → r.rate ≤ 2 → 5 * s.exported + 2 ^ 33 ≤ dramFound r.ranks2 r.dens32 →
    r.checksOk = true → s.Answers (.startupStepComplete r) (fun t =>
      t.rd Fd.BTA_BOOTSTAT_STEP = 10 ∧ t.rd Fd.DRC_CFG_TRAINED = 1 ∧ t.rd Fd.DRC_CFG_RATE = r.rate ∧
      t.rd Fd.DRC_STAT_LINES = trainedLines r.rate ∧ t.rd Fd.MAP_BASE_BASE = 0x20000 ∧ t.rd Fd.SCH_PLAN_CTRL_COMMIT 0 h = 1 ∧ s.OnlyIn [.regs, .freeCtr, .evt, .chan, .locks, .hub, .sched, .out, .nv, .tr, .md, .lg, .slots, .rg, .dr, .bt, .sv, .ts] t)) ∧
  (∀ (s : State) (r : StepRes) (h : Half), s.Inv → s.booting = some h → s.rd Fd.BTA_BOOTSTAT_STEP = 10 →
    s.rd Fd.SCH_PLAN_CTRL_COMMIT 0 h = 1 → exec (.startupStepComplete r) s = .next s) ∧
  (∀ (s : State) (r : StepRes) (h : Half), s.Inv → s.booting = some h → s.rd Fd.BTA_BOOTSTAT_STEP = 10 →
    s.rd Fd.SCH_PLAN_CTRL_COMMIT 0 h = 0 → s.Answers (.startupStepComplete r) (fun t =>
      t.rd Fd.BTA_BOOTSTAT_STEP = 11 ∧ (∀ n < 15, unitPresent s.variant n = true → n ∈ t.enrolled h) ∧
      (∀ n < s.variant.slotsN, n < s.slots.length → (s.slot n).st = .present → (t.slot n).st = .powering) ∧ s.OnlyIn [.regs, .freeCtr, .evt, .chan, .locks, .hub, .sched, .out, .nv, .tr, .md, .lg, .slots, .rg, .dr, .bt, .sv, .ts] t)) ∧
  (∀ (s : State) (r : StepRes) (h : Half), s.Inv → s.booting = some h → s.rd Fd.BTA_BOOTSTAT_STEP = 11 → exec (.startupStepComplete r) s = .next (if s.slotsTrained then s.toStep 12 else s)) ∧
  (∀ (s : State) (r : StepRes) (h : Half), s.Inv → s.booting = some h → s.rd Fd.BTA_BOOTSTAT_STEP = 12 → s.Answers (.startupStepComplete r) (fun t =>
      t.rd Fd.BTA_BOOTSTAT_STEP = 13 ∧ t.rd Fd.DRC_CFG_SERVICE = 1 ∧ t.rg.loops = s.rg.saved ∧ s.OnlyIn [.regs, .freeCtr, .evt, .chan, .locks, .hub, .sched, .out, .nv, .tr, .md, .lg, .slots, .rg, .dr, .bt, .sv, .ts] t)) ∧
  (∀ (s : State) (r : StepRes) (h : Half) (c : SegCopy), s.Inv → s.booting = some h → s.rd Fd.BTA_BOOTSTAT_STEP = 12 →
    s.tr.segs = [c] → c.bad = false → r.found.badCopies = [] → s.allDeltas = [] → s.tr.mapq = [] → s.lg.stale = [] →
    Memory.wf (fun _ => MapEntry.init) c.entries = true → s.Answers (.startupStepComplete r) (fun t =>
      ∀ l, t.mapEntry l = spGet (fun _ => MapEntry.init) c.entries l)) ∧
  (∀ (s : State) (r : StepRes) (h : Half), s.Inv → s.booting = some h → s.rd Fd.BTA_BOOTSTAT_STEP = 13 → s.Answers (.startupStepComplete r) (fun t =>
      t.rd Fd.BTA_BOOTSTAT_STEP = 14 ∧ t.lg.flushRec = none ∧ t.lg.toRelease = true ∧
      (∀ n complete notShut, s.lg.flushRec = some (n, complete, notShut) → t.rd Fd.LDG_FLUSH_UNITS = n % 2 ^ 17 ∧
        t.rd Fd.LDG_FLUSH_COMPLETE = boolNat complete ∧ t.rd Fd.LDG_FLUSH_UNSAFE = boolNat notShut) ∧
      (s.lg.flushRec = none → t.rd Fd.LDG_STAT_FLUSHINC = 1) ∧ s.OnlyIn [.regs, .freeCtr, .evt, .chan, .locks, .hub, .sched, .out, .nv, .tr, .md, .lg, .slots, .rg, .dr, .bt, .sv, .ts] t)) ∧
  (∀ (s : State) (r : StepRes) (h : Half), s.Inv → s.booting = some h → s.rd Fd.BTA_BOOTSTAT_STEP = 14 → exec (.startupStepComplete r) s = .next (s.copyRom.toStep 15)) ∧
  (∀ (s : State) (r : StepRes) (h : Half), s.Inv → s.booting = some h → s.rd Fd.BTA_BOOTSTAT_STEP = 15 →
    s.nv.sanitize.isSome = true → exec (.startupStepComplete r) s = .next s) ∧
  (∀ (s : State) (r : StepRes) (h : Half), s.Inv → s.booting = some h → s.rd Fd.BTA_BOOTSTAT_STEP = 15 →
    s.nv.sanitize = none → s.Answers (.startupStepComplete r) (fun t =>
      t.rd Fd.BTA_BOOTSTAT_STEP = 16 ∧ t.hub.linkOn = true ∧
      (t.half (otherHalf h)).st = (if (s.half (otherHalf h)).st = .loading then .syncing else (s.half (otherHalf h)).st) ∧ s.OnlyIn [.regs, .freeCtr, .evt, .chan, .locks, .hub, .sched, .out, .nv, .tr, .md, .lg, .slots, .rg, .dr, .bt, .sv, .ts] t)) ∧
  (∀ (s : State) (h : Half), s.booting = some h → s.time.beat < s.bt.stepAt + 250 * stepLimit (s.rd Fd.BTA_BOOTSTAT_STEP) →
    exec .startupStepTimeout s = .next s) ∧
  (∀ (s : State) (h : Half), s.Inv → s.booting = some h → s.rd Fd.BTA_BOOTSTAT_STEP = 7 → s.bt.stepAt + 250 * stepLimit 7 ≤ s.time.beat →
    s.Answers .startupStepTimeout (fun t => t.rd Fd.BTA_BOOTSTAT_STEP = 8 ∧ t.half h = s.half h ∧ s.OnlyIn [.regs, .freeCtr, .evt, .hub, .md, .dr, .bt, .ts] t)) ∧
  (∀ (s : State) (h : Half), s.Inv → s.booting = some h → s.rd Fd.BTA_BOOTSTAT_STEP ≠ 7 →
    s.bt.stepAt + 250 * stepLimit (s.rd Fd.BTA_BOOTSTAT_STEP) ≤ s.time.beat → s.Answers .startupStepTimeout (fun t =>
      (t.half h).st = (if s.rd Fd.SAF_CFG_HOLDCOUNT ≤ s.unfitCount h + 1 then .held else .unfit) ∧ (t.half h).gone = true ∧
      t.rd Fd.SAF_FAULT_CLASS = 1 ∧ t.rd Fd.SAF_FAULT_HALF = halfNum h ∧ t.hub.hold = true ∧ s.OnlyIn [.regs, .freeCtr, .evt, .hub, .md, .dr, .bt, .ts] t))

/-- ENTDAA and SETDASA give a target without a dynamic address one, ENTDAA after PID, BCR 0x06 and DCR 0x00; SETNEWDA replaces
it and RSTDAA takes it away (R467). ENEC and DISEC enable and disable IBIs; GETPID, GETBCR, GETDCR, GETSTATUS, GETMWL and GETMRL
answer on the bus, SETMWL and SETMRL take 64 to 256 (R467), with the payload of a packet 248 bytes once both are at least 256
(R469). MCTP_PACKET counts a packet that fails its checks, and an update or service message outside an operator session (R468 to
R470). The MCTP control messages and PLDM type 0 reply while the port is served, and wait while it is not (R469, R401). A test
of class F cuts the port off from the bus (R514). OUTBOUND_PACKET_READ hands over the first packet held (R468). The PID's fixed
bits, the status word and the versions that the spec does not state are free or fixed values of the model, which EIDs are not
assigned is log entry 60, and a reply of one packet is log entry 59. -/
def Obligations.ThePortAnswersItsBus : Prop :=
  (∀ (s : State) (a : Nat), s.portCut = true → ∀ i ∈ [Instr.entdaa a, .setdasa a, .setnewda a, .rstdaa, .enec, .disec, .getpid, .getbcr,
    .getdcr, .getstatus, .getmwl, .getmrl, .setmwl a, .setmrl a], exec i s = .next s) ∧
  (∀ (s : State) (da : Nat), s.rd Fd.SVC_I3C_DAVALID = 1 → exec (.entdaa da) s = .next s ∧ exec (.setdasa da) s = .next s) ∧
  (∀ (s : State) (da : Nat), s.rd Fd.SVC_I3C_DAVALID ≠ 1 → exec (.setnewda da) s = .next s) ∧
  (∀ (s : State) (da : Nat), s.Inv → s.portCut = false → s.rd Fd.SVC_I3C_DAVALID ≠ 1 → s.Answers (.entdaa da) (fun t =>
    t.out = s.out ++ [.i3c [s.pid, 6, 0]] ∧ t.rd Fd.SVC_I3C_DA = da % 128 ∧ t.rd Fd.SVC_I3C_DAVALID = 1 ∧
    s.RegsBut [keyOf Fd.SVC_I3C_DA] t ∧ s.OnlyIn [.regs, .out] t)) ∧
  (∀ (s : State) (da : Nat), s.Inv → s.portCut = false → s.rd Fd.SVC_I3C_DAVALID ≠ 1 → s.Answers (.setdasa da) (fun t => t.rd Fd.SVC_I3C_DA = da % 128 ∧
    t.rd Fd.SVC_I3C_DAVALID = 1 ∧ s.RegsBut [keyOf Fd.SVC_I3C_DA] t ∧ s.OnlyIn [.regs] t)) ∧
  (∀ (s : State) (da : Nat), s.Inv → s.portCut = false → s.rd Fd.SVC_I3C_DAVALID = 1 → s.Answers (.setnewda da) (fun t => t.rd Fd.SVC_I3C_DA = da % 128 ∧
    t.rd Fd.SVC_I3C_DAVALID = 1 ∧ s.RegsBut [keyOf Fd.SVC_I3C_DA] t ∧ s.OnlyIn [.regs] t)) ∧
  (∀ s : State, s.Inv → s.portCut = false → s.Answers .rstdaa (fun t => t.rd Fd.SVC_I3C_DA = 0 ∧ t.rd Fd.SVC_I3C_DAVALID = 0 ∧
    s.RegsBut [keyOf Fd.SVC_I3C_DA] t ∧ s.OnlyIn [.regs] t)) ∧
  (∀ s : State, s.Inv → s.portCut = false → s.Answers .enec (fun t => t.rd Fd.SVC_I3C_IBIEN = 1 ∧
    t.out = s.out ++ (if s.sv.pkts = [] then [] else [.ibi]) ∧ s.RegsBut [keyOf Fd.SVC_I3C_IBIEN] t ∧ s.OnlyIn [.regs, .out] t)) ∧
  (∀ s : State, s.Inv → s.portCut = false → s.Answers .disec (fun t => t.rd Fd.SVC_I3C_IBIEN = 0 ∧ s.RegsBut [keyOf Fd.SVC_I3C_IBIEN] t ∧
    s.OnlyIn [.regs] t)) ∧
  (∀ s : State, s.portCut = false → exec .getpid s = .next { s with out := s.out ++ [.i3c [s.pid]] } ∧
    exec .getbcr s = .next { s with out := s.out ++ [.i3c [6]] } ∧ exec .getdcr s = .next { s with out := s.out ++ [.i3c [0]] } ∧
    exec .getmwl s = .next { s with out := s.out ++ [.i3c [s.sv.mwl]] } ∧ exec .getmrl s = .next { s with out := s.out ++ [.i3c [s.sv.mrl]] } ∧
    s.pid / 2 ^ 12 = (Config.fixedValue 0).toNat % 2 ^ 36 ∧ s.pid % 2 ^ 12 = (s.optWord 2).toNat % 2 ^ 12 ∧
    s.Answers .getstatus (fun t => t.out = s.out ++ [.i3c [s.free.1 % 2 ^ 16]] ∧ t.freeCtr = s.freeCtr + 1 ∧ s.OnlyIn [.freeCtr, .out] t)) ∧
  (∀ (s : State) (v : Nat), v < 64 ∨ 256 < v → exec (.setmwl v) s = .next s ∧ exec (.setmrl v) s = .next s) ∧
  (∀ (s : State) (v : Nat), s.Inv → s.portCut = false → 64 ≤ v → v ≤ 256 → s.Answers (.setmwl v) (fun t => t.sv = { s.sv with mwl := v } ∧
    s.RegsBut [keyOf Fd.SVC_I3C_TU] t ∧ s.OnlyIn [.regs, .sv] t ∧
    t.rd Fd.SVC_I3C_TU = (if 256 ≤ v ∧ 256 ≤ s.sv.mrl then 248 else 64))) ∧
  (∀ (s : State) (v : Nat), s.Inv → s.portCut = false → 64 ≤ v → v ≤ 256 → s.Answers (.setmrl v) (fun t => t.sv = { s.sv with mrl := v } ∧
    s.RegsBut [keyOf Fd.SVC_I3C_TU] t ∧ s.OnlyIn [.regs, .sv] t ∧
    t.rd Fd.SVC_I3C_TU = (if 256 ≤ s.sv.mwl ∧ 256 ≤ v then 248 else 64))) ∧
  (∀ (s : State) (p : Packet) (a : Nat), s.svcUp = false → exec (.mctpPacket p) s = .next s ∧ exec (.setEndpointId a) s = .next s ∧
    exec .getEndpointId s = .next s ∧ exec .getMctpVersionSupport s = .next s ∧ exec .getMessageTypeSupport s = .next s ∧
    exec .getVendorDefinedMessageSupport s = .next s ∧ exec .gettid s = .next s ∧ exec (.settid a) s = .next s ∧
    exec .getpldmversion s = .next s ∧ exec .getpldmtypes s = .next s ∧ exec .getpldmcommands s = .next s ∧
    exec .outboundPacketRead s = .next s) ∧
  (∀ (s : State) (p : Packet), s.Inv → s.svcUp = true → p.pecOk = false ∨ p.asmOk = false → s.Answers (.mctpPacket p) (fun t =>
    t.rd Fd.SVC_CNT_PKTERR_COUNT = min (2 ^ 32 - 1) (s.rd Fd.SVC_CNT_PKTERR_COUNT + 1) ∧ s.RegsBut [keyOf Fd.SVC_CNT_PKTERR_COUNT] t ∧
    s.OnlyIn [.regs] t)) ∧
  (∀ (s : State) (p : Packet), s.svcUp = true → p.pecOk = true → p.asmOk = true → p.eom = false → exec (.mctpPacket p) s = .next s) ∧
  (∀ (s : State) (p : Packet), s.Inv → s.svcUp = true → p.pecOk = true → p.asmOk = true → p.eom = true →
    (p.typ = 1 ∧ p.fwUpdate = true) ∨ p.typ = 0x7F → (∀ i, p.sess = some i → s.operSess i = false) → s.Answers (.mctpPacket p) (fun t =>
      t.rd Fd.SVC_CNT_AUTHFAIL_COUNT = min (2 ^ 32 - 1) (s.rd Fd.SVC_CNT_AUTHFAIL_COUNT + 1) ∧ s.RegsBut [keyOf Fd.SVC_CNT_AUTHFAIL_COUNT] t ∧
      s.OnlyIn [.regs] t)) ∧
  (∀ (s : State) (p : Packet) (k : Nat), s.svcUp = true → p.pecOk = true → p.asmOk = true → p.eom = true →
    (p.typ = 1 ∧ p.fwUpdate = true) ∨ p.typ = 0x7F → p.sess = some k → s.operSess k = true → exec (.mctpPacket p) s = .next s) ∧
  (∀ (s : State) (p : Packet), s.svcUp = true → p.pecOk = true → p.asmOk = true → p.eom = true → ¬(p.typ = 1 ∧ p.fwUpdate = true) →
    p.typ ≠ 0x7F → (p.typ ≠ 6 ∨ p.sess = none → exec (.mctpPacket p) s = .next s) ∧
    (∀ i, p.typ = 6 → p.sess = some i → exec (.mctpPacket p) s = .next { s with sv := { s.sv with
      sess := s.sv.sess.map (fun x => if x.id == i then { x with last := s.time.beat } else x) } })) ∧
  (∀ (s : State) (eid : Nat), s.svcUp = true → eid = 0 ∨ 255 ≤ eid → s.Answers (.setEndpointId eid) (fun t =>
    s.Replies t 0x001 [1, s.rd Fd.SVC_MCTP_EID] ∧ t.regs = s.regs ∧ s.OnlyIn [.out, .sv] t)) ∧
  (∀ (s : State) (eid : Nat), s.Inv → s.svcUp = true → 0 < eid → eid < 255 → s.Answers (.setEndpointId eid) (fun t =>
    s.Replies t 0x001 [0, eid] ∧ t.rd Fd.SVC_MCTP_EID = eid ∧ t.rd Fd.SVC_MCTP_EIDVALID = 1 ∧ s.RegsBut [keyOf Fd.SVC_MCTP_EID] t ∧
    s.OnlyIn [.regs, .out, .sv] t)) ∧
  (∀ (s : State) (tid : Nat), s.svcUp = true → s.Answers (.settid tid) (fun t => s.Replies t 0x102 [tid] ∧ t.sv.tid = tid ∧
    s.OnlyIn [.out, .sv] t)) ∧
  (∀ s : State, s.svcUp = true →
    s.Answers .getEndpointId (fun t => s.Replies t 0x002 [s.rd Fd.SVC_MCTP_EID] ∧ s.OnlyIn [.out, .sv] t) ∧
    s.Answers .getMctpVersionSupport (fun t => s.Replies t 0x003 [1, 3] ∧ s.OnlyIn [.out, .sv] t) ∧
    s.Answers .getMessageTypeSupport (fun t => s.Replies t 0x004 [0x00, 0x01, 0x05, 0x06, 0x7F] ∧ s.OnlyIn [.out, .sv] t) ∧
    s.Answers .getVendorDefinedMessageSupport (fun t => s.Replies t 0x005 [(Config.fixedValue 1).toNat] ∧ s.OnlyIn [.out, .sv] t) ∧
    s.Answers .gettid (fun t => s.Replies t 0x101 [s.sv.tid] ∧ s.OnlyIn [.out, .sv] t) ∧
    s.Answers .getpldmversion (fun t => s.Replies t 0x103 [(Config.fixedValue 3).toNat, (Config.fixedValue 4).toNat] ∧
      s.OnlyIn [.out, .sv] t) ∧
    s.Answers .getpldmtypes (fun t => s.Replies t 0x104 [0, 5] ∧ s.OnlyIn [.out, .sv] t) ∧
    s.Answers .getpldmcommands (fun t => s.Replies t 0x105 (List.range' 1 5 ++ List.range' 0x51 13) ∧ s.OnlyIn [.out, .sv] t)) ∧
  (∀ s : State, s.svcUp = true → s.sv.pkts = [] → exec .outboundPacketRead s = .next s) ∧
  (∀ (s : State) (p : Nat × List Nat) (rest : List (Nat × List Nat)), s.svcUp = true → s.sv.pkts = p :: rest →
    s.Answers .outboundPacketRead (fun t => t.sv = { s.sv with
        pkts := rest ++ s.sv.waitPkts.take 1, waitPkts := s.sv.waitPkts.drop 1 } ∧
      t.out = s.out ++ [.mctp p.1 p.2] ++ (if s.rd Fd.SVC_I3C_IBIEN = 1 ∧ rest ++ s.sv.waitPkts.take 1 ≠ [] then [.ibi] else []) ∧
      s.OnlyIn [.out, .sv] t))

/-- The update messages need an operator session, and those after RequestUpdate the session that holds update mode (R479, R480).
RequestUpdate begins update mode for the target bank, or is refused; PassComponentTable, UpdateComponent, the chunks of
FirmwareData, CancelUpdateComponent and CancelUpdate move it as R479 and R480 state; a chunk that completes a component that
fails its test counts in SEC_CNT_VERIFYFAIL, and TEN_ADMIT names the admission test of a configuration image that admission
refuses (R150). ActivateFirmware marks the staged bank TRIAL and ends update mode, or is refused with its reason; a
self-contained one begins an activation without reset (R481, R482). UPDATE_TIMEOUT ends update mode after 60 s (R480).
ACTIVATION_QUIESCE, ACTIVATION_HOLD_BEGIN, IMAGE_CHANGE, ACTIVATION_RESUME and ACTIVATION_FALLBACK carry it through the steps of
R134 and R482, or back to the old image at the first bar boundary after the eighth bar without a resumption (R135). Where its
condition does not hold each changes nothing. The numbers of the messages and of their completion codes are the model's (log
entry 59). -/
def Obligations.FirmwareIsUpdatedAndActivated : Prop :=
  (∀ (s : State) (id a b c : Nat) (l : Bool) (d : List Nat) (img : ImageMeta), s.NeedsSession (.queryDeviceIdentifiers id) id ∧
    s.NeedsSession (.getFirmwareParameters id) id ∧ s.NeedsSession (.getStatus id) id ∧ s.NeedsSession (.requestUpdate id a) id ∧
    s.NeedsSession (.activateFirmware id l img) id ∧ s.NeedsUpdate (.passComponentTable id a b) id 4 ∧
    s.NeedsUpdate (.updateComponent id a b c l) id 5 ∧ s.NeedsUpdate (.firmwareDataResponse id d img) id 6 ∧
    s.NeedsUpdate (.cancelUpdateComponent id) id 12 ∧ s.NeedsUpdate (.cancelUpdate id) id 13) ∧
  (∀ (s : State) (id : Nat), s.svcUp = true → s.operSess id = true →
    s.Answers (.queryDeviceIdentifiers id) (fun t => t.sv.upd = s.sv.upd ∧ s.OnlyIn [.out, .sv] t ∧ s.Replies t (pldm 1)
      [(Config.fixedValue 1).toNat, (Config.fixedValue 2).toNat, (s.optWord 2).toNat % 2 ^ 32]) ∧
    s.Answers (.getFirmwareParameters id) (fun t => t.sv.upd = s.sv.upd ∧ s.OnlyIn [.out, .sv] t ∧ s.Replies t (pldm 2)
      [s.bt.run.fw.fwver, s.bt.run.cfgver, s.rd Fd.BTA_STAT_RUNBANK, s.setgen (s.rd Fd.BTA_STAT_RUNBANK),
       s.bankState (1 - s.rd Fd.BTA_STAT_RUNBANK), (s.optWord (descIdx (1 - s.rd Fd.BTA_STAT_RUNBANK) 0)).toNat]) ∧
    s.Answers (.getStatus id) (fun t => t.sv.upd = s.sv.upd ∧ s.OnlyIn [.out, .sv] t ∧ s.Replies t (pldm 11)
      [s.rd Fd.SVC_PLDMSTAT_STATE, s.rd Fd.SVC_PLDMSTAT_COMP, s.rd Fd.SVC_PLDMSTAT_PROGRESS, s.rd Fd.SVC_PLDMSTAT_REASON])) ∧
  (∀ (s : State) (id max : Nat), s.Inv → s.svcUp = true → s.operSess id = true → s.sv.upd ≠ none → s.Answers (.requestUpdate id max) (fun t =>
    s.Replies t (pldm 3) [1] ∧ t.rd Fd.SVC_PLDMSTAT_REASON = 4 ∧ t.sv.upd = s.sv.upd ∧ s.RegsBut [keyOf Fd.SVC_PLDMSTAT_STATE] t ∧ s.OnlyIn [.regs, .out, .sv] t)) ∧
  (∀ (s : State) (id max : Nat), s.Inv → s.svcUp = true → s.operSess id = true → s.sv.upd = none → s.unable = true → s.Answers (.requestUpdate id max) (fun t =>
    s.Replies t (pldm 3) [2] ∧ t.rd Fd.SVC_PLDMSTAT_REASON = 4 ∧ t.sv.upd = none ∧ s.RegsBut [keyOf Fd.SVC_PLDMSTAT_STATE] t ∧ s.OnlyIn [.regs, .out, .sv] t)) ∧
  (∀ (s : State) (id max : Nat), s.Inv → s.svcUp = true → s.operSess id = true → s.sv.upd = none → s.unable = false → s.Answers (.requestUpdate id max) (fun t =>
    s.Replies t (pldm 3) [0] ∧ t.rd Fd.SVC_PLDMSTAT_STATE = 1 ∧ t.rd Fd.SVC_PLDMSTAT_TARGET = s.targetBank ∧
    t.rd Fd.SVC_PLDMSTAT_COMP = 0 ∧ t.rd Fd.SVC_PLDMSTAT_PROGRESS = 0 ∧
    t.sv.upd = some ⟨id, min 4096 max, [], [], none, 0, false, false, false, s.time.beat⟩ ∧ s.RegsBut [keyOf Fd.SVC_PLDMSTAT_STATE] t ∧ s.OnlyIn [.regs, .out, .sv] t)) ∧
  (∀ (s : State) (id comp size : Nat) (u : Upd), s.Inv → s.InUpdate id u → compFits comp size = true → s.Answers (.passComponentTable id comp size) (fun t =>
    s.Replies t (pldm 4) [0, comp] ∧ t.rd Fd.SVC_PLDMSTAT_STATE = 2 ∧ t.sv.upd = some { u with last := s.time.beat, table := addOnce comp u.table } ∧
    s.RegsBut [keyOf Fd.SVC_PLDMSTAT_STATE] t ∧ s.OnlyIn [.regs, .out, .sv] t)) ∧
  (∀ (s : State) (id comp size : Nat) (u : Upd), s.Inv → s.InUpdate id u → compFits comp size = false → s.Answers (.passComponentTable id comp size) (fun t =>
    s.Replies t (pldm 4) [4, comp] ∧ t.sv.upd = some { u with last := s.time.beat } ∧ s.OnlyIn [.out, .sv] t)) ∧
  (∀ (s : State) (id comp size stamp : Nat) (l : Bool) (u : Upd), s.Inv → s.InUpdate id u → s.noPulse = true →
    s.Answers (.updateComponent id comp size stamp l) (fun t =>
      t.sv.upd = some { u with last := s.time.beat } ∧ t.sv.pkts = s.sv.pkts ∧ s.OnlyIn [.sv] t)) ∧
  (∀ (s : State) (id comp size stamp : Nat) (l : Bool) (u : Upd), s.Inv → s.InUpdate id u → s.noPulse = false →
    s.rd Fd.SVC_PLDMSTAT_STATE ≠ 2 ∨ u.staged = true →
    s.Answers (.updateComponent id comp size stamp l) (fun t =>
      s.Replies t (pldm 5) [3] ∧ t.sv.upd = some { u with last := s.time.beat } ∧ s.OnlyIn [.out, .sv] t)) ∧
  (∀ (s : State) (id comp size stamp : Nat) (l : Bool) (u : Upd), s.Inv → s.InUpdate id u → s.noPulse = false →
    s.rd Fd.SVC_PLDMSTAT_STATE = 2 → u.staged = false → compFits comp size = false ∨ comp ∈ u.applied →
    s.Answers (.updateComponent id comp size stamp l) (fun t =>
      s.Replies t (pldm 5) [4] ∧ t.sv.upd = some { u with last := s.time.beat } ∧ s.OnlyIn [.out, .sv] t)) ∧
  (∀ (s : State) (id comp size stamp : Nat) (l : Bool) (u : Upd), s.Inv → s.InUpdate id u → s.noPulse = false →
    s.rd Fd.SVC_PLDMSTAT_STATE = 2 → u.staged = false → compFits comp size = true → comp ∉ u.applied →
    s.Answers (.updateComponent id comp size stamp l) (fun t =>
      t.sv.upd = some { u with last := s.time.beat, cur := some (comp, size), got := 0, lastComp := l, begun := true } ∧
      t.rd Fd.SVC_PLDMSTAT_STATE = 3 ∧ t.rd Fd.SVC_PLDMSTAT_COMP = comp ∧ t.rd Fd.SVC_PLDMSTAT_PROGRESS = 0 ∧
      (s.sv.pkts.length < 7 → t.sv.pkts = s.sv.pkts ++ [(pldm 5, [0]), (pldm 6, [0, min u.chunk size])]) ∧
      (u.begun = true → t.bt = (s.each (List.range (ceilDiv size 4096)) (fun s i => s.wholeErase (s.slotBase comp + 4096 * i))).bt) ∧
      s.RegsBut [keyOf Fd.SVC_PLDMSTAT_STATE] t ∧ s.OnlyIn [.regs, .freeCtr, .out, .bt, .sv] t)) ∧
  (∀ (s : State) (id : Nat) (d : List Nat) (img : ImageMeta) (u : Upd), s.Inv → s.InUpdate id u → 
    u.cur = none ∨ s.noPulse = true ∨ s.rd Fd.SVC_PLDMSTAT_STATE ≠ 3 → s.Answers (.firmwareDataResponse id d img) (fun t =>
      t.sv.upd = some { u with last := s.time.beat } ∧ t.sv.pkts = s.sv.pkts ∧ s.OnlyIn [.sv] t)) ∧
  (∀ (s : State) (id : Nat) (d : List Nat) (img : ImageMeta) (u : Upd) (comp size : Nat) (ws : List Word64), s.Inv → s.InUpdate id u → 
    u.cur = some (comp, size) → s.noPulse = false → s.rd Fd.SVC_PLDMSTAT_STATE = 3 →
    ws = (d.map (fun n => BitVec.ofNat 64 n)).take (min (ceilDiv size 8 - u.got) (ceilDiv u.chunk 8)) →
    8 * (u.got + ws.length) < size → s.Answers (.firmwareDataResponse id d img) (fun t =>
      s.Replies t (pldm 6) [8 * (u.got + ws.length), min u.chunk (size - 8 * (u.got + ws.length))] ∧
      t.sv.upd = some { u with last := s.time.beat, got := u.got + ws.length } ∧
      t.rd Fd.SVC_PLDMSTAT_PROGRESS = ceilDiv (8 * (u.got + ws.length)) (max 1 u.chunk) % 2 ^ 16 ∧
      t.bt = (State.progData (ws.length + 1) (s.slotBase comp + 8 * u.got) ws s).bt ∧ s.OnlyIn [.regs, .evt, .out, .bt, .sv] t)) ∧
  (∀ (s : State) (id : Nat) (d : List Nat) (img : ImageMeta) (u : Upd) (comp size : Nat) (ws : List Word64), s.Inv → s.InUpdate id u → 
    u.cur = some (comp, size) → s.noPulse = false → s.rd Fd.SVC_PLDMSTAT_STATE = 3 →
    ws = (d.map (fun n => BitVec.ofNat 64 n)).take (min (ceilDiv size 8 - u.got) (ceilDiv u.chunk 8)) →
    size ≤ 8 * (u.got + ws.length) → s.compPasses comp img = false → s.Answers (.firmwareDataResponse id d img) (fun t =>
      t.rd Fd.SVC_PLDMSTAT_STATE = 4 ∧
      t.rd Fd.SEC_CNT_VERIFYFAIL_COUNT = min (2 ^ 32 - 1) (s.rd Fd.SEC_CNT_VERIFYFAIL_COUNT + 1) ∧
      (∀ test slice ten, comp = 2 → img.cfgOk = true → entriesOk s.variant img.entries = true →
        admission s.variant img.entries = some (test, slice, ten) → t.rd Fd.TEN_ADMIT_VALID = 1 ∧ t.rd Fd.TEN_ADMIT_TEST = test % 8 ∧
        t.rd Fd.TEN_ADMIT_SLICE = slice % 4 ∧ t.rd Fd.TEN_ADMIT_TENANT = ten % 256) ∧ s.OnlyIn [.regs, .evt, .out, .bt, .sv] t)) ∧
  (∀ (s : State) (id : Nat) (d : List Nat) (img : ImageMeta) (u : Upd) (comp size : Nat) (ws : List Word64), s.Inv → s.InUpdate id u → 
    u.cur = some (comp, size) → s.noPulse = false → s.rd Fd.SVC_PLDMSTAT_STATE = 3 →
    ws = (d.map (fun n => BitVec.ofNat 64 n)).take (min (ceilDiv size 8 - u.got) (ceilDiv u.chunk 8)) →
    size ≤ 8 * (u.got + ws.length) → s.compPasses comp img = true → u.lastComp = false → s.Answers (.firmwareDataResponse id d img) (fun t =>
      t.rd Fd.SVC_PLDMSTAT_STATE = 2 ∧
      t.sv.upd = some { u with last := s.time.beat, got := u.got + ws.length, cur := none, applied := addOnce comp u.applied } ∧ s.OnlyIn [.regs, .evt, .out, .bt, .sv] t)) ∧
  (∀ (s : State) (id : Nat) (d : List Nat) (img : ImageMeta) (u : Upd) (comp size : Nat) (ws : List Word64), s.Inv → s.InUpdate id u → 
    u.cur = some (comp, size) → s.noPulse = false → s.rd Fd.SVC_PLDMSTAT_STATE = 3 →
    ws = (d.map (fun n => BitVec.ofNat 64 n)).take (min (ceilDiv size 8 - u.got) (ceilDiv u.chunk 8)) →
    size ≤ 8 * (u.got + ws.length) → s.compPasses comp img = true → u.lastComp = true → s.Answers (.firmwareDataResponse id d img) (fun t =>
      t.rd Fd.SVC_PLDMSTAT_STATE =
        (if s.svcFull = true ∨ (1 ∈ addOnce comp u.applied ∧ 2 ∈ addOnce comp u.applied ∧ 3 ∈ addOnce comp u.applied) then 6 else 2) ∧ s.OnlyIn [.regs, .evt, .out, .bt, .sv] t)) ∧
  (∀ (s : State) (comp : Nat) (img : ImageMeta), s.compPasses comp img =
    (if comp = 1 then img.fwOk && decide (img.segs.length ≤ 64) && img.segs.all (segOk s.variant) && decide (s.rd Fd.SEC_FUSE_SECVER ≤ img.fw.secver)
      else if comp = 2 then img.cfgOk && entriesOk s.variant img.entries && (admission s.variant img.entries).isNone else img.romOk)) ∧
  (∀ (s : State) (id : Nat) (u : Upd), s.Inv → s.InUpdate id u → u.cur = none → s.Answers (.cancelUpdateComponent id) (fun t =>
    s.Replies t (pldm 12) [3] ∧ t.sv.upd = some { u with last := s.time.beat } ∧ s.OnlyIn [.out, .sv] t)) ∧
  (∀ (s : State) (id : Nat) (u : Upd), s.Inv → s.InUpdate id u → u.cur ≠ none → s.Answers (.cancelUpdateComponent id) (fun t =>
    s.Replies t (pldm 12) [0] ∧ t.sv.upd = some { u with last := s.time.beat, cur := none, got := 0 } ∧ t.rd Fd.SVC_PLDMSTAT_STATE = 2 ∧
    t.rd Fd.SVC_PLDMSTAT_COMP = 0 ∧ t.rd Fd.SVC_PLDMSTAT_PROGRESS = 0 ∧ s.RegsBut [keyOf Fd.SVC_PLDMSTAT_STATE] t ∧
    s.OnlyIn [.regs, .out, .sv] t)) ∧
  (∀ (s : State) (id : Nat) (u : Upd), s.Inv → s.InUpdate id u → s.Answers (.cancelUpdate id) (fun t => s.Replies t (pldm 13) [0] ∧ t.sv.upd = none ∧
    t.rd Fd.SVC_PLDMSTAT_STATE = 0 ∧ s.RegsBut [keyOf Fd.SVC_PLDMSTAT_STATE] t ∧ s.OnlyIn [.regs, .out, .sv] t)) ∧
  (∀ (s : State) (id : Nat) (self : Bool) (img : ImageMeta), s.Inv → s.svcUp = true → s.operSess id = true →
    s.sv.act ≠ none ∨ s.bankState s.targetBank ≠ 2 ∨ s.hub.fenced = true ∨ s.noPulse = true ∨ (self = true ∧ s.svcFull = false) →
    s.Answers (.activateFirmware id self img) (fun t => s.Replies t (pldm 10) [3] ∧
      t.rd Fd.SVC_PLDMSTAT_REASON = 4 ∧ t.bt = s.bt ∧ t.sv.upd = s.sv.upd ∧ s.OnlyIn [.regs, .evt, .out, .nv, .tr, .bt, .sv] t)) ∧
  (∀ (s : State) (id : Nat) (img : ImageMeta), s.Inv → s.svcUp = true → s.operSess id = true →
    s.sv.act = none → s.bankState s.targetBank = 2 → s.hub.fenced = false → s.noPulse = false →
    s.Answers (.activateFirmware id false img) (fun t => s.Replies t (pldm 10) [0] ∧
      t.bt = (s.markBank s.targetBank 2).bt ∧ t.sv.upd = none ∧ t.sv.act = none ∧ s.OnlyIn [.regs, .evt, .out, .nv, .tr, .bt, .sv] t)) ∧
  (∀ (s : State) (id : Nat) (img : ImageMeta), s.Inv → s.svcUp = true → s.operSess id = true →
    s.sv.act = none → s.bankState s.targetBank = 2 → s.hub.fenced = false → s.noPulse = false → s.svcFull = true → s.actReason img false ≠ 0 →
    s.Answers (.activateFirmware id true img) (fun t => s.Replies t (pldm 10) [3] ∧
      t.rd Fd.SVC_PLDMSTAT_REASON = s.actReason img false ∧ t.bt = s.bt ∧ t.sv.upd = s.sv.upd ∧ s.OnlyIn [.regs, .evt, .out, .nv, .tr, .bt, .sv] t)) ∧
  (∀ (s : State) (id : Nat) (img : ImageMeta), s.Inv → s.svcUp = true → s.operSess id = true →
    s.sv.act = none → s.bankState s.targetBank = 2 → s.hub.fenced = false → s.noPulse = false → s.svcFull = true → s.actReason img false = 0 →
    s.setPasses img = false →
    s.Answers (.activateFirmware id true img) (fun t => t.sv.upd = none ∧ t.sv.act = none ∧
      t.rd Fd.SEC_CNT_VERIFYFAIL_COUNT = min (2 ^ 32 - 1) (s.rd Fd.SEC_CNT_VERIFYFAIL_COUNT + 1) ∧ s.OnlyIn [.regs, .evt, .out, .nv, .tr, .bt, .sv] t)) ∧
  (∀ (s : State) (id : Nat) (img : ImageMeta), s.Inv → s.svcUp = true → s.operSess id = true →
    s.sv.act = none → s.bankState s.targetBank = 2 → s.hub.fenced = false → s.noPulse = false → s.svcFull = true → s.actReason img false = 0 →
    s.setPasses img = true →
    s.Answers (.activateFirmware id true img) (fun t => t.sv.upd = none ∧
      t.sv.act = some ⟨s.targetBank, s.bt.run, s.rd Fd.BTA_STAT_RUNBANK, none, none, none, false⟩ ∧ t.bt.staged = img ∧ t.rd Fd.QUE_ACT_STATE = 1 ∧ s.OnlyIn [.regs, .evt, .out, .nv, .tr, .bt, .sv] t)) ∧
  (∀ s : State, (∀ u, s.sv.upd = some u → s.time.beat < u.last + 15000000) → exec .updateTimeout s = .next s) ∧
  (∀ (s : State) (u : Upd), s.Inv → s.sv.upd = some u → u.last + 15000000 ≤ s.time.beat → s.Answers .updateTimeout (fun t =>
    t.sv = { s.sv with upd := none } ∧ t.rd Fd.SVC_PLDMSTAT_STATE = 0 ∧ s.RegsBut [keyOf Fd.SVC_PLDMSTAT_STATE] t ∧
    s.OnlyIn [.regs, .sv] t)) ∧
  (∀ (s : State) (l : Bool), s.activating = none → exec .activationQuiesce s = .next s ∧ exec (.activationHoldBegin l) s = .next s ∧
    exec .imageChange s = .next s ∧ exec .activationResume s = .next s ∧ exec .activationFallback s = .next s) ∧
  (∀ (s : State) (a : Act) (h : Half), s.activating = some (a, h) →
    a.b ≠ none ∨ s.atBar = false ∨ s.hub.hold = true ∨ s.hub.drill.d ≠ none → exec .activationQuiesce s = .next s) ∧
  (∀ (s : State) (a : Act) (h : Half), s.Inv → s.activating = some (a, h) → a.b = none → s.atBar = true → s.hub.hold = false →
    s.hub.drill.d = none → s.Answers .activationQuiesce (fun t => t.sv.act = some { a with b := some s.time.beat } ∧ t.rd Fd.QUE_ACT_STATE = 2 ∧
      t.rd Fd.LDG_STAT_MODE = 1 ∧ (∀ f < 256, (t.fn f).pp = true) ∧ (t.half (otherHalf h)).st = (if (s.half (otherHalf h)).st = .standby ∨
        (s.half (otherHalf h)).st = .syncing then .loading else (s.half (otherHalf h)).st) ∧ s.OnlyIn [.regs, .chan, .locks, .hub, .nv, .md, .lg, .sv, .ts] t)) ∧
  (∀ (s : State) (a : Act) (h : Half) (l : Bool), s.activating = some (a, h) →
    a.b = none ∨ a.holdAt ≠ none ∨ s.drained = false ∨ s.hub.hold = true → exec (.activationHoldBegin l) s = .next s) ∧
  (∀ (s : State) (a : Act) (h : Half) (l : Bool), s.Inv → s.activating = some (a, h) → a.b ≠ none → a.holdAt = none → s.drained = true →
    s.hub.hold = false → s.Answers (.activationHoldBegin l) (fun t => t.hub.hold = true ∧
      t.sv.act = some { a with holdAt := some s.time.beat, revert := !(l && ucodeOk s.bt.staged.ucode) } ∧
      t.rd Fd.SEC_CNT_VERIFYFAIL_COUNT = (if l = true ∧ ucodeOk s.bt.staged.ucode = true then s.rd Fd.SEC_CNT_VERIFYFAIL_COUNT else
        min (2 ^ 32 - 1) (s.rd Fd.SEC_CNT_VERIFYFAIL_COUNT + 1)) ∧ s.OnlyIn [.regs, .hub, .dr, .sv, .ts] t)) ∧
  (∀ (s : State) (a : Act) (h : Half), s.activating = some (a, h) → s.atBar = false ∨ a.changed ≠ none ∨
    (∀ t, a.holdAt = some t → s.time.beat ≤ t) → exec .imageChange s = .next s) ∧
  (∀ (s : State) (a : Act) (h : Half) (t0 : Nat), s.Inv → s.activating = some (a, h) → a.holdAt = some t0 → s.atBar = true → t0 < s.time.beat →
    a.changed = none → s.Answers .imageChange (fun t =>
      t.sv.act = some { a with changed := some s.time.beat } ∧ t.hub.hold = false ∧ t.hub.leaseEnd = s.time.beat + 5 ∧
      t.bt.run = (if a.revert then a.old else s.bt.staged) ∧ t.sv.sess = [] ∧ t.sv.upd = none ∧ t.rd Fd.QUE_ACT_STATE = 3 ∧
      (a.revert = true → t.rd Fd.QUE_ACT_FALLBACK = 1) ∧ t.rd Fd.SCH_PLAN_CTRL_COMMIT 0 h = 1 ∧
      t.sv.aliasGen = s.sv.aliasGen + 1 ∧ (t.half (otherHalf h)).st = (if (s.half (otherHalf h)).st = .loading then .syncing else
        (s.half (otherHalf h)).st) ∧ s.OnlyIn [.regs, .evt, .chan, .locks, .hub, .sched, .bt, .sv] t)) ∧
  (∀ (s : State) (a : Act) (h : Half), s.activating = some (a, h) → s.atBar = false ∨ s.hub.hold = true ∨
    (∀ t, a.changed = some t → s.time.beat ≤ t) ∨ (∀ t, a.b = some t → t + 2000 < s.time.beat) → exec .activationResume s = .next s) ∧
  (∀ (s : State) (a : Act) (h : Half) (t0 b0 : Nat), s.Inv → s.activating = some (a, h) → a.changed = some t0 → a.b = some b0 →
    s.atBar = true → t0 < s.time.beat → s.time.beat ≤ b0 + 2000 → s.hub.hold = false → s.Answers .activationResume (fun t =>
      t.sv.act = none ∧ t.rd Fd.QUE_ACT_STATE = 0 ∧ (∀ f < 256, (t.fn f).pp = false) ∧ t.bt.run = s.bt.run ∧
      s.OnlyIn [.regs, .evt, .out, .nv, .tr, .lg, .bt, .sv, .ts] t)) ∧
  (∀ (s : State) (a : Act) (h : Half), s.activating = some (a, h) →
    s.atBar = false ∨ (∀ t, a.b = some t → s.time.beat ≤ t + 2000) → exec .activationFallback s = .next s) ∧
  (∀ (s : State) (a : Act) (h : Half) (b0 : Nat), s.Inv → s.activating = some (a, h) → a.b = some b0 → s.atBar = true →
    b0 + 2000 < s.time.beat → s.Answers .activationFallback (fun t =>
      t.sv.act = none ∧ t.rd Fd.QUE_ACT_FALLBACK = 1 ∧ t.rd Fd.QUE_ACT_STATE = 0 ∧ (∀ f < 256, (t.fn f).pp = false) ∧
      t.bt.run = a.old ∧ t.hub.hold = false ∧ t.sv.sess = [] ∧ s.OnlyIn [.regs, .evt, .chan, .locks, .hub, .sched, .out, .nv, .tr, .lg, .bt, .sv, .ts] t))

/-- GET_VERSION, GET_CAPABILITIES and NEGOTIATE_ALGORITHMS bring a transport through its stages; the requests after them answer
from the stage they need on (R470, R473). GET_DIGESTS, GET_CERTIFICATE and CHALLENGE answer for slot 0 and with an error for
another; GET_MEASUREMENTS answers the number of measurements, one, or all (R475). KEY_EXCHANGE opens a session over the service
port, of at most four; FINISH establishes it once mutual authentication, where asked for, is done; HEARTBEAT and KEY_UPDATE
answer within it; END_SESSION and HEARTBEAT_TIMEOUT after 30 s end it, and the encapsulated exchange completes or ends it (R470,
R473). DOE carries the same requests, Busy in a hold, and Security Send and Receive carry them over SECP E8h and are refused
with Invalid Field in Command for another protocol (R474). RNG_HEALTH_FAILURE and RNG_RESEED move SEC_STAT.RNGOK (R493). What is
asked of the stages and the measurement indices 0 and 0xFF are presumed (log entry 61), and digests are of the model's own names
(log entry 62). -/
def Obligations.AttestationAndSessions : Prop :=
  (∀ (s : State) (tr : Transport) (slot idx : Nat) (mu op : Bool), s.NeedsStage (.getVersion tr) tr 0 ∧ s.NeedsStage (.getCapabilities tr) tr 1 ∧
    s.NeedsStage (.negotiateAlgorithms tr) tr 2 ∧ s.NeedsStage (.getDigests tr) tr 3 ∧ s.NeedsStage (.getCertificate tr slot) tr 3 ∧
    s.NeedsStage (.challenge tr slot) tr 3 ∧ s.NeedsStage (.getMeasurements tr idx) tr 3 ∧ s.NeedsStage (.keyExchange tr mu op) tr 3) ∧
  (∀ (s : State) (tr : Transport), s.spdmUp tr = true →
    s.Answers (.getVersion tr) (fun t => s.Answered t tr 1 [0x12, 0x13] ∧ t.spdmStage tr = 1 ∧ t.sv.sess = s.sv.sess ∧
      s.OnlyIn [.out, .sv] t) ∧
    (1 ≤ s.spdmStage tr → s.Answers (.getCapabilities tr) (fun t => s.Answered t tr 2 [2 ^ 10 - 1, 4096] ∧
      t.spdmStage tr = max 2 (s.spdmStage tr) ∧ t.sv.sess = s.sv.sess ∧ s.OnlyIn [.out, .sv] t)) ∧
    (2 ≤ s.spdmStage tr → s.Answers (.negotiateAlgorithms tr) (fun t => s.Answered t tr 3 [1, 2, 3, 4, 5, 6] ∧ t.spdmStage tr = 3 ∧
      t.sv.sess = s.sv.sess ∧ s.OnlyIn [.out, .sv] t))) ∧
  (∀ (s : State) (tr : Transport) (slot idx : Nat), s.spdmUp tr = true → 3 ≤ s.spdmStage tr →
    s.Answers (.getDigests tr) (fun t => s.Answered t tr 4 [1, s.chainDigest] ∧ t.sv.sess = s.sv.sess ∧ s.OnlyIn [.out, .sv] t) ∧
    s.Answers (.getCertificate tr 0) (fun t => s.Answered t tr 5 [0, s.sv.aliasGen] ∧ t.sv.sess = s.sv.sess ∧ s.OnlyIn [.out, .sv] t) ∧
    s.Answers (.challenge tr 0) (fun t => s.Answered t tr 6 [0, s.chainDigest] ∧ t.sv.sess = s.sv.sess ∧ s.OnlyIn [.out, .sv] t) ∧
    (slot ≠ 0 → s.Answers (.getCertificate tr slot) (fun t => s.Answered t tr 0 [] ∧ t.sv.sess = s.sv.sess ∧ s.OnlyIn [.out, .sv] t) ∧
      s.Answers (.challenge tr slot) (fun t => s.Answered t tr 0 [] ∧ t.sv.sess = s.sv.sess ∧ s.OnlyIn [.out, .sv] t)) ∧
    s.Answers (.getMeasurements tr 0) (fun t => s.Answered t tr 7 [8] ∧ t.sv.sess = s.sv.sess ∧ s.OnlyIn [.out, .sv] t) ∧
    s.Answers (.getMeasurements tr 0xFF) (fun t => s.Answered t tr 7 ((List.range' 1 8).map s.measurement) ∧ t.sv.sess = s.sv.sess ∧
      s.OnlyIn [.out, .sv] t) ∧
    (1 ≤ idx → idx ≤ 8 → s.Answers (.getMeasurements tr idx) (fun t => s.Answered t tr 7 [s.measurement idx] ∧ t.sv.sess = s.sv.sess ∧
      s.OnlyIn [.out, .sv] t)) ∧
    (8 < idx → idx ≠ 0xFF → s.Answers (.getMeasurements tr idx) (fun t => s.Answered t tr 0 [] ∧ t.sv.sess = s.sv.sess ∧
      s.OnlyIn [.out, .sv] t))) ∧
  (∀ (s : State) (tr : Transport) (mu op : Bool), s.spdmUp tr = true → 3 ≤ s.spdmStage tr → tr ≠ .mctp ∨ 4 ≤ s.sv.sess.length →
    s.Answers (.keyExchange tr mu op) (fun t => s.Answered t tr 0 [] ∧ t.sv.sess = s.sv.sess ∧ s.OnlyIn [.out, .sv] t)) ∧
  (∀ (s : State) (mu op : Bool), s.Inv → s.spdmUp .mctp = true → 3 ≤ s.spdmStage .mctp → s.sv.sess.length < 4 →
    s.Answers (.keyExchange .mctp mu op) (fun t => s.Replies t 0x508 [s.sv.nextSess] ∧ t.sv.nextSess = s.sv.nextSess + 1 ∧
      t.sv.sess = s.sv.sess ++ [⟨s.sv.nextSess, mu && op, false, none, s.time.beat, mu⟩] ∧
      t.rd Fd.SVC_SESS_OPEN = s.sv.sess.length + 1 ∧ s.RegsBut [keyOf Fd.SVC_SESS_OPEN] t ∧ s.OnlyIn [.regs, .out, .sv] t)) ∧
  (∀ (s : State) (id : Nat) (ok : Bool), s.NeedsOpen (.finish id ok) id ∧ s.NeedsOpen (.heartbeat id) id ∧ s.NeedsOpen (.keyUpdate id) id ∧
    s.NeedsOpen (.endSession id) id ∧ s.NeedsOpen (.getEncapsulatedRequest id) id ∧ s.NeedsOpen (.deliverEncapsulatedResponse id ok) id) ∧
  (∀ (s : State) (id : Nat) (ok : Bool) (x : Sess), s.Inv → s.svcUp = true → s.sv.sess.find? (fun y => y.id == id) = some x → x.est = true ∨ x.mutPend = true →
    s.Answers (.finish id ok) (fun t => s.Replies t 0x500 [] ∧ t.regs = s.regs ∧ s.OnlyIn [.out, .sv] t)) ∧
  (∀ (s : State) (id : Nat) (x : Sess), s.Inv → s.svcUp = true → s.sv.sess.find? (fun y => y.id == id) = some x → x.est = false → x.mutPend = false →
    s.Answers (.finish id true) (fun t => s.Replies t 0x509 [id] ∧ t.sess id = some { x with last := s.time.beat, est := true } ∧ s.RegsBut [keyOf Fd.SVC_SESS_OPEN] t ∧ s.OnlyIn [.regs, .out, .sv] t) ∧
    s.Answers (.finish id false) (fun t => s.Replies t 0x500 [] ∧ t.sv.sess = s.sv.sess.filter (fun y => y.id != id) ∧ t.rd Fd.SVC_SESS_OPEN = (s.sv.sess.filter (fun y => y.id != id)).length % 8 ∧
      s.RegsBut [keyOf Fd.SVC_SESS_OPEN] t ∧ s.OnlyIn [.regs, .out, .sv] t)) ∧
  (∀ (s : State) (id : Nat) (x : Sess), s.Inv → s.svcUp = true → s.sv.sess.find? (fun y => y.id == id) = some x → x.est = true →
    s.Answers (.heartbeat id) (fun t => s.Replies t 0x50A [id] ∧ t.sess id = some { x with last := s.time.beat } ∧ s.OnlyIn [.out, .sv] t) ∧
    s.Answers (.keyUpdate id) (fun t => s.Replies t 0x50B [id] ∧ t.sess id = some { x with last := s.time.beat } ∧ s.OnlyIn [.out, .sv] t) ∧
    s.Answers (.endSession id) (fun t => s.Replies t 0x50C [id] ∧ t.sv.sess = s.sv.sess.filter (fun y => y.id != id) ∧ t.rd Fd.SVC_SESS_OPEN = (s.sv.sess.filter (fun y => y.id != id)).length % 8 ∧
      s.RegsBut [keyOf Fd.SVC_SESS_OPEN] t ∧ s.OnlyIn [.regs, .out, .sv] t)) ∧
  (∀ (s : State) (id : Nat) (x : Sess), s.Inv → s.svcUp = true → s.sv.sess.find? (fun y => y.id == id) = some x → x.est = false →
    (∀ i ∈ [Instr.heartbeat id, .keyUpdate id, .endSession id], s.Answers i (fun t => s.Replies t 0x500 [] ∧ t.regs = s.regs ∧ s.OnlyIn [.out, .sv] t))) ∧
  (∀ (s : State) (id : Nat) (x : Sess), s.Inv → s.svcUp = true → s.sv.sess.find? (fun y => y.id == id) = some x → x.mutPend = true →
    s.Answers (.getEncapsulatedRequest id) (fun t => s.Replies t 0x50D [id] ∧ s.OnlyIn [.out, .sv] t) ∧
    s.Answers (.deliverEncapsulatedResponse id true) (fun t => s.Replies t 0x50E [id] ∧
      t.sv.sess.find? (fun y => y.id == id) = some { x with last := s.time.beat, mutPend := false } ∧ s.OnlyIn [.out, .sv] t) ∧
    s.Answers (.deliverEncapsulatedResponse id false) (fun t => s.Replies t 0x500 [] ∧ t.sv.sess = s.sv.sess.filter (fun y => y.id != id) ∧ t.rd Fd.SVC_SESS_OPEN = (s.sv.sess.filter (fun y => y.id != id)).length % 8 ∧
      s.RegsBut [keyOf Fd.SVC_SESS_OPEN] t ∧ s.OnlyIn [.regs, .out, .sv] t)) ∧
  (∀ (s : State) (id : Nat) (ok : Bool) (x : Sess), s.Inv → s.svcUp = true → s.sv.sess.find? (fun y => y.id == id) = some x → x.mutPend = false →
    s.Answers (.getEncapsulatedRequest id) (fun t => s.Replies t 0x500 [] ∧ s.OnlyIn [.out, .sv] t) ∧
    s.Answers (.deliverEncapsulatedResponse id ok) (fun t => s.Replies t 0x500 [] ∧ t.regs = s.regs ∧ s.OnlyIn [.out, .sv] t)) ∧
  (∀ (s : State) (id : Nat), (∀ x, s.sess id = some x → s.time.beat < x.last + 7500000) → exec (.heartbeatTimeout id) s = .next s) ∧
  (∀ (s : State) (id : Nat) (x : Sess), s.Inv → s.sess id = some x → x.last + 7500000 ≤ s.time.beat → s.Answers (.heartbeatTimeout id) (fun t =>
    t.sv = { s.sv with sess := s.sv.sess.filter (fun y => y.id != id) } ∧ t.rd Fd.SVC_SESS_OPEN = t.sv.sess.length % 8 ∧
    s.RegsBut [keyOf Fd.SVC_SESS_OPEN] t ∧ s.OnlyIn [.regs, .sv] t)) ∧
  (∀ (s : State) (pf : Nat), exec (.doeSpdmRequest pf 1) s = exec (.getVersion (.doe (pf % 2))) s ∧
    exec (.doeSpdmRequest pf 2) s = exec (.getCapabilities (.doe (pf % 2))) s ∧
    exec (.doeSpdmRequest pf 3) s = exec (.negotiateAlgorithms (.doe (pf % 2))) s ∧
    exec (.doeSpdmRequest pf 4) s = exec (.getDigests (.doe (pf % 2))) s ∧ exec (.doeSpdmRequest pf 5) s = exec (.getCertificate (.doe (pf % 2)) 0) s ∧
    exec (.doeSpdmRequest pf 6) s = exec (.challenge (.doe (pf % 2)) 0) s ∧
    exec (.doeSpdmRequest pf 7) s = exec (.getMeasurements (.doe (pf % 2)) 0xFF) s ∧
    (∀ code, code = 0 ∨ 7 < code → s.svcFull = true → exec (.doeSpdmRequest pf code) s = .next (s.emit (.doe (pf % 2) 0 [])))) ∧
  (∀ (s : State) (pf code : Nat), s.svcFull = false → exec (.doeSpdmRequest pf code) s =
    .next (if s.hub.hold then s.emit (.doeBusy (pf % 2)) else s)) ∧
  (∀ (s : State) (hd : Hdr) (secp code : Nat), s.Fetched hd →
    s.Answers (.securitySend hd 0xE8 code) (fun t =>
      t.Ended hd 0 0 0 ∧ t.sv = (s.spdmRequest (.secp hd.fn) code).sv ∧ s.OnlyIn [.regs, .out, .nv, .tr, .md, .lg, .sv] t) ∧
    (secp ≠ 0xE8 → s.Answers (.securitySend hd secp code) (fun t => t.Ended hd 0 2 0 ∧ t.sv = s.sv ∧ s.OnlyIn [.regs, .out, .nv, .tr, .md, .lg, .sv] t))) ∧
  (∀ (s : State) (hd : Hdr) (secp : Nat), s.Fetched hd →
    s.Answers (.securityReceive hd 0) (fun t =>
      t.Ended hd 0 0 0 ∧ .spdm hd.fn hd.cid [0x00, 0xE8] ∈ t.out ∧ t.sv = s.sv ∧ s.OnlyIn [.regs, .out, .nv, .tr, .md, .lg, .sv] t) ∧
    s.Answers (.securityReceive hd 0xE8) (fun t =>
      t.Ended hd 0 0 0 ∧ .spdm hd.fn hd.cid (spGet (fun _ => []) s.sv.secResp hd.fn) ∈ t.out ∧
      t.sv = { s.sv with secResp := spSet (fun _ => []) s.sv.secResp hd.fn [] } ∧ s.OnlyIn [.regs, .out, .nv, .tr, .md, .lg, .sv] t) ∧
    (secp ≠ 0 → secp ≠ 0xE8 → s.Answers (.securityReceive hd secp) (fun t => t.Ended hd 0 2 0 ∧ t.sv = s.sv ∧ s.OnlyIn [.regs, .out, .nv, .tr, .md, .lg, .sv] t))) ∧
  (∀ s : State, s.Inv → s.Answers .rngHealthFailure (fun t => t.rd Fd.SEC_STAT_RNGOK = 0 ∧
      t.rd Fd.SEC_CNT_RNGFAIL_COUNT = min (2 ^ 32 - 1) (s.rd Fd.SEC_CNT_RNGFAIL_COUNT + 1) ∧
      s.RegsBut [keyOf Fd.SEC_STAT_RNGOK, keyOf Fd.SEC_CNT_RNGFAIL_COUNT] t ∧ s.OnlyIn [.regs] t) ∧
    s.Answers .rngReseed (fun t => t.rd Fd.SEC_STAT_RNGOK = 1 ∧ s.RegsBut [keyOf Fd.SEC_STAT_RNGOK] t ∧ s.OnlyIn [.regs] t))

/-- A service command needs an operator session; one that is executed counts in SVC_CNT_CMD and answers status 0, one that is
refused answers its status and has no effect, and the recovery responder offers GET_NONCE, REG_READ and DEVICE_RESET alone
(R476, R495). GET_NONCE answers a free value, which serves one signed command within 60 s; NONCE_EXPIRY ends it; a signature or
nonce that fails is counted in SVC_CNT_AUTHFAIL with status 2 (R476). REG_READ and REG_WRITE act as master 96 on one register
(R476). CONFIRM, REVERT, DEVICE_RESET, EVENT_CLEAR and CONSOLE_UNLOCK have the effects of R485, R486, R464, R508 and R494 when
their test passes. CONSOLE_LOCK and CONSOLE_EXPIRY lock the console and record code 0x1201; the console's lines read and write a
register and print a record as its level allows (R494). Where its condition does not hold each changes nothing. -/
def Obligations.ServiceCommandsAndTheConsole : Prop :=
  (∀ (s : State) (id a b c : Nat) (h : Half) (ok : Bool) (img : ImageMeta), s.NeedsSession (.getNonce id) id ∧ s.NeedsSession (.regRead id h a b) id ∧
    s.NeedsSession (.regWrite id h a b c) id ∧ s.NeedsSession (.confirm id) id ∧ s.NeedsSession (.revert id ok img) id ∧
    s.NeedsSession (.deviceReset id ok) id ∧ s.NeedsSession (.eventClear id ok a) id ∧ s.NeedsSession (.consoleUnlock id ok a b) id ∧
    s.NeedsSession (.consoleLock id) id) ∧
  (∀ (s : State) (id : Nat), s.Inv → s.svcUp = true → s.operSess id = true → s.Answers (.getNonce id) (fun t =>
    s.Replies t (svcCode 1) [0, s.free.1] ∧ t.nonceOf id = some s.free.1 ∧ t.freeCtr = s.freeCtr + 1 ∧
    t.rd Fd.SVC_CNT_CMD_COUNT = min (2 ^ 32 - 1) (s.rd Fd.SVC_CNT_CMD_COUNT + 1) ∧ s.RegsBut [keyOf Fd.SVC_CNT_CMD_COUNT] t ∧
    s.OnlyIn [.regs, .freeCtr, .out, .sv] t)) ∧
  (∀ (s : State) (id : Nat), (∀ x n, s.sess id = some x → x.nonce = some n → s.time.beat < n.2 + nonceBeats) →
    exec (.nonceExpiry id) s = .next s) ∧
  (∀ (s : State) (id : Nat) (x : Sess) (n : Nat × Nat), s.sess id = some x → x.nonce = some n → n.2 + nonceBeats ≤ s.time.beat →
    s.Answers (.nonceExpiry id) (fun t => t.sess id = some { x with nonce := none } ∧ t.sv.sess.length = s.sv.sess.length ∧ s.OnlyIn [.sv] t)) ∧
  (∀ (s : State) (id : Nat) (h : Half) (b o : Nat), s.svcUp = true → s.operSess id = true → regAddr b o = false →
    s.Answers (.regRead id h b o) (fun t => s.Replies t (svcCode 2) [3] ∧ s.OnlyIn [.out, .sv] t)) ∧
  (∀ (s : State) (id : Nat) (h : Half) (b o : Nat), s.svcUp = true → s.operSess id = true → regAddr b o = true →
    exec (.regRead id h b o) s = .next ((((s.touch id).readReg h 96 b o 0 4).2.count Fd.SVC_CNT_CMD_COUNT).reply
      (svcCode 2) [0, ((s.touch id).readReg h 96 b o 0 4).1])) ∧
  (∀ (s : State) (id : Nat) (h : Half) (b o v : Nat) (img : ImageMeta), s.svcUp = true → s.operSess id = true → s.svcFull = false →
    s.Answers (.regWrite id h b o v) (fun t => s.Replies t (svcCode 3) [1] ∧ s.OnlyIn [.out, .sv] t) ∧
    s.Answers (.confirm id) (fun t => s.Replies t (svcCode 4) [1] ∧ s.OnlyIn [.out, .sv] t) ∧
    s.Answers (.consoleLock id) (fun t => s.Replies t (svcCode 9) [1] ∧ s.OnlyIn [.out, .sv] t) ∧
    (∀ ok : Bool, s.Answers (.revert id ok img) (fun t => s.Replies t (svcCode 5) [1] ∧ t.nonceOf id = none ∧ s.OnlyIn [.out, .sv] t) ∧
      s.Answers (.eventClear id ok v) (fun t => s.Replies t (svcCode 7) [1] ∧ t.nonceOf id = none ∧ s.OnlyIn [.out, .sv] t) ∧
      s.Answers (.consoleUnlock id ok b v) (fun t => s.Replies t (svcCode 8) [1] ∧ t.nonceOf id = none ∧ s.OnlyIn [.out, .sv] t))) ∧
  (∀ (s : State) (id : Nat) (h : Half) (b o v : Nat), s.svcUp = true → s.operSess id = true → s.svcFull = true → State.regWriteStatus h b o v s ≠ 0 →
    s.Answers (.regWrite id h b o v) (fun t =>
      s.Replies t (svcCode 3) [State.regWriteStatus h b o v s] ∧ s.OnlyIn [.out, .sv] t)) ∧
  (∀ (s : State) (id : Nat) (h : Half) (b o v : Nat), s.svcUp = true → s.operSess id = true → s.svcFull = true → State.regWriteStatus h b o v s = 0 →
    exec (.regWrite id h b o v) s = .next ((((s.touch id).count Fd.SVC_CNT_CMD_COUNT).reply
      (svcCode 3) [0]).writeReg h 96 b o (v % 2 ^ 32))) ∧
  (∀ (s : State) (id : Nat), s.svcUp = true → s.operSess id = true → s.svcFull = true → s.confirmStatus ≠ 0 →
    s.Answers (.confirm id) (fun t => s.Replies t (svcCode 4) [s.confirmStatus] ∧ s.OnlyIn [.out, .sv] t)) ∧
  (∀ (s : State) (id : Nat), s.Inv → s.svcUp = true → s.operSess id = true → s.svcFull = true → s.confirmStatus = 0 →
    s.Answers (.confirm id) (fun t => s.Replies t (svcCode 4) [0] ∧ t.rd Fd.SVC_CNT_CMD_COUNT = min (2 ^ 32 - 1) (s.rd Fd.SVC_CNT_CMD_COUNT + 1) ∧
      t.bt = ((s.markBank (s.rd Fd.BTA_STAT_RUNBANK) 3).settleConfirm (s.rd Fd.BTA_STAT_RUNBANK)).bt ∧
      t.rd Fd.SEC_FUSE_SECVER = (if s.rd Fd.SEC_FUSE_SECVER < s.bt.run.fw.secver then s.bt.run.fw.secver % 64 else s.rd Fd.SEC_FUSE_SECVER) ∧
      s.Reports t 0 0x1301 [] ∧ s.RegsBut (keyOf Fd.SVC_CNT_CMD_COUNT :: keyOf Fd.SEC_FUSE_SECVER :: eventKeys) t ∧ s.OnlyIn [.regs, .evt, .out, .bt, .sv] t)) ∧
  (∀ (s : State) (id : Nat) (ok : Bool), s.Inv → s.svcUp = true → s.operSess id = true →
    ok = false ∨ s.nonceOf id = none →
    s.Answers (.deviceReset id ok) (fun t => s.Replies t (svcCode 6) [2] ∧ t.nonceOf id = none ∧ s.OnlyIn [.regs, .out, .sv] t ∧
      s.RegsBut [keyOf Fd.SVC_CNT_AUTHFAIL_COUNT] t ∧ t.rd Fd.SVC_CNT_AUTHFAIL_COUNT = min (2 ^ 32 - 1) (s.rd Fd.SVC_CNT_AUTHFAIL_COUNT + 1))) ∧
  (∀ (s : State) (id : Nat) (ok : Bool) (a b : Nat) (img : ImageMeta), s.Inv → s.svcUp = true → s.operSess id = true → s.svcFull = true → ok = false ∨ s.nonceOf id = none →
    s.Answers (.revert id ok img) (fun t => s.Replies t (svcCode 5) [2] ∧ t.nonceOf id = none ∧ s.OnlyIn [.regs, .out, .sv] t ∧
      s.RegsBut [keyOf Fd.SVC_CNT_AUTHFAIL_COUNT] t ∧ t.rd Fd.SVC_CNT_AUTHFAIL_COUNT = min (2 ^ 32 - 1) (s.rd Fd.SVC_CNT_AUTHFAIL_COUNT + 1)) ∧
    s.Answers (.eventClear id ok a) (fun t => s.Replies t (svcCode 7) [2] ∧ t.nonceOf id = none ∧ s.OnlyIn [.regs, .out, .sv] t ∧
      s.RegsBut [keyOf Fd.SVC_CNT_AUTHFAIL_COUNT] t ∧ t.rd Fd.SVC_CNT_AUTHFAIL_COUNT = min (2 ^ 32 - 1) (s.rd Fd.SVC_CNT_AUTHFAIL_COUNT + 1)) ∧
    s.Answers (.consoleUnlock id ok a b) (fun t => s.Replies t (svcCode 8) [2] ∧ t.nonceOf id = none ∧ s.OnlyIn [.regs, .out, .sv] t ∧
      s.RegsBut [keyOf Fd.SVC_CNT_AUTHFAIL_COUNT] t ∧ t.rd Fd.SVC_CNT_AUTHFAIL_COUNT = min (2 ^ 32 - 1) (s.rd Fd.SVC_CNT_AUTHFAIL_COUNT + 1))) ∧
  (∀ (s : State) (id n : Nat) (img : ImageMeta), s.svcUp = true → s.operSess id = true → s.svcFull = true → s.nonceOf id = some n → s.revertStatus ≠ 0 →
    s.Answers (.revert id true img) (fun t => s.Replies t (svcCode 5) [s.revertStatus] ∧ t.nonceOf id = none ∧ s.OnlyIn [.out, .sv] t)) ∧
  (∀ (s : State) (id n : Nat) (img : ImageMeta), s.svcUp = true → s.operSess id = true → s.svcFull = true → s.nonceOf id = some n → s.revertStatus = 0 →
    exec (.revert id true img) s = .next ((((((s.touch id).updSess id (fun x => { x with nonce := none })).count Fd.SVC_CNT_CMD_COUNT)).reply (svcCode 5) [0]).revertSet img)) ∧
  (∀ (s : State) (id n hash : Nat), s.svcUp = true → s.operSess id = true → s.svcFull = true → s.nonceOf id = some n → s.clearStatus ≠ 0 →
    s.Answers (.eventClear id true hash) (fun t => s.Replies t (svcCode 7) [s.clearStatus] ∧ t.nonceOf id = none ∧ s.OnlyIn [.out, .sv] t)) ∧
  (∀ (s : State) (id n hash : Nat), s.svcUp = true → s.operSess id = true → s.svcFull = true → s.nonceOf id = some n → s.clearStatus = 0 →
    s.Answers (.eventClear id true hash) (fun t => t.evt.perm = 0 ∧ t.evt.clearPos = s.evt.clearPos + 1 ∧
      t.evt.pbase = ((s.evt.seq + 2 ^ 48 - 1) % 2 ^ 48 + 1) % 2 ^ 48 ∧ t.evt.seq = t.evt.pbase + 1 ∧ s.Replies t (svcCode 7) [0] ∧
      (s.mayProgram 0 = true → t.evt.clearing = none) ∧ (s.mayProgram 0 = false → t.evt.clearing.isSome = true) ∧ s.OnlyIn [.regs, .evt, .out, .lg, .bt, .sv] t)) ∧
  (∀ (s : State) (id n lv hr : Nat), s.svcUp = true → s.operSess id = true → s.svcFull = true → s.nonceOf id = some n → unlockStatus lv hr ≠ 0 →
    s.Answers (.consoleUnlock id true lv hr) (fun t => s.Replies t (svcCode 8) [3] ∧ t.nonceOf id = none ∧ s.OnlyIn [.out, .sv] t)) ∧
  (∀ (s : State) (id n lv hr : Nat), s.Inv → s.svcUp = true → s.operSess id = true → s.svcFull = true → s.nonceOf id = some n → unlockStatus lv hr = 0 →
    s.Answers (.consoleUnlock id true lv hr) (fun t => s.Replies t (svcCode 8) [0] ∧
      t.rd Fd.SVC_CONSOLE_LEVEL = lv ∧ t.sv.consEnd = s.time.beat + hr * hourIn ∧ s.Records t 0 0x80 0x1201 [] ∧ t.rd Fd.SVC_CNT_CMD_COUNT = min (2 ^ 32 - 1) (s.rd Fd.SVC_CNT_CMD_COUNT + 1) ∧
      s.RegsBut (keyOf Fd.SVC_CNT_CMD_COUNT :: keyOf Fd.SVC_CONSOLE_LEVEL :: eventKeys) t ∧ s.OnlyIn [.regs, .evt, .out, .sv] t)) ∧
  (∀ (s : State) (id n : Nat), s.svcUp = true → s.operSess id = true → s.nonceOf id = some n → s.hub.fenced = true ∨ s.active = none ∨ s.beforeRecovery = true →
    s.Answers (.deviceReset id true) (fun t =>
      t = (((((s.touch id).updSess id (fun x => { x with nonce := none })).count Fd.SVC_CNT_CMD_COUNT)).reply (svcCode 6) [0]).deviceReset ∧ t.rd Fd.PWR_RSTCAUSE_CAUSE = 6 ∧ t.hub = State.reset.hub)) ∧
  (∀ (s : State) (id n : Nat), s.svcUp = true → s.operSess id = true → s.nonceOf id = some n → s.hub.fenced = false → s.active ≠ none → s.beforeRecovery = false →
    s.Answers (.deviceReset id true) (fun t =>
      t = (((((s.touch id).updSess id (fun x => { x with nonce := none })).count Fd.SVC_CNT_CMD_COUNT)).reply (svcCode 6) [0]).deviceReset ∧ ∃ l, t.lg.loss = some l ∧ l.why = 1)) ∧
  (∀ (s : State) (id : Nat), s.Inv → s.svcUp = true → s.operSess id = true → s.svcFull = true → s.Answers (.consoleLock id) (fun t =>
    s.Replies t (svcCode 9) [0] ∧ t.rd Fd.SVC_CONSOLE_LEVEL = 0 ∧ (s.rd Fd.SVC_CONSOLE_LEVEL ≠ 0 → s.Records t 0 0x80 0x1201 []) ∧
    t.rd Fd.SVC_CNT_CMD_COUNT = min (2 ^ 32 - 1) (s.rd Fd.SVC_CNT_CMD_COUNT + 1) ∧
    s.RegsBut (keyOf Fd.SVC_CNT_CMD_COUNT :: keyOf Fd.SVC_CONSOLE_LEVEL :: eventKeys) t ∧ s.OnlyIn [.regs, .evt, .out, .sv] t)) ∧
  (∀ s : State, s.rd Fd.SVC_CONSOLE_LEVEL = 0 ∨ s.time.beat < s.sv.consEnd → exec .consoleExpiry s = .next s) ∧
  (∀ s : State, s.Inv → s.rd Fd.SVC_CONSOLE_LEVEL ≠ 0 → s.sv.consEnd ≤ s.time.beat → s.Answers .consoleExpiry (fun t =>
    t.rd Fd.SVC_CONSOLE_LEVEL = 0 ∧ s.Records t 0 0x80 0x1201 [] ∧ s.RegsBut (keyOf Fd.SVC_CONSOLE_LEVEL :: eventKeys) t ∧
    s.OnlyIn [.regs, .evt] t)) ∧
  (∀ (s : State) (h : Half) (b o : Nat), s.consoleOpen 1 = false ∨ regAddr b o = false →
    exec (.consoleRegisterRead h b o) s = .next s) ∧
  (∀ (s : State) (h : Half) (b o : Nat), s.consoleOpen 1 = true → regAddr b o = true →
    exec (.consoleRegisterRead h b o) s =
      .next ((s.readReg h 96 b o 0 4).2.emit (.uart [(s.readReg h 96 b o 0 4).1]))) ∧
  (∀ (s : State) (h : Half) (b o v : Nat), s.consoleOpen 2 = false ∨ State.regWriteStatus h b o v s ≠ 0 →
    exec (.consoleRegisterWrite h b o v) s = .next s) ∧
  (∀ (s : State) (h : Half) (b o v : Nat), s.consoleOpen 2 = true → State.regWriteStatus h b o v s = 0 →
    exec (.consoleRegisterWrite h b o v) s = .next (s.writeReg h 96 b o (v % 2 ^ 32))) ∧
  (∀ (s : State) (seq : Nat), s.consoleOpen 1 = false →
    exec (.consoleEventRead seq) s = .next s) ∧
  (∀ (s : State) (seq : Nat), s.consoleOpen 1 = true → exec (.consoleEventRead seq) s = .next { s with out := s.out ++ [.uart
      (if recordOk (s.recordWords 0 seq) seq then (s.recordWords 0 seq).map (fun w => w.toNat) else [])] })
end

