-- ==== Sys2Proof/Laws/Sparse.lean ====
section
/-! SUPPORT. Laws of sparse memories: a read after a write gives the value written, a write leaves every other key
alone, and every operation keeps the canonical form. -/

namespace Sys2Proof.Laws

open Sys2Proof.Machine

variable {α : Type}

theorem spSorted_mono {m : Sparse α} {a b : Nat} (h : spSorted m b = true) (hab : a ≤ b) : spSorted m a = true := by
  cases m with
  | nil => rfl
  | cons p t =>
    simp only [spSorted, Bool.and_eq_true, decide_eq_true_eq] at *
    exact ⟨by omega, h.2⟩

theorem spGet_of_lt {d : Nat → α} {m : Sparse α} {k lo : Nat} (h : spSorted m lo = true) (hk : k < lo) :
    spGet d m k = d k := by
  induction m generalizing lo with
  | nil => rfl
  | cons p t ih =>
    obtain ⟨k', v⟩ := p
    simp only [spSorted, Bool.and_eq_true, decide_eq_true_eq] at h
    have hne : k ≠ k' := by omega
    simp only [spGet, hne, if_false]
    exact ih h.2 (by omega)

theorem spGet_spInsert_same {d : Nat → α} (m : Sparse α) (k : Nat) (v : α) : spGet d (spInsert m k v) k = v := by
  induction m with
  | nil => simp [spInsert, spGet]
  | cons p t ih =>
    obtain ⟨k', v'⟩ := p
    by_cases h1 : k = k'
    · simp [spInsert, h1, spGet]
    · by_cases h2 : k < k'
      · simp [spInsert, h1, h2, spGet]
      · simp [spInsert, h1, h2, spGet, ih]

theorem spGet_spInsert_other {d : Nat → α} (m : Sparse α) {k j : Nat} (v : α) (hj : j ≠ k) :
    spGet d (spInsert m k v) j = spGet d m j := by
  induction m with
  | nil => simp [spInsert, spGet, hj]
  | cons p t ih =>
    obtain ⟨k', v'⟩ := p
    by_cases h1 : k = k'
    · subst h1; simp [spInsert, spGet, hj]
    · by_cases h2 : k < k'
      · simp [spInsert, h1, h2, spGet, hj]
      · simp [spInsert, h1, h2, spGet, ih]

theorem spGet_spErase_same {d : Nat → α} {m : Sparse α} {k lo : Nat} (h : spSorted m lo = true) :
    spGet d (spErase m k) k = d k := by
  induction m generalizing lo with
  | nil => rfl
  | cons p t ih =>
    obtain ⟨k', v'⟩ := p
    have h' := h
    simp only [spSorted, Bool.and_eq_true, decide_eq_true_eq] at h
    by_cases h1 : k = k'
    · subst h1
      simp only [spErase, if_true]
      exact spGet_of_lt h.2 (by omega)
    · by_cases h2 : k < k'
      · simp only [spErase, h1, h2, if_true, if_false]
        have h3 : spSorted ((k', v') :: t) k' = true := by
          simp only [spSorted, Bool.and_eq_true, decide_eq_true_eq]; exact ⟨by omega, h.2⟩
        exact spGet_of_lt h3 h2
      · simp only [spErase, h1, h2, if_false, spGet]
        exact ih h.2

theorem spGet_spErase_other {d : Nat → α} (m : Sparse α) {k j : Nat} (hj : j ≠ k) :
    spGet d (spErase m k) j = spGet d m j := by
  induction m with
  | nil => rfl
  | cons p t ih =>
    obtain ⟨k', v'⟩ := p
    by_cases h1 : k = k'
    · subst h1; simp [spErase, spGet, hj]
    · by_cases h2 : k < k'
      · simp [spErase, h1, h2]
      · simp [spErase, h1, h2, spGet, ih]

theorem spSorted_spInsert {m : Sparse α} {k lo : Nat} (v : α) (h : spSorted m lo = true) (hk : lo ≤ k) :
    spSorted (spInsert m k v) lo = true := by
  induction m generalizing lo with
  | nil => simp [spInsert, spSorted, hk]
  | cons p t ih =>
    obtain ⟨k', v'⟩ := p
    simp only [spSorted, Bool.and_eq_true, decide_eq_true_eq] at h
    by_cases h1 : k = k'
    · subst h1; simp [spInsert, spSorted, h]
    · by_cases h2 : k < k'
      · simp only [spInsert, h1, h2, if_true, if_false, spSorted, Bool.and_eq_true, decide_eq_true_eq]
        exact ⟨hk, by omega, h.2⟩
      · simp only [spInsert, h1, h2, if_false, spSorted, Bool.and_eq_true, decide_eq_true_eq]
        exact ⟨h.1, ih h.2 (by omega)⟩

theorem spSorted_spErase {m : Sparse α} {k lo : Nat} (h : spSorted m lo = true) :
    spSorted (spErase m k) lo = true := by
  induction m generalizing lo with
  | nil => rfl
  | cons p t ih =>
    obtain ⟨k', v'⟩ := p
    have h' := h
    simp only [spSorted, Bool.and_eq_true, decide_eq_true_eq] at h
    by_cases h1 : k = k'
    · simp only [spErase, h1, if_true]
      exact spSorted_mono h.2 (by omega)
    · by_cases h2 : k < k'
      · simp only [spErase, h1, h2, if_true, if_false]; exact h'
      · simp only [spErase, h1, h2, if_false, spSorted, Bool.and_eq_true, decide_eq_true_eq]
        exact ⟨h.1, ih h.2⟩

theorem spSorted_filter {m : Sparse α} {lo : Nat} (f : Nat × α → Bool) (h : spSorted m lo = true) :
    spSorted (m.filter f) lo = true := by
  induction m generalizing lo with
  | nil => rfl
  | cons p t ih =>
    obtain ⟨k', v'⟩ := p
    simp only [spSorted, Bool.and_eq_true, decide_eq_true_eq] at h
    by_cases hf : f (k', v') = true
    · simp only [List.filter_cons, hf, if_true, spSorted, Bool.and_eq_true, decide_eq_true_eq]
      exact ⟨h.1, ih h.2⟩
    · simp only [List.filter_cons, hf]
      exact spSorted_mono (ih h.2) (by omega)

theorem mem_spInsert {m : Sparse α} {k : Nat} {v : α} {p : Nat × α} (h : p ∈ spInsert m k v) :
    p = (k, v) ∨ p ∈ m := by
  induction m with
  | nil => simpa [spInsert] using h
  | cons q t ih =>
    obtain ⟨k', v'⟩ := q
    by_cases h1 : k = k'
    · simp only [spInsert, h1, if_true, List.mem_cons] at h ⊢
      rcases h with h | h
      · exact Or.inl h
      · exact Or.inr (Or.inr h)
    · by_cases h2 : k < k'
      · simpa [spInsert, h1, h2] using h
      · simp only [spInsert, h1, h2, if_false, List.mem_cons] at h ⊢
        rcases h with h | h
        · exact Or.inr (Or.inl h)
        · rcases ih h with h | h
          · exact Or.inl h
          · exact Or.inr (Or.inr h)

theorem mem_spErase {m : Sparse α} {k : Nat} {p : Nat × α} (h : p ∈ spErase m k) : p ∈ m := by
  induction m with
  | nil => simp [spErase] at h
  | cons q t ih =>
    obtain ⟨k', v'⟩ := q
    by_cases h1 : k = k'
    · simp only [spErase, h1, if_true] at h
      exact List.mem_cons_of_mem _ h
    · by_cases h2 : k < k'
      · simpa [spErase, h1, h2] using h
      · simp only [spErase, h1, h2, if_false, List.mem_cons] at h ⊢
        rcases h with h | h
        · exact Or.inl h
        · exact Or.inr (ih h)

/-- A write keeps the canonical form. -/
@[simp] theorem wf_spSet [DecidableEq α] {d : Nat → α} {m : Sparse α} (k : Nat) (v : α)
    (h : Memory.wf d m = true) : Memory.wf d (spSet d m k v) = true := by
  simp only [Memory.wf, Bool.and_eq_true, List.all_eq_true, decide_eq_true_eq] at *
  unfold spSet
  split
  · exact ⟨spSorted_spErase h.1, fun p hp => h.2 p (mem_spErase hp)⟩
  · rename_i hv
    refine ⟨spSorted_spInsert v h.1 (Nat.zero_le _), fun p hp => ?_⟩
    rcases mem_spInsert hp with rfl | hp
    · exact hv
    · exact h.2 p hp

/-- Removing a range keeps the canonical form. -/
@[simp] theorem wf_spClear [DecidableEq α] {d : Nat → α} {m : Sparse α} (lo hi : Nat)
    (h : Memory.wf d m = true) : Memory.wf d (spClear m lo hi) = true := by
  simp only [Memory.wf, Bool.and_eq_true, List.all_eq_true, decide_eq_true_eq] at *
  exact ⟨spSorted_filter _ h.1, fun p hp => h.2 p ((List.mem_filter.1 hp).1)⟩

/-- Removing entries keeps the canonical form. -/
@[simp] theorem wf_filter [DecidableEq α] {d : Nat → α} {m : Sparse α} (f : Nat × α → Bool)
    (h : Memory.wf d m = true) : Memory.wf d (m.filter f) = true := by
  simp only [Memory.wf, Bool.and_eq_true, List.all_eq_true, decide_eq_true_eq] at *
  exact ⟨spSorted_filter _ h.1, fun p hp => h.2 p ((List.mem_filter.1 hp).1)⟩

theorem spSorted_map {m : Sparse α} {lo : Nat} (f : Nat → α → α) (h : spSorted m lo = true) :
    spSorted (m.map (fun p => (p.1, f p.1 p.2))) lo = true := by
  induction m generalizing lo with
  | nil => rfl
  | cons p t ih =>
    obtain ⟨k, v⟩ := p
    simp only [spSorted, Bool.and_eq_true, decide_eq_true_eq, List.map_cons] at h ⊢
    exact ⟨h.1, ih h.2⟩

/-- Changing every entry keeps the canonical form. -/
@[simp] theorem wf_spMap [DecidableEq α] {d : Nat → α} {m : Sparse α} (f : Nat → α → α)
    (h : Memory.wf d m = true) : Memory.wf d (spMap d m f) = true := by
  simp only [Memory.wf, spMap, Bool.and_eq_true, List.all_eq_true] at *
  exact ⟨spSorted_filter _ (spSorted_map f h.1), fun p hp => (List.mem_filter.1 hp).2⟩

/-- Writing a run keeps the canonical form. -/
@[simp] theorem wf_spSetRun [DecidableEq α] {d : Nat → α} {m : Sparse α} (k : Nat) (vs : List α)
    (h : Memory.wf d m = true) : Memory.wf d (spSetRun d m k vs) = true := by
  induction vs generalizing m k with
  | nil => exact h
  | cons v t ih => exact ih _ (wf_spSet k v h)

@[simp] theorem wf_nil [DecidableEq α] (d : Nat → α) : Memory.wf d ([] : Sparse α) = true := rfl

/-- A read after a write to the same key gives the value written. -/
@[simp] theorem spGet_spSet_same [DecidableEq α] {d : Nat → α} {m : Sparse α} (k : Nat) (v : α)
    (h : Memory.wf d m = true) : spGet d (spSet d m k v) k = v := by
  simp only [Memory.wf, Bool.and_eq_true] at h
  unfold spSet
  split
  · rename_i hv
    rw [spGet_spErase_same h.1, hv]
  · exact spGet_spInsert_same m k v

/-- A write leaves every other key alone. -/
@[simp] theorem spGet_spSet_other [DecidableEq α] {d : Nat → α} (m : Sparse α) {k j : Nat} (v : α) (hj : j ≠ k) :
    spGet d (spSet d m k v) j = spGet d m j := by
  unfold spSet
  split
  · exact spGet_spErase_other m hj
  · exact spGet_spInsert_other m v hj

end Sys2Proof.Laws
end

