-- ==== Sys2Proof/Laws/Evolves.lean ====
section
/-! SUPPORT. The relation `Ev m` says that a state follows from another by `Evolves` and that only the parts in the set `m`
differ; a set of parts is a number with one bit for each. It is closed under every elementary update of the state and every way in
which the definitions put changes together; the files Laws/Ev*.lean say it once for each operation and each command. -/

namespace Sys2Proof.Laws

open Sys2Proof.Machine

/-- The bit of a part in a set of parts. -/
def bitOf : Component → Nat
  | .time => 0x1
  | .regs => 0x2
  | .hi => 0x4
  | .readData => 0x8
  | .freeCtr => 0x10
  | .evt => 0x20
  | .chan => 0x40
  | .locks => 0x80
  | .hub => 0x100
  | .sched => 0x200
  | .out => 0x400
  | .nv => 0x800
  | .tr => 0x1000
  | .md => 0x2000
  | .lg => 0x4000
  | .slots => 0x8000
  | .rg => 0x10000
  | .dr => 0x20000
  | .bf => 0x40000
  | .bt => 0x80000
  | .sv => 0x100000
  | .ts => 0x200000

/-- The set of a list of parts. -/
def maskOf (ps : List Component) : Nat := ps.foldr (fun p m => bitOf p ||| m) 0

/-- `t` follows from `s`, and they differ in no part outside `m`. -/
structure Ev (m : Nat) (s t : State) : Prop where
  ev : Evolves s t
  only : ∀ p, bitOf p &&& m = 0 → p.same s t

theorem ev_refl (m : Nat) (s : State) : Ev m s s :=
  ⟨⟨rfl, rfl, Nat.le_refl _, List.prefix_rfl, id⟩, fun p _ => by cases p <;> rfl⟩

theorem same_trans {s t u : State} {p : Component} (h : p.same s t) (k : p.same t u) : p.same s u := by
  cases p <;> exact Eq.trans k h

theorem ev_trans {m : Nat} {s t u : State} (h : Ev m s t) (k : Ev m t u) : Ev m s u :=
  ⟨⟨k.ev.variant.trans h.ev.variant, k.ev.pending.trans h.ev.pending, Nat.le_trans h.ev.free k.ev.free,
    h.ev.out.trans k.ev.out, fun i => k.ev.inv (h.ev.inv i)⟩, fun p hp => same_trans (h.only p hp) (k.only p hp)⟩

/-- The bit of a part outside the set `m` is outside every set that `m` contains. -/
theorem outside {a m b : Nat} (hm : a ||| m = m) (hb : b &&& m = 0) : b &&& a = 0 := by
  apply Nat.eq_of_testBit_eq
  intro i
  have h1 := congrArg (fun n => n.testBit i) hm
  have h2 := congrArg (fun n => n.testBit i) hb
  simp only [Nat.testBit_or, Nat.testBit_and, Nat.zero_testBit] at h1 h2 ⊢
  cases ha : a.testBit i <;> cases hx : b.testBit i <;> simp_all

/-- A set inside a set that `m` contains is inside `m`. -/
theorem sub {a b m : Nat} (hm : b ||| m = m) (ha : a ||| b = b) : a ||| m = m := by
  rw [← hm, ← Nat.or_assoc, ha]

variable {m : Nat} {s t : State}

theorem mask_out {ps : List Component} {p : Component} (hn : p ∉ ps) : bitOf p &&& maskOf ps = 0 := by
  induction ps with
  | nil => exact Nat.and_zero _
  | cons q ps ih =>
    simp only [List.mem_cons, not_or] at hn
    have h2 : bitOf p &&& bitOf q = 0 := by
      have := hn.1
      revert this
      cases p <;> cases q <;> decide
    show bitOf p &&& (bitOf q ||| maskOf ps) = 0
    rw [Nat.and_or_distrib_left, ih hn.2, h2, Nat.or_self]

theorem ev_only {ps : List Component} (h : Ev m s t) (hp : maskOf ps = m) : s.OnlyIn ps t :=
  ⟨h.ev.variant, h.ev.pending, fun p hn => h.only p (by rw [← hp]; exact mask_out hn)⟩

theorem ev_mono {a : Nat} (h : Ev a s t) (hm : a ||| m = m) : Ev m s t := ⟨h.ev, fun p hp => h.only p (outside hm hp)⟩

/-! ### One field set -/

theorem ev_mk_time (h : Ev m s t) (x : Time) (hm : 0x1 ||| m = m) : Ev m s { t with time := x } :=
  ⟨⟨h.ev.variant, h.ev.pending, h.ev.free, h.ev.out, fun i => let j := h.ev.inv i; { j with regs := j.regs }⟩, fun p hp => by
    have k := outside hm hp
    cases p <;> first | exact h.only _ hp | exact absurd k (by decide)⟩

theorem ev_mk_hi (h : Ev m s t) (x : Sparse Nat) (hm : 0x4 ||| m = m) : Ev m s { t with hi := x } :=
  ⟨⟨h.ev.variant, h.ev.pending, h.ev.free, h.ev.out, fun i => let j := h.ev.inv i; { j with regs := j.regs }⟩, fun p hp => by
    have k := outside hm hp
    cases p <;> first | exact h.only _ hp | exact absurd k (by decide)⟩

theorem ev_mk_readData (h : Ev m s t) (x : Nat) (hm : 0x8 ||| m = m) : Ev m s { t with readData := x } :=
  ⟨⟨h.ev.variant, h.ev.pending, h.ev.free, h.ev.out, fun i => let j := h.ev.inv i; { j with regs := j.regs }⟩, fun p hp => by
    have k := outside hm hp
    cases p <;> first | exact h.only _ hp | exact absurd k (by decide)⟩

theorem ev_mk_hub (h : Ev m s t) (x : Hub) (hm : 0x100 ||| m = m) : Ev m s { t with hub := x } :=
  ⟨⟨h.ev.variant, h.ev.pending, h.ev.free, h.ev.out, fun i => let j := h.ev.inv i; { j with regs := j.regs }⟩, fun p hp => by
    have k := outside hm hp
    cases p <;> first | exact h.only _ hp | exact absurd k (by decide)⟩

theorem ev_mk_sched (h : Ev m s t) (x : Sched) (hm : 0x200 ||| m = m) : Ev m s { t with sched := x } :=
  ⟨⟨h.ev.variant, h.ev.pending, h.ev.free, h.ev.out, fun i => let j := h.ev.inv i; { j with regs := j.regs }⟩, fun p hp => by
    have k := outside hm hp
    cases p <;> first | exact h.only _ hp | exact absurd k (by decide)⟩

theorem ev_mk_slots (h : Ev m s t) (x : List Slot) (hm : 0x8000 ||| m = m) : Ev m s { t with slots := x } :=
  ⟨⟨h.ev.variant, h.ev.pending, h.ev.free, h.ev.out, fun i => let j := h.ev.inv i; { j with regs := j.regs }⟩, fun p hp => by
    have k := outside hm hp
    cases p <;> first | exact h.only _ hp | exact absurd k (by decide)⟩

theorem ev_mk_sv (h : Ev m s t) (x : Svc) (hm : 0x100000 ||| m = m) : Ev m s { t with sv := x } :=
  ⟨⟨h.ev.variant, h.ev.pending, h.ev.free, h.ev.out, fun i => let j := h.ev.inv i; { j with regs := j.regs }⟩, fun p hp => by
    have k := outside hm hp
    cases p <;> first | exact h.only _ hp | exact absurd k (by decide)⟩

theorem ev_mk_ts (h : Ev m s t) (x : Option TestRun) (hm : 0x200000 ||| m = m) : Ev m s { t with ts := x } :=
  ⟨⟨h.ev.variant, h.ev.pending, h.ev.free, h.ev.out, fun i => let j := h.ev.inv i; { j with regs := j.regs }⟩, fun p hp => by
    have k := outside hm hp
    cases p <;> first | exact h.only _ hp | exact absurd k (by decide)⟩

theorem ev_mk_freeCtr (h : Ev m s t) (hm : 0x10 ||| m = m) : Ev m s { t with freeCtr := t.freeCtr + 1 } :=
  ⟨⟨h.ev.variant, h.ev.pending, Nat.le_succ_of_le h.ev.free, h.ev.out, fun i => let j := h.ev.inv i; { j with regs := j.regs }⟩, fun p hp => by
    have k := outside hm hp
    cases p <;> first | exact h.only _ hp | exact absurd k (by decide)⟩

theorem ev_mk_regs (h : Ev m s t) (k : Nat) (w : Word) (hm : 0x2 ||| m = m) : Ev m s { t with regs := spSet regDefault t.regs k w } :=
  ⟨⟨h.ev.variant, h.ev.pending, h.ev.free, h.ev.out, fun i => let j := h.ev.inv i; { j with regs := wf_spSet k w j.regs }⟩, fun p hp => by
    have k := outside hm hp
    cases p <;> first | exact h.only _ hp | exact absurd k (by decide)⟩

theorem ev_mk_out (h : Ev m s t) (o : Out) (hm : 0x400 ||| m = m) : Ev m s { t with out := t.out ++ [o] } :=
  ⟨⟨h.ev.variant, h.ev.pending, h.ev.free, h.ev.out.trans (List.prefix_append _ _), fun i => let j := h.ev.inv i; { j with regs := j.regs }⟩, fun p hp => by
    have k := outside hm hp
    cases p <;> first | exact h.only _ hp | exact absurd k (by decide)⟩

theorem ev_mk_lg (h : Ev m s t) (x : Ledger) (hx : Memory.wf (fun _ => 0) t.lg.words = true → Memory.wf (fun _ => 0) x.words = true)
    (hm : 0x4000 ||| m = m) : Ev m s { t with lg := x } :=
  ⟨⟨h.ev.variant, h.ev.pending, h.ev.free, h.ev.out, fun i => let j := h.ev.inv i; { j with words := hx j.words }⟩, fun p hp => by
    have k := outside hm hp
    cases p <;> first | exact h.only _ hp | exact absurd k (by decide)⟩

theorem ev_mk_bt (h : Ev m s t) (x : Boot) (hx : Memory.wf (fun _ => ArrWord.init) t.bt.arr = true → Memory.wf (fun _ => ArrWord.init) x.arr = true)
    (hm : 0x80000 ||| m = m) : Ev m s { t with bt := x } :=
  ⟨⟨h.ev.variant, h.ev.pending, h.ev.free, h.ev.out, fun i => let j := h.ev.inv i; { j with arr := hx j.arr }⟩, fun p hp => by
    have k := outside hm hp
    cases p <;> first | exact h.only _ hp | exact absurd k (by decide)⟩

theorem ev_mk_tr (h : Ev m s t) (x : Trans) (hx : Memory.wf (fun _ => MapEntry.init) t.tr.map = true → Memory.wf (fun _ => MapEntry.init) x.map = true)
    (hm : 0x1000 ||| m = m) : Ev m s { t with tr := x } :=
  ⟨⟨h.ev.variant, h.ev.pending, h.ev.free, h.ev.out, fun i => let j := h.ev.inv i; { j with map := hx j.map }⟩, fun p hp => by
    have k := outside hm hp
    cases p <;> first | exact h.only _ hp | exact absurd k (by decide)⟩

theorem ev_mk_md (h : Ev m s t) (x : Media) (hx : Media.Wf t.md → Media.Wf x)
    (hm : 0x2000 ||| m = m) : Ev m s { t with md := x } :=
  ⟨⟨h.ev.variant, h.ev.pending, h.ev.free, h.ev.out, fun i => let j := h.ev.inv i; { j with media := hx j.media }⟩, fun p hp => by
    have k := outside hm hp
    cases p <;> first | exact h.only _ hp | exact absurd k (by decide)⟩

theorem ev_mk_dr (h : Ev m s t) (x : Dram) (hx : Memory.wf (fun _ => 0) t.dr.cmb = true → Memory.wf (fun _ => 0) x.cmb = true)
    (hm : 0x20000 ||| m = m) : Ev m s { t with dr := x } :=
  ⟨⟨h.ev.variant, h.ev.pending, h.ev.free, h.ev.out, fun i => let j := h.ev.inv i; { j with cmb := hx j.cmb }⟩, fun p hp => by
    have k := outside hm hp
    cases p <;> first | exact h.only _ hp | exact absurd k (by decide)⟩

theorem ev_mk_evt (h : Ev m s t) (x : Evt) (hx : t.evt.queue.length ≤ 512 → x.queue.length ≤ 512)
    (hm : 0x20 ||| m = m) : Ev m s { t with evt := x } :=
  ⟨⟨h.ev.variant, h.ev.pending, h.ev.free, h.ev.out, fun i => let j := h.ev.inv i; { j with queue := hx j.queue }⟩, fun p hp => by
    have k := outside hm hp
    cases p <;> first | exact h.only _ hp | exact absurd k (by decide)⟩

theorem ev_mk_chan (h : Ev m s t) (x : Sparse Chan) (hx : Memory.wf (fun _ => Chan.init) t.chan = true → Memory.wf (fun _ => Chan.init) x = true)
    (hm : 0x40 ||| m = m) : Ev m s { t with chan := x } :=
  ⟨⟨h.ev.variant, h.ev.pending, h.ev.free, h.ev.out, fun i => let j := h.ev.inv i; { j with chan := hx j.chan }⟩, fun p hp => by
    have k := outside hm hp
    cases p <;> first | exact h.only _ hp | exact absurd k (by decide)⟩

theorem ev_mk_locks (h : Ev m s t) (x : Sparse Nat) (hx : Memory.wf (fun _ => 0) t.locks = true → Memory.wf (fun _ => 0) x = true)
    (hm : 0x80 ||| m = m) : Ev m s { t with locks := x } :=
  ⟨⟨h.ev.variant, h.ev.pending, h.ev.free, h.ev.out, fun i => let j := h.ev.inv i; { j with locks := hx j.locks }⟩, fun p hp => by
    have k := outside hm hp
    cases p <;> first | exact h.only _ hp | exact absurd k (by decide)⟩

theorem ev_mk_nv (h : Ev m s t) (x : Nvme) (hx : Memory.wf (fun _ => Fn.init) t.nv.fns = true → Memory.wf (fun _ => Fn.init) x.fns = true)
    (hm : 0x800 ||| m = m) : Ev m s { t with nv := x } :=
  ⟨⟨h.ev.variant, h.ev.pending, h.ev.free, h.ev.out, fun i => let j := h.ev.inv i; { j with fns := hx j.fns }⟩, fun p hp => by
    have k := outside hm hp
    cases p <;> first | exact h.only _ hp | exact absurd k (by decide)⟩

theorem ev_mk_rg (h : Ev m s t) (x : Regul) (hx : Regul.Wf t.rg → Regul.Wf x)
    (hm : 0x10000 ||| m = m) : Ev m s { t with rg := x } :=
  ⟨⟨h.ev.variant, h.ev.pending, h.ev.free, h.ev.out, fun i => let j := h.ev.inv i; { j with regul := hx j.regul }⟩, fun p hp => by
    have k := outside hm hp
    cases p <;> first | exact h.only _ hp | exact absurd k (by decide)⟩

theorem ev_mk_bf (h : Ev m s t) (x : Bufs) (hx : Memory.wf (fun _ => BufRec.init) t.bf.recs = true → Memory.wf (fun _ => BufRec.init) x.recs = true)
    (hm : 0x40000 ||| m = m) : Ev m s { t with bf := x } :=
  ⟨⟨h.ev.variant, h.ev.pending, h.ev.free, h.ev.out, fun i => let j := h.ev.inv i; { j with recs := hx j.recs }⟩, fun p hp => by
    have k := outside hm hp
    cases p <;> first | exact h.only _ hp | exact absurd k (by decide)⟩

/-! ### Ways of putting changes together -/

theorem ev_foldl {α : Type} (h : Ev m s t) (l : List α) (f : State → α → State)
    (hf : ∀ u a, Ev m s u → Ev m s (f u a)) : Ev m s (l.foldl f t) :=
  List.foldlRecOn l f h (fun u hu a _ => hf u a hu)

theorem ev_each {α : Type} (h : Ev m s t) (l : List α) (f : State → α → State)
    (hf : ∀ u a, Ev m s u → Ev m s (f u a)) : Ev m s (t.each l f) := ev_foldl h l f hf

theorem ev_when (h : Ev m s t) (c : Bool) (f : State → State)
    (hf : ∀ u, Ev m s u → Ev m s (f u)) : Ev m s (t.when c f) := by
  cases c
  · exact h
  · exact hf t h

/-- A fold that may stop without a state. -/
theorem ev_foldl_opt {α : Type} (l : List α) (f : Option State → α → Option State) (o : Option State)
    (ho : ∀ u, o = some u → Ev m s u)
    (hf : ∀ o a, (∀ u, o = some u → Ev m s u) → ∀ u, f o a = some u → Ev m s u) :
    ∀ u, l.foldl f o = some u → Ev m s u :=
  List.foldlRecOn (motive := fun o => ∀ u, o = some u → Ev m s u) l f ho (fun o ho a _ => hf o a ho)

theorem ev_getD (h : Ev m s t) {o : Option State} (ho : ∀ u, o = some u → Ev m s u) : Ev m s (o.getD t) := by
  cases o
  · exact h
  · exact ho _ rfl

/-- A fold over a state and something beside it. -/
theorem ev_foldl_snd {α β : Type} (l : List α) (f : β × State → α → β × State)
    (hf : ∀ p a, Ev m s p.2 → Ev m s (f p a).2) (p : β × State) (hp : Ev m s p.2) : Ev m s (l.foldl f p).2 :=
  List.foldlRecOn (motive := fun p => Ev m s p.2) l f hp (fun p hp a _ => hf p a hp)

theorem ev_foldl_fst {α β : Type} (l : List α) (f : State × β → α → State × β)
    (hf : ∀ p a, Ev m s p.1 → Ev m s (f p a).1) (p : State × β) (hp : Ev m s p.1) : Ev m s (l.foldl f p).1 :=
  List.foldlRecOn (motive := fun p => Ev m s p.1) l f hp (fun p hp a _ => hf p a hp)

end Sys2Proof.Laws
end

