-- ==== Sys2Proof/Laws/EvOps.lean ====
section
/-! SUPPORT. How the state evolves under the operations and commands of registers, cores, events, the hub, the scheduler,
    queues, buffers and loops: one law for each, over the laws of Evolves.lean. -/

namespace Sys2Proof.Laws

open Sys2Proof Sys2Proof.Machine

variable {m : Nat} {s t : State}

/-! ### Ops.lean -/

theorem ev_setReg (h : Ev m s t) (a1 : Half) (a2 : Nat) (a3 : Nat) (a4 : Word)
    (hm : 0x2 ||| m = m) : Ev m s (State.setReg t a1 a2 a3 a4) := by
  unfold State.setReg
  repeat' (first | with_reducible assumption | exact sub hm (by decide) | with_reducible exact fun hw => hw |
                    with_reducible exact fun hw => wf_spSet _ _ hw | with_reducible exact fun hw => wf_spSetRun _ _ hw |
                    (intro u a hu) | (intro u hu) | split | dsimp only | (intro x) | with_reducible apply ev_mk_regs)

theorem ev_wr (h : Ev m s t) (a1 : Fd) (a2 : Nat) (a3 : optParam Nat 0) (a4 : optParam Half Half.a)
    (hm : 0x2 ||| m = m) : Ev m s (State.wr t a1 a2 a3 a4) := by
  unfold State.wr
  repeat' (first | with_reducible assumption | exact sub hm (by decide) | with_reducible apply ev_setReg | (intro u a hu) |
                    (intro u hu) | split | dsimp only | (intro x))

theorem ev_count (h : Ev m s t) (a1 : Fd) (a2 : optParam Nat 1) (a3 : optParam Nat 0) (a4 : optParam Half Half.a)
    (hm : 0x2 ||| m = m) : Ev m s (State.count t a1 a2 a3 a4) := by
  unfold State.count
  repeat' (first | with_reducible assumption | exact sub hm (by decide) | with_reducible apply ev_wr | (intro u a hu) |
                    (intro u hu) | split | dsimp only | (intro x))

theorem ev_setDom (h : Ev m s t) (a1 : Nat) (a2 : Nat)
    (hm : 0x2 ||| m = m) : Ev m s (State.setDom t a1 a2) := by
  unfold State.setDom
  repeat' (first | with_reducible assumption | exact sub hm (by decide) | with_reducible apply ev_wr |
                    with_reducible apply ev_count | (intro u a hu) | (intro u hu) | split | dsimp only | (intro x))

theorem ev_setHalfDoms (h : Ev m s t) (a1 : Half) (a2 : Nat)
    (hm : 0x2 ||| m = m) : Ev m s (State.setHalfDoms t a1 a2) := by
  unfold State.setHalfDoms
  repeat' (first | with_reducible assumption | exact sub hm (by decide) | with_reducible apply ev_setDom |
                    with_reducible apply ev_each | (intro u a hu) | (intro u hu) | split | dsimp only | (intro x))

theorem ev_wakeHalf (h : Ev m s t) (a1 : Half)
    (hm : 0x2 ||| m = m) : Ev m s (State.wakeHalf t a1) := by
  unfold State.wakeHalf
  repeat' (first | with_reducible assumption | exact sub hm (by decide) | with_reducible exact fun hw => wf_filter _ hw |
                    with_reducible apply ev_setDom | with_reducible apply ev_each | (intro u a hu) | (intro u hu) | split |
                    dsimp only | (intro x))

theorem ev_updHub (h : Ev m s t) (a1 : Hub → Hub)
    (hm : 0x100 ||| m = m) : Ev m s (State.updHub t a1) := by
  unfold State.updHub
  repeat' (first | with_reducible assumption | exact sub hm (by decide) | with_reducible exact fun hw => hw | (intro u a hu) |
                    (intro u hu) | split | dsimp only | (intro x) | with_reducible apply ev_mk_hub)

theorem ev_updHalf (h : Ev m s t) (a1 : Half) (a2 : HalfRec → HalfRec)
    (hm : 0x100 ||| m = m) : Ev m s (State.updHalf t a1 a2) := by
  unfold State.updHalf
  repeat' (first | with_reducible assumption | exact sub hm (by decide) | with_reducible apply ev_updHub | (intro u a hu) |
                    (intro u hu) | split | dsimp only | (intro x))

theorem ev_free (h : Ev m s t)
    (hm : 0x10 ||| m = m) : Ev m s (State.free t).2 := ev_mk_freeCtr h hm

theorem ev_free_eq  (h : Ev m s t)   (v : Nat) (u : State)
    (e : State.free t = (v, u))
    (hm : 0x10 ||| m = m) : Ev m s u := by
  have k := ev_free h   hm; rw [e] at k; exact k

theorem ev_emit (h : Ev m s t) (a1 : Out)
    (hm : 0x400 ||| m = m) : Ev m s (State.emit t a1) := by
  unfold State.emit
  repeat' (first | with_reducible assumption | exact sub hm (by decide) | with_reducible exact fun hw => hw | (intro u a hu) |
                    (intro u hu) | split | dsimp only | (intro x) | with_reducible apply ev_mk_out)

theorem ev_updFn (h : Ev m s t) (a1 : Nat) (a2 : Fn → Fn)
    (hm : 0x800 ||| m = m) : Ev m s (State.updFn t a1 a2) := by
  unfold State.updFn
  repeat' (first | with_reducible assumption | exact sub hm (by decide) | with_reducible exact fun hw => hw |
                    with_reducible exact fun hw => wf_spSet _ _ hw | with_reducible exact fun hw => wf_spSetRun _ _ hw |
                    (intro u a hu) | (intro u hu) | split | dsimp only | (intro x) | with_reducible apply ev_mk_nv)

theorem ev_aerLog (h : Ev m s t) (a1 : Nat) (a2 : AerErr)
    (hm : 0xc00 ||| m = m) : Ev m s (State.aerLog t a1 a2) := by
  unfold State.aerLog
  repeat' (first | with_reducible assumption | exact sub hm (by decide) | with_reducible apply ev_updFn |
                    with_reducible apply ev_emit | (intro u a hu) | (intro u hu) | split | dsimp only | (intro x))

theorem ev_aer (h : Ev m s t) (a1 : Nat) (a2 : AerErr)
    (hm : 0xc00 ||| m = m) : Ev m s (State.aer t a1 a2) := by
  unfold State.aer
  repeat' (first | with_reducible assumption | exact sub hm (by decide) | with_reducible apply ev_aerLog |
                    with_reducible apply ev_when | (intro u a hu) | (intro u hu) | split | dsimp only | (intro x))

theorem ev_aerPfs (h : Ev m s t) (a1 : AerErr)
    (hm : 0xc00 ||| m = m) : Ev m s (State.aerPfs t a1) := by
  unfold State.aerPfs
  repeat' (first | with_reducible assumption | exact sub hm (by decide) | with_reducible apply ev_aer |
                    with_reducible apply ev_each | (intro u a hu) | (intro u hu) | split | dsimp only | (intro x))

theorem ev_updEvt (h : Ev m s t) (f : Evt → Evt)
    (hf : t.evt.queue.length ≤ 512 → (f t.evt).queue.length ≤ 512)
    (hm : 0x20 ||| m = m) : Ev m s (t.updEvt f) := ev_mk_evt h _ hf hm

theorem ev_submit (h : Ev m s t) (a1 : Nat) (a2 : Nat) (a3 : Nat) (a4 : List Nat)
    (hm : 0x22 ||| m = m) : Ev m s (State.submit t a1 a2 a3 a4).2 := by
  have key : ∀ x : State, Ev m s x → Ev m s (if x.evt.queue.length < 512 then
      (1, x.updEvt (fun e => { e with queue := e.queue ++ [⟨x.time.beat, a3, a1, a2, 0, a4⟩] }))
      else (3, (x.updEvt (fun e => { e with lost := e.lost + 1 })).count Fd.EVT_CNT_LOST_COUNT)).2 := by
    intro x hx
    split
    · rename_i hq
      refine ev_updEvt hx (fun e => { e with queue := e.queue ++ [⟨x.time.beat, a3, a1, a2, 0, a4⟩] }) (fun _ => ?_)
        (sub hm (by decide))
      simp only [List.length_append, List.length_cons, List.length_nil]
      omega
    · exact ev_count (ev_updEvt hx _ (fun hl => hl) (sub hm (by decide))) _ _ _ _ (sub hm (by decide))
  unfold State.submit
  split
  · exact h
  · split
    · exact ev_count (ev_updEvt h _ (fun hl => hl) (sub hm (by decide))) _ _ _ _ (sub hm (by decide))
    · refine key _ ?_
      split
      · exact h
      · exact ev_updEvt h _ (fun hl => hl) (sub hm (by decide))

theorem ev_submit_eq  (h : Ev m s t) (a1 : Nat) (a2 : Nat) (a3 : Nat) (a4 : List Nat)  (v : Nat) (u : State)
    (e : State.submit t a1 a2 a3 a4 = (v, u))
    (hm : 0x22 ||| m = m) : Ev m s u := by
  have k := ev_submit h a1 a2 a3 a4  hm; rw [e] at k; exact k

theorem ev_hev (h : Ev m s t) (a1 : Nat) (a2 : List Nat)
    (hm : 0x22 ||| m = m) : Ev m s (State.hev t a1 a2) := by
  unfold State.hev
  repeat' (first | with_reducible assumption | exact sub hm (by decide) | with_reducible apply ev_submit |
                    (refine ev_submit_eq ?_ _ _ _ _ _ _ (by with_reducible assumption) ?_) | (intro u a hu) | (intro u hu) |
                    split | dsimp only | (intro x))

theorem ev_uev (h : Ev m s t) (a1 : Half) (a2 : Nat) (a3 : Nat) (a4 : List Nat)
    (hm : 0x22 ||| m = m) : Ev m s (State.uev t a1 a2 a3 a4) := by
  unfold State.uev
  repeat' (first | with_reducible assumption | exact sub hm (by decide) | with_reducible apply ev_submit |
                    (refine ev_submit_eq ?_ _ _ _ _ _ _ (by with_reducible assumption) ?_) | (intro u a hu) | (intro u hu) |
                    split | dsimp only | (intro x))

theorem ev_aev (h : Ev m s t) (a1 : Nat) (a2 : Nat) (a3 : List Nat)
    (hm : 0x22 ||| m = m) : Ev m s (State.aev t a1 a2 a3) := by
  unfold State.aev
  repeat' (first | with_reducible assumption | exact sub hm (by decide) | with_reducible apply ev_uev |
                    with_reducible apply ev_hev | (intro u a hu) | (intro u hu) | split | dsimp only | (intro x))

theorem ev_discarded (h : Ev m s t) (a1 : Half) (a2 : Nat) (a3 : Nat) (a4 : Nat) (a5 : Nat)
    (hm : 0x22 ||| m = m) : Ev m s (State.discarded t a1 a2 a3 a4 a5) := by
  unfold State.discarded
  repeat' (first | with_reducible assumption | exact sub hm (by decide) | with_reducible apply ev_submit |
                    (refine ev_submit_eq ?_ _ _ _ _ _ _ (by with_reducible assumption) ?_) | (intro u a hu) | (intro u hu) |
                    split | dsimp only | (intro x))

/-! ### Cores.lean -/

theorem ev_setChannel (h : Ev m s t) (a1 : Half) (a2 : Nat) (a3 : Nat) (a4 : Chan)
    (hm : 0x40 ||| m = m) : Ev m s (State.setChannel t a1 a2 a3 a4) := by
  unfold State.setChannel
  repeat' (first | with_reducible assumption | exact sub hm (by decide) | with_reducible exact fun hw => hw |
                    with_reducible exact fun hw => wf_spSet _ _ hw | with_reducible exact fun hw => wf_spSetRun _ _ hw |
                    (intro u a hu) | (intro u hu) | split | dsimp only | (intro x) | with_reducible apply ev_mk_chan)

theorem ev_emptyChimes (h : Ev m s t) (a1 : Half)
    (hm : 0x40 ||| m = m) : Ev m s (State.emptyChimes t a1) := by
  unfold State.emptyChimes
  repeat' (first | with_reducible assumption | exact sub hm (by decide) | with_reducible exact fun hw => hw |
                    with_reducible exact fun hw => wf_spClear _ _ hw | (intro u a hu) | (intro u hu) | split | dsimp only |
                    (intro x) | with_reducible apply ev_mk_chan)

theorem ev_refuseChime (h : Ev m s t) (a1 : Half) (a2 : Nat) (a3 : Nat) (a4 : Nat) (a5 : Nat)
    (hm : 0x22 ||| m = m) : Ev m s (State.refuseChime t a1 a2 a3 a4 a5) := by
  unfold State.refuseChime
  repeat' (first | with_reducible assumption | exact sub hm (by decide) | with_reducible apply ev_uev |
                    with_reducible apply ev_count | (intro u a hu) | (intro u hu) | split | dsimp only | (intro x))

theorem ev_chimeSend (h : Ev m s t) (a1 : Half) (a2 : Nat) (a3 : Nat)
    (hm : 0x42 ||| m = m) : Ev m s (State.chimeSend t a1 a2 a3) := by
  unfold State.chimeSend
  repeat' (first | with_reducible assumption | exact sub hm (by decide) | with_reducible apply ev_wr |
                    with_reducible apply ev_count | with_reducible apply ev_setChannel | (intro u a hu) | (intro u hu) |
                    split | dsimp only | (intro x))

theorem ev_chimeTx (h : Ev m s t) (a1 : Half) (a2 : Nat) (a3 : Nat) (a4 : Nat)
    (hm : 0x62 ||| m = m) : Ev m s (State.chimeTx t a1 a2 a3 a4) := by
  unfold State.chimeTx
  repeat' (first | with_reducible assumption | exact sub hm (by decide) | with_reducible apply ev_chimeSend |
                    with_reducible apply ev_refuseChime | (intro u a hu) | (intro u hu) | split | dsimp only | (intro x))

theorem ev_chimeRx (h : Ev m s t) (a1 : Half) (a2 : Nat) (a3 : Nat) (a4 : Bool)
    (hm : 0x62 ||| m = m) : Ev m s (State.chimeRx t a1 a2 a3 a4) := by
  unfold State.chimeRx
  repeat' (first | with_reducible assumption | exact sub hm (by decide) | with_reducible apply ev_setChannel |
                    with_reducible apply ev_refuseChime | (intro u a hu) | (intro u hu) | split | dsimp only | (intro x))

theorem ev_execChimeSend (h : Ev m s t) (a0 : Half) (a1 : Nat) (a2 : Nat) (a3 : Nat) (u : State) (hu : execChimeSend a0 a1
    a2 a3 t = .next u)
    (hm : 0x62 ||| m = m) : Ev m s u := by
  unfold execChimeSend at hu; injection hu with hu; subst hu
  repeat' (first | with_reducible assumption | exact sub hm (by decide) | with_reducible apply ev_chimeTx | (intro u a hu) |
                    (intro u hu) | split | dsimp only | (intro x))

theorem ev_execChimeAck (h : Ev m s t) (a0 : Half) (a1 : Nat) (a2 : Nat) (a3 : Bool) (u : State) (hu : execChimeAck a0 a1 a2
    a3 t = .next u)
    (hm : 0x62 ||| m = m) : Ev m s u := by
  unfold execChimeAck at hu; injection hu with hu; subst hu
  repeat' (first | with_reducible assumption | exact sub hm (by decide) | with_reducible apply ev_chimeRx | (intro u a hu) |
                    (intro u hu) | split | dsimp only | (intro x))

theorem ev_setLock (h : Ev m s t) (a1 : Half) (a2 : Nat) (a3 : Option Nat)
    (hm : 0x80 ||| m = m) : Ev m s (State.setLock t a1 a2 a3) := by
  unfold State.setLock
  repeat' (first | with_reducible assumption | exact sub hm (by decide) | with_reducible exact fun hw => hw |
                    with_reducible exact fun hw => wf_spSet _ _ hw | with_reducible exact fun hw => wf_spSetRun _ _ hw |
                    (intro u a hu) | (intro u hu) | split | dsimp only | (intro x) | with_reducible apply ev_mk_locks)

theorem ev_freeLocks (h : Ev m s t) (a1 : Half)
    (hm : 0x80 ||| m = m) : Ev m s (State.freeLocks t a1) := by
  unfold State.freeLocks
  repeat' (first | with_reducible assumption | exact sub hm (by decide) | with_reducible exact fun hw => hw |
                    with_reducible exact fun hw => wf_spClear _ _ hw | (intro u a hu) | (intro u hu) | split | dsimp only |
                    (intro x) | with_reducible apply ev_mk_locks)

theorem ev_readLock (h : Ev m s t) (a1 : Half) (a2 : Nat) (a3 : Nat)
    (hm : 0x8a ||| m = m) : Ev m s (State.readLock t a1 a2 a3) := by
  unfold State.readLock
  repeat' (first | with_reducible assumption | exact sub hm (by decide) | with_reducible exact fun hw => hw |
                    with_reducible apply ev_setLock | with_reducible apply ev_count | (intro u a hu) | (intro u hu) | split |
                    dsimp only | (intro x) | with_reducible apply ev_mk_readData)

theorem ev_releaseLock (h : Ev m s t) (a1 : Half) (a2 : Nat) (a3 : Nat) (a4 : Nat)
    (hm : 0xb2 ||| m = m) : Ev m s (State.releaseLock t a1 a2 a3 a4) := by
  unfold State.releaseLock
  repeat' (first | with_reducible assumption | exact sub hm (by decide) | with_reducible apply ev_setLock |
                    with_reducible apply ev_uev | with_reducible apply ev_count | with_reducible apply ev_free |
                    (refine ev_free_eq ?_ _ _ (by with_reducible assumption) ?_) | (intro u a hu) | (intro u hu) | split |
                    dsimp only | (intro x))

theorem ev_forceLock (h : Ev m s t) (a1 : Half) (a2 : Nat) (a3 : Nat)
    (hm : 0x1b2 ||| m = m) : Ev m s (State.forceLock t a1 a2 a3) := by
  unfold State.forceLock
  repeat' (first | with_reducible assumption | exact sub hm (by decide) | with_reducible apply ev_discarded |
                    with_reducible apply ev_wr | with_reducible apply ev_uev | with_reducible apply ev_count |
                    with_reducible apply ev_updHalf | with_reducible apply ev_setLock | with_reducible apply ev_free |
                    (refine ev_free_eq ?_ _ _ (by with_reducible assumption) ?_) | (intro u a hu) | (intro u hu) | split |
                    dsimp only | (intro x))

theorem ev_execLockRead (h : Ev m s t) (a0 : Half) (a1 : Nat) (a2 : Nat) (u : State) (hu : execLockRead a0 a1 a2 t = .next u)
    (hm : 0x8a ||| m = m) : Ev m s u := by
  unfold execLockRead at hu; injection hu with hu; subst hu
  repeat' (first | with_reducible assumption | exact sub hm (by decide) | with_reducible exact fun hw => hw |
                    with_reducible apply ev_readLock | (intro u a hu) | (intro u hu) | split | dsimp only | (intro x) |
                    with_reducible apply ev_mk_readData)

theorem ev_execLockRelease (h : Ev m s t) (a0 : Half) (a1 : Nat) (a2 : Nat) (a3 : Nat) (u : State) (hu : execLockRelease a0
    a1 a2 a3 t = .next u)
    (hm : 0xb2 ||| m = m) : Ev m s u := by
  unfold execLockRelease at hu; injection hu with hu; subst hu
  repeat' (first | with_reducible assumption | exact sub hm (by decide) | with_reducible apply ev_releaseLock |
                    (intro u a hu) | (intro u hu) | split | dsimp only | (intro x))

theorem ev_execSemForce (h : Ev m s t) (a0 : Half) (a1 : Nat) (a2 : Nat) (u : State) (hu : execSemForce a0 a1 a2 t = .next u)
    (hm : 0x1b2 ||| m = m) : Ev m s u := by
  unfold execSemForce at hu; injection hu with hu; subst hu
  repeat' (first | with_reducible assumption | exact sub hm (by decide) | with_reducible apply ev_forceLock | (intro u a hu) |
                    (intro u hu) | split | dsimp only | (intro x))

/-! ### Events.lean -/

theorem ev_ledgerWrite (h : Ev m s t) (a1 : Nat) (a2 : List Word64)
    (hm : 0x4000 ||| m = m) : Ev m s (State.ledgerWrite t a1 a2) := by
  unfold State.ledgerWrite
  exact ev_mk_lg h _ (fun hw => wf_spSetRun _ _ hw) hm

theorem ev_takeRecord (h : Ev m s t)
    (hm : 0x4022 ||| m = m) : Ev m s (State.takeRecord t) := by
  unfold State.takeRecord
  split
  · exact h
  · rename_i r rest hq
    split
    · exact h
    · have h1 : Ev m s (t.updEvt (fun e => { e with
          queue := rest, seq := t.evt.seq + 1 })) :=
        ev_updEvt h _ (fun hl => by rw [hq] at hl; simp only [List.length_cons] at hl ⊢; omega) (sub hm (by decide))
      dsimp only
      repeat' (first | with_reducible assumption | exact sub hm (by decide) | with_reducible exact fun hw => hw |
                        with_reducible exact fun hw => ⟨hw.1, hw.2, hw.3⟩ | with_reducible apply ev_hev |
                        with_reducible apply ev_count | with_reducible apply ev_ledgerWrite | with_reducible apply ev_updEvt |
                        split)

theorem ev_submitByMaster (h : Ev m s t) (a1 : Half) (a2 : Nat) (a3 : Nat) (a4 : Nat)
    (hm : 0x22 ||| m = m) : Ev m s (State.submitByMaster t a1 a2 a3 a4) := by
  unfold State.submitByMaster
  repeat' (first | with_reducible assumption | exact sub hm (by decide) | with_reducible exact fun hw => ⟨hw.1, hw.2, hw.3⟩ |
                    with_reducible apply ev_discarded | with_reducible apply ev_wr | with_reducible apply ev_submit |
                    (refine ev_submit_eq ?_ _ _ _ _ _ _ (by with_reducible assumption) ?_) | (intro u a hu) | (intro u hu) |
                    split | dsimp only | (intro x))

theorem ev_refillTokens (h : Ev m s t)
    (hm : 0x20 ||| m = m) : Ev m s (State.refillTokens t) := by
  unfold State.refillTokens
  repeat' (first | with_reducible assumption | exact sub hm (by decide) | with_reducible exact fun hw => hw |
                    with_reducible exact fun hw => wf_spSet _ _ hw | with_reducible exact fun hw => wf_spSetRun _ _ hw |
                    with_reducible apply ev_updEvt | with_reducible apply ev_each | (intro u a hu) | (intro u hu) | split |
                    dsimp only | (intro x))

theorem ev_hourlyRecord (h : Ev m s t)
    (hm : 0x22 ||| m = m) : Ev m s (State.hourlyRecord t) := by
  unfold State.hourlyRecord
  repeat' (first | with_reducible assumption | exact sub hm (by decide) | with_reducible exact fun hw => hw |
                    with_reducible apply ev_updEvt | with_reducible apply ev_hev | (intro u a hu) | (intro u hu) | split |
                    dsimp only | (intro x))

theorem ev_snapWrite (h : Ev m s t) (a1 : Nat)
    (hm : 0x2 ||| m = m) : Ev m s (State.snapWrite t a1) := by
  unfold State.snapWrite
  repeat' (first | with_reducible assumption | exact sub hm (by decide) | with_reducible apply ev_wr | (intro u a hu) |
                    (intro u hu) | split | dsimp only | (intro x))

theorem ev_execEventSubmit (h : Ev m s t) (a0 : Half) (a1 : Nat) (a2 : Nat) (a3 : Nat) (u : State) (hu : execEventSubmit a0
    a1 a2 a3 t = .next u)
    (hm : 0x22 ||| m = m) : Ev m s u := by
  unfold execEventSubmit at hu; injection hu with hu; subst hu
  repeat' (first | with_reducible assumption | exact sub hm (by decide) | with_reducible apply ev_submitByMaster |
                    (intro u a hu) | (intro u hu) | split | dsimp only | (intro x))

theorem ev_execEventRecordWrite (h : Ev m s t)  (u : State) (hu : execEventRecordWrite t = .next u)
    (hm : 0x4022 ||| m = m) : Ev m s u := by
  unfold execEventRecordWrite at hu; injection hu with hu; subst hu
  repeat' (first | with_reducible assumption | exact sub hm (by decide) | with_reducible apply ev_takeRecord |
                    (intro u a hu) | (intro u hu) | split | dsimp only | (intro x))

theorem ev_execTokenRefill (h : Ev m s t)  (u : State) (hu : execTokenRefill t = .next u)
    (hm : 0x20 ||| m = m) : Ev m s u := by
  unfold execTokenRefill at hu; injection hu with hu; subst hu
  repeat' (first | with_reducible assumption | exact sub hm (by decide) | with_reducible apply ev_refillTokens |
                    (intro u a hu) | (intro u hu) | split | dsimp only | (intro x))

theorem ev_execHourlyTemperatureRecord (h : Ev m s t)  (u : State) (hu : execHourlyTemperatureRecord t = .next u)
    (hm : 0x22 ||| m = m) : Ev m s u := by
  unfold execHourlyTemperatureRecord at hu; injection hu with hu; subst hu
  repeat' (first | with_reducible assumption | exact sub hm (by decide) | with_reducible apply ev_hourlyRecord |
                    (intro u a hu) | (intro u hu) | split | dsimp only | (intro x))

theorem ev_execSnapshotGo (h : Ev m s t) (a0 : Nat) (a1 : Nat) (u : State) (hu : execSnapshotGo a0 a1 t = .next u)
    (hm : 0x2 ||| m = m) : Ev m s u := by
  unfold execSnapshotGo at hu; injection hu with hu; subst hu
  repeat' (first | with_reducible assumption | exact sub hm (by decide) | with_reducible apply ev_snapWrite | (intro u a hu) |
                    (intro u hu) | split | dsimp only | (intro x))

/-! ### HubOps.lean -/

theorem ev_enterState (h : Ev m s t) (a1 : Half) (a2 : HalfSt)
    (hm : 0x100 ||| m = m) : Ev m s (State.enterState t a1 a2) := by
  unfold State.enterState
  repeat' (first | with_reducible assumption | exact sub hm (by decide) | with_reducible apply ev_updHalf | (intro u a hu) |
                    (intro u hu) | split | dsimp only | (intro x))

theorem ev_enterUnfit (h : Ev m s t) (a1 : Half)
    (hm : 0x122 ||| m = m) : Ev m s (State.enterUnfit t a1) := by
  unfold State.enterUnfit
  repeat' (first | with_reducible assumption | exact sub hm (by decide) | with_reducible exact fun hw => wf_filter _ hw |
                    with_reducible apply ev_setHalfDoms | with_reducible apply ev_updHalf | with_reducible apply ev_hev |
                    with_reducible apply ev_enterState | (intro u a hu) | (intro u hu) | split | dsimp only | (intro x))

theorem ev_recordFault (h : Ev m s t) (a1 : Half) (a2 : Nat) (a3 : Nat) (a4 : Nat) (a5 : Bool)
    (hm : 0x22 ||| m = m) : Ev m s (State.recordFault t a1 a2 a3 a4 a5) := by
  unfold State.recordFault
  repeat' (first | with_reducible assumption | exact sub hm (by decide) | with_reducible apply ev_wr |
                    with_reducible apply ev_hev | (intro u a hu) | (intro u hu) | split | dsimp only | (intro x))

theorem ev_dropDram (h : Ev m s t)
    (hm : 0x20002 ||| m = m) : Ev m s (State.dropDram t) := by
  unfold State.dropDram
  repeat' (first | with_reducible assumption | exact sub hm (by decide) | with_reducible exact fun hw => hw |
                    with_reducible exact fun _ => wf_nil _ | with_reducible apply ev_wr | (intro u a hu) | (intro u hu) |
                    split | dsimp only | (intro x) | with_reducible apply ev_mk_dr)

theorem ev_testMeets (h : Ev m s t) (a1 : Nat)
    (hm : 0x200000 ||| m = m) : Ev m s (State.testMeets t a1) := by
  unfold State.testMeets
  repeat' (first | with_reducible assumption | exact sub hm (by decide) | with_reducible exact fun hw => hw | (intro u a hu) |
                    (intro u hu) | split | dsimp only | (intro x) | with_reducible apply ev_mk_ts)

theorem ev_beginHold (h : Ev m s t)
    (hm : 0x220102 ||| m = m) : Ev m s (State.beginHold t) := by
  unfold State.beginHold
  repeat' (first | with_reducible assumption | exact sub hm (by decide) | with_reducible apply ev_testMeets |
                    with_reducible apply ev_updHub | with_reducible apply ev_dropDram | (intro u a hu) | (intro u hu) |
                    split | dsimp only | (intro x))

theorem ev_abortIngress (h : Ev m s t)
    (hm : 0xc00 ||| m = m) : Ev m s (State.abortIngress t) := by
  unfold State.abortIngress
  repeat' (first | with_reducible assumption | exact sub hm (by decide) | with_reducible exact fun hw => hw |
                    with_reducible exact fun hw => wf_filter _ hw | with_reducible exact fun _ => wf_nil _ |
                    with_reducible apply ev_emit | with_reducible apply ev_each | (intro u a hu) | (intro u hu) | split |
                    dsimp only | (intro x) | with_reducible apply ev_mk_nv)

theorem ev_fence (h : Ev m s t) (a1 : Nat) (a2 : Option Half)
    (hm : 0x200d22 ||| m = m) : Ev m s (State.fence t a1 a2) := by
  unfold State.fence
  repeat' (first | with_reducible assumption | exact sub hm (by decide) | with_reducible exact fun hw => hw |
                    with_reducible apply ev_updHub | with_reducible apply ev_wr | with_reducible apply ev_abortIngress |
                    with_reducible apply ev_aerPfs | with_reducible apply ev_testMeets | with_reducible apply ev_updFn |
                    with_reducible apply ev_hev | with_reducible apply ev_updEvt | with_reducible apply ev_each |
                    (intro u a hu) | (intro u hu) | split | dsimp only | (intro x))

theorem ev_grant (h : Ev m s t) (a1 : Half)
    (hm : 0x102 ||| m = m) : Ev m s (State.grant t a1) := by
  unfold State.grant
  repeat' (first | with_reducible assumption | exact sub hm (by decide) | with_reducible apply ev_wakeHalf |
                    with_reducible apply ev_wr | with_reducible apply ev_updHub | with_reducible apply ev_enterState |
                    with_reducible apply ev_updHalf | (intro u a hu) | (intro u hu) | split | dsimp only | (intro x))

theorem ev_withdraw (h : Ev m s t) (a1 : Half)
    (hm : 0x220102 ||| m = m) : Ev m s (State.withdraw t a1) := by
  unfold State.withdraw
  repeat' (first | with_reducible assumption | exact sub hm (by decide) | with_reducible apply ev_beginHold |
                    with_reducible apply ev_updHalf | (intro u a hu) | (intro u hu) | split | dsimp only | (intro x))

theorem ev_drillFailed (h : Ev m s t) (a1 : Nat)
    (hm : 0x122 ||| m = m) : Ev m s (State.drillFailed t a1) := by
  unfold State.drillFailed
  repeat' (first | with_reducible assumption | exact sub hm (by decide) | with_reducible apply ev_count |
                    with_reducible apply ev_wr | with_reducible apply ev_hev | with_reducible apply ev_updHub |
                    (intro u a hu) | (intro u hu) | split | dsimp only | (intro x))

theorem ev_drillHit (h : Ev m s t) (a1 : Half)
    (hm : 0x122 ||| m = m) : Ev m s (State.drillHit t a1) := by
  unfold State.drillHit
  repeat' (first | with_reducible assumption | exact sub hm (by decide) | with_reducible apply ev_drillFailed |
                    (intro u a hu) | (intro u hu) | split | dsimp only | (intro x))

theorem ev_controlFaultCls (h : Ev m s t) (a1 : Half) (a2 : Nat) (a3 : Nat) (a4 : Nat)
    (hm : 0x220d22 ||| m = m) : Ev m s (State.controlFaultCls t a1 a2 a3 a4) := by
  unfold State.controlFaultCls
  repeat' (first | with_reducible assumption | exact sub hm (by decide) | with_reducible apply ev_recordFault |
                    with_reducible apply ev_testMeets | with_reducible apply ev_count | with_reducible apply ev_updHalf |
                    with_reducible apply ev_withdraw | with_reducible apply ev_drillHit | with_reducible apply ev_enterUnfit |
                    with_reducible apply ev_fence | (intro u a hu) | (intro u hu) | split | dsimp only | (intro x))

theorem ev_controlFault (h : Ev m s t) (a1 : Half) (a2 : Nat) (a3 : Nat)
    (hm : 0x220d22 ||| m = m) : Ev m s (State.controlFault t a1 a2 a3) := by
  unfold State.controlFault
  repeat' (first | with_reducible assumption | exact sub hm (by decide) | with_reducible apply ev_controlFaultCls |
                    (intro u a hu) | (intro u hu) | split | dsimp only | (intro x))

theorem ev_hubFault (h : Ev m s t) (a1 : Nat)
    (hm : 0x200d22 ||| m = m) : Ev m s (State.hubFault t a1) := by
  unfold State.hubFault
  repeat' (first | with_reducible assumption | exact sub hm (by decide) | with_reducible apply ev_fence |
                    with_reducible apply ev_wr | (intro u a hu) | (intro u hu) | split | dsimp only | (intro x))

theorem ev_endUpdate (h : Ev m s t)
    (hm : 0x100002 ||| m = m) : Ev m s (State.endUpdate t) := by
  unfold State.endUpdate
  repeat' (first | with_reducible assumption | exact sub hm (by decide) | with_reducible exact fun hw => hw |
                    with_reducible apply ev_wr | (intro u a hu) | (intro u hu) | split | dsimp only | (intro x) |
                    with_reducible apply ev_mk_sv)

theorem ev_noteSess (h : Ev m s t)
    (hm : 0x2 ||| m = m) : Ev m s (State.noteSess t) := by
  unfold State.noteSess
  repeat' (first | with_reducible assumption | exact sub hm (by decide) | with_reducible exact fun hw => wf_filter _ hw |
                    with_reducible apply ev_wr | (intro u a hu) | (intro u hu) | split | dsimp only | (intro x))

theorem ev_endSessions (h : Ev m s t)
    (hm : 0x100002 ||| m = m) : Ev m s (State.endSessions t) := by
  unfold State.endSessions
  repeat' (first | with_reducible assumption | exact sub hm (by decide) | with_reducible exact fun hw => hw |
                    with_reducible exact fun _ => wf_nil _ | with_reducible apply ev_noteSess | (intro u a hu) |
                    (intro u hu) | split | dsimp only | (intro x) | with_reducible apply ev_mk_sv)

/-! ### Sched.lean -/

theorem ev_updSched (h : Ev m s t) (a1 : Sched → Sched)
    (hm : 0x200 ||| m = m) : Ev m s (State.updSched t a1) := by
  unfold State.updSched
  repeat' (first | with_reducible assumption | exact sub hm (by decide) | with_reducible exact fun hw => hw | (intro u a hu) |
                    (intro u hu) | split | dsimp only | (intro x) | with_reducible apply ev_mk_sched)

theorem ev_setCredits (h : Ev m s t) (a1 : Nat) (a2 : Nat) (a3 : Nat)
    (hm : 0x200 ||| m = m) : Ev m s (State.setCredits t a1 a2 a3) := by
  unfold State.setCredits
  repeat' (first | with_reducible assumption | exact sub hm (by decide) | with_reducible exact fun hw => wf_spSet _ _ hw |
                    with_reducible exact fun hw => wf_spSetRun _ _ hw | with_reducible apply ev_updSched | (intro u a hu) |
                    (intro u hu) | split | dsimp only | (intro x))

theorem ev_latchPlan (h : Ev m s t) (a1 : Half)
    (hm : 0x202 ||| m = m) : Ev m s (State.latchPlan t a1) := by
  unfold State.latchPlan
  repeat' (first | with_reducible assumption | exact sub hm (by decide) | with_reducible exact fun hw => wf_filter _ hw |
                    with_reducible apply ev_updSched | with_reducible apply ev_wr | (intro u a hu) | (intro u hu) | split |
                    dsimp only | (intro x))

theorem ev_rejectPlan (h : Ev m s t) (a1 : Half) (a2 : Nat) (a3 : Nat)
    (hm : 0x22 ||| m = m) : Ev m s (State.rejectPlan t a1 a2 a3) := by
  unfold State.rejectPlan
  repeat' (first | with_reducible assumption | exact sub hm (by decide) | with_reducible apply ev_wr |
                    with_reducible apply ev_uev | (intro u a hu) | (intro u hu) | split | dsimp only | (intro x))

theorem ev_refill (h : Ev m s t) (a1 : Half)
    (hm : 0x222 ||| m = m) : Ev m s (State.refill t a1) := by
  unfold State.refill
  repeat' (first | with_reducible assumption | exact sub hm (by decide) | with_reducible exact fun hw => wf_filter _ hw |
                    with_reducible apply ev_updSched | with_reducible apply ev_wr | with_reducible apply ev_uev |
                    with_reducible apply ev_each | (intro u a hu) | (intro u hu) | split | dsimp only | (intro x))

theorem ev_setDones (h : Ev m s t) (a1 : Half) (a2 : List (Nat × Nat))
    (hm : 0x100 ||| m = m) : Ev m s (State.setDones t a1 a2) := by
  unfold State.setDones
  repeat' (first | with_reducible assumption | exact sub hm (by decide) | with_reducible apply ev_updHalf |
                    with_reducible apply ev_each | (intro u a hu) | (intro u hu) | split | dsimp only | (intro x))

theorem ev_noteSlack (h : Ev m s t) (a1 : Half)
    (hm : 0x2 ||| m = m) : Ev m s (State.noteSlack t a1) := by
  unfold State.noteSlack
  repeat' (first | with_reducible assumption | exact sub hm (by decide) | with_reducible apply ev_wr |
                    with_reducible apply ev_each | (intro u a hu) | (intro u hu) | split | dsimp only | (intro x))

theorem ev_recordOverrun (h : Ev m s t) (a1 : Half) (a2 : Nat) (a3 : Bool)
    (hm : 0x2 ||| m = m) : Ev m s (State.recordOverrun t a1 a2 a3) := by
  unfold State.recordOverrun
  repeat' (first | with_reducible assumption | exact sub hm (by decide) | with_reducible apply ev_wr |
                    with_reducible apply ev_count | (intro u a hu) | (intro u hu) | split | dsimp only | (intro x))

theorem ev_overrunEvent (h : Ev m s t) (a1 : Half) (a2 : Nat) (a3 : Nat)
    (hm : 0x22 ||| m = m) : Ev m s (State.overrunEvent t a1 a2 a3) := by
  unfold State.overrunEvent
  repeat' (first | with_reducible assumption | exact sub hm (by decide) | with_reducible apply ev_aev | (intro u a hu) |
                    (intro u hu) | split | dsimp only | (intro x))

theorem ev_noteOverrun (h : Ev m s t) (a1 : Half)
    (hm : 0x122 ||| m = m) : Ev m s (State.noteOverrun t a1) := by
  unfold State.noteOverrun
  repeat' (first | with_reducible assumption | exact sub hm (by decide) | with_reducible apply ev_updHalf |
                    with_reducible apply ev_overrunEvent | (intro u a hu) | (intro u hu) | split | dsimp only | (intro x))

theorem ev_overrun (h : Ev m s t) (a1 : Half)
    (hm : 0x220d22 ||| m = m) : Ev m s (State.overrun t a1) := by
  unfold State.overrun
  repeat' (first | with_reducible assumption | exact sub hm (by decide) | with_reducible apply ev_updHalf |
                    with_reducible apply ev_recordOverrun | with_reducible apply ev_count |
                    with_reducible apply ev_recordFault | with_reducible apply ev_testMeets | with_reducible apply ev_fence |
                    with_reducible apply ev_controlFault | with_reducible apply ev_noteOverrun |
                    with_reducible apply ev_when | (intro u a hu) | (intro u hu) | split | dsimp only | (intro x))

theorem ev_unchoose (h : Ev m s t) (a1 : Op → Bool)
    (hm : 0x2000 ||| m = m) : Ev m s (State.unchoose t a1) := by
  unfold State.unchoose
  exact ev_mk_md h _ (fun hw => ⟨hw.1, hw.2, hw.3⟩) hm

theorem ev_quitHalf (h : Ev m s t) (a1 : Half)
    (hm : 0x2122 ||| m = m) : Ev m s (State.quitHalf t a1) := by
  unfold State.quitHalf
  repeat' (first | with_reducible assumption | exact sub hm (by decide) | with_reducible apply ev_unchoose |
                    with_reducible apply ev_updHalf | with_reducible apply ev_enterUnfit | with_reducible apply ev_drillHit |
                    (intro u a hu) | (intro u hu) | split | dsimp only | (intro x))

theorem ev_execDoneDeadline (h : Ev m s t) (a0 : Half) (a1 : List (Nat × Nat)) (u : State) (hu : execDoneDeadline a0 a1 t =
    .next u)
    (hm : 0x220d23 ||| m = m) : Ev m s u := by
  unfold execDoneDeadline at hu; injection hu with hu; subst hu
  repeat' (first | with_reducible assumption | exact sub hm (by decide) | with_reducible exact fun hw => hw |
                    with_reducible exact fun hw => wf_filter _ hw | with_reducible apply ev_noteSlack |
                    with_reducible apply ev_setDones | with_reducible apply ev_overrun | (intro u a hu) | (intro u hu) |
                    split | dsimp only | (intro x) | with_reducible apply ev_mk_time)

theorem ev_doneWrite (h : Ev m s t) (a1 : Half) (a2 : Nat) (a3 : Nat)
    (hm : 0x100 ||| m = m) : Ev m s (State.doneWrite t a1 a2 a3) := by
  unfold State.doneWrite
  repeat' (first | with_reducible assumption | exact sub hm (by decide) | with_reducible exact fun hw => wf_filter _ hw |
                    with_reducible apply ev_setDones | (intro u a hu) | (intro u hu) | split | dsimp only | (intro x))

theorem ev_execSchDoneSetWrite (h : Ev m s t) (a0 : Nat) (a1 : Half) (a2 : Nat) (a3 : Nat) (u : State) (hu :
    execSchDoneSetWrite a0 a1 a2 a3 t = .next u)
    (hm : 0x101 ||| m = m) : Ev m s u := by
  unfold execSchDoneSetWrite at hu; injection hu with hu; subst hu
  repeat' (first | with_reducible assumption | exact sub hm (by decide) | with_reducible exact fun hw => hw |
                    with_reducible apply ev_doneWrite | (intro u a hu) | (intro u hu) | split | dsimp only | (intro x) |
                    with_reducible apply ev_mk_time)

theorem ev_enrollWrite (h : Ev m s t) (a1 : Nat) (a2 : Half) (a3 : Nat)
    (hm : 0x22 ||| m = m) : Ev m s (State.enrollWrite t a1 a2 a3) := by
  unfold State.enrollWrite
  repeat' (first | with_reducible assumption | exact sub hm (by decide) | with_reducible apply ev_wr |
                    with_reducible apply ev_discarded | (intro u a hu) | (intro u hu) | split | dsimp only | (intro x))

theorem ev_execSchEnrollWrite (h : Ev m s t) (a0 : Nat) (a1 : Half) (a2 : Nat) (u : State) (hu : execSchEnrollWrite a0 a1 a2
    t = .next u)
    (hm : 0x22 ||| m = m) : Ev m s u := by
  unfold execSchEnrollWrite at hu; injection hu with hu; subst hu
  repeat' (first | with_reducible assumption | exact sub hm (by decide) | with_reducible apply ev_enrollWrite |
                    (intro u a hu) | (intro u hu) | split | dsimp only | (intro x))

theorem ev_planWrite (h : Ev m s t) (a1 : Half) (a2 : Nat)
    (hm : 0x2 ||| m = m) : Ev m s (State.planWrite t a1 a2) := by
  unfold State.planWrite
  repeat' (first | with_reducible assumption | exact sub hm (by decide) | with_reducible apply ev_wr | (intro u a hu) |
                    (intro u hu) | split | dsimp only | (intro x))

theorem ev_execPlanCommit (h : Ev m s t) (a0 : Nat) (a1 : Half) (a2 : Nat) (u : State) (hu : execPlanCommit a0 a1 a2 t =
    .next u)
    (hm : 0x2 ||| m = m) : Ev m s u := by
  unfold execPlanCommit at hu; injection hu with hu; subst hu
  repeat' (first | with_reducible assumption | exact sub hm (by decide) | with_reducible apply ev_planWrite | (intro u a hu) |
                    (intro u hu) | split | dsimp only | (intro x))

/-! ### Queue.lean -/

theorem ev_updNv (h : Ev m s t) (f : Nvme → Nvme)
    (hf : Memory.wf (fun _ => Fn.init) t.nv.fns = true → Memory.wf (fun _ => Fn.init) (f t.nv).fns = true)
    (hm : 0x800 ||| m = m) : Ev m s (t.updNv f) := ev_mk_nv h _ hf hm

theorem ev_updDr (h : Ev m s t) (f : Dram → Dram)
    (hf : Memory.wf (fun _ => 0) t.dr.cmb = true → Memory.wf (fun _ => 0) (f t.dr).cmb = true)
    (hm : 0x20000 ||| m = m) : Ev m s (t.updDr f) := ev_mk_dr h _ hf hm

theorem ev_updCtx (h : Ev m s t) (a1 : Nat) (a2 : Ctx → Ctx)
    (hm : 0x800 ||| m = m) : Ev m s (State.updCtx t a1 a2) := by
  unfold State.updCtx
  repeat' (first | with_reducible assumption | exact sub hm (by decide) | with_reducible exact fun hw => hw |
                    with_reducible apply ev_updNv | (intro u a hu) | (intro u hu) | split | dsimp only | (intro x))

theorem ev_updSq (h : Ev m s t) (a1 : Nat) (a2 : Nat) (a3 : Sq → Sq)
    (hm : 0x800 ||| m = m) : Ev m s (State.updSq t a1 a2 a3) := by
  unfold State.updSq
  repeat' (first | with_reducible assumption | exact sub hm (by decide) | with_reducible exact fun hw => hw |
                    with_reducible apply ev_updNv | (intro u a hu) | (intro u hu) | split | dsimp only | (intro x))

theorem ev_updCq (h : Ev m s t) (a1 : Nat) (a2 : Nat) (a3 : Cq → Cq)
    (hm : 0x800 ||| m = m) : Ev m s (State.updCq t a1 a2 a3) := by
  unfold State.updCq
  repeat' (first | with_reducible assumption | exact sub hm (by decide) | with_reducible exact fun hw => hw |
                    with_reducible apply ev_updNv | (intro u a hu) | (intro u hu) | split | dsimp only | (intro x))

theorem ev_dropSqs (h : Ev m s t) (a1 : Nat → Nat → Bool)
    (hm : 0x900 ||| m = m) : Ev m s (State.dropSqs t a1) := by
  unfold State.dropSqs
  repeat' (first | with_reducible assumption | exact sub hm (by decide) | with_reducible exact fun hw => hw |
                    with_reducible exact fun hw => wf_filter _ hw | with_reducible apply ev_updHub |
                    with_reducible apply ev_updNv | (intro u a hu) | (intro u hu) | split | dsimp only | (intro x))

theorem ev_sendMsix (h : Ev m s t) (a1 : Nat) (a2 : Nat)
    (hm : 0xc00 ||| m = m) : Ev m s (State.sendMsix t a1 a2) := by
  unfold State.sendMsix
  repeat' (first | with_reducible assumption | exact sub hm (by decide) | with_reducible apply ev_updFn |
                    with_reducible apply ev_emit | (intro u a hu) | (intro u hu) | split | dsimp only | (intro x))

theorem ev_endCharges (h : Ev m s t)
    (hm : 0xa00 ||| m = m) : Ev m s (State.endCharges t) := by
  unfold State.endCharges
  repeat' (first | with_reducible assumption | exact sub hm (by decide) | with_reducible exact fun hw => hw |
                    with_reducible exact fun _ => wf_nil _ | with_reducible apply ev_updNv | (intro u a hu) | (intro u hu) |
                    split | dsimp only | (intro x) | with_reducible apply ev_mk_sched)

theorem ev_noteLatency (h : Ev m s t) (a1 : Ctx)
    (hm : 0x2 ||| m = m) : Ev m s (State.noteLatency t a1) := by
  unfold State.noteLatency
  repeat' (first | with_reducible assumption | exact sub hm (by decide) | with_reducible apply ev_count | (intro u a hu) |
                    (intro u hu) | split | dsimp only | (intro x))

theorem ev_closeCtx (h : Ev m s t) (a1 : Ctx)
    (hm : 0x1802 ||| m = m) : Ev m s (State.closeCtx t a1) := by
  unfold State.closeCtx
  repeat' (first | with_reducible assumption | exact sub hm (by decide) | with_reducible exact fun hw => hw |
                    with_reducible exact fun hw => wf_filter _ hw | with_reducible apply ev_noteLatency |
                    with_reducible apply ev_updNv | (intro u a hu) | (intro u hu) | split | dsimp only | (intro x) |
                    with_reducible apply ev_mk_tr)

theorem ev_postHeld (h : Ev m s t) (a1 : Held)
    (hm : 0x1c02 ||| m = m) : Ev m s (State.postHeld t a1) := by
  unfold State.postHeld
  repeat' (first | with_reducible assumption | exact sub hm (by decide) | with_reducible exact fun hw => hw |
                    with_reducible apply ev_sendMsix | with_reducible apply ev_emit | with_reducible apply ev_updCq |
                    with_reducible apply ev_updNv | with_reducible apply ev_closeCtx | (intro u a hu) | (intro u hu) | split |
                    dsimp only | (intro x))

theorem ev_drain (h : Ev m s t)
    (hm : 0x1c02 ||| m = m) : Ev m s (State.drain t) := by
  unfold State.drain
  repeat' (first | with_reducible assumption | exact sub hm (by decide) | with_reducible exact fun hw => hw |
                    with_reducible apply ev_postHeld | with_reducible apply ev_updNv | with_reducible apply ev_foldl |
                    with_reducible apply ev_foldl_snd | with_reducible apply ev_foldl_fst | (intro u a hu) | (intro u hu) |
                    split | dsimp only | (intro x))

theorem ev_complete (h : Ev m s t) (a1 : Nat) (a2 : Nat) (a3 : Nat) (a4 : Nat) (a5 : Nat) (a6 : Nat)
    (hm : 0x1c02 ||| m = m) : Ev m s (State.complete t a1 a2 a3 a4 a5 a6) := by
  unfold State.complete
  repeat' (first | with_reducible assumption | exact sub hm (by decide) | with_reducible exact fun hw => hw |
                    with_reducible apply ev_drain | with_reducible apply ev_updNv | (intro u a hu) | (intro u hu) | split |
                    dsimp only | (intro x))

theorem ev_deliverAen (h : Ev m s t) (a1 : Nat)
    (hm : 0x1c02 ||| m = m) : Ev m s (State.deliverAen t a1) := by
  unfold State.deliverAen
  repeat' (first | with_reducible assumption | exact sub hm (by decide) | with_reducible apply ev_updFn |
                    with_reducible apply ev_updCtx | with_reducible apply ev_complete | (intro u a hu) | (intro u hu) |
                    split | dsimp only | (intro x))

theorem ev_postAen (h : Ev m s t) (a1 : Nat) (a2 : Aen) (a3 : Bool)
    (hm : 0x1c02 ||| m = m) : Ev m s (State.postAen t a1 a2 a3) := by
  unfold State.postAen
  repeat' (first | with_reducible assumption | exact sub hm (by decide) | with_reducible apply ev_deliverAen |
                    with_reducible apply ev_updFn | (intro u a hu) | (intro u hu) | split | dsimp only | (intro x))

theorem ev_postAenAll (h : Ev m s t) (a1 : Aen) (a2 : Bool)
    (hm : 0x1c02 ||| m = m) : Ev m s (State.postAenAll t a1 a2) := by
  unfold State.postAenAll
  repeat' (first | with_reducible assumption | exact sub hm (by decide) | with_reducible apply ev_postAen |
                    with_reducible apply ev_each | (intro u a hu) | (intro u hu) | split | dsimp only | (intro x))

theorem ev_unmask (h : Ev m s t) (a1 : Nat) (a2 : Nat)
    (hm : 0x800 ||| m = m) : Ev m s (State.unmask t a1 a2) := by
  unfold State.unmask
  repeat' (first | with_reducible assumption | exact sub hm (by decide) | with_reducible exact fun hw => wf_filter _ hw |
                    with_reducible apply ev_updFn | (intro u a hu) | (intro u hu) | split | dsimp only | (intro x))

theorem ev_issueRead (h : Ev m s t) (a1 : Nat) (a2 : Nat) (a3 : Nat) (a4 : Purpose) (a5 : optParam (Option Nat) none) (u :
    State) (hu : State.issueRead t a1 a2 a3 a4 a5 = some u)
    (hm : 0xc00 ||| m = m) : Ev m s u := by
  unfold State.issueRead at hu
  repeat' (first | with_reducible assumption | exact sub hm (by decide) | with_reducible exact fun hw => hw |
                    with_reducible apply ev_emit | with_reducible apply ev_updNv | split at hu |
                    (simp only [Option.some.injEq, Prod.mk.injEq] at hu; obtain ⟨-, -, rfl⟩ := hu) |
                    (simp only [Option.some.injEq, Prod.mk.injEq] at hu; obtain ⟨-, rfl⟩ := hu) |
                    (simp only [Option.some.injEq] at hu; subst hu) | contradiction | dsimp only at hu | (intro u a hu) |
                    (intro u hu) | split | dsimp only | (intro x))

theorem ev_issueCtx (h : Ev m s t) (a1 : Nat) (a2 : Nat)
    (hm : 0xc00 ||| m = m) : Ev m s (State.issueCtx t a1 a2) := by
  induction a2 generalizing t with
  | zero => exact h
  | succ n ih =>
    unfold State.issueCtx
    repeat' (first | with_reducible assumption | exact sub hm (by decide) | with_reducible exact fun hw => hw |
                      with_reducible exact fun hw => ⟨hw.1, hw.2, hw.3⟩ | with_reducible apply ih |
                      with_reducible apply ev_updCtx | exact ev_issueRead h _ _ _ _ _ _ (by with_reducible assumption) hm |
                      split | dsimp only)

theorem ev_issueAll (h : Ev m s t)
    (hm : 0xc00 ||| m = m) : Ev m s (State.issueAll t) := by
  unfold State.issueAll
  repeat' (first | with_reducible assumption | exact sub hm (by decide) | with_reducible apply ev_issueCtx |
                    with_reducible apply ev_each | (intro u a hu) | (intro u hu) | split | dsimp only | (intro x))

/-! ### Buffers.lean -/

theorem ev_setBuf (h : Ev m s t) (a1 : Half) (a2 : Nat) (a3 : BufRec)
    (hm : 0x40000 ||| m = m) : Ev m s (State.setBuf t a1 a2 a3) := by
  unfold State.setBuf
  repeat' (first | with_reducible assumption | exact sub hm (by decide) | with_reducible exact fun hw => hw |
                    with_reducible exact fun hw => wf_spSet _ _ hw | with_reducible exact fun hw => wf_spSetRun _ _ hw |
                    (intro u a hu) | (intro u hu) | split | dsimp only | (intro x) | with_reducible apply ev_mk_bf)

theorem ev_bufRes (h : Ev m s t) (a1 : Half) (a2 : Nat) (a3 : Nat) (a4 : Nat)
    (hm : 0x2 ||| m = m) : Ev m s (State.bufRes t a1 a2 a3 a4) := by
  unfold State.bufRes
  repeat' (first | with_reducible assumption | exact sub hm (by decide) | with_reducible apply ev_wr | (intro u a hu) |
                    (intro u hu) | split | dsimp only | (intro x))

theorem ev_tryAlloc (h : Ev m s t) (a1 : BufWait) (u : State) (hu : State.tryAlloc t a1 = some u)
    (hm : 0x40002 ||| m = m) : Ev m s u := by
  unfold State.tryAlloc at hu
  repeat' (first | with_reducible assumption | exact sub hm (by decide) | with_reducible apply ev_setBuf |
                    with_reducible apply ev_wr | with_reducible apply ev_bufRes | split at hu |
                    (simp only [Option.some.injEq, Prod.mk.injEq] at hu; obtain ⟨-, -, rfl⟩ := hu) |
                    (simp only [Option.some.injEq, Prod.mk.injEq] at hu; obtain ⟨-, rfl⟩ := hu) |
                    (simp only [Option.some.injEq] at hu; subst hu) | contradiction | dsimp only at hu | (intro u a hu) |
                    (intro u hu) | split | dsimp only | (intro x))

theorem ev_grantWaits (h : Ev m s t) (a1 : Half)
    (hm : 0x40002 ||| m = m) : Ev m s (State.grantWaits t a1) := by
  unfold State.grantWaits
  repeat' (first | with_reducible assumption | exact sub hm (by decide) | with_reducible exact fun hw => hw |
                    (refine ev_tryAlloc ?_ _ _ (by with_reducible assumption) ?_) | with_reducible apply ev_foldl |
                    with_reducible apply ev_foldl_snd | with_reducible apply ev_foldl_fst | (intro u a hu) | (intro u hu) |
                    split | dsimp only | (intro x) | with_reducible apply ev_mk_bf)

theorem ev_bufAlloc (h : Ev m s t) (a1 : BufWait)
    (hm : 0x40002 ||| m = m) : Ev m s (State.bufAlloc t a1) := by
  unfold State.bufAlloc
  repeat' (first | with_reducible assumption | exact sub hm (by decide) | with_reducible exact fun hw => hw |
                    with_reducible apply ev_bufRes | with_reducible apply ev_wr |
                    (refine ev_tryAlloc ?_ _ _ (by with_reducible assumption) ?_) | (intro u a hu) | (intro u hu) | split |
                    dsimp only | (intro x) | with_reducible apply ev_mk_bf)

theorem ev_bufRefuse (h : Ev m s t) (a1 : Half) (a2 : Nat) (a3 : Nat) (a4 : Nat)
    (hm : 0x22 ||| m = m) : Ev m s (State.bufRefuse t a1 a2 a3 a4) := by
  unfold State.bufRefuse
  repeat' (first | with_reducible assumption | exact sub hm (by decide) | with_reducible apply ev_count |
                    with_reducible apply ev_wr | with_reducible apply ev_uev | with_reducible apply ev_bufRes |
                    (intro u a hu) | (intro u hu) | split | dsimp only | (intro x))

theorem ev_releaseBuf (h : Ev m s t) (a1 : Half) (a2 : Nat)
    (hm : 0x40000 ||| m = m) : Ev m s (State.releaseBuf t a1 a2) := by
  unfold State.releaseBuf
  repeat' (first | with_reducible assumption | exact sub hm (by decide) | with_reducible exact fun _ => wf_nil _ |
                    with_reducible apply ev_setBuf | (intro u a hu) | (intro u hu) | split | dsimp only | (intro x))

theorem ev_freeHeld (h : Ev m s t) (a1 : Nat)
    (hm : 0x40000 ||| m = m) : Ev m s (State.freeHeld t a1) := by
  unfold State.freeHeld
  repeat' (first | with_reducible assumption | exact sub hm (by decide) | with_reducible exact fun hw => hw |
                    with_reducible exact fun hw => wf_spSet _ _ hw | with_reducible exact fun hw => wf_spSetRun _ _ hw |
                    (intro u a hu) | (intro u hu) | split | dsimp only | (intro x) | with_reducible apply ev_mk_bf)

theorem ev_bufFree (h : Ev m s t) (a1 : Half) (a2 : Nat) (a3 : Nat)
    (hm : 0x40022 ||| m = m) : Ev m s (State.bufFree t a1 a2 a3) := by
  unfold State.bufFree
  repeat' (first | with_reducible assumption | exact sub hm (by decide) | with_reducible exact fun hw => wf_filter _ hw |
                    with_reducible apply ev_bufRes | with_reducible apply ev_bufRefuse | with_reducible apply ev_releaseBuf |
                    with_reducible apply ev_setBuf | (intro u a hu) | (intro u hu) | split | dsimp only | (intro x))

theorem ev_bufShare (h : Ev m s t) (a1 : Half) (a2 : Nat) (a3 : Nat) (a4 : Nat)
    (hm : 0x40022 ||| m = m) : Ev m s (State.bufShare t a1 a2 a3 a4) := by
  unfold State.bufShare
  repeat' (first | with_reducible assumption | exact sub hm (by decide) | with_reducible apply ev_bufRes |
                    with_reducible apply ev_bufRefuse | with_reducible apply ev_setBuf | (intro u a hu) | (intro u hu) |
                    split | dsimp only | (intro x))

theorem ev_bufQuery (h : Ev m s t) (a1 : Half) (a2 : Nat) (a3 : Nat)
    (hm : 0x2 ||| m = m) : Ev m s (State.bufQuery t a1 a2 a3) := by
  unfold State.bufQuery
  repeat' (first | with_reducible assumption | exact sub hm (by decide) | with_reducible apply ev_bufRes | (intro u a hu) |
                    (intro u hu) | split | dsimp only | (intro x))

theorem ev_bufOp (h : Ev m s t) (a1 : Half) (a2 : Nat) (a3 : Nat) (a4 : State → State) (h4 : ∀ x0, Ev m s x0 → Ev m s (a4 x0))
    (hm : 0x22 ||| m = m) : Ev m s (State.bufOp t a1 a2 a3 a4) := by
  unfold State.bufOp
  repeat' (first | with_reducible assumption | exact sub hm (by decide) | with_reducible apply ev_discarded |
                    with_reducible apply h4 | (intro u a hu) | (intro u hu) | split | dsimp only | (intro x))

theorem ev_execAlloc (h : Ev m s t) (a0 : Half) (a1 : Nat) (a2 : Nat) (a3 : Bool) (a4 : Nat) (a5 : Nat) (u : State) (hu :
    execAlloc a0 a1 a2 a3 a4 a5 t = .next u)
    (hm : 0x40022 ||| m = m) : Ev m s u := by
  unfold execAlloc at hu; injection hu with hu; subst hu
  repeat' (first | with_reducible assumption | exact sub hm (by decide) | with_reducible apply ev_bufOp |
                    with_reducible apply ev_bufAlloc | (intro u a hu) | (intro u hu) | split | dsimp only | (intro x))

theorem ev_execAllocGrant (h : Ev m s t) (a0 : Half) (u : State) (hu : execAllocGrant a0 t = .next u)
    (hm : 0x40002 ||| m = m) : Ev m s u := by
  unfold execAllocGrant at hu; injection hu with hu; subst hu
  repeat' (first | with_reducible assumption | exact sub hm (by decide) | with_reducible apply ev_grantWaits |
                    (intro u a hu) | (intro u hu) | split | dsimp only | (intro x))

theorem ev_execShare (h : Ev m s t) (a0 : Half) (a1 : Nat) (a2 : Nat) (u : State) (hu : execShare a0 a1 a2 t = .next u)
    (hm : 0x40022 ||| m = m) : Ev m s u := by
  unfold execShare at hu; injection hu with hu; subst hu
  repeat' (first | with_reducible assumption | exact sub hm (by decide) | with_reducible apply ev_bufOp |
                    with_reducible apply ev_bufShare | (intro u a hu) | (intro u hu) | split | dsimp only | (intro x))

theorem ev_execFree (h : Ev m s t) (a0 : Half) (a1 : Nat) (u : State) (hu : execFree a0 a1 t = .next u)
    (hm : 0x40022 ||| m = m) : Ev m s u := by
  unfold execFree at hu; injection hu with hu; subst hu
  repeat' (first | with_reducible assumption | exact sub hm (by decide) | with_reducible apply ev_bufOp |
                    with_reducible apply ev_bufFree | (intro u a hu) | (intro u hu) | split | dsimp only | (intro x))

theorem ev_execQuery (h : Ev m s t) (a0 : Half) (a1 : Nat) (u : State) (hu : execQuery a0 a1 t = .next u)
    (hm : 0x22 ||| m = m) : Ev m s u := by
  unfold execQuery at hu; injection hu with hu; subst hu
  repeat' (first | with_reducible assumption | exact sub hm (by decide) | with_reducible apply ev_bufOp |
                    with_reducible apply ev_bufQuery | (intro u a hu) | (intro u hu) | split | dsimp only | (intro x))

/-! ### Loops.lean -/

theorem ev_updRg (h : Ev m s t) (f : Regul → Regul)
    (hf : Regul.Wf t.rg → Regul.Wf (f t.rg))
    (hm : 0x10000 ||| m = m) : Ev m s (t.updRg f) := ev_mk_rg h _ hf hm

theorem ev_setLoop (h : Ev m s t) (a1 : Nat) (a2 : Machine.Loop)
    (hm : 0x10000 ||| m = m) : Ev m s (State.setLoop t a1 a2) := by
  unfold State.setLoop
  repeat' (first | with_reducible assumption | exact sub hm (by decide) | with_reducible exact fun hw => hw |
                    with_reducible exact fun hw => wf_spSet _ _ hw | with_reducible exact fun hw => wf_spSetRun _ _ hw |
                    with_reducible exact fun hw => ⟨hw.1, hw.2, hw.3⟩ |
                    (intro hw; constructor <;>
                     with_reducible first | exact hw.1 | exact hw.2 | exact hw.3 | exact wf_spSet _ _ hw.1 | exact wf_spSet _ _ hw.2
                                          | exact wf_spSet _ _ hw.3 | exact wf_filter _ hw.1 | exact wf_nil _) |
                    with_reducible apply ev_updRg | (intro u a hu) | (intro u hu) | split | dsimp only | (intro x))

theorem ev_alarmEvent (h : Ev m s t) (a1 : Nat) (a2 : Machine.Loop)
    (hm : 0x22 ||| m = m) : Ev m s (State.alarmEvent t a1 a2) := by
  unfold State.alarmEvent
  repeat' (first | with_reducible assumption | exact sub hm (by decide) | with_reducible apply ev_aev |
                    with_reducible apply ev_count | (intro u a hu) | (intro u hu) | split | dsimp only | (intro x))

theorem ev_loopRead (h : Ev m s t) (a1 : Nat) (a2 : Machine.Loop)
    (hm : 0x2 ||| m = m) : Ev m s (State.loopRead t a1 a2) := by
  unfold State.loopRead
  repeat' (first | with_reducible assumption | exact sub hm (by decide) | with_reducible apply ev_wr |
                    with_reducible apply ev_setReg | with_reducible apply ev_each | (intro u a hu) | (intro u hu) | split |
                    dsimp only | (intro x))

theorem ev_updateLoop (h : Ev m s t) (a1 : Nat) (a2 : List Meas) (a3 : Nat)
    (hm : 0x10022 ||| m = m) : Ev m s (State.updateLoop t a1 a2 a3) := by
  have hr : ∀ (n : Nat) (l : Loop), Ev m s (if a3 = 4 then t.loopRead n l else t) := by
    intro n l
    split
    · exact ev_loopRead h _ _ (sub hm (by decide))
    · exact h
  unfold State.updateLoop
  extract_lets
  split
  · exact ev_alarmEvent (ev_setLoop (hr _ _) _ _ (sub hm (by decide))) _ _ (sub hm (by decide))
  · exact ev_setLoop (hr _ _) _ _ (sub hm (by decide))

theorem ev_loopUpdate (h : Ev m s t) (a1 : Nat)
    (hm : 0x10022 ||| m = m) : Ev m s (State.loopUpdate t a1) := by
  unfold State.loopUpdate
  repeat' (first | with_reducible assumption | exact sub hm (by decide) | with_reducible exact fun hw => hw |
                    with_reducible exact fun hw => wf_filter _ hw | with_reducible exact fun hw => ⟨hw.1, hw.2, hw.3⟩ |
                    (intro hw; constructor <;>
                     with_reducible first | exact hw.1 | exact hw.2 | exact hw.3 | exact wf_spSet _ _ hw.1 | exact wf_spSet _ _ hw.2
                                          | exact wf_spSet _ _ hw.3 | exact wf_filter _ hw.1 | exact wf_nil _) |
                    with_reducible apply ev_updateLoop | with_reducible apply ev_updRg | with_reducible apply ev_wr |
                    with_reducible apply ev_each | with_reducible apply ev_foldl | with_reducible apply ev_foldl_snd |
                    with_reducible apply ev_foldl_fst | (intro u a hu) | (intro u hu) | split | dsimp only | (intro x))

theorem ev_loopCommand (h : Ev m s t) (a1 : Nat) (a2 : Nat) (a3 : Nat) (a4 : Nat)
    (hm : 0x10022 ||| m = m) : Ev m s (State.loopCommand t a1 a2 a3 a4) := by
  unfold State.loopCommand
  repeat' (first | with_reducible assumption | exact sub hm (by decide) | with_reducible exact fun hw => hw |
                    with_reducible exact fun hw => ⟨hw.1, hw.2, hw.3⟩ | with_reducible apply ev_aev |
                    with_reducible apply ev_wr | with_reducible apply ev_updRg | (intro u a hu) | (intro u hu) | split |
                    dsimp only | (intro x))

theorem ev_execLoopUpdate (h : Ev m s t) (a0 : Nat) (u : State) (hu : execLoopUpdate a0 t = .next u)
    (hm : 0x10022 ||| m = m) : Ev m s u := by
  unfold execLoopUpdate at hu; injection hu with hu; subst hu
  repeat' (first | with_reducible assumption | exact sub hm (by decide) | with_reducible apply ev_loopUpdate |
                    (intro u a hu) | (intro u hu) | split | dsimp only | (intro x))

theorem ev_execToManual (h : Ev m s t) (a0 : Nat) (a1 : Nat) (a2 : Nat) (a3 : Nat) (u : State) (hu : execToManual a0 a1 a2
    a3 t = .next u)
    (hm : 0x10022 ||| m = m) : Ev m s u := by
  unfold execToManual at hu; injection hu with hu; subst hu
  repeat' (first | with_reducible assumption | exact sub hm (by decide) | with_reducible apply ev_loopCommand |
                    (intro u a hu) | (intro u hu) | split | dsimp only | (intro x))

theorem ev_execSetMan (h : Ev m s t) (a0 : Nat) (a1 : Nat) (a2 : Nat) (a3 : Nat) (u : State) (hu : execSetMan a0 a1 a2 a3 t
    = .next u)
    (hm : 0x10022 ||| m = m) : Ev m s u := by
  unfold execSetMan at hu; injection hu with hu; subst hu
  repeat' (first | with_reducible assumption | exact sub hm (by decide) | with_reducible apply ev_loopCommand |
                    (intro u a hu) | (intro u hu) | split | dsimp only | (intro x))

theorem ev_execToAuto (h : Ev m s t) (a0 : Nat) (a1 : Nat) (a2 : Nat) (a3 : Nat) (u : State) (hu : execToAuto a0 a1 a2 a3 t
    = .next u)
    (hm : 0x10022 ||| m = m) : Ev m s u := by
  unfold execToAuto at hu; injection hu with hu; subst hu
  repeat' (first | with_reducible assumption | exact sub hm (by decide) | with_reducible apply ev_loopCommand |
                    (intro u a hu) | (intro u hu) | split | dsimp only | (intro x))

theorem ev_execRead (h : Ev m s t) (a0 : Nat) (a1 : Nat) (a2 : Nat) (a3 : Nat) (u : State) (hu : execRead a0 a1 a2 a3 t =
    .next u)
    (hm : 0x10022 ||| m = m) : Ev m s u := by
  unfold execRead at hu; injection hu with hu; subst hu
  repeat' (first | with_reducible assumption | exact sub hm (by decide) | with_reducible apply ev_loopCommand |
                    (intro u a hu) | (intro u hu) | split | dsimp only | (intro x))

theorem ev_execClear (h : Ev m s t) (a0 : Nat) (a1 : Nat) (a2 : Nat) (a3 : Nat) (u : State) (hu : execClear a0 a1 a2 a3 t =
    .next u)
    (hm : 0x10022 ||| m = m) : Ev m s u := by
  unfold execClear at hu; injection hu with hu; subst hu
  repeat' (first | with_reducible assumption | exact sub hm (by decide) | with_reducible apply ev_loopCommand |
                    (intro u a hu) | (intro u hu) | split | dsimp only | (intro x))

theorem ev_execLoopAlarm (h : Ev m s t) (a0 : Nat) (a1 : Nat) (u : State) (hu : execLoopAlarm a0 a1 t = .next u)
    (hm : 0x10022 ||| m = m) : Ev m s u := by
  unfold execLoopAlarm at hu; injection hu with hu; subst hu
  repeat' (first | with_reducible assumption | exact sub hm (by decide) | with_reducible apply ev_alarmEvent |
                    with_reducible apply ev_setLoop | (intro u a hu) | (intro u hu) | split | dsimp only | (intro x))

theorem ev_execLoopRearm (h : Ev m s t) (a0 : Nat) (a1 : Nat) (u : State) (hu : execLoopRearm a0 a1 t = .next u)
    (hm : 0x10000 ||| m = m) : Ev m s u := by
  unfold execLoopRearm at hu; injection hu with hu; subst hu
  repeat' (first | with_reducible assumption | exact sub hm (by decide) | with_reducible apply ev_setLoop | (intro u a hu) |
                    (intro u hu) | split | dsimp only | (intro x))

end Sys2Proof.Laws
end

