-- ==== Sys2Proof/Laws/EvMedia.lean ====
section
/-! SUPPORT. How the state evolves under the operations and commands of media management, the ledger, tenants and the write
    path: one law for each, over the laws of Evolves.lean. -/

namespace Sys2Proof.Laws

open Sys2Proof Sys2Proof.Machine

variable {m : Nat} {s t : State}

/-! ### Media.lean -/

theorem ev_updMd (h : Ev m s t) (f : Media → Media)
    (hf : Media.Wf t.md → Media.Wf (f t.md))
    (hm : 0x2000 ||| m = m) : Ev m s (t.updMd f) := ev_mk_md h _ hf hm

theorem ev_updTr (h : Ev m s t) (f : Trans → Trans)
    (hf : Memory.wf (fun _ => MapEntry.init) t.tr.map = true → Memory.wf (fun _ => MapEntry.init) (f t.tr).map = true)
    (hm : 0x1000 ||| m = m) : Ev m s (t.updTr f) := ev_mk_tr h _ hf hm

theorem ev_updLg (h : Ev m s t) (f : Ledger → Ledger)
    (hf : Memory.wf (fun _ => 0) t.lg.words = true → Memory.wf (fun _ => 0) (f t.lg).words = true)
    (hm : 0x4000 ||| m = m) : Ev m s (t.updLg f) := ev_mk_lg h _ hf hm

theorem ev_setDie (h : Ev m s t) (a1 : Nat) (a2 : Die → Die)
    (hm : 0x2000 ||| m = m) : Ev m s (State.setDie t a1 a2) := by
  unfold State.setDie
  repeat' (first | with_reducible assumption | exact sub hm (by decide) | with_reducible exact fun hw => hw |
                    with_reducible exact fun hw => wf_spSet _ _ hw | with_reducible exact fun hw => wf_spSetRun _ _ hw |
                    with_reducible exact fun hw => ⟨hw.1, hw.2, hw.3⟩ |
                    (intro hw; constructor <;>
                     with_reducible first | exact hw.1 | exact hw.2 | exact hw.3 | exact wf_spSet _ _ hw.1 | exact wf_spSet _ _ hw.2
                                          | exact wf_spSet _ _ hw.3 | exact wf_filter _ hw.1 | exact wf_filter _ hw.3
                                          | exact wf_spMap _ hw.3 | exact wf_nil _) |
                    with_reducible apply ev_updMd | (intro u a hu) | (intro u hu) | split | dsimp only | (intro x))

theorem ev_setSlc (h : Ev m s t) (a1 : Nat) (a2 : Nat) (a3 : Nat)
    (hm : 0x2000 ||| m = m) : Ev m s (State.setSlc t a1 a2 a3) := by
  unfold State.setSlc
  repeat' (first | with_reducible assumption | exact sub hm (by decide) | with_reducible exact fun hw => hw |
                    with_reducible exact fun hw => wf_spSet _ _ hw | with_reducible exact fun hw => wf_spSetRun _ _ hw |
                    with_reducible exact fun hw => ⟨hw.1, hw.2, hw.3⟩ |
                    (intro hw; constructor <;>
                     with_reducible first | exact hw.1 | exact hw.2 | exact hw.3 | exact wf_spSet _ _ hw.1 | exact wf_spSet _ _ hw.2
                                          | exact wf_spSet _ _ hw.3 | exact wf_filter _ hw.1 | exact wf_filter _ hw.3
                                          | exact wf_spMap _ hw.3 | exact wf_nil _) |
                    with_reducible apply ev_updMd | (intro u a hu) | (intro u hu) | split | dsimp only | (intro x))

theorem ev_setBlk (h : Ev m s t) (a1 : Nat) (a2 : Nat) (a3 : Nat) (a4 : Blk → Blk)
    (hm : 0x2000 ||| m = m) : Ev m s (State.setBlk t a1 a2 a3 a4) := by
  unfold State.setBlk
  repeat' (first | with_reducible assumption | exact sub hm (by decide) | with_reducible exact fun hw => hw |
                    with_reducible exact fun hw => wf_spSet _ _ hw | with_reducible exact fun hw => wf_spSetRun _ _ hw |
                    with_reducible exact fun hw => ⟨hw.1, hw.2, hw.3⟩ |
                    (intro hw; constructor <;>
                     with_reducible first | exact hw.1 | exact hw.2 | exact hw.3 | exact wf_spSet _ _ hw.1 | exact wf_spSet _ _ hw.2
                                          | exact wf_spSet _ _ hw.3 | exact wf_filter _ hw.1 | exact wf_filter _ hw.3
                                          | exact wf_spMap _ hw.3 | exact wf_nil _) |
                    with_reducible apply ev_updMd | (intro u a hu) | (intro u hu) | split | dsimp only | (intro x))

theorem ev_setDieBlk (h : Ev m s t) (a1 : Nat) (a2 : List Nat) (a3 : Blk → Blk)
    (hm : 0x2000 ||| m = m) : Ev m s (State.setDieBlk t a1 a2 a3) := by
  unfold State.setDieBlk
  repeat' (first | with_reducible assumption | exact sub hm (by decide) | with_reducible apply ev_setBlk |
                    with_reducible apply ev_each | (intro u a hu) | (intro u hu) | split | dsimp only | (intro x))

theorem ev_updSb (h : Ev m s t) (a1 : Nat) (a2 : Sb → Sb)
    (hm : 0x2000 ||| m = m) : Ev m s (State.updSb t a1 a2) := by
  unfold State.updSb
  repeat' (first | with_reducible assumption | exact sub hm (by decide) | with_reducible exact fun hw => hw |
                    with_reducible exact fun hw => ⟨hw.1, hw.2, hw.3⟩ | with_reducible apply ev_updMd | (intro u a hu) |
                    (intro u hu) | split | dsimp only | (intro x))

theorem ev_formSb (h : Ev m s t) (a1 : Machine.Stream) (a2 : Nat) (u : State) (hu : State.formSb t a1 a2 = some u)
    (hm : 0x2000 ||| m = m) : Ev m s u := by
  unfold State.formSb at hu
  repeat' (first | with_reducible assumption | exact sub hm (by decide) | with_reducible exact fun hw => hw |
                    with_reducible exact fun hw => ⟨hw.1, hw.2, hw.3⟩ | with_reducible exact fun _ => wf_nil _ |
                    with_reducible apply ev_updMd | with_reducible apply ev_setDieBlk | with_reducible apply ev_each |
                    split at hu | (simp only [Option.some.injEq, Prod.mk.injEq] at hu; obtain ⟨-, -, rfl⟩ := hu) |
                    (simp only [Option.some.injEq, Prod.mk.injEq] at hu; obtain ⟨-, rfl⟩ := hu) |
                    (simp only [Option.some.injEq] at hu; subst hu) | contradiction | dsimp only at hu | (intro u a hu) |
                    (intro u hu) | split | dsimp only | (intro x))

theorem ev_formStream (h : Ev m s t) (a1 : Machine.Stream) (u : State) (hu : State.formStream t a1 = some u)
    (hm : 0x2000 ||| m = m) : Ev m s u := by
  unfold State.formStream at hu
  obtain ⟨k, -, hk⟩ := List.exists_of_findSome?_eq_some hu
  split at hk
  · exact ev_formSb h _ _ _ hk hm
  · contradiction

theorem ev_markLack (h : Ev m s t) (a1 : Sb → Member → Bool) (a2 : Nat)
    (hm : 0x2000 ||| m = m) : Ev m s (State.markLack t a1 a2) := by
  unfold State.markLack
  repeat' (first | with_reducible assumption | exact sub hm (by decide) | with_reducible exact fun hw => hw |
                    with_reducible exact fun hw => ⟨hw.1, hw.2, hw.3⟩ | with_reducible apply ev_updMd | (intro u a hu) |
                    (intro u hu) | split | dsimp only | (intro x))

theorem ev_retireEvent (h : Ev m s t) (a1 : Nat) (a2 : Nat) (a3 : Nat) (a4 : Nat)
    (hm : 0x22 ||| m = m) : Ev m s (State.retireEvent t a1 a2 a3 a4) := by
  unfold State.retireEvent
  repeat' (first | with_reducible assumption | exact sub hm (by decide) | with_reducible apply ev_aev | (intro u a hu) |
                    (intro u hu) | split | dsimp only | (intro x))

theorem ev_noteLoss (h : Ev m s t)
    (hm : 0x2002 ||| m = m) : Ev m s (State.noteLoss t) := by
  unfold State.noteLoss
  repeat' (first | with_reducible assumption | exact sub hm (by decide) | with_reducible exact fun hw => hw |
                    with_reducible exact fun hw => ⟨hw.1, hw.2, hw.3⟩ | with_reducible apply ev_updMd |
                    with_reducible apply ev_wr | (intro u a hu) | (intro u hu) | split | dsimp only | (intro x))

theorem ev_setRec (h : Ev m s t) (a1 : Nat) (a2 : DieRec → DieRec)
    (hm : 0x2000 ||| m = m) : Ev m s (State.setRec t a1 a2) := by
  unfold State.setRec
  repeat' (first | with_reducible assumption | exact sub hm (by decide) | with_reducible exact fun hw => hw |
                    with_reducible exact fun hw => wf_spSet _ _ hw | with_reducible exact fun hw => wf_spSetRun _ _ hw |
                    with_reducible exact fun hw => ⟨hw.1, hw.2, hw.3⟩ |
                    (intro hw; constructor <;>
                     with_reducible first | exact hw.1 | exact hw.2 | exact hw.3 | exact wf_spSet _ _ hw.1 | exact wf_spSet _ _ hw.2
                                          | exact wf_spSet _ _ hw.3 | exact wf_filter _ hw.1 | exact wf_filter _ hw.3
                                          | exact wf_spMap _ hw.3 | exact wf_nil _) |
                    with_reducible apply ev_updMd | (intro u a hu) | (intro u hu) | split | dsimp only | (intro x))

theorem ev_retireChannelIfAll (h : Ev m s t) (a1 : Nat)
    (hm : 0x2022 ||| m = m) : Ev m s (State.retireChannelIfAll t a1) := by
  unfold State.retireChannelIfAll
  repeat' (first | with_reducible assumption | exact sub hm (by decide) | with_reducible exact fun hw => wf_filter _ hw |
                    with_reducible apply ev_setRec | with_reducible apply ev_retireEvent | with_reducible apply ev_count |
                    with_reducible apply ev_wr | with_reducible apply ev_each | (intro u a hu) | (intro u hu) | split |
                    dsimp only | (intro x))

theorem ev_retireDie (h : Ev m s t) (a1 : Nat) (a2 : Nat)
    (hm : 0x2022 ||| m = m) : Ev m s (State.retireDie t a1 a2) := by
  unfold State.retireDie
  repeat' (first | with_reducible assumption | exact sub hm (by decide) | with_reducible apply ev_setRec |
                    with_reducible apply ev_count | with_reducible apply ev_setDie | with_reducible apply ev_retireEvent |
                    with_reducible apply ev_markLack | with_reducible apply ev_noteLoss |
                    with_reducible apply ev_retireChannelIfAll | with_reducible apply ev_each | (intro u a hu) |
                    (intro u hu) | split | dsimp only | (intro x))

theorem ev_retireDieIfWorn (h : Ev m s t) (a1 : Nat)
    (hm : 0x2022 ||| m = m) : Ev m s (State.retireDieIfWorn t a1) := by
  unfold State.retireDieIfWorn
  repeat' (first | with_reducible assumption | exact sub hm (by decide) | with_reducible apply ev_retireDie | (intro u a hu) |
                    (intro u hu) | split | dsimp only | (intro x))

theorem ev_retireBlock (h : Ev m s t) (a1 : Nat) (a2 : List Nat) (a3 : Nat)
    (hm : 0x2022 ||| m = m) : Ev m s (State.retireBlock t a1 a2 a3) := by
  unfold State.retireBlock
  repeat' (first | with_reducible assumption | exact sub hm (by decide) | with_reducible apply ev_setDieBlk |
                    with_reducible apply ev_setRec | with_reducible apply ev_markLack |
                    with_reducible apply ev_retireDieIfWorn | with_reducible apply ev_retireEvent | (intro u a hu) |
                    (intro u hu) | split | dsimp only | (intro x))

/-! ### Flags.lean -/

theorem ev_postCrit (h : Ev m s t)
    (hm : 0x1c02 ||| m = m) : Ev m s (State.postCrit t) := by
  unfold State.postCrit
  repeat' (first | with_reducible assumption | exact sub hm (by decide) | with_reducible exact fun hw => hw |
                    with_reducible apply ev_updNv | with_reducible apply ev_postAenAll | (intro u a hu) | (intro u hu) |
                    split | dsimp only | (intro x))

/-! ### Envelope.lean -/

theorem ev_takeTemps (h : Ev m s t) (a1 : List Int)
    (hm : 0x10022 ||| m = m) : Ev m s (State.takeTemps t a1) := by
  unfold State.takeTemps
  repeat' (first | with_reducible assumption | exact sub hm (by decide) | with_reducible exact fun hw => hw |
                    with_reducible exact fun hw => ⟨hw.1, hw.2, hw.3⟩ | with_reducible apply ev_updRg |
                    with_reducible apply ev_wr | with_reducible apply ev_updEvt | with_reducible apply ev_each |
                    (intro u a hu) | (intro u hu) | split | dsimp only | (intro x))

theorem ev_takePower (h : Ev m s t) (a1 : Nat) (a2 : List (Nat × Nat))
    (hm : 0x4002 ||| m = m) : Ev m s (State.takePower t a1 a2) := by
  unfold State.takePower
  repeat' (first | with_reducible assumption | exact sub hm (by decide) | with_reducible exact fun hw => hw |
                    with_reducible apply ev_wr | with_reducible apply ev_each | (intro u a hu) | (intro u hu) | split |
                    dsimp only | (intro x) | with_reducible apply ev_mk_lg)

theorem ev_envelopeUpdate (h : Ev m s t) (a1 : Nat) (a2 : List Int) (a3 : List (Nat × Nat))
    (hm : 0x15c22 ||| m = m) : Ev m s (State.envelopeUpdate t a1 a2 a3) := by
  unfold State.envelopeUpdate
  repeat' (first | with_reducible assumption | exact sub hm (by decide) | with_reducible exact fun hw => hw |
                    with_reducible exact fun hw => wf_spSet _ _ hw | with_reducible exact fun hw => wf_spSetRun _ _ hw |
                    with_reducible exact fun hw => ⟨hw.1, hw.2, hw.3⟩ |
                    (intro hw; constructor <;>
                     with_reducible first | exact hw.1 | exact hw.2 | exact hw.3 | exact wf_spSet _ _ hw.1 | exact wf_spSet _ _ hw.2
                                          | exact wf_spSet _ _ hw.3 | exact wf_filter _ hw.1 | exact wf_nil _) |
                    with_reducible apply ev_takePower | with_reducible apply ev_takeTemps | with_reducible apply ev_updRg |
                    with_reducible apply ev_wr | with_reducible apply ev_postCrit | with_reducible apply ev_each |
                    (intro u a hu) | (intro u hu) | split | dsimp only | (intro x))

theorem ev_execEnvelopeUpdate (h : Ev m s t) (a0 : Nat) (a1 : List Int) (a2 : List (Nat × Nat)) (u : State) (hu :
    execEnvelopeUpdate a0 a1 a2 t = .next u)
    (hm : 0x15c22 ||| m = m) : Ev m s u := by
  unfold execEnvelopeUpdate at hu; injection hu with hu; subst hu
  repeat' (first | with_reducible assumption | exact sub hm (by decide) | with_reducible apply ev_envelopeUpdate |
                    (intro u a hu) | (intro u hu) | split | dsimp only | (intro x))

theorem ev_execThermalFence (h : Ev m s t)  (u : State) (hu : execThermalFence t = .next u)
    (hm : 0x200d22 ||| m = m) : Ev m s u := by
  unfold execThermalFence at hu; injection hu with hu; subst hu
  repeat' (first | with_reducible assumption | exact sub hm (by decide) | with_reducible apply ev_fence | (intro u a hu) |
                    (intro u hu) | split | dsimp only | (intro x))

/-! ### Ledger.lean -/

theorem ev_ringWrite (h : Ev m s t) (a1 : Nat) (a2 : List Nat)
    (hm : 0x4000 ||| m = m) : Ev m s (State.ringWrite t a1 a2) := by
  unfold State.ringWrite
  repeat' (first | with_reducible assumption | exact sub hm (by decide) | with_reducible apply ev_ledgerWrite |
                    (intro u a hu) | (intro u hu) | split | dsimp only | (intro x))

theorem ev_beginRec (h : Ev m s t) (a1 : Nat → JBody) (a2 : Bool) (v0 : Nat) (u : State) (hu : State.beginRec t a1 a2 = some
    (v0, u))
    (hm : 0x4000 ||| m = m) : Ev m s u := by
  unfold State.beginRec at hu
  repeat' (first | with_reducible assumption | exact sub hm (by decide) | with_reducible exact fun hw => hw |
                    with_reducible apply ev_updLg | with_reducible apply ev_ringWrite | split at hu |
                    (simp only [Option.some.injEq, Prod.mk.injEq] at hu; obtain ⟨-, -, rfl⟩ := hu) |
                    (simp only [Option.some.injEq, Prod.mk.injEq] at hu; obtain ⟨-, rfl⟩ := hu) |
                    (simp only [Option.some.injEq] at hu; subst hu) | contradiction | dsimp only at hu | (intro u a hu) |
                    (intro u hu) | split | dsimp only | (intro x))

theorem ev_endRec (h : Ev m s t) (a1 : Nat)
    (hm : 0x4002 ||| m = m) : Ev m s (State.endRec t a1) := by
  unfold State.endRec
  repeat' (first | with_reducible assumption | exact sub hm (by decide) | with_reducible exact fun hw => hw |
                    with_reducible exact fun hw => wf_filter _ hw | with_reducible apply ev_ledgerWrite |
                    with_reducible apply ev_updLg | with_reducible apply ev_wr | with_reducible apply ev_each |
                    (intro u a hu) | (intro u hu) | split | dsimp only | (intro x))

theorem ev_writeRec (h : Ev m s t) (a1 : JBody) (u : State) (hu : State.writeRec t a1 = some u)
    (hm : 0x4002 ||| m = m) : Ev m s u := by
  unfold State.writeRec at hu
  repeat' (first | with_reducible assumption | exact sub hm (by decide) |
                    (refine ev_beginRec ?_ _ _ _ _ (by with_reducible assumption) ?_) | with_reducible apply ev_endRec |
                    split at hu | (simp only [Option.some.injEq, Prod.mk.injEq] at hu; obtain ⟨-, -, rfl⟩ := hu) |
                    (simp only [Option.some.injEq, Prod.mk.injEq] at hu; obtain ⟨-, rfl⟩ := hu) |
                    (simp only [Option.some.injEq] at hu; subst hu) | contradiction | dsimp only at hu | (intro u a hu) |
                    (intro u hu) | split | dsimp only | (intro x))

theorem ev_writeAnchor (h : Ev m s t) (a1 : Nat) (a2 : Nat)
    (hm : 0x4000 ||| m = m) : Ev m s (State.writeAnchor t a1 a2) := by
  unfold State.writeAnchor
  repeat' (first | with_reducible assumption | exact sub hm (by decide) | with_reducible exact fun hw => hw |
                    with_reducible apply ev_updLg | with_reducible apply ev_ledgerWrite | (intro u a hu) | (intro u hu) |
                    split | dsimp only | (intro x))

theorem ev_setLive (h : Ev m s t) (a1 : List JRec → List JRec)
    (hm : 0x4000 ||| m = m) : Ev m s (State.setLive t a1) := by
  unfold State.setLive
  repeat' (first | with_reducible assumption | exact sub hm (by decide) | with_reducible exact fun hw => hw |
                    with_reducible apply ev_updLg | with_reducible apply ev_writeAnchor | (intro u a hu) | (intro u hu) |
                    split | dsimp only | (intro x))

theorem ev_satisfy (h : Ev m s t) (a1 : Nat) (a2 : Nat)
    (hm : 0x4000 ||| m = m) : Ev m s (State.satisfy t a1 a2) := by
  unfold State.satisfy
  repeat' (first | with_reducible assumption | exact sub hm (by decide) | with_reducible exact fun hw => wf_filter _ hw |
                    with_reducible apply ev_setLive | (intro u a hu) | (intro u hu) | split | dsimp only | (intro x))

theorem ev_setMap (h : Ev m s t) (a1 : Nat) (a2 : MapEntry)
    (hm : 0x1000 ||| m = m) : Ev m s (State.setMap t a1 a2) := by
  unfold State.setMap
  repeat' (first | with_reducible assumption | exact sub hm (by decide) | with_reducible exact fun hw => hw |
                    with_reducible exact fun hw => wf_spSet _ _ hw | with_reducible exact fun hw => wf_spSetRun _ _ hw |
                    with_reducible apply ev_updTr | (intro u a hu) | (intro u hu) | split | dsimp only | (intro x))

theorem ev_pumpDeltas (h : Ev m s t)
    (hm : 0x5000 ||| m = m) : Ev m s (State.pumpDeltas t) := by
  unfold State.pumpDeltas
  repeat' (first | with_reducible assumption | exact sub hm (by decide) | with_reducible exact fun hw => hw |
                    with_reducible exact fun hw => wf_filter _ hw |
                    (refine ev_beginRec ?_ _ _ _ _ (by with_reducible assumption) ?_) | with_reducible apply ev_updTr |
                    with_reducible apply ev_foldl | with_reducible apply ev_foldl_snd | with_reducible apply ev_foldl_fst |
                    (intro u a hu) | (intro u hu) | split | dsimp only | (intro x))

theorem ev_issueMap (h : Ev m s t) (a1 : Nat) (a2 : Nat) (a3 : Nat) (a4 : Bool) (a5 : Bool) (a6 : Option Nat) (a7 : Nat) (a8
    : List Nat)
    (hm : 0x5000 ||| m = m) : Ev m s (State.issueMap t a1 a2 a3 a4 a5 a6 a7 a8) := by
  unfold State.issueMap
  repeat' (first | with_reducible assumption | exact sub hm (by decide) | with_reducible exact fun hw => hw |
                    with_reducible apply ev_pumpDeltas | with_reducible apply ev_updTr | (intro u a hu) | (intro u hu) |
                    split | dsimp only | (intro x))

theorem ev_poisonTart (h : Ev m s t) (a1 : Nat)
    (hm : 0x5000 ||| m = m) : Ev m s (State.poisonTart t a1) := by
  unfold State.poisonTart
  repeat' (first | with_reducible assumption | exact sub hm (by decide) | with_reducible apply ev_issueMap | (intro u a hu) |
                    (intro u hu) | split | dsimp only | (intro x))

theorem ev_setC1h (h : Ev m s t) (a1 : Nat) (a2 : C1h)
    (hm : 0x4800 ||| m = m) : Ev m s (State.setC1h t a1 a2) := by
  unfold State.setC1h
  repeat' (first | with_reducible assumption | exact sub hm (by decide) | with_reducible apply ev_ledgerWrite |
                    with_reducible apply ev_updFn | (intro u a hu) | (intro u hu) | split | dsimp only | (intro x))

theorem ev_addC1h (h : Ev m s t) (a1 : Nat) (a2 : C1hEntry)
    (hm : 0x5c02 ||| m = m) : Ev m s (State.addC1h t a1 a2) := by
  unfold State.addC1h
  repeat' (first | with_reducible assumption | exact sub hm (by decide) | with_reducible apply ev_setC1h |
                    with_reducible apply ev_postAen | (intro u a hu) | (intro u hu) | split | dsimp only | (intro x))

theorem ev_deferError (h : Ev m s t) (a1 : Nat) (a2 : Nat) (a3 : Nat) (a4 : Nat) (a5 : Nat) (a6 : List Nat)
    (hm : 0x5c02 ||| m = m) : Ev m s (State.deferError t a1 a2 a3 a4 a5 a6) := by
  unfold State.deferError
  repeat' (first | with_reducible assumption | exact sub hm (by decide) | with_reducible apply ev_addC1h |
                    with_reducible apply ev_count | with_reducible apply ev_poisonTart | with_reducible apply ev_each |
                    (intro u a hu) | (intro u hu) | split | dsimp only | (intro x))

theorem ev_lostTart (h : Ev m s t) (a1 : Nat) (a2 : Nat)
    (hm : 0x5c02 ||| m = m) : Ev m s (State.lostTart t a1 a2) := by
  unfold State.lostTart
  repeat' (first | with_reducible assumption | exact sub hm (by decide) | with_reducible apply ev_poisonTart |
                    with_reducible apply ev_count | with_reducible apply ev_addC1h | with_reducible apply ev_each |
                    (intro u a hu) | (intro u hu) | split | dsimp only | (intro x))

theorem ev_sizeFlush (h : Ev m s t)
    (hm : 0x4000 ||| m = m) : Ev m s (State.sizeFlush t) := by
  unfold State.sizeFlush
  repeat' (first | with_reducible assumption | exact sub hm (by decide) | with_reducible exact fun hw => hw |
                    with_reducible apply ev_updLg | (intro u a hu) | (intro u hu) | split | dsimp only | (intro x))

theorem ev_setFlushUsed (h : Ev m s t) (a1 : Nat × Nat) (a2 : Nat)
    (hm : 0x4000 ||| m = m) : Ev m s (State.setFlushUsed t a1 a2) := by
  unfold State.setFlushUsed
  repeat' (first | with_reducible assumption | exact sub hm (by decide) | with_reducible exact fun hw => hw |
                    with_reducible exact fun hw => wf_spSet _ _ hw | with_reducible exact fun hw => wf_spSetRun _ _ hw |
                    with_reducible apply ev_updLg | (intro u a hu) | (intro u hu) | split | dsimp only | (intro x))

theorem ev_setBudget (h : Ev m s t)
    (hm : 0x2 ||| m = m) : Ev m s (State.setBudget t) := by
  unfold State.setBudget
  repeat' (first | with_reducible assumption | exact sub hm (by decide) | with_reducible apply ev_wr | (intro u a hu) |
                    (intro u hu) | split | dsimp only | (intro x))

theorem ev_writeDir (h : Ev m s t) (a1 : Nat) (a2 : Nat) (a3 : Nat)
    (hm : 0x4000 ||| m = m) : Ev m s (State.writeDir t a1 a2 a3) := by
  unfold State.writeDir
  repeat' (first | with_reducible assumption | exact sub hm (by decide) | with_reducible exact fun hw => hw |
                    with_reducible exact fun hw => wf_filter _ hw | with_reducible apply ev_updLg |
                    with_reducible apply ev_ledgerWrite | (intro u a hu) | (intro u hu) | split | dsimp only | (intro x))

theorem ev_dropDirs (h : Ev m s t) (a1 : List Nat)
    (hm : 0x4000 ||| m = m) : Ev m s (State.dropDirs t a1) := by
  unfold State.dropDirs
  repeat' (first | with_reducible assumption | exact sub hm (by decide) | with_reducible exact fun hw => hw |
                    with_reducible exact fun hw => wf_filter _ hw | with_reducible apply ev_updLg |
                    with_reducible apply ev_ledgerWrite | with_reducible apply ev_each | (intro u a hu) | (intro u hu) |
                    split | dsimp only | (intro x))

theorem ev_carryOne (h : Ev m s t)
    (hm : 0x5002 ||| m = m) : Ev m s (State.carryOne t) := by
  unfold State.carryOne
  repeat' (first | with_reducible assumption | exact sub hm (by decide) | with_reducible exact fun hw => hw |
                    with_reducible exact fun hw => wf_filter _ hw |
                    (refine ev_beginRec ?_ _ _ _ _ (by with_reducible assumption) ?_) | with_reducible apply ev_count |
                    with_reducible apply ev_endRec | with_reducible apply ev_updTr | with_reducible apply ev_setLive |
                    (intro u a hu) | (intro u hu) | split | dsimp only | (intro x))

theorem ev_carry (h : Ev m s t) (a1 : Nat)
    (hm : 0x5002 ||| m = m) : Ev m s (State.carry t a1) := by
  induction a1 generalizing t with
  | zero => exact h
  | succ n ih =>
    unfold State.carry
    repeat' (first | with_reducible assumption | exact sub hm (by decide) | with_reducible exact fun hw => hw |
                      with_reducible exact fun hw => ⟨hw.1, hw.2, hw.3⟩ | with_reducible apply ih |
                      with_reducible apply ev_carryOne | split | dsimp only)

theorem ev_execRingCarry (h : Ev m s t)  (u : State) (hu : execRingCarry t = .next u)
    (hm : 0x5002 ||| m = m) : Ev m s u := by
  unfold execRingCarry at hu; injection hu with hu; subst hu
  repeat' (first | with_reducible assumption | exact sub hm (by decide) | with_reducible apply ev_carry | (intro u a hu) |
                    (intro u hu) | split | dsimp only | (intro x))

theorem ev_ledgerBad (h : Ev m s t) (a1 : Nat)
    (hm : 0x22 ||| m = m) : Ev m s (State.ledgerBad t a1) := by
  unfold State.ledgerBad
  repeat' (first | with_reducible assumption | exact sub hm (by decide) | with_reducible apply ev_aev |
                    with_reducible apply ev_count | with_reducible apply ev_wr | (intro u a hu) | (intro u hu) | split |
                    dsimp only | (intro x))

theorem ev_execLedgerPatrol (h : Ev m s t) (a0 : Nat) (a1 : Nat) (u : State) (hu : execLedgerPatrol a0 a1 t = .next u)
    (hm : 0x22 ||| m = m) : Ev m s u := by
  unfold execLedgerPatrol at hu; injection hu with hu; subst hu
  repeat' (first | with_reducible assumption | exact sub hm (by decide) | with_reducible apply ev_count |
                    with_reducible apply ev_ledgerBad | (intro u a hu) | (intro u hu) | split | dsimp only | (intro x))

/-! ### Tenants.lean -/

theorem ev_commitFactor (h : Ev m s t) (a1 : Nat) (a2 : Nat)
    (hm : 0x202 ||| m = m) : Ev m s (State.commitFactor t a1 a2) := by
  unfold State.commitFactor
  repeat' (first | with_reducible assumption | exact sub hm (by decide) | with_reducible apply ev_wr |
                    with_reducible apply ev_updSched | with_reducible apply ev_each | (intro u a hu) | (intro u hu) | split |
                    dsimp only | (intro x))

theorem ev_noteRise (h : Ev m s t) (a1 : Nat)
    (hm : 0x200 ||| m = m) : Ev m s (State.noteRise t a1) := by
  unfold State.noteRise
  repeat' (first | with_reducible assumption | exact sub hm (by decide) | with_reducible apply ev_updSched | (intro u a hu) |
                    (intro u hu) | split | dsimp only | (intro x))

theorem ev_computeFactor (h : Ev m s t)
    (hm : 0x202 ||| m = m) : Ev m s (State.computeFactor t) := by
  unfold State.computeFactor
  repeat' (first | with_reducible assumption | exact sub hm (by decide) | with_reducible apply ev_noteRise |
                    with_reducible apply ev_commitFactor | (intro u a hu) | (intro u hu) | split | dsimp only | (intro x))

theorem ev_carrySets (h : Ev m s t) (a1 : Nat) (a2 : Sparse TenSet)
    (hm : 0x202 ||| m = m) : Ev m s (State.carrySets t a1 a2) := by
  unfold State.carrySets
  repeat' (first | with_reducible assumption | exact sub hm (by decide) | with_reducible apply ev_updSched |
                    with_reducible apply ev_wr | with_reducible apply ev_each | (intro u a hu) | (intro u hu) | split |
                    dsimp only | (intro x))

theorem ev_publishFactor (h : Ev m s t) (a1 : Nat) (a2 : Nat)
    (hm : 0x1e22 ||| m = m) : Ev m s (State.publishFactor t a1 a2) := by
  unfold State.publishFactor
  repeat' (first | with_reducible assumption | exact sub hm (by decide) | with_reducible apply ev_updSched |
                    with_reducible apply ev_wr | with_reducible apply ev_postAenAll | with_reducible apply ev_aev |
                    with_reducible apply ev_count | (intro u a hu) | (intro u hu) | split | dsimp only | (intro x))

theorem ev_refuseAdmission (h : Ev m s t) (a1 : Nat × Nat × Nat) (a2 : Nat)
    (hm : 0x22 ||| m = m) : Ev m s (State.refuseAdmission t a1 a2) := by
  unfold State.refuseAdmission
  repeat' (first | with_reducible assumption | exact sub hm (by decide) | with_reducible apply ev_wr |
                    with_reducible apply ev_aev | (intro u a hu) | (intro u hu) | split | dsimp only | (intro x))

theorem ev_admitSets (h : Ev m s t) (a1 : List (Nat × Nat × Nat))
    (hm : 0x202 ||| m = m) : Ev m s (State.admitSets t a1) := by
  unfold State.admitSets
  repeat' (first | with_reducible assumption | exact sub hm (by decide) | with_reducible exact fun hw => wf_filter _ hw |
                    with_reducible apply ev_updSched | with_reducible apply ev_wr | with_reducible apply ev_each |
                    (intro u a hu) | (intro u hu) | split | dsimp only | (intro x))

theorem ev_latchPoint (h : Ev m s t)
    (hm : 0x1e23 ||| m = m) : Ev m s (State.latchPoint t) := by
  unfold State.latchPoint
  repeat' (first | with_reducible assumption | exact sub hm (by decide) | with_reducible exact fun hw => hw |
                    with_reducible apply ev_refill | with_reducible apply ev_updSched | with_reducible apply ev_rejectPlan |
                    with_reducible apply ev_latchPlan | with_reducible apply ev_carrySets |
                    with_reducible apply ev_publishFactor | (intro u a hu) | (intro u hu) | split | dsimp only | (intro x) |
                    with_reducible apply ev_mk_time)

theorem ev_execBarLatchPoint (h : Ev m s t)  (u : State) (hu : execBarLatchPoint t = .next u)
    (hm : 0x1e23 ||| m = m) : Ev m s u := by
  unfold execBarLatchPoint at hu; injection hu with hu; subst hu
  repeat' (first | with_reducible assumption | exact sub hm (by decide) | with_reducible apply ev_latchPoint |
                    (intro u a hu) | (intro u hu) | split | dsimp only | (intro x))

/-! ### WritePath.lean -/

theorem ev_takeGrant (h : Ev m s t) (a1 : Hdr) (v0 : Grant) (u : State) (hu : State.takeGrant t a1 = some (v0, u))
    (hm : 0x800 ||| m = m) : Ev m s u := by
  unfold State.takeGrant at hu
  repeat' (first | with_reducible assumption | exact sub hm (by decide) | with_reducible exact fun hw => hw |
                    with_reducible apply ev_updNv | split at hu |
                    (simp only [Option.some.injEq, Prod.mk.injEq] at hu; obtain ⟨-, -, rfl⟩ := hu) |
                    (simp only [Option.some.injEq, Prod.mk.injEq] at hu; obtain ⟨-, rfl⟩ := hu) |
                    (simp only [Option.some.injEq] at hu; subst hu) | contradiction | dsimp only at hu | (intro u a hu) |
                    (intro u hu) | split | dsimp only | (intro x))

theorem ev_openCtx (h : Ev m s t) (a1 : Grant) (a2 : Hdr) (a3 : Cmd) (a4 : Nat) (a5 : Nat) (a6 : Nat) (a7 : Xfer)
    (hm : 0x800 ||| m = m) : Ev m s (State.openCtx t a1 a2 a3 a4 a5 a6 a7).2 := by
  unfold State.openCtx
  repeat' (first | with_reducible assumption | exact sub hm (by decide) | with_reducible exact fun hw => hw |
                    with_reducible exact fun _ => wf_nil _ | with_reducible apply ev_updNv | (intro u a hu) | (intro u hu) |
                    split | dsimp only | (intro x))

theorem ev_openCtx_eq  (h : Ev m s t) (a1 : Grant) (a2 : Hdr) (a3 : Cmd) (a4 : Nat) (a5 : Nat) (a6 : Nat) (a7 : Xfer)  (v :
    Nat) (u : State)
    (e : State.openCtx t a1 a2 a3 a4 a5 a6 a7 = (v, u))
    (hm : 0x800 ||| m = m) : Ev m s u := by
  have k := ev_openCtx h a1 a2 a3 a4 a5 a6 a7  hm; rw [e] at k; exact k

theorem ev_dropReads (h : Ev m s t) (a1 : Op → Bool)
    (hm : 0x2000 ||| m = m) : Ev m s (State.dropReads t a1) := by
  unfold State.dropReads
  repeat' (first | with_reducible assumption | exact sub hm (by decide) | with_reducible exact fun hw => hw |
                    with_reducible exact fun hw => wf_filter _ hw | with_reducible exact fun hw => ⟨hw.1, hw.2, hw.3⟩ |
                    (intro hw; constructor <;>
                     with_reducible first | exact hw.1 | exact hw.2 | exact hw.3 | exact wf_spSet _ _ hw.1 | exact wf_spSet _ _ hw.2
                                          | exact wf_spSet _ _ hw.3 | exact wf_filter _ hw.1 | exact wf_filter _ hw.3
                                          | exact wf_spMap _ hw.3 | exact wf_nil _) |
                    with_reducible apply ev_updMd | (intro u a hu) | (intro u hu) | split | dsimp only | (intro x))

theorem ev_cmbPut (h : Ev m s t) (a1 : Nat) (a2 : List Byte)
    (hm : 0x20000 ||| m = m) : Ev m s (State.cmbPut t a1 a2) := by
  unfold State.cmbPut
  repeat' (first | with_reducible assumption | exact sub hm (by decide) | with_reducible exact fun hw => hw |
                    with_reducible exact fun hw => wf_spSet _ _ hw | with_reducible exact fun hw => wf_spSetRun _ _ hw |
                    with_reducible exact fun hw => wf_filter _ hw | with_reducible apply ev_updDr | (intro u a hu) |
                    (intro u hu) | split | dsimp only | (intro x))

theorem ev_cmbSector (h : Ev m s t) (a1 : Nat) (a2 : Ns) (a3 : Nat) (a4 : Nat) (a5 : Sector)
    (hm : 0x20000 ||| m = m) : Ev m s (State.cmbSector t a1 a2 a3 a4 a5) := by
  unfold State.cmbSector
  repeat' (first | with_reducible assumption | exact sub hm (by decide) | with_reducible exact fun hw => hw |
                    with_reducible apply ev_cmbPut | with_reducible apply ev_updDr | with_reducible apply ev_foldl |
                    with_reducible apply ev_foldl_snd | with_reducible apply ev_foldl_fst | (intro u a hu) | (intro u hu) |
                    split | dsimp only | (intro x))

theorem ev_updPart (h : Ev m s t) (a1 : Nat) (a2 : Part → Part)
    (hm : 0x1000 ||| m = m) : Ev m s (State.updPart t a1 a2) := by
  unfold State.updPart
  repeat' (first | with_reducible assumption | exact sub hm (by decide) | with_reducible exact fun hw => hw |
                    with_reducible apply ev_updTr | (intro u a hu) | (intro u hu) | split | dsimp only | (intro x))

theorem ev_updVer (h : Ev m s t) (a1 : Nat) (a2 : Ver → Ver)
    (hm : 0x1000 ||| m = m) : Ev m s (State.updVer t a1 a2) := by
  unfold State.updVer
  repeat' (first | with_reducible assumption | exact sub hm (by decide) | with_reducible exact fun hw => hw |
                    with_reducible apply ev_updTr | (intro u a hu) | (intro u hu) | split | dsimp only | (intro x))

theorem ev_allocPart (h : Ev m s t) (a1 : Part) (u : State) (hu : State.allocPart t a1 = some u)
    (hm : 0x5000 ||| m = m) : Ev m s u := by
  unfold State.allocPart at hu
  repeat' (first | with_reducible assumption | exact sub hm (by decide) | with_reducible exact fun hw => hw |
                    with_reducible apply ev_updPart | with_reducible apply ev_updTr | with_reducible apply ev_dropDirs |
                    with_reducible apply ev_foldl | with_reducible apply ev_foldl_snd | with_reducible apply ev_foldl_fst |
                    split at hu | (simp only [Option.some.injEq, Prod.mk.injEq] at hu; obtain ⟨-, -, rfl⟩ := hu) |
                    (simp only [Option.some.injEq, Prod.mk.injEq] at hu; obtain ⟨-, rfl⟩ := hu) |
                    (simp only [Option.some.injEq] at hu; subst hu) | contradiction | dsimp only at hu | (intro u a hu) |
                    (intro u hu) | split | dsimp only | (intro x))

theorem ev_placeSector (h : Ev m s t) (a1 : Ctx) (a2 : Nat) (a3 : Sector)
    (hm : 0x1000 ||| m = m) : Ev m s (State.placeSector t a1 a2 a3) := by
  unfold State.placeSector
  repeat' (first | with_reducible assumption | exact sub hm (by decide) | with_reducible exact fun hw => hw |
                    with_reducible exact fun hw => wf_filter _ hw | with_reducible apply ev_updTr | (intro u a hu) |
                    (intro u hu) | split | dsimp only | (intro x))

theorem ev_placeData (h : Ev m s t) (a1 : Nat)
    (hm : 0x1000 ||| m = m) : Ev m s (State.placeData t a1) := by
  unfold State.placeData
  repeat' (first | with_reducible assumption | exact sub hm (by decide) | with_reducible apply ev_placeSector |
                    with_reducible apply ev_each | (intro u a hu) | (intro u hu) | split | dsimp only | (intro x))

theorem ev_grantParts (h : Ev m s t)
    (hm : 0x5000 ||| m = m) : Ev m s (State.grantParts t) := by
  unfold State.grantParts
  repeat' (first | with_reducible assumption | exact sub hm (by decide) | with_reducible exact fun hw => wf_filter _ hw |
                    (refine ev_allocPart ?_ _ _ (by with_reducible assumption) ?_) | with_reducible apply ev_placeData |
                    with_reducible apply ev_foldl | with_reducible apply ev_foldl_snd | with_reducible apply ev_foldl_fst |
                    (intro u a hu) | (intro u hu) | split | dsimp only | (intro x))

theorem ev_freeVers (h : Ev m s t)
    (hm : 0x5000 ||| m = m) : Ev m s (State.freeVers t) := by
  unfold State.freeVers
  repeat' (first | with_reducible assumption | exact sub hm (by decide) | with_reducible exact fun hw => hw |
                    with_reducible exact fun hw => wf_filter _ hw | with_reducible apply ev_grantParts |
                    with_reducible apply ev_updTr | (intro u a hu) | (intro u hu) | split | dsimp only | (intro x))

theorem ev_dropPart (h : Ev m s t) (a1 : Part)
    (hm : 0x1000 ||| m = m) : Ev m s (State.dropPart t a1) := by
  unfold State.dropPart
  repeat' (first | with_reducible assumption | exact sub hm (by decide) | with_reducible exact fun hw => hw |
                    with_reducible exact fun hw => wf_filter _ hw | with_reducible apply ev_updTr | (intro u a hu) |
                    (intro u hu) | split | dsimp only | (intro x))

theorem ev_dropParts (h : Ev m s t) (a1 : Nat)
    (hm : 0x5000 ||| m = m) : Ev m s (State.dropParts t a1) := by
  unfold State.dropParts
  repeat' (first | with_reducible assumption | exact sub hm (by decide) | with_reducible exact fun hw => wf_filter _ hw |
                    with_reducible apply ev_grantParts | with_reducible apply ev_dropPart | with_reducible apply ev_each |
                    (intro u a hu) | (intro u hu) | split | dsimp only | (intro x))

theorem ev_releaseCtx (h : Ev m s t) (a1 : Nat)
    (hm : 0x3800 ||| m = m) : Ev m s (State.releaseCtx t a1) := by
  unfold State.releaseCtx
  repeat' (first | with_reducible assumption | exact sub hm (by decide) | with_reducible exact fun hw => hw |
                    with_reducible exact fun hw => wf_filter _ hw | with_reducible exact fun _ => wf_nil _ |
                    with_reducible apply ev_updTr | with_reducible apply ev_dropReads | with_reducible apply ev_updCtx |
                    (intro u a hu) | (intro u hu) | split | dsimp only | (intro x))

theorem ev_countCmd (h : Ev m s t) (a1 : Ctx)
    (hm : 0x800 ||| m = m) : Ev m s (State.countCmd t a1) := by
  unfold State.countCmd
  repeat' (first | with_reducible assumption | exact sub hm (by decide) | with_reducible apply ev_updFn | (intro u a hu) |
                    (intro u hu) | split | dsimp only | (intro x))

theorem ev_checkShut (h : Ev m s t)
    (hm : 0x800 ||| m = m) : Ev m s (State.checkShut t) := by
  unfold State.checkShut
  repeat' (first | with_reducible assumption | exact sub hm (by decide) | with_reducible exact fun hw => wf_filter _ hw |
                    with_reducible apply ev_updFn | with_reducible apply ev_each | (intro u a hu) | (intro u hu) | split |
                    dsimp only | (intro x))

theorem ev_finish (h : Ev m s t) (a1 : Nat) (a2 : Nat) (a3 : Nat) (a4 : Nat)
    (hm : 0x7c02 ||| m = m) : Ev m s (State.finish t a1 a2 a3 a4) := by
  unfold State.finish
  repeat' (first | with_reducible assumption | exact sub hm (by decide) | with_reducible exact fun _ => wf_nil _ |
                    with_reducible apply ev_dropParts | with_reducible apply ev_countCmd |
                    with_reducible apply ev_releaseCtx | with_reducible apply ev_updFn | with_reducible apply ev_updCtx |
                    with_reducible apply ev_checkShut | with_reducible apply ev_freeVers | with_reducible apply ev_complete |
                    (intro u a hu) | (intro u hu) | split | dsimp only | (intro x))

theorem ev_killCtx (h : Ev m s t) (a1 : Nat)
    (hm : 0x7800 ||| m = m) : Ev m s (State.killCtx t a1) := by
  unfold State.killCtx
  repeat' (first | with_reducible assumption | exact sub hm (by decide) | with_reducible exact fun hw => hw |
                    with_reducible exact fun hw => wf_filter _ hw | with_reducible apply ev_releaseCtx |
                    with_reducible apply ev_dropParts | with_reducible apply ev_updTr | with_reducible apply ev_freeVers |
                    with_reducible apply ev_updNv | (intro u a hu) | (intro u hu) | split | dsimp only | (intro x))

theorem ev_addParts (h : Ev m s t) (a1 : Nat) (a2 : Nat) (a3 : Nat) (a4 : Nat) (a5 : List (Nat × Nat))
    (hm : 0x5800 ||| m = m) : Ev m s (State.addParts t a1 a2 a3 a4 a5) := by
  unfold State.addParts
  repeat' (first | with_reducible assumption | exact sub hm (by decide) | with_reducible exact fun hw => hw |
                    with_reducible exact fun _ => wf_nil _ | with_reducible apply ev_updTr |
                    with_reducible apply ev_grantParts | with_reducible apply ev_updCtx | with_reducible apply ev_foldl |
                    with_reducible apply ev_foldl_snd | with_reducible apply ev_foldl_fst | (intro u a hu) | (intro u hu) |
                    split | dsimp only | (intro x))

theorem ev_commitStart (h : Ev m s t) (a1 : Part)
    (hm : 0x5800 ||| m = m) : Ev m s (State.commitStart t a1) := by
  unfold State.commitStart
  repeat' (first | with_reducible assumption | exact sub hm (by decide) |
                    (refine ev_beginRec ?_ _ _ _ _ (by with_reducible assumption) ?_) | with_reducible apply ev_updPart |
                    with_reducible apply ev_updCtx | (intro u a hu) | (intro u hu) | split | dsimp only | (intro x))

theorem ev_execCommitRecordStart (h : Ev m s t) (a0 : Nat) (u : State) (hu : execCommitRecordStart a0 t = .next u)
    (hm : 0x5800 ||| m = m) : Ev m s u := by
  unfold execCommitRecordStart at hu; injection hu with hu; subst hu
  repeat' (first | with_reducible assumption | exact sub hm (by decide) | with_reducible apply ev_commitStart |
                    (intro u a hu) | (intro u hu) | split | dsimp only | (intro x))

theorem ev_execCommitHeaderWrite (h : Ev m s t) (a0 : Nat) (u : State) (hu : execCommitHeaderWrite a0 t = .next u)
    (hm : 0x5002 ||| m = m) : Ev m s u := by
  unfold execCommitHeaderWrite at hu; injection hu with hu; subst hu
  repeat' (first | with_reducible assumption | exact sub hm (by decide) | with_reducible apply ev_updPart |
                    with_reducible apply ev_endRec | (intro u a hu) | (intro u hu) | split | dsimp only | (intro x))

theorem ev_replaceRef (h : Ev m s t) (a1 : Nat) (a2 : Nat)
    (hm : 0x800 ||| m = m) : Ev m s (State.replaceRef t a1 a2) := by
  unfold State.replaceRef
  repeat' (first | with_reducible assumption | exact sub hm (by decide) | with_reducible exact fun hw => hw |
                    with_reducible exact fun hw => wf_filter _ hw | with_reducible apply ev_updNv | (intro u a hu) |
                    (intro u hu) | split | dsimp only | (intro x))

theorem ev_supersede (h : Ev m s t) (a1 : Ver)
    (hm : 0x1800 ||| m = m) : Ev m s (State.supersede t a1) := by
  unfold State.supersede
  repeat' (first | with_reducible assumption | exact sub hm (by decide) | with_reducible exact fun hw => wf_filter _ hw |
                    with_reducible apply ev_replaceRef | with_reducible apply ev_updVer | with_reducible apply ev_each |
                    with_reducible apply ev_foldl | with_reducible apply ev_foldl_snd | with_reducible apply ev_foldl_fst |
                    (intro u a hu) | (intro u hu) | split | dsimp only | (intro x))

theorem ev_pumpDealloc (h : Ev m s t) (a1 : Nat)
    (hm : 0x5000 ||| m = m) : Ev m s (State.pumpDealloc t a1) := by
  unfold State.pumpDealloc
  repeat' (first | with_reducible assumption | exact sub hm (by decide) | with_reducible apply ev_updVer |
                    with_reducible apply ev_issueMap | (intro u a hu) | (intro u hu) | split | dsimp only | (intro x))

theorem ev_commitDealloc (h : Ev m s t) (a1 : Part) (a2 : Nat)
    (hm : 0x5800 ||| m = m) : Ev m s (State.commitDealloc t a1 a2) := by
  unfold State.commitDealloc
  repeat' (first | with_reducible assumption | exact sub hm (by decide) | with_reducible exact fun hw => hw |
                    with_reducible exact fun _ => wf_nil _ | with_reducible apply ev_updTr |
                    with_reducible apply ev_pumpDealloc | with_reducible apply ev_supersede | (intro u a hu) | (intro u hu) |
                    split | dsimp only | (intro x))

theorem ev_commitPoint (h : Ev m s t) (a1 : Part)
    (hm : 0x7c02 ||| m = m) : Ev m s (State.commitPoint t a1) := by
  unfold State.commitPoint
  repeat' (first | with_reducible assumption | exact sub hm (by decide) | with_reducible exact fun hw => hw |
                    with_reducible exact fun hw => wf_filter _ hw | with_reducible exact fun hw => ⟨hw.1, hw.2, hw.3⟩ |
                    (intro hw; constructor <;>
                     with_reducible first | exact hw.1 | exact hw.2 | exact hw.3 | exact wf_spSet _ _ hw.1 | exact wf_spSet _ _ hw.2
                                          | exact wf_spSet _ _ hw.3 | exact wf_filter _ hw.1 | exact wf_filter _ hw.3
                                          | exact wf_spMap _ hw.3 | exact wf_nil _) |
                    with_reducible apply ev_updMd | with_reducible apply ev_updTr | with_reducible apply ev_supersede |
                    with_reducible apply ev_commitDealloc | with_reducible apply ev_freeVers |
                    with_reducible apply ev_updCtx | with_reducible apply ev_finish | with_reducible apply ev_each |
                    (intro u a hu) | (intro u hu) | split | dsimp only | (intro x))

theorem ev_execCommitPoint (h : Ev m s t) (a0 : Nat) (u : State) (hu : execCommitPoint a0 t = .next u)
    (hm : 0x7c02 ||| m = m) : Ev m s u := by
  unfold execCommitPoint at hu; injection hu with hu; subst hu
  repeat' (first | with_reducible assumption | exact sub hm (by decide) | with_reducible apply ev_commitPoint |
                    (intro u a hu) | (intro u hu) | split | dsimp only | (intro x))

/-! ### Control.lean -/

theorem ev_testHostFn (h : Ev m s t) (a1 : Nat)
    (hm : 0x200000 ||| m = m) : Ev m s (State.testHostFn t a1) := by
  unfold State.testHostFn
  repeat' (first | with_reducible assumption | exact sub hm (by decide) | with_reducible apply ev_testMeets | (intro u a hu) |
                    (intro u hu) | split | dsimp only | (intro x))

theorem ev_entryHere (h : Ev m s t) (a1 : Grant) (a2 : Nat)
    (hm : 0x800 ||| m = m) : Ev m s (State.entryHere t a1 a2) := by
  unfold State.entryHere
  repeat' (first | with_reducible assumption | exact sub hm (by decide) | with_reducible exact fun hw => hw |
                    with_reducible apply ev_updNv | (intro u a hu) | (intro u hu) | split | dsimp only | (intro x))

theorem ev_pumpEntry (h : Ev m s t) (a1 : Grant)
    (hm : 0xc00 ||| m = m) : Ev m s (State.pumpEntry t a1) := by
  unfold State.pumpEntry
  repeat' (first | with_reducible assumption | exact sub hm (by decide) | with_reducible apply ev_entryHere |
                    (refine ev_issueRead ?_ _ _ _ _ _ _ (by with_reducible assumption) ?_) | with_reducible apply ev_getD |
                    (intro u a hu) | (intro u hu) | split | dsimp only | (intro x))

theorem ev_updTs (h : Ev m s t) (a1 : TestRun → TestRun)
    (hm : 0x200000 ||| m = m) : Ev m s (State.updTs t a1) := by
  unfold State.updTs
  repeat' (first | with_reducible assumption | exact sub hm (by decide) | with_reducible exact fun hw => hw | (intro u a hu) |
                    (intro u hu) | split | dsimp only | (intro x) | with_reducible apply ev_mk_ts)

theorem ev_updHost (h : Ev m s t) (a1 : HostRun → HostRun)
    (hm : 0x200000 ||| m = m) : Ev m s (State.updHost t a1) := by
  unfold State.updHost
  repeat' (first | with_reducible assumption | exact sub hm (by decide) | with_reducible apply ev_updTs | (intro u a hu) |
                    (intro u hu) | split | dsimp only | (intro x))

theorem ev_pumpTest (h : Ev m s t)
    (hm : 0x200c00 ||| m = m) : Ev m s (State.pumpTest t) := by
  unfold State.pumpTest
  repeat' (first | with_reducible assumption | exact sub hm (by decide) | with_reducible apply ev_updHost |
                    with_reducible apply ev_emit | (refine ev_issueRead ?_ _ _ _ _ _ _ (by with_reducible assumption) ?_) |
                    with_reducible apply ev_each | with_reducible apply ev_getD | (intro u a hu) | (intro u hu) | split |
                    dsimp only | (intro x))

theorem ev_testRead (h : Ev m s t) (a1 : Nat) (a2 : Nat) (a3 : Option (List Byte))
    (hm : 0x200000 ||| m = m) : Ev m s (State.testRead t a1 a2 a3) := by
  unfold State.testRead
  repeat' (first | with_reducible assumption | exact sub hm (by decide) | with_reducible apply ev_updHost |
                    with_reducible apply ev_foldl | with_reducible apply ev_foldl_snd | with_reducible apply ev_foldl_fst |
                    (intro u a hu) | (intro u hu) | split | dsimp only | (intro x))

theorem ev_pump (h : Ev m s t)
    (hm : 0x200c00 ||| m = m) : Ev m s (State.pump t) := by
  unfold State.pump
  repeat' (first | with_reducible assumption | exact sub hm (by decide) | with_reducible exact fun hw => wf_filter _ hw |
                    with_reducible apply ev_pumpTest | with_reducible apply ev_issueAll | with_reducible apply ev_pumpEntry |
                    with_reducible apply ev_each | (intro u a hu) | (intro u hu) | split | dsimp only | (intro x))

theorem ev_grantOne (h : Ev m s t) (a1 : Nat) (u : State) (hu : State.grantOne t a1 = some u)
    (hm : 0xc00 ||| m = m) : Ev m s u := by
  unfold State.grantOne at hu
  repeat' (first | with_reducible assumption | exact sub hm (by decide) | with_reducible exact fun hw => hw |
                    with_reducible exact fun hw => wf_filter _ hw | with_reducible apply ev_updFn |
                    with_reducible apply ev_updSq | with_reducible apply ev_updNv | with_reducible apply ev_pumpEntry |
                    split at hu | (simp only [Option.some.injEq, Prod.mk.injEq] at hu; obtain ⟨-, -, rfl⟩ := hu) |
                    (simp only [Option.some.injEq, Prod.mk.injEq] at hu; obtain ⟨-, rfl⟩ := hu) |
                    (simp only [Option.some.injEq] at hu; subst hu) | contradiction | dsimp only at hu | (intro u a hu) |
                    (intro u hu) | split | dsimp only | (intro x))

theorem ev_visit (h : Ev m s t) (a0 : Nat) (a1 : Nat) (a2 : Nat)
    (hm : 0xc00 ||| m = m) : Ev m s (State.visit a0 a1 a2 t).2 := by
  induction a1 generalizing t a2 with
  | zero => exact h
  | succ n ih =>
    unfold State.visit
    repeat' (first | with_reducible assumption | exact sub hm (by decide) | with_reducible exact fun hw => hw |
                      with_reducible exact fun hw => ⟨hw.1, hw.2, hw.3⟩ | with_reducible apply ih |
                      exact ev_grantOne h _ _ (by with_reducible assumption) hm | split | dsimp only)

theorem ev_visit_eq  (h : Ev m s t) (a0 : Nat) (a1 : Nat) (a2 : Nat)  (v : Nat) (u : State)
    (e : State.visit a0 a1 a2 t = (v, u))
    (hm : 0xc00 ||| m = m) : Ev m s u := by
  have k := ev_visit h a0 a1 a2  hm; rw [e] at k; exact k

theorem ev_passes (h : Ev m s t) (a0 : List Nat) (a1 : Nat) (a2 : Nat)
    (hm : 0xc00 ||| m = m) : Ev m s (State.passes a0 a1 a2 t) := by
  induction a1 generalizing t a2 with
  | zero => exact h
  | succ n ih =>
    unfold State.passes
    have h1 := ev_foldl_snd (m := m) (s := s) a0 (fun (a : Nat × State) f =>
      State.visit f (if a.2.rd Fd.QUE_FNARB_MAXB f = 0 then a.2.rd Fd.QUE_ARBCFG_GRANTMAX else a.2.rd Fd.QUE_FNARB_MAXB f)
          a.1 a.2)
      (fun p a hp => ev_visit hp _ _ _ hm) (a2, t) h
    dsimp only
    split
    · exact h1
    · exact ih h1 _

theorem ev_arbitrate (h : Ev m s t)
    (hm : 0xc00 ||| m = m) : Ev m s (State.arbitrate t) := by
  unfold State.arbitrate
  repeat' (first | with_reducible assumption | exact sub hm (by decide) | with_reducible exact fun hw => wf_filter _ hw |
                    with_reducible apply ev_passes | (intro u a hu) | (intro u hu) | split | dsimp only | (intro x))

theorem ev_execArbitrationRound (h : Ev m s t)  (u : State) (hu : execArbitrationRound t = .next u)
    (hm : 0xc00 ||| m = m) : Ev m s u := by
  unfold execArbitrationRound at hu; injection hu with hu; subst hu
  repeat' (first | with_reducible assumption | exact sub hm (by decide) | with_reducible apply ev_arbitrate | (intro u a hu) |
                    (intro u hu) | split | dsimp only | (intro x))

theorem ev_badDoorbell (h : Ev m s t) (a1 : Nat) (a2 : Nat) (a3 : Nat) (a4 : Nat)
    (hm : 0x1c22 ||| m = m) : Ev m s (State.badDoorbell t a1 a2 a3 a4) := by
  unfold State.badDoorbell
  repeat' (first | with_reducible assumption | exact sub hm (by decide) | with_reducible apply ev_postAen |
                    with_reducible apply ev_aev | (intro u a hu) | (intro u hu) | split | dsimp only | (intro x))

theorem ev_tailDoorbell (h : Ev m s t) (a1 : Nat) (a2 : Nat) (a3 : Nat)
    (hm : 0x1c22 ||| m = m) : Ev m s (State.tailDoorbell t a1 a2 a3) := by
  unfold State.tailDoorbell
  repeat' (first | with_reducible assumption | exact sub hm (by decide) | with_reducible apply ev_badDoorbell |
                    with_reducible apply ev_updSq | (intro u a hu) | (intro u hu) | split | dsimp only | (intro x))

theorem ev_headDoorbell (h : Ev m s t) (a1 : Nat) (a2 : Nat) (a3 : Nat)
    (hm : 0x5c22 ||| m = m) : Ev m s (State.headDoorbell t a1 a2 a3) := by
  unfold State.headDoorbell
  repeat' (first | with_reducible assumption | exact sub hm (by decide) | with_reducible apply ev_badDoorbell |
                    with_reducible apply ev_freeVers | with_reducible apply ev_drain | with_reducible apply ev_updCq |
                    (intro u a hu) | (intro u hu) | split | dsimp only | (intro x))

theorem ev_inbound (h : Ev m s t) (a1 : Instr) (a2 : State → State) (h2 : ∀ x0, Ev m s x0 → Ev m s (a2 x0))
    (hm : 0x800 ||| m = m) : Ev m s (State.inbound t a1 a2) := by
  unfold State.inbound
  repeat' (first | with_reducible assumption | exact sub hm (by decide) | with_reducible exact fun hw => hw |
                    with_reducible exact fun hw => wf_filter _ hw | with_reducible apply ev_updNv | with_reducible apply h2 |
                    (intro u a hu) | (intro u hu) | split | dsimp only | (intro x))

theorem ev_execSqTailDoorbell (h : Ev m s t) (a0 : Nat) (a1 : Nat) (a2 : Nat) (u : State) (hu : execSqTailDoorbell a0 a1 a2
    t = .next u)
    (hm : 0x1c22 ||| m = m) : Ev m s u := by
  unfold execSqTailDoorbell at hu; injection hu with hu; subst hu
  repeat' (first | with_reducible assumption | exact sub hm (by decide) | with_reducible apply ev_inbound |
                    with_reducible apply ev_tailDoorbell | (intro u a hu) | (intro u hu) | split | dsimp only | (intro x))

theorem ev_execCqHeadDoorbell (h : Ev m s t) (a0 : Nat) (a1 : Nat) (a2 : Nat) (u : State) (hu : execCqHeadDoorbell a0 a1 a2
    t = .next u)
    (hm : 0x5c22 ||| m = m) : Ev m s u := by
  unfold execCqHeadDoorbell at hu; injection hu with hu; subst hu
  repeat' (first | with_reducible assumption | exact sub hm (by decide) | with_reducible apply ev_inbound |
                    with_reducible apply ev_headDoorbell | (intro u a hu) | (intro u hu) | split | dsimp only | (intro x))

theorem ev_orphanTags (h : Ev m s t) (a1 : Nat)
    (hm : 0x40800 ||| m = m) : Ev m s (State.orphanTags t a1) := by
  unfold State.orphanTags
  repeat' (first | with_reducible assumption | exact sub hm (by decide) | with_reducible exact fun hw => hw |
                    with_reducible exact fun hw => wf_spSet _ _ hw | with_reducible exact fun hw => wf_spSetRun _ _ hw |
                    with_reducible exact fun hw => wf_filter _ hw | with_reducible exact fun _ => wf_nil _ |
                    with_reducible apply ev_updNv | with_reducible apply ev_each | (intro u a hu) | (intro u hu) | split |
                    dsimp only | (intro x) | with_reducible apply ev_mk_bf)

theorem ev_endFn (h : Ev m s t) (a1 : Nat)
    (hm : 0x47900 ||| m = m) : Ev m s (State.endFn t a1) := by
  unfold State.endFn
  repeat' (first | with_reducible assumption | exact sub hm (by decide) | with_reducible exact fun hw => hw |
                    with_reducible exact fun hw => wf_filter _ hw | with_reducible exact fun _ => wf_nil _ |
                    with_reducible apply ev_orphanTags | with_reducible apply ev_killCtx | with_reducible apply ev_dropSqs |
                    with_reducible apply ev_updNv | with_reducible apply ev_updFn | with_reducible apply ev_each |
                    (intro u a hu) | (intro u hu) | split | dsimp only | (intro x))

theorem ev_resetController (h : Ev m s t) (a1 : Nat)
    (hm : 0x47900 ||| m = m) : Ev m s (State.resetController t a1) := by
  unfold State.resetController
  repeat' (first | with_reducible assumption | exact sub hm (by decide) | with_reducible apply ev_updFn |
                    with_reducible apply ev_endFn | (intro u a hu) | (intro u hu) | split | dsimp only | (intro x))

theorem ev_resetDone (h : Ev m s t) (a1 : Nat)
    (hm : 0x800 ||| m = m) : Ev m s (State.resetDone t a1) := by
  unfold State.resetDone
  repeat' (first | with_reducible assumption | exact sub hm (by decide) | with_reducible apply ev_updFn | (intro u a hu) |
                    (intro u hu) | split | dsimp only | (intro x))

theorem ev_enableFn (h : Ev m s t) (a1 : Nat) (a2 : Bool) (a3 : Bool) (a4 : Nat) (a5 : Nat) (a6 : Nat) (a7 : Nat)
    (hm : 0x200800 ||| m = m) : Ev m s (State.enableFn t a1 a2 a3 a4 a5 a6 a7) := by
  unfold State.enableFn
  repeat' (first | with_reducible assumption | exact sub hm (by decide) | with_reducible exact fun hw => hw |
                    with_reducible apply ev_testHostFn | with_reducible apply ev_updFn | with_reducible apply ev_updNv |
                    (intro u a hu) | (intro u hu) | split | dsimp only | (intro x))

theorem ev_execCcEnableSet (h : Ev m s t) (a0 : Nat) (a1 : Bool) (a2 : Bool) (a3 : Nat) (a4 : Nat) (a5 : Nat) (a6 : Nat) (u
    : State) (hu : execCcEnableSet a0 a1 a2 a3 a4 a5 a6 t = .next u)
    (hm : 0x200800 ||| m = m) : Ev m s u := by
  unfold execCcEnableSet at hu; injection hu with hu; subst hu
  repeat' (first | with_reducible assumption | exact sub hm (by decide) | with_reducible apply ev_inbound |
                    with_reducible apply ev_enableFn | (intro u a hu) | (intro u hu) | split | dsimp only | (intro x))

theorem ev_execControllerReady (h : Ev m s t) (a0 : Nat) (u : State) (hu : execControllerReady a0 t = .next u)
    (hm : 0x1c02 ||| m = m) : Ev m s u := by
  unfold execControllerReady at hu; injection hu with hu; subst hu
  repeat' (first | with_reducible assumption | exact sub hm (by decide) | with_reducible apply ev_deliverAen |
                    with_reducible apply ev_updFn | (intro u a hu) | (intro u hu) | split | dsimp only | (intro x))

theorem ev_disableFn (h : Ev m s t) (a1 : Nat)
    (hm : 0x47900 ||| m = m) : Ev m s (State.disableFn t a1) := by
  unfold State.disableFn
  repeat' (first | with_reducible assumption | exact sub hm (by decide) | with_reducible apply ev_resetController |
                    (intro u a hu) | (intro u hu) | split | dsimp only | (intro x))

theorem ev_execControllerReset (h : Ev m s t) (a0 : Nat) (u : State) (hu : execControllerReset a0 t = .next u)
    (hm : 0x47900 ||| m = m) : Ev m s u := by
  unfold execControllerReset at hu; injection hu with hu; subst hu
  repeat' (first | with_reducible assumption | exact sub hm (by decide) | with_reducible apply ev_inbound |
                    with_reducible apply ev_disableFn | (intro u a hu) | (intro u hu) | split | dsimp only | (intro x))

theorem ev_execControllerResetComplete (h : Ev m s t) (a0 : Nat) (u : State) (hu : execControllerResetComplete a0 t = .next u)
    (hm : 0x800 ||| m = m) : Ev m s u := by
  unfold execControllerResetComplete at hu; injection hu with hu; subst hu
  repeat' (first | with_reducible assumption | exact sub hm (by decide) | with_reducible apply ev_resetDone |
                    with_reducible apply ev_updFn | (intro u a hu) | (intro u hu) | split | dsimp only | (intro x))

theorem ev_shutFn (h : Ev m s t) (a1 : Nat)
    (hm : 0x800 ||| m = m) : Ev m s (State.shutFn t a1) := by
  unfold State.shutFn
  repeat' (first | with_reducible assumption | exact sub hm (by decide) | with_reducible apply ev_checkShut |
                    with_reducible apply ev_updFn | (intro u a hu) | (intro u hu) | split | dsimp only | (intro x))

theorem ev_execShutdownNotification (h : Ev m s t) (a0 : Nat) (u : State) (hu : execShutdownNotification a0 t = .next u)
    (hm : 0x800 ||| m = m) : Ev m s u := by
  unfold execShutdownNotification at hu; injection hu with hu; subst hu
  repeat' (first | with_reducible assumption | exact sub hm (by decide) | with_reducible apply ev_inbound |
                    with_reducible apply ev_shutFn | (intro u a hu) | (intro u hu) | split | dsimp only | (intro x))

theorem ev_ctxBudgetWrite (h : Ev m s t) (a1 : Nat) (a2 : Nat) (a3 : Nat)
    (hm : 0x22 ||| m = m) : Ev m s (State.ctxBudgetWrite t a1 a2 a3) := by
  unfold State.ctxBudgetWrite
  repeat' (first | with_reducible assumption | exact sub hm (by decide) | with_reducible apply ev_wr |
                    with_reducible apply ev_discarded | (intro u a hu) | (intro u hu) | split | dsimp only | (intro x))

theorem ev_execContextBudgetWrite (h : Ev m s t) (a0 : Nat) (a1 : Nat) (a2 : Nat) (u : State) (hu : execContextBudgetWrite
    a0 a1 a2 t = .next u)
    (hm : 0x22 ||| m = m) : Ev m s u := by
  unfold execContextBudgetWrite at hu; injection hu with hu; subst hu
  repeat' (first | with_reducible assumption | exact sub hm (by decide) | with_reducible apply ev_ctxBudgetWrite |
                    (intro u a hu) | (intro u hu) | split | dsimp only | (intro x))

/-! ### Stats.lean -/

theorem ev_dpFault (h : Ev m s t) (a1 : Half) (a2 : Nat)
    (hm : 0x220d22 ||| m = m) : Ev m s (State.dpFault t a1 a2) := by
  unfold State.dpFault
  repeat' (first | with_reducible assumption | exact sub hm (by decide) | with_reducible apply ev_updHalf |
                    with_reducible apply ev_count | with_reducible apply ev_controlFaultCls | (intro u a hu) | (intro u hu) |
                    split | dsimp only | (intro x))

theorem ev_dpFaultHere (h : Ev m s t) (a1 : Nat)
    (hm : 0x220d22 ||| m = m) : Ev m s (State.dpFaultHere t a1) := by
  unfold State.dpFaultHere
  repeat' (first | with_reducible assumption | exact sub hm (by decide) | with_reducible apply ev_dpFault | (intro u a hu) |
                    (intro u hu) | split | dsimp only | (intro x))

theorem ev_mirrorMismatch (h : Ev m s t) (a1 : Ver)
    (hm : 0x227d22 ||| m = m) : Ev m s (State.mirrorMismatch t a1) := by
  unfold State.mirrorMismatch
  repeat' (first | with_reducible assumption | exact sub hm (by decide) | with_reducible apply ev_count |
                    with_reducible apply ev_updVer | with_reducible apply ev_dpFaultHere | with_reducible apply ev_finish |
                    (intro u a hu) | (intro u hu) | split | dsimp only | (intro x))

theorem ev_execDramWriteAcknowledge (h : Ev m s t) (a0 : Nat) (a1 : Bool) (a2 : Bool) (u : State) (hu :
    execDramWriteAcknowledge a0 a1 a2 t = .next u)
    (hm : 0x227d22 ||| m = m) : Ev m s u := by
  unfold execDramWriteAcknowledge at hu; injection hu with hu; subst hu
  repeat' (first | with_reducible assumption | exact sub hm (by decide) | with_reducible apply ev_updVer |
                    with_reducible apply ev_mirrorMismatch | (intro u a hu) | (intro u hu) | split | dsimp only | (intro x))

theorem ev_queueRfs (h : Ev m s t) (a1 : Nat) (a2 : Nat) (a3 : Nat)
    (hm : 0x2002 ||| m = m) : Ev m s (State.queueRfs t a1 a2 a3) := by
  unfold State.queueRfs
  repeat' (first | with_reducible assumption | exact sub hm (by decide) | with_reducible exact fun hw => hw |
                    with_reducible exact fun hw => ⟨hw.1, hw.2, hw.3⟩ | with_reducible apply ev_updMd |
                    with_reducible apply ev_count | with_reducible apply ev_foldl | with_reducible apply ev_foldl_snd |
                    with_reducible apply ev_foldl_fst | (intro u a hu) | (intro u hu) | split | dsimp only | (intro x))

theorem ev_triggers (h : Ev m s t) (a1 : Nat) (a2 : List CwRes)
    (hm : 0x2002 ||| m = m) : Ev m s (State.triggers t a1 a2) := by
  unfold State.triggers
  repeat' (first | with_reducible assumption | exact sub hm (by decide) | with_reducible apply ev_setBlk |
                    with_reducible apply ev_queueRfs | (intro u a hu) | (intro u hu) | split | dsimp only | (intro x))

theorem ev_countCws (h : Ev m s t) (a1 : Nat) (a2 : List CwRes)
    (hm : 0x2 ||| m = m) : Ev m s (State.countCws t a1 a2) := by
  unfold State.countCws
  repeat' (first | with_reducible assumption | exact sub hm (by decide) | with_reducible apply ev_count |
                    with_reducible apply ev_wr | with_reducible apply ev_each | with_reducible apply ev_when |
                    (intro u a hu) | (intro u hu) | split | dsimp only | (intro x))

theorem ev_countRecon (h : Ev m s t) (a1 : List CwRes)
    (hm : 0x2 ||| m = m) : Ev m s (State.countRecon t a1) := by
  unfold State.countRecon
  repeat' (first | with_reducible assumption | exact sub hm (by decide) | with_reducible exact fun hw => wf_filter _ hw |
                    with_reducible apply ev_count | (intro u a hu) | (intro u hu) | split | dsimp only | (intro x))

theorem ev_measure (h : Ev m s t) (a1 : Nat) (a2 : List CwRes) (a3 : Src)
    (hm : 0x10000 ||| m = m) : Ev m s (State.measure t a1 a2 a3) := by
  unfold State.measure
  repeat' (first | with_reducible assumption | exact sub hm (by decide) | with_reducible exact fun hw => hw |
                    with_reducible exact fun hw => wf_filter _ hw | with_reducible exact fun hw => ⟨hw.1, hw.2, hw.3⟩ |
                    (intro hw; constructor <;>
                     with_reducible first | exact hw.1 | exact hw.2 | exact hw.3 | exact wf_spSet _ _ hw.1 | exact wf_spSet _ _ hw.2
                                          | exact wf_spSet _ _ hw.3 | exact wf_filter _ hw.1 | exact wf_nil _) |
                    with_reducible apply ev_updRg | (intro u a hu) | (intro u hu) | split | dsimp only | (intro x))

theorem ev_reconRetire (h : Ev m s t) (a1 : Nat) (a2 : Nat) (a3 : List CwRes)
    (hm : 0x2000 ||| m = m) : Ev m s (State.reconRetire t a1 a2 a3) := by
  unfold State.reconRetire
  repeat' (first | with_reducible assumption | exact sub hm (by decide) | with_reducible apply ev_markLack | (intro u a hu) |
                    (intro u hu) | split | dsimp only | (intro x))

theorem ev_applyStats (h : Ev m s t) (a1 : Nat) (a2 : Nat) (a3 : List CwRes) (a4 : List Side) (a5 : Src)
    (hm : 0x12002 ||| m = m) : Ev m s (State.applyStats t a1 a2 a3 a4 a5) := by
  unfold State.applyStats
  repeat' (first | with_reducible assumption | exact sub hm (by decide) | with_reducible apply ev_reconRetire |
                    with_reducible apply ev_measure | with_reducible apply ev_triggers | with_reducible apply ev_countRecon |
                    with_reducible apply ev_countCws | with_reducible apply ev_each | (intro u a hu) | (intro u hu) | split |
                    dsimp only | (intro x))

theorem ev_updOp (h : Ev m s t) (a1 : Nat) (a2 : Op → Op)
    (hm : 0x2000 ||| m = m) : Ev m s (State.updOp t a1 a2) := by
  unfold State.updOp
  repeat' (first | with_reducible assumption | exact sub hm (by decide) | with_reducible exact fun hw => hw |
                    with_reducible exact fun hw => ⟨hw.1, hw.2, hw.3⟩ | with_reducible apply ev_updMd | (intro u a hu) |
                    (intro u hu) | split | dsimp only | (intro x))

theorem ev_dropOp (h : Ev m s t) (a1 : Nat)
    (hm : 0x2000 ||| m = m) : Ev m s (State.dropOp t a1) := by
  unfold State.dropOp
  repeat' (first | with_reducible assumption | exact sub hm (by decide) | with_reducible exact fun hw => hw |
                    with_reducible exact fun hw => wf_filter _ hw | with_reducible exact fun hw => ⟨hw.1, hw.2, hw.3⟩ |
                    (intro hw; constructor <;>
                     with_reducible first | exact hw.1 | exact hw.2 | exact hw.3 | exact wf_spSet _ _ hw.1 | exact wf_spSet _ _ hw.2
                                          | exact wf_spSet _ _ hw.3 | exact wf_filter _ hw.1 | exact wf_filter _ hw.3
                                          | exact wf_spMap _ hw.3 | exact wf_nil _) |
                    with_reducible apply ev_updMd | (intro u a hu) | (intro u hu) | split | dsimp only | (intro x))

theorem ev_addOp (h : Ev m s t) (a1 : Op)
    (hm : 0x2000 ||| m = m) : Ev m s (State.addOp t a1).2 := by
  unfold State.addOp
  repeat' (first | with_reducible assumption | exact sub hm (by decide) | with_reducible exact fun hw => hw |
                    with_reducible exact fun hw => ⟨hw.1, hw.2, hw.3⟩ | with_reducible apply ev_updMd | (intro u a hu) |
                    (intro u hu) | split | dsimp only | (intro x))

theorem ev_addOp_eq  (h : Ev m s t) (a1 : Op)  (v : Nat) (u : State)
    (e : State.addOp t a1 = (v, u))
    (hm : 0x2000 ||| m = m) : Ev m s u := by
  have k := ev_addOp h a1  hm; rw [e] at k; exact k

theorem ev_addRead (h : Ev m s t) (a1 : SlotCls) (a2 : Nat) (a3 : Bool) (a4 : OpWhy) (a5 : Nat)
    (hm : 0x2000 ||| m = m) : Ev m s (State.addRead t a1 a2 a3 a4 a5).2 := by
  unfold State.addRead
  repeat' (first | with_reducible assumption | exact sub hm (by decide) | with_reducible apply ev_addOp |
                    (refine ev_addOp_eq ?_ _ _ _ (by with_reducible assumption) ?_) | (intro u a hu) | (intro u hu) | split |
                    dsimp only | (intro x))

theorem ev_addRead_eq  (h : Ev m s t) (a1 : SlotCls) (a2 : Nat) (a3 : Bool) (a4 : OpWhy) (a5 : Nat)  (v : Nat) (u : State)
    (e : State.addRead t a1 a2 a3 a4 a5 = (v, u))
    (hm : 0x2000 ||| m = m) : Ev m s u := by
  have k := ev_addRead h a1 a2 a3 a4 a5  hm; rw [e] at k; exact k

/-! ### Keys.lean -/

theorem ev_eraseIntent (h : Ev m s t) (a1 : Nat) (a2 : List Nat) (u : State) (hu : State.eraseIntent t a1 a2 = some u)
    (hm : 0x6000 ||| m = m) : Ev m s u := by
  unfold State.eraseIntent at hu
  obtain ⟨r, hr, rfl⟩ := Option.map_eq_some_iff.1 hu
  exact ev_updMd (ev_setDieBlk (ev_beginRec h _ _ r.1 r.2 hr (sub hm (by decide))) _ _ _ (sub hm (by decide))) _
    (fun hw => ⟨hw.1, hw.2, hw.3⟩) (sub hm (by decide))

theorem ev_writeKeys (h : Ev m s t) (a1 : KeyChange) (a2 : KeyTab)
    (hm : 0x2000 ||| m = m) : Ev m s (State.writeKeys t a1 a2) := by
  unfold State.writeKeys
  repeat' (first | with_reducible assumption | exact sub hm (by decide) | with_reducible exact fun hw => hw |
                    with_reducible exact fun hw => wf_filter _ hw | with_reducible exact fun hw => ⟨hw.1, hw.2, hw.3⟩ |
                    (intro hw; constructor <;>
                     with_reducible first | exact hw.1 | exact hw.2 | exact hw.3 | exact wf_spSet _ _ hw.1 | exact wf_spSet _ _ hw.2
                                          | exact wf_spSet _ _ hw.3 | exact wf_filter _ hw.1 | exact wf_filter _ hw.3
                                          | exact wf_spMap _ hw.3 | exact wf_nil _) |
                    with_reducible apply ev_updMd | with_reducible apply ev_addOp |
                    (refine ev_addOp_eq ?_ _ _ _ (by with_reducible assumption) ?_) | with_reducible apply ev_each |
                    (intro u a hu) | (intro u hu) | split | dsimp only | (intro x))

theorem ev_eraseKeys (h : Ev m s t)
    (hm : 0x6000 ||| m = m) : Ev m s (State.eraseKeys t) := by
  unfold State.eraseKeys
  repeat' (first | with_reducible assumption | exact sub hm (by decide) | with_reducible exact fun hw => wf_filter _ hw |
                    (refine ev_eraseIntent ?_ _ _ _ (by with_reducible assumption) ?_) | with_reducible apply ev_each |
                    with_reducible apply ev_getD | (intro u a hu) | (intro u hu) | split | dsimp only | (intro x))

theorem ev_cleanKeys (h : Ev m s t)
    (hm : 0x6000 ||| m = m) : Ev m s (State.cleanKeys t).2 := by
  unfold State.cleanKeys
  repeat' (first | with_reducible assumption | exact sub hm (by decide) | with_reducible apply ev_eraseKeys | (intro u a hu) |
                    (intro u hu) | split | dsimp only | (intro x))

theorem ev_cleanKeys_eq  (h : Ev m s t)   (v : Bool) (u : State)
    (e : State.cleanKeys t = (v, u))
    (hm : 0x6000 ||| m = m) : Ev m s u := by
  have k := ev_cleanKeys h   hm; rw [e] at k; exact k

theorem ev_pumpKeys (h : Ev m s t)
    (hm : 0x6000 ||| m = m) : Ev m s (State.pumpKeys t).2 := by
  unfold State.pumpKeys
  repeat' (first | with_reducible assumption | exact sub hm (by decide) | with_reducible exact fun hw => hw |
                    with_reducible exact fun hw => ⟨hw.1, hw.2, hw.3⟩ | with_reducible exact fun _ => wf_nil _ |
                    with_reducible apply ev_cleanKeys | (refine ev_cleanKeys_eq ?_ _ _ (by with_reducible assumption) ?_) |
                    with_reducible apply ev_updMd | with_reducible apply ev_writeKeys | (intro u a hu) | (intro u hu) |
                    split | dsimp only | (intro x))

theorem ev_pumpKeys_eq  (h : Ev m s t)   (v : Option KeyChange) (u : State)
    (e : State.pumpKeys t = (v, u))
    (hm : 0x6000 ||| m = m) : Ev m s u := by
  have k := ev_pumpKeys h   hm; rw [e] at k; exact k

theorem ev_keyPageDone (h : Ev m s t) (a1 : Op)
    (hm : 0x2000 ||| m = m) : Ev m s (State.keyPageDone t a1) := by
  unfold State.keyPageDone
  repeat' (first | with_reducible assumption | exact sub hm (by decide) | with_reducible exact fun hw => hw |
                    with_reducible exact fun hw => ⟨hw.1, hw.2, hw.3⟩ | with_reducible apply ev_updMd | (intro u a hu) |
                    (intro u hu) | split | dsimp only | (intro x))

theorem ev_keyPageFailed (h : Ev m s t) (a1 : Op)
    (hm : 0x2022 ||| m = m) : Ev m s (State.keyPageFailed t a1) := by
  unfold State.keyPageFailed
  repeat' (first | with_reducible assumption | exact sub hm (by decide) | with_reducible exact fun hw => hw |
                    with_reducible exact fun hw => wf_filter _ hw | with_reducible exact fun hw => ⟨hw.1, hw.2, hw.3⟩ |
                    (intro hw; constructor <;>
                     with_reducible first | exact hw.1 | exact hw.2 | exact hw.3 | exact wf_spSet _ _ hw.1 | exact wf_spSet _ _ hw.2
                                          | exact wf_spSet _ _ hw.3 | exact wf_filter _ hw.1 | exact wf_filter _ hw.3
                                          | exact wf_spMap _ hw.3 | exact wf_nil _) |
                    with_reducible apply ev_retireBlock | with_reducible apply ev_updMd | (intro u a hu) | (intro u hu) |
                    split | dsimp only | (intro x))

theorem ev_keyErased (h : Ev m s t) (a1 : Nat) (a2 : Nat)
    (hm : 0x2000 ||| m = m) : Ev m s (State.keyErased t a1 a2) := by
  unfold State.keyErased
  repeat' (first | with_reducible assumption | exact sub hm (by decide) | with_reducible exact fun hw => hw |
                    with_reducible exact fun hw => ⟨hw.1, hw.2, hw.3⟩ | with_reducible apply ev_updMd | (intro u a hu) |
                    (intro u hu) | split | dsimp only | (intro x))

theorem ev_changeKeys (h : Ev m s t) (a1 : Nat) (a2 : Nat)
    (hm : 0x2000 ||| m = m) : Ev m s (State.changeKeys t a1 a2) := by
  unfold State.changeKeys
  repeat' (first | with_reducible assumption | exact sub hm (by decide) | with_reducible exact fun hw => hw |
                    with_reducible exact fun hw => ⟨hw.1, hw.2, hw.3⟩ | with_reducible apply ev_updMd | (intro u a hu) |
                    (intro u hu) | split | dsimp only | (intro x))

/-! ### Ladder.lean -/

theorem ev_updClimb (h : Ev m s t) (a1 : Nat) (a2 : Climb → Climb)
    (hm : 0x2000 ||| m = m) : Ev m s (State.updClimb t a1 a2) := by
  unfold State.updClimb
  repeat' (first | with_reducible assumption | exact sub hm (by decide) | with_reducible exact fun hw => hw |
                    with_reducible exact fun hw => ⟨hw.1, hw.2, hw.3⟩ | with_reducible apply ev_updMd | (intro u a hu) |
                    (intro u hu) | split | dsimp only | (intro x))

theorem ev_updCw (h : Ev m s t) (a1 : Nat) (a2 : Nat) (a3 : CwClimb → CwClimb)
    (hm : 0x2000 ||| m = m) : Ev m s (State.updCw t a1 a2 a3) := by
  unfold State.updCw
  repeat' (first | with_reducible assumption | exact sub hm (by decide) | with_reducible apply ev_updClimb | (intro u a hu) |
                    (intro u hu) | split | dsimp only | (intro x))

theorem ev_addServing (h : Ev m s t) (a1 : Op) (a2 : OpWhy) (a3 : Nat)
    (hm : 0x2000 ||| m = m) : Ev m s (State.addServing t a1 a2 a3) := by
  unfold State.addServing
  repeat' (first | with_reducible assumption | exact sub hm (by decide) | with_reducible apply ev_addOp |
                    (refine ev_addOp_eq ?_ _ _ _ (by with_reducible assumption) ?_) | (intro u a hu) | (intro u hu) | split |
                    dsimp only | (intro x))

theorem ev_endCw (h : Ev m s t) (a1 : Nat) (a2 : Nat) (a3 : Nat)
    (hm : 0x2000 ||| m = m) : Ev m s (State.endCw t a1 a2 a3) := by
  unfold State.endCw
  repeat' (first | with_reducible assumption | exact sub hm (by decide) | with_reducible apply ev_updCw | (intro u a hu) |
                    (intro u hu) | split | dsimp only | (intro x))

theorem ev_settleRecon (h : Ev m s t) (a1 : Climb) (a2 : Nat)
    (hm : 0x2000 ||| m = m) : Ev m s (State.settleRecon t a1 a2) := by
  unfold State.settleRecon
  repeat' (first | with_reducible assumption | exact sub hm (by decide) | with_reducible apply ev_updClimb |
                    with_reducible apply ev_endCw | (intro u a hu) | (intro u hu) | split | dsimp only | (intro x))

theorem ev_toRecon (h : Ev m s t) (a1 : Climb) (a2 : Nat)
    (hm : 0x2000 ||| m = m) : Ev m s (State.toRecon t a1 a2) := by
  unfold State.toRecon
  repeat' (first | with_reducible assumption | exact sub hm (by decide) | with_reducible apply ev_endCw |
                    with_reducible apply ev_settleRecon | with_reducible apply ev_updCw | with_reducible apply ev_addServing |
                    with_reducible apply ev_each | (intro u a hu) | (intro u hu) | split | dsimp only | (intro x))

theorem ev_climbOn (h : Ev m s t) (a1 : Climb) (a2 : CwClimb)
    (hm : 0x2000 ||| m = m) : Ev m s (State.climbOn t a1 a2) := by
  unfold State.climbOn
  repeat' (first | with_reducible assumption | exact sub hm (by decide) | with_reducible apply ev_updCw |
                    with_reducible apply ev_addServing | with_reducible apply ev_toRecon | (intro u a hu) | (intro u hu) |
                    split | dsimp only | (intro x))

theorem ev_tried (h : Ev m s t) (a1 : Nat) (a2 : Nat) (a3 : CwTry) (a4 : List Int)
    (hm : 0x2000 ||| m = m) : Ev m s (State.tried t a1 a2 a3 a4) := by
  unfold State.tried
  repeat' (first | with_reducible assumption | exact sub hm (by decide) | with_reducible apply ev_updCw |
                    with_reducible apply ev_climbOn | with_reducible apply ev_updClimb | with_reducible apply ev_endCw |
                    (intro u a hu) | (intro u hu) | split | dsimp only | (intro x))

theorem ev_startClimb (h : Ev m s t) (a1 : Op)
    (hm : 0x2000 ||| m = m) : Ev m s (State.startClimb t a1) := by
  unfold State.startClimb
  repeat' (first | with_reducible assumption | exact sub hm (by decide) | with_reducible exact fun hw => hw |
                    with_reducible exact fun hw => ⟨hw.1, hw.2, hw.3⟩ | with_reducible apply ev_updMd | (intro u a hu) |
                    (intro u hu) | split | dsimp only | (intro x))

theorem ev_endClimb (h : Ev m s t) (a1 : Nat)
    (hm : 0x2000 ||| m = m) : Ev m s (State.endClimb t a1).1 := by
  unfold State.endClimb
  repeat' (first | with_reducible assumption | exact sub hm (by decide) | with_reducible exact fun hw => hw |
                    with_reducible exact fun hw => wf_filter _ hw | with_reducible exact fun hw => ⟨hw.1, hw.2, hw.3⟩ |
                    (intro hw; constructor <;>
                     with_reducible first | exact hw.1 | exact hw.2 | exact hw.3 | exact wf_spSet _ _ hw.1 | exact wf_spSet _ _ hw.2
                                          | exact wf_spSet _ _ hw.3 | exact wf_filter _ hw.1 | exact wf_filter _ hw.3
                                          | exact wf_spMap _ hw.3 | exact wf_nil _) |
                    with_reducible apply ev_updMd | (intro u a hu) | (intro u hu) | split | dsimp only | (intro x))

theorem ev_endClimb_eq  (h : Ev m s t) (a1 : Nat)  (v : Option (Op × ReadRes)) (u : State)
    (e : State.endClimb t a1 = (u, v))
    (hm : 0x2000 ||| m = m) : Ev m s u := by
  have k := ev_endClimb h a1  hm; rw [e] at k; exact k

theorem ev_attempt (h : Ev m s t) (a1 : Op) (a2 : DecodeRes)
    (hm : 0x2000 ||| m = m) : Ev m s (State.attempt t a1 a2).1 := by
  unfold State.attempt
  repeat' (first | with_reducible assumption | exact sub hm (by decide) | with_reducible exact fun hw => wf_filter _ hw |
                    with_reducible apply ev_addServing | with_reducible apply ev_updCw | with_reducible apply ev_updClimb |
                    with_reducible apply ev_endClimb | (refine ev_endClimb_eq ?_ _ _ _ (by with_reducible assumption) ?_) |
                    with_reducible apply ev_tried | with_reducible apply ev_startClimb | with_reducible apply ev_each |
                    (intro u a hu) | (intro u hu) | split | dsimp only | (intro x))

theorem ev_attempt_eq  (h : Ev m s t) (a1 : Op) (a2 : DecodeRes)  (v : Option (Op × ReadRes)) (u : State)
    (e : State.attempt t a1 a2 = (u, v))
    (hm : 0x2000 ||| m = m) : Ev m s u := by
  have k := ev_attempt h a1 a2  hm; rw [e] at k; exact k

theorem ev_failRead (h : Ev m s t) (a1 : Op)
    (hm : 0x2000 ||| m = m) : Ev m s (State.failRead t a1).1 := by
  unfold State.failRead
  repeat' (first | with_reducible assumption | exact sub hm (by decide) | with_reducible apply ev_endClimb |
                    (refine ev_endClimb_eq ?_ _ _ _ (by with_reducible assumption) ?_) | with_reducible apply ev_toRecon |
                    with_reducible apply ev_startClimb | with_reducible apply ev_each | (intro u a hu) | (intro u hu) |
                    split | dsimp only | (intro x))

theorem ev_failRead_eq  (h : Ev m s t) (a1 : Op)  (v : Option (Op × ReadRes)) (u : State)
    (e : State.failRead t a1 = (u, v))
    (hm : 0x2000 ||| m = m) : Ev m s u := by
  have k := ev_failRead h a1  hm; rw [e] at k; exact k

theorem ev_reconGot (h : Ev m s t) (a1 : Nat) (a2 : Nat) (a3 : Op) (a4 : ReadRes)
    (hm : 0x2000 ||| m = m) : Ev m s (State.reconGot t a1 a2 a3 a4).1 := by
  unfold State.reconGot
  repeat' (first | with_reducible assumption | exact sub hm (by decide) | with_reducible apply ev_updClimb |
                    with_reducible apply ev_updCw | with_reducible apply ev_endClimb |
                    (refine ev_endClimb_eq ?_ _ _ _ (by with_reducible assumption) ?_) | with_reducible apply ev_endCw |
                    with_reducible apply ev_settleRecon | (intro u a hu) | (intro u hu) | split | dsimp only | (intro x))

theorem ev_reconGot_eq  (h : Ev m s t) (a1 : Nat) (a2 : Nat) (a3 : Op) (a4 : ReadRes)  (v : Option (Op × ReadRes)) (u : State)
    (e : State.reconGot t a1 a2 a3 a4 = (u, v))
    (hm : 0x2000 ||| m = m) : Ev m s u := by
  have k := ev_reconGot h a1 a2 a3 a4  hm; rw [e] at k; exact k

theorem ev_resumeClimb (h : Ev m s t) (a1 : Nat)
    (hm : 0x2000 ||| m = m) : Ev m s (State.resumeClimb t a1).1 := by
  unfold State.resumeClimb
  repeat' (first | with_reducible assumption | exact sub hm (by decide) | with_reducible exact fun hw => wf_filter _ hw |
                    with_reducible apply ev_endClimb | (refine ev_endClimb_eq ?_ _ _ _ (by with_reducible assumption) ?_) |
                    with_reducible apply ev_updClimb | with_reducible apply ev_climbOn | with_reducible apply ev_endCw |
                    with_reducible apply ev_each | (intro u a hu) | (intro u hu) | split | dsimp only | (intro x))

theorem ev_resumeClimb_eq  (h : Ev m s t) (a1 : Nat)  (v : Option (Op × ReadRes)) (u : State)
    (e : State.resumeClimb t a1 = (u, v))
    (hm : 0x2000 ||| m = m) : Ev m s u := by
  have k := ev_resumeClimb h a1  hm; rw [e] at k; exact k

end Sys2Proof.Laws
end

