-- ==== Sys2Proof/Laws/EvHost.lean ====
section
/-! SUPPORT. How the state evolves under the operations and commands of reads, windows, the link and the host's commands:
    one law for each, over the laws of Evolves.lean. -/

namespace Sys2Proof.Laws

open Sys2Proof Sys2Proof.Machine

variable {m : Nat} {s t : State}

/-! ### ReadPath.lean -/

theorem ev_addWatch (h : Ev m s t) (a1 : Nat) (a2 : Nat) (a3 : Nat)
    (hm : 0x1000 ||| m = m) : Ev m s (State.addWatch t a1 a2 a3) := by
  unfold State.addWatch
  repeat' (first | with_reducible assumption | exact sub hm (by decide) | with_reducible exact fun hw => hw |
                    with_reducible apply ev_updTr | (intro u a hu) | (intro u hu) | split | dsimp only | (intro x))

theorem ev_dropWatch (h : Ev m s t) (a1 : Nat) (a2 : Nat) (a3 : Nat)
    (hm : 0x1000 ||| m = m) : Ev m s (State.dropWatch t a1 a2 a3) := by
  unfold State.dropWatch
  repeat' (first | with_reducible assumption | exact sub hm (by decide) | with_reducible exact fun hw => hw |
                    with_reducible exact fun hw => wf_filter _ hw | with_reducible apply ev_updTr | (intro u a hu) |
                    (intro u hu) | split | dsimp only | (intro x))

theorem ev_setPred (h : Ev m s t) (a1 : Nat) (a2 : Pred)
    (hm : 0x1000 ||| m = m) : Ev m s (State.setPred t a1 a2) := by
  unfold State.setPred
  repeat' (first | with_reducible assumption | exact sub hm (by decide) | with_reducible exact fun hw => hw |
                    with_reducible exact fun hw => wf_spSet _ _ hw | with_reducible exact fun hw => wf_spSetRun _ _ hw |
                    with_reducible apply ev_updTr | with_reducible apply ev_dropWatch | (intro u a hu) | (intro u hu) |
                    split | dsimp only | (intro x))

theorem ev_fillPred (h : Ev m s t) (a1 : Nat) (a2 : MapEntry) (a3 : Bool)
    (hm : 0x1000 ||| m = m) : Ev m s (State.fillPred t a1 a2 a3) := by
  unfold State.fillPred
  repeat' (first | with_reducible assumption | exact sub hm (by decide) | with_reducible apply ev_addWatch |
                    with_reducible apply ev_setPred | (intro u a hu) | (intro u hu) | split | dsimp only | (intro x))

theorem ev_lookedUp (h : Ev m s t) (a1 : Nat) (a2 : MapEntry)
    (hm : 0x221d22 ||| m = m) : Ev m s (State.lookedUp t a1 a2) := by
  unfold State.lookedUp
  repeat' (first | with_reducible assumption | exact sub hm (by decide) | with_reducible apply ev_fillPred |
                    with_reducible apply ev_dpFaultHere | (intro u a hu) | (intro u hu) | split | dsimp only | (intro x))

theorem ev_updResult (h : Ev m s t) (a1 : Nat) (a2 : Nat) (a3 : Result → Result)
    (hm : 0x800 ||| m = m) : Ev m s (State.updResult t a1 a2 a3) := by
  unfold State.updResult
  repeat' (first | with_reducible assumption | exact sub hm (by decide) | with_reducible apply ev_updCtx | (intro u a hu) |
                    (intro u hu) | split | dsimp only | (intro x))

theorem ev_readTart (h : Ev m s t) (a1 : Ctx) (a2 : Nat) (a3 : Nat) (a4 : MapEntry) (a5 : Bool)
    (hm : 0x3800 ||| m = m) : Ev m s (State.readTart t a1 a2 a3 a4 a5) := by
  unfold State.readTart
  repeat' (first | with_reducible assumption | exact sub hm (by decide) | with_reducible apply ev_addRead |
                    (refine ev_addRead_eq ?_ _ _ _ _ _ _ _ (by with_reducible assumption) ?_) |
                    with_reducible apply ev_addWatch | with_reducible apply ev_updCtx | (intro u a hu) | (intro u hu) |
                    split | dsimp only | (intro x))

theorem ev_dropResult (h : Ev m s t) (a1 : Nat) (a2 : Nat) (a3 : Nat)
    (hm : 0x1800 ||| m = m) : Ev m s (State.dropResult t a1 a2 a3) := by
  unfold State.dropResult
  repeat' (first | with_reducible assumption | exact sub hm (by decide) | with_reducible exact fun hw => wf_filter _ hw |
                    with_reducible apply ev_dropWatch | with_reducible apply ev_updCtx | (intro u a hu) | (intro u hu) |
                    split | dsimp only | (intro x))

theorem ev_pumpReads (h : Ev m s t) (a1 : Nat)
    (hm : 0x3800 ||| m = m) : Ev m s (State.pumpReads t a1) := by
  unfold State.pumpReads
  repeat' (first | with_reducible assumption | exact sub hm (by decide) | with_reducible exact fun hw => wf_filter _ hw |
                    with_reducible apply ev_readTart | with_reducible apply ev_each | (intro u a hu) | (intro u hu) | split |
                    dsimp only | (intro x))

theorem ev_takeStaged (h : Ev m s t) (a1 : Ctx) (a2 : Staged) (a3 : Result)
    (hm : 0x1800 ||| m = m) : Ev m s (State.takeStaged t a1 a2 a3) := by
  unfold State.takeStaged
  repeat' (first | with_reducible assumption | exact sub hm (by decide) | with_reducible exact fun hw => hw |
                    with_reducible exact fun hw => wf_filter _ hw | with_reducible apply ev_updTr |
                    with_reducible apply ev_addWatch | with_reducible apply ev_updCtx | with_reducible apply ev_dropWatch |
                    (intro u a hu) | (intro u hu) | split | dsimp only | (intro x))

theorem ev_useStaged (h : Ev m s t) (a1 : Ctx) (a2 : Lookup)
    (hm : 0x3800 ||| m = m) : Ev m s (State.useStaged t a1 a2) := by
  unfold State.useStaged
  repeat' (first | with_reducible assumption | exact sub hm (by decide) | with_reducible apply ev_takeStaged |
                    with_reducible apply ev_updClimb | (intro u a hu) | (intro u hu) | split | dsimp only | (intro x))

theorem ev_openBatch (h : Ev m s t) (a1 : Nat)
    (hm : 0x3802 ||| m = m) : Ev m s (State.openBatch t a1) := by
  unfold State.openBatch
  repeat' (first | with_reducible assumption | exact sub hm (by decide) | with_reducible exact fun hw => wf_filter _ hw |
                    with_reducible apply ev_updCtx | with_reducible apply ev_updVer | with_reducible apply ev_count |
                    with_reducible apply ev_useStaged | with_reducible apply ev_readTart | with_reducible apply ev_each |
                    with_reducible apply ev_when | (intro u a hu) | (intro u hu) | split | dsimp only | (intro x))

theorem ev_rerun (h : Ev m s t) (a1 : Nat)
    (hm : 0x3802 ||| m = m) : Ev m s (State.rerun t a1) := by
  unfold State.rerun
  repeat' (first | with_reducible assumption | exact sub hm (by decide) | with_reducible exact fun hw => hw |
                    with_reducible exact fun hw => wf_filter _ hw | with_reducible apply ev_openBatch |
                    with_reducible apply ev_count | with_reducible apply ev_updTr | with_reducible apply ev_updCtx |
                    with_reducible apply ev_addWatch | with_reducible apply ev_each | (intro u a hu) | (intro u hu) | split |
                    dsimp only | (intro x))

theorem ev_sendData (h : Ev m s t) (a1 : Ctx) (a2 : Nat) (a3 : List (Nat × Sector)) (a4 : Bool) (a5 : Bool)
    (hm : 0x20400 ||| m = m) : Ev m s (State.sendData t a1 a2 a3 a4 a5) := by
  unfold State.sendData
  repeat' (first | with_reducible assumption | exact sub hm (by decide) | with_reducible apply ev_cmbSector |
                    with_reducible apply ev_emit | with_reducible apply ev_each | (intro u a hu) | (intro u hu) | split |
                    dsimp only | (intro x))

theorem ev_finishRead (h : Ev m s t) (a1 : Ctx) (a2 : Ns)
    (hm : 0x227d22 ||| m = m) : Ev m s (State.finishRead t a1 a2) := by
  unfold State.finishRead
  repeat' (first | with_reducible assumption | exact sub hm (by decide) | with_reducible exact fun hw => wf_filter _ hw |
                    with_reducible apply ev_dpFaultHere | with_reducible apply ev_count | with_reducible apply ev_sendData |
                    with_reducible apply ev_finish | with_reducible apply ev_each | (intro u a hu) | (intro u hu) | split |
                    dsimp only | (intro x))

theorem ev_tryFinish (h : Ev m s t) (a1 : Nat)
    (hm : 0x227d22 ||| m = m) : Ev m s (State.tryFinish t a1) := by
  unfold State.tryFinish
  repeat' (first | with_reducible assumption | exact sub hm (by decide) | with_reducible apply ev_finishRead |
                    (intro u a hu) | (intro u hu) | split | dsimp only | (intro x))

theorem ev_resumeReads (h : Ev m s t)
    (hm : 0x227d22 ||| m = m) : Ev m s (State.resumeReads t) := by
  unfold State.resumeReads
  repeat' (first | with_reducible assumption | exact sub hm (by decide) | with_reducible exact fun hw => wf_filter _ hw |
                    with_reducible apply ev_tryFinish | with_reducible apply ev_each | (intro u a hu) | (intro u hu) | split |
                    dsimp only | (intro x))

theorem ev_failSpec (h : Ev m s t) (a1 : Nat) (a2 : Lookup) (a3 : Result)
    (hm : 0x3802 ||| m = m) : Ev m s (State.failSpec t a1 a2 a3) := by
  unfold State.failSpec
  repeat' (first | with_reducible assumption | exact sub hm (by decide) | with_reducible apply ev_count |
                    with_reducible apply ev_pumpReads | with_reducible apply ev_dropResult | with_reducible apply ev_when |
                    (intro u a hu) | (intro u hu) | split | dsimp only | (intro x))

theorem ev_confirmResult (h : Ev m s t) (a1 : Nat) (a2 : Lookup) (a3 : Result)
    (hm : 0x13802 ||| m = m) : Ev m s (State.confirmResult t a1 a2 a3) := by
  unfold State.confirmResult
  repeat' (first | with_reducible assumption | exact sub hm (by decide) | with_reducible exact fun _ => wf_nil _ |
                    with_reducible apply ev_applyStats | with_reducible apply ev_dropWatch |
                    with_reducible apply ev_updResult | (intro u a hu) | (intro u hu) | split | dsimp only | (intro x))

theorem ev_confirm (h : Ev m s t) (a1 : Nat) (a2 : Nat)
    (hm : 0x13802 ||| m = m) : Ev m s (State.confirm t a1 a2) := by
  unfold State.confirm
  repeat' (first | with_reducible assumption | exact sub hm (by decide) | with_reducible apply ev_failSpec |
                    with_reducible apply ev_rerun | with_reducible apply ev_confirmResult | (intro u a hu) | (intro u hu) |
                    split | dsimp only | (intro x))

theorem ev_advance (h : Ev m s t) (a1 : Nat)
    (hm : 0x237d22 ||| m = m) : Ev m s (State.advance t a1) := by
  unfold State.advance
  repeat' (first | with_reducible assumption | exact sub hm (by decide) | with_reducible apply ev_tryFinish |
                    with_reducible apply ev_confirm | with_reducible apply ev_each | (intro u a hu) | (intro u hu) | split |
                    dsimp only | (intro x))

theorem ev_hostResult (h : Ev m s t) (a1 : Nat) (a2 : Nat) (a3 : Op) (a4 : ReadRes)
    (hm : 0x237d22 ||| m = m) : Ev m s (State.hostResult t a1 a2 a3 a4) := by
  unfold State.hostResult
  repeat' (first | with_reducible assumption | exact sub hm (by decide) | with_reducible apply ev_updResult |
                    with_reducible apply ev_updCtx | with_reducible apply ev_sendData | with_reducible apply ev_advance |
                    (intro u a hu) | (intro u hu) | split | dsimp only | (intro x))

theorem ev_stageResult (h : Ev m s t) (a1 : Op) (a2 : ReadRes)
    (hm : 0x1000 ||| m = m) : Ev m s (State.stageResult t a1 a2) := by
  unfold State.stageResult
  repeat' (first | with_reducible assumption | exact sub hm (by decide) | with_reducible exact fun hw => hw |
                    with_reducible apply ev_updTr | (intro u a hu) | (intro u hu) | split | dsimp only | (intro x))

theorem ev_mergeResult (h : Ev m s t) (a1 : Nat) (a2 : Op) (a3 : ReadRes)
    (hm : 0x233d22 ||| m = m) : Ev m s (State.mergeResult t a1 a2 a3) := by
  unfold State.mergeResult
  repeat' (first | with_reducible assumption | exact sub hm (by decide) | with_reducible exact fun hw => hw |
                    with_reducible apply ev_dropWatch | with_reducible apply ev_lookedUp | with_reducible apply ev_updTr |
                    with_reducible apply ev_addWatch | with_reducible apply ev_addRead |
                    (refine ev_addRead_eq ?_ _ _ _ _ _ _ _ (by with_reducible assumption) ?_) |
                    with_reducible apply ev_applyStats | (intro u a hu) | (intro u hu) | split | dsimp only | (intro x))

theorem ev_copyResult (h : Ev m s t) (a1 : Nat) (a2 : Nat) (a3 : Nat) (a4 : Op) (a5 : ReadRes)
    (hm : 0x232d22 ||| m = m) : Ev m s (State.copyResult t a1 a2 a3 a4 a5) := by
  unfold State.copyResult
  repeat' (first | with_reducible assumption | exact sub hm (by decide) | with_reducible exact fun hw => hw |
                    with_reducible exact fun hw => ⟨hw.1, hw.2, hw.3⟩ | with_reducible apply ev_applyStats |
                    with_reducible apply ev_dpFaultHere | with_reducible apply ev_count | with_reducible apply ev_updMd |
                    (intro u a hu) | (intro u hu) | split | dsimp only | (intro x))

theorem ev_patrolResult (h : Ev m s t) (a1 : Op) (a2 : ReadRes) (a3 : Bool)
    (hm : 0x232d22 ||| m = m) : Ev m s (State.patrolResult t a1 a2 a3) := by
  unfold State.patrolResult
  repeat' (first | with_reducible assumption | exact sub hm (by decide) | with_reducible exact fun hw => hw |
                    with_reducible exact fun hw => ⟨hw.1, hw.2, hw.3⟩ | with_reducible apply ev_applyStats |
                    with_reducible apply ev_aev | with_reducible apply ev_dpFaultHere | with_reducible apply ev_count |
                    with_reducible apply ev_updMd | (intro u a hu) | (intro u hu) | split | dsimp only | (intro x))

theorem ev_calibResult (h : Ev m s t) (a1 : Op) (a2 : ReadRes)
    (hm : 0x10002 ||| m = m) : Ev m s (State.calibResult t a1 a2) := by
  unfold State.calibResult
  repeat' (first | with_reducible assumption | exact sub hm (by decide) | with_reducible exact fun hw => wf_filter _ hw |
                    with_reducible apply ev_measure | with_reducible apply ev_countCws | with_reducible apply ev_count |
                    (intro u a hu) | (intro u hu) | split | dsimp only | (intro x))

theorem ev_closeResult (h : Ev m s t) (a1 : Nat) (a2 : Op) (a3 : ReadRes)
    (hm : 0x2000 ||| m = m) : Ev m s (State.closeResult t a1 a2 a3) := by
  unfold State.closeResult
  repeat' (first | with_reducible assumption | exact sub hm (by decide) | with_reducible exact fun hw => hw |
                    with_reducible exact fun hw => wf_filter _ hw | with_reducible exact fun hw => ⟨hw.1, hw.2, hw.3⟩ |
                    (intro hw; constructor <;>
                     with_reducible first | exact hw.1 | exact hw.2 | exact hw.3 | exact wf_spSet _ _ hw.1 | exact wf_spSet _ _ hw.2
                                          | exact wf_spSet _ _ hw.3 | exact wf_filter _ hw.1 | exact wf_filter _ hw.3
                                          | exact wf_spMap _ hw.3 | exact wf_nil _) |
                    with_reducible apply ev_updMd | (intro u a hu) | (intro u hu) | split | dsimp only | (intro x))

theorem ev_deliverRead (h : Ev m s t) (a1 : Op) (a2 : ReadRes)
    (hm : 0x237d22 ||| m = m) : Ev m s (State.deliverRead t a1 a2) := by
  unfold State.deliverRead
  repeat' (first | with_reducible assumption | exact sub hm (by decide) | with_reducible apply ev_hostResult |
                    with_reducible apply ev_stageResult | with_reducible apply ev_mergeResult |
                    with_reducible apply ev_copyResult | with_reducible apply ev_patrolResult |
                    with_reducible apply ev_calibResult | with_reducible apply ev_closeResult | (intro u a hu) |
                    (intro u hu) | split | dsimp only | (intro x))

theorem ev_readDone (t : State × Option (Op × ReadRes)) (h : Ev m s t.1)
    (hm : 0x237d22 ||| m = m) : Ev m s (readDone t) := by
  unfold readDone
  repeat' (first | with_reducible assumption | exact sub hm (by decide) | with_reducible apply ev_reconGot |
                    (refine ev_reconGot_eq ?_ _ _ _ _ _ _ (by with_reducible assumption) ?_) |
                    with_reducible apply ev_deliverRead | (intro u a hu) | (intro u hu) | split | dsimp only | (intro x))

theorem ev_execFlashReadResult (h : Ev m s t) (a0 : Nat) (a1 : DecodeRes) (u : State) (hu : execFlashReadResult a0 a1 t =
    .next u)
    (hm : 0x237d22 ||| m = m) : Ev m s u := by
  unfold execFlashReadResult at hu; injection hu with hu; subst hu
  repeat' (first | with_reducible assumption | exact sub hm (by decide) | with_reducible apply ev_readDone |
                    with_reducible apply ev_attempt | (refine ev_attempt_eq ?_ _ _ _ _ (by with_reducible assumption) ?_) |
                    with_reducible apply ev_setDie | with_reducible apply ev_dropOp | (intro u a hu) | (intro u hu) | split |
                    dsimp only | (intro x))

theorem ev_resumeClimbs (h : Ev m s t) (a1 : Nat) (a2 : Nat)
    (hm : 0x237d22 ||| m = m) : Ev m s (State.resumeClimbs t a1 a2) := by
  unfold State.resumeClimbs
  repeat' (first | with_reducible assumption | exact sub hm (by decide) | with_reducible exact fun hw => wf_filter _ hw |
                    with_reducible apply ev_readDone | with_reducible apply ev_resumeClimb |
                    (refine ev_resumeClimb_eq ?_ _ _ _ (by with_reducible assumption) ?_) | with_reducible apply ev_each |
                    (intro u a hu) | (intro u hu) | split | dsimp only | (intro x))

theorem ev_execMapLookupReturn (h : Ev m s t) (a0 : Nat) (a1 : Nat) (u : State) (hu : execMapLookupReturn a0 a1 t = .next u)
    (hm : 0x237d22 ||| m = m) : Ev m s u := by
  unfold execMapLookupReturn at hu; injection hu with hu; subst hu
  repeat' (first | with_reducible assumption | exact sub hm (by decide) | with_reducible apply ev_lookedUp |
                    with_reducible apply ev_updCtx | with_reducible apply ev_advance | with_reducible apply ev_resumeClimbs |
                    with_reducible apply ev_pumpReads | with_reducible apply ev_finish | (intro u a hu) | (intro u hu) |
                    split | dsimp only | (intro x))

theorem ev_watchLimit (h : Ev m s t) (a1 : Watch)
    (hm : 0x237d22 ||| m = m) : Ev m s (State.watchLimit t a1) := by
  unfold State.watchLimit
  repeat' (first | with_reducible assumption | exact sub hm (by decide) | with_reducible exact fun hw => hw |
                    with_reducible exact fun hw => wf_filter _ hw | with_reducible apply ev_updTr |
                    with_reducible apply ev_advance | with_reducible apply ev_updResult | with_reducible apply ev_setPred |
                    (intro u a hu) | (intro u hu) | split | dsimp only | (intro x))

theorem ev_countWatch (h : Ev m s t) (a1 : Nat)
    (hm : 0x237d22 ||| m = m) : Ev m s (State.countWatch t a1) := by
  unfold State.countWatch
  repeat' (first | with_reducible assumption | exact sub hm (by decide) | with_reducible exact fun hw => hw |
                    with_reducible exact fun hw => wf_filter _ hw | with_reducible apply ev_updTr |
                    with_reducible apply ev_watchLimit | with_reducible apply ev_each | (intro u a hu) | (intro u hu) |
                    split | dsimp only | (intro x))

theorem ev_execWatchCountLimit (h : Ev m s t) (a0 : Nat) (u : State) (hu : execWatchCountLimit a0 t = .next u)
    (hm : 0x237d22 ||| m = m) : Ev m s u := by
  unfold execWatchCountLimit at hu; injection hu with hu; subst hu
  repeat' (first | with_reducible assumption | exact sub hm (by decide) | with_reducible apply ev_watchLimit |
                    (intro u a hu) | (intro u hu) | split | dsimp only | (intro x))

theorem ev_dropStaged (h : Ev m s t) (a1 : Staged)
    (hm : 0x3000 ||| m = m) : Ev m s (State.dropStaged t a1) := by
  unfold State.dropStaged
  repeat' (first | with_reducible assumption | exact sub hm (by decide) | with_reducible exact fun hw => hw |
                    with_reducible exact fun hw => wf_filter _ hw | with_reducible apply ev_updTr |
                    with_reducible apply ev_dropWatch | with_reducible apply ev_dropReads | (intro u a hu) | (intro u hu) |
                    split | dsimp only | (intro x))

theorem ev_execStagedTartExpiry (h : Ev m s t) (a0 : Nat) (u : State) (hu : execStagedTartExpiry a0 t = .next u)
    (hm : 0x3000 ||| m = m) : Ev m s u := by
  unfold execStagedTartExpiry at hu; injection hu with hu; subst hu
  repeat' (first | with_reducible assumption | exact sub hm (by decide) | with_reducible exact fun hw => wf_filter _ hw |
                    with_reducible apply ev_dropStaged | with_reducible apply ev_each | (intro u a hu) | (intro u hu) |
                    split | dsimp only | (intro x))

theorem ev_stage (h : Ev m s t) (a1 : Nat) (a2 : Ns) (a3 : Nat)
    (hm : 0x223d22 ||| m = m) : Ev m s (State.stage t a1 a2 a3) := by
  unfold State.stage
  repeat' (first | with_reducible assumption | exact sub hm (by decide) | with_reducible exact fun hw => hw |
                    with_reducible exact fun hw => wf_filter _ hw | with_reducible apply ev_lookedUp |
                    with_reducible apply ev_updTr | with_reducible apply ev_addWatch | with_reducible apply ev_addRead |
                    (refine ev_addRead_eq ?_ _ _ _ _ _ _ _ (by with_reducible assumption) ?_) | with_reducible apply ev_each |
                    (intro u a hu) | (intro u hu) | split | dsimp only | (intro x))

theorem ev_noteStream (h : Ev m s t) (a1 : Nat) (a2 : Ns) (a3 : Nat) (a4 : Nat)
    (hm : 0x223d22 ||| m = m) : Ev m s (State.noteStream t a1 a2 a3 a4) := by
  unfold State.noteStream
  repeat' (first | with_reducible assumption | exact sub hm (by decide) | with_reducible exact fun hw => hw |
                    with_reducible exact fun hw => wf_filter _ hw | with_reducible apply ev_updTr |
                    with_reducible apply ev_stage | (intro u a hu) | (intro u hu) | split | dsimp only | (intro x))

/-! ### Windows.lean -/

theorem ev_setLedgerByte (h : Ev m s t) (a1 : Nat) (a2 : Byte)
    (hm : 0x4000 ||| m = m) : Ev m s (State.setLedgerByte t a1 a2) := by
  unfold State.setLedgerByte
  repeat' (first | with_reducible assumption | exact sub hm (by decide) | with_reducible apply ev_ledgerWrite |
                    (intro u a hu) | (intro u hu) | split | dsimp only | (intro x))

theorem ev_countGran (h : Ev m s t) (a1 : Nat) (a2 : Nat)
    (hm : 0x4000 ||| m = m) : Ev m s (State.countGran t a1 a2) := by
  unfold State.countGran
  repeat' (first | with_reducible assumption | exact sub hm (by decide) | with_reducible exact fun hw => hw |
                    with_reducible exact fun hw => wf_spSet _ _ hw | with_reducible exact fun hw => wf_spSetRun _ _ hw |
                    with_reducible apply ev_updLg | with_reducible apply ev_each | (intro u a hu) | (intro u hu) | split |
                    dsimp only | (intro x))

theorem ev_pmrWrite (h : Ev m s t) (a1 : Nat) (a2 : List Byte)
    (hm : 0x4002 ||| m = m) : Ev m s (State.pmrWrite t a1 a2) := by
  unfold State.pmrWrite
  repeat' (first | with_reducible assumption | exact sub hm (by decide) | with_reducible apply ev_count |
                    with_reducible apply ev_countGran | with_reducible apply ev_setLedgerByte | with_reducible apply ev_each |
                    (intro u a hu) | (intro u hu) | split | dsimp only | (intro x))

theorem ev_pmrRead (h : Ev m s t) (a1 : Nat) (a2 : Nat) (a3 : Bool)
    (hm : 0x422 ||| m = m) : Ev m s (State.pmrRead t a1 a2 a3) := by
  unfold State.pmrRead
  repeat' (first | with_reducible assumption | exact sub hm (by decide) | with_reducible apply ev_emit |
                    with_reducible apply ev_ledgerBad | (intro u a hu) | (intro u hu) | split | dsimp only | (intro x))

theorem ev_saveGran (h : Ev m s t) (a1 : Nat) (a2 : List Nat)
    (hm : 0x4000 ||| m = m) : Ev m s (State.saveGran t a1 a2) := by
  unfold State.saveGran
  repeat' (first | with_reducible assumption | exact sub hm (by decide) | with_reducible apply ev_ledgerWrite |
                    with_reducible apply ev_each | (intro u a hu) | (intro u hu) | split | dsimp only | (intro x))

theorem ev_rotate (h : Ev m s t) (a1 : Nat)
    (hm : 0x4002 ||| m = m) : Ev m s (State.rotate t a1) := by
  unfold State.rotate
  repeat' (first | with_reducible assumption | exact sub hm (by decide) | with_reducible exact fun hw => hw |
                    with_reducible exact fun hw => wf_spSet _ _ hw | with_reducible exact fun hw => wf_spSetRun _ _ hw |
                    with_reducible apply ev_wr | with_reducible apply ev_ledgerWrite | with_reducible apply ev_updLg |
                    with_reducible apply ev_saveGran | with_reducible apply ev_count | (intro u a hu) | (intro u hu) | split |
                    dsimp only | (intro x))

theorem ev_execPmrGranuleRotation (h : Ev m s t) (a0 : Nat) (u : State) (hu : execPmrGranuleRotation a0 t = .next u)
    (hm : 0x4002 ||| m = m) : Ev m s u := by
  unfold execPmrGranuleRotation at hu; injection hu with hu; subst hu
  repeat' (first | with_reducible assumption | exact sub hm (by decide) | with_reducible apply ev_rotate | (intro u a hu) |
                    (intro u hu) | split | dsimp only | (intro x))

theorem ev_undecoded (h : Ev m s t) (a1 : Nat) (a2 : Bool)
    (hm : 0xc00 ||| m = m) : Ev m s (State.undecoded t a1 a2) := by
  unfold State.undecoded
  repeat' (first | with_reducible assumption | exact sub hm (by decide) | with_reducible apply ev_aer |
                    with_reducible apply ev_emit | (intro u a hu) | (intro u hu) | split | dsimp only | (intro x))

theorem ev_windowMiss (h : Ev m s t) (a1 : Nat) (a2 : Bool)
    (hm : 0xc02 ||| m = m) : Ev m s (State.windowMiss t a1 a2) := by
  unfold State.windowMiss
  repeat' (first | with_reducible assumption | exact sub hm (by decide) | with_reducible apply ev_aer |
                    with_reducible apply ev_count | with_reducible apply ev_emit | (intro u a hu) | (intro u hu) | split |
                    dsimp only | (intro x))

theorem ev_cmbAccess (h : Ev m s t) (a1 : Nat) (a2 : Nat) (a3 : Bool) (a4 : List Byte)
    (hm : 0x20400 ||| m = m) : Ev m s (State.cmbAccess t a1 a2 a3 a4) := by
  unfold State.cmbAccess
  repeat' (first | with_reducible assumption | exact sub hm (by decide) | with_reducible apply ev_cmbPut |
                    with_reducible apply ev_emit | (intro u a hu) | (intro u hu) | split | dsimp only | (intro x))

theorem ev_windowTlp (h : Ev m s t) (a1 : Nat) (a2 : Nat) (a3 : Nat) (a4 : Nat) (a5 : Bool) (a6 : List Byte) (a7 : Bool) (a8
    : Bool)
    (hm : 0x24c22 ||| m = m) : Ev m s (State.windowTlp t a1 a2 a3 a4 a5 a6 a7 a8) := by
  unfold State.windowTlp
  repeat' (first | with_reducible assumption | exact sub hm (by decide) | with_reducible apply ev_emit |
                    with_reducible apply ev_undecoded | with_reducible apply ev_windowMiss | with_reducible apply ev_aer |
                    with_reducible apply ev_pmrWrite | with_reducible apply ev_pmrRead | with_reducible apply ev_cmbAccess |
                    (intro u a hu) | (intro u hu) | split | dsimp only | (intro x))

theorem ev_msixWrite (h : Ev m s t) (a1 : Nat) (a2 : Nat) (a3 : Nat)
    (hm : 0xc00 ||| m = m) : Ev m s (State.msixWrite t a1 a2 a3) := by
  unfold State.msixWrite
  repeat' (first | with_reducible assumption | exact sub hm (by decide) | with_reducible exact fun hw => wf_spSet _ _ hw |
                    with_reducible exact fun hw => wf_spSetRun _ _ hw | with_reducible exact fun hw => wf_filter _ hw |
                    with_reducible apply ev_updFn | with_reducible apply ev_sendMsix | (intro u a hu) | (intro u hu) | split |
                    dsimp only | (intro x))

theorem ev_ccWrite (h : Ev m s t) (a1 : Nat) (a2 : Nat)
    (hm : 0x247900 ||| m = m) : Ev m s (State.ccWrite t a1 a2) := by
  unfold State.ccWrite
  repeat' (first | with_reducible assumption | exact sub hm (by decide) | with_reducible exact fun hw => wf_spSet _ _ hw |
                    with_reducible exact fun hw => wf_spSetRun _ _ hw | with_reducible apply ev_enableFn |
                    with_reducible apply ev_disableFn | with_reducible apply ev_updFn | with_reducible apply ev_shutFn |
                    (intro u a hu) | (intro u hu) | split | dsimp only | (intro x))

theorem ev_bar0Write (h : Ev m s t) (a1 : Nat) (a2 : Nat) (a3 : Nat)
    (hm : 0x247d22 ||| m = m) : Ev m s (State.bar0Write t a1 a2 a3) := by
  unfold State.bar0Write
  repeat' (first | with_reducible assumption | exact sub hm (by decide) | with_reducible exact fun hw => wf_spSet _ _ hw |
                    with_reducible exact fun hw => wf_spSetRun _ _ hw | with_reducible apply ev_ccWrite |
                    with_reducible apply ev_updFn | with_reducible apply ev_tailDoorbell |
                    with_reducible apply ev_headDoorbell | with_reducible apply ev_msixWrite | (intro u a hu) | (intro u hu) |
                    split | dsimp only | (intro x))

theorem ev_bar0Tlp (h : Ev m s t) (a1 : Nat) (a2 : Nat) (a3 : Nat) (a4 : Bool) (a5 : List Byte) (a6 : Bool)
    (hm : 0x247d22 ||| m = m) : Ev m s (State.bar0Tlp t a1 a2 a3 a4 a5 a6) := by
  unfold State.bar0Tlp
  repeat' (first | with_reducible assumption | exact sub hm (by decide) | with_reducible apply ev_emit |
                    with_reducible apply ev_undecoded | with_reducible apply ev_aer | with_reducible apply ev_bar0Write |
                    with_reducible apply ev_each | (intro u a hu) | (intro u hu) | split | dsimp only | (intro x))

theorem ev_tlpError (h : Ev m s t) (a1 : Nat) (a2 : AerErr)
    (hm : 0xc00 ||| m = m) : Ev m s (State.tlpError t a1 a2) := by
  unfold State.tlpError
  repeat' (first | with_reducible assumption | exact sub hm (by decide) | with_reducible apply ev_aer | (intro u a hu) |
                    (intro u hu) | split | dsimp only | (intro x))

theorem ev_barTlp (h : Ev m s t) (a1 : Nat) (a2 : Nat) (a3 : Nat) (a4 : Nat) (a5 : Nat) (a6 : Bool) (a7 : List Byte) (a8 :
    Bool) (a9 : Bool)
    (hm : 0x267d22 ||| m = m) : Ev m s (State.barTlp t a1 a2 a3 a4 a5 a6 a7 a8 a9) := by
  unfold State.barTlp
  repeat' (first | with_reducible assumption | exact sub hm (by decide) | with_reducible apply ev_bar0Tlp |
                    with_reducible apply ev_windowTlp | with_reducible apply ev_emit | with_reducible apply ev_undecoded |
                    (intro u a hu) | (intro u hu) | split | dsimp only | (intro x))

theorem ev_execInboundWindowTlp (h : Ev m s t) (a0 : Nat) (a1 : Nat) (a2 : Nat) (a3 : Nat) (a4 : Nat) (a5 : Bool) (a6 : List
    Byte) (a7 : Bool) (a8 : Option AerErr) (u : State) (hu : execInboundWindowTlp a0 a1 a2 a3 a4 a5 a6 a7 a8 t = .next u)
    (hm : 0x267d22 ||| m = m) : Ev m s u := by
  unfold execInboundWindowTlp at hu; injection hu with hu; subst hu
  repeat' (first | with_reducible assumption | exact sub hm (by decide) | with_reducible apply ev_tlpError |
                    with_reducible apply ev_barTlp | with_reducible apply ev_inbound | (intro u a hu) | (intro u hu) | split |
                    dsimp only | (intro x))

theorem ev_execPmrTlp (h : Ev m s t) (a0 : Nat) (a1 : Nat) (a2 : Nat) (a3 : Nat) (a4 : Bool) (a5 : List Byte) (a6 : Bool) (u
    : State) (hu : execPmrTlp a0 a1 a2 a3 a4 a5 a6 t = .next u)
    (hm : 0x24c22 ||| m = m) : Ev m s u := by
  unfold execPmrTlp at hu; injection hu with hu; subst hu
  repeat' (first | with_reducible assumption | exact sub hm (by decide) | with_reducible apply ev_windowTlp |
                    with_reducible apply ev_inbound | (intro u a hu) | (intro u hu) | split | dsimp only | (intro x))

theorem ev_copyRom (h : Ev m s t)
    (hm : 0x20000 ||| m = m) : Ev m s (State.copyRom t) := by
  unfold State.copyRom
  repeat' (first | with_reducible assumption | exact sub hm (by decide) | with_reducible exact fun hw => hw |
                    with_reducible exact fun hw => wf_spSet _ _ hw | with_reducible exact fun hw => wf_spSetRun _ _ hw |
                    with_reducible exact fun hw => wf_filter _ hw | with_reducible apply ev_updDr |
                    with_reducible apply ev_foldl | with_reducible apply ev_foldl_snd | with_reducible apply ev_foldl_fst |
                    (intro u a hu) | (intro u hu) | split | dsimp only | (intro x))

theorem ev_romTlp (h : Ev m s t) (a1 : Nat) (a2 : Nat) (a3 : Nat) (a4 : Bool)
    (hm : 0xc02 ||| m = m) : Ev m s (State.romTlp t a1 a2 a3 a4) := by
  unfold State.romTlp
  repeat' (first | with_reducible assumption | exact sub hm (by decide) | with_reducible apply ev_emit |
                    with_reducible apply ev_undecoded | with_reducible apply ev_count | (intro u a hu) | (intro u hu) |
                    split | dsimp only | (intro x))

theorem ev_execExpansionRomTlp (h : Ev m s t) (a0 : Nat) (a1 : Nat) (a2 : Nat) (a3 : Bool) (u : State) (hu :
    execExpansionRomTlp a0 a1 a2 a3 t = .next u)
    (hm : 0xc02 ||| m = m) : Ev m s u := by
  unfold execExpansionRomTlp at hu; injection hu with hu; subst hu
  repeat' (first | with_reducible assumption | exact sub hm (by decide) | with_reducible apply ev_inbound |
                    with_reducible apply ev_romTlp | (intro u a hu) | (intro u hu) | split | dsimp only | (intro x))

theorem ev_ingressNow (h : Ev m s t) (a1 : Instr)
    (hm : 0x267d22 ||| m = m) : Ev m s (State.ingressNow t a1) := by
  unfold State.ingressNow
  repeat' (first | with_reducible assumption | exact sub hm (by decide) | with_reducible apply ev_barTlp |
                    with_reducible apply ev_windowTlp | with_reducible apply ev_romTlp |
                    with_reducible apply ev_tailDoorbell | with_reducible apply ev_headDoorbell |
                    with_reducible apply ev_enableFn | with_reducible apply ev_disableFn | with_reducible apply ev_shutFn |
                    (intro u a hu) | (intro u hu) | split | dsimp only | (intro x))

theorem ev_drainIngress (h : Ev m s t)
    (hm : 0x267d22 ||| m = m) : Ev m s (State.drainIngress t) := by
  unfold State.drainIngress
  repeat' (first | with_reducible assumption | exact sub hm (by decide) | with_reducible exact fun hw => hw |
                    with_reducible exact fun _ => wf_nil _ | with_reducible apply ev_updNv |
                    with_reducible apply ev_ingressNow | with_reducible apply ev_each | (intro u a hu) | (intro u hu) |
                    split | dsimp only | (intro x))

theorem ev_winSet (h : Ev m s t) (a1 : Nat) (a2 : Nat)
    (hm : 0x2 ||| m = m) : Ev m s (State.winSet t a1 a2) := by
  unfold State.winSet
  repeat' (first | with_reducible assumption | exact sub hm (by decide) | with_reducible apply ev_wr |
                    with_reducible apply ev_setReg | (intro u a hu) | (intro u hu) | split | dsimp only | (intro x))

theorem ev_winWrite (h : Ev m s t) (a1 : Nat) (a2 : Nat)
    (hm : 0x2 ||| m = m) : Ev m s (State.winWrite t a1 a2) := by
  unfold State.winWrite
  repeat' (first | with_reducible assumption | exact sub hm (by decide) | with_reducible apply ev_winSet |
                    with_reducible apply ev_wr | (intro u a hu) | (intro u hu) | split | dsimp only | (intro x))

theorem ev_execWindowEnableWrite (h : Ev m s t) (a0 : Nat) (a1 : Nat) (a2 : Nat) (a3 : Nat) (u : State) (hu :
    execWindowEnableWrite a0 a1 a2 a3 t = .next u)
    (hm : 0x2 ||| m = m) : Ev m s u := by
  unfold execWindowEnableWrite at hu; injection hu with hu; subst hu
  repeat' (first | with_reducible assumption | exact sub hm (by decide) | with_reducible apply ev_winWrite | (intro u a hu) |
                    (intro u hu) | split | dsimp only | (intro x))

/-! ### Link.lean -/

theorem ev_execPerstDeassert (h : Ev m s t) (a0 : Nat) (a1 : Nat) (a2 : Nat) (a3 : Bool) (u : State) (hu : execPerstDeassert
    a0 a1 a2 a3 t = .next u)
    (hm : 0x802 ||| m = m) : Ev m s u := by
  unfold execPerstDeassert at hu; injection hu with hu; subst hu
  repeat' (first | with_reducible assumption | exact sub hm (by decide) | with_reducible exact fun hw => hw |
                    with_reducible apply ev_updNv | with_reducible apply ev_wr | (intro u a hu) | (intro u hu) | split |
                    dsimp only | (intro x))

theorem ev_configByte (h : Ev m s t) (a1 : Nat) (a2 : Nat)
    (hm : 0x10 ||| m = m) : Ev m s (State.configByte t a1 a2).2 := by
  unfold State.configByte
  repeat' (first | with_reducible assumption | exact sub hm (by decide) | with_reducible apply ev_free |
                    (refine ev_free_eq ?_ _ _ (by with_reducible assumption) ?_) | (intro u a hu) | (intro u hu) | split |
                    dsimp only | (intro x))

theorem ev_configByte_eq  (h : Ev m s t) (a1 : Nat) (a2 : Nat)  (v : Nat) (u : State)
    (e : State.configByte t a1 a2 = (v, u))
    (hm : 0x10 ||| m = m) : Ev m s u := by
  have k := ev_configByte h a1 a2  hm; rw [e] at k; exact k

theorem ev_execConfigRequestRetry (h : Ev m s t) (a0 : Nat) (a1 : Nat) (a2 : Nat) (u : State) (hu : execConfigRequestRetry
    a0 a1 a2 t = .next u)
    (hm : 0x410 ||| m = m) : Ev m s u := by
  unfold execConfigRequestRetry at hu; injection hu with hu; subst hu
  repeat' (first | with_reducible assumption | exact sub hm (by decide) | with_reducible apply ev_emit |
                    with_reducible apply ev_configByte |
                    (refine ev_configByte_eq ?_ _ _ _ _ (by with_reducible assumption) ?_) | (intro u a hu) | (intro u hu) |
                    split | dsimp only | (intro x))

theorem ev_linkDown (h : Ev m s t) (a1 : Nat)
    (hm : 0x47902 ||| m = m) : Ev m s (State.linkDown t a1) := by
  unfold State.linkDown
  repeat' (first | with_reducible assumption | exact sub hm (by decide) | with_reducible exact fun hw => hw |
                    with_reducible exact fun hw => wf_filter _ hw | with_reducible apply ev_wr |
                    with_reducible apply ev_updNv | with_reducible apply ev_resetController | with_reducible apply ev_each |
                    (intro u a hu) | (intro u hu) | split | dsimp only | (intro x))

theorem ev_execPortLinkDown (h : Ev m s t) (a0 : Nat) (u : State) (hu : execPortLinkDown a0 t = .next u)
    (hm : 0x47902 ||| m = m) : Ev m s u := by
  unfold execPortLinkDown at hu; injection hu with hu; subst hu
  repeat' (first | with_reducible assumption | exact sub hm (by decide) | with_reducible apply ev_linkDown | (intro u a hu) |
                    (intro u hu) | split | dsimp only | (intro x))

theorem ev_endVf (h : Ev m s t) (a1 : Nat)
    (hm : 0x47902 ||| m = m) : Ev m s (State.endVf t a1) := by
  unfold State.endVf
  repeat' (first | with_reducible assumption | exact sub hm (by decide) | with_reducible exact fun _ => wf_nil _ |
                    with_reducible apply ev_endFn | with_reducible apply ev_wr | with_reducible apply ev_updFn |
                    with_reducible apply ev_each | (intro u a hu) | (intro u hu) | split | dsimp only | (intro x))

theorem ev_changeVfs (h : Ev m s t) (a1 : Nat) (a2 : Fn → Fn)
    (hm : 0x47902 ||| m = m) : Ev m s (State.changeVfs t a1 a2) := by
  unfold State.changeVfs
  repeat' (first | with_reducible assumption | exact sub hm (by decide) | with_reducible exact fun hw => wf_filter _ hw |
                    with_reducible apply ev_updFn | with_reducible apply ev_endVf | with_reducible apply ev_each |
                    (intro u a hu) | (intro u hu) | split | dsimp only | (intro x))

theorem ev_execVfEnable (h : Ev m s t) (a0 : Nat) (a1 : Nat) (u : State) (hu : execVfEnable a0 a1 t = .next u)
    (hm : 0x47902 ||| m = m) : Ev m s u := by
  unfold execVfEnable at hu; injection hu with hu; subst hu
  repeat' (first | with_reducible assumption | exact sub hm (by decide) | with_reducible apply ev_changeVfs | (intro u a hu) |
                    (intro u hu) | split | dsimp only | (intro x))

theorem ev_clearBme (h : Ev m s t) (a1 : Nat)
    (hm : 0x800 ||| m = m) : Ev m s (State.clearBme t a1) := by
  unfold State.clearBme
  repeat' (first | with_reducible assumption | exact sub hm (by decide) | with_reducible exact fun hw => hw |
                    with_reducible exact fun hw => wf_filter _ hw | with_reducible apply ev_updFn |
                    with_reducible apply ev_updNv | with_reducible apply ev_getD | (intro u a hu) | (intro u hu) | split |
                    dsimp only | (intro x))

theorem ev_execBusMasterEnableClear (h : Ev m s t) (a0 : Nat) (u : State) (hu : execBusMasterEnableClear a0 t = .next u)
    (hm : 0x200800 ||| m = m) : Ev m s u := by
  unfold execBusMasterEnableClear at hu; injection hu with hu; subst hu
  repeat' (first | with_reducible assumption | exact sub hm (by decide) | with_reducible apply ev_clearBme |
                    with_reducible apply ev_testHostFn | (intro u a hu) | (intro u hu) | split | dsimp only | (intro x))

theorem ev_execBusMasterEnableSet (h : Ev m s t) (a0 : Nat) (a1 : FnCfg) (u : State) (hu : execBusMasterEnableSet a0 a1 t =
    .next u)
    (hm : 0x227d22 ||| m = m) : Ev m s u := by
  unfold execBusMasterEnableSet at hu; injection hu with hu; subst hu
  repeat' (first | with_reducible assumption | exact sub hm (by decide) | with_reducible exact fun hw => wf_filter _ hw |
                    with_reducible apply ev_resumeReads | with_reducible apply ev_drain | with_reducible apply ev_pump |
                    with_reducible apply ev_updFn | (intro u a hu) | (intro u hu) | split | dsimp only | (intro x))

theorem ev_execFlrWrite (h : Ev m s t) (a0 : Nat) (u : State) (hu : execFlrWrite a0 t = .next u)
    (hm : 0x247902 ||| m = m) : Ev m s u := by
  unfold execFlrWrite at hu; injection hu with hu; subst hu
  repeat' (first | with_reducible assumption | exact sub hm (by decide) | with_reducible exact fun _ => wf_nil _ |
                    with_reducible apply ev_endFn | with_reducible apply ev_testHostFn | with_reducible apply ev_updFn |
                    with_reducible apply ev_changeVfs | (intro u a hu) | (intro u hu) | split | dsimp only | (intro x))

theorem ev_execFlrComplete (h : Ev m s t) (a0 : Nat) (u : State) (hu : execFlrComplete a0 t = .next u)
    (hm : 0x800 ||| m = m) : Ev m s u := by
  unfold execFlrComplete at hu; injection hu with hu; subst hu
  repeat' (first | with_reducible assumption | exact sub hm (by decide) | with_reducible apply ev_resetDone |
                    with_reducible apply ev_updFn | (intro u a hu) | (intro u hu) | split | dsimp only | (intro x))

theorem ev_tagbudWrite (h : Ev m s t) (a1 : Nat) (a2 : Nat) (a3 : Nat)
    (hm : 0x200c22 ||| m = m) : Ev m s (State.tagbudWrite t a1 a2 a3) := by
  unfold State.tagbudWrite
  repeat' (first | with_reducible assumption | exact sub hm (by decide) | with_reducible apply ev_discarded |
                    with_reducible apply ev_pump | with_reducible apply ev_wr | (intro u a hu) | (intro u hu) | split |
                    dsimp only | (intro x))

theorem ev_execTagbudWrite (h : Ev m s t) (a0 : Nat) (a1 : Nat) (a2 : Nat) (u : State) (hu : execTagbudWrite a0 a1 a2 t =
    .next u)
    (hm : 0x200c22 ||| m = m) : Ev m s u := by
  unfold execTagbudWrite at hu; injection hu with hu; subst hu
  repeat' (first | with_reducible assumption | exact sub hm (by decide) | with_reducible apply ev_tagbudWrite |
                    (intro u a hu) | (intro u hu) | split | dsimp only | (intro x))

theorem ev_splitWrite (h : Ev m s t) (a1 : Nat)
    (hm : 0x200c02 ||| m = m) : Ev m s (State.splitWrite t a1) := by
  unfold State.splitWrite
  repeat' (first | with_reducible assumption | exact sub hm (by decide) | with_reducible apply ev_testHostFn |
                    with_reducible apply ev_pump | with_reducible apply ev_wr | (intro u a hu) | (intro u hu) | split |
                    dsimp only | (intro x))

theorem ev_execSplitAllWrite (h : Ev m s t) (a0 : Nat) (a1 : Nat) (u : State) (hu : execSplitAllWrite a0 a1 t = .next u)
    (hm : 0x200c02 ||| m = m) : Ev m s u := by
  unfold execSplitAllWrite at hu; injection hu with hu; subst hu
  repeat' (first | with_reducible assumption | exact sub hm (by decide) | with_reducible apply ev_splitWrite |
                    (intro u a hu) | (intro u hu) | split | dsimp only | (intro x))

theorem ev_dropTag (h : Ev m s t) (a1 : TagRec)
    (hm : 0x40800 ||| m = m) : Ev m s (State.dropTag t a1) := by
  unfold State.dropTag
  repeat' (first | with_reducible assumption | exact sub hm (by decide) | with_reducible exact fun hw => hw |
                    with_reducible exact fun hw => wf_filter _ hw | with_reducible apply ev_updNv |
                    with_reducible apply ev_freeHeld | (intro u a hu) | (intro u hu) | split | dsimp only | (intro x))

theorem ev_updTag (h : Ev m s t) (a1 : TagRec) (a2 : TagRec → TagRec)
    (hm : 0x800 ||| m = m) : Ev m s (State.updTag t a1 a2) := by
  unfold State.updTag
  repeat' (first | with_reducible assumption | exact sub hm (by decide) | with_reducible exact fun hw => hw |
                    with_reducible apply ev_updNv | (intro u a hu) | (intro u hu) | split | dsimp only | (intro x))

theorem ev_entryFailed (h : Ev m s t) (a1 : Nat) (a2 : Nat) (a3 : Nat)
    (hm : 0x800 ||| m = m) : Ev m s (State.entryFailed t a1 a2 a3) := by
  unfold State.entryFailed
  repeat' (first | with_reducible assumption | exact sub hm (by decide) | with_reducible exact fun hw => hw |
                    with_reducible apply ev_updNv | with_reducible apply ev_updFn | (intro u a hu) | (intro u hu) | split |
                    dsimp only | (intro x))

theorem ev_endWork (h : Ev m s t) (a1 : TagRec)
    (hm : 0x207c02 ||| m = m) : Ev m s (State.endWork t a1) := by
  unfold State.endWork
  repeat' (first | with_reducible assumption | exact sub hm (by decide) | with_reducible apply ev_entryFailed |
                    with_reducible apply ev_finish | with_reducible apply ev_testRead | (intro u a hu) | (intro u hu) |
                    split | dsimp only | (intro x))

theorem ev_unexpected (h : Ev m s t) (a1 : Nat)
    (hm : 0xc02 ||| m = m) : Ev m s (State.unexpected t a1) := by
  unfold State.unexpected
  repeat' (first | with_reducible assumption | exact sub hm (by decide) | with_reducible apply ev_aer |
                    with_reducible apply ev_count | (intro u a hu) | (intro u hu) | split | dsimp only | (intro x))

theorem ev_entryArrived (h : Ev m s t) (a1 : Nat) (a2 : Nat) (a3 : Nat) (a4 : Nat)
    (hm : 0x800 ||| m = m) : Ev m s (State.entryArrived t a1 a2 a3 a4) := by
  unfold State.entryArrived
  repeat' (first | with_reducible assumption | exact sub hm (by decide) | with_reducible apply ev_entryHere | (intro u a hu) |
                    (intro u hu) | split | dsimp only | (intro x))

theorem ev_dataArrived (h : Ev m s t) (a1 : Nat) (a2 : ReadCpl)
    (hm : 0x227d22 ||| m = m) : Ev m s (State.dataArrived t a1 a2) := by
  unfold State.dataArrived
  repeat' (first | with_reducible assumption | exact sub hm (by decide) | with_reducible apply ev_finish |
                    with_reducible apply ev_dpFaultHere | with_reducible apply ev_updCtx |
                    with_reducible apply ev_placeSector | with_reducible apply ev_tryFinish | with_reducible apply ev_each |
                    (intro u a hu) | (intro u hu) | split | dsimp only | (intro x))

theorem ev_listArrived (h : Ev m s t) (a1 : Nat) (a2 : Nat)
    (hm : 0x227d22 ||| m = m) : Ev m s (State.listArrived t a1 a2) := by
  unfold State.listArrived
  repeat' (first | with_reducible assumption | exact sub hm (by decide) | with_reducible apply ev_tryFinish |
                    with_reducible apply ev_updCtx | (intro u a hu) | (intro u hu) | split | dsimp only | (intro x))

theorem ev_deliver (h : Ev m s t) (a1 : TagRec) (a2 : ReadCpl)
    (hm : 0x227d22 ||| m = m) : Ev m s (State.deliver t a1 a2) := by
  unfold State.deliver
  repeat' (first | with_reducible assumption | exact sub hm (by decide) | with_reducible apply ev_entryArrived |
                    with_reducible apply ev_listArrived | with_reducible apply ev_dataArrived |
                    with_reducible apply ev_testRead | (intro u a hu) | (intro u hu) | split | dsimp only | (intro x))

theorem ev_execReadCompletionArrival (h : Ev m s t) (a0 : ReadCpl) (u : State) (hu : execReadCompletionArrival a0 t = .next u)
    (hm : 0x267d22 ||| m = m) : Ev m s u := by
  unfold execReadCompletionArrival at hu; injection hu with hu; subst hu
  repeat' (first | with_reducible assumption | exact sub hm (by decide) | with_reducible apply ev_unexpected |
                    with_reducible apply ev_updTag | with_reducible apply ev_dropTag | with_reducible apply ev_pump |
                    with_reducible apply ev_endWork | with_reducible apply ev_aer | with_reducible apply ev_deliver |
                    (intro u a hu) | (intro u hu) | split | dsimp only | (intro x))

theorem ev_execCompletionTimeout (h : Ev m s t) (a0 : Nat) (a1 : Nat) (u : State) (hu : execCompletionTimeout a0 a1 t = .next u)
    (hm : 0x207c22 ||| m = m) : Ev m s u := by
  unfold execCompletionTimeout at hu; injection hu with hu; subst hu
  repeat' (first | with_reducible assumption | exact sub hm (by decide) | with_reducible apply ev_count |
                    with_reducible apply ev_aev | with_reducible apply ev_aer | with_reducible apply ev_updTag |
                    with_reducible apply ev_updFn | with_reducible apply ev_pump | with_reducible apply ev_endWork |
                    (intro u a hu) | (intro u hu) | split | dsimp only | (intro x))

theorem ev_execQuarantineEnd (h : Ev m s t) (a0 : Nat) (a1 : Nat) (u : State) (hu : execQuarantineEnd a0 a1 t = .next u)
    (hm : 0x240c00 ||| m = m) : Ev m s u := by
  unfold execQuarantineEnd at hu; injection hu with hu; subst hu
  repeat' (first | with_reducible assumption | exact sub hm (by decide) | with_reducible apply ev_pump |
                    with_reducible apply ev_dropTag | (intro u a hu) | (intro u hu) | split | dsimp only | (intro x))

theorem ev_execOutboundTransfer (h : Ev m s t) (a0 : Half) (a1 : Nat) (a2 : Nat) (u : State) (hu : execOutboundTransfer a0
    a1 a2 t = .next u)
    (hm : 0x2 ||| m = m) : Ev m s u := by
  unfold execOutboundTransfer at hu; injection hu with hu; subst hu
  repeat' (first | with_reducible assumption | exact sub hm (by decide) | with_reducible apply ev_count | (intro u a hu) |
                    (intro u hu) | split | dsimp only | (intro x))

/-! ### Io.lean -/

theorem ev_wakeIo (h : Ev m s t)
    (hm : 0x802 ||| m = m) : Ev m s (State.wakeIo t) := by
  unfold State.wakeIo
  repeat' (first | with_reducible assumption | exact sub hm (by decide) | with_reducible exact fun hw => hw |
                    with_reducible apply ev_updNv | with_reducible apply ev_wr | (intro u a hu) | (intro u hu) | split |
                    dsimp only | (intro x))

theorem ev_takeReport (h : Ev m s t) (a1 : Nat) (a2 : Nat)
    (hm : 0x4800 ||| m = m) : Ev m s (State.takeReport t a1 a2) := by
  unfold State.takeReport
  repeat' (first | with_reducible assumption | exact sub hm (by decide) | with_reducible exact fun hw => wf_filter _ hw |
                    with_reducible apply ev_setC1h | (intro u a hu) | (intro u hu) | split | dsimp only | (intro x))

theorem ev_refuseNs (h : Ev m s t) (a1 : Nat) (a2 : Nat) (v0 : Nat) (v1 : Nat) (u : State) (hu : State.refuseNs t a1 a2 =
    some (v0, v1, u))
    (hm : 0x4800 ||| m = m) : Ev m s u := by
  unfold State.refuseNs at hu
  repeat' (first | with_reducible assumption | exact sub hm (by decide) | with_reducible apply ev_takeReport |
                    with_reducible apply ev_updFn | with_reducible apply ev_each | split at hu |
                    (simp only [Option.some.injEq, Prod.mk.injEq] at hu; obtain ⟨-, -, rfl⟩ := hu) |
                    (simp only [Option.some.injEq, Prod.mk.injEq] at hu; obtain ⟨-, rfl⟩ := hu) |
                    (simp only [Option.some.injEq] at hu; subst hu) | contradiction | dsimp only at hu | (intro u a hu) |
                    (intro u hu) | split | dsimp only | (intro x))

theorem ev_lenRej (h : Ev m s t) (a1 : Hdr) (a2 : Bool)
    (hm : 0x22 ||| m = m) : Ev m s (State.lenRej t a1 a2) := by
  unfold State.lenRej
  repeat' (first | with_reducible assumption | exact sub hm (by decide) | with_reducible apply ev_count |
                    with_reducible apply ev_aev | (intro u a hu) | (intro u hu) | split | dsimp only | (intro x))

theorem ev_descRej (h : Ev m s t) (a1 : Desc)
    (hm : 0x22 ||| m = m) : Ev m s (State.descRej t a1) := by
  unfold State.descRej
  repeat' (first | with_reducible assumption | exact sub hm (by decide) | with_reducible apply ev_aev |
                    with_reducible apply ev_count | (intro u a hu) | (intro u hu) | split | dsimp only | (intro x))

theorem ev_refuseRange (h : Ev m s t) (a1 : Hdr) (a2 : Ns) (a3 : Nat) (a4 : Nat) (a5 : Xfer) (a6 : Bool) (v0 : Nat) (v1 :
    Nat) (u : State) (hu : State.refuseRange t a1 a2 a3 a4 a5 a6 = some (v0, v1, u))
    (hm : 0x22 ||| m = m) : Ev m s u := by
  unfold State.refuseRange at hu
  repeat' (first | with_reducible assumption | exact sub hm (by decide) | with_reducible apply ev_lenRej |
                    with_reducible apply ev_descRej | split at hu |
                    (simp only [Option.some.injEq, Prod.mk.injEq] at hu; obtain ⟨-, -, rfl⟩ := hu) |
                    (simp only [Option.some.injEq, Prod.mk.injEq] at hu; obtain ⟨-, rfl⟩ := hu) |
                    (simp only [Option.some.injEq] at hu; subst hu) | contradiction | dsimp only at hu | (intro u a hu) |
                    (intro u hu) | split | dsimp only | (intro x))

theorem ev_begin (h : Ev m s t) (a1 : Hdr) (a2 : Cmd) (a3 : Nat) (a4 : Nat) (a5 : Nat) (a6 : Xfer) (a7 : Nat → State →
    State) (h7 : ∀ x0 x1, Ev m s x1 → Ev m s (a7 x0 x1))
    (hm : 0x7c02 ||| m = m) : Ev m s (State.begin t a1 a2 a3 a4 a5 a6 a7) := by
  unfold State.begin
  repeat' (first | with_reducible assumption | exact sub hm (by decide) |
                    (refine ev_takeGrant ?_ _ _ _ (by with_reducible assumption) ?_) | with_reducible apply ev_openCtx |
                    (refine ev_openCtx_eq ?_ _ _ _ _ _ _ _ _ _ (by with_reducible assumption) ?_) |
                    with_reducible apply ev_finish | with_reducible apply h7 | (intro u a hu) | (intro u hu) | split |
                    dsimp only | (intro x))

theorem ev_beginIo (h : Ev m s t) (a1 : Hdr) (a2 : Cmd) (a3 : Nat) (a4 : Nat) (a5 : Nat) (a6 : Xfer) (a7 : Bool) (a8 : Bool)
    (a9 : Nat → Ns → State → State) (h9 : ∀ x0 x1 x2, Ev m s x2 → Ev m s (a9 x0 x1 x2))
    (hm : 0x7c22 ||| m = m) : Ev m s (State.beginIo t a1 a2 a3 a4 a5 a6 a7 a8 a9) := by
  unfold State.beginIo
  repeat' (first | with_reducible assumption | exact sub hm (by decide) | with_reducible apply ev_begin |
                    with_reducible apply ev_wakeIo | (refine ev_refuseNs ?_ _ _ _ _ _ (by with_reducible assumption) ?_) |
                    with_reducible apply ev_finish |
                    (refine ev_refuseRange ?_ _ _ _ _ _ _ _ _ _ (by with_reducible assumption) ?_) | with_reducible apply h9 |
                    (intro u a hu) | (intro u hu) | split | dsimp only | (intro x))

theorem ev_beginXfer (h : Ev m s t) (a1 : Nat) (a2 : Xfer) (a3 : Nat)
    (hm : 0x1c00 ||| m = m) : Ev m s (State.beginXfer t a1 a2 a3) := by
  unfold State.beginXfer
  repeat' (first | with_reducible assumption | exact sub hm (by decide) | with_reducible apply ev_placeData |
                    with_reducible apply ev_updCtx | with_reducible apply ev_issueCtx | (intro u a hu) | (intro u hu) |
                    split | dsimp only | (intro x))

theorem ev_execWriteCommand (h : Ev m s t) (a0 : Hdr) (a1 : Nat) (a2 : Nat) (a3 : Nat) (a4 : Xfer) (u : State) (hu :
    execWriteCommand a0 a1 a2 a3 a4 t = .next u)
    (hm : 0x7c22 ||| m = m) : Ev m s u := by
  unfold execWriteCommand at hu; injection hu with hu; subst hu
  repeat' (first | with_reducible assumption | exact sub hm (by decide) | with_reducible apply ev_beginIo |
                    with_reducible apply ev_beginXfer | with_reducible apply ev_addParts | (intro u a hu) | (intro u hu) |
                    split | dsimp only | (intro x))

theorem ev_execReadCommand (h : Ev m s t) (a0 : Hdr) (a1 : Nat) (a2 : Nat) (a3 : Nat) (a4 : Xfer) (u : State) (hu :
    execReadCommand a0 a1 a2 a3 a4 t = .next u)
    (hm : 0x237d22 ||| m = m) : Ev m s u := by
  unfold execReadCommand at hu; injection hu with hu; subst hu
  repeat' (first | with_reducible assumption | exact sub hm (by decide) | with_reducible apply ev_beginIo |
                    with_reducible apply ev_advance | with_reducible apply ev_noteStream | with_reducible apply ev_openBatch |
                    with_reducible apply ev_beginXfer | (intro u a hu) | (intro u hu) | split | dsimp only | (intro x))

theorem ev_execCompareCommand (h : Ev m s t) (a0 : Hdr) (a1 : Nat) (a2 : Nat) (a3 : Nat) (a4 : Xfer) (u : State) (hu :
    execCompareCommand a0 a1 a2 a3 a4 t = .next u)
    (hm : 0x237d22 ||| m = m) : Ev m s u := by
  unfold execCompareCommand at hu; injection hu with hu; subst hu
  repeat' (first | with_reducible assumption | exact sub hm (by decide) | with_reducible apply ev_beginIo |
                    with_reducible apply ev_advance | with_reducible apply ev_openBatch | with_reducible apply ev_beginXfer |
                    (intro u a hu) | (intro u hu) | split | dsimp only | (intro x))

theorem ev_execVerifyCommand (h : Ev m s t) (a0 : Hdr) (a1 : Nat) (a2 : Nat) (a3 : Nat) (u : State) (hu : execVerifyCommand
    a0 a1 a2 a3 t = .next u)
    (hm : 0x237d22 ||| m = m) : Ev m s u := by
  unfold execVerifyCommand at hu; injection hu with hu; subst hu
  repeat' (first | with_reducible assumption | exact sub hm (by decide) | with_reducible apply ev_beginIo |
                    with_reducible apply ev_advance | with_reducible apply ev_openBatch | (intro u a hu) | (intro u hu) |
                    split | dsimp only | (intro x))

theorem ev_execWriteZeroesCommand (h : Ev m s t) (a0 : Hdr) (a1 : Nat) (a2 : Nat) (a3 : Nat) (u : State) (hu :
    execWriteZeroesCommand a0 a1 a2 a3 t = .next u)
    (hm : 0x7c22 ||| m = m) : Ev m s u := by
  unfold execWriteZeroesCommand at hu; injection hu with hu; subst hu
  repeat' (first | with_reducible assumption | exact sub hm (by decide) | with_reducible apply ev_beginIo |
                    with_reducible apply ev_addParts | (intro u a hu) | (intro u hu) | split | dsimp only | (intro x))

theorem ev_execDatasetManagementCommand (h : Ev m s t) (a0 : Hdr) (a1 : Nat) (a2 : List (Nat × Nat)) (a3 : Bool) (u : State)
    (hu : execDatasetManagementCommand a0 a1 a2 a3 t = .next u)
    (hm : 0x7c22 ||| m = m) : Ev m s u := by
  unfold execDatasetManagementCommand at hu; injection hu with hu; subst hu
  repeat' (first | with_reducible assumption | exact sub hm (by decide) | with_reducible apply ev_beginIo |
                    with_reducible apply ev_finish | with_reducible apply ev_addParts | (intro u a hu) | (intro u hu) |
                    split | dsimp only | (intro x))

theorem ev_flushDone (h : Ev m s t) (a1 : Nat)
    (hm : 0x7c02 ||| m = m) : Ev m s (State.flushDone t a1) := by
  unfold State.flushDone
  repeat' (first | with_reducible assumption | exact sub hm (by decide) | with_reducible apply ev_finish | (intro u a hu) |
                    (intro u hu) | split | dsimp only | (intro x))

theorem ev_execFlushCommand (h : Ev m s t) (a0 : Hdr) (a1 : Nat) (u : State) (hu : execFlushCommand a0 a1 t = .next u)
    (hm : 0x7c02 ||| m = m) : Ev m s u := by
  unfold execFlushCommand at hu; injection hu with hu; subst hu
  repeat' (first | with_reducible assumption | exact sub hm (by decide) | with_reducible exact fun hw => wf_filter _ hw |
                    with_reducible apply ev_begin | with_reducible apply ev_wakeIo | with_reducible apply ev_flushDone |
                    with_reducible apply ev_updCtx | with_reducible apply ev_finish |
                    (refine ev_refuseNs ?_ _ _ _ _ _ (by with_reducible assumption) ?_) | (intro u a hu) | (intro u hu) |
                    split | dsimp only | (intro x))

theorem ev_execFlushCompletion (h : Ev m s t) (a0 : Hdr) (u : State) (hu : execFlushCompletion a0 t = .next u)
    (hm : 0x7c02 ||| m = m) : Ev m s u := by
  unfold execFlushCompletion at hu; injection hu with hu; subst hu
  repeat' (first | with_reducible assumption | exact sub hm (by decide) | with_reducible apply ev_flushDone | (intro u a hu) |
                    (intro u hu) | split | dsimp only | (intro x))

theorem ev_mapVersions (h : Ev m s t) (a1 : List Nat)
    (hm : 0x7c02 ||| m = m) : Ev m s (State.mapVersions t a1) := by
  unfold State.mapVersions
  repeat' (first | with_reducible assumption | exact sub hm (by decide) | with_reducible exact fun hw => hw |
                    with_reducible exact fun hw => wf_filter _ hw | with_reducible apply ev_updTr |
                    with_reducible apply ev_updNv | with_reducible apply ev_freeVers | with_reducible apply ev_flushDone |
                    with_reducible apply ev_each | (intro u a hu) | (intro u hu) | split | dsimp only | (intro x))

theorem ev_checkDealloc (h : Ev m s t)
    (hm : 0x7c02 ||| m = m) : Ev m s (State.checkDealloc t) := by
  unfold State.checkDealloc
  repeat' (first | with_reducible assumption | exact sub hm (by decide) | with_reducible exact fun hw => wf_filter _ hw |
                    with_reducible apply ev_finish | with_reducible apply ev_each | (intro u a hu) | (intro u hu) | split |
                    dsimp only | (intro x))

theorem ev_mapWrite (h : Ev m s t) (a1 : MapWr)
    (hm : 0x237d22 ||| m = m) : Ev m s (State.mapWrite t a1) := by
  unfold State.mapWrite
  repeat' (first | with_reducible assumption | exact sub hm (by decide) | with_reducible exact fun hw => hw |
                    with_reducible exact fun hw => wf_filter _ hw | with_reducible apply ev_endRec |
                    with_reducible apply ev_setMap | with_reducible apply ev_updTr | with_reducible apply ev_satisfy |
                    with_reducible apply ev_mapVersions | with_reducible apply ev_countWatch |
                    with_reducible apply ev_pumpDealloc | with_reducible apply ev_checkDealloc |
                    with_reducible apply ev_checkShut | with_reducible apply ev_pumpDeltas | (intro u a hu) | (intro u hu) |
                    split | dsimp only | (intro x))

theorem ev_runMapq (h : Ev m s t) (a1 : Nat)
    (hm : 0x237d22 ||| m = m) : Ev m s (State.runMapq t a1) := by
  induction a1 generalizing t with
  | zero => exact h
  | succ n ih =>
    unfold State.runMapq
    repeat' (first | with_reducible assumption | exact sub hm (by decide) | with_reducible apply ev_mapWrite |
                      with_reducible apply ih | (intro u a hu) | (intro u hu) | split | dsimp only | (intro x))

/-! ### Admin.lean -/

theorem ev_beginAdmin (h : Ev m s t) (a1 : Hdr) (a2 : Nat → State → State) (h2 : ∀ x0 x1, Ev m s x1 → Ev m s (a2 x0 x1))
    (hm : 0x7c02 ||| m = m) : Ev m s (State.beginAdmin t a1 a2) := by
  unfold State.beginAdmin
  repeat' (first | with_reducible assumption | exact sub hm (by decide) | with_reducible apply ev_begin |
                    with_reducible apply h2 | (intro u a hu) | (intro u hu) | split | dsimp only | (intro x))

theorem ev_execCreateIoCompletionQueue (h : Ev m s t) (a0 : Hdr) (a1 : Nat) (a2 : Nat) (a3 : Nat) (a4 : Nat) (u : State) (hu
    : execCreateIoCompletionQueue a0 a1 a2 a3 a4 t = .next u)
    (hm : 0x7c02 ||| m = m) : Ev m s u := by
  unfold execCreateIoCompletionQueue at hu; injection hu with hu; subst hu
  repeat' (first | with_reducible assumption | exact sub hm (by decide) | with_reducible exact fun hw => hw |
                    with_reducible apply ev_beginAdmin | with_reducible apply ev_finish | with_reducible apply ev_updNv |
                    (intro u a hu) | (intro u hu) | split | dsimp only | (intro x))

theorem ev_execCreateIoSubmissionQueue (h : Ev m s t) (a0 : Hdr) (a1 : Nat) (a2 : Nat) (a3 : Nat) (a4 : Nat) (a5 : Nat) (a6
    : Bool) (u : State) (hu : execCreateIoSubmissionQueue a0 a1 a2 a3 a4 a5 a6 t = .next u)
    (hm : 0x7c02 ||| m = m) : Ev m s u := by
  unfold execCreateIoSubmissionQueue at hu; injection hu with hu; subst hu
  repeat' (first | with_reducible assumption | exact sub hm (by decide) | with_reducible exact fun hw => hw |
                    with_reducible apply ev_beginAdmin | with_reducible apply ev_finish | with_reducible apply ev_updNv |
                    (intro u a hu) | (intro u hu) | split | dsimp only | (intro x))

theorem ev_execDeleteIoCompletionQueue (h : Ev m s t) (a0 : Hdr) (a1 : Nat) (u : State) (hu : execDeleteIoCompletionQueue a0
    a1 t = .next u)
    (hm : 0x7c02 ||| m = m) : Ev m s u := by
  unfold execDeleteIoCompletionQueue at hu; injection hu with hu; subst hu
  repeat' (first | with_reducible assumption | exact sub hm (by decide) | with_reducible exact fun hw => hw |
                    with_reducible exact fun hw => wf_filter _ hw | with_reducible apply ev_beginAdmin |
                    with_reducible apply ev_finish | with_reducible apply ev_updNv | (intro u a hu) | (intro u hu) | split |
                    dsimp only | (intro x))

theorem ev_endDelete (h : Ev m s t) (a1 : Nat) (a2 : Nat)
    (hm : 0x7d02 ||| m = m) : Ev m s (State.endDelete t a1 a2) := by
  unfold State.endDelete
  repeat' (first | with_reducible assumption | exact sub hm (by decide) | with_reducible exact fun hw => wf_filter _ hw |
                    with_reducible apply ev_updFn | with_reducible apply ev_dropSqs | with_reducible apply ev_finish |
                    with_reducible apply ev_each | (intro u a hu) | (intro u hu) | split | dsimp only | (intro x))

theorem ev_checkDelete (h : Ev m s t) (a1 : Nat)
    (hm : 0x7d02 ||| m = m) : Ev m s (State.checkDelete t a1) := by
  unfold State.checkDelete
  repeat' (first | with_reducible assumption | exact sub hm (by decide) | with_reducible apply ev_endDelete |
                    with_reducible apply ev_each | (intro u a hu) | (intro u hu) | split | dsimp only | (intro x))

theorem ev_refuseHeld (h : Ev m s t) (a1 : Grant) (a2 : Nat) (a3 : Nat)
    (hm : 0x7c02 ||| m = m) : Ev m s (State.refuseHeld t a1 a2 a3) := by
  unfold State.refuseHeld
  repeat' (first | with_reducible assumption | exact sub hm (by decide) | with_reducible exact fun hw => hw |
                    with_reducible apply ev_updNv | with_reducible apply ev_openCtx |
                    (refine ev_openCtx_eq ?_ _ _ _ _ _ _ _ _ _ (by with_reducible assumption) ?_) |
                    with_reducible apply ev_finish | (intro u a hu) | (intro u hu) | split | dsimp only | (intro x))

theorem ev_execDeleteIoSubmissionQueue (h : Ev m s t) (a0 : Hdr) (a1 : Nat) (u : State) (hu : execDeleteIoSubmissionQueue a0
    a1 t = .next u)
    (hm : 0x7d02 ||| m = m) : Ev m s u := by
  unfold execDeleteIoSubmissionQueue at hu; injection hu with hu; subst hu
  repeat' (first | with_reducible assumption | exact sub hm (by decide) | with_reducible exact fun hw => hw |
                    with_reducible exact fun hw => wf_filter _ hw | with_reducible apply ev_begin |
                    with_reducible apply ev_finish | with_reducible apply ev_updFn | with_reducible apply ev_updNv |
                    with_reducible apply ev_refuseHeld | with_reducible apply ev_checkDelete | with_reducible apply ev_each |
                    (intro u a hu) | (intro u hu) | split | dsimp only | (intro x))

theorem ev_execAbort (h : Ev m s t) (a0 : Hdr) (a1 : Nat) (a2 : Nat) (u : State) (hu : execAbort a0 a1 a2 t = .next u)
    (hm : 0x7c02 ||| m = m) : Ev m s u := by
  unfold execAbort at hu; injection hu with hu; subst hu
  repeat' (first | with_reducible assumption | exact sub hm (by decide) | with_reducible exact fun hw => wf_filter _ hw |
                    with_reducible apply ev_begin | with_reducible apply ev_finish | with_reducible apply ev_count |
                    with_reducible apply ev_refuseHeld | (intro u a hu) | (intro u hu) | split | dsimp only | (intro x))

theorem ev_execAsynchronousEventRequest (h : Ev m s t) (a0 : Hdr) (u : State) (hu : execAsynchronousEventRequest a0 t = .next u)
    (hm : 0x7c02 ||| m = m) : Ev m s u := by
  unfold execAsynchronousEventRequest at hu; injection hu with hu; subst hu
  repeat' (first | with_reducible assumption | exact sub hm (by decide) | with_reducible exact fun hw => wf_filter _ hw |
                    with_reducible apply ev_begin | with_reducible apply ev_finish | with_reducible apply ev_deliverAen |
                    (intro u a hu) | (intro u hu) | split | dsimp only | (intro x))

theorem ev_setFeat (h : Ev m s t) (a1 : Nat) (a2 : Nat) (a3 : Nat)
    (hm : 0x800 ||| m = m) : Ev m s (State.setFeat t a1 a2 a3) := by
  unfold State.setFeat
  repeat' (first | with_reducible assumption | exact sub hm (by decide) | with_reducible exact fun hw => wf_spSet _ _ hw |
                    with_reducible exact fun hw => wf_spSetRun _ _ hw | with_reducible apply ev_updFn | (intro u a hu) |
                    (intro u hu) | split | dsimp only | (intro x))

theorem ev_enterPs (h : Ev m s t) (a1 : Nat)
    (hm : 0x802 ||| m = m) : Ev m s (State.enterPs t a1) := by
  unfold State.enterPs
  repeat' (first | with_reducible assumption | exact sub hm (by decide) | with_reducible exact fun hw => hw |
                    with_reducible apply ev_wr | with_reducible apply ev_updNv | (intro u a hu) | (intro u hu) | split |
                    dsimp only | (intro x))

theorem ev_setThreshold (h : Ev m s t) (a1 : Nat)
    (hm : 0x1c02 ||| m = m) : Ev m s (State.setThreshold t a1) := by
  unfold State.setThreshold
  repeat' (first | with_reducible assumption | exact sub hm (by decide) | with_reducible exact fun hw => wf_spSet _ _ hw |
                    with_reducible exact fun hw => wf_spSetRun _ _ hw | with_reducible apply ev_postCrit |
                    with_reducible apply ev_updFn | (intro u a hu) | (intro u hu) | split | dsimp only | (intro x))

theorem ev_execSetFeatures (h : Ev m s t) (a0 : Hdr) (a1 : Nat) (a2 : Nat) (u : State) (hu : execSetFeatures a0 a1 a2 t =
    .next u)
    (hm : 0x7c02 ||| m = m) : Ev m s u := by
  unfold execSetFeatures at hu; injection hu with hu; subst hu
  repeat' (first | with_reducible assumption | exact sub hm (by decide) | with_reducible apply ev_beginAdmin |
                    with_reducible apply ev_finish | with_reducible apply ev_setFeat | with_reducible apply ev_enterPs |
                    with_reducible apply ev_setThreshold | (intro u a hu) | (intro u hu) | split | dsimp only | (intro x))

theorem ev_execGetFeatures (h : Ev m s t) (a0 : Hdr) (a1 : Nat) (u : State) (hu : execGetFeatures a0 a1 t = .next u)
    (hm : 0x7c02 ||| m = m) : Ev m s u := by
  unfold execGetFeatures at hu; injection hu with hu; subst hu
  repeat' (first | with_reducible assumption | exact sub hm (by decide) | with_reducible apply ev_beginAdmin |
                    with_reducible apply ev_finish | (intro u a hu) | (intro u hu) | split | dsimp only | (intro x))

theorem ev_endPsEntry (h : Ev m s t)
    (hm : 0x1c02 ||| m = m) : Ev m s (State.endPsEntry t) := by
  unfold State.endPsEntry
  repeat' (first | with_reducible assumption | exact sub hm (by decide) | with_reducible exact fun hw => hw |
                    with_reducible apply ev_wr | with_reducible apply ev_updNv | with_reducible apply ev_wakeIo |
                    with_reducible apply ev_drain | (intro u a hu) | (intro u hu) | split | dsimp only | (intro x))

theorem ev_execPowerStateEntryEnd (h : Ev m s t)  (u : State) (hu : execPowerStateEntryEnd t = .next u)
    (hm : 0x1c02 ||| m = m) : Ev m s u := by
  unfold execPowerStateEntryEnd at hu; injection hu with hu; subst hu
  repeat' (first | with_reducible assumption | exact sub hm (by decide) | with_reducible apply ev_endPsEntry |
                    (intro u a hu) | (intro u hu) | split | dsimp only | (intro x))

theorem ev_endPs3 (h : Ev m s t)
    (hm : 0x1c02 ||| m = m) : Ev m s (State.endPs3 t) := by
  unfold State.endPs3
  repeat' (first | with_reducible assumption | exact sub hm (by decide) | with_reducible exact fun hw => hw |
                    with_reducible apply ev_drain | with_reducible apply ev_updNv | with_reducible apply ev_wr |
                    (intro u a hu) | (intro u hu) | split | dsimp only | (intro x))

theorem ev_execPs3Exit (h : Ev m s t)  (u : State) (hu : execPs3Exit t = .next u)
    (hm : 0x1c02 ||| m = m) : Ev m s u := by
  unfold execPs3Exit at hu; injection hu with hu; subst hu
  repeat' (first | with_reducible assumption | exact sub hm (by decide) | with_reducible apply ev_endPs3 | (intro u a hu) |
                    (intro u hu) | split | dsimp only | (intro x))

theorem ev_page02 (h : Ev m s t) (a1 : Nat)
    (hm : 0x10 ||| m = m) : Ev m s (State.page02 t a1).2 := by
  unfold State.page02
  repeat' (first | with_reducible assumption | exact sub hm (by decide) | with_reducible apply ev_free |
                    (refine ev_free_eq ?_ _ _ (by with_reducible assumption) ?_) | (intro u a hu) | (intro u hu) | split |
                    dsimp only | (intro x))

theorem ev_page02_eq  (h : Ev m s t) (a1 : Nat)  (v : List Nat) (u : State)
    (e : State.page02 t a1 = (v, u))
    (hm : 0x10 ||| m = m) : Ev m s u := by
  have k := ev_page02 h a1  hm; rw [e] at k; exact k

theorem ev_pageBytes (h : Ev m s t) (a1 : Nat) (a2 : Nat)
    (hm : 0x10 ||| m = m) : Ev m s (State.pageBytes t a1 a2).2 := by
  unfold State.pageBytes
  repeat' (first | with_reducible assumption | exact sub hm (by decide) | with_reducible apply ev_page02 |
                    (refine ev_page02_eq ?_ _ _ _ (by with_reducible assumption) ?_) | (intro u a hu) | (intro u hu) | split |
                    dsimp only | (intro x))

theorem ev_pageBytes_eq  (h : Ev m s t) (a1 : Nat) (a2 : Nat)  (v : List Nat) (u : State)
    (e : State.pageBytes t a1 a2 = (v, u))
    (hm : 0x10 ||| m = m) : Ev m s u := by
  have k := ev_pageBytes h a1 a2  hm; rw [e] at k; exact k

theorem ev_pageRead (h : Ev m s t) (a1 : Nat) (a2 : Nat)
    (hm : 0x4800 ||| m = m) : Ev m s (State.pageRead t a1 a2) := by
  unfold State.pageRead
  repeat' (first | with_reducible assumption | exact sub hm (by decide) | with_reducible exact fun _ => wf_nil _ |
                    with_reducible apply ev_unmask | with_reducible apply ev_updFn | with_reducible apply ev_setC1h |
                    (intro u a hu) | (intro u hu) | split | dsimp only | (intro x))

theorem ev_sendPage (h : Ev m s t) (a1 : Hdr) (a2 : Nat) (a3 : Nat) (a4 : Nat)
    (hm : 0x410 ||| m = m) : Ev m s (State.sendPage t a1 a2 a3 a4) := by
  unfold State.sendPage
  repeat' (first | with_reducible assumption | exact sub hm (by decide) | with_reducible apply ev_pageBytes |
                    (refine ev_pageBytes_eq ?_ _ _ _ _ (by with_reducible assumption) ?_) | with_reducible apply ev_emit |
                    (intro u a hu) | (intro u hu) | split | dsimp only | (intro x))

theorem ev_execGetLogPage (h : Ev m s t) (a0 : Hdr) (a1 : Nat) (a2 : Nat) (a3 : Nat) (a4 : Nat) (a5 : Bool) (u : State) (hu
    : execGetLogPage a0 a1 a2 a3 a4 a5 t = .next u)
    (hm : 0x7c12 ||| m = m) : Ev m s u := by
  have hn : ∀ (c : Prop) [Decidable c] (x y : State), Ev m s x → Ev m s y → Ev m s (if c then x else y) := by
    intro c _ x y hx hy
    split
    · exact hx
    · exact hy
  cases hu
  refine ev_beginAdmin h a0 _ (fun id x hx => ?_) (sub hm (by decide))
  dsimp only
  generalize pageLen a2 = len
  cases len with
  | none => exact ev_finish hx _ _ _ _ (sub hm (by decide))
  | some n =>
    refine hn _ _ _ (ev_finish hx _ _ _ _ (sub hm (by decide))) (hn _ _ _ (ev_finish hx _ _ _ _ (sub hm (by decide))) ?_)
    refine ev_finish (ev_when (ev_sendPage hx a0 a2 a3 a4 (sub hm (by decide))) _ _ (fun y hy => ?_)) _ _ _ _ (sub hm (by
        decide))
    exact ev_pageRead hy _ _ (sub hm (by decide))

theorem ev_execIdentify (h : Ev m s t) (a0 : Hdr) (a1 : Nat) (a2 : Nat) (u : State) (hu : execIdentify a0 a1 a2 t = .next u)
    (hm : 0x7c02 ||| m = m) : Ev m s u := by
  unfold execIdentify at hu; injection hu with hu; subst hu
  repeat' (first | with_reducible assumption | exact sub hm (by decide) | with_reducible apply ev_beginAdmin |
                    with_reducible apply ev_finish | with_reducible apply ev_emit | (intro u a hu) | (intro u hu) | split |
                    dsimp only | (intro x))

theorem ev_endNsCmds (h : Ev m s t) (a1 : Nat) (a2 : Nat) (a3 : Nat)
    (hm : 0x7c02 ||| m = m) : Ev m s (State.endNsCmds t a1 a2 a3) := by
  unfold State.endNsCmds
  repeat' (first | with_reducible assumption | exact sub hm (by decide) | with_reducible exact fun hw => wf_filter _ hw |
                    with_reducible apply ev_finish | with_reducible apply ev_each | (intro u a hu) | (intro u hu) | split |
                    dsimp only | (intro x))

theorem ev_clearNs (h : Ev m s t) (a1 : Ns) (a2 : Nat) (a3 : Nat)
    (hm : 0x7c02 ||| m = m) : Ev m s (State.clearNs t a1 a2 a3) := by
  unfold State.clearNs
  repeat' (first | with_reducible assumption | exact sub hm (by decide) | with_reducible exact fun hw => hw |
                    with_reducible exact fun hw => wf_filter _ hw | with_reducible exact fun hw => ⟨hw.1, hw.2, hw.3⟩ |
                    (intro hw; constructor <;>
                     with_reducible first | exact hw.1 | exact hw.2 | exact hw.3 | exact wf_spSet _ _ hw.1 | exact wf_spSet _ _ hw.2
                                          | exact wf_spSet _ _ hw.3 | exact wf_filter _ hw.1 | exact wf_filter _ hw.3
                                          | exact wf_spMap _ hw.3 | exact wf_nil _) |
                    with_reducible exact fun _ => wf_nil _ | with_reducible apply ev_endNsCmds |
                    with_reducible apply ev_updMd | with_reducible apply ev_updTr | with_reducible apply ev_issueMap |
                    with_reducible apply ev_setLive | with_reducible apply ev_grantParts | with_reducible apply ev_each |
                    (intro u a hu) | (intro u hu) | split | dsimp only | (intro x))

theorem ev_newKey (h : Ev m s t)
    (hm : 0x1000 ||| m = m) : Ev m s (State.newKey t).2 := by
  unfold State.newKey
  repeat' (first | with_reducible assumption | exact sub hm (by decide) | with_reducible exact fun hw => hw |
                    with_reducible apply ev_updTr | (intro u a hu) | (intro u hu) | split | dsimp only | (intro x))

theorem ev_newKey_eq  (h : Ev m s t)   (v : Nat) (u : State)
    (e : State.newKey t = (v, u))
    (hm : 0x1000 ||| m = m) : Ev m s u := by
  have k := ev_newKey h   hm; rw [e] at k; exact k

theorem ev_updNs (h : Ev m s t) (a1 : Nat) (a2 : Ns → Ns)
    (hm : 0x1000 ||| m = m) : Ev m s (State.updNs t a1 a2) := by
  unfold State.updNs
  repeat' (first | with_reducible assumption | exact sub hm (by decide) | with_reducible exact fun hw => hw |
                    with_reducible apply ev_updTr | (intro u a hu) | (intro u hu) | split | dsimp only | (intro x))

theorem ev_logNs (h : Ev m s t) (a1 : Nat) (a2 : List Nat)
    (hm : 0x800 ||| m = m) : Ev m s (State.logNs t a1 a2) := by
  unfold State.logNs
  repeat' (first | with_reducible assumption | exact sub hm (by decide) | with_reducible apply ev_updFn |
                    with_reducible apply ev_each | (intro u a hu) | (intro u hu) | split | dsimp only | (intro x))

theorem ev_forgetNs (h : Ev m s t) (a1 : Nat) (a2 : Bool)
    (hm : 0x4800 ||| m = m) : Ev m s (State.forgetNs t a1 a2) := by
  unfold State.forgetNs
  repeat' (first | with_reducible assumption | exact sub hm (by decide) | with_reducible exact fun hw => wf_filter _ hw |
                    with_reducible apply ev_updFn | with_reducible apply ev_setC1h | with_reducible apply ev_each |
                    (intro u a hu) | (intro u hu) | split | dsimp only | (intro x))

theorem ev_newKeys (h : Ev m s t)
    (hm : 0x5802 ||| m = m) : Ev m s (State.newKeys t) := by
  unfold State.newKeys
  repeat' (first | with_reducible assumption | exact sub hm (by decide) | with_reducible apply ev_count |
                    with_reducible apply ev_newKey | (refine ev_newKey_eq ?_ _ _ (by with_reducible assumption) ?_) |
                    with_reducible apply ev_forgetNs | with_reducible apply ev_updNs | with_reducible apply ev_each |
                    (intro u a hu) | (intro u hu) | split | dsimp only | (intro x))

theorem ev_sanitizeData (h : Ev m s t)
    (hm : 0x237d22 ||| m = m) : Ev m s (State.sanitizeData t) := by
  unfold State.sanitizeData
  repeat' (first | with_reducible assumption | exact sub hm (by decide) | with_reducible exact fun hw => hw |
                    with_reducible exact fun hw => wf_spClear _ _ hw | with_reducible exact fun _ => wf_nil _ |
                    with_reducible apply ev_clearNs | with_reducible apply ev_updTr | with_reducible apply ev_updDr |
                    with_reducible apply ev_updLg | with_reducible apply ev_runMapq | with_reducible apply ev_each |
                    (intro u a hu) | (intro u hu) | split | dsimp only | (intro x))

theorem ev_keysChanged (h : Ev m s t) (a1 : KeyChange)
    (hm : 0x237d22 ||| m = m) : Ev m s (State.keysChanged t a1) := by
  unfold State.keysChanged
  repeat' (first | with_reducible assumption | exact sub hm (by decide) | with_reducible apply ev_changeKeys |
                    with_reducible apply ev_wr | with_reducible apply ev_newKeys | with_reducible apply ev_sanitizeData |
                    with_reducible apply ev_checkDealloc | (intro u a hu) | (intro u hu) | split | dsimp only | (intro x))

theorem ev_runKeys (h : Ev m s t) (a1 : Nat)
    (hm : 0x237d22 ||| m = m) : Ev m s (State.runKeys t a1) := by
  induction a1 generalizing t with
  | zero => exact h
  | succ n ih =>
    unfold State.runKeys
    repeat' (first | with_reducible assumption | exact sub hm (by decide) | with_reducible apply ev_pumpKeys |
                      (refine ev_pumpKeys_eq ?_ _ _ (by with_reducible assumption) ?_) | with_reducible apply ev_keysChanged |
                      with_reducible apply ih | (intro u a hu) | (intro u hu) | split | dsimp only | (intro x))

theorem ev_goKeys (h : Ev m s t)
    (hm : 0x237d22 ||| m = m) : Ev m s (State.goKeys t) := by
  unfold State.goKeys
  repeat' (first | with_reducible assumption | exact sub hm (by decide) | with_reducible apply ev_runKeys | (intro u a hu) |
                    (intro u hu) | split | dsimp only | (intro x))

theorem ev_createNs (h : Ev m s t) (a1 : Nat) (a2 : Nat) (a3 : Nat) (a4 : Nat) (a5 : Bool)
    (hm : 0x237d22 ||| m = m) : Ev m s (State.createNs t a1 a2 a3 a4 a5) := by
  unfold State.createNs
  repeat' (first | with_reducible assumption | exact sub hm (by decide) | with_reducible exact fun hw => hw |
                    with_reducible apply ev_finish | with_reducible apply ev_newKey |
                    (refine ev_newKey_eq ?_ _ _ (by with_reducible assumption) ?_) | with_reducible apply ev_updTr |
                    with_reducible apply ev_goKeys | with_reducible apply ev_changeKeys | with_reducible apply ev_updCtx |
                    (intro u a hu) | (intro u hu) | split | dsimp only | (intro x))

theorem ev_deleteNs (h : Ev m s t) (a1 : Ns)
    (hm : 0x7c02 ||| m = m) : Ev m s (State.deleteNs t a1) := by
  unfold State.deleteNs
  repeat' (first | with_reducible assumption | exact sub hm (by decide) | with_reducible exact fun hw => hw |
                    with_reducible exact fun hw => wf_filter _ hw | with_reducible apply ev_logNs |
                    with_reducible apply ev_forgetNs | with_reducible apply ev_updTr | with_reducible apply ev_clearNs |
                    (intro u a hu) | (intro u hu) | split | dsimp only | (intro x))

theorem ev_endChange (h : Ev m s t) (a1 : Nat) (a2 : Bool)
    (hm : 0x237d22 ||| m = m) : Ev m s (State.endChange t a1 a2) := by
  unfold State.endChange
  repeat' (first | with_reducible assumption | exact sub hm (by decide) | with_reducible apply ev_updCtx |
                    with_reducible apply ev_changeKeys | with_reducible apply ev_checkDealloc |
                    with_reducible apply ev_goKeys | with_reducible apply ev_runMapq | with_reducible apply ev_when |
                    (intro u a hu) | (intro u hu) | split | dsimp only | (intro x))

theorem ev_execNamespaceManagement (h : Ev m s t) (a0 : Hdr) (a1 : Nat) (a2 : Nat) (a3 : Nat) (a4 : Nat) (a5 : Nat) (a6 :
    Bool) (u : State) (hu : execNamespaceManagement a0 a1 a2 a3 a4 a5 a6 t = .next u)
    (hm : 0x237d22 ||| m = m) : Ev m s u := by
  unfold execNamespaceManagement at hu; injection hu with hu; subst hu
  repeat' (first | with_reducible assumption | exact sub hm (by decide) | with_reducible apply ev_beginAdmin |
                    with_reducible apply ev_finish | with_reducible apply ev_createNs | with_reducible apply ev_endChange |
                    with_reducible apply ev_deleteNs | with_reducible apply ev_each | (intro u a hu) | (intro u hu) | split |
                    dsimp only | (intro x))

theorem ev_execNamespaceAttachment (h : Ev m s t) (a0 : Hdr) (a1 : Nat) (a2 : Nat) (a3 : List Nat) (u : State) (hu :
    execNamespaceAttachment a0 a1 a2 a3 t = .next u)
    (hm : 0x7c02 ||| m = m) : Ev m s u := by
  unfold execNamespaceAttachment at hu; injection hu with hu; subst hu
  repeat' (first | with_reducible assumption | exact sub hm (by decide) | with_reducible exact fun hw => wf_filter _ hw |
                    with_reducible apply ev_beginAdmin | with_reducible apply ev_finish | with_reducible apply ev_logNs |
                    with_reducible apply ev_updNs | (intro u a hu) | (intro u hu) | split | dsimp only | (intro x))

theorem ev_formatNs (h : Ev m s t) (a1 : Ns) (a2 : Nat) (a3 : Nat) (a4 : Nat) (a5 : Bool)
    (hm : 0x7c02 ||| m = m) : Ev m s (State.formatNs t a1 a2 a3 a4 a5) := by
  unfold State.formatNs
  repeat' (first | with_reducible assumption | exact sub hm (by decide) | with_reducible apply ev_clearNs |
                    with_reducible apply ev_logNs | with_reducible apply ev_updNs | with_reducible apply ev_newKey |
                    (refine ev_newKey_eq ?_ _ _ (by with_reducible assumption) ?_) | with_reducible apply ev_forgetNs |
                    (intro u a hu) | (intro u hu) | split | dsimp only | (intro x))

theorem ev_execFormatNvm (h : Ev m s t) (a0 : Hdr) (a1 : Nat) (a2 : Nat) (a3 : Nat) (a4 : Nat) (a5 : Bool) (u : State) (hu :
    execFormatNvm a0 a1 a2 a3 a4 a5 t = .next u)
    (hm : 0x237d22 ||| m = m) : Ev m s u := by
  unfold execFormatNvm at hu; injection hu with hu; subst hu
  repeat' (first | with_reducible assumption | exact sub hm (by decide) | with_reducible exact fun hw => wf_filter _ hw |
                    with_reducible apply ev_beginAdmin | with_reducible apply ev_finish | with_reducible apply ev_endChange |
                    with_reducible apply ev_formatNs | with_reducible apply ev_each | (intro u a hu) | (intro u hu) | split |
                    dsimp only | (intro x))

theorem ev_eraseAll (h : Ev m s t) (a1 : Nat)
    (hm : 0x6000 ||| m = m) : Ev m s (State.eraseAll t a1) := by
  induction a1 generalizing t with
  | zero => exact h
  | succ n ih =>
    unfold State.eraseAll
    repeat' (first | with_reducible assumption | exact sub hm (by decide) | with_reducible exact fun hw => hw |
                      with_reducible exact fun hw => ⟨hw.1, hw.2, hw.3⟩ |
                      (refine ev_eraseIntent ?_ _ _ _ (by with_reducible assumption) ?_) | with_reducible apply ev_updMd |
                      with_reducible apply ih | (intro u a hu) | (intro u hu) | split | dsimp only | (intro x))

theorem ev_pumpSanitize (h : Ev m s t)
    (hm : 0x6002 ||| m = m) : Ev m s (State.pumpSanitize t) := by
  unfold State.pumpSanitize
  repeat' (first | with_reducible assumption | exact sub hm (by decide) | with_reducible exact fun hw => hw |
                    with_reducible exact fun hw => wf_filter _ hw | with_reducible exact fun hw => ⟨hw.1, hw.2, hw.3⟩ |
                    (intro hw; constructor <;>
                     with_reducible first | exact hw.1 | exact hw.2 | exact hw.3 | exact wf_spSet _ _ hw.1 | exact wf_spSet _ _ hw.2
                                          | exact wf_spSet _ _ hw.3 | exact wf_filter _ hw.1 | exact wf_filter _ hw.3
                                          | exact wf_spMap _ hw.3 | exact wf_nil _) |
                    with_reducible exact fun _ => wf_nil _ | with_reducible apply ev_updMd | with_reducible apply ev_wr |
                    with_reducible apply ev_eraseAll | (intro u a hu) | (intro u hu) | split | dsimp only | (intro x))

theorem ev_startSanitize (h : Ev m s t) (a1 : Nat) (a2 : Nat) (a3 : Bool)
    (hm : 0x237d22 ||| m = m) : Ev m s (State.startSanitize t a1 a2 a3) := by
  unfold State.startSanitize
  repeat' (first | with_reducible assumption | exact sub hm (by decide) | with_reducible exact fun hw => hw |
                    with_reducible exact fun hw => ⟨hw.1, hw.2, hw.3⟩ | with_reducible apply ev_updMd |
                    with_reducible apply ev_updNv | with_reducible apply ev_wr | with_reducible apply ev_pumpSanitize |
                    with_reducible apply ev_goKeys | with_reducible apply ev_changeKeys | (intro u a hu) | (intro u hu) |
                    split | dsimp only | (intro x))

theorem ev_execSanitize (h : Ev m s t) (a0 : Hdr) (a1 : Nat) (u : State) (hu : execSanitize a0 a1 t = .next u)
    (hm : 0x237d22 ||| m = m) : Ev m s u := by
  unfold execSanitize at hu; injection hu with hu; subst hu
  repeat' (first | with_reducible assumption | exact sub hm (by decide) | with_reducible exact fun hw => wf_filter _ hw |
                    with_reducible apply ev_begin | with_reducible apply ev_finish | with_reducible apply ev_wr |
                    with_reducible apply ev_startSanitize | with_reducible apply ev_each | (intro u a hu) | (intro u hu) |
                    split | dsimp only | (intro x))

theorem ev_execSanitizeEnd (h : Ev m s t)  (u : State) (hu : execSanitizeEnd t = .next u)
    (hm : 0x7c02 ||| m = m) : Ev m s u := by
  unfold execSanitizeEnd at hu; injection hu with hu; subst hu
  repeat' (first | with_reducible assumption | exact sub hm (by decide) | with_reducible exact fun hw => hw |
                    with_reducible apply ev_pumpSanitize | with_reducible apply ev_wr | with_reducible apply ev_finish |
                    with_reducible apply ev_updNv | (intro u a hu) | (intro u hu) | split | dsimp only | (intro x))

end Sys2Proof.Laws
end

