-- ==== Sys2Proof/Laws/EvFlash.lean ====
section
/-! SUPPORT. How the state evolves under the operations and commands of programs, reclamation, slot choice, cartridges and
    the patrol: one law for each, over the laws of Evolves.lean. -/

namespace Sys2Proof.Laws

open Sys2Proof Sys2Proof.Machine

variable {m : Nat} {s t : State}

/-! ### Streams.lean -/

theorem ev_pumpTab (h : Ev m s t)
    (hm : 0x6000 ||| m = m) : Ev m s (State.pumpTab t) := by
  unfold State.pumpTab
  repeat' (first | with_reducible assumption | exact sub hm (by decide) | with_reducible exact fun hw => hw |
                    with_reducible exact fun hw => ⟨hw.1, hw.2, hw.3⟩ |
                    (refine ev_beginRec ?_ _ _ _ _ (by with_reducible assumption) ?_) | with_reducible apply ev_updMd |
                    with_reducible apply ev_foldl | with_reducible apply ev_foldl_snd | with_reducible apply ev_foldl_fst |
                    (intro u a hu) | (intro u hu) | split | dsimp only | (intro x))

theorem ev_noteBlk (h : Ev m s t) (a1 : Nat) (a2 : Nat) (a3 : Nat)
    (hm : 0x2000 ||| m = m) : Ev m s (State.noteBlk t a1 a2 a3) := by
  unfold State.noteBlk
  repeat' (first | with_reducible assumption | exact sub hm (by decide) | with_reducible exact fun hw => hw |
                    with_reducible exact fun hw => ⟨hw.1, hw.2, hw.3⟩ | with_reducible apply ev_updMd | (intro u a hu) |
                    (intro u hu) | split | dsimp only | (intro x))

theorem ev_noteSb (h : Ev m s t) (a1 : Nat)
    (hm : 0x6000 ||| m = m) : Ev m s (State.noteSb t a1) := by
  unfold State.noteSb
  repeat' (first | with_reducible assumption | exact sub hm (by decide) | with_reducible apply ev_pumpTab |
                    with_reducible apply ev_noteBlk | with_reducible apply ev_each | (intro u a hu) | (intro u hu) | split |
                    dsimp only | (intro x))

theorem ev_setSbSt (h : Ev m s t) (a1 : Nat) (a2 : SbSt)
    (hm : 0x6000 ||| m = m) : Ev m s (State.setSbSt t a1 a2) := by
  unfold State.setSbSt
  repeat' (first | with_reducible assumption | exact sub hm (by decide) | with_reducible apply ev_noteSb |
                    with_reducible apply ev_updSb | (intro u a hu) | (intro u hu) | split | dsimp only | (intro x))

theorem ev_addUnit (h : Ev m s t) (a1 : Sb) (a2 : Nat) (a3 : OpWhy) (a4 : List Placed) (a5 : List Nat)
    (hm : 0x2000 ||| m = m) : Ev m s (State.addUnit t a1 a2 a3 a4 a5) := by
  unfold State.addUnit
  repeat' (first | with_reducible assumption | exact sub hm (by decide) | with_reducible apply ev_addOp |
                    (refine ev_addOp_eq ?_ _ _ _ (by with_reducible assumption) ?_) | (intro u a hu) | (intro u hu) | split |
                    dsimp only | (intro x))

theorem ev_confirmHost (h : Ev m s t) (a1 : Sb) (a2 : Nat) (a3 : List Placed)
    (hm : 0x5000 ||| m = m) : Ev m s (State.confirmHost t a1 a2 a3) := by
  unfold State.confirmHost
  repeat' (first | with_reducible assumption | exact sub hm (by decide) | with_reducible apply ev_issueMap |
                    with_reducible apply ev_each | with_reducible apply ev_foldl | with_reducible apply ev_foldl_snd |
                    with_reducible apply ev_foldl_fst | (intro u a hu) | (intro u hu) | split | dsimp only | (intro x))

theorem ev_setPartial (h : Ev m s t) (a1 : Nat) (a2 : List (List Sector))
    (hm : 0x2000 ||| m = m) : Ev m s (State.setPartial t a1 a2) := by
  unfold State.setPartial
  repeat' (first | with_reducible assumption | exact sub hm (by decide) | with_reducible exact fun hw => hw |
                    with_reducible exact fun hw => wf_filter _ hw | with_reducible exact fun hw => ⟨hw.1, hw.2, hw.3⟩ |
                    (intro hw; constructor <;>
                     with_reducible first | exact hw.1 | exact hw.2 | exact hw.3 | exact wf_spSet _ _ hw.1 | exact wf_spSet _ _ hw.2
                                          | exact wf_spSet _ _ hw.3 | exact wf_filter _ hw.1 | exact wf_filter _ hw.3
                                          | exact wf_spMap _ hw.3 | exact wf_nil _) |
                    with_reducible apply ev_updMd | (intro u a hu) | (intro u hu) | split | dsimp only | (intro x))

theorem ev_dropPartial (h : Ev m s t) (a1 : Nat)
    (hm : 0x2000 ||| m = m) : Ev m s (State.dropPartial t a1) := by
  unfold State.dropPartial
  repeat' (first | with_reducible assumption | exact sub hm (by decide) | with_reducible exact fun hw => hw |
                    with_reducible exact fun hw => wf_filter _ hw | with_reducible exact fun hw => ⟨hw.1, hw.2, hw.3⟩ |
                    (intro hw; constructor <;>
                     with_reducible first | exact hw.1 | exact hw.2 | exact hw.3 | exact wf_spSet _ _ hw.1 | exact wf_spSet _ _ hw.2
                                          | exact wf_spSet _ _ hw.3 | exact wf_filter _ hw.1 | exact wf_filter _ hw.3
                                          | exact wf_spMap _ hw.3 | exact wf_nil _) |
                    with_reducible apply ev_updMd | (intro u a hu) | (intro u hu) | split | dsimp only | (intro x))

theorem ev_addPartial (h : Ev m s t) (a1 : Sb) (a2 : Nat)
    (hm : 0x2000 ||| m = m) : Ev m s (State.addPartial t a1 a2) := by
  unfold State.addPartial
  repeat' (first | with_reducible assumption | exact sub hm (by decide) | with_reducible apply ev_setPartial |
                    (intro u a hu) | (intro u hu) | split | dsimp only | (intro x))

theorem ev_confirmDests (h : Ev m s t) (a1 : Nat)
    (hm : 0x7002 ||| m = m) : Ev m s (State.confirmDests t a1) := by
  unfold State.confirmDests
  repeat' (first | with_reducible assumption | exact sub hm (by decide) | with_reducible exact fun hw => hw |
                    with_reducible exact fun hw => wf_filter _ hw | with_reducible exact fun hw => ⟨hw.1, hw.2, hw.3⟩ |
                    (intro hw; constructor <;>
                     with_reducible first | exact hw.1 | exact hw.2 | exact hw.3 | exact wf_spSet _ _ hw.1 | exact wf_spSet _ _ hw.2
                                          | exact wf_spSet _ _ hw.3 | exact wf_filter _ hw.1 | exact wf_filter _ hw.3
                                          | exact wf_spMap _ hw.3 | exact wf_nil _) |
                    with_reducible apply ev_updMd | with_reducible apply ev_issueMap | with_reducible apply ev_count |
                    with_reducible apply ev_each | with_reducible apply ev_foldl | with_reducible apply ev_foldl_snd |
                    with_reducible apply ev_foldl_fst | (intro u a hu) | (intro u hu) | split | dsimp only | (intro x))

theorem ev_closeSb (h : Ev m s t) (a1 : Nat)
    (hm : 0x7002 ||| m = m) : Ev m s (State.closeSb t a1) := by
  unfold State.closeSb
  repeat' (first | with_reducible assumption | exact sub hm (by decide) | with_reducible exact fun _ => wf_nil _ |
                    with_reducible apply ev_confirmDests | with_reducible apply ev_setSbSt | with_reducible apply ev_updSb |
                    with_reducible apply ev_dropPartial | (intro u a hu) | (intro u hu) | split | dsimp only | (intro x))

theorem ev_closeStripe (h : Ev m s t) (a1 : Nat)
    (hm : 0x7002 ||| m = m) : Ev m s (State.closeStripe t a1) := by
  unfold State.closeStripe
  repeat' (first | with_reducible assumption | exact sub hm (by decide) | with_reducible exact fun _ => wf_nil _ |
                    with_reducible apply ev_closeSb | with_reducible apply ev_updSb | with_reducible apply ev_dropPartial |
                    (intro u a hu) | (intro u hu) | split | dsimp only | (intro x))

theorem ev_finishStripe (h : Ev m s t) (a1 : Nat) (a2 : List Placed) (a3 : Nat)
    (hm : 0x7002 ||| m = m) : Ev m s (State.finishStripe t a1 a2 a3) := by
  unfold State.finishStripe
  repeat' (first | with_reducible assumption | exact sub hm (by decide) | with_reducible apply ev_closeStripe |
                    with_reducible apply ev_addUnit | with_reducible apply ev_updSb | (intro u a hu) | (intro u hu) | split |
                    dsimp only | (intro x))

theorem ev_padStripe (h : Ev m s t) (a1 : Nat)
    (hm : 0x7002 ||| m = m) : Ev m s (State.padStripe t a1) := by
  unfold State.padStripe
  repeat' (first | with_reducible assumption | exact sub hm (by decide) | with_reducible apply ev_finishStripe |
                    with_reducible apply ev_addUnit | with_reducible apply ev_each | (intro u a hu) | (intro u hu) | split |
                    dsimp only | (intro x))

theorem ev_returnTarts (h : Ev m s t) (a1 : List Placed)
    (hm : 0x7800 ||| m = m) : Ev m s (State.returnTarts t a1) := by
  unfold State.returnTarts
  repeat' (first | with_reducible assumption | exact sub hm (by decide) | with_reducible exact fun hw => hw |
                    with_reducible exact fun hw => wf_filter _ hw | with_reducible exact fun hw => ⟨hw.1, hw.2, hw.3⟩ |
                    (intro hw; constructor <;>
                     with_reducible first | exact hw.1 | exact hw.2 | exact hw.3 | exact wf_spSet _ _ hw.1 | exact wf_spSet _ _ hw.2
                                          | exact wf_spSet _ _ hw.3 | exact wf_filter _ hw.1 | exact wf_filter _ hw.3
                                          | exact wf_spMap _ hw.3 | exact wf_nil _) |
                    with_reducible apply ev_updMd | with_reducible apply ev_updTr | with_reducible apply ev_supersede |
                    with_reducible apply ev_freeVers | with_reducible apply ev_pumpDealloc | with_reducible apply ev_each |
                    (intro u a hu) | (intro u hu) | split | dsimp only | (intro x))

theorem ev_dropProgram (h : Ev m s t) (a1 : Op)
    (hm : 0x7800 ||| m = m) : Ev m s (State.dropProgram t a1) := by
  unfold State.dropProgram
  repeat' (first | with_reducible assumption | exact sub hm (by decide) | with_reducible exact fun hw => hw |
                    with_reducible exact fun hw => wf_filter _ hw | with_reducible exact fun hw => ⟨hw.1, hw.2, hw.3⟩ |
                    (intro hw; constructor <;>
                     with_reducible first | exact hw.1 | exact hw.2 | exact hw.3 | exact wf_spSet _ _ hw.1 | exact wf_spSet _ _ hw.2
                                          | exact wf_spSet _ _ hw.3 | exact wf_filter _ hw.1 | exact wf_filter _ hw.3
                                          | exact wf_spMap _ hw.3 | exact wf_nil _) |
                    with_reducible apply ev_dropOp | with_reducible apply ev_updMd | with_reducible apply ev_updTr |
                    with_reducible apply ev_returnTarts | (intro u a hu) | (intro u hu) | split | dsimp only | (intro x))

theorem ev_closeEarly (h : Ev m s t) (a1 : Nat)
    (hm : 0x7802 ||| m = m) : Ev m s (State.closeEarly t a1) := by
  unfold State.closeEarly
  repeat' (first | with_reducible assumption | exact sub hm (by decide) | with_reducible exact fun hw => wf_filter _ hw |
                    with_reducible apply ev_updSb | with_reducible apply ev_dropProgram | with_reducible apply ev_closeSb |
                    with_reducible apply ev_padStripe | with_reducible apply ev_each | (intro u a hu) | (intro u hu) | split |
                    dsimp only | (intro x))

theorem ev_rebuildUnit (h : Ev m s t) (a1 : Sb) (a2 : Nat)
    (hm : 0x2000 ||| m = m) : Ev m s (State.rebuildUnit t a1 a2) := by
  unfold State.rebuildUnit
  repeat' (first | with_reducible assumption | exact sub hm (by decide) | with_reducible exact fun hw => hw |
                    with_reducible exact fun hw => ⟨hw.1, hw.2, hw.3⟩ | with_reducible apply ev_updMd | (intro u a hu) |
                    (intro u hu) | split | dsimp only | (intro x))

theorem ev_loseMember (h : Ev m s t) (a1 : Nat) (a2 : Nat)
    (hm : 0x7802 ||| m = m) : Ev m s (State.loseMember t a1 a2) := by
  unfold State.loseMember
  repeat' (first | with_reducible assumption | exact sub hm (by decide) | with_reducible exact fun hw => wf_filter _ hw |
                    with_reducible exact fun _ => wf_nil _ | with_reducible apply ev_rebuildUnit |
                    with_reducible apply ev_dropReads | with_reducible apply ev_returnTarts | with_reducible apply ev_updOp |
                    with_reducible apply ev_confirmHost | with_reducible apply ev_dropOp | with_reducible apply ev_updSb |
                    with_reducible apply ev_finishStripe | with_reducible apply ev_closeEarly | with_reducible apply ev_each |
                    (intro u a hu) | (intro u hu) | split | dsimp only | (intro x))

theorem ev_settleOpen (h : Ev m s t)
    (hm : 0x7802 ||| m = m) : Ev m s (State.settleOpen t) := by
  unfold State.settleOpen
  repeat' (first | with_reducible assumption | exact sub hm (by decide) | with_reducible exact fun hw => wf_filter _ hw |
                    with_reducible apply ev_loseMember | with_reducible apply ev_each | (intro u a hu) | (intro u hu) |
                    split | dsimp only | (intro x))

theorem ev_readMembers (h : Ev m s t) (a1 : Sb)
    (hm : 0x2000 ||| m = m) : Ev m s (State.readMembers t a1) := by
  unfold State.readMembers
  repeat' (first | with_reducible assumption | exact sub hm (by decide) | with_reducible exact fun hw => wf_filter _ hw |
                    with_reducible apply ev_addRead |
                    (refine ev_addRead_eq ?_ _ _ _ _ _ _ _ (by with_reducible assumption) ?_) | with_reducible apply ev_each |
                    (intro u a hu) | (intro u hu) | split | dsimp only | (intro x))

theorem ev_closeAgain (h : Ev m s t) (a1 : Sb)
    (hm : 0x7002 ||| m = m) : Ev m s (State.closeAgain t a1) := by
  unfold State.closeAgain
  repeat' (first | with_reducible assumption | exact sub hm (by decide) | with_reducible exact fun hw => wf_filter _ hw |
                    with_reducible apply ev_closeStripe | with_reducible apply ev_readMembers |
                    with_reducible apply ev_padStripe | with_reducible apply ev_updSb | with_reducible apply ev_setPartial |
                    (intro u a hu) | (intro u hu) | split | dsimp only | (intro x))

theorem ev_closeOpenStripes (h : Ev m s t)
    (hm : 0x7002 ||| m = m) : Ev m s (State.closeOpenStripes t) := by
  unfold State.closeOpenStripes
  repeat' (first | with_reducible assumption | exact sub hm (by decide) | with_reducible exact fun hw => hw |
                    with_reducible exact fun hw => wf_filter _ hw | with_reducible exact fun hw => ⟨hw.1, hw.2, hw.3⟩ |
                    (intro hw; constructor <;>
                     with_reducible first | exact hw.1 | exact hw.2 | exact hw.3 | exact wf_spSet _ _ hw.1 | exact wf_spSet _ _ hw.2
                                          | exact wf_spSet _ _ hw.3 | exact wf_filter _ hw.1 | exact wf_filter _ hw.3
                                          | exact wf_spMap _ hw.3 | exact wf_nil _) |
                    with_reducible exact fun _ => wf_nil _ | with_reducible apply ev_updMd |
                    with_reducible apply ev_dropReads | with_reducible apply ev_closeAgain | with_reducible apply ev_each |
                    (intro u a hu) | (intro u hu) | split | dsimp only | (intro x))

theorem ev_target (h : Ev m s t) (a1 : Machine.Stream) (a2 : Option Nat) (v0 : Nat) (v1 : Nat) (u : State) (hu :
    State.target t a1 a2 = some (v0, v1, u))
    (hm : 0x6000 ||| m = m) : Ev m s u := by
  unfold State.target at hu
  have hf : ∀ x : State, (if (t.md.sbs.filter (fun x => x.stream == a1 && x.st == .open_)).length < 4 then
      (match a2 with | some k => t.formSb a1 k | none => t.formStream a1) else none) = some x → Ev m s x := by
    intro x hx
    split at hx
    · split at hx
      · exact ev_formSb h _ _ _ hx (sub hm (by decide))
      · exact ev_formStream h _ _ hx (sub hm (by decide))
    · contradiction
  have hb : ∀ x : State, Ev m s x → (x.sb t.md.nextSb).bind
      (fun y => (x.freeMember y).map (fun j => (y.id, j, x.noteSb y.id))) = some (v0, v1, u) → Ev m s u := by
    intro x hx hy
    obtain ⟨y, -, hz⟩ := Option.bind_eq_some_iff.1 hy
    obtain ⟨j, -, hj⟩ := Option.map_eq_some_iff.1 hz
    cases hj
    exact ev_noteSb hx _ (sub hm (by decide))
  dsimp only at hu
  split at hu
  · cases hu; exact h
  · split at hu
    · exact hb _ (hf _ (by assumption)) hu
    · cases hu; exact h
  · obtain ⟨x, hx, hy⟩ := Option.bind_eq_some_iff.1 hu
    exact hb x (hf x hx) hy

theorem ev_formUnit (h : Ev m s t) (a1 : Machine.Stream) (a2 : Option Nat) (a3 : List Placed)
    (hm : 0x7002 ||| m = m) : Ev m s (State.formUnit t a1 a2 a3).2 := by
  unfold State.formUnit
  repeat' (first | with_reducible assumption | exact sub hm (by decide) |
                    (refine ev_target ?_ _ _ _ _ _ (by with_reducible assumption) ?_) | with_reducible apply ev_padStripe |
                    with_reducible apply ev_addUnit | (intro u a hu) | (intro u hu) | split | dsimp only | (intro x))

theorem ev_formUnit_eq  (h : Ev m s t) (a1 : Machine.Stream) (a2 : Option Nat) (a3 : List Placed)  (v : Bool) (u : State)
    (e : State.formUnit t a1 a2 a3 = (v, u))
    (hm : 0x7002 ||| m = m) : Ev m s u := by
  have k := ev_formUnit h a1 a2 a3  hm; rw [e] at k; exact k

theorem ev_startMerge (h : Ev m s t) (a1 : Nat) (a2 : Nat) (a3 : Nat)
    (hm : 0x223d22 ||| m = m) : Ev m s (State.startMerge t a1 a2 a3) := by
  unfold State.startMerge
  repeat' (first | with_reducible assumption | exact sub hm (by decide) | with_reducible exact fun hw => hw |
                    with_reducible apply ev_lookedUp | with_reducible apply ev_updTr | with_reducible apply ev_addWatch |
                    with_reducible apply ev_addRead |
                    (refine ev_addRead_eq ?_ _ _ _ _ _ _ _ (by with_reducible assumption) ?_) | (intro u a hu) |
                    (intro u hu) | split | dsimp only | (intro x))

theorem ev_pumpMerges (h : Ev m s t) (a1 : Op) (a2 : Nat)
    (hm : 0x223d22 ||| m = m) : Ev m s (State.pumpMerges t a1 a2) := by
  unfold State.pumpMerges
  repeat' (first | with_reducible assumption | exact sub hm (by decide) | with_reducible exact fun hw => hw |
                    with_reducible exact fun hw => wf_filter _ hw | with_reducible apply ev_updTr |
                    with_reducible apply ev_startMerge | with_reducible apply ev_each | (intro u a hu) | (intro u hu) |
                    split | dsimp only | (intro x))

theorem ev_joinUnit (h : Ev m s t) (a1 : Nat)
    (hm : 0x2000 ||| m = m) : Ev m s (State.joinUnit t a1) := by
  unfold State.joinUnit
  repeat' (first | with_reducible assumption | exact sub hm (by decide) | with_reducible apply ev_updOp | (intro u a hu) |
                    (intro u hu) | split | dsimp only | (intro x))

theorem ev_formHost (h : Ev m s t) (a0 : Nat) (a1 : Nat)
    (hm : 0x7002 ||| m = m) : Ev m s (State.formHost a0 a1 t) := by
  induction a1 generalizing t with
  | zero => exact h
  | succ n ih =>
    unfold State.formHost
    repeat' (first | with_reducible assumption | exact sub hm (by decide) | with_reducible exact fun hw => hw |
                      with_reducible exact fun hw => ⟨hw.1, hw.2, hw.3⟩ | with_reducible apply ih |
                      with_reducible apply ev_formUnit | split | dsimp only)

theorem ev_formHosts (h : Ev m s t)
    (hm : 0x227d22 ||| m = m) : Ev m s (State.formHosts t) := by
  unfold State.formHosts
  repeat' (first | with_reducible assumption | exact sub hm (by decide) | with_reducible exact fun hw => wf_filter _ hw |
                    with_reducible apply ev_pumpDealloc | with_reducible apply ev_formHost |
                    with_reducible apply ev_joinUnit | with_reducible apply ev_pumpMerges | with_reducible apply ev_each |
                    (intro u a hu) | (intro u hu) | split | dsimp only | (intro x))

theorem ev_formCopies (h : Ev m s t) (a0 : Nat) (a1 : Nat)
    (hm : 0x7002 ||| m = m) : Ev m s (State.formCopies a0 a1 t) := by
  induction a1 generalizing t with
  | zero => exact h
  | succ n ih =>
    unfold State.formCopies
    repeat' (first | with_reducible assumption | exact sub hm (by decide) | with_reducible exact fun hw => hw |
                      with_reducible exact fun hw => ⟨hw.1, hw.2, hw.3⟩ | with_reducible apply ih |
                      with_reducible apply ev_updMd | with_reducible apply ev_formUnit | split | dsimp only)

/-! ### Program.lean -/

theorem ev_storeUnit (h : Ev m s t) (a1 : Member) (a2 : Nat) (a3 : Nat) (a4 : List Placed)
    (hm : 0x2000 ||| m = m) : Ev m s (State.storeUnit t a1 a2 a3 a4) := by
  unfold State.storeUnit
  repeat' (first | with_reducible assumption | exact sub hm (by decide) | with_reducible exact fun hw => hw |
                    with_reducible exact fun hw => wf_spSet _ _ hw | with_reducible exact fun hw => wf_spSetRun _ _ hw |
                    with_reducible exact fun hw => ⟨hw.1, hw.2, hw.3⟩ |
                    (intro hw; constructor <;>
                     with_reducible first | exact hw.1 | exact hw.2 | exact hw.3 | exact wf_spSet _ _ hw.1 | exact wf_spSet _ _ hw.2
                                          | exact wf_spSet _ _ hw.3 | exact wf_filter _ hw.1 | exact wf_filter _ hw.3
                                          | exact wf_spMap _ hw.3 | exact wf_nil _) |
                    with_reducible apply ev_updMd | with_reducible apply ev_each | (intro u a hu) | (intro u hu) | split |
                    dsimp only | (intro x))

theorem ev_storeParity (h : Ev m s t) (a1 : Sb) (a2 : Nat)
    (hm : 0x2000 ||| m = m) : Ev m s (State.storeParity t a1 a2) := by
  unfold State.storeParity
  repeat' (first | with_reducible assumption | exact sub hm (by decide) | with_reducible exact fun hw => hw |
                    with_reducible exact fun hw => wf_spSet _ _ hw | with_reducible exact fun hw => wf_spSetRun _ _ hw |
                    with_reducible exact fun hw => ⟨hw.1, hw.2, hw.3⟩ |
                    (intro hw; constructor <;>
                     with_reducible first | exact hw.1 | exact hw.2 | exact hw.3 | exact wf_spSet _ _ hw.1 | exact wf_spSet _ _ hw.2
                                          | exact wf_spSet _ _ hw.3 | exact wf_filter _ hw.1 | exact wf_filter _ hw.3
                                          | exact wf_spMap _ hw.3 | exact wf_nil _) |
                    with_reducible apply ev_updMd | with_reducible apply ev_each | (intro u a hu) | (intro u hu) | split |
                    dsimp only | (intro x))

theorem ev_placeDests (h : Ev m s t) (a1 : Sb) (a2 : Nat) (a3 : List Placed)
    (hm : 0x2022 ||| m = m) : Ev m s (State.placeDests t a1 a2 a3) := by
  unfold State.placeDests
  repeat' (first | with_reducible assumption | exact sub hm (by decide) | with_reducible exact fun hw => hw |
                    with_reducible exact fun hw => ⟨hw.1, hw.2, hw.3⟩ | with_reducible apply ev_updMd |
                    with_reducible apply ev_aev | with_reducible apply ev_count | with_reducible apply ev_each |
                    (intro u a hu) | (intro u hu) | split | dsimp only | (intro x))

theorem ev_unitDone (h : Ev m s t) (a1 : Sb) (a2 : Op)
    (hm : 0x7022 ||| m = m) : Ev m s (State.unitDone t a1 a2) := by
  unfold State.unitDone
  repeat' (first | with_reducible assumption | exact sub hm (by decide) | with_reducible exact fun hw => hw |
                    with_reducible exact fun hw => ⟨hw.1, hw.2, hw.3⟩ | with_reducible apply ev_addPartial |
                    with_reducible apply ev_storeUnit | with_reducible apply ev_updSb | with_reducible apply ev_updMd |
                    with_reducible apply ev_confirmHost | with_reducible apply ev_placeDests |
                    with_reducible apply ev_finishStripe | (intro u a hu) | (intro u hu) | split | dsimp only | (intro x))

theorem ev_parityDone (h : Ev m s t) (a1 : Sb) (a2 : Op)
    (hm : 0x7002 ||| m = m) : Ev m s (State.parityDone t a1 a2) := by
  unfold State.parityDone
  repeat' (first | with_reducible assumption | exact sub hm (by decide) | with_reducible apply ev_storeParity |
                    with_reducible apply ev_closeStripe | with_reducible apply ev_confirmHost | (intro u a hu) |
                    (intro u hu) | split | dsimp only | (intro x))

theorem ev_releasePages (h : Ev m s t)
    (hm : 0x1000 ||| m = m) : Ev m s (State.releasePages t) := by
  unfold State.releasePages
  repeat' (first | with_reducible assumption | exact sub hm (by decide) | with_reducible exact fun hw => hw |
                    with_reducible exact fun hw => wf_filter _ hw | with_reducible apply ev_updTr | (intro u a hu) |
                    (intro u hu) | split | dsimp only | (intro x))

theorem ev_copiesDone (h : Ev m s t) (a1 : Nat)
    (hm : 0x1000 ||| m = m) : Ev m s (State.copiesDone t a1) := by
  unfold State.copiesDone
  repeat' (first | with_reducible assumption | exact sub hm (by decide) | with_reducible exact fun hw => hw |
                    with_reducible exact fun hw => wf_filter _ hw | with_reducible apply ev_updTr | (intro u a hu) |
                    (intro u hu) | split | dsimp only | (intro x))

theorem ev_metaUnit (h : Ev m s t) (a1 : Nat) (a2 : Nat)
    (hm : 0x2000 ||| m = m) : Ev m s (State.metaUnit t a1 a2) := by
  unfold State.metaUnit
  repeat' (first | with_reducible assumption | exact sub hm (by decide) | with_reducible exact fun hw => hw |
                    with_reducible exact fun hw => wf_spSet _ _ hw | with_reducible exact fun hw => wf_spSetRun _ _ hw |
                    with_reducible exact fun hw => ⟨hw.1, hw.2, hw.3⟩ |
                    (intro hw; constructor <;>
                     with_reducible first | exact hw.1 | exact hw.2 | exact hw.3 | exact wf_spSet _ _ hw.1 | exact wf_spSet _ _ hw.2
                                          | exact wf_spSet _ _ hw.3 | exact wf_filter _ hw.1 | exact wf_filter _ hw.3
                                          | exact wf_spMap _ hw.3 | exact wf_nil _) |
                    with_reducible apply ev_updMd | (intro u a hu) | (intro u hu) | split | dsimp only | (intro x))

theorem ev_addMetaPage (h : Ev m s t) (a1 : List Nat)
    (hm : 0x2000 ||| m = m) : Ev m s (State.addMetaPage t a1) := by
  unfold State.addMetaPage
  repeat' (first | with_reducible assumption | exact sub hm (by decide) | with_reducible apply ev_addOp |
                    (refine ev_addOp_eq ?_ _ _ _ (by with_reducible assumption) ?_) | (intro u a hu) | (intro u hu) | split |
                    dsimp only | (intro x))

theorem ev_addMeta (h : Ev m s t) (a1 : List Nat)
    (hm : 0x2000 ||| m = m) : Ev m s (State.addMeta t a1) := by
  unfold State.addMeta
  repeat' (first | with_reducible assumption | exact sub hm (by decide) | with_reducible apply ev_addMetaPage |
                    with_reducible apply ev_when | (intro u a hu) | (intro u hu) | split | dsimp only | (intro x))

theorem ev_metaDone (h : Ev m s t) (a1 : Op)
    (hm : 0x17002 ||| m = m) : Ev m s (State.metaDone t a1) := by
  unfold State.metaDone
  repeat' (first | with_reducible assumption | exact sub hm (by decide) | with_reducible exact fun hw => hw |
                    with_reducible exact fun hw => wf_filter _ hw | with_reducible exact fun hw => ⟨hw.1, hw.2, hw.3⟩ |
                    (intro hw; constructor <;>
                     with_reducible first | exact hw.1 | exact hw.2 | exact hw.3 | exact wf_spSet _ _ hw.1 | exact wf_spSet _ _ hw.2
                                          | exact wf_spSet _ _ hw.3 | exact wf_filter _ hw.1 | exact wf_nil _) |
                    with_reducible apply ev_metaUnit | with_reducible apply ev_setLive | with_reducible apply ev_updTr |
                    with_reducible apply ev_pumpDeltas | with_reducible apply ev_wr | with_reducible apply ev_copiesDone |
                    with_reducible apply ev_addMeta | with_reducible apply ev_releasePages | with_reducible apply ev_count |
                    with_reducible apply ev_updRg | (intro u a hu) | (intro u hu) | split | dsimp only | (intro x))

theorem ev_addFlush (h : Ev m s t) (a0 : Nat) (a1 : Nat) (a2 : Nat) (a3 : List Nat)
    (hm : 0x6000 ||| m = m) : Ev m s (State.addFlush a0 a1 a2 a3 t) := by
  induction a2 generalizing t a0 a1 a3 with
  | zero => exact h
  | succ n ih =>
    unfold State.addFlush
    repeat' (first | with_reducible assumption | exact sub hm (by decide) | with_reducible exact fun hw => wf_filter _ hw |
                      with_reducible apply ev_addOp | (refine ev_addOp_eq ?_ _ _ _ (by with_reducible assumption) ?_) |
                      with_reducible apply ev_setFlushUsed | with_reducible apply ev_foldl |
                      with_reducible apply ev_foldl_snd | with_reducible apply ev_foldl_fst | with_reducible apply ih |
                      (intro u a hu) | (intro u hu) | split | dsimp only | (intro x))

theorem ev_flushProgDone (h : Ev m s t) (a1 : Op)
    (hm : 0x4000 ||| m = m) : Ev m s (State.flushProgDone t a1) := by
  unfold State.flushProgDone
  repeat' (first | with_reducible assumption | exact sub hm (by decide) | with_reducible exact fun hw => hw |
                    with_reducible apply ev_writeDir | with_reducible apply ev_updLg | with_reducible apply ev_each |
                    (intro u a hu) | (intro u hu) | split | dsimp only | (intro x))

theorem ev_execFlashProgramComplete (h : Ev m s t) (a0 : Nat) (u : State) (hu : execFlashProgramComplete a0 t = .next u)
    (hm : 0x237d22 ||| m = m) : Ev m s u := by
  unfold execFlashProgramComplete at hu; injection hu with hu; subst hu
  repeat' (first | with_reducible assumption | exact sub hm (by decide) | with_reducible apply ev_setDie |
                    with_reducible apply ev_dropOp | with_reducible apply ev_metaDone |
                    with_reducible apply ev_flushProgDone | with_reducible apply ev_goKeys |
                    with_reducible apply ev_keyPageDone | with_reducible apply ev_unitDone |
                    with_reducible apply ev_parityDone | (intro u a hu) | (intro u hu) | split | dsimp only | (intro x))

theorem ev_execMapWrite (h : Ev m s t) (a0 : Nat) (u : State) (hu : execMapWrite a0 t = .next u)
    (hm : 0x237d22 ||| m = m) : Ev m s u := by
  unfold execMapWrite at hu; injection hu with hu; subst hu
  repeat' (first | with_reducible assumption | exact sub hm (by decide) | with_reducible apply ev_mapWrite | (intro u a hu) |
                    (intro u hu) | split | dsimp only | (intro x))

theorem ev_recopy (h : Ev m s t) (a1 : Placed)
    (hm : 0x2000 ||| m = m) : Ev m s (State.recopy t a1) := by
  unfold State.recopy
  repeat' (first | with_reducible assumption | exact sub hm (by decide) | with_reducible apply ev_addRead |
                    (refine ev_addRead_eq ?_ _ _ _ _ _ _ _ (by with_reducible assumption) ?_) | (intro u a hu) |
                    (intro u hu) | split | dsimp only | (intro x))

theorem ev_unitFailed (h : Ev m s t) (a1 : Sb) (a2 : Op)
    (hm : 0x7822 ||| m = m) : Ev m s (State.unitFailed t a1 a2) := by
  unfold State.unitFailed
  repeat' (first | with_reducible assumption | exact sub hm (by decide) | with_reducible exact fun hw => hw |
                    with_reducible exact fun hw => wf_filter _ hw | with_reducible exact fun hw => ⟨hw.1, hw.2, hw.3⟩ |
                    (intro hw; constructor <;>
                     with_reducible first | exact hw.1 | exact hw.2 | exact hw.3 | exact wf_spSet _ _ hw.1 | exact wf_spSet _ _ hw.2
                                          | exact wf_spSet _ _ hw.3 | exact wf_filter _ hw.1 | exact wf_filter _ hw.3
                                          | exact wf_spMap _ hw.3 | exact wf_nil _) |
                    with_reducible apply ev_updMd | with_reducible apply ev_updSb | with_reducible apply ev_retireBlock |
                    with_reducible apply ev_finishStripe | with_reducible apply ev_closeEarly | with_reducible apply ev_aev |
                    with_reducible apply ev_count | with_reducible apply ev_recopy | with_reducible apply ev_returnTarts |
                    with_reducible apply ev_each | (intro u a hu) | (intro u hu) | split | dsimp only | (intro x))

theorem ev_slcFailed (h : Ev m s t) (a1 : Op)
    (hm : 0x6022 ||| m = m) : Ev m s (State.slcFailed t a1) := by
  unfold State.slcFailed
  repeat' (first | with_reducible assumption | exact sub hm (by decide) | with_reducible exact fun hw => wf_filter _ hw |
                    with_reducible apply ev_retireBlock | with_reducible apply ev_addFlush | with_reducible apply ev_addOp |
                    (refine ev_addOp_eq ?_ _ _ _ (by with_reducible assumption) ?_) | (intro u a hu) | (intro u hu) | split |
                    dsimp only | (intro x))

theorem ev_programFailed (h : Ev m s t) (a1 : Op)
    (hm : 0x237d22 ||| m = m) : Ev m s (State.programFailed t a1) := by
  unfold State.programFailed
  repeat' (first | with_reducible assumption | exact sub hm (by decide) | with_reducible apply ev_count |
                    with_reducible apply ev_dropOp | with_reducible apply ev_slcFailed | with_reducible apply ev_goKeys |
                    with_reducible apply ev_keyPageFailed | with_reducible apply ev_unitFailed |
                    with_reducible apply ev_postCrit | with_reducible apply ev_settleOpen | (intro u a hu) | (intro u hu) |
                    split | dsimp only | (intro x))

theorem ev_execFlashProgramFailure (h : Ev m s t) (a0 : Nat) (u : State) (hu : execFlashProgramFailure a0 t = .next u)
    (hm : 0x237d22 ||| m = m) : Ev m s u := by
  unfold execFlashProgramFailure at hu; injection hu with hu; subst hu
  repeat' (first | with_reducible assumption | exact sub hm (by decide) | with_reducible apply ev_programFailed |
                    with_reducible apply ev_setDie | (intro u a hu) | (intro u hu) | split | dsimp only | (intro x))

theorem ev_execDeltaPageProgram (h : Ev m s t)  (u : State) (hu : execDeltaPageProgram t = .next u)
    (hm : 0x2000 ||| m = m) : Ev m s u := by
  unfold execDeltaPageProgram at hu; injection hu with hu; subst hu
  repeat' (first | with_reducible assumption | exact sub hm (by decide) | with_reducible apply ev_addMeta | (intro u a hu) |
                    (intro u hu) | split | dsimp only | (intro x))

theorem ev_execBlktabWritten (h : Ev m s t) (a0 : Nat) (u : State) (hu : execBlktabWritten a0 t = .next u)
    (hm : 0x6002 ||| m = m) : Ev m s u := by
  unfold execBlktabWritten at hu; injection hu with hu; subst hu
  repeat' (first | with_reducible assumption | exact sub hm (by decide) | with_reducible exact fun hw => hw |
                    with_reducible exact fun hw => wf_spSet _ _ hw | with_reducible exact fun hw => wf_spSetRun _ _ hw |
                    with_reducible exact fun hw => ⟨hw.1, hw.2, hw.3⟩ |
                    (intro hw; constructor <;>
                     with_reducible first | exact hw.1 | exact hw.2 | exact hw.3 | exact wf_spSet _ _ hw.1 | exact wf_spSet _ _ hw.2
                                          | exact wf_spSet _ _ hw.3 | exact wf_filter _ hw.1 | exact wf_filter _ hw.3
                                          | exact wf_spMap _ hw.3 | exact wf_nil _) |
                    with_reducible apply ev_updMd | with_reducible apply ev_endRec | (intro u a hu) | (intro u hu) | split |
                    dsimp only | (intro x))

theorem ev_passErased (h : Ev m s t) (a1 : Erase)
    (hm : 0x2000 ||| m = m) : Ev m s (State.passErased t a1) := by
  unfold State.passErased
  repeat' (first | with_reducible assumption | exact sub hm (by decide) | with_reducible apply ev_setDie | (intro u a hu) |
                    (intro u hu) | split | dsimp only | (intro x))

theorem ev_eraseFailed (h : Ev m s t) (a1 : Erase) (a2 : Nat)
    (hm : 0x237d22 ||| m = m) : Ev m s (State.eraseFailed t a1 a2) := by
  unfold State.eraseFailed
  repeat' (first | with_reducible assumption | exact sub hm (by decide) | with_reducible exact fun hw => hw |
                    with_reducible exact fun hw => wf_filter _ hw | with_reducible exact fun hw => ⟨hw.1, hw.2, hw.3⟩ |
                    (intro hw; constructor <;>
                     with_reducible first | exact hw.1 | exact hw.2 | exact hw.3 | exact wf_spSet _ _ hw.1 | exact wf_spSet _ _ hw.2
                                          | exact wf_spSet _ _ hw.3 | exact wf_filter _ hw.1 | exact wf_filter _ hw.3
                                          | exact wf_spMap _ hw.3 | exact wf_nil _) |
                    with_reducible apply ev_updMd | with_reducible apply ev_goKeys | with_reducible apply ev_postCrit |
                    with_reducible apply ev_settleOpen | with_reducible apply ev_passErased |
                    with_reducible apply ev_retireBlock | with_reducible apply ev_count | (intro u a hu) | (intro u hu) |
                    split | dsimp only | (intro x))

theorem ev_settleTimeout (h : Ev m s t) (a1 : Op)
    (hm : 0x237d22 ||| m = m) : Ev m s (State.settleTimeout t a1) := by
  unfold State.settleTimeout
  repeat' (first | with_reducible assumption | exact sub hm (by decide) | with_reducible apply ev_updOp |
                    with_reducible apply ev_readDone | with_reducible apply ev_failRead |
                    (refine ev_failRead_eq ?_ _ _ _ (by with_reducible assumption) ?_) | with_reducible apply ev_dropOp |
                    with_reducible apply ev_programFailed | with_reducible apply ev_eraseFailed | (intro u a hu) |
                    (intro u hu) | split | dsimp only | (intro x))

theorem ev_execOperationTimeout (h : Ev m s t) (a0 : Nat) (u : State) (hu : execOperationTimeout a0 t = .next u)
    (hm : 0x237d22 ||| m = m) : Ev m s u := by
  unfold execOperationTimeout at hu; injection hu with hu; subst hu
  repeat' (first | with_reducible assumption | exact sub hm (by decide) | with_reducible apply ev_settleTimeout |
                    with_reducible apply ev_count | with_reducible apply ev_setDie | with_reducible apply ev_postCrit |
                    with_reducible apply ev_settleOpen | with_reducible apply ev_retireDie | (intro u a hu) | (intro u hu) |
                    split | dsimp only | (intro x))

/-! ### Gc.lean -/

theorem ev_updSpace (h : Ev m s t)
    (hm : 0x2000 ||| m = m) : Ev m s (State.updSpace t) := by
  unfold State.updSpace
  repeat' (first | with_reducible assumption | exact sub hm (by decide) | with_reducible exact fun hw => hw |
                    with_reducible exact fun hw => ⟨hw.1, hw.2, hw.3⟩ | with_reducible apply ev_updMd | (intro u a hu) |
                    (intro u hu) | split | dsimp only | (intro x))

theorem ev_takeVictim (h : Ev m s t) (a1 : Sb) (a2 : Nat)
    (hm : 0x6000 ||| m = m) : Ev m s (State.takeVictim t a1 a2) := by
  unfold State.takeVictim
  repeat' (first | with_reducible assumption | exact sub hm (by decide) | with_reducible exact fun hw => hw |
                    with_reducible exact fun hw => ⟨hw.1, hw.2, hw.3⟩ | with_reducible apply ev_setSbSt |
                    with_reducible apply ev_updSb | with_reducible apply ev_updMd | with_reducible apply ev_addRead |
                    (refine ev_addRead_eq ?_ _ _ _ _ _ _ _ (by with_reducible assumption) ?_) | with_reducible apply ev_each |
                    (intro u a hu) | (intro u hu) | split | dsimp only | (intro x))

theorem ev_execGcVictimSelect (h : Ev m s t) (a0 : Nat) (u : State) (hu : execGcVictimSelect a0 t = .next u)
    (hm : 0x6000 ||| m = m) : Ev m s u := by
  unfold execGcVictimSelect at hu; injection hu with hu; subst hu
  repeat' (first | with_reducible assumption | exact sub hm (by decide) | with_reducible apply ev_updSpace |
                    with_reducible apply ev_takeVictim | (intro u a hu) | (intro u hu) | split | dsimp only | (intro x))

theorem ev_dropSbs (h : Ev m s t)
    (hm : 0x2000 ||| m = m) : Ev m s (State.dropSbs t) := by
  unfold State.dropSbs
  repeat' (first | with_reducible assumption | exact sub hm (by decide) | with_reducible exact fun hw => hw |
                    with_reducible exact fun hw => wf_filter _ hw | with_reducible exact fun hw => ⟨hw.1, hw.2, hw.3⟩ |
                    (intro hw; constructor <;>
                     with_reducible first | exact hw.1 | exact hw.2 | exact hw.3 | exact wf_spSet _ _ hw.1 | exact wf_spSet _ _ hw.2
                                          | exact wf_spSet _ _ hw.3 | exact wf_filter _ hw.1 | exact wf_filter _ hw.3
                                          | exact wf_spMap _ hw.3 | exact wf_nil _) |
                    with_reducible apply ev_updMd | (intro u a hu) | (intro u hu) | split | dsimp only | (intro x))

theorem ev_eraseVictim (h : Ev m s t) (a1 : Sb)
    (hm : 0x7c22 ||| m = m) : Ev m s (State.eraseVictim t a1) := by
  unfold State.eraseVictim
  have hr : ∀ u, a1.members.foldl (fun (a : Option State) m => a.bind (fun s =>
      if m.lack = 3 then some (s.retireBlock m.die m.blocks 4).postCrit
      else if m.lack = 1 ∨ (s.die m.die).st ≠ 1 then some s
      else s.eraseIntent m.die m.blocks)) (some t) = some u → Ev m s u := by
    refine ev_foldl_opt _ _ _ (fun u hu => by cases hu; exact h) (fun o m ho u hu => ?_)
    obtain ⟨x, hx, hy⟩ := Option.bind_eq_some_iff.1 hu
    have h1 := ho x hx
    split at hy
    · cases hy; exact ev_postCrit (ev_retireBlock h1 _ _ _ (sub hm (by decide))) (sub hm (by decide))
    · split at hy
      · cases hy; exact h1
      · exact ev_eraseIntent h1 _ _ _ hy (sub hm (by decide))
  dsimp only
  split
  · split
    · exact hr _ (by assumption)
    · exact ev_dropSbs (ev_setSbSt (hr _ (by assumption)) _ _ (sub hm (by decide))) (sub hm (by decide))
  · exact h

theorem ev_execVictimEraseStart (h : Ev m s t) (a0 : Nat) (u : State) (hu : execVictimEraseStart a0 t = .next u)
    (hm : 0x7c22 ||| m = m) : Ev m s u := by
  unfold execVictimEraseStart at hu; injection hu with hu; subst hu
  repeat' (first | with_reducible assumption | exact sub hm (by decide) | with_reducible apply ev_eraseVictim |
                    (intro u a hu) | (intro u hu) | split | dsimp only | (intro x))

theorem ev_updErase (h : Ev m s t) (a1 : Erase) (a2 : EraseSt)
    (hm : 0x2000 ||| m = m) : Ev m s (State.updErase t a1 a2) := by
  unfold State.updErase
  repeat' (first | with_reducible assumption | exact sub hm (by decide) | with_reducible exact fun hw => hw |
                    with_reducible exact fun hw => ⟨hw.1, hw.2, hw.3⟩ | with_reducible apply ev_updMd | (intro u a hu) |
                    (intro u hu) | split | dsimp only | (intro x))

theorem ev_addErase (h : Ev m s t) (a1 : Erase) (a2 : OpKind)
    (hm : 0x2000 ||| m = m) : Ev m s (State.addErase t a1 a2) := by
  unfold State.addErase
  repeat' (first | with_reducible assumption | exact sub hm (by decide) | with_reducible apply ev_addOp |
                    (refine ev_addOp_eq ?_ _ _ _ (by with_reducible assumption) ?_) | (intro u a hu) | (intro u hu) | split |
                    dsimp only | (intro x))

theorem ev_execEraseIntentWritten (h : Ev m s t) (a0 : Nat) (a1 : Nat) (u : State) (hu : execEraseIntentWritten a0 a1 t =
    .next u)
    (hm : 0x6002 ||| m = m) : Ev m s u := by
  unfold execEraseIntentWritten at hu; injection hu with hu; subst hu
  repeat' (first | with_reducible assumption | exact sub hm (by decide) |
                    (refine ev_beginRec ?_ _ _ _ _ (by with_reducible assumption) ?_) | with_reducible apply ev_setDieBlk |
                    with_reducible apply ev_endRec | with_reducible apply ev_setSbSt | with_reducible apply ev_addErase |
                    with_reducible apply ev_updErase | (intro u a hu) | (intro u hu) | split | dsimp only | (intro x))

theorem ev_wipe (h : Ev m s t) (a1 : Nat) (a2 : List Nat)
    (hm : 0x2000 ||| m = m) : Ev m s (State.wipe t a1 a2) := by
  unfold State.wipe
  repeat' (first | with_reducible assumption | exact sub hm (by decide) | with_reducible exact fun hw => hw |
                    with_reducible exact fun hw => wf_filter _ hw | with_reducible exact fun hw => ⟨hw.1, hw.2, hw.3⟩ |
                    (intro hw; constructor <;>
                     with_reducible first | exact hw.1 | exact hw.2 | exact hw.3 | exact wf_spSet _ _ hw.1 | exact wf_spSet _ _ hw.2
                                          | exact wf_spSet _ _ hw.3 | exact wf_filter _ hw.1 | exact wf_filter _ hw.3
                                          | exact wf_spMap _ hw.3 | exact wf_nil _) |
                    with_reducible apply ev_updMd | (intro u a hu) | (intro u hu) | split | dsimp only | (intro x))

theorem ev_execEraseComplete (h : Ev m s t) (a0 : Nat) (a1 : Nat) (a2 : Bool) (u : State) (hu : execEraseComplete a0 a1 a2 t
    = .next u)
    (hm : 0x237d22 ||| m = m) : Ev m s u := by
  unfold execEraseComplete at hu; injection hu with hu; subst hu
  repeat' (first | with_reducible assumption | exact sub hm (by decide) | with_reducible apply ev_setDie |
                    with_reducible apply ev_dropOp | with_reducible apply ev_addErase | with_reducible apply ev_updErase |
                    with_reducible apply ev_wipe | with_reducible apply ev_eraseFailed | (intro u a hu) | (intro u hu) |
                    split | dsimp only | (intro x))

theorem ev_execErasedMarginReadResult (h : Ev m s t) (a0 : Nat) (a1 : Nat) (a2 : List Nat) (u : State) (hu :
    execErasedMarginReadResult a0 a1 a2 t = .next u)
    (hm : 0x237d22 ||| m = m) : Ev m s u := by
  unfold execErasedMarginReadResult at hu; injection hu with hu; subst hu
  repeat' (first | with_reducible assumption | exact sub hm (by decide) | with_reducible apply ev_setDie |
                    with_reducible apply ev_dropOp | (refine ev_beginRec ?_ _ _ _ _ (by with_reducible assumption) ?_) |
                    with_reducible apply ev_updErase | with_reducible apply ev_eraseFailed | (intro u a hu) | (intro u hu) |
                    split | dsimp only | (intro x))

theorem ev_slcWorn (h : Ev m s t) (a1 : Nat) (a2 : List Nat)
    (hm : 0x2022 ||| m = m) : Ev m s (State.slcWorn t a1 a2) := by
  unfold State.slcWorn
  repeat' (first | with_reducible assumption | exact sub hm (by decide) | with_reducible apply ev_retireBlock |
                    with_reducible apply ev_setSlc | with_reducible apply ev_setDieBlk | (intro u a hu) | (intro u hu) |
                    split | dsimp only | (intro x))

theorem ev_execEraseDoneWritten (h : Ev m s t) (a0 : Nat) (a1 : Nat) (u : State) (hu : execEraseDoneWritten a0 a1 t = .next u)
    (hm : 0x237d22 ||| m = m) : Ev m s u := by
  unfold execEraseDoneWritten at hu; injection hu with hu; subst hu
  repeat' (first | with_reducible assumption | exact sub hm (by decide) | with_reducible exact fun hw => hw |
                    with_reducible exact fun hw => wf_filter _ hw | with_reducible exact fun hw => ⟨hw.1, hw.2, hw.3⟩ |
                    (intro hw; constructor <;>
                     with_reducible first | exact hw.1 | exact hw.2 | exact hw.3 | exact wf_spSet _ _ hw.1 | exact wf_spSet _ _ hw.2
                                          | exact wf_spSet _ _ hw.3 | exact wf_filter _ hw.1 | exact wf_filter _ hw.3
                                          | exact wf_spMap _ hw.3 | exact wf_nil _) |
                    (refine ev_beginRec ?_ _ _ _ _ (by with_reducible assumption) ?_) | with_reducible apply ev_setLive |
                    with_reducible apply ev_endRec | with_reducible apply ev_setDieBlk | with_reducible apply ev_updMd |
                    with_reducible apply ev_setFlushUsed | with_reducible apply ev_setRec |
                    with_reducible apply ev_keyErased | with_reducible apply ev_goKeys | with_reducible apply ev_updSpace |
                    with_reducible apply ev_dropSbs | with_reducible apply ev_passErased | with_reducible apply ev_slcWorn |
                    (intro u a hu) | (intro u hu) | split | dsimp only | (intro x))

theorem ev_beginRefresh (h : Ev m s t)
    (hm : 0x2002 ||| m = m) : Ev m s (State.beginRefresh t) := by
  unfold State.beginRefresh
  repeat' (first | with_reducible assumption | exact sub hm (by decide) | with_reducible exact fun hw => hw |
                    with_reducible exact fun hw => wf_filter _ hw | with_reducible exact fun hw => ⟨hw.1, hw.2, hw.3⟩ |
                    (intro hw; constructor <;>
                     with_reducible first | exact hw.1 | exact hw.2 | exact hw.3 | exact wf_spSet _ _ hw.1 | exact wf_spSet _ _ hw.2
                                          | exact wf_spSet _ _ hw.3 | exact wf_filter _ hw.1 | exact wf_filter _ hw.3
                                          | exact wf_spMap _ hw.3 | exact wf_nil _) |
                    with_reducible apply ev_updMd | with_reducible apply ev_count | with_reducible apply ev_addRead |
                    (refine ev_addRead_eq ?_ _ _ _ _ _ _ _ (by with_reducible assumption) ?_) | with_reducible apply ev_each |
                    (intro u a hu) | (intro u hu) | split | dsimp only | (intro x))

theorem ev_execGcPlanShift (h : Ev m s t) (a0 : Nat) (a1 : List (Nat × Nat)) (u : State) (hu : execGcPlanShift a0 a1 t =
    .next u)
    (hm : 0x202 ||| m = m) : Ev m s u := by
  unfold execGcPlanShift at hu; injection hu with hu; subst hu
  repeat' (first | with_reducible assumption | exact sub hm (by decide) | with_reducible exact fun hw => wf_filter _ hw |
                    with_reducible apply ev_setReg | with_reducible apply ev_updSched | with_reducible apply ev_wr |
                    with_reducible apply ev_each | (intro u a hu) | (intro u hu) | split | dsimp only | (intro x))

theorem ev_execWearBudgetCheck (h : Ev m s t)  (u : State) (hu : execWearBudgetCheck t = .next u)
    (hm : 0x2022 ||| m = m) : Ev m s u := by
  unfold execWearBudgetCheck at hu; injection hu with hu; subst hu
  repeat' (first | with_reducible assumption | exact sub hm (by decide) | with_reducible exact fun hw => hw |
                    with_reducible exact fun hw => ⟨hw.1, hw.2, hw.3⟩ | with_reducible apply ev_updMd |
                    with_reducible apply ev_aev | with_reducible apply ev_wr | (intro u a hu) | (intro u hu) | split |
                    dsimp only | (intro x))

theorem ev_execShortZqCalibration (h : Ev m s t) (a0 : Nat) (u : State) (hu : execShortZqCalibration a0 t = .next u)
    (hm : 0x2000 ||| m = m) : Ev m s u := by
  unfold execShortZqCalibration at hu; injection hu with hu; subst hu
  repeat' (first | with_reducible assumption | exact sub hm (by decide) | with_reducible exact fun hw => hw |
                    with_reducible exact fun hw => ⟨hw.1, hw.2, hw.3⟩ | with_reducible apply ev_updMd | (intro u a hu) |
                    (intro u hu) | split | dsimp only | (intro x))

/-! ### Choice.lean -/

theorem ev_setClaim (h : Ev m s t) (a1 : Nat) (a2 : Nat)
    (hm : 0x10000 ||| m = m) : Ev m s (State.setClaim t a1 a2) := by
  unfold State.setClaim
  repeat' (first | with_reducible assumption | exact sub hm (by decide) | with_reducible exact fun hw => hw |
                    with_reducible exact fun hw => wf_spSet _ _ hw | with_reducible exact fun hw => wf_spSetRun _ _ hw |
                    with_reducible exact fun hw => ⟨hw.1, hw.2, hw.3⟩ |
                    (intro hw; constructor <;>
                     with_reducible first | exact hw.1 | exact hw.2 | exact hw.3 | exact wf_spSet _ _ hw.1 | exact wf_spSet _ _ hw.2
                                          | exact wf_spSet _ _ hw.3 | exact wf_filter _ hw.1 | exact wf_nil _) |
                    with_reducible apply ev_updRg | (intro u a hu) | (intro u hu) | split | dsimp only | (intro x))

theorem ev_setCartClaim (h : Ev m s t) (a1 : Nat) (a2 : Nat)
    (hm : 0x10000 ||| m = m) : Ev m s (State.setCartClaim t a1 a2) := by
  unfold State.setCartClaim
  repeat' (first | with_reducible assumption | exact sub hm (by decide) | with_reducible exact fun hw => hw |
                    with_reducible exact fun hw => wf_spSet _ _ hw | with_reducible exact fun hw => wf_spSetRun _ _ hw |
                    with_reducible exact fun hw => ⟨hw.1, hw.2, hw.3⟩ |
                    (intro hw; constructor <;>
                     with_reducible first | exact hw.1 | exact hw.2 | exact hw.3 | exact wf_spSet _ _ hw.1 | exact wf_spSet _ _ hw.2
                                          | exact wf_spSet _ _ hw.3 | exact wf_filter _ hw.1 | exact wf_nil _) |
                    with_reducible apply ev_updRg | (intro u a hu) | (intro u hu) | split | dsimp only | (intro x))

theorem ev_choose (h : Ev m s t) (a1 : Op) (a2 : Nat)
    (hm : 0x2000 ||| m = m) : Ev m s (State.choose t a1 a2) := by
  unfold State.choose
  repeat' (first | with_reducible assumption | exact sub hm (by decide) | with_reducible apply ev_updOp | (intro u a hu) |
                    (intro u hu) | split | dsimp only | (intro x))

theorem ev_noteTier (h : Ev m s t) (a1 : Nat) (a2 : Bool)
    (hm : 0x10000 ||| m = m) : Ev m s (State.noteTier t a1 a2) := by
  unfold State.noteTier
  repeat' (first | with_reducible assumption | exact sub hm (by decide) | with_reducible exact fun hw => hw |
                    with_reducible exact fun hw => ⟨hw.1, hw.2, hw.3⟩ | with_reducible apply ev_updRg | (intro u a hu) |
                    (intro u hu) | split | dsimp only | (intro x))

theorem ev_spendClaim (h : Ev m s t) (k b n : Nat)
    (hm : 0x12000 ||| m = m) : Ev m s (t.spendClaim k b n).s := by
  unfold State.spendClaim
  repeat' (first | with_reducible assumption | exact sub hm (by decide) | with_reducible exact fun hw => hw |
                    with_reducible exact fun hw => ⟨hw.1, hw.2, hw.3⟩ | with_reducible apply ev_setClaim |
                    with_reducible apply ev_choose | split | dsimp only)

theorem ev_spendTry {a : Spend} (h : Ev m s a.s) (k b tier d : Nat)
    (hm : 0x12000 ||| m = m) : Ev m s (Spend.try k b tier a d).s := by
  have hn := fun i => ev_noteTier h tier i (sub hm (by decide))
  unfold Spend.try
  cases a.s.candidate d b with
  | none => exact h
  | some c =>
    obtain ⟨o, step⟩ := c
    have hc := ev_choose h o step (sub hm (by decide))
    dsimp only
    split
    · exact h
    split
    · exact hc
    split
    all_goals
      split
      · exact hn _
      split
      · exact ev_setCartClaim (hn _) _ _ (sub hm (by decide))
      split
      · dsimp only
        split
        · exact ev_updOp (ev_setClaim (hn _) _ _ (sub hm (by decide))) _ _ (sub hm (by decide))
        · exact hn _
      · exact ev_noteTier hc _ _ (sub hm (by decide))

theorem ev_chooseSlice (h : Ev m s t) (a1 : Nat)
    (hm : 0x12000 ||| m = m) : Ev m s (State.chooseSlice t a1) := by
  have h2 : ∀ (k b tier : Nat) (ds : List Nat) (a : Spend), Ev m s a.s → Ev m s (ds.foldl (Spend.try k b tier) a).s := by
    intro k b tier ds
    induction ds with
    | nil => exact fun a ha => ha
    | cons d ds ih => exact fun a ha => ih _ (ev_spendTry ha k b tier d hm)
  have h3 : ∀ (k b : Nat) (ds ts : List Nat) (a : Spend), Ev m s a.s →
      Ev m s (ts.foldl (fun a tier => ds.foldl (Spend.try k b tier) a) a).s := by
    intro k b ds ts
    induction ts with
    | nil => exact fun a ha => ha
    | cons x ts ih => exact fun a ha => ih _ (h2 k b x ds a ha)
  unfold State.chooseSlice
  refine ev_each (ev_updRg (h3 _ _ _ _ _ (ev_spendClaim h _ _ _ hm)) _ (fun hw => ⟨hw.1, hw.2, hw.3⟩) (sub hm (by decide))) _ _ (fun u a hu
      => ?_)
  split
  · exact ev_setCartClaim hu _ _ (sub hm (by decide))
  · exact hu

theorem ev_chooseQuanta (h : Ev m s t) (a1 : Nat)
    (hm : 0x2000 ||| m = m) : Ev m s (State.chooseQuanta t a1) := by
  unfold State.chooseQuanta
  repeat' (first | with_reducible assumption | exact sub hm (by decide) | with_reducible exact fun hw => hw |
                    with_reducible exact fun hw => wf_filter _ hw | with_reducible exact fun hw => ⟨hw.1, hw.2, hw.3⟩ |
                    (intro hw; constructor <;>
                     with_reducible first | exact hw.1 | exact hw.2 | exact hw.3 | exact wf_spSet _ _ hw.1 | exact wf_spSet _ _ hw.2
                                          | exact wf_spSet _ _ hw.3 | exact wf_filter _ hw.1 | exact wf_filter _ hw.3
                                          | exact wf_spMap _ hw.3 | exact wf_nil _) |
                    with_reducible apply ev_updMd | with_reducible apply ev_updOp | with_reducible apply ev_foldl |
                    with_reducible apply ev_foldl_snd | with_reducible apply ev_foldl_fst | (intro u a hu) | (intro u hu) |
                    split | dsimp only | (intro x))

theorem ev_execSlotChoiceWindow (h : Ev m s t)  (u : State) (hu : execSlotChoiceWindow t = .next u)
    (hm : 0x12000 ||| m = m) : Ev m s u := by
  unfold execSlotChoiceWindow at hu; injection hu with hu; subst hu
  repeat' (first | with_reducible assumption | exact sub hm (by decide) | with_reducible exact fun hw => hw |
                    with_reducible exact fun hw => ⟨hw.1, hw.2, hw.3⟩ | with_reducible apply ev_updRg |
                    with_reducible apply ev_chooseSlice | with_reducible apply ev_chooseQuanta |
                    with_reducible apply ev_each | (intro u a hu) | (intro u hu) | split | dsimp only | (intro x))

/-! ### Sequencer.lean -/

theorem ev_noteLost (h : Ev m s t) (a1 : Ver)
    (hm : 0x5c02 ||| m = m) : Ev m s (State.noteLost t a1) := by
  unfold State.noteLost
  repeat' (first | with_reducible assumption | exact sub hm (by decide) | with_reducible apply ev_addC1h |
                    with_reducible apply ev_count | (intro u a hu) | (intro u hu) | split | dsimp only | (intro x))

theorem ev_fillUnit (h : Ev m s t) (a1 : Op)
    (hm : 0x7c02 ||| m = m) : Ev m s (State.fillUnit t a1) := by
  unfold State.fillUnit
  repeat' (first | with_reducible assumption | exact sub hm (by decide) | with_reducible exact fun hw => hw |
                    with_reducible exact fun hw => wf_filter _ hw | with_reducible apply ev_count |
                    with_reducible apply ev_noteLost | with_reducible apply ev_updTr | with_reducible apply ev_updOp |
                    with_reducible apply ev_each | (intro u a hu) | (intro u hu) | split | dsimp only | (intro x))

theorem ev_noteRead (h : Ev m s t) (a1 : Op) (a2 : Nat) (a3 : Bool)
    (hm : 0xa00 ||| m = m) : Ev m s (State.noteRead t a1 a2 a3) := by
  unfold State.noteRead
  repeat' (first | with_reducible assumption | exact sub hm (by decide) | with_reducible exact fun hw => wf_spSet _ _ hw |
                    with_reducible exact fun hw => wf_spSetRun _ _ hw | with_reducible apply ev_updSched |
                    with_reducible apply ev_updCtx | with_reducible apply ev_when | (intro u a hu) | (intro u hu) | split |
                    dsimp only | (intro x))

theorem ev_charge (h : Ev m s t) (a1 : Op)
    (hm : 0xa00 ||| m = m) : Ev m s (State.charge t a1) := by
  unfold State.charge
  repeat' (first | with_reducible assumption | exact sub hm (by decide) | with_reducible apply ev_setCredits |
                    with_reducible apply ev_noteRead | (intro u a hu) | (intro u hu) | split | dsimp only | (intro x))

theorem ev_issueOp (h : Ev m s t) (a1 : Op)
    (hm : 0x17e02 ||| m = m) : Ev m s (State.issueOp t a1) := by
  unfold State.issueOp
  repeat' (first | with_reducible assumption | exact sub hm (by decide) | with_reducible exact fun hw => hw |
                    with_reducible exact fun hw => ⟨hw.1, hw.2, hw.3⟩ | with_reducible exact fun hw => ⟨hw.1, hw.2, hw.3⟩ |
                    with_reducible apply ev_charge | with_reducible apply ev_updRg | with_reducible apply ev_updOp |
                    with_reducible apply ev_fillUnit | with_reducible apply ev_updMd | with_reducible apply ev_updSb |
                    with_reducible apply ev_updErase | (intro u a hu) | (intro u hu) | split | dsimp only | (intro x))

theorem ev_resume (h : Ev m s t) (a1 : Op)
    (hm : 0x2000 ||| m = m) : Ev m s (State.resume t a1) := by
  unfold State.resume
  repeat' (first | with_reducible assumption | exact sub hm (by decide) | with_reducible exact fun hw => hw |
                    with_reducible exact fun hw => ⟨hw.1, hw.2, hw.3⟩ | with_reducible apply ev_updMd |
                    with_reducible apply ev_updOp | (intro u a hu) | (intro u hu) | split | dsimp only | (intro x))

theorem ev_dieSlot (h : Ev m s t) (a1 : Nat)
    (hm : 0x17e02 ||| m = m) : Ev m s (State.dieSlot t a1) := by
  unfold State.dieSlot
  repeat' (first | with_reducible assumption | exact sub hm (by decide) | with_reducible apply ev_issueOp |
                    with_reducible apply ev_resume | with_reducible apply ev_updOp | (intro u a hu) | (intro u hu) | split |
                    dsimp only | (intro x))

theorem ev_execSuspendAcknowledged (h : Ev m s t) (a0 : Nat) (u : State) (hu : execSuspendAcknowledged a0 t = .next u)
    (hm : 0x2002 ||| m = m) : Ev m s u := by
  unfold execSuspendAcknowledged at hu; injection hu with hu; subst hu
  repeat' (first | with_reducible assumption | exact sub hm (by decide) | with_reducible apply ev_count |
                    with_reducible apply ev_updOp | (intro u a hu) | (intro u hu) | split | dsimp only | (intro x))

theorem ev_settleAbsent (h : Ev m s t) (a1 : Op)
    (hm : 0x237d22 ||| m = m) : Ev m s (State.settleAbsent t a1) := by
  unfold State.settleAbsent
  repeat' (first | with_reducible assumption | exact sub hm (by decide) | with_reducible exact fun hw => hw |
                    with_reducible exact fun hw => ⟨hw.1, hw.2, hw.3⟩ | with_reducible apply ev_dropOp |
                    with_reducible apply ev_updMd | with_reducible apply ev_readDone | with_reducible apply ev_failRead |
                    (refine ev_failRead_eq ?_ _ _ _ (by with_reducible assumption) ?_) | with_reducible apply ev_updOp |
                    with_reducible apply ev_addFlush | (intro u a hu) | (intro u hu) | split | dsimp only | (intro x))

theorem ev_settleDies (h : Ev m s t)
    (hm : 0x237d22 ||| m = m) : Ev m s (State.settleDies t) := by
  unfold State.settleDies
  repeat' (first | with_reducible assumption | exact sub hm (by decide) | with_reducible apply ev_settleAbsent |
                    with_reducible apply ev_each | (intro u a hu) | (intro u hu) | split | dsimp only | (intro x))

theorem ev_formPatrol (h : Ev m s t)
    (hm : 0x2000 ||| m = m) : Ev m s (State.formPatrol t) := by
  unfold State.formPatrol
  repeat' (first | with_reducible assumption | exact sub hm (by decide) | with_reducible exact fun hw => hw |
                    with_reducible exact fun hw => ⟨hw.1, hw.2, hw.3⟩ | with_reducible apply ev_updMd |
                    with_reducible apply ev_addRead |
                    (refine ev_addRead_eq ?_ _ _ _ _ _ _ _ (by with_reducible assumption) ?_) | (intro u a hu) |
                    (intro u hu) | split | dsimp only | (intro x))

theorem ev_formScrub (h : Ev m s t) (a0 : Nat)
    (hm : 0x223d22 ||| m = m) : Ev m s (State.formScrub a0 t) := by
  induction a0 generalizing t with
  | zero => exact h
  | succ n ih =>
    unfold State.formScrub
    repeat' (first | with_reducible assumption | exact sub hm (by decide) | with_reducible exact fun hw => hw |
                      with_reducible exact fun hw => ⟨hw.1, hw.2, hw.3⟩ | with_reducible apply ev_count |
                      with_reducible apply ev_updMd | with_reducible apply ev_addRead |
                      (refine ev_addRead_eq ?_ _ _ _ _ _ _ _ (by with_reducible assumption) ?_) |
                      with_reducible apply ev_lookedUp | with_reducible apply ih | (intro u a hu) | (intro u hu) | split |
                      dsimp only | (intro x))

theorem ev_formCalib (h : Ev m s t) (a1 : Nat)
    (hm : 0x12000 ||| m = m) : Ev m s (State.formCalib t a1) := by
  unfold State.formCalib
  repeat' (first | with_reducible assumption | exact sub hm (by decide) | with_reducible exact fun hw => hw |
                    with_reducible exact fun hw => wf_spSet _ _ hw | with_reducible exact fun hw => wf_spSetRun _ _ hw |
                    with_reducible exact fun hw => ⟨hw.1, hw.2, hw.3⟩ |
                    (intro hw; constructor <;>
                     with_reducible first | exact hw.1 | exact hw.2 | exact hw.3 | exact wf_spSet _ _ hw.1 | exact wf_spSet _ _ hw.2
                                          | exact wf_spSet _ _ hw.3 | exact wf_filter _ hw.1 | exact wf_nil _) |
                    with_reducible apply ev_updRg | with_reducible apply ev_addRead |
                    (refine ev_addRead_eq ?_ _ _ _ _ _ _ _ (by with_reducible assumption) ?_) | (intro u a hu) |
                    (intro u hu) | split | dsimp only | (intro x))

theorem ev_eraseReserve (h : Ev m s t)
    (hm : 0x6000 ||| m = m) : Ev m s (State.eraseReserve t) := by
  unfold State.eraseReserve
  repeat' (first | with_reducible assumption | exact sub hm (by decide) | with_reducible exact fun hw => wf_filter _ hw |
                    (refine ev_eraseIntent ?_ _ _ _ (by with_reducible assumption) ?_) | with_reducible apply ev_each |
                    with_reducible apply ev_getD | (intro u a hu) | (intro u hu) | split | dsimp only | (intro x))

theorem ev_formFlush (h : Ev m s t)
    (hm : 0x6000 ||| m = m) : Ev m s (State.formFlush t) := by
  unfold State.formFlush
  repeat' (first | with_reducible assumption | exact sub hm (by decide) | with_reducible exact fun hw => wf_filter _ hw |
                    with_reducible apply ev_addFlush | with_reducible apply ev_each | (intro u a hu) | (intro u hu) | split |
                    dsimp only | (intro x))

theorem ev_formLossFlush (h : Ev m s t)
    (hm : 0x6000 ||| m = m) : Ev m s (State.formLossFlush t) := by
  unfold State.formLossFlush
  repeat' (first | with_reducible assumption | exact sub hm (by decide) | with_reducible exact fun hw => wf_filter _ hw |
                    with_reducible apply ev_addFlush | (intro u a hu) | (intro u hu) | split | dsimp only | (intro x))

theorem ev_formErases (h : Ev m s t)
    (hm : 0x6000 ||| m = m) : Ev m s (State.formErases t) := by
  unfold State.formErases
  repeat' (first | with_reducible assumption | exact sub hm (by decide) | with_reducible apply ev_setDie |
                    (refine ev_eraseIntent ?_ _ _ _ (by with_reducible assumption) ?_) | with_reducible apply ev_each |
                    with_reducible apply ev_getD | (intro u a hu) | (intro u hu) | split | dsimp only | (intro x))

theorem ev_retryReads (h : Ev m s t)
    (hm : 0x3800 ||| m = m) : Ev m s (State.retryReads t) := by
  unfold State.retryReads
  repeat' (first | with_reducible assumption | exact sub hm (by decide) | with_reducible exact fun hw => wf_filter _ hw |
                    with_reducible apply ev_pumpReads | with_reducible apply ev_each | (intro u a hu) | (intro u hu) | split |
                    dsimp only | (intro x))

theorem ev_moveQuanta (h : Ev m s t)
    (hm : 0x2000 ||| m = m) : Ev m s (State.moveQuanta t) := by
  unfold State.moveQuanta
  repeat' (first | with_reducible assumption | exact sub hm (by decide) | with_reducible exact fun hw => hw |
                    with_reducible exact fun hw => ⟨hw.1, hw.2, hw.3⟩ | with_reducible apply ev_updMd | (intro u a hu) |
                    (intro u hu) | split | dsimp only | (intro x))

theorem ev_formOps (h : Ev m s t)
    (hm : 0x237d22 ||| m = m) : Ev m s (State.formOps t) := by
  unfold State.formOps
  repeat' (first | with_reducible assumption | exact sub hm (by decide) | with_reducible exact fun hw => wf_filter _ hw |
                    with_reducible apply ev_eraseReserve | with_reducible apply ev_formFlush |
                    with_reducible apply ev_formHosts | with_reducible apply ev_pumpTab | with_reducible apply ev_retryReads |
                    with_reducible apply ev_formLossFlush | with_reducible apply ev_finishStripe |
                    with_reducible apply ev_formCopies | with_reducible apply ev_formScrub |
                    with_reducible apply ev_formPatrol | with_reducible apply ev_beginRefresh |
                    with_reducible apply ev_formErases | with_reducible apply ev_formCalib | with_reducible apply ev_each |
                    (intro u a hu) | (intro u hu) | split | dsimp only | (intro x))

theorem ev_execCommandWindow (h : Ev m s t)  (u : State) (hu : execCommandWindow t = .next u)
    (hm : 0x237f23 ||| m = m) : Ev m s u := by
  unfold execCommandWindow at hu; injection hu with hu; subst hu
  repeat' (first | with_reducible assumption | exact sub hm (by decide) | with_reducible exact fun hw => hw |
                    with_reducible apply ev_settleOpen | with_reducible apply ev_settleDies |
                    with_reducible apply ev_unchoose | with_reducible apply ev_moveQuanta | with_reducible apply ev_dieSlot |
                    with_reducible apply ev_formLossFlush | with_reducible apply ev_formOps | with_reducible apply ev_each |
                    (intro u a hu) | (intro u hu) | split | dsimp only | (intro x) | with_reducible apply ev_mk_time)

/-! ### Slots.lean -/

theorem ev_updSlot (h : Ev m s t) (a1 : Nat) (a2 : Slot → Slot)
    (hm : 0x8000 ||| m = m) : Ev m s (State.updSlot t a1 a2) := by
  unfold State.updSlot
  repeat' (first | with_reducible assumption | exact sub hm (by decide) | with_reducible exact fun hw => hw | (intro u a hu) |
                    (intro u hu) | split | dsimp only | (intro x) | with_reducible apply ev_mk_slots)

theorem ev_execCartridgeInsertion (h : Ev m s t) (a0 : Nat) (u : State) (hu : execCartridgeInsertion a0 t = .next u)
    (hm : 0x208000 ||| m = m) : Ev m s u := by
  unfold execCartridgeInsertion at hu; injection hu with hu; subst hu
  repeat' (first | with_reducible assumption | exact sub hm (by decide) | with_reducible apply ev_updSlot |
                    with_reducible apply ev_testMeets | (intro u a hu) | (intro u hu) | split | dsimp only | (intro x))

theorem ev_powerSlot (h : Ev m s t) (a1 : Nat)
    (hm : 0x8002 ||| m = m) : Ev m s (State.powerSlot t a1) := by
  unfold State.powerSlot
  repeat' (first | with_reducible assumption | exact sub hm (by decide) | with_reducible apply ev_updSlot |
                    with_reducible apply ev_setDom | with_reducible apply ev_when | (intro u a hu) | (intro u hu) | split |
                    dsimp only | (intro x))

theorem ev_execSlotPresenceDebounce (h : Ev m s t) (a0 : Nat) (u : State) (hu : execSlotPresenceDebounce a0 t = .next u)
    (hm : 0x8002 ||| m = m) : Ev m s u := by
  unfold execSlotPresenceDebounce at hu; injection hu with hu; subst hu
  repeat' (first | with_reducible assumption | exact sub hm (by decide) | with_reducible apply ev_count |
                    with_reducible apply ev_updSlot | with_reducible apply ev_powerSlot | (intro u a hu) | (intro u hu) |
                    split | dsimp only | (intro x))

theorem ev_removalEvent (h : Ev m s t) (a1 : Nat) (a2 : Nat) (a3 : Nat)
    (hm : 0x22 ||| m = m) : Ev m s (State.removalEvent t a1 a2 a3) := by
  unfold State.removalEvent
  repeat' (first | with_reducible assumption | exact sub hm (by decide) | with_reducible apply ev_hev | (intro u a hu) |
                    (intro u hu) | split | dsimp only | (intro x))

theorem ev_refuseRemoval (h : Ev m s t) (a1 : Nat) (a2 : Nat)
    (hm : 0x8022 ||| m = m) : Ev m s (State.refuseRemoval t a1 a2) := by
  unfold State.refuseRemoval
  repeat' (first | with_reducible assumption | exact sub hm (by decide) | with_reducible apply ev_removalEvent |
                    with_reducible apply ev_updSlot | (intro u a hu) | (intro u hu) | split | dsimp only | (intro x))

theorem ev_beginRemoval (h : Ev m s t) (a1 : Nat)
    (hm : 0x8022 ||| m = m) : Ev m s (State.beginRemoval t a1) := by
  unfold State.beginRemoval
  repeat' (first | with_reducible assumption | exact sub hm (by decide) | with_reducible apply ev_updSlot |
                    with_reducible apply ev_refuseRemoval | (intro u a hu) | (intro u hu) | split | dsimp only | (intro x))

theorem ev_cancelRemoval (h : Ev m s t) (a1 : Nat)
    (hm : 0x8022 ||| m = m) : Ev m s (State.cancelRemoval t a1) := by
  unfold State.cancelRemoval
  repeat' (first | with_reducible assumption | exact sub hm (by decide) | with_reducible apply ev_removalEvent |
                    with_reducible apply ev_updSlot | (intro u a hu) | (intro u hu) | split | dsimp only | (intro x))

theorem ev_autoSlots (h : Ev m s t)
    (hm : 0x8002 ||| m = m) : Ev m s (State.autoSlots t) := by
  unfold State.autoSlots
  repeat' (first | with_reducible assumption | exact sub hm (by decide) | with_reducible apply ev_powerSlot |
                    with_reducible apply ev_each | (intro u a hu) | (intro u hu) | split | dsimp only | (intro x))

theorem ev_press (h : Ev m s t) (a1 : Nat)
    (hm : 0x8022 ||| m = m) : Ev m s (State.press t a1) := by
  unfold State.press
  repeat' (first | with_reducible assumption | exact sub hm (by decide) | with_reducible apply ev_powerSlot |
                    with_reducible apply ev_beginRemoval | with_reducible apply ev_cancelRemoval | (intro u a hu) |
                    (intro u hu) | split | dsimp only | (intro x))

theorem ev_execButtonPress (h : Ev m s t) (a0 : Nat) (a1 : Bool) (u : State) (hu : execButtonPress a0 a1 t = .next u)
    (hm : 0x8022 ||| m = m) : Ev m s u := by
  unfold execButtonPress at hu; injection hu with hu; subst hu
  repeat' (first | with_reducible assumption | exact sub hm (by decide) | with_reducible apply ev_updSlot |
                    with_reducible apply ev_press | (intro u a hu) | (intro u hu) | split | dsimp only | (intro x))

theorem ev_reqOn (h : Ev m s t) (a1 : Nat)
    (hm : 0x8002 ||| m = m) : Ev m s (State.reqOn t a1) := by
  unfold State.reqOn
  repeat' (first | with_reducible assumption | exact sub hm (by decide) | with_reducible apply ev_powerSlot | (intro u a hu) |
                    (intro u hu) | split | dsimp only | (intro x))

theorem ev_execReqon (h : Ev m s t) (a0 : Nat) (a1 : Nat) (u : State) (hu : execReqon a0 a1 t = .next u)
    (hm : 0x8002 ||| m = m) : Ev m s u := by
  unfold execReqon at hu; injection hu with hu; subst hu
  repeat' (first | with_reducible assumption | exact sub hm (by decide) | with_reducible apply ev_reqOn | (intro u a hu) |
                    (intro u hu) | split | dsimp only | (intro x))

theorem ev_reqOff (h : Ev m s t) (a1 : Nat)
    (hm : 0x8022 ||| m = m) : Ev m s (State.reqOff t a1) := by
  unfold State.reqOff
  repeat' (first | with_reducible assumption | exact sub hm (by decide) | with_reducible apply ev_beginRemoval |
                    (intro u a hu) | (intro u hu) | split | dsimp only | (intro x))

theorem ev_execReqoff (h : Ev m s t) (a0 : Nat) (a1 : Nat) (u : State) (hu : execReqoff a0 a1 t = .next u)
    (hm : 0x8022 ||| m = m) : Ev m s u := by
  unfold execReqoff at hu; injection hu with hu; subst hu
  repeat' (first | with_reducible assumption | exact sub hm (by decide) | with_reducible apply ev_reqOff | (intro u a hu) |
                    (intro u hu) | split | dsimp only | (intro x))

theorem ev_execCancel (h : Ev m s t) (a0 : Nat) (a1 : Nat) (u : State) (hu : execCancel a0 a1 t = .next u)
    (hm : 0x8022 ||| m = m) : Ev m s u := by
  unfold execCancel at hu; injection hu with hu; subst hu
  repeat' (first | with_reducible assumption | exact sub hm (by decide) | with_reducible apply ev_cancelRemoval |
                    (intro u a hu) | (intro u hu) | split | dsimp only | (intro x))

theorem ev_execAbortWindowEnd (h : Ev m s t) (a0 : Nat) (u : State) (hu : execAbortWindowEnd a0 t = .next u)
    (hm : 0xf822 ||| m = m) : Ev m s u := by
  unfold execAbortWindowEnd at hu; injection hu with hu; subst hu
  repeat' (first | with_reducible assumption | exact sub hm (by decide) | with_reducible exact fun hw => wf_filter _ hw |
                    with_reducible apply ev_updSlot | with_reducible apply ev_closeEarly |
                    with_reducible apply ev_refuseRemoval | with_reducible apply ev_each | (intro u a hu) | (intro u hu) |
                    split | dsimp only | (intro x))

theorem ev_channelOff (h : Ev m s t) (a1 : Nat)
    (hm : 0x2 ||| m = m) : Ev m s (State.channelOff t a1) := by
  unfold State.channelOff
  repeat' (first | with_reducible assumption | exact sub hm (by decide) | with_reducible apply ev_wr | (intro u a hu) |
                    (intro u hu) | split | dsimp only | (intro x))

theorem ev_absentDies (h : Ev m s t) (a1 : Nat)
    (hm : 0x2002 ||| m = m) : Ev m s (State.absentDies t a1).2 := by
  unfold State.absentDies
  repeat' (first | with_reducible assumption | exact sub hm (by decide) | with_reducible exact fun hw => wf_filter _ hw |
                    with_reducible apply ev_setDie | with_reducible apply ev_noteLoss | with_reducible apply ev_markLack |
                    with_reducible apply ev_channelOff | with_reducible apply ev_setBudget | with_reducible apply ev_each |
                    (intro u a hu) | (intro u hu) | split | dsimp only | (intro x))

theorem ev_absentDies_eq  (h : Ev m s t) (a1 : Nat)  (v : (Nat × Nat)) (u : State)
    (e : State.absentDies t a1 = (v, u))
    (hm : 0x2002 ||| m = m) : Ev m s u := by
  have k := ev_absentDies h a1  hm; rw [e] at k; exact k

theorem ev_settleRemoved (h : Ev m s t) (a1 : Nat)
    (hm : 0x237d22 ||| m = m) : Ev m s (State.settleRemoved t a1) := by
  unfold State.settleRemoved
  repeat' (first | with_reducible assumption | exact sub hm (by decide) | with_reducible exact fun hw => hw |
                    with_reducible exact fun hw => wf_filter _ hw | with_reducible exact fun hw => ⟨hw.1, hw.2, hw.3⟩ |
                    (intro hw; constructor <;>
                     with_reducible first | exact hw.1 | exact hw.2 | exact hw.3 | exact wf_spSet _ _ hw.1 | exact wf_spSet _ _ hw.2
                                          | exact wf_spSet _ _ hw.3 | exact wf_filter _ hw.1 | exact wf_filter _ hw.3
                                          | exact wf_spMap _ hw.3 | exact wf_nil _) |
                    with_reducible apply ev_updMd | with_reducible apply ev_settleDies | with_reducible apply ev_settleOpen |
                    with_reducible apply ev_postCrit | with_reducible apply ev_recopy | with_reducible apply ev_each |
                    (intro u a hu) | (intro u hu) | split | dsimp only | (intro x))

theorem ev_execSlotPowerOff (h : Ev m s t) (a0 : Nat) (u : State) (hu : execSlotPowerOff a0 t = .next u)
    (hm : 0x23fd22 ||| m = m) : Ev m s u := by
  unfold execSlotPowerOff at hu; injection hu with hu; subst hu
  repeat' (first | with_reducible assumption | exact sub hm (by decide) | with_reducible apply ev_absentDies |
                    (refine ev_absentDies_eq ?_ _ _ _ (by with_reducible assumption) ?_) | with_reducible apply ev_updSlot |
                    with_reducible apply ev_removalEvent | with_reducible apply ev_settleRemoved | (intro u a hu) |
                    (intro u hu) | split | dsimp only | (intro x))

theorem ev_settleRemoval (h : Ev m s t) (a1 : Nat) (a2 : Nat)
    (hm : 0x23fd22 ||| m = m) : Ev m s (State.settleRemoval t a1 a2) := by
  unfold State.settleRemoval
  repeat' (first | with_reducible assumption | exact sub hm (by decide) | with_reducible apply ev_updSlot |
                    with_reducible apply ev_absentDies |
                    (refine ev_absentDies_eq ?_ _ _ _ (by with_reducible assumption) ?_) | with_reducible apply ev_hev |
                    with_reducible apply ev_settleRemoved | (intro u a hu) | (intro u hu) | split | dsimp only | (intro x))

theorem ev_removal (h : Ev m s t) (a1 : Nat) (a2 : Nat)
    (hm : 0x23fd22 ||| m = m) : Ev m s (State.removal t a1 a2) := by
  unfold State.removal
  repeat' (first | with_reducible assumption | exact sub hm (by decide) | with_reducible apply ev_updSlot |
                    with_reducible apply ev_count | with_reducible apply ev_settleRemoval | (intro u a hu) | (intro u hu) |
                    split | dsimp only | (intro x))

theorem ev_settleSlots (h : Ev m s t)
    (hm : 0x23fd22 ||| m = m) : Ev m s (State.settleSlots t) := by
  unfold State.settleSlots
  repeat' (first | with_reducible assumption | exact sub hm (by decide) | with_reducible apply ev_settleRemoval |
                    with_reducible apply ev_each | (intro u a hu) | (intro u hu) | split | dsimp only | (intro x))

theorem ev_execSurpriseRemoval (h : Ev m s t) (a0 : Nat) (a1 : Nat) (u : State) (hu : execSurpriseRemoval a0 a1 t = .next u)
    (hm : 0x23fd22 ||| m = m) : Ev m s u := by
  unfold execSurpriseRemoval at hu; injection hu with hu; subst hu
  repeat' (first | with_reducible assumption | exact sub hm (by decide) | with_reducible apply ev_removal |
                    with_reducible apply ev_updSlot | (intro u a hu) | (intro u hu) | split | dsimp only | (intro x))

theorem ev_execSlotPresenceLoss (h : Ev m s t) (a0 : Nat) (u : State) (hu : execSlotPresenceLoss a0 t = .next u)
    (hm : 0x23fd22 ||| m = m) : Ev m s u := by
  unfold execSlotPresenceLoss at hu; injection hu with hu; subst hu
  repeat' (first | with_reducible assumption | exact sub hm (by decide) | with_reducible apply ev_updSlot |
                    with_reducible apply ev_removal | (intro u a hu) | (intro u hu) | split | dsimp only | (intro x))

theorem ev_execPowerGoodLoss (h : Ev m s t) (a0 : Nat) (u : State) (hu : execPowerGoodLoss a0 t = .next u)
    (hm : 0x23fd22 ||| m = m) : Ev m s u := by
  unfold execPowerGoodLoss at hu; injection hu with hu; subst hu
  repeat' (first | with_reducible assumption | exact sub hm (by decide) | with_reducible apply ev_updSlot |
                    with_reducible apply ev_removal | (intro u a hu) | (intro u hu) | split | dsimp only | (intro x))

theorem ev_execSlotPowerFault (h : Ev m s t) (a0 : Nat) (u : State) (hu : execSlotPowerFault a0 t = .next u)
    (hm : 0x23fd22 ||| m = m) : Ev m s u := by
  unfold execSlotPowerFault at hu; injection hu with hu; subst hu
  repeat' (first | with_reducible assumption | exact sub hm (by decide) | with_reducible apply ev_updSlot |
                    with_reducible apply ev_removal | (intro u a hu) | (intro u hu) | split | dsimp only | (intro x))

theorem ev_execSlotPowerGood (h : Ev m s t) (a0 : Nat) (u : State) (hu : execSlotPowerGood a0 t = .next u)
    (hm : 0x8000 ||| m = m) : Ev m s u := by
  unfold execSlotPowerGood at hu; injection hu with hu; subst hu
  repeat' (first | with_reducible assumption | exact sub hm (by decide) | with_reducible apply ev_updSlot | (intro u a hu) |
                    (intro u hu) | split | dsimp only | (intro x))

theorem ev_execPowerGoodTimeout (h : Ev m s t) (a0 : Nat) (u : State) (hu : execPowerGoodTimeout a0 t = .next u)
    (hm : 0x8000 ||| m = m) : Ev m s u := by
  unfold execPowerGoodTimeout at hu; injection hu with hu; subst hu
  repeat' (first | with_reducible assumption | exact sub hm (by decide) | with_reducible apply ev_updSlot | (intro u a hu) |
                    (intro u hu) | split | dsimp only | (intro x))

theorem ev_execSlotTrainingStart (h : Ev m s t) (a0 : Nat) (u : State) (hu : execSlotTrainingStart a0 t = .next u)
    (hm : 0x8000 ||| m = m) : Ev m s u := by
  unfold execSlotTrainingStart at hu; injection hu with hu; subst hu
  repeat' (first | with_reducible assumption | exact sub hm (by decide) | with_reducible apply ev_updSlot | (intro u a hu) |
                    (intro u hu) | split | dsimp only | (intro x))

theorem ev_trainChannel (h : Ev m s t) (a1 : Nat) (a2 : Option Nat)
    (hm : 0x32 ||| m = m) : Ev m s (State.trainChannel t a1 a2) := by
  unfold State.trainChannel
  repeat' (first | with_reducible assumption | exact sub hm (by decide) | with_reducible apply ev_wr |
                    with_reducible apply ev_free | (refine ev_free_eq ?_ _ _ (by with_reducible assumption) ?_) |
                    with_reducible apply ev_aev | with_reducible apply ev_count | with_reducible apply ev_retireEvent |
                    (intro u a hu) | (intro u hu) | split | dsimp only | (intro x))

theorem ev_addDie (h : Ev m s t) (a1 : DieFound) (a2 : Nat)
    (hm : 0x16002 ||| m = m) : Ev m s (State.addDie t a1 a2) := by
  unfold State.addDie
  repeat' (first | with_reducible assumption | exact sub hm (by decide) | with_reducible exact fun hw => hw |
                    with_reducible exact fun hw => wf_filter _ hw | with_reducible exact fun hw => ⟨hw.1, hw.2, hw.3⟩ |
                    with_reducible exact fun hw => ⟨hw.1, hw.2, hw.3⟩ |
                    (intro hw; constructor <;>
                     with_reducible first | exact hw.1 | exact hw.2 | exact hw.3 | exact wf_spSet _ _ hw.1 | exact wf_spSet _ _ hw.2
                                          | exact wf_spSet _ _ hw.3 | exact wf_filter _ hw.1 | exact wf_filter _ hw.3
                                          | exact wf_spMap _ hw.3 | exact wf_nil _) |
                    (intro hw; constructor <;>
                     with_reducible first | exact hw.1 | exact hw.2 | exact hw.3 | exact wf_spSet _ _ hw.1 | exact wf_spSet _ _ hw.2
                                          | exact wf_spSet _ _ hw.3 | exact wf_filter _ hw.1 | exact wf_nil _) |
                    with_reducible apply ev_updMd | with_reducible apply ev_setRec | with_reducible apply ev_setDie |
                    with_reducible apply ev_updLg | with_reducible apply ev_setBlk | with_reducible apply ev_updRg |
                    with_reducible apply ev_wr | with_reducible apply ev_each | (intro u a hu) | (intro u hu) | split |
                    dsimp only | (intro x))

theorem ev_forgetDie (h : Ev m s t) (a1 : Nat)
    (hm : 0x2000 ||| m = m) : Ev m s (State.forgetDie t a1) := by
  unfold State.forgetDie
  repeat' (first | with_reducible assumption | exact sub hm (by decide) | with_reducible exact fun hw => hw |
                    with_reducible exact fun hw => wf_filter _ hw | with_reducible exact fun hw => ⟨hw.1, hw.2, hw.3⟩ |
                    (intro hw; constructor <;>
                     with_reducible first | exact hw.1 | exact hw.2 | exact hw.3 | exact wf_spSet _ _ hw.1 | exact wf_spSet _ _ hw.2
                                          | exact wf_spSet _ _ hw.3 | exact wf_filter _ hw.1 | exact wf_filter _ hw.3
                                          | exact wf_spMap _ hw.3 | exact wf_nil _) |
                    with_reducible apply ev_updMd | (intro u a hu) | (intro u hu) | split | dsimp only | (intro x))

theorem ev_unretireChannel (h : Ev m s t) (a1 : Nat)
    (hm : 0x2 ||| m = m) : Ev m s (State.unretireChannel t a1) := by
  unfold State.unretireChannel
  repeat' (first | with_reducible assumption | exact sub hm (by decide) | with_reducible apply ev_wr | (intro u a hu) |
                    (intro u hu) | split | dsimp only | (intro x))

theorem ev_noteUnused (h : Ev m s t) (a1 : List DieFound)
    (hm : 0x2022 ||| m = m) : Ev m s (State.noteUnused t a1) := by
  unfold State.noteUnused
  repeat' (first | with_reducible assumption | exact sub hm (by decide) | with_reducible exact fun hw => wf_filter _ hw |
                    with_reducible apply ev_aev | with_reducible apply ev_count | with_reducible apply ev_setDie |
                    with_reducible apply ev_retireDie | with_reducible apply ev_each | with_reducible apply ev_when |
                    (intro u a hu) | (intro u hu) | split | dsimp only | (intro x))

theorem ev_execSlotTrainingDone (h : Ev m s t) (a0 : Nat) (a1 : Option Nat) (a2 : Option Nat) (a3 : List DieFound) (u :
    State) (hu : execSlotTrainingDone a0 a1 a2 a3 t = .next u)
    (hm : 0x1e032 ||| m = m) : Ev m s u := by
  unfold execSlotTrainingDone at hu; injection hu with hu; subst hu
  repeat' (first | with_reducible assumption | exact sub hm (by decide) | with_reducible exact fun hw => wf_filter _ hw |
                    with_reducible apply ev_noteUnused | with_reducible apply ev_trainChannel |
                    with_reducible apply ev_updSlot | with_reducible apply ev_addDie | with_reducible apply ev_forgetDie |
                    with_reducible apply ev_unretireChannel | with_reducible apply ev_setBudget |
                    with_reducible apply ev_each | (intro u a hu) | (intro u hu) | split | dsimp only | (intro x))

/-! ### Patrol.lean -/

theorem ev_scrubRefusal (h : Ev m s t) (a1 : Nat) (v0 : Nat) (u : State) (hu : State.scrubRefusal t a1 = some (v0, u))
    (hm : 0x10 ||| m = m) : Ev m s u := by
  unfold State.scrubRefusal at hu
  repeat' (first | with_reducible assumption | exact sub hm (by decide) | with_reducible apply ev_free |
                    (refine ev_free_eq ?_ _ _ (by with_reducible assumption) ?_) | split at hu |
                    (simp only [Option.some.injEq, Prod.mk.injEq] at hu; obtain ⟨-, -, rfl⟩ := hu) |
                    (simp only [Option.some.injEq, Prod.mk.injEq] at hu; obtain ⟨-, rfl⟩ := hu) |
                    (simp only [Option.some.injEq] at hu; subst hu) | contradiction | dsimp only at hu | (intro u a hu) |
                    (intro u hu) | split | dsimp only | (intro x))

theorem ev_scrubGo (h : Ev m s t) (a1 : Nat)
    (hm : 0x2032 ||| m = m) : Ev m s (State.scrubGo t a1) := by
  unfold State.scrubGo
  repeat' (first | with_reducible assumption | exact sub hm (by decide) | with_reducible exact fun hw => hw |
                    with_reducible exact fun hw => ⟨hw.1, hw.2, hw.3⟩ | with_reducible apply ev_wr |
                    (refine ev_scrubRefusal ?_ _ _ _ (by with_reducible assumption) ?_) | with_reducible apply ev_aev |
                    with_reducible apply ev_updMd | (intro u a hu) | (intro u hu) | split | dsimp only | (intro x))

theorem ev_execScrubGo (h : Ev m s t) (a0 : Nat) (a1 : Nat) (u : State) (hu : execScrubGo a0 a1 t = .next u)
    (hm : 0x2032 ||| m = m) : Ev m s u := by
  unfold execScrubGo at hu; injection hu with hu; subst hu
  repeat' (first | with_reducible assumption | exact sub hm (by decide) | with_reducible apply ev_scrubGo | (intro u a hu) |
                    (intro u hu) | split | dsimp only | (intro x))

theorem ev_scrubCancel (h : Ev m s t)
    (hm : 0x2000 ||| m = m) : Ev m s (State.scrubCancel t) := by
  unfold State.scrubCancel
  repeat' (first | with_reducible assumption | exact sub hm (by decide) | with_reducible exact fun hw => hw |
                    with_reducible exact fun hw => ⟨hw.1, hw.2, hw.3⟩ | with_reducible apply ev_updMd | (intro u a hu) |
                    (intro u hu) | split | dsimp only | (intro x))

theorem ev_execScrubCancel (h : Ev m s t) (a0 : Nat) (u : State) (hu : execScrubCancel a0 t = .next u)
    (hm : 0x2000 ||| m = m) : Ev m s u := by
  unfold execScrubCancel at hu; injection hu with hu; subst hu
  repeat' (first | with_reducible assumption | exact sub hm (by decide) | with_reducible apply ev_scrubCancel |
                    (intro u a hu) | (intro u hu) | split | dsimp only | (intro x))

theorem ev_endScrub (h : Ev m s t) (a1 : Scrub) (a2 : Nat)
    (hm : 0x2022 ||| m = m) : Ev m s (State.endScrub t a1 a2) := by
  unfold State.endScrub
  repeat' (first | with_reducible assumption | exact sub hm (by decide) | with_reducible exact fun hw => hw |
                    with_reducible exact fun hw => wf_filter _ hw | with_reducible exact fun hw => ⟨hw.1, hw.2, hw.3⟩ |
                    (intro hw; constructor <;>
                     with_reducible first | exact hw.1 | exact hw.2 | exact hw.3 | exact wf_spSet _ _ hw.1 | exact wf_spSet _ _ hw.2
                                          | exact wf_spSet _ _ hw.3 | exact wf_filter _ hw.1 | exact wf_filter _ hw.3
                                          | exact wf_spMap _ hw.3 | exact wf_nil _) |
                    with_reducible apply ev_updMd | with_reducible apply ev_wr | with_reducible apply ev_aev |
                    with_reducible apply ev_each | (intro u a hu) | (intro u hu) | split | dsimp only | (intro x))

theorem ev_execScrubEnd (h : Ev m s t)  (u : State) (hu : execScrubEnd t = .next u)
    (hm : 0x2022 ||| m = m) : Ev m s u := by
  unfold execScrubEnd at hu; injection hu with hu; subst hu
  repeat' (first | with_reducible assumption | exact sub hm (by decide) | with_reducible apply ev_endScrub | (intro u a hu) |
                    (intro u hu) | split | dsimp only | (intro x))

theorem ev_patrolNeed (h : Ev m s t)
    (hm : 0x2022 ||| m = m) : Ev m s (State.patrolNeed t) := by
  unfold State.patrolNeed
  repeat' (first | with_reducible assumption | exact sub hm (by decide) | with_reducible exact fun hw => hw |
                    with_reducible exact fun hw => ⟨hw.1, hw.2, hw.3⟩ | with_reducible apply ev_wr |
                    with_reducible apply ev_aev | with_reducible apply ev_updMd | (intro u a hu) | (intro u hu) | split |
                    dsimp only | (intro x))

theorem ev_copySegs (h : Ev m s t) (a0 : Nat) (a1 : Nat) (a2 : Nat)
    (hm : 0x3000 ||| m = m) : Ev m s (State.copySegs a0 a1 a2 t) := by
  induction a1 generalizing t a0 a2 with
  | zero => exact h
  | succ n ih =>
    unfold State.copySegs
    repeat' (first | with_reducible assumption | exact sub hm (by decide) | with_reducible exact fun hw => hw |
                      with_reducible apply ev_updTr | with_reducible apply ev_addMeta | with_reducible apply ih |
                      (intro u a hu) | (intro u hu) | split | dsimp only | (intro x))

theorem ev_copyBar (h : Ev m s t)
    (hm : 0x3000 ||| m = m) : Ev m s (State.copyBar t) := by
  unfold State.copyBar
  repeat' (first | with_reducible assumption | exact sub hm (by decide) | with_reducible exact fun hw => hw |
                    with_reducible apply ev_updTr | with_reducible apply ev_copySegs | (intro u a hu) | (intro u hu) | split |
                    dsimp only | (intro x))

theorem ev_execLoopStateSave (h : Ev m s t)  (u : State) (hu : execLoopStateSave t = .next u)
    (hm : 0x12000 ||| m = m) : Ev m s u := by
  unfold execLoopStateSave at hu; injection hu with hu; subst hu
  repeat' (first | with_reducible assumption | exact sub hm (by decide) | with_reducible exact fun hw => hw |
                    with_reducible exact fun hw => ⟨hw.1, hw.2, hw.3⟩ |
                    (intro hw; constructor <;>
                     with_reducible first | exact hw.1 | exact hw.2 | exact hw.3 | exact wf_spSet _ _ hw.1 | exact wf_spSet _ _ hw.2
                                          | exact wf_spSet _ _ hw.3 | exact wf_filter _ hw.1 | exact wf_nil _) |
                    with_reducible apply ev_addMeta | with_reducible apply ev_updRg | (intro u a hu) | (intro u hu) | split |
                    dsimp only | (intro x))

end Sys2Proof.Laws
end

