-- ==== Sys2Proof/Laws/EvTwin.lean ====
section
/-! SUPPORT. How the state evolves under the operations and commands of the boot array, DRAM, the twin halves, start-up and
    power loss: one law for each, over the laws of Evolves.lean. -/

namespace Sys2Proof.Laws

open Sys2Proof Sys2Proof.Machine

variable {m : Nat} {s t : State}

/-! ### BootArray.lean -/

theorem ev_updBt (h : Ev m s t) (f : Boot → Boot)
    (hf : Memory.wf (fun _ => ArrWord.init) t.bt.arr = true → Memory.wf (fun _ => ArrWord.init) (f t.bt).arr = true)
    (hm : 0x80000 ||| m = m) : Ev m s (t.updBt f) := ev_mk_bt h _ hf hm

theorem ev_setArr (h : Ev m s t) (a1 : Nat) (a2 : ArrWord)
    (hm : 0x80000 ||| m = m) : Ev m s (State.setArr t a1 a2) := by
  unfold State.setArr
  repeat' (first | with_reducible assumption | exact sub hm (by decide) | with_reducible exact fun hw => hw |
                    with_reducible exact fun hw => wf_spSet _ _ hw | with_reducible exact fun hw => wf_spSetRun _ _ hw |
                    with_reducible apply ev_updBt | (intro u a hu) | (intro u hu) | split | dsimp only | (intro x))

theorem ev_progWord (h : Ev m s t) (a1 : Nat) (a2 : Word64)
    (hm : 0x80000 ||| m = m) : Ev m s (State.progWord t a1 a2) := by
  unfold State.progWord
  repeat' (first | with_reducible assumption | exact sub hm (by decide) | with_reducible apply ev_setArr | (intro u a hu) |
                    (intro u hu) | split | dsimp only | (intro x))

theorem ev_progRun (h : Ev m s t) (a1 : Nat) (a2 : List Word64)
    (hm : 0x80000 ||| m = m) : Ev m s (State.progRun t a1 a2) := by
  unfold State.progRun
  repeat' (first | with_reducible assumption | exact sub hm (by decide) | with_reducible apply ev_progWord |
                    with_reducible apply ev_each | (intro u a hu) | (intro u hu) | split | dsimp only | (intro x))

theorem ev_eraseSector (h : Ev m s t) (a1 : Nat)
    (hm : 0x80000 ||| m = m) : Ev m s (State.eraseSector t a1) := by
  unfold State.eraseSector
  repeat' (first | with_reducible assumption | exact sub hm (by decide) | with_reducible exact fun hw => hw |
                    with_reducible exact fun hw => wf_spClear _ _ hw | with_reducible apply ev_updBt | (intro u a hu) |
                    (intro u hu) | split | dsimp only | (intro x))

theorem ev_spoil (h : Ev m s t) (a1 : Nat) (a2 : Nat)
    (hm : 0x80010 ||| m = m) : Ev m s (State.spoil t a1 a2) := by
  unfold State.spoil
  repeat' (first | with_reducible assumption | exact sub hm (by decide) | with_reducible apply ev_free |
                    (refine ev_free_eq ?_ _ _ (by with_reducible assumption) ?_) | with_reducible apply ev_setArr |
                    with_reducible apply ev_each | (intro u a hu) | (intro u hu) | split | dsimp only | (intro x))

theorem ev_beginLog (h : Ev m s t) (a1 : Nat) (a2 : Nat)
    (hm : 0x80000 ||| m = m) : Ev m s (State.beginLog t a1 a2).2 := by
  unfold State.beginLog
  repeat' (first | with_reducible assumption | exact sub hm (by decide) | with_reducible exact fun hw => hw |
                    with_reducible apply ev_eraseSector | with_reducible apply ev_updBt | with_reducible apply ev_progWord |
                    (intro u a hu) | (intro u hu) | split | dsimp only | (intro x))

theorem ev_beginLog_eq  (h : Ev m s t) (a1 : Nat) (a2 : Nat)  (v : Nat) (u : State)
    (e : State.beginLog t a1 a2 = (v, u))
    (hm : 0x80000 ||| m = m) : Ev m s u := by
  have k := ev_beginLog h a1 a2  hm; rw [e] at k; exact k

theorem ev_endLog (h : Ev m s t) (a1 : Nat)
    (hm : 0x80000 ||| m = m) : Ev m s (State.endLog t a1) := by
  unfold State.endLog
  repeat' (first | with_reducible assumption | exact sub hm (by decide) | with_reducible apply ev_progWord | (intro u a hu) |
                    (intro u hu) | split | dsimp only | (intro x))

theorem ev_wholeRun (h : Ev m s t) (a1 : Nat) (a2 : List Word64)
    (hm : 0x80000 ||| m = m) : Ev m s (State.wholeRun t a1 a2) := by
  unfold State.wholeRun
  repeat' (first | with_reducible assumption | exact sub hm (by decide) | with_reducible apply ev_beginLog |
                    (refine ev_beginLog_eq ?_ _ _ _ _ (by with_reducible assumption) ?_) | with_reducible apply ev_endLog |
                    with_reducible apply ev_progRun | (intro u a hu) | (intro u hu) | split | dsimp only | (intro x))

theorem ev_wholeErase (h : Ev m s t) (a1 : Nat)
    (hm : 0x80000 ||| m = m) : Ev m s (State.wholeErase t a1) := by
  unfold State.wholeErase
  repeat' (first | with_reducible assumption | exact sub hm (by decide) | with_reducible apply ev_beginLog |
                    (refine ev_beginLog_eq ?_ _ _ _ _ (by with_reducible assumption) ?_) | with_reducible apply ev_endLog |
                    with_reducible apply ev_eraseSector | (intro u a hu) | (intro u hu) | split | dsimp only | (intro x))

theorem ev_issueOpBta (h : Ev m s t) (a1 : Nat)
    (hm : 0x80002 ||| m = m) : Ev m s (State.issueOpBta t a1) := by
  unfold State.issueOpBta
  repeat' (first | with_reducible assumption | exact sub hm (by decide) | with_reducible exact fun hw => hw |
                    with_reducible apply ev_beginLog | (refine ev_beginLog_eq ?_ _ _ _ _ (by with_reducible assumption) ?_) |
                    with_reducible apply ev_wr | with_reducible apply ev_updBt | with_reducible apply ev_count |
                    with_reducible apply ev_when | (intro u a hu) | (intro u hu) | split | dsimp only | (intro x))

theorem ev_opctrlWrite (h : Ev m s t) (a1 : Nat) (a2 : Nat) (a3 : Nat)
    (hm : 0x80022 ||| m = m) : Ev m s (State.opctrlWrite t a1 a2 a3) := by
  unfold State.opctrlWrite
  repeat' (first | with_reducible assumption | exact sub hm (by decide) | with_reducible apply ev_discarded |
                    with_reducible apply ev_wr | with_reducible apply ev_issueOpBta | (intro u a hu) | (intro u hu) | split |
                    dsimp only | (intro x))

theorem ev_execProgramRun (h : Ev m s t) (a0 : Nat) (a1 : Nat) (u : State) (hu : execProgramRun a0 a1 t = .next u)
    (hm : 0x80022 ||| m = m) : Ev m s u := by
  unfold execProgramRun at hu; injection hu with hu; subst hu
  repeat' (first | with_reducible assumption | exact sub hm (by decide) | with_reducible apply ev_opctrlWrite |
                    (intro u a hu) | (intro u hu) | split | dsimp only | (intro x))

theorem ev_execErase (h : Ev m s t) (a0 : Nat) (u : State) (hu : execErase a0 t = .next u)
    (hm : 0x80022 ||| m = m) : Ev m s u := by
  unfold execErase at hu; injection hu with hu; subst hu
  repeat' (first | with_reducible assumption | exact sub hm (by decide) | with_reducible apply ev_opctrlWrite |
                    (intro u a hu) | (intro u hu) | split | dsimp only | (intro x))

theorem ev_endOp (h : Ev m s t) (a1 : Nat)
    (hm : 0x80002 ||| m = m) : Ev m s (State.endOp t a1) := by
  unfold State.endOp
  repeat' (first | with_reducible assumption | exact sub hm (by decide) | with_reducible exact fun hw => hw |
                    with_reducible apply ev_wr | with_reducible apply ev_updBt | (intro u a hu) | (intro u hu) | split |
                    dsimp only | (intro x))

theorem ev_execBtaOperationEnd (h : Ev m s t) (a0 : Bool) (u : State) (hu : execBtaOperationEnd a0 t = .next u)
    (hm : 0x80012 ||| m = m) : Ev m s u := by
  unfold execBtaOperationEnd at hu; injection hu with hu; subst hu
  repeat' (first | with_reducible assumption | exact sub hm (by decide) | with_reducible apply ev_endOp |
                    with_reducible apply ev_endLog | with_reducible apply ev_spoil | with_reducible apply ev_progRun |
                    with_reducible apply ev_eraseSector | (intro u a hu) | (intro u hu) | split | dsimp only | (intro x))

theorem ev_execBrownOut (h : Ev m s t)  (u : State) (hu : execBrownOut t = .next u)
    (hm : 0x80012 ||| m = m) : Ev m s u := by
  unfold execBrownOut at hu; injection hu with hu; subst hu
  repeat' (first | with_reducible assumption | exact sub hm (by decide) | with_reducible apply ev_wr |
                    with_reducible apply ev_count | with_reducible apply ev_endOp | with_reducible apply ev_spoil |
                    (intro u a hu) | (intro u hu) | split | dsimp only | (intro x))

theorem ev_progOpt (h : Ev m s t) (a1 : Nat) (a2 : Word64)
    (hm : 0x80000 ||| m = m) : Ev m s (State.progOpt t a1 a2) := by
  unfold State.progOpt
  repeat' (first | with_reducible assumption | exact sub hm (by decide) | with_reducible apply ev_wholeRun | (intro u a hu) |
                    (intro u hu) | split | dsimp only | (intro x))

theorem ev_writeCopy (h : Ev m s t) (a1 : Nat) (a2 : List (Nat × Word64))
    (hm : 0x80000 ||| m = m) : Ev m s (State.writeCopy t a1 a2) := by
  unfold State.writeCopy
  repeat' (first | with_reducible assumption | exact sub hm (by decide) | with_reducible apply ev_wholeErase |
                    with_reducible apply ev_wholeRun | with_reducible apply ev_each | (intro u a hu) | (intro u hu) | split |
                    dsimp only | (intro x))

theorem ev_rewriteOpt (h : Ev m s t) (a1 : List Nat)
    (hm : 0x80000 ||| m = m) : Ev m s (State.rewriteOpt t a1) := by
  unfold State.rewriteOpt
  repeat' (first | with_reducible assumption | exact sub hm (by decide) | with_reducible exact fun hw => wf_filter _ hw |
                    with_reducible apply ev_writeCopy | (intro u a hu) | (intro u hu) | split | dsimp only | (intro x))

theorem ev_chooseCopies (h : Ev m s t) (a1 : Bool) (a2 : Bool) (u : State) (hu : State.chooseCopies t a1 a2 = some u)
    (hm : 0x80000 ||| m = m) : Ev m s u := by
  unfold State.chooseCopies at hu
  repeat' (first | with_reducible assumption | exact sub hm (by decide) | with_reducible exact fun hw => wf_filter _ hw |
                    with_reducible apply ev_writeCopy | with_reducible apply ev_wholeRun | with_reducible apply ev_each |
                    split at hu | (simp only [Option.some.injEq, Prod.mk.injEq] at hu; obtain ⟨-, -, rfl⟩ := hu) |
                    (simp only [Option.some.injEq, Prod.mk.injEq] at hu; obtain ⟨-, rfl⟩ := hu) |
                    (simp only [Option.some.injEq] at hu; subst hu) | contradiction | dsimp only at hu | (intro u a hu) |
                    (intro u hu) | split | dsimp only | (intro x))

theorem ev_markBank (h : Ev m s t) (a1 : Nat) (a2 : Nat)
    (hm : 0x80000 ||| m = m) : Ev m s (State.markBank t a1 a2) := by
  unfold State.markBank
  repeat' (first | with_reducible assumption | exact sub hm (by decide) | with_reducible apply ev_progOpt | (intro u a hu) |
                    (intro u hu) | split | dsimp only | (intro x))

theorem ev_settleSector (h : Ev m s t) (a1 : Nat) (a2 : List Nat)
    (hm : 0x80022 ||| m = m) : Ev m s (State.settleSector t a1 a2).2 := by
  unfold State.settleSector
  repeat' (first | with_reducible assumption | exact sub hm (by decide) | with_reducible exact fun hw => hw |
                    with_reducible exact fun hw => wf_spSet _ _ hw | with_reducible exact fun hw => wf_spSetRun _ _ hw |
                    with_reducible apply ev_writeCopy | with_reducible apply ev_updBt | with_reducible apply ev_hev |
                    with_reducible apply ev_eraseSector | with_reducible apply ev_markBank | (intro u a hu) | (intro u hu) |
                    split | dsimp only | (intro x))

theorem ev_settleSector_eq  (h : Ev m s t) (a1 : Nat) (a2 : List Nat)  (v : Nat) (u : State)
    (e : State.settleSector t a1 a2 = (v, u))
    (hm : 0x80022 ||| m = m) : Ev m s u := by
  have k := ev_settleSector h a1 a2  hm; rw [e] at k; exact k

theorem ev_markSector (h : Ev m s t) (a1 : Nat) (a2 : Nat) (a3 : List Nat)
    (hm : 0x80022 ||| m = m) : Ev m s (State.markSector t a1 a2 a3) := by
  unfold State.markSector
  repeat' (first | with_reducible assumption | exact sub hm (by decide) | with_reducible apply ev_hev |
                    with_reducible apply ev_settleSector |
                    (refine ev_settleSector_eq ?_ _ _ _ _ (by with_reducible assumption) ?_) |
                    with_reducible apply ev_progOpt | (intro u a hu) | (intro u hu) | split | dsimp only | (intro x))

theorem ev_settleArray (h : Ev m s t) (a1 : List Nat) (a2 : List Nat)
    (hm : 0x80022 ||| m = m) : Ev m s (State.settleArray t a1 a2) := by
  unfold State.settleArray
  repeat' (first | with_reducible assumption | exact sub hm (by decide) | with_reducible exact fun hw => hw |
                    with_reducible exact fun hw => wf_spSet _ _ hw | with_reducible exact fun hw => wf_spSetRun _ _ hw |
                    with_reducible exact fun hw => wf_filter _ hw | with_reducible exact fun _ => wf_nil _ |
                    with_reducible apply ev_updBt | with_reducible apply ev_endLog | with_reducible apply ev_markSector |
                    with_reducible apply ev_each | with_reducible apply ev_foldl | with_reducible apply ev_foldl_snd |
                    with_reducible apply ev_foldl_fst | (intro u a hu) | (intro u hu) | split | dsimp only | (intro x))

theorem ev_addRepairRow (h : Ev m s t) (a1 : RepRow)
    (hm : 0x80000 ||| m = m) : Ev m s (State.addRepairRow t a1) := by
  unfold State.addRepairRow
  repeat' (first | with_reducible assumption | exact sub hm (by decide) | with_reducible apply ev_progOpt | (intro u a hu) |
                    (intro u hu) | split | dsimp only | (intro x))

theorem ev_hardRepairs (h : Ev m s t)
    (hm : 0x80000 ||| m = m) : Ev m s (State.hardRepairs t) := by
  unfold State.hardRepairs
  repeat' (first | with_reducible assumption | exact sub hm (by decide) | with_reducible exact fun hw => wf_filter _ hw |
                    with_reducible apply ev_progOpt | with_reducible apply ev_each | (intro u a hu) | (intro u hu) | split |
                    dsimp only | (intro x))

/-! ### Sram.lean -/

theorem ev_sramWrite (h : Ev m s t) (a1 : Half) (a2 : Nat) (a3 : Nat) (a4 : List (Nat × Byte))
    (hm : 0x100 ||| m = m) : Ev m s (State.sramWrite t a1 a2 a3 a4) := by
  unfold State.sramWrite
  repeat' (first | with_reducible assumption | exact sub hm (by decide) | with_reducible exact fun hw => wf_filter _ hw |
                    with_reducible apply ev_updHalf | (intro u a hu) | (intro u hu) | split | dsimp only | (intro x))

theorem ev_sramClear (h : Ev m s t) (a1 : Half)
    (hm : 0x100 ||| m = m) : Ev m s (State.sramClear t a1) := by
  unfold State.sramClear
  repeat' (first | with_reducible assumption | exact sub hm (by decide) | with_reducible exact fun _ => wf_nil _ |
                    with_reducible apply ev_updHalf | (intro u a hu) | (intro u hu) | split | dsimp only | (intro x))

theorem ev_sramVote (h : Ev m s t) (a1 : Half)
    (hm : 0x100 ||| m = m) : Ev m s (State.sramVote t a1) := by
  unfold State.sramVote
  repeat' (first | with_reducible assumption | exact sub hm (by decide) | with_reducible exact fun hw => wf_filter _ hw |
                    with_reducible apply ev_updHalf | (intro u a hu) | (intro u hu) | split | dsimp only | (intro x))

theorem ev_sramUpset (h : Ev m s t) (a1 : Half) (a2 : Nat × Nat × Nat)
    (hm : 0x100 ||| m = m) : Ev m s (State.sramUpset t a1 a2) := by
  unfold State.sramUpset
  repeat' (first | with_reducible assumption | exact sub hm (by decide) | with_reducible exact fun hw => wf_filter _ hw |
                    with_reducible apply ev_updHalf | with_reducible apply ev_getD | (intro u a hu) | (intro u hu) | split |
                    dsimp only | (intro x))

theorem ev_loadSeg (h : Ev m s t) (a1 : Half) (a2 : Nat) (a3 : FwSeg)
    (hm : 0x100 ||| m = m) : Ev m s (State.loadSeg t a1 a2 a3) := by
  unfold State.loadSeg
  repeat' (first | with_reducible assumption | exact sub hm (by decide) | with_reducible exact fun hw => wf_filter _ hw |
                    with_reducible apply ev_sramWrite | with_reducible apply ev_each | (intro u a hu) | (intro u hu) | split |
                    dsimp only | (intro x))

theorem ev_loadBank (h : Ev m s t) (a1 : Half) (a2 : Nat) (a3 : ImageMeta)
    (hm : 0x100 ||| m = m) : Ev m s (State.loadBank t a1 a2 a3) := by
  unfold State.loadBank
  repeat' (first | with_reducible assumption | exact sub hm (by decide) | with_reducible apply ev_loadSeg |
                    with_reducible apply ev_each | (intro u a hu) | (intro u hu) | split | dsimp only | (intro x))

theorem ev_loadImage (h : Ev m s t) (a1 : Half)
    (hm : 0x100 ||| m = m) : Ev m s (State.loadImage t a1) := by
  unfold State.loadImage
  repeat' (first | with_reducible assumption | exact sub hm (by decide) | with_reducible apply ev_loadBank | (intro u a hu) |
                    (intro u hu) | split | dsimp only | (intro x))

/-! ### Dram.lean -/

theorem ev_noteLate (h : Ev m s t) (a1 : DReq)
    (hm : 0x2 ||| m = m) : Ev m s (State.noteLate t a1) := by
  unfold State.noteLate
  repeat' (first | with_reducible assumption | exact sub hm (by decide) | with_reducible apply ev_count | (intro u a hu) |
                    (intro u hu) | split | dsimp only | (intro x))

theorem ev_noteMerge (h : Ev m s t)
    (hm : 0x2 ||| m = m) : Ev m s (State.noteMerge t) := by
  unfold State.noteMerge
  repeat' (first | with_reducible assumption | exact sub hm (by decide) | with_reducible apply ev_wr | (intro u a hu) |
                    (intro u hu) | split | dsimp only | (intro x))

theorem ev_mergeReq (h : Ev m s t) (a1 : DReq)
    (hm : 0x20002 ||| m = m) : Ev m s (State.mergeReq t a1) := by
  unfold State.mergeReq
  repeat' (first | with_reducible assumption | exact sub hm (by decide) | with_reducible exact fun hw => hw |
                    with_reducible apply ev_updDr | with_reducible apply ev_noteMerge | (intro u a hu) | (intro u hu) |
                    split | dsimp only | (intro x))

theorem ev_pumpMerge (h : Ev m s t)
    (hm : 0x20002 ||| m = m) : Ev m s (State.pumpMerge t) := by
  unfold State.pumpMerge
  repeat' (first | with_reducible assumption | exact sub hm (by decide) | with_reducible exact fun hw => wf_filter _ hw |
                    with_reducible apply ev_mergeReq | with_reducible apply ev_each | (intro u a hu) | (intro u hu) | split |
                    dsimp only | (intro x))

theorem ev_endInOrder (h : Ev m s t)
    (hm : 0x20000 ||| m = m) : Ev m s (State.endInOrder t) := by
  unfold State.endInOrder
  repeat' (first | with_reducible assumption | exact sub hm (by decide) | with_reducible exact fun hw => hw |
                    with_reducible exact fun hw => wf_filter _ hw | with_reducible apply ev_updDr | (intro u a hu) |
                    (intro u hu) | split | dsimp only | (intro x))

theorem ev_lineWritten (h : Ev m s t) (a1 : Nat) (a2 : Bool)
    (hm : 0x20000 ||| m = m) : Ev m s (State.lineWritten t a1 a2) := by
  unfold State.lineWritten
  repeat' (first | with_reducible assumption | exact sub hm (by decide) | with_reducible exact fun hw => hw |
                    with_reducible exact fun hw => wf_spSet _ _ hw | with_reducible exact fun hw => wf_spSetRun _ _ hw |
                    with_reducible exact fun hw => wf_filter _ hw | with_reducible apply ev_updDr | (intro u a hu) |
                    (intro u hu) | split | dsimp only | (intro x))

theorem ev_flip (h : Ev m s t) (a1 : DReq)
    (hm : 0x20002 ||| m = m) : Ev m s (State.flip t a1) := by
  unfold State.flip
  repeat' (first | with_reducible assumption | exact sub hm (by decide) | with_reducible exact fun hw => hw |
                    with_reducible exact fun hw => wf_spSet _ _ hw | with_reducible exact fun hw => wf_spSetRun _ _ hw |
                    with_reducible apply ev_wr | with_reducible apply ev_updDr | (intro u a hu) | (intro u hu) | split |
                    dsimp only | (intro x))

theorem ev_issueReq (h : Ev m s t) (a1 : DReq)
    (hm : 0x20002 ||| m = m) : Ev m s (State.issueReq t a1) := by
  unfold State.issueReq
  repeat' (first | with_reducible assumption | exact sub hm (by decide) | with_reducible exact fun hw => hw |
                    with_reducible exact fun hw => wf_spSet _ _ hw | with_reducible exact fun hw => wf_spSetRun _ _ hw |
                    with_reducible exact fun hw => wf_filter _ hw | with_reducible apply ev_updDr |
                    with_reducible apply ev_noteLate | with_reducible apply ev_noteMerge | with_reducible apply ev_flip |
                    with_reducible apply ev_lineWritten | with_reducible apply ev_pumpMerge |
                    with_reducible apply ev_endInOrder | with_reducible apply ev_each | (intro u a hu) | (intro u hu) |
                    split | dsimp only | (intro x))

theorem ev_execDramCommandIssue (h : Ev m s t) (a0 : Bool) (u : State) (hu : execDramCommandIssue a0 t = .next u)
    (hm : 0x20002 ||| m = m) : Ev m s u := by
  unfold execDramCommandIssue at hu; injection hu with hu; subst hu
  repeat' (first | with_reducible assumption | exact sub hm (by decide) | with_reducible exact fun hw => wf_filter _ hw |
                    with_reducible apply ev_issueReq | (intro u a hu) | (intro u hu) | split | dsimp only | (intro x))

theorem ev_execDramRequestArrival (h : Ev m s t) (a0 : Nat) (a1 : Bool) (a2 : Nat) (a3 : Bool) (a4 : Half) (a5 : Bool) (u :
    State) (hu : execDramRequestArrival a0 a1 a2 a3 a4 a5 t = .next u)
    (hm : 0x220d22 ||| m = m) : Ev m s u := by
  unfold execDramRequestArrival at hu; injection hu with hu; subst hu
  repeat' (first | with_reducible assumption | exact sub hm (by decide) | with_reducible exact fun hw => hw |
                    with_reducible apply ev_controlFault | with_reducible apply ev_updDr | with_reducible apply ev_count |
                    with_reducible apply ev_pumpMerge | (intro u a hu) | (intro u hu) | split | dsimp only | (intro x))

theorem ev_execMapwaitPublish (h : Ev m s t)  (u : State) (hu : execMapwaitPublish t = .next u)
    (hm : 0x2 ||| m = m) : Ev m s u := by
  unfold execMapwaitPublish at hu; injection hu with hu; subst hu
  repeat' (first | with_reducible assumption | exact sub hm (by decide) | with_reducible exact fun hw => wf_filter _ hw |
                    with_reducible apply ev_wr | (intro u a hu) | (intro u hu) | split | dsimp only | (intro x))

theorem ev_noteDev (h : Ev m s t) (a1 : Nat)
    (hm : 0x2 ||| m = m) : Ev m s (State.noteDev t a1) := by
  unfold State.noteDev
  repeat' (first | with_reducible assumption | exact sub hm (by decide) | with_reducible apply ev_wr |
                    with_reducible apply ev_foldl | with_reducible apply ev_foldl_snd | with_reducible apply ev_foldl_fst |
                    (intro u a hu) | (intro u hu) | split | dsimp only | (intro x))

theorem ev_markDevice (h : Ev m s t) (a1 : Nat) (a2 : Nat)
    (hm : 0x22 ||| m = m) : Ev m s (State.markDevice t a1 a2) := by
  unfold State.markDevice
  repeat' (first | with_reducible assumption | exact sub hm (by decide) | with_reducible apply ev_aev |
                    with_reducible apply ev_wr | (intro u a hu) | (intro u hu) | split | dsimp only | (intro x))

theorem ev_execDeviceMarkedFailed (h : Ev m s t) (a0 : Nat) (a1 : Nat) (u : State) (hu : execDeviceMarkedFailed a0 a1 t =
    .next u)
    (hm : 0x22 ||| m = m) : Ev m s u := by
  unfold execDeviceMarkedFailed at hu; injection hu with hu; subst hu
  repeat' (first | with_reducible assumption | exact sub hm (by decide) | with_reducible apply ev_markDevice |
                    (intro u a hu) | (intro u hu) | split | dsimp only | (intro x))

theorem ev_noteCorrected (h : Ev m s t) (a1 : Nat) (a2 : List Nat)
    (hm : 0x20022 ||| m = m) : Ev m s (State.noteCorrected t a1 a2) := by
  unfold State.noteCorrected
  repeat' (first | with_reducible assumption | exact sub hm (by decide) | with_reducible exact fun hw => hw |
                    with_reducible apply ev_count | with_reducible apply ev_updDr | with_reducible apply ev_markDevice |
                    with_reducible apply ev_noteDev | with_reducible apply ev_each | (intro u a hu) | (intro u hu) | split |
                    dsimp only | (intro x))

theorem ev_pickFree {α : Type} (h : Ev m s t) (a2 : List α)
    (hm : 0x10 ||| m = m) : Ev m s (State.pickFree t a2).2 := by
  unfold State.pickFree
  repeat' (first | with_reducible assumption | exact sub hm (by decide) | with_reducible apply ev_free |
                    (refine ev_free_eq ?_ _ _ (by with_reducible assumption) ?_) | (intro u a hu) | (intro u hu) | split |
                    dsimp only | (intro x))

theorem ev_pickFree_eq {α : Type} (h : Ev m s t) (a2 : List α)  (v : Option α) (u : State)
    (e : State.pickFree t a2 = (v, u))
    (hm : 0x10 ||| m = m) : Ev m s u := by
  have k := ev_pickFree h a2  hm; rw [e] at k; exact k

theorem ev_poisonUnit (h : Ev m s t) (a1 : Nat)
    (hm : 0x1000 ||| m = m) : Ev m s (State.poisonUnit t a1) := by
  unfold State.poisonUnit
  repeat' (first | with_reducible assumption | exact sub hm (by decide) | with_reducible exact fun hw => hw |
                    with_reducible apply ev_updTr | (intro u a hu) | (intro u hu) | split | dsimp only | (intro x))

theorem ev_recopyWaiting (h : Ev m s t) (a1 : Placed)
    (hm : 0x2000 ||| m = m) : Ev m s (State.recopyWaiting t a1) := by
  unfold State.recopyWaiting
  repeat' (first | with_reducible assumption | exact sub hm (by decide) | with_reducible exact fun hw => hw |
                    with_reducible exact fun hw => ⟨hw.1, hw.2, hw.3⟩ | with_reducible apply ev_recopy |
                    with_reducible apply ev_updMd | (intro u a hu) | (intro u hu) | split | dsimp only | (intro x))

theorem ev_recomputeParity (h : Ev m s t) (a1 : Bool)
    (hm : 0x2010 ||| m = m) : Ev m s (State.recomputeParity t a1) := by
  unfold State.recomputeParity
  repeat' (first | with_reducible assumption | exact sub hm (by decide) | with_reducible exact fun hw => wf_filter _ hw |
                    with_reducible apply ev_pickFree | (refine ev_pickFree_eq ?_ _ _ _ (by with_reducible assumption) ?_) |
                    with_reducible apply ev_readMembers | with_reducible apply ev_setPartial | (intro u a hu) | (intro u hu) |
                    split | dsimp only | (intro x))

/-- Rebuilding a segment keeps the map's form. -/
theorem wf_rebuildSeg (x : State) (seg : Nat) {a : Sparse MapEntry} (ha : Memory.wf (fun _ => MapEntry.init) a = true) :
    Memory.wf (fun _ => MapEntry.init) (x.rebuildSeg seg a) = true := by
  have put : ∀ {β : Type} (l : List β) (k : β → Nat) (e : β → MapEntry) (b : Sparse MapEntry),
      Memory.wf (fun _ => MapEntry.init) b = true →
      Memory.wf (fun _ => MapEntry.init) (l.foldl (fun b y => spSet (fun _ => .init) b (k y) (e y)) b) = true :=
    fun l k e b hb => List.foldlRecOn (motive := fun b => Memory.wf (fun _ => MapEntry.init) b = true) l _ hb
      (fun b hb y _ => wf_spSet (k y) (e y) hb)
  unfold State.rebuildSeg
  dsimp only
  split
  · exact put _ _ _ _ (put _ _ _ _ ha)
  · refine put _ _ _ _ ?_
    split
    · exact put _ _ _ _ ha
    · exact ha

theorem ev_settleSeg (h : Ev m s t) (a1 : Nat)
    (hm : 0x21000 ||| m = m) : Ev m s (State.settleSeg t a1) := by
  unfold State.settleSeg
  exact ev_updDr (ev_updTr h _ (fun hw => wf_rebuildSeg _ _ (wf_spClear _ _ hw)) (sub hm (by decide))) _ (fun hw => hw) (sub
      hm (by decide))

theorem ev_settleLine (h : Ev m s t) (a1 : Nat)
    (hm : 0x223d32 ||| m = m) : Ev m s (State.settleLine t a1) := by
  unfold State.settleLine
  repeat' (first | with_reducible assumption | exact sub hm (by decide) | with_reducible exact fun hw => hw |
                    with_reducible apply ev_controlFault | with_reducible apply ev_poisonUnit |
                    with_reducible apply ev_pickFree | (refine ev_pickFree_eq ?_ _ _ _ (by with_reducible assumption) ?_) |
                    with_reducible apply ev_dropStaged | with_reducible apply ev_recomputeParity |
                    with_reducible apply ev_recopyWaiting | with_reducible apply ev_copyRom | with_reducible apply ev_updDr |
                    with_reducible apply ev_settleSeg | (intro u a hu) | (intro u hu) | split | dsimp only | (intro x))

theorem ev_countLine (h : Ev m s t) (a1 : Nat) (a2 : LineRes)
    (hm : 0x20022 ||| m = m) : Ev m s (State.countLine t a1 a2) := by
  unfold State.countLine
  repeat' (first | with_reducible assumption | exact sub hm (by decide) | with_reducible apply ev_noteCorrected |
                    with_reducible apply ev_count | (intro u a hu) | (intro u hu) | split | dsimp only | (intro x))

theorem ev_execDramReadReturn (h : Ev m s t) (a0 : Nat) (a1 : List (Nat × Nat)) (u : State) (hu : execDramReadReturn a0 a1 t
    = .next u)
    (hm : 0x223d32 ||| m = m) : Ev m s u := by
  unfold execDramReadReturn at hu; injection hu with hu; subst hu
  repeat' (first | with_reducible assumption | exact sub hm (by decide) | with_reducible exact fun hw => hw |
                    with_reducible exact fun hw => wf_filter _ hw | with_reducible apply ev_updDr |
                    with_reducible apply ev_noteLate | with_reducible apply ev_countLine |
                    with_reducible apply ev_settleLine | (intro u a hu) | (intro u hu) | split | dsimp only | (intro x))

theorem ev_execDramRefresh (h : Ev m s t) (a0 : Nat) (a1 : Nat) (u : State) (hu : execDramRefresh a0 a1 t = .next u)
    (hm : 0x20000 ||| m = m) : Ev m s u := by
  unfold execDramRefresh at hu; injection hu with hu; subst hu
  repeat' (first | with_reducible assumption | exact sub hm (by decide) | with_reducible exact fun hw => hw |
                    with_reducible exact fun hw => wf_spSet _ _ hw | with_reducible exact fun hw => wf_spSetRun _ _ hw |
                    with_reducible apply ev_updDr | (intro u a hu) | (intro u hu) | split | dsimp only | (intro x))

theorem ev_endPass (h : Ev m s t)
    (hm : 0x20002 ||| m = m) : Ev m s (State.endPass t) := by
  unfold State.endPass
  repeat' (first | with_reducible assumption | exact sub hm (by decide) | with_reducible exact fun hw => hw |
                    with_reducible exact fun _ => wf_nil _ | with_reducible apply ev_updDr | with_reducible apply ev_count |
                    with_reducible apply ev_wr | with_reducible apply ev_each | (intro u a hu) | (intro u hu) | split |
                    dsimp only | (intro x))

theorem ev_patrolLine (h : Ev m s t) (a1 : Nat) (a2 : LineRes)
    (hm : 0x223d32 ||| m = m) : Ev m s (State.patrolLine t a1 a2) := by
  unfold State.patrolLine
  repeat' (first | with_reducible assumption | exact sub hm (by decide) | with_reducible exact fun hw => hw |
                    with_reducible exact fun hw => wf_spSet _ _ hw | with_reducible exact fun hw => wf_spSetRun _ _ hw |
                    with_reducible apply ev_updDr | with_reducible apply ev_countLine | with_reducible apply ev_aev |
                    with_reducible apply ev_settleLine | (intro u a hu) | (intro u hu) | split | dsimp only | (intro x))

theorem ev_execDramPatrolRead (h : Ev m s t) (a0 : Nat) (a1 : List (Nat × Nat)) (u : State) (hu : execDramPatrolRead a0 a1 t
    = .next u)
    (hm : 0x223d32 ||| m = m) : Ev m s u := by
  unfold execDramPatrolRead at hu; injection hu with hu; subst hu
  repeat' (first | with_reducible assumption | exact sub hm (by decide) | with_reducible exact fun hw => hw |
                    with_reducible apply ev_updDr | with_reducible apply ev_patrolLine | with_reducible apply ev_wr |
                    with_reducible apply ev_endPass | (intro u a hu) | (intro u hu) | split | dsimp only | (intro x))

theorem ev_dscrubGo (h : Ev m s t) (a1 : Nat) (a2 : Nat)
    (hm : 0x20022 ||| m = m) : Ev m s (State.dscrubGo t a1 a2) := by
  unfold State.dscrubGo
  repeat' (first | with_reducible assumption | exact sub hm (by decide) | with_reducible exact fun hw => hw |
                    with_reducible apply ev_wr | with_reducible apply ev_discarded | with_reducible apply ev_updDr |
                    (intro u a hu) | (intro u hu) | split | dsimp only | (intro x))

theorem ev_execDramScrubGo (h : Ev m s t) (a0 : Nat) (a1 : Nat) (u : State) (hu : execDramScrubGo a0 a1 t = .next u)
    (hm : 0x20022 ||| m = m) : Ev m s u := by
  unfold execDramScrubGo at hu; injection hu with hu; subst hu
  repeat' (first | with_reducible assumption | exact sub hm (by decide) | with_reducible apply ev_dscrubGo | (intro u a hu) |
                    (intro u hu) | split | dsimp only | (intro x))

theorem ev_dscrubCancel (h : Ev m s t)
    (hm : 0x20000 ||| m = m) : Ev m s (State.dscrubCancel t) := by
  unfold State.dscrubCancel
  repeat' (first | with_reducible assumption | exact sub hm (by decide) | with_reducible exact fun hw => hw |
                    with_reducible apply ev_updDr | (intro u a hu) | (intro u hu) | split | dsimp only | (intro x))

theorem ev_execDramScrubCancel (h : Ev m s t) (a0 : Nat) (u : State) (hu : execDramScrubCancel a0 t = .next u)
    (hm : 0x20000 ||| m = m) : Ev m s u := by
  unfold execDramScrubCancel at hu; injection hu with hu; subst hu
  repeat' (first | with_reducible assumption | exact sub hm (by decide) | with_reducible apply ev_dscrubCancel |
                    (intro u a hu) | (intro u hu) | split | dsimp only | (intro x))

theorem ev_endDScrub (h : Ev m s t) (a1 : DScrub) (a2 : Nat)
    (hm : 0x20022 ||| m = m) : Ev m s (State.endDScrub t a1 a2) := by
  unfold State.endDScrub
  repeat' (first | with_reducible assumption | exact sub hm (by decide) | with_reducible exact fun hw => hw |
                    with_reducible apply ev_updDr | with_reducible apply ev_wr | with_reducible apply ev_aev |
                    with_reducible apply ev_each | (intro u a hu) | (intro u hu) | split | dsimp only | (intro x))

theorem ev_execDramScrubEnd (h : Ev m s t)  (u : State) (hu : execDramScrubEnd t = .next u)
    (hm : 0x20022 ||| m = m) : Ev m s u := by
  unfold execDramScrubEnd at hu; injection hu with hu; subst hu
  repeat' (first | with_reducible assumption | exact sub hm (by decide) | with_reducible apply ev_endDScrub | (intro u a hu) |
                    (intro u hu) | split | dsimp only | (intro x))

theorem ev_noteRepairs (h : Ev m s t)
    (hm : 0x2 ||| m = m) : Ev m s (State.noteRepairs t) := by
  unfold State.noteRepairs
  repeat' (first | with_reducible assumption | exact sub hm (by decide) | with_reducible exact fun hw => wf_filter _ hw |
                    with_reducible apply ev_wr | (intro u a hu) | (intro u hu) | split | dsimp only | (intro x))

theorem ev_listRow (h : Ev m s t) (a1 : RepRow)
    (hm : 0x80002 ||| m = m) : Ev m s (State.listRow t a1) := by
  unfold State.listRow
  repeat' (first | with_reducible assumption | exact sub hm (by decide) | with_reducible apply ev_noteRepairs |
                    with_reducible apply ev_addRepairRow | (intro u a hu) | (intro u hu) | split | dsimp only | (intro x))

theorem ev_execRowRepairQueued (h : Ev m s t) (a0 : Nat) (a1 : Nat) (a2 : Nat) (a3 : Nat) (a4 : Bool) (u : State) (hu :
    execRowRepairQueued a0 a1 a2 a3 a4 t = .next u)
    (hm : 0xa0022 ||| m = m) : Ev m s u := by
  unfold execRowRepairQueued at hu; injection hu with hu; subst hu
  repeat' (first | with_reducible assumption | exact sub hm (by decide) | with_reducible exact fun hw => hw |
                    with_reducible apply ev_aev | with_reducible apply ev_wr | with_reducible apply ev_updDr |
                    with_reducible apply ev_listRow | (intro u a hu) | (intro u hu) | split | dsimp only | (intro x))

theorem ev_execRowRepairStart (h : Ev m s t)  (u : State) (hu : execRowRepairStart t = .next u)
    (hm : 0x20002 ||| m = m) : Ev m s u := by
  unfold execRowRepairStart at hu; injection hu with hu; subst hu
  repeat' (first | with_reducible assumption | exact sub hm (by decide) | with_reducible exact fun hw => hw |
                    with_reducible apply ev_wr | with_reducible apply ev_updDr | (intro u a hu) | (intro u hu) | split |
                    dsimp only | (intro x))

theorem ev_repairLine (h : Ev m s t) (a1 : Nat) (a2 : List (Nat × Nat))
    (hm : 0x20022 ||| m = m) : Ev m s (State.repairLine t a1 a2) := by
  unfold State.repairLine
  repeat' (first | with_reducible assumption | exact sub hm (by decide) | with_reducible apply ev_lineWritten |
                    with_reducible apply ev_countLine | (intro u a hu) | (intro u hu) | split | dsimp only | (intro x))

theorem ev_issuePostponed (h : Ev m s t)
    (hm : 0x20000 ||| m = m) : Ev m s (State.issuePostponed t) := by
  unfold State.issuePostponed
  repeat' (first | with_reducible assumption | exact sub hm (by decide) | with_reducible exact fun hw => hw |
                    with_reducible exact fun hw => wf_spSet _ _ hw | with_reducible exact fun hw => wf_spSetRun _ _ hw |
                    with_reducible exact fun _ => wf_nil _ | with_reducible apply ev_updDr | with_reducible apply ev_foldl |
                    with_reducible apply ev_foldl_snd | with_reducible apply ev_foldl_fst | (intro u a hu) | (intro u hu) |
                    split | dsimp only | (intro x))

theorem ev_execRowRepairEnd (h : Ev m s t) (a0 : List (Nat × List (Nat × Nat))) (u : State) (hu : execRowRepairEnd a0 t =
    .next u)
    (hm : 0xa0022 ||| m = m) : Ev m s u := by
  unfold execRowRepairEnd at hu; injection hu with hu; subst hu
  repeat' (first | with_reducible assumption | exact sub hm (by decide) | with_reducible exact fun hw => hw |
                    with_reducible exact fun hw => wf_filter _ hw | with_reducible apply ev_repairLine |
                    with_reducible apply ev_updDr | with_reducible apply ev_issuePostponed | with_reducible apply ev_aev |
                    with_reducible apply ev_count | with_reducible apply ev_listRow | with_reducible apply ev_wr |
                    with_reducible apply ev_each | (intro u a hu) | (intro u hu) | split | dsimp only | (intro x))

theorem ev_helperWrite (h : Ev m s t) (a1 : Nat) (a2 : Nat)
    (hm : 0x22 ||| m = m) : Ev m s (State.helperWrite t a1 a2) := by
  unfold State.helperWrite
  repeat' (first | with_reducible assumption | exact sub hm (by decide) | with_reducible apply ev_wr |
                    with_reducible apply ev_discarded | (intro u a hu) | (intro u hu) | split | dsimp only | (intro x))

theorem ev_execHelperGo (h : Ev m s t) (a0 : Nat) (a1 : Nat) (u : State) (hu : execHelperGo a0 a1 t = .next u)
    (hm : 0x22 ||| m = m) : Ev m s u := by
  unfold execHelperGo at hu; injection hu with hu; subst hu
  repeat' (first | with_reducible assumption | exact sub hm (by decide) | with_reducible apply ev_helperWrite |
                    (intro u a hu) | (intro u hu) | split | dsimp only | (intro x))

theorem ev_execHelperDone (h : Ev m s t) (a0 : Nat) (a1 : Nat) (a2 : Nat) (u : State) (hu : execHelperDone a0 a1 a2 t = .next u)
    (hm : 0x2 ||| m = m) : Ev m s u := by
  unfold execHelperDone at hu; injection hu with hu; subst hu
  repeat' (first | with_reducible assumption | exact sub hm (by decide) | with_reducible apply ev_wr | (intro u a hu) |
                    (intro u hu) | split | dsimp only | (intro x))

theorem ev_mrFields (h : Ev m s t) (a1 : Nat) (a2 : Nat) (a3 : Nat) (a4 : Nat) (a5 : Nat)
    (hm : 0x2 ||| m = m) : Ev m s (State.mrFields t a1 a2 a3 a4 a5) := by
  unfold State.mrFields
  repeat' (first | with_reducible assumption | exact sub hm (by decide) | with_reducible apply ev_wr | (intro u a hu) |
                    (intro u hu) | split | dsimp only | (intro x))

theorem ev_mrRefused (h : Ev m s t) (a1 : Nat) (a2 : Nat) (a3 : Nat) (a4 : Nat) (a5 : Nat) (a6 : Nat)
    (hm : 0x22 ||| m = m) : Ev m s (State.mrRefused t a1 a2 a3 a4 a5 a6) := by
  unfold State.mrRefused
  repeat' (first | with_reducible assumption | exact sub hm (by decide) | with_reducible apply ev_discarded | (intro u a hu) |
                    (intro u hu) | split | dsimp only | (intro x))

theorem ev_mrWrite (h : Ev m s t) (a1 : Nat) (a2 : Nat) (a3 : Nat) (a4 : Nat) (a5 : Nat)
    (hm : 0x20022 ||| m = m) : Ev m s (State.mrWrite t a1 a2 a3 a4 a5) := by
  unfold State.mrWrite
  repeat' (first | with_reducible assumption | exact sub hm (by decide) | with_reducible exact fun hw => hw |
                    with_reducible exact fun hw => wf_spSet _ _ hw | with_reducible exact fun hw => wf_spSetRun _ _ hw |
                    with_reducible apply ev_mrRefused | with_reducible apply ev_updDr | with_reducible apply ev_mrFields |
                    with_reducible apply ev_foldl | with_reducible apply ev_foldl_snd | with_reducible apply ev_foldl_fst |
                    (intro u a hu) | (intro u hu) | split | dsimp only | (intro x))

theorem ev_mrRead (h : Ev m s t) (a1 : Nat) (a2 : Nat) (a3 : Nat) (a4 : Nat) (a5 : Nat)
    (hm : 0x32 ||| m = m) : Ev m s (State.mrRead t a1 a2 a3 a4 a5) := by
  unfold State.mrRead
  repeat' (first | with_reducible assumption | exact sub hm (by decide) | with_reducible apply ev_mrRefused |
                    with_reducible apply ev_mrFields | with_reducible apply ev_wr | with_reducible apply ev_free |
                    (refine ev_free_eq ?_ _ _ (by with_reducible assumption) ?_) | (intro u a hu) | (intro u hu) | split |
                    dsimp only | (intro x))

theorem ev_execModeRegisterWrite (h : Ev m s t) (a0 : Nat) (a1 : Nat) (a2 : Nat) (a3 : Nat) (a4 : Nat) (u : State) (hu :
    execModeRegisterWrite a0 a1 a2 a3 a4 t = .next u)
    (hm : 0x20022 ||| m = m) : Ev m s u := by
  unfold execModeRegisterWrite at hu; injection hu with hu; subst hu
  repeat' (first | with_reducible assumption | exact sub hm (by decide) | with_reducible apply ev_mrWrite | (intro u a hu) |
                    (intro u hu) | split | dsimp only | (intro x))

theorem ev_execModeRegisterRead (h : Ev m s t) (a0 : Nat) (a1 : Nat) (a2 : Nat) (a3 : Nat) (u : State) (hu :
    execModeRegisterRead a0 a1 a2 a3 t = .next u)
    (hm : 0x32 ||| m = m) : Ev m s u := by
  unfold execModeRegisterRead at hu; injection hu with hu; subst hu
  repeat' (first | with_reducible assumption | exact sub hm (by decide) | with_reducible apply ev_mrRead | (intro u a hu) |
                    (intro u hu) | split | dsimp only | (intro x))

theorem ev_flipWrite (h : Ev m s t) (a1 : Nat)
    (hm : 0x2 ||| m = m) : Ev m s (State.flipWrite t a1) := by
  unfold State.flipWrite
  repeat' (first | with_reducible assumption | exact sub hm (by decide) | with_reducible apply ev_wr | (intro u a hu) |
                    (intro u hu) | split | dsimp only | (intro x))

theorem ev_execFlipArm (h : Ev m s t) (a0 : Nat) (a1 : Nat) (u : State) (hu : execFlipArm a0 a1 t = .next u)
    (hm : 0x2 ||| m = m) : Ev m s u := by
  unfold execFlipArm at hu; injection hu with hu; subst hu
  repeat' (first | with_reducible assumption | exact sub hm (by decide) | with_reducible apply ev_flipWrite | (intro u a hu) |
                    (intro u hu) | split | dsimp only | (intro x))

theorem ev_poisonBuffer (h : Ev m s t) (a1 : Nat) (a2 : Nat)
    (hm : 0x800 ||| m = m) : Ev m s (State.poisonBuffer t a1 a2) := by
  unfold State.poisonBuffer
  repeat' (first | with_reducible assumption | exact sub hm (by decide) | with_reducible apply ev_updCtx | (intro u a hu) |
                    (intro u hu) | split | dsimp only | (intro x))

theorem ev_execSramPatrol (h : Ev m s t) (a0 : Half) (a1 : Nat) (a2 : Option SramHit) (a3 : List (Nat × Nat × Nat)) (u :
    State) (hu : execSramPatrol a0 a1 a2 a3 t = .next u)
    (hm : 0x220d22 ||| m = m) : Ev m s u := by
  unfold execSramPatrol at hu; injection hu with hu; subst hu
  repeat' (first | with_reducible assumption | exact sub hm (by decide) | with_reducible apply ev_sramVote |
                    with_reducible apply ev_sramUpset | with_reducible apply ev_count | with_reducible apply ev_poisonBuffer |
                    with_reducible apply ev_controlFault | with_reducible apply ev_each | (intro u a hu) | (intro u hu) |
                    split | dsimp only | (intro x))

/-! ### Twin.lean -/

theorem ev_shadowFault (h : Ev m s t) (a1 : Half)
    (hm : 0x122 ||| m = m) : Ev m s (State.shadowFault t a1) := by
  unfold State.shadowFault
  repeat' (first | with_reducible assumption | exact sub hm (by decide) | with_reducible apply ev_count |
                    with_reducible apply ev_recordFault | with_reducible apply ev_updHalf |
                    with_reducible apply ev_enterState | (intro u a hu) | (intro u hu) | split | dsimp only | (intro x))

theorem ev_beginSync (h : Ev m s t) (a1 : Half)
    (hm : 0x100 ||| m = m) : Ev m s (State.beginSync t a1) := by
  unfold State.beginSync
  repeat' (first | with_reducible assumption | exact sub hm (by decide) | with_reducible apply ev_updHalf |
                    with_reducible apply ev_enterState | (intro u a hu) | (intro u hu) | split | dsimp only | (intro x))

theorem ev_applyRecord (h : Ev m s t) (a1 : Half) (a2 : Shadow)
    (hm : 0x900 ||| m = m) : Ev m s (State.applyRecord t a1 a2) := by
  unfold State.applyRecord
  repeat' (first | with_reducible assumption | exact sub hm (by decide) | with_reducible exact fun hw => hw |
                    with_reducible exact fun hw => wf_filter _ hw | with_reducible apply ev_updNv |
                    with_reducible apply ev_updHalf | (intro u a hu) | (intro u hu) | split | dsimp only | (intro x))

theorem ev_execShadowRecordArrival (h : Ev m s t) (a0 : Bool) (a1 : Nat) (u : State) (hu : execShadowRecordArrival a0 a1 t =
    .next u)
    (hm : 0x922 ||| m = m) : Ev m s u := by
  unfold execShadowRecordArrival at hu; injection hu with hu; subst hu
  repeat' (first | with_reducible assumption | exact sub hm (by decide) | with_reducible apply ev_updHub |
                    with_reducible apply ev_shadowFault | with_reducible apply ev_applyRecord | (intro u a hu) |
                    (intro u hu) | split | dsimp only | (intro x))

theorem ev_execShadowDeadline (h : Ev m s t)  (u : State) (hu : execShadowDeadline t = .next u)
    (hm : 0x122 ||| m = m) : Ev m s u := by
  unfold execShadowDeadline at hu; injection hu with hu; subst hu
  repeat' (first | with_reducible assumption | exact sub hm (by decide) | with_reducible apply ev_shadowFault |
                    (intro u a hu) | (intro u hu) | split | dsimp only | (intro x))

theorem ev_execSyncComplete (h : Ev m s t)  (u : State) (hu : execSyncComplete t = .next u)
    (hm : 0x122 ||| m = m) : Ev m s u := by
  unfold execSyncComplete at hu; injection hu with hu; subst hu
  repeat' (first | with_reducible assumption | exact sub hm (by decide) | with_reducible apply ev_hev |
                    with_reducible apply ev_enterState | (intro u a hu) | (intro u hu) | split | dsimp only | (intro x))

theorem ev_execSyncTimeout (h : Ev m s t)  (u : State) (hu : execSyncTimeout t = .next u)
    (hm : 0x122 ||| m = m) : Ev m s u := by
  unfold execSyncTimeout at hu; injection hu with hu; subst hu
  repeat' (first | with_reducible assumption | exact sub hm (by decide) | with_reducible apply ev_enterUnfit |
                    (intro u a hu) | (intro u hu) | split | dsimp only | (intro x))

theorem ev_execControlFault (h : Ev m s t) (a0 : Half) (a1 : Nat) (a2 : Nat) (u : State) (hu : execControlFault a0 a1 a2 t =
    .next u)
    (hm : 0x220d22 ||| m = m) : Ev m s u := by
  unfold execControlFault at hu; injection hu with hu; subst hu
  repeat' (first | with_reducible assumption | exact sub hm (by decide) | with_reducible apply ev_controlFault |
                    (intro u a hu) | (intro u hu) | split | dsimp only | (intro x))

theorem ev_execDataPathFault (h : Ev m s t) (a0 : Half) (a1 : Nat) (a2 : Option Nat) (u : State) (hu : execDataPathFault a0
    a1 a2 t = .next u)
    (hm : 0x227d22 ||| m = m) : Ev m s u := by
  unfold execDataPathFault at hu; injection hu with hu; subst hu
  repeat' (first | with_reducible assumption | exact sub hm (by decide) | with_reducible apply ev_dpFault |
                    with_reducible apply ev_finish | (intro u a hu) | (intro u hu) | split | dsimp only | (intro x))

theorem ev_execHubFault (h : Ev m s t) (a0 : Nat) (u : State) (hu : execHubFault a0 t = .next u)
    (hm : 0x200d22 ||| m = m) : Ev m s u := by
  unfold execHubFault at hu; injection hu with hu; subst hu
  repeat' (first | with_reducible assumption | exact sub hm (by decide) | with_reducible apply ev_hubFault | (intro u a hu) |
                    (intro u hu) | split | dsimp only | (intro x))

theorem ev_dropUnfinished (h : Ev m s t)
    (hm : 0x6000 ||| m = m) : Ev m s (State.dropUnfinished t) := by
  unfold State.dropUnfinished
  repeat' (first | with_reducible assumption | exact sub hm (by decide) | with_reducible exact fun hw => hw |
                    with_reducible exact fun hw => wf_filter _ hw | with_reducible exact fun hw => ⟨hw.1, hw.2, hw.3⟩ |
                    (intro hw; constructor <;>
                     with_reducible first | exact hw.1 | exact hw.2 | exact hw.3 | exact wf_spSet _ _ hw.1 | exact wf_spSet _ _ hw.2
                                          | exact wf_spSet _ _ hw.3 | exact wf_filter _ hw.1 | exact wf_filter _ hw.3
                                          | exact wf_spMap _ hw.3 | exact wf_nil _) |
                    with_reducible apply ev_updMd | with_reducible apply ev_updLg | (intro u a hu) | (intro u hu) | split |
                    dsimp only | (intro x))

theorem ev_settleMapq (h : Ev m s t)
    (hm : 0x1000 ||| m = m) : Ev m s (State.settleMapq t) := by
  unfold State.settleMapq
  repeat' (first | with_reducible assumption | exact sub hm (by decide) | with_reducible exact fun hw => hw |
                    with_reducible exact fun hw => wf_filter _ hw | with_reducible apply ev_updTr | (intro u a hu) |
                    (intro u hu) | split | dsimp only | (intro x))

theorem ev_settleOps (h : Ev m s t)
    (hm : 0x7800 ||| m = m) : Ev m s (State.settleOps t) := by
  unfold State.settleOps
  repeat' (first | with_reducible assumption | exact sub hm (by decide) | with_reducible exact fun hw => hw |
                    with_reducible exact fun hw => wf_filter _ hw | with_reducible exact fun hw => ⟨hw.1, hw.2, hw.3⟩ |
                    (intro hw; constructor <;>
                     with_reducible first | exact hw.1 | exact hw.2 | exact hw.3 | exact wf_spSet _ _ hw.1 | exact wf_spSet _ _ hw.2
                                          | exact wf_spSet _ _ hw.3 | exact wf_filter _ hw.1 | exact wf_filter _ hw.3
                                          | exact wf_spMap _ hw.3 | exact wf_nil _) |
                    with_reducible exact fun _ => wf_nil _ | with_reducible apply ev_dropProgram |
                    with_reducible apply ev_updMd | with_reducible apply ev_each | (intro u a hu) | (intro u hu) | split |
                    dsimp only | (intro x))

theorem ev_dropErase (h : Ev m s t) (a1 : Erase)
    (hm : 0x2000 ||| m = m) : Ev m s (State.dropErase t a1) := by
  unfold State.dropErase
  repeat' (first | with_reducible assumption | exact sub hm (by decide) | with_reducible exact fun hw => hw |
                    with_reducible exact fun hw => wf_filter _ hw | with_reducible exact fun hw => ⟨hw.1, hw.2, hw.3⟩ |
                    (intro hw; constructor <;>
                     with_reducible first | exact hw.1 | exact hw.2 | exact hw.3 | exact wf_spSet _ _ hw.1 | exact wf_spSet _ _ hw.2
                                          | exact wf_spSet _ _ hw.3 | exact wf_filter _ hw.1 | exact wf_filter _ hw.3
                                          | exact wf_spMap _ hw.3 | exact wf_nil _) |
                    with_reducible apply ev_updMd | with_reducible apply ev_setDieBlk | (intro u a hu) | (intro u hu) |
                    split | dsimp only | (intro x))

theorem ev_settleVictims (h : Ev m s t)
    (hm : 0x6000 ||| m = m) : Ev m s (State.settleVictims t) := by
  unfold State.settleVictims
  repeat' (first | with_reducible assumption | exact sub hm (by decide) | with_reducible exact fun hw => wf_filter _ hw |
                    with_reducible apply ev_dropErase | with_reducible apply ev_setSbSt |
                    (refine ev_eraseIntent ?_ _ _ _ (by with_reducible assumption) ?_) | with_reducible apply ev_each |
                    with_reducible apply ev_getD | (intro u a hu) | (intro u hu) | split | dsimp only | (intro x))

theorem ev_settleVers (h : Ev m s t) (a1 : Bool)
    (hm : 0x5000 ||| m = m) : Ev m s (State.settleVers t a1) := by
  unfold State.settleVers
  repeat' (first | with_reducible assumption | exact sub hm (by decide) | with_reducible exact fun hw => hw |
                    with_reducible exact fun _ => wf_nil _ | with_reducible apply ev_freeVers |
                    with_reducible apply ev_updTr | (intro u a hu) | (intro u hu) | split | dsimp only | (intro x))

theorem ev_settleParts (h : Ev m s t)
    (hm : 0x7c02 ||| m = m) : Ev m s (State.settleParts t) := by
  unfold State.settleParts
  repeat' (first | with_reducible assumption | exact sub hm (by decide) | with_reducible exact fun hw => hw |
                    with_reducible exact fun hw => wf_filter _ hw | with_reducible exact fun _ => wf_nil _ |
                    with_reducible apply ev_commitPoint | with_reducible apply ev_updTr | with_reducible apply ev_updPart |
                    with_reducible apply ev_each | (intro u a hu) | (intro u hu) | split | dsimp only | (intro x))

theorem ev_reformParts (h : Ev m s t) (a1 : Ctx) (a2 : Nat)
    (hm : 0x5800 ||| m = m) : Ev m s (State.reformParts t a1 a2) := by
  unfold State.reformParts
  repeat' (first | with_reducible assumption | exact sub hm (by decide) | with_reducible exact fun hw => hw |
                    with_reducible exact fun hw => wf_filter _ hw | with_reducible apply ev_addParts |
                    with_reducible apply ev_updTr | (intro u a hu) | (intro u hu) | split | dsimp only | (intro x))

theorem ev_restartCtx (h : Ev m s t) (a1 : Ctx)
    (hm : 0x237d22 ||| m = m) : Ev m s (State.restartCtx t a1) := by
  unfold State.restartCtx
  repeat' (first | with_reducible assumption | exact sub hm (by decide) | with_reducible exact fun _ => wf_nil _ |
                    with_reducible apply ev_updCtx | with_reducible apply ev_beginXfer | with_reducible apply ev_reformParts |
                    with_reducible apply ev_advance | with_reducible apply ev_openBatch | with_reducible apply ev_flushDone |
                    (intro u a hu) | (intro u hu) | split | dsimp only | (intro x))

theorem ev_undecide (h : Ev m s t)
    (hm : 0x800 ||| m = m) : Ev m s (State.undecide t) := by
  unfold State.undecide
  repeat' (first | with_reducible assumption | exact sub hm (by decide) | with_reducible exact fun hw => hw |
                    with_reducible exact fun hw => wf_filter _ hw | with_reducible apply ev_updNv | (intro u a hu) |
                    (intro u hu) | split | dsimp only | (intro x))

theorem ev_settleQueues (h : Ev m s t) (a1 : Shadow)
    (hm : 0x800 ||| m = m) : Ev m s (State.settleQueues t a1) := by
  unfold State.settleQueues
  repeat' (first | with_reducible assumption | exact sub hm (by decide) | with_reducible exact fun hw => hw |
                    with_reducible exact fun hw => wf_filter _ hw | with_reducible apply ev_updNv | (intro u a hu) |
                    (intro u hu) | split | dsimp only | (intro x))

theorem ev_settleCtxs (h : Ev m s t) (a1 : Shadow)
    (hm : 0x7c02 ||| m = m) : Ev m s (State.settleCtxs t a1) := by
  unfold State.settleCtxs
  repeat' (first | with_reducible assumption | exact sub hm (by decide) | with_reducible exact fun hw => hw |
                    with_reducible exact fun hw => wf_filter _ hw | with_reducible apply ev_undecide |
                    with_reducible apply ev_settleParts | with_reducible apply ev_updNv | with_reducible apply ev_killCtx |
                    with_reducible apply ev_grantParts | with_reducible apply ev_settleQueues | with_reducible apply ev_each |
                    (intro u a hu) | (intro u hu) | split | dsimp only | (intro x))

theorem ev_settleRole (h : Ev m s t) (a1 : Half) (a2 : Bool)
    (hm : 0x237d22 ||| m = m) : Ev m s (State.settleRole t a1 a2) := by
  unfold State.settleRole
  repeat' (first | with_reducible assumption | exact sub hm (by decide) | with_reducible exact fun hw => hw |
                    with_reducible exact fun hw => wf_filter _ hw | with_reducible exact fun hw => ⟨hw.1, hw.2, hw.3⟩ |
                    (intro hw; constructor <;>
                     with_reducible first | exact hw.1 | exact hw.2 | exact hw.3 | exact wf_spSet _ _ hw.1 | exact wf_spSet _ _ hw.2
                                          | exact wf_spSet _ _ hw.3 | exact wf_filter _ hw.1 | exact wf_nil _) |
                    with_reducible exact fun _ => wf_nil _ | with_reducible apply ev_dropUnfinished |
                    with_reducible apply ev_settleOps | with_reducible apply ev_settleMapq |
                    with_reducible apply ev_settleVers | with_reducible apply ev_settleCtxs |
                    with_reducible apply ev_closeOpenStripes | with_reducible apply ev_settleVictims |
                    with_reducible apply ev_updRg | with_reducible apply ev_endScrub | with_reducible apply ev_endDScrub |
                    with_reducible apply ev_restartCtx | with_reducible apply ev_each | with_reducible apply ev_getD |
                    (intro u a hu) | (intro u hu) | split | dsimp only | (intro x))

theorem ev_copyPlan (h : Ev m s t) (a1 : Half) (a2 : Half)
    (hm : 0x2 ||| m = m) : Ev m s (State.copyPlan t a1 a2) := by
  unfold State.copyPlan
  repeat' (first | with_reducible assumption | exact sub hm (by decide) | with_reducible exact fun hw => hw |
                    with_reducible exact fun hw => wf_spSet _ _ hw | with_reducible exact fun hw => wf_spSetRun _ _ hw |
                    with_reducible exact fun hw => wf_filter _ hw | with_reducible apply ev_each | (intro u a hu) |
                    (intro u hu) | split | dsimp only | (intro x) | with_reducible apply ev_mk_regs)

theorem ev_takeRole (h : Ev m s t) (a1 : Half) (a2 : Bool)
    (hm : 0x337d22 ||| m = m) : Ev m s (State.takeRole t a1 a2) := by
  unfold State.takeRole
  repeat' (first | with_reducible assumption | exact sub hm (by decide) | with_reducible exact fun hw => hw |
                    with_reducible exact fun _ => wf_nil _ | with_reducible apply ev_updHub | with_reducible apply ev_grant |
                    with_reducible apply ev_copyPlan | with_reducible apply ev_dropDram | with_reducible apply ev_count |
                    with_reducible apply ev_wr | with_reducible apply ev_endUpdate | with_reducible apply ev_endSessions |
                    with_reducible apply ev_settleRole | with_reducible apply ev_updHalf | with_reducible apply ev_updNv |
                    with_reducible apply ev_updFn | with_reducible apply ev_each | (intro u a hu) | (intro u hu) | split |
                    dsimp only | (intro x))

theorem ev_execTakeoverReady (h : Ev m s t)  (u : State) (hu : execTakeoverReady t = .next u)
    (hm : 0x100 ||| m = m) : Ev m s u := by
  unfold execTakeoverReady at hu; injection hu with hu; subst hu
  repeat' (first | with_reducible assumption | exact sub hm (by decide) | with_reducible apply ev_updHub | (intro u a hu) |
                    (intro u hu) | split | dsimp only | (intro x))

theorem ev_execTakeoverTimeout (h : Ev m s t)  (u : State) (hu : execTakeoverTimeout t = .next u)
    (hm : 0x200d22 ||| m = m) : Ev m s u := by
  unfold execTakeoverTimeout at hu; injection hu with hu; subst hu
  repeat' (first | with_reducible assumption | exact sub hm (by decide) | with_reducible apply ev_fence | (intro u a hu) |
                    (intro u hu) | split | dsimp only | (intro x))

theorem ev_releaseHold (h : Ev m s t) (a1 : TakeOver)
    (hm : 0x267d22 ||| m = m) : Ev m s (State.releaseHold t a1) := by
  unfold State.releaseHold
  repeat' (first | with_reducible assumption | exact sub hm (by decide) | with_reducible apply ev_wr |
                    with_reducible apply ev_noteOverrun | with_reducible apply ev_updHub | with_reducible apply ev_aerPfs |
                    with_reducible apply ev_issueAll | with_reducible apply ev_resumeReads | with_reducible apply ev_pump |
                    with_reducible apply ev_drain | with_reducible apply ev_drainIngress | (intro u a hu) | (intro u hu) |
                    split | dsimp only | (intro x))

theorem ev_updDrill (h : Ev m s t) (a1 : Drill → Drill)
    (hm : 0x100 ||| m = m) : Ev m s (State.updDrill t a1) := by
  unfold State.updDrill
  repeat' (first | with_reducible assumption | exact sub hm (by decide) | with_reducible exact fun hw => hw |
                    with_reducible apply ev_updHub | (intro u a hu) | (intro u hu) | split | dsimp only | (intro x))

theorem ev_drillNow (h : Ev m s t)
    (hm : 0x102 ||| m = m) : Ev m s (State.drillNow t) := by
  unfold State.drillNow
  repeat' (first | with_reducible assumption | exact sub hm (by decide) | with_reducible exact fun hw => hw |
                    with_reducible apply ev_updDrill | with_reducible apply ev_wr | (intro u a hu) | (intro u hu) | split |
                    dsimp only | (intro x))

theorem ev_execDrillNow (h : Ev m s t) (a0 : Nat) (u : State) (hu : execDrillNow a0 t = .next u)
    (hm : 0x102 ||| m = m) : Ev m s u := by
  unfold execDrillNow at hu; injection hu with hu; subst hu
  repeat' (first | with_reducible assumption | exact sub hm (by decide) | with_reducible apply ev_drillNow | (intro u a hu) |
                    (intro u hu) | split | dsimp only | (intro x))

theorem ev_execDrillMark (h : Ev m s t)  (u : State) (hu : execDrillMark t = .next u)
    (hm : 0x100 ||| m = m) : Ev m s u := by
  unfold execDrillMark at hu; injection hu with hu; subst hu
  repeat' (first | with_reducible assumption | exact sub hm (by decide) | with_reducible exact fun hw => hw |
                    with_reducible apply ev_updDrill | (intro u a hu) | (intro u hu) | split | dsimp only | (intro x))

theorem ev_execDrillBegin (h : Ev m s t)  (u : State) (hu : execDrillBegin t = .next u)
    (hm : 0x220d02 ||| m = m) : Ev m s u := by
  unfold execDrillBegin at hu; injection hu with hu; subst hu
  repeat' (first | with_reducible assumption | exact sub hm (by decide) | with_reducible exact fun hw => hw |
                    with_reducible apply ev_enterState | with_reducible apply ev_beginHold | with_reducible apply ev_wr |
                    with_reducible apply ev_updDrill | with_reducible apply ev_issueAll | (intro u a hu) | (intro u hu) |
                    split | dsimp only | (intro x))

theorem ev_execDrillGrant (h : Ev m s t)  (u : State) (hu : execDrillGrant t = .next u)
    (hm : 0x337d22 ||| m = m) : Ev m s u := by
  unfold execDrillGrant at hu; injection hu with hu; subst hu
  repeat' (first | with_reducible assumption | exact sub hm (by decide) | with_reducible exact fun hw => hw |
                    with_reducible apply ev_updDrill | with_reducible apply ev_takeRole | (intro u a hu) | (intro u hu) |
                    split | dsimp only | (intro x))

theorem ev_execDrillReadyTimeout (h : Ev m s t)  (u : State) (hu : execDrillReadyTimeout t = .next u)
    (hm : 0x337d22 ||| m = m) : Ev m s u := by
  unfold execDrillReadyTimeout at hu; injection hu with hu; subst hu
  repeat' (first | with_reducible assumption | exact sub hm (by decide) | with_reducible apply ev_updHalf |
                    with_reducible apply ev_recordFault | with_reducible apply ev_takeRole |
                    with_reducible apply ev_enterUnfit | with_reducible apply ev_drillFailed | (intro u a hu) | (intro u hu) |
                    split | dsimp only | (intro x))

theorem ev_execDrillPass (h : Ev m s t)  (u : State) (hu : execDrillPass t = .next u)
    (hm : 0x122 ||| m = m) : Ev m s u := by
  unfold execDrillPass at hu; injection hu with hu; subst hu
  repeat' (first | with_reducible assumption | exact sub hm (by decide) | with_reducible exact fun hw => hw |
                    with_reducible apply ev_hev | with_reducible apply ev_count | with_reducible apply ev_wr |
                    with_reducible apply ev_updDrill | (intro u a hu) | (intro u hu) | split | dsimp only | (intro x))

theorem ev_execDrillDeferralReport (h : Ev m s t)  (u : State) (hu : execDrillDeferralReport t = .next u)
    (hm : 0x122 ||| m = m) : Ev m s u := by
  unfold execDrillDeferralReport at hu; injection hu with hu; subst hu
  repeat' (first | with_reducible assumption | exact sub hm (by decide) | with_reducible exact fun hw => hw |
                    with_reducible apply ev_hev | with_reducible apply ev_updDrill | (intro u a hu) | (intro u hu) | split |
                    dsimp only | (intro x))

theorem ev_abandonDrill (h : Ev m s t)
    (hm : 0x102 ||| m = m) : Ev m s (State.abandonDrill t) := by
  unfold State.abandonDrill
  repeat' (first | with_reducible assumption | exact sub hm (by decide) | with_reducible exact fun hw => hw |
                    with_reducible apply ev_updHub | with_reducible apply ev_enterState | with_reducible apply ev_wr |
                    with_reducible apply ev_updDrill | (intro u a hu) | (intro u hu) | split | dsimp only | (intro x))

theorem ev_loadHalf (h : Ev m s t) (a1 : Half)
    (hm : 0x1c2 ||| m = m) : Ev m s (State.loadHalf t a1) := by
  unfold State.loadHalf
  repeat' (first | with_reducible assumption | exact sub hm (by decide) | with_reducible exact fun _ => wf_nil _ |
                    with_reducible apply ev_updHalf | with_reducible apply ev_sramClear | with_reducible apply ev_freeLocks |
                    with_reducible apply ev_emptyChimes | with_reducible apply ev_setHalfDoms | (intro u a hu) |
                    (intro u hu) | split | dsimp only | (intro x))

theorem ev_beginRestore (h : Ev m s t) (a1 : Half)
    (hm : 0x1c2 ||| m = m) : Ev m s (State.beginRestore t a1) := by
  unfold State.beginRestore
  repeat' (first | with_reducible assumption | exact sub hm (by decide) | with_reducible apply ev_updHub |
                    with_reducible apply ev_wr | with_reducible apply ev_loadHalf | (intro u a hu) | (intro u hu) | split |
                    dsimp only | (intro x))

theorem ev_restoreWrite (h : Ev m s t) (a1 : Nat)
    (hm : 0x1e2 ||| m = m) : Ev m s (State.restoreWrite t a1) := by
  unfold State.restoreWrite
  repeat' (first | with_reducible assumption | exact sub hm (by decide) | with_reducible apply ev_discarded |
                    with_reducible apply ev_beginRestore | with_reducible apply ev_wr | (intro u a hu) | (intro u hu) |
                    split | dsimp only | (intro x))

theorem ev_execRestore (h : Ev m s t) (a0 : Nat) (u : State) (hu : execRestore a0 t = .next u)
    (hm : 0x1e2 ||| m = m) : Ev m s u := by
  unfold execRestore at hu; injection hu with hu; subst hu
  repeat' (first | with_reducible assumption | exact sub hm (by decide) | with_reducible apply ev_restoreWrite |
                    (intro u a hu) | (intro u hu) | split | dsimp only | (intro x))

theorem ev_execAutoRestore (h : Ev m s t)  (u : State) (hu : execAutoRestore t = .next u)
    (hm : 0x1c2 ||| m = m) : Ev m s u := by
  unfold execAutoRestore at hu; injection hu with hu; subst hu
  repeat' (first | with_reducible assumption | exact sub hm (by decide) | with_reducible apply ev_beginRestore |
                    (intro u a hu) | (intro u hu) | split | dsimp only | (intro x))

theorem ev_selfTestFails (h : Ev m s t) (a1 : Half)
    (hm : 0x132 ||| m = m) : Ev m s (State.selfTestFails t a1) := by
  unfold State.selfTestFails
  repeat' (first | with_reducible assumption | exact sub hm (by decide) | with_reducible apply ev_free |
                    (refine ev_free_eq ?_ _ _ (by with_reducible assumption) ?_) | with_reducible apply ev_enterUnfit |
                    with_reducible apply ev_recordFault | (intro u a hu) | (intro u hu) | split | dsimp only | (intro x))

theorem ev_execRestoreSelfTestDone (h : Ev m s t) (a0 : Bool) (u : State) (hu : execRestoreSelfTestDone a0 t = .next u)
    (hm : 0x132 ||| m = m) : Ev m s u := by
  unfold execRestoreSelfTestDone at hu; injection hu with hu; subst hu
  repeat' (first | with_reducible assumption | exact sub hm (by decide) | with_reducible apply ev_updHub |
                    with_reducible apply ev_beginSync | with_reducible apply ev_loadImage |
                    with_reducible apply ev_selfTestFails | (intro u a hu) | (intro u hu) | split | dsimp only | (intro x))

theorem ev_execFencedStateEntry (h : Ev m s t) (a0 : Nat) (u : State) (hu : execFencedStateEntry a0 t = .next u)
    (hm : 0x200d22 ||| m = m) : Ev m s u := by
  unfold execFencedStateEntry at hu; injection hu with hu; subst hu
  repeat' (first | with_reducible assumption | exact sub hm (by decide) | with_reducible apply ev_fence | (intro u a hu) |
                    (intro u hu) | split | dsimp only | (intro x))

theorem ev_execFenceFlushEnd (h : Ev m s t)  (u : State) (hu : execFenceFlushEnd t = .next u)
    (hm : 0x120 ||| m = m) : Ev m s u := by
  unfold execFenceFlushEnd at hu; injection hu with hu; subst hu
  repeat' (first | with_reducible assumption | exact sub hm (by decide) | with_reducible exact fun hw => hw |
                    with_reducible apply ev_updEvt | with_reducible apply ev_updHub | (intro u a hu) | (intro u hu) | split |
                    dsimp only | (intro x))

/-! ### Startup.lean -/

theorem ev_settleJournal (h : Ev m s t)
    (hm : 0x7c02 ||| m = m) : Ev m s (State.settleJournal t) := by
  unfold State.settleJournal
  repeat' (first | with_reducible assumption | exact sub hm (by decide) | with_reducible exact fun hw => hw |
                    with_reducible apply ev_updTr | with_reducible apply ev_settleMapq | with_reducible apply ev_settleParts |
                    (intro u a hu) | (intro u hu) | split | dsimp only | (intro x))

theorem ev_powerOn (h : Ev m s t) (a1 : Nat) (a2 : Nat)
    (hm : 0x3fffff ||| m = m) : Ev m s (State.powerOn t a1 a2) := by
  have h1 : ∀ x : State, Ev m s x → Ev m s { State.reset with
      pending := x.pending, variant := x.variant, freeCtr := x.freeCtr, out := x.out, evt := x.eventsAfter,
      nv := { Nvme.init with fns := spMap (fun _ => .init) x.nv.fns (fun _ x => x.after), nextCtx := x.nv.nextCtx },
      tr := x.transAfter, md := x.mediaAfter, lg := x.ledgerAfter, slots := x.slots.map Slot.unpowered,
      rg := { Regul.init with saved := x.rg.saved },
      bt := { Boot.init with
        arr := x.bt.arr, seq := x.bt.seq, fmts := x.bt.fmts, trip := x.bt.trip, cycles := x.bt.cycles + 1,
        onBeats := x.bt.onBeats + x.time.beat },
      sv := { Svc.init with aliasGen := x.sv.aliasGen } } := fun x h2 =>
    ⟨⟨h2.ev.variant, h2.ev.pending, h2.ev.free, h2.ev.out, fun i =>
        let j := h2.ev.inv i
        { regs := rfl, words := j.words, arr := j.arr, map := rfl
          media := ⟨j.media.flash, wf_spMap (fun _ (x : Die) => if x.st = 1 then { x with st := 3, noResp := 0 } else x)
              j.media.dies,
            j.media.blks⟩
          cmb := rfl, queue := Nat.zero_le _, chan := rfl, locks := rfl
          fns := wf_spMap (fun _ (x : Fn) => x.after) j.fns
          regul := ⟨rfl, rfl, j.regul.saved⟩, recs := rfl }⟩,
      fun p hp => absurd (outside hm hp) (by cases p <;> decide)⟩
  unfold State.powerOn
  repeat' (first | with_reducible assumption | exact sub hm (by decide) | with_reducible exact fun hw => hw |
                    with_reducible exact fun hw => ⟨hw.1, hw.2, hw.3⟩ | with_reducible apply ev_wr |
                    with_reducible apply ev_each | with_reducible apply h1 | with_reducible apply ev_settleJournal |
                    with_reducible apply ev_spoil | (intro u a hu) | split | dsimp only)

theorem ev_execPowerOnReset (h : Ev m s t) (a0 : Nat) (a1 : Nat) (u : State) (hu : execPowerOnReset a0 a1 t = .next u)
    (hm : 0x3fffff ||| m = m) : Ev m s u := by
  unfold execPowerOnReset at hu; injection hu with hu; subst hu
  repeat' (first | with_reducible assumption | exact sub hm (by decide) | with_reducible apply ev_powerOn | (intro u a hu) |
                    (intro u hu) | split | dsimp only | (intro x))

theorem ev_toStep (h : Ev m s t) (a1 : Nat)
    (hm : 0x80002 ||| m = m) : Ev m s (State.toStep t a1) := by
  unfold State.toStep
  repeat' (first | with_reducible assumption | exact sub hm (by decide) | with_reducible exact fun hw => hw |
                    with_reducible apply ev_updBt | with_reducible apply ev_wr | (intro u a hu) | (intro u hu) | split |
                    dsimp only | (intro x))

theorem ev_releaseHalf (h : Ev m s t) (a1 : Half)
    (hm : 0x801c2 ||| m = m) : Ev m s (State.releaseHalf t a1) := by
  unfold State.releaseHalf
  repeat' (first | with_reducible assumption | exact sub hm (by decide) | with_reducible exact fun hw => hw |
                    with_reducible apply ev_updBt | with_reducible apply ev_toStep | with_reducible apply ev_wr |
                    with_reducible apply ev_loadHalf | (intro u a hu) | (intro u hu) | split | dsimp only | (intro x))

theorem ev_execBootingHalfRelease (h : Ev m s t)  (u : State) (hu : execBootingHalfRelease t = .next u)
    (hm : 0x801c2 ||| m = m) : Ev m s u := by
  unfold execBootingHalfRelease at hu; injection hu with hu; subst hu
  repeat' (first | with_reducible assumption | exact sub hm (by decide) | with_reducible apply ev_releaseHalf |
                    (intro u a hu) | (intro u hu) | split | dsimp only | (intro x))

theorem ev_stopStart (h : Ev m s t) (a1 : Nat)
    (hm : 0x180022 ||| m = m) : Ev m s (State.stopStart t a1) := by
  unfold State.stopStart
  repeat' (first | with_reducible assumption | exact sub hm (by decide) | with_reducible exact fun hw => hw |
                    with_reducible apply ev_hev | with_reducible apply ev_wr | with_reducible apply ev_toStep |
                    with_reducible apply ev_when | (intro u a hu) | (intro u hu) | split | dsimp only | (intro x) |
                    with_reducible apply ev_mk_sv)

theorem ev_bootFails (h : Ev m s t) (a1 : Half) (a2 : Nat)
    (hm : 0x222132 ||| m = m) : Ev m s (State.bootFails t a1 a2) := by
  unfold State.bootFails
  repeat' (first | with_reducible assumption | exact sub hm (by decide) | with_reducible apply ev_free |
                    (refine ev_free_eq ?_ _ _ (by with_reducible assumption) ?_) | with_reducible apply ev_unchoose |
                    with_reducible apply ev_enterUnfit | with_reducible apply ev_withdraw |
                    with_reducible apply ev_recordFault | (intro u a hu) | (intro u hu) | split | dsimp only | (intro x))

theorem ev_bootLapse (h : Ev m s t) (a1 : Half)
    (hm : 0x3fffff ||| m = m) : Ev m s (State.bootLapse t a1) := by
  unfold State.bootLapse
  repeat' (first | with_reducible assumption | exact sub hm (by decide) | with_reducible exact fun hw => hw |
                    with_reducible apply ev_updHub | with_reducible apply ev_updBt | with_reducible apply ev_unchoose |
                    with_reducible apply ev_releaseHalf | with_reducible apply ev_powerOn |
                    with_reducible apply ev_stopStart | (intro u a hu) | (intro u hu) | split | dsimp only | (intro x))

theorem ev_firstGrant (h : Ev m s t)
    (hm : 0x3fffff ||| m = m) : Ev m s (State.firstGrant t) := by
  unfold State.firstGrant
  repeat' (first | with_reducible assumption | exact sub hm (by decide) | with_reducible exact fun hw => hw |
                    with_reducible apply ev_updBt | with_reducible apply ev_noteOverrun | with_reducible apply ev_grant |
                    with_reducible apply ev_bootLapse | (intro u a hu) | (intro u hu) | split | dsimp only | (intro x))

theorem ev_earlyGrant (h : Ev m s t)
    (hm : 0x337d22 ||| m = m) : Ev m s (State.earlyGrant t) := by
  unfold State.earlyGrant
  repeat' (first | with_reducible assumption | exact sub hm (by decide) | with_reducible apply ev_takeRole | (intro u a hu) |
                    (intro u hu) | split | dsimp only | (intro x))

theorem ev_execLeaseLapse (h : Ev m s t)  (u : State) (hu : execLeaseLapse t = .next u)
    (hm : 0x3fffff ||| m = m) : Ev m s u := by
  unfold execLeaseLapse at hu; injection hu with hu; subst hu
  repeat' (first | with_reducible assumption | exact sub hm (by decide) | with_reducible apply ev_bootLapse |
                    with_reducible apply ev_fence | with_reducible apply ev_takeRole | (intro u a hu) | (intro u hu) | split |
                    dsimp only | (intro x))

theorem ev_selectBank (h : Ev m s t)
    (hm : 0x180022 ||| m = m) : Ev m s (State.selectBank t) := by
  unfold State.selectBank
  repeat' (first | with_reducible assumption | exact sub hm (by decide) | with_reducible exact fun hw => hw |
                    with_reducible exact fun hw => wf_filter _ hw | with_reducible apply ev_markBank |
                    with_reducible apply ev_stopStart | with_reducible apply ev_updBt | with_reducible apply ev_wr |
                    with_reducible apply ev_progOpt | with_reducible apply ev_toStep | with_reducible apply ev_each |
                    (intro u a hu) | (intro u hu) | split | dsimp only | (intro x))

theorem ev_verifyFails (h : Ev m s t)
    (hm : 0x80002 ||| m = m) : Ev m s (State.verifyFails t) := by
  unfold State.verifyFails
  repeat' (first | with_reducible assumption | exact sub hm (by decide) | with_reducible exact fun hw => hw |
                    with_reducible apply ev_count | with_reducible apply ev_updBt | with_reducible apply ev_toStep |
                    with_reducible apply ev_markBank | (intro u a hu) | (intro u hu) | split | dsimp only | (intro x))

theorem ev_noteAdmission (h : Ev m s t) (a1 : ImageMeta)
    (hm : 0x22 ||| m = m) : Ev m s (State.noteAdmission t a1) := by
  unfold State.noteAdmission
  repeat' (first | with_reducible assumption | exact sub hm (by decide) | with_reducible apply ev_refuseAdmission |
                    (intro u a hu) | (intro u hu) | split | dsimp only | (intro x))

theorem ev_checkConfig (h : Ev m s t) (a1 : StepRes)
    (hm : 0x80022 ||| m = m) : Ev m s (State.checkConfig t a1) := by
  unfold State.checkConfig
  repeat' (first | with_reducible assumption | exact sub hm (by decide) | with_reducible exact fun hw => hw |
                    with_reducible apply ev_toStep | with_reducible apply ev_updBt | with_reducible apply ev_verifyFails |
                    with_reducible apply ev_noteAdmission | (intro u a hu) | (intro u hu) | split | dsimp only | (intro x))

theorem ev_loadEntries (h : Ev m s t) (a1 : Half) (a2 : List (Nat × Nat × Nat))
    (hm : 0x2 ||| m = m) : Ev m s (State.loadEntries t a1 a2) := by
  unfold State.loadEntries
  repeat' (first | with_reducible assumption | exact sub hm (by decide) | with_reducible exact fun hw => wf_filter _ hw |
                    with_reducible apply ev_setReg | with_reducible apply ev_each | (intro u a hu) | (intro u hu) | split |
                    dsimp only | (intro x))

theorem ev_noteFormats (h : Ev m s t)
    (hm : 0x2 ||| m = m) : Ev m s (State.noteFormats t) := by
  unfold State.noteFormats
  repeat' (first | with_reducible assumption | exact sub hm (by decide) | with_reducible apply ev_wr | (intro u a hu) |
                    (intro u hu) | split | dsimp only | (intro x))

theorem ev_newAlias (h : Ev m s t)
    (hm : 0x100002 ||| m = m) : Ev m s (State.newAlias t) := by
  unfold State.newAlias
  repeat' (first | with_reducible assumption | exact sub hm (by decide) | with_reducible exact fun hw => hw |
                    with_reducible apply ev_wr | (intro u a hu) | (intro u hu) | split | dsimp only | (intro x) |
                    with_reducible apply ev_mk_sv)

theorem ev_settleConfirm (h : Ev m s t) (a1 : Nat)
    (hm : 0x80002 ||| m = m) : Ev m s (State.settleConfirm t a1) := by
  unfold State.settleConfirm
  repeat' (first | with_reducible assumption | exact sub hm (by decide) | with_reducible apply ev_wr |
                    with_reducible apply ev_markBank | (intro u a hu) | (intro u hu) | split | dsimp only | (intro x))

theorem ev_runSet (h : Ev m s t) (a1 : Half) (a2 : Nat) (a3 : ImageMeta)
    (hm : 0x180202 ||| m = m) : Ev m s (State.runSet t a1 a2 a3) := by
  unfold State.runSet
  repeat' (first | with_reducible assumption | exact sub hm (by decide) | with_reducible exact fun hw => hw |
                    with_reducible exact fun hw => wf_spSet _ _ hw | with_reducible exact fun hw => wf_spSetRun _ _ hw |
                    with_reducible apply ev_updBt | with_reducible apply ev_wr | with_reducible apply ev_newAlias |
                    with_reducible apply ev_noteFormats | with_reducible apply ev_admitSets |
                    with_reducible apply ev_loadEntries | (intro u a hu) | (intro u hu) | split | dsimp only | (intro x))

theorem ev_noteTrip (h : Ev m s t) (a1 : Half)
    (hm : 0x80022 ||| m = m) : Ev m s (State.noteTrip t a1) := by
  unfold State.noteTrip
  repeat' (first | with_reducible assumption | exact sub hm (by decide) | with_reducible exact fun hw => hw |
                    with_reducible apply ev_updBt | with_reducible apply ev_submit |
                    (refine ev_submit_eq ?_ _ _ _ _ _ _ (by with_reducible assumption) ?_) | (intro u a hu) | (intro u hu) |
                    split | dsimp only | (intro x))

theorem ev_beginOther (h : Ev m s t) (a1 : Half)
    (hm : 0x801c2 ||| m = m) : Ev m s (State.beginOther t a1) := by
  unfold State.beginOther
  repeat' (first | with_reducible assumption | exact sub hm (by decide) | with_reducible apply ev_toStep |
                    with_reducible apply ev_loadHalf | (intro u a hu) | (intro u hu) | split | dsimp only | (intro x))

theorem ev_loadFirmware (h : Ev m s t) (a1 : Half) (a2 : StepRes)
    (hm : 0x3a23f2 ||| m = m) : Ev m s (State.loadFirmware t a1 a2) := by
  unfold State.loadFirmware
  repeat' (first | with_reducible assumption | exact sub hm (by decide) | with_reducible apply ev_verifyFails |
                    with_reducible apply ev_bootFails | with_reducible apply ev_wr | with_reducible apply ev_loadImage |
                    with_reducible apply ev_runSet | with_reducible apply ev_beginOther | with_reducible apply ev_noteTrip |
                    with_reducible apply ev_settleConfirm | (intro u a hu) | (intro u hu) | split | dsimp only | (intro x))

theorem ev_otherLoaded (h : Ev m s t) (a1 : Half) (a2 : Bool)
    (hm : 0x80132 ||| m = m) : Ev m s (State.otherLoaded t a1 a2) := by
  unfold State.otherLoaded
  repeat' (first | with_reducible assumption | exact sub hm (by decide) | with_reducible apply ev_toStep |
                    with_reducible apply ev_loadImage | with_reducible apply ev_selfTestFails | (intro u a hu) |
                    (intro u hu) | split | dsimp only | (intro x))

theorem ev_lostRange (h : Ev m s t) (a1 : Ns) (a2 : Nat) (a3 : Nat)
    (hm : 0x5c12 ||| m = m) : Ev m s (State.lostRange t a1 a2 a3) := by
  unfold State.lostRange
  repeat' (first | with_reducible assumption | exact sub hm (by decide) | with_reducible apply ev_free |
                    (refine ev_free_eq ?_ _ _ (by with_reducible assumption) ?_) | with_reducible apply ev_addC1h |
                    with_reducible apply ev_each | (intro u a hu) | (intro u hu) | split | dsimp only | (intro x))

theorem ev_staleTart (h : Ev m s t) (a1 : Nat)
    (hm : 0x5c12 ||| m = m) : Ev m s (State.staleTart t a1) := by
  unfold State.staleTart
  repeat' (first | with_reducible assumption | exact sub hm (by decide) | with_reducible apply ev_poisonTart |
                    with_reducible apply ev_lostRange | (intro u a hu) | (intro u hu) | split | dsimp only | (intro x))

theorem ev_scanLedger (h : Ev m s t) (a1 : List Nat)
    (hm : 0x7022 ||| m = m) : Ev m s (State.scanLedger t a1) := by
  unfold State.scanLedger
  repeat' (first | with_reducible assumption | exact sub hm (by decide) | with_reducible exact fun hw => hw |
                    with_reducible exact fun hw => wf_filter _ hw | with_reducible apply ev_dropUnfinished |
                    with_reducible apply ev_wr | with_reducible apply ev_setLive | with_reducible apply ev_updTr |
                    with_reducible apply ev_aev | with_reducible apply ev_updLg | (intro u a hu) | (intro u hu) | split |
                    dsimp only | (intro x))

theorem ev_trainDram (h : Ev m s t) (a1 : StepRes)
    (hm : 0x180022 ||| m = m) : Ev m s (State.trainDram t a1) := by
  unfold State.trainDram
  repeat' (first | with_reducible assumption | exact sub hm (by decide) | with_reducible apply ev_stopStart |
                    with_reducible apply ev_aev | with_reducible apply ev_wr | with_reducible apply ev_toStep |
                    with_reducible apply ev_noteRepairs | with_reducible apply ev_hardRepairs | with_reducible apply ev_each |
                    (intro u a hu) | (intro u hu) | split | dsimp only | (intro x))

theorem ev_commitFirst (h : Ev m s t) (a1 : Half)
    (hm : 0x2 ||| m = m) : Ev m s (State.commitFirst t a1) := by
  unfold State.commitFirst
  repeat' (first | with_reducible assumption | exact sub hm (by decide) | with_reducible apply ev_wr | (intro u a hu) |
                    (intro u hu) | split | dsimp only | (intro x))

theorem ev_enrolAll (h : Ev m s t) (a1 : Half)
    (hm : 0x88002 ||| m = m) : Ev m s (State.enrolAll t a1) := by
  unfold State.enrolAll
  repeat' (first | with_reducible assumption | exact sub hm (by decide) | with_reducible exact fun hw => wf_filter _ hw |
                    with_reducible apply ev_wr | with_reducible apply ev_powerSlot | with_reducible apply ev_toStep |
                    with_reducible apply ev_each | (intro u a hu) | (intro u hu) | split | dsimp only | (intro x))

theorem ev_decideSlot (h : Ev m s t) (a1 : Nat) (a2 : List DieFound)
    (hm : 0x1e002 ||| m = m) : Ev m s (State.decideSlot t a1 a2) := by
  unfold State.decideSlot
  repeat' (first | with_reducible assumption | exact sub hm (by decide) | with_reducible exact fun hw => wf_filter _ hw |
                    with_reducible apply ev_updSlot | with_reducible apply ev_wr | with_reducible apply ev_setDie |
                    with_reducible apply ev_markLack | with_reducible apply ev_addDie | with_reducible apply ev_forgetDie |
                    with_reducible apply ev_unretireChannel | with_reducible apply ev_each | (intro u a hu) | (intro u hu) |
                    split | dsimp only | (intro x))

theorem ev_dropMissing (h : Ev m s t)
    (hm : 0x2000 ||| m = m) : Ev m s (State.dropMissing t) := by
  unfold State.dropMissing
  repeat' (first | with_reducible assumption | exact sub hm (by decide) | with_reducible exact fun hw => wf_filter _ hw |
                    with_reducible apply ev_markLack | with_reducible apply ev_setDie | with_reducible apply ev_each |
                    (intro u a hu) | (intro u hu) | split | dsimp only | (intro x))

theorem ev_loseSegment (h : Ev m s t) (a1 : Nat)
    (hm : 0x5c32 ||| m = m) : Ev m s (State.loseSegment t a1) := by
  unfold State.loseSegment
  repeat' (first | with_reducible assumption | exact sub hm (by decide) | with_reducible exact fun hw => wf_filter _ hw |
                    with_reducible apply ev_aev | with_reducible apply ev_lostRange | with_reducible apply ev_each |
                    (intro u a hu) | (intro u hu) | split | dsimp only | (intro x))

theorem ev_rebuildMap (h : Ev m s t) (a1 : List (Nat × Nat))
    (hm : 0x5c32 ||| m = m) : Ev m s (State.rebuildMap t a1) := by
  unfold State.rebuildMap
  refine ev_each (ev_updTr (ev_updTr h _ (fun hw => hw) (sub hm (by decide))) _ (fun _ => ?_) (sub hm (by decide))) _ _
    (fun u a hu => ev_loseSegment hu _ (sub hm (by decide)))
  exact List.foldlRecOn (motive := fun b => Memory.wf (fun _ => MapEntry.init) b = true) _ _ (wf_nil _)
    (fun b hb y _ => wf_rebuildSeg _ _ hb)

theorem ev_rebuild (h : Ev m s t) (a1 : Found)
    (hm : 0x2bfd32 ||| m = m) : Ev m s (State.rebuild t a1) := by
  unfold State.rebuild
  repeat' (first | with_reducible assumption | exact sub hm (by decide) | with_reducible exact fun hw => hw |
                    with_reducible exact fun hw => wf_filter _ hw | with_reducible exact fun hw => ⟨hw.1, hw.2, hw.3⟩ |
                    (intro hw; constructor <;>
                     with_reducible first | exact hw.1 | exact hw.2 | exact hw.3 | exact wf_spSet _ _ hw.1 | exact wf_spSet _ _ hw.2
                                          | exact wf_spSet _ _ hw.3 | exact wf_filter _ hw.1 | exact wf_nil _) |
                    with_reducible exact fun _ => wf_nil _ | with_reducible apply ev_rebuildMap | with_reducible apply ev_wr |
                    with_reducible apply ev_mapWrite | with_reducible apply ev_updLg | with_reducible apply ev_staleTart |
                    with_reducible apply ev_updRg | with_reducible apply ev_decideSlot | with_reducible apply ev_toStep |
                    with_reducible apply ev_setBudget | with_reducible apply ev_sizeFlush | with_reducible apply ev_noteLoss |
                    with_reducible apply ev_dropMissing | with_reducible apply ev_each | (intro u a hu) | (intro u hu) |
                    split | dsimp only | (intro x))

theorem ev_replay (h : Ev m s t) (a1 : Ver) (a2 : List Nat)
    (hm : 0x5c02 ||| m = m) : Ev m s (State.replay t a1 a2) := by
  unfold State.replay
  repeat' (first | with_reducible assumption | exact sub hm (by decide) | with_reducible exact fun hw => hw |
                    with_reducible exact fun hw => wf_filter _ hw | with_reducible apply ev_updLg |
                    with_reducible apply ev_updTr | with_reducible apply ev_satisfy | with_reducible apply ev_deferError |
                    (intro u a hu) | (intro u hu) | split | dsimp only | (intro x))

theorem ev_eraseAgain (h : Ev m s t) (a1 : Erase)
    (hm : 0x6000 ||| m = m) : Ev m s (State.eraseAgain t a1) := by
  unfold State.eraseAgain
  repeat' (first | with_reducible assumption | exact sub hm (by decide) | with_reducible exact fun hw => hw |
                    with_reducible exact fun hw => wf_filter _ hw | with_reducible exact fun hw => ⟨hw.1, hw.2, hw.3⟩ |
                    (intro hw; constructor <;>
                     with_reducible first | exact hw.1 | exact hw.2 | exact hw.3 | exact wf_spSet _ _ hw.1 | exact wf_spSet _ _ hw.2
                                          | exact wf_spSet _ _ hw.3 | exact wf_filter _ hw.1 | exact wf_filter _ hw.3
                                          | exact wf_spMap _ hw.3 | exact wf_nil _) |
                    with_reducible apply ev_updMd | (refine ev_eraseIntent ?_ _ _ _ (by with_reducible assumption) ?_) |
                    with_reducible apply ev_getD | (intro u a hu) | (intro u hu) | split | dsimp only | (intro x))

theorem ev_countFlush (h : Ev m s t)
    (hm : 0x4002 ||| m = m) : Ev m s (State.countFlush t) := by
  unfold State.countFlush
  repeat' (first | with_reducible assumption | exact sub hm (by decide) | with_reducible exact fun hw => hw |
                    with_reducible apply ev_wr | with_reducible apply ev_count | with_reducible apply ev_updLg |
                    (intro u a hu) | (intro u hu) | split | dsimp only | (intro x))

theorem ev_takeKeys (h : Ev m s t) (a1 : List Nat)
    (hm : 0x1002 ||| m = m) : Ev m s (State.takeKeys t a1) := by
  unfold State.takeKeys
  repeat' (first | with_reducible assumption | exact sub hm (by decide) | with_reducible exact fun hw => hw |
                    with_reducible exact fun hw => wf_filter _ hw | with_reducible apply ev_updTr |
                    with_reducible apply ev_count | (intro u a hu) | (intro u hu) | split | dsimp only | (intro x))

theorem ev_resumeSanitize (h : Ev m s t)
    (hm : 0x237d22 ||| m = m) : Ev m s (State.resumeSanitize t) := by
  unfold State.resumeSanitize
  repeat' (first | with_reducible assumption | exact sub hm (by decide) | with_reducible exact fun hw => hw |
                    with_reducible exact fun hw => ⟨hw.1, hw.2, hw.3⟩ | with_reducible apply ev_updMd |
                    with_reducible apply ev_updNv | with_reducible apply ev_wr | with_reducible apply ev_pumpSanitize |
                    with_reducible apply ev_goKeys | with_reducible apply ev_changeKeys | with_reducible apply ev_newKeys |
                    (intro u a hu) | (intro u hu) | split | dsimp only | (intro x))

theorem ev_recover (h : Ev m s t) (a1 : Found)
    (hm : 0x2b7d22 ||| m = m) : Ev m s (State.recover t a1) := by
  unfold State.recover
  repeat' (first | with_reducible assumption | exact sub hm (by decide) | with_reducible exact fun hw => hw |
                    with_reducible exact fun hw => wf_filter _ hw | with_reducible apply ev_takeKeys |
                    with_reducible apply ev_updTr | with_reducible apply ev_replay | with_reducible apply ev_programFailed |
                    with_reducible apply ev_closeOpenStripes | with_reducible apply ev_settleVictims |
                    with_reducible apply ev_eraseAgain | with_reducible apply ev_toStep |
                    with_reducible apply ev_resumeSanitize | with_reducible apply ev_updSpace |
                    with_reducible apply ev_countFlush | with_reducible apply ev_each | (intro u a hu) | (intro u hu) |
                    split | dsimp only | (intro x))

theorem ev_enterMode (h : Ev m s t)
    (hm : 0x2 ||| m = m) : Ev m s (State.enterMode t) := by
  unfold State.enterMode
  repeat' (first | with_reducible assumption | exact sub hm (by decide) | with_reducible apply ev_wr | (intro u a hu) |
                    (intro u hu) | split | dsimp only | (intro x))

theorem ev_enterService (h : Ev m s t) (a1 : Half)
    (hm : 0x82122 ||| m = m) : Ev m s (State.enterService t a1) := by
  unfold State.enterService
  repeat' (first | with_reducible assumption | exact sub hm (by decide) | with_reducible exact fun hw => hw |
                    with_reducible exact fun hw => ⟨hw.1, hw.2, hw.3⟩ | with_reducible apply ev_updMd |
                    with_reducible apply ev_updHub | with_reducible apply ev_enterMode | with_reducible apply ev_progOpt |
                    with_reducible apply ev_toStep | with_reducible apply ev_aev | with_reducible apply ev_beginSync |
                    (intro u a hu) | (intro u hu) | split | dsimp only | (intro x))

theorem ev_stepDone (h : Ev m s t) (a1 : Half) (a2 : StepRes)
    (hm : 0x3bfff2 ||| m = m) : Ev m s (State.stepDone t a1 a2) := by
  unfold State.stepDone
  repeat' (first | with_reducible assumption | exact sub hm (by decide) | with_reducible apply ev_toStep |
                    with_reducible apply ev_bootFails | (refine ev_chooseCopies ?_ _ _ _ (by with_reducible assumption) ?_) |
                    with_reducible apply ev_stopStart | with_reducible apply ev_settleArray |
                    with_reducible apply ev_selectBank | with_reducible apply ev_checkConfig |
                    with_reducible apply ev_loadFirmware | with_reducible apply ev_otherLoaded |
                    with_reducible apply ev_scanLedger | with_reducible apply ev_commitFirst |
                    with_reducible apply ev_trainDram | with_reducible apply ev_enrolAll | with_reducible apply ev_rebuild |
                    with_reducible apply ev_recover | with_reducible apply ev_copyRom | with_reducible apply ev_enterService |
                    (intro u a hu) | (intro u hu) | split | dsimp only | (intro x))

theorem ev_execStartupStepComplete (h : Ev m s t) (a0 : StepRes) (u : State) (hu : execStartupStepComplete a0 t = .next u)
    (hm : 0x3bfff2 ||| m = m) : Ev m s u := by
  unfold execStartupStepComplete at hu; injection hu with hu; subst hu
  repeat' (first | with_reducible assumption | exact sub hm (by decide) | with_reducible apply ev_stepDone | (intro u a hu) |
                    (intro u hu) | split | dsimp only | (intro x))

theorem ev_execStartupStepTimeout (h : Ev m s t)  (u : State) (hu : execStartupStepTimeout t = .next u)
    (hm : 0x2a2132 ||| m = m) : Ev m s u := by
  unfold execStartupStepTimeout at hu; injection hu with hu; subst hu
  repeat' (first | with_reducible assumption | exact sub hm (by decide) | with_reducible apply ev_otherLoaded |
                    with_reducible apply ev_bootFails | (intro u a hu) | (intro u hu) | split | dsimp only | (intro x))

/-! ### Loss.lean -/

theorem ev_lossMeetsAct (h : Ev m s t)
    (hm : 0x100002 ||| m = m) : Ev m s (State.lossMeetsAct t) := by
  unfold State.lossMeetsAct
  repeat' (first | with_reducible assumption | exact sub hm (by decide) | with_reducible exact fun hw => hw |
                    with_reducible apply ev_wr | (intro u a hu) | (intro u hu) | split | dsimp only | (intro x) |
                    with_reducible apply ev_mk_sv)

theorem ev_beginLoss (h : Ev m s t) (a1 : Nat)
    (hm : 0x307902 ||| m = m) : Ev m s (State.beginLoss t a1) := by
  unfold State.beginLoss
  repeat' (first | with_reducible assumption | exact sub hm (by decide) | with_reducible exact fun hw => hw |
                    with_reducible exact fun hw => wf_filter _ hw | with_reducible apply ev_updLg |
                    with_reducible apply ev_wakeHalf | with_reducible apply ev_lossMeetsAct |
                    with_reducible apply ev_testMeets | with_reducible apply ev_wr | with_reducible apply ev_abandonDrill |
                    with_reducible apply ev_dropPart | with_reducible apply ev_killCtx | with_reducible apply ev_each |
                    with_reducible apply ev_when | (intro u a hu) | (intro u hu) | split | dsimp only | (intro x))

theorem ev_execPowerLossDetected (h : Ev m s t)  (u : State) (hu : execPowerLossDetected t = .next u)
    (hm : 0x307922 ||| m = m) : Ev m s u := by
  unfold execPowerLossDetected at hu; injection hu with hu; subst hu
  repeat' (first | with_reducible assumption | exact sub hm (by decide) | with_reducible exact fun hw => hw |
                    with_reducible apply ev_testMeets | with_reducible apply ev_wr | with_reducible apply ev_updLg |
                    with_reducible apply ev_aev | with_reducible apply ev_beginLoss | (intro u a hu) | (intro u hu) | split |
                    dsimp only | (intro x))

theorem ev_clearDies (h : Ev m s t)
    (hm : 0x2000 ||| m = m) : Ev m s (State.clearDies t) := by
  unfold State.clearDies
  repeat' (first | with_reducible assumption | exact sub hm (by decide) | with_reducible exact fun hw => hw |
                    with_reducible exact fun hw => wf_filter _ hw | with_reducible exact fun hw => ⟨hw.1, hw.2, hw.3⟩ |
                    (intro hw; constructor <;>
                     with_reducible first | exact hw.1 | exact hw.2 | exact hw.3 | exact wf_spSet _ _ hw.1 | exact wf_spSet _ _ hw.2
                                          | exact wf_spSet _ _ hw.3 | exact wf_filter _ hw.1 | exact wf_filter _ hw.3
                                          | exact wf_spMap _ hw.3 | exact wf_nil _) |
                    with_reducible apply ev_updMd | (intro u a hu) | (intro u hu) | split | dsimp only | (intro x))

theorem ev_startFlush (h : Ev m s t)
    (hm : 0x23fd22 ||| m = m) : Ev m s (State.startFlush t) := by
  unfold State.startFlush
  repeat' (first | with_reducible assumption | exact sub hm (by decide) | with_reducible exact fun hw => hw |
                    with_reducible apply ev_formLossFlush | with_reducible apply ev_updLg |
                    with_reducible apply ev_clearDies | with_reducible apply ev_settleSlots | (intro u a hu) | (intro u hu) |
                    split | dsimp only | (intro x))

theorem ev_execFlushStart (h : Ev m s t)  (u : State) (hu : execFlushStart t = .next u)
    (hm : 0x33fd22 ||| m = m) : Ev m s u := by
  unfold execFlushStart at hu; injection hu with hu; subst hu
  repeat' (first | with_reducible assumption | exact sub hm (by decide) | with_reducible apply ev_startFlush |
                    with_reducible apply ev_beginLoss | (intro u a hu) | (intro u hu) | split | dsimp only | (intro x))

theorem ev_lastRecords (h : Ev m s t)
    (hm : 0x4022 ||| m = m) : Ev m s (State.lastRecords t) := by
  unfold State.lastRecords
  repeat' (first | with_reducible assumption | exact sub hm (by decide) | with_reducible exact fun hw => hw |
                    with_reducible apply ev_updEvt | with_reducible apply ev_takeRecord | with_reducible apply ev_each |
                    (intro u a hu) | (intro u hu) | split | dsimp only | (intro x))

theorem ev_resetAfter (h : Ev m s t) (a1 : PLoss) (a2 : Bool)
    (hm : 0x3fffff ||| m = m) : Ev m s (State.resetAfter t a1 a2) := by
  unfold State.resetAfter
  repeat' (first | with_reducible assumption | exact sub hm (by decide) | with_reducible apply ev_powerOn | (intro u a hu) |
                    (intro u hu) | split | dsimp only | (intro x))

theorem ev_endWithdrawal (h : Ev m s t)
    (hm : 0x47902 ||| m = m) : Ev m s (State.endWithdrawal t) := by
  unfold State.endWithdrawal
  repeat' (first | with_reducible assumption | exact sub hm (by decide) | with_reducible exact fun hw => hw |
                    with_reducible exact fun hw => wf_filter _ hw | with_reducible apply ev_updLg |
                    with_reducible apply ev_resetController | with_reducible apply ev_wr | with_reducible apply ev_each |
                    (intro u a hu) | (intro u hu) | split | dsimp only | (intro x))

theorem ev_writeFlushDone (h : Ev m s t) (a1 : PLoss) (a2 : Bool)
    (hm : 0x3fffff ||| m = m) : Ev m s (State.writeFlushDone t a1 a2) := by
  unfold State.writeFlushDone
  repeat' (first | with_reducible assumption | exact sub hm (by decide) | with_reducible exact fun hw => hw |
                    (refine ev_writeRec ?_ _ _ (by with_reducible assumption) ?_) | with_reducible apply ev_updLg |
                    with_reducible apply ev_wr | with_reducible apply ev_endWithdrawal | with_reducible apply ev_lastRecords |
                    with_reducible apply ev_resetAfter | with_reducible apply ev_updHub | (intro u a hu) | (intro u hu) |
                    split | dsimp only | (intro x))

theorem ev_execFlushDoneWrite (h : Ev m s t) (a0 : Bool) (u : State) (hu : execFlushDoneWrite a0 t = .next u)
    (hm : 0x3fffff ||| m = m) : Ev m s u := by
  unfold execFlushDoneWrite at hu; injection hu with hu; subst hu
  repeat' (first | with_reducible assumption | exact sub hm (by decide) | with_reducible apply ev_resetAfter |
                    with_reducible apply ev_writeFlushDone | (intro u a hu) | (intro u hu) | split | dsimp only | (intro x))

theorem ev_sealReserve (h : Ev m s t)
    (hm : 0x4000 ||| m = m) : Ev m s (State.sealReserve t) := by
  unfold State.sealReserve
  repeat' (first | with_reducible assumption | exact sub hm (by decide) | with_reducible exact fun hw => wf_filter _ hw |
                    with_reducible apply ev_setFlushUsed | with_reducible apply ev_each | (intro u a hu) | (intro u hu) |
                    split | dsimp only | (intro x))

theorem ev_execEpochRelease (h : Ev m s t)  (u : State) (hu : execEpochRelease t = .next u)
    (hm : 0x6002 ||| m = m) : Ev m s u := by
  unfold execEpochRelease at hu; injection hu with hu; subst hu
  repeat' (first | with_reducible assumption | exact sub hm (by decide) | with_reducible exact fun hw => hw |
                    with_reducible exact fun _ => wf_nil _ | (refine ev_writeRec ?_ _ _ (by with_reducible assumption) ?_) |
                    with_reducible apply ev_wr | with_reducible apply ev_eraseReserve | with_reducible apply ev_sealReserve |
                    with_reducible apply ev_updLg | (intro u a hu) | (intro u hu) | split | dsimp only | (intro x))

end Sys2Proof.Laws
end

