-- ==== Sys2Proof/Laws/EvPort.lean ====
section
/-! SUPPORT. How the state evolves under the operations and commands of the service port, updates, the recorder, tests,
    power and the console, and of the beat boundary: one law for each, over the laws of Evolves.lean. -/

namespace Sys2Proof.Laws

open Sys2Proof Sys2Proof.Machine

variable {m : Nat} {s t : State}

/-! ### Port.lean -/

theorem ev_updSv (h : Ev m s t) (a1 : Svc → Svc)
    (hm : 0x100000 ||| m = m) : Ev m s (State.updSv t a1) := by
  unfold State.updSv
  repeat' (first | with_reducible assumption | exact sub hm (by decide) | with_reducible exact fun hw => hw | (intro u a hu) |
                    (intro u hu) | split | dsimp only | (intro x) | with_reducible apply ev_mk_sv)

theorem ev_raiseIbi (h : Ev m s t)
    (hm : 0x400 ||| m = m) : Ev m s (State.raiseIbi t) := by
  unfold State.raiseIbi
  repeat' (first | with_reducible assumption | exact sub hm (by decide) | with_reducible apply ev_emit | (intro u a hu) |
                    (intro u hu) | split | dsimp only | (intro x))

theorem ev_reply (h : Ev m s t) (a1 : Nat) (a2 : List Nat)
    (hm : 0x100400 ||| m = m) : Ev m s (State.reply t a1 a2) := by
  unfold State.reply
  repeat' (first | with_reducible assumption | exact sub hm (by decide) | with_reducible apply ev_raiseIbi |
                    with_reducible apply ev_updSv | (intro u a hu) | (intro u hu) | split | dsimp only | (intro x))

theorem ev_readPacket (h : Ev m s t)
    (hm : 0x100400 ||| m = m) : Ev m s (State.readPacket t) := by
  unfold State.readPacket
  repeat' (first | with_reducible assumption | exact sub hm (by decide) | with_reducible apply ev_raiseIbi |
                    with_reducible apply ev_updSv | with_reducible apply ev_emit | (intro u a hu) | (intro u hu) | split |
                    dsimp only | (intro x))

theorem ev_execOutboundPacketRead (h : Ev m s t)  (u : State) (hu : execOutboundPacketRead t = .next u)
    (hm : 0x100400 ||| m = m) : Ev m s u := by
  unfold execOutboundPacketRead at hu; injection hu with hu; subst hu
  repeat' (first | with_reducible assumption | exact sub hm (by decide) | with_reducible apply ev_readPacket |
                    (intro u a hu) | (intro u hu) | split | dsimp only | (intro x))

theorem ev_ccc (h : Ev m s t) (a1 : State → State) (h1 : ∀ x0, Ev m s x0 → Ev m s (a1 x0)) : Ev m s (State.ccc t a1) := by
  unfold State.ccc
  repeat' (first | with_reducible assumption | with_reducible apply h1 | (intro u a hu) | (intro u hu) | split | dsimp only |
                    (intro x))

theorem ev_setDa (h : Ev m s t) (a1 : Nat)
    (hm : 0x2 ||| m = m) : Ev m s (State.setDa t a1) := by
  unfold State.setDa
  repeat' (first | with_reducible assumption | exact sub hm (by decide) | with_reducible apply ev_wr | (intro u a hu) |
                    (intro u hu) | split | dsimp only | (intro x))

theorem ev_execEntdaa (h : Ev m s t) (a0 : Nat) (u : State) (hu : execEntdaa a0 t = .next u)
    (hm : 0x402 ||| m = m) : Ev m s u := by
  unfold execEntdaa at hu; injection hu with hu; subst hu
  repeat' (first | with_reducible assumption | exact sub hm (by decide) | with_reducible apply ev_ccc |
                    with_reducible apply ev_setDa | with_reducible apply ev_emit | (intro u a hu) | (intro u hu) | split |
                    dsimp only | (intro x))

theorem ev_execSetdasa (h : Ev m s t) (a0 : Nat) (u : State) (hu : execSetdasa a0 t = .next u)
    (hm : 0x2 ||| m = m) : Ev m s u := by
  unfold execSetdasa at hu; injection hu with hu; subst hu
  repeat' (first | with_reducible assumption | exact sub hm (by decide) | with_reducible apply ev_ccc |
                    with_reducible apply ev_setDa | (intro u a hu) | (intro u hu) | split | dsimp only | (intro x))

theorem ev_execSetnewda (h : Ev m s t) (a0 : Nat) (u : State) (hu : execSetnewda a0 t = .next u)
    (hm : 0x2 ||| m = m) : Ev m s u := by
  unfold execSetnewda at hu; injection hu with hu; subst hu
  repeat' (first | with_reducible assumption | exact sub hm (by decide) | with_reducible apply ev_ccc |
                    with_reducible apply ev_setDa | (intro u a hu) | (intro u hu) | split | dsimp only | (intro x))

theorem ev_execRstdaa (h : Ev m s t)  (u : State) (hu : execRstdaa t = .next u)
    (hm : 0x2 ||| m = m) : Ev m s u := by
  unfold execRstdaa at hu; injection hu with hu; subst hu
  repeat' (first | with_reducible assumption | exact sub hm (by decide) | with_reducible apply ev_ccc |
                    with_reducible apply ev_wr | (intro u a hu) | (intro u hu) | split | dsimp only | (intro x))

theorem ev_execEnec (h : Ev m s t)  (u : State) (hu : execEnec t = .next u)
    (hm : 0x402 ||| m = m) : Ev m s u := by
  unfold execEnec at hu; injection hu with hu; subst hu
  repeat' (first | with_reducible assumption | exact sub hm (by decide) | with_reducible apply ev_ccc |
                    with_reducible apply ev_raiseIbi | with_reducible apply ev_wr | (intro u a hu) | (intro u hu) | split |
                    dsimp only | (intro x))

theorem ev_execDisec (h : Ev m s t)  (u : State) (hu : execDisec t = .next u)
    (hm : 0x2 ||| m = m) : Ev m s u := by
  unfold execDisec at hu; injection hu with hu; subst hu
  repeat' (first | with_reducible assumption | exact sub hm (by decide) | with_reducible apply ev_ccc |
                    with_reducible apply ev_wr | (intro u a hu) | (intro u hu) | split | dsimp only | (intro x))

theorem ev_execGetpid (h : Ev m s t)  (u : State) (hu : execGetpid t = .next u)
    (hm : 0x400 ||| m = m) : Ev m s u := by
  unfold execGetpid at hu; injection hu with hu; subst hu
  repeat' (first | with_reducible assumption | exact sub hm (by decide) | with_reducible apply ev_ccc |
                    with_reducible apply ev_emit | (intro u a hu) | (intro u hu) | split | dsimp only | (intro x))

theorem ev_execGetbcr (h : Ev m s t)  (u : State) (hu : execGetbcr t = .next u)
    (hm : 0x400 ||| m = m) : Ev m s u := by
  unfold execGetbcr at hu; injection hu with hu; subst hu
  repeat' (first | with_reducible assumption | exact sub hm (by decide) | with_reducible apply ev_ccc |
                    with_reducible apply ev_emit | (intro u a hu) | (intro u hu) | split | dsimp only | (intro x))

theorem ev_execGetdcr (h : Ev m s t)  (u : State) (hu : execGetdcr t = .next u)
    (hm : 0x400 ||| m = m) : Ev m s u := by
  unfold execGetdcr at hu; injection hu with hu; subst hu
  repeat' (first | with_reducible assumption | exact sub hm (by decide) | with_reducible apply ev_ccc |
                    with_reducible apply ev_emit | (intro u a hu) | (intro u hu) | split | dsimp only | (intro x))

theorem ev_execGetstatus (h : Ev m s t)  (u : State) (hu : execGetstatus t = .next u)
    (hm : 0x410 ||| m = m) : Ev m s u := by
  unfold execGetstatus at hu; injection hu with hu; subst hu
  repeat' (first | with_reducible assumption | exact sub hm (by decide) | with_reducible apply ev_ccc |
                    with_reducible apply ev_free | (refine ev_free_eq ?_ _ _ (by with_reducible assumption) ?_) |
                    with_reducible apply ev_emit | (intro u a hu) | (intro u hu) | split | dsimp only | (intro x))

theorem ev_execGetmwl (h : Ev m s t)  (u : State) (hu : execGetmwl t = .next u)
    (hm : 0x400 ||| m = m) : Ev m s u := by
  unfold execGetmwl at hu; injection hu with hu; subst hu
  repeat' (first | with_reducible assumption | exact sub hm (by decide) | with_reducible apply ev_ccc |
                    with_reducible apply ev_emit | (intro u a hu) | (intro u hu) | split | dsimp only | (intro x))

theorem ev_execGetmrl (h : Ev m s t)  (u : State) (hu : execGetmrl t = .next u)
    (hm : 0x400 ||| m = m) : Ev m s u := by
  unfold execGetmrl at hu; injection hu with hu; subst hu
  repeat' (first | with_reducible assumption | exact sub hm (by decide) | with_reducible apply ev_ccc |
                    with_reducible apply ev_emit | (intro u a hu) | (intro u hu) | split | dsimp only | (intro x))

theorem ev_noteTu (h : Ev m s t)
    (hm : 0x2 ||| m = m) : Ev m s (State.noteTu t) := by
  unfold State.noteTu
  repeat' (first | with_reducible assumption | exact sub hm (by decide) | with_reducible apply ev_wr | (intro u a hu) |
                    (intro u hu) | split | dsimp only | (intro x))

theorem ev_execSetmwl (h : Ev m s t) (a0 : Nat) (u : State) (hu : execSetmwl a0 t = .next u)
    (hm : 0x100002 ||| m = m) : Ev m s u := by
  unfold execSetmwl at hu; injection hu with hu; subst hu
  repeat' (first | with_reducible assumption | exact sub hm (by decide) | with_reducible apply ev_ccc |
                    with_reducible apply ev_noteTu | with_reducible apply ev_updSv | (intro u a hu) | (intro u hu) | split |
                    dsimp only | (intro x))

theorem ev_execSetmrl (h : Ev m s t) (a0 : Nat) (u : State) (hu : execSetmrl a0 t = .next u)
    (hm : 0x100002 ||| m = m) : Ev m s u := by
  unfold execSetmrl at hu; injection hu with hu; subst hu
  repeat' (first | with_reducible assumption | exact sub hm (by decide) | with_reducible apply ev_ccc |
                    with_reducible apply ev_noteTu | with_reducible apply ev_updSv | (intro u a hu) | (intro u hu) | split |
                    dsimp only | (intro x))

theorem ev_updSess (h : Ev m s t) (a1 : Nat) (a2 : Sess → Sess)
    (hm : 0x100000 ||| m = m) : Ev m s (State.updSess t a1 a2) := by
  unfold State.updSess
  repeat' (first | with_reducible assumption | exact sub hm (by decide) | with_reducible apply ev_updSv | (intro u a hu) |
                    (intro u hu) | split | dsimp only | (intro x))

theorem ev_touch (h : Ev m s t) (a1 : Nat)
    (hm : 0x100000 ||| m = m) : Ev m s (State.touch t a1) := by
  unfold State.touch
  repeat' (first | with_reducible assumption | exact sub hm (by decide) | with_reducible apply ev_updSess | (intro u a hu) |
                    (intro u hu) | split | dsimp only | (intro x))

theorem ev_oper (h : Ev m s t) (a1 : Nat) (a2 : State → State) (h2 : ∀ x0, Ev m s x0 → Ev m s (a2 x0))
    (hm : 0x100002 ||| m = m) : Ev m s (State.oper t a1 a2) := by
  unfold State.oper
  repeat' (first | with_reducible assumption | exact sub hm (by decide) | with_reducible apply ev_touch |
                    with_reducible apply ev_count | with_reducible apply h2 | (intro u a hu) | (intro u hu) | split |
                    dsimp only | (intro x))

theorem ev_packet (h : Ev m s t) (a1 : Packet)
    (hm : 0x100002 ||| m = m) : Ev m s (State.packet t a1) := by
  unfold State.packet
  repeat' (first | with_reducible assumption | exact sub hm (by decide) | with_reducible apply ev_count |
                    with_reducible apply ev_touch | (intro u a hu) | (intro u hu) | split | dsimp only | (intro x))

theorem ev_execMctpPacket (h : Ev m s t) (a0 : Packet) (u : State) (hu : execMctpPacket a0 t = .next u)
    (hm : 0x100002 ||| m = m) : Ev m s u := by
  unfold execMctpPacket at hu; injection hu with hu; subst hu
  repeat' (first | with_reducible assumption | exact sub hm (by decide) | with_reducible apply ev_packet | (intro u a hu) |
                    (intro u hu) | split | dsimp only | (intro x))

theorem ev_execSetEndpointId (h : Ev m s t) (a0 : Nat) (u : State) (hu : execSetEndpointId a0 t = .next u)
    (hm : 0x100402 ||| m = m) : Ev m s u := by
  unfold execSetEndpointId at hu; injection hu with hu; subst hu
  repeat' (first | with_reducible assumption | exact sub hm (by decide) | with_reducible apply ev_reply |
                    with_reducible apply ev_wr | (intro u a hu) | (intro u hu) | split | dsimp only | (intro x))

theorem ev_execGetEndpointId (h : Ev m s t)  (u : State) (hu : execGetEndpointId t = .next u)
    (hm : 0x100400 ||| m = m) : Ev m s u := by
  unfold execGetEndpointId at hu; injection hu with hu; subst hu
  repeat' (first | with_reducible assumption | exact sub hm (by decide) | with_reducible apply ev_reply | (intro u a hu) |
                    (intro u hu) | split | dsimp only | (intro x))

theorem ev_execGetMctpVersionSupport (h : Ev m s t)  (u : State) (hu : execGetMctpVersionSupport t = .next u)
    (hm : 0x100400 ||| m = m) : Ev m s u := by
  unfold execGetMctpVersionSupport at hu; injection hu with hu; subst hu
  repeat' (first | with_reducible assumption | exact sub hm (by decide) | with_reducible apply ev_reply | (intro u a hu) |
                    (intro u hu) | split | dsimp only | (intro x))

theorem ev_execGetMessageTypeSupport (h : Ev m s t)  (u : State) (hu : execGetMessageTypeSupport t = .next u)
    (hm : 0x100400 ||| m = m) : Ev m s u := by
  unfold execGetMessageTypeSupport at hu; injection hu with hu; subst hu
  repeat' (first | with_reducible assumption | exact sub hm (by decide) | with_reducible apply ev_reply | (intro u a hu) |
                    (intro u hu) | split | dsimp only | (intro x))

theorem ev_execGetVendorDefinedMessageSupport (h : Ev m s t)  (u : State) (hu : execGetVendorDefinedMessageSupport t = .next u)
    (hm : 0x100400 ||| m = m) : Ev m s u := by
  unfold execGetVendorDefinedMessageSupport at hu; injection hu with hu; subst hu
  repeat' (first | with_reducible assumption | exact sub hm (by decide) | with_reducible apply ev_reply | (intro u a hu) |
                    (intro u hu) | split | dsimp only | (intro x))

theorem ev_execGettid (h : Ev m s t)  (u : State) (hu : execGettid t = .next u)
    (hm : 0x100400 ||| m = m) : Ev m s u := by
  unfold execGettid at hu; injection hu with hu; subst hu
  repeat' (first | with_reducible assumption | exact sub hm (by decide) | with_reducible apply ev_reply | (intro u a hu) |
                    (intro u hu) | split | dsimp only | (intro x))

theorem ev_execSettid (h : Ev m s t) (a0 : Nat) (u : State) (hu : execSettid a0 t = .next u)
    (hm : 0x100400 ||| m = m) : Ev m s u := by
  unfold execSettid at hu; injection hu with hu; subst hu
  repeat' (first | with_reducible assumption | exact sub hm (by decide) | with_reducible apply ev_reply |
                    with_reducible apply ev_updSv | (intro u a hu) | (intro u hu) | split | dsimp only | (intro x))

theorem ev_execGetpldmversion (h : Ev m s t)  (u : State) (hu : execGetpldmversion t = .next u)
    (hm : 0x100400 ||| m = m) : Ev m s u := by
  unfold execGetpldmversion at hu; injection hu with hu; subst hu
  repeat' (first | with_reducible assumption | exact sub hm (by decide) | with_reducible apply ev_reply | (intro u a hu) |
                    (intro u hu) | split | dsimp only | (intro x))

theorem ev_execGetpldmtypes (h : Ev m s t)  (u : State) (hu : execGetpldmtypes t = .next u)
    (hm : 0x100400 ||| m = m) : Ev m s u := by
  unfold execGetpldmtypes at hu; injection hu with hu; subst hu
  repeat' (first | with_reducible assumption | exact sub hm (by decide) | with_reducible apply ev_reply | (intro u a hu) |
                    (intro u hu) | split | dsimp only | (intro x))

theorem ev_execGetpldmcommands (h : Ev m s t)  (u : State) (hu : execGetpldmcommands t = .next u)
    (hm : 0x100400 ||| m = m) : Ev m s u := by
  unfold execGetpldmcommands at hu; injection hu with hu; subst hu
  repeat' (first | with_reducible assumption | exact sub hm (by decide) | with_reducible apply ev_reply | (intro u a hu) |
                    (intro u hu) | split | dsimp only | (intro x))

/-! ### Spdm.lean -/

theorem ev_setSpdmStage (h : Ev m s t) (a1 : Transport) (a2 : Nat)
    (hm : 0x100000 ||| m = m) : Ev m s (State.setSpdmStage t a1 a2) := by
  unfold State.setSpdmStage
  repeat' (first | with_reducible assumption | exact sub hm (by decide) | with_reducible exact fun hw => wf_spSet _ _ hw |
                    with_reducible exact fun hw => wf_spSetRun _ _ hw | with_reducible apply ev_updSv | (intro u a hu) |
                    (intro u hu) | split | dsimp only | (intro x))

theorem ev_answer (h : Ev m s t) (a1 : Transport) (a2 : Nat) (a3 : List Nat)
    (hm : 0x100400 ||| m = m) : Ev m s (State.answer t a1 a2 a3) := by
  unfold State.answer
  repeat' (first | with_reducible assumption | exact sub hm (by decide) | with_reducible exact fun hw => wf_spSet _ _ hw |
                    with_reducible exact fun hw => wf_spSetRun _ _ hw | with_reducible apply ev_reply |
                    with_reducible apply ev_emit | with_reducible apply ev_updSv | (intro u a hu) | (intro u hu) | split |
                    dsimp only | (intro x))

theorem ev_spdm (h : Ev m s t) (a1 : Transport) (a2 : Nat) (a3 : State → State) (h3 : ∀ x0, Ev m s x0 → Ev m s (a3 x0))
    (hm : 0x100400 ||| m = m) : Ev m s (State.spdm t a1 a2 a3) := by
  unfold State.spdm
  repeat' (first | with_reducible assumption | exact sub hm (by decide) | with_reducible apply ev_answer |
                    with_reducible apply ev_emit | with_reducible apply h3 | (intro u a hu) | (intro u hu) | split |
                    dsimp only | (intro x))

theorem ev_spdmVersion (h : Ev m s t) (a1 : Transport)
    (hm : 0x100400 ||| m = m) : Ev m s (State.spdmVersion t a1) := by
  unfold State.spdmVersion
  repeat' (first | with_reducible assumption | exact sub hm (by decide) | with_reducible apply ev_spdm |
                    with_reducible apply ev_answer | with_reducible apply ev_setSpdmStage | (intro u a hu) | (intro u hu) |
                    split | dsimp only | (intro x))

theorem ev_spdmCaps (h : Ev m s t) (a1 : Transport)
    (hm : 0x100400 ||| m = m) : Ev m s (State.spdmCaps t a1) := by
  unfold State.spdmCaps
  repeat' (first | with_reducible assumption | exact sub hm (by decide) | with_reducible apply ev_spdm |
                    with_reducible apply ev_answer | with_reducible apply ev_setSpdmStage | (intro u a hu) | (intro u hu) |
                    split | dsimp only | (intro x))

theorem ev_spdmAlgs (h : Ev m s t) (a1 : Transport)
    (hm : 0x100400 ||| m = m) : Ev m s (State.spdmAlgs t a1) := by
  unfold State.spdmAlgs
  repeat' (first | with_reducible assumption | exact sub hm (by decide) | with_reducible apply ev_spdm |
                    with_reducible apply ev_answer | with_reducible apply ev_setSpdmStage | (intro u a hu) | (intro u hu) |
                    split | dsimp only | (intro x))

theorem ev_spdmDigests (h : Ev m s t) (a1 : Transport)
    (hm : 0x100400 ||| m = m) : Ev m s (State.spdmDigests t a1) := by
  unfold State.spdmDigests
  repeat' (first | with_reducible assumption | exact sub hm (by decide) | with_reducible apply ev_spdm |
                    with_reducible apply ev_answer | (intro u a hu) | (intro u hu) | split | dsimp only | (intro x))

theorem ev_spdmCert (h : Ev m s t) (a1 : Transport) (a2 : Nat)
    (hm : 0x100400 ||| m = m) : Ev m s (State.spdmCert t a1 a2) := by
  unfold State.spdmCert
  repeat' (first | with_reducible assumption | exact sub hm (by decide) | with_reducible apply ev_spdm |
                    with_reducible apply ev_answer | (intro u a hu) | (intro u hu) | split | dsimp only | (intro x))

theorem ev_spdmChallenge (h : Ev m s t) (a1 : Transport) (a2 : Nat)
    (hm : 0x100400 ||| m = m) : Ev m s (State.spdmChallenge t a1 a2) := by
  unfold State.spdmChallenge
  repeat' (first | with_reducible assumption | exact sub hm (by decide) | with_reducible apply ev_spdm |
                    with_reducible apply ev_answer | (intro u a hu) | (intro u hu) | split | dsimp only | (intro x))

theorem ev_spdmMeas (h : Ev m s t) (a1 : Transport) (a2 : Nat)
    (hm : 0x100400 ||| m = m) : Ev m s (State.spdmMeas t a1 a2) := by
  unfold State.spdmMeas
  repeat' (first | with_reducible assumption | exact sub hm (by decide) | with_reducible apply ev_spdm |
                    with_reducible apply ev_answer | (intro u a hu) | (intro u hu) | split | dsimp only | (intro x))

theorem ev_spdmKeyExchange (h : Ev m s t) (a1 : Transport) (a2 : Bool) (a3 : Bool)
    (hm : 0x100402 ||| m = m) : Ev m s (State.spdmKeyExchange t a1 a2 a3) := by
  unfold State.spdmKeyExchange
  repeat' (first | with_reducible assumption | exact sub hm (by decide) | with_reducible apply ev_spdm |
                    with_reducible apply ev_answer | with_reducible apply ev_updSv | with_reducible apply ev_noteSess |
                    (intro u a hu) | (intro u hu) | split | dsimp only | (intro x))

theorem ev_closeSess (h : Ev m s t) (a1 : Nat)
    (hm : 0x100002 ||| m = m) : Ev m s (State.closeSess t a1) := by
  unfold State.closeSess
  repeat' (first | with_reducible assumption | exact sub hm (by decide) | with_reducible exact fun hw => wf_filter _ hw |
                    with_reducible apply ev_noteSess | with_reducible apply ev_updSv | (intro u a hu) | (intro u hu) | split |
                    dsimp only | (intro x))

theorem ev_withSess (h : Ev m s t) (a1 : Nat) (a2 : Sess → State → State) (h2 : ∀ x0 x1, Ev m s x1 → Ev m s (a2 x0 x1))
    (hm : 0x100400 ||| m = m) : Ev m s (State.withSess t a1 a2) := by
  unfold State.withSess
  repeat' (first | with_reducible assumption | exact sub hm (by decide) | with_reducible apply ev_touch |
                    with_reducible apply ev_reply | with_reducible apply h2 | (intro u a hu) | (intro u hu) | split |
                    dsimp only | (intro x))

theorem ev_spdmFinish (h : Ev m s t) (a1 : Nat) (a2 : Bool)
    (hm : 0x100402 ||| m = m) : Ev m s (State.spdmFinish t a1 a2) := by
  unfold State.spdmFinish
  repeat' (first | with_reducible assumption | exact sub hm (by decide) | with_reducible apply ev_withSess |
                    with_reducible apply ev_reply | with_reducible apply ev_noteSess | with_reducible apply ev_updSess |
                    with_reducible apply ev_closeSess | (intro u a hu) | (intro u hu) | split | dsimp only | (intro x))

theorem ev_inSess (h : Ev m s t) (a1 : Nat) (a2 : State → State) (h2 : ∀ x0, Ev m s x0 → Ev m s (a2 x0))
    (hm : 0x100400 ||| m = m) : Ev m s (State.inSess t a1 a2) := by
  unfold State.inSess
  repeat' (first | with_reducible assumption | exact sub hm (by decide) | with_reducible apply ev_withSess |
                    with_reducible apply ev_reply | with_reducible apply h2 | (intro u a hu) | (intro u hu) | split |
                    dsimp only | (intro x))

theorem ev_execGetVersion (h : Ev m s t) (a0 : Transport) (u : State) (hu : execGetVersion a0 t = .next u)
    (hm : 0x100400 ||| m = m) : Ev m s u := by
  unfold execGetVersion at hu; injection hu with hu; subst hu
  repeat' (first | with_reducible assumption | exact sub hm (by decide) | with_reducible apply ev_spdmVersion |
                    (intro u a hu) | (intro u hu) | split | dsimp only | (intro x))

theorem ev_execGetCapabilities (h : Ev m s t) (a0 : Transport) (u : State) (hu : execGetCapabilities a0 t = .next u)
    (hm : 0x100400 ||| m = m) : Ev m s u := by
  unfold execGetCapabilities at hu; injection hu with hu; subst hu
  repeat' (first | with_reducible assumption | exact sub hm (by decide) | with_reducible apply ev_spdmCaps | (intro u a hu) |
                    (intro u hu) | split | dsimp only | (intro x))

theorem ev_execNegotiateAlgorithms (h : Ev m s t) (a0 : Transport) (u : State) (hu : execNegotiateAlgorithms a0 t = .next u)
    (hm : 0x100400 ||| m = m) : Ev m s u := by
  unfold execNegotiateAlgorithms at hu; injection hu with hu; subst hu
  repeat' (first | with_reducible assumption | exact sub hm (by decide) | with_reducible apply ev_spdmAlgs | (intro u a hu) |
                    (intro u hu) | split | dsimp only | (intro x))

theorem ev_execGetDigests (h : Ev m s t) (a0 : Transport) (u : State) (hu : execGetDigests a0 t = .next u)
    (hm : 0x100400 ||| m = m) : Ev m s u := by
  unfold execGetDigests at hu; injection hu with hu; subst hu
  repeat' (first | with_reducible assumption | exact sub hm (by decide) | with_reducible apply ev_spdmDigests |
                    (intro u a hu) | (intro u hu) | split | dsimp only | (intro x))

theorem ev_execGetCertificate (h : Ev m s t) (a0 : Transport) (a1 : Nat) (u : State) (hu : execGetCertificate a0 a1 t = .next u)
    (hm : 0x100400 ||| m = m) : Ev m s u := by
  unfold execGetCertificate at hu; injection hu with hu; subst hu
  repeat' (first | with_reducible assumption | exact sub hm (by decide) | with_reducible apply ev_spdmCert | (intro u a hu) |
                    (intro u hu) | split | dsimp only | (intro x))

theorem ev_execChallenge (h : Ev m s t) (a0 : Transport) (a1 : Nat) (u : State) (hu : execChallenge a0 a1 t = .next u)
    (hm : 0x100400 ||| m = m) : Ev m s u := by
  unfold execChallenge at hu; injection hu with hu; subst hu
  repeat' (first | with_reducible assumption | exact sub hm (by decide) | with_reducible apply ev_spdmChallenge |
                    (intro u a hu) | (intro u hu) | split | dsimp only | (intro x))

theorem ev_execGetMeasurements (h : Ev m s t) (a0 : Transport) (a1 : Nat) (u : State) (hu : execGetMeasurements a0 a1 t =
    .next u)
    (hm : 0x100400 ||| m = m) : Ev m s u := by
  unfold execGetMeasurements at hu; injection hu with hu; subst hu
  repeat' (first | with_reducible assumption | exact sub hm (by decide) | with_reducible apply ev_spdmMeas | (intro u a hu) |
                    (intro u hu) | split | dsimp only | (intro x))

theorem ev_execKeyExchange (h : Ev m s t) (a0 : Transport) (a1 : Bool) (a2 : Bool) (u : State) (hu : execKeyExchange a0 a1
    a2 t = .next u)
    (hm : 0x100402 ||| m = m) : Ev m s u := by
  unfold execKeyExchange at hu; injection hu with hu; subst hu
  repeat' (first | with_reducible assumption | exact sub hm (by decide) | with_reducible apply ev_spdmKeyExchange |
                    (intro u a hu) | (intro u hu) | split | dsimp only | (intro x))

theorem ev_execFinish (h : Ev m s t) (a0 : Nat) (a1 : Bool) (u : State) (hu : execFinish a0 a1 t = .next u)
    (hm : 0x100402 ||| m = m) : Ev m s u := by
  unfold execFinish at hu; injection hu with hu; subst hu
  repeat' (first | with_reducible assumption | exact sub hm (by decide) | with_reducible apply ev_spdmFinish |
                    (intro u a hu) | (intro u hu) | split | dsimp only | (intro x))

theorem ev_execHeartbeat (h : Ev m s t) (a0 : Nat) (u : State) (hu : execHeartbeat a0 t = .next u)
    (hm : 0x100400 ||| m = m) : Ev m s u := by
  unfold execHeartbeat at hu; injection hu with hu; subst hu
  repeat' (first | with_reducible assumption | exact sub hm (by decide) | with_reducible apply ev_inSess |
                    with_reducible apply ev_reply | (intro u a hu) | (intro u hu) | split | dsimp only | (intro x))

theorem ev_execKeyUpdate (h : Ev m s t) (a0 : Nat) (u : State) (hu : execKeyUpdate a0 t = .next u)
    (hm : 0x100400 ||| m = m) : Ev m s u := by
  unfold execKeyUpdate at hu; injection hu with hu; subst hu
  repeat' (first | with_reducible assumption | exact sub hm (by decide) | with_reducible apply ev_inSess |
                    with_reducible apply ev_reply | (intro u a hu) | (intro u hu) | split | dsimp only | (intro x))

theorem ev_execEndSession (h : Ev m s t) (a0 : Nat) (u : State) (hu : execEndSession a0 t = .next u)
    (hm : 0x100402 ||| m = m) : Ev m s u := by
  unfold execEndSession at hu; injection hu with hu; subst hu
  repeat' (first | with_reducible assumption | exact sub hm (by decide) | with_reducible apply ev_inSess |
                    with_reducible apply ev_reply | with_reducible apply ev_closeSess | (intro u a hu) | (intro u hu) |
                    split | dsimp only | (intro x))

theorem ev_execGetEncapsulatedRequest (h : Ev m s t) (a0 : Nat) (u : State) (hu : execGetEncapsulatedRequest a0 t = .next u)
    (hm : 0x100400 ||| m = m) : Ev m s u := by
  unfold execGetEncapsulatedRequest at hu; injection hu with hu; subst hu
  repeat' (first | with_reducible assumption | exact sub hm (by decide) | with_reducible apply ev_withSess |
                    with_reducible apply ev_reply | (intro u a hu) | (intro u hu) | split | dsimp only | (intro x))

theorem ev_execDeliverEncapsulatedResponse (h : Ev m s t) (a0 : Nat) (a1 : Bool) (u : State) (hu :
    execDeliverEncapsulatedResponse a0 a1 t = .next u)
    (hm : 0x100402 ||| m = m) : Ev m s u := by
  unfold execDeliverEncapsulatedResponse at hu; injection hu with hu; subst hu
  repeat' (first | with_reducible assumption | exact sub hm (by decide) | with_reducible apply ev_withSess |
                    with_reducible apply ev_reply | with_reducible apply ev_updSess | with_reducible apply ev_closeSess |
                    (intro u a hu) | (intro u hu) | split | dsimp only | (intro x))

theorem ev_execHeartbeatTimeout (h : Ev m s t) (a0 : Nat) (u : State) (hu : execHeartbeatTimeout a0 t = .next u)
    (hm : 0x100002 ||| m = m) : Ev m s u := by
  unfold execHeartbeatTimeout at hu; injection hu with hu; subst hu
  repeat' (first | with_reducible assumption | exact sub hm (by decide) | with_reducible apply ev_closeSess | (intro u a hu) |
                    (intro u hu) | split | dsimp only | (intro x))

theorem ev_spdmRequest (h : Ev m s t) (a1 : Transport) (a2 : Nat)
    (hm : 0x100400 ||| m = m) : Ev m s (State.spdmRequest t a1 a2) := by
  unfold State.spdmRequest
  repeat' (first | with_reducible assumption | exact sub hm (by decide) | with_reducible apply ev_spdmVersion |
                    with_reducible apply ev_spdmCaps | with_reducible apply ev_spdmAlgs |
                    with_reducible apply ev_spdmDigests | with_reducible apply ev_spdmCert |
                    with_reducible apply ev_spdmChallenge | with_reducible apply ev_spdmMeas | with_reducible apply ev_spdm |
                    with_reducible apply ev_answer | (intro u a hu) | (intro u hu) | split | dsimp only | (intro x))

theorem ev_execDoeSpdmRequest (h : Ev m s t) (a0 : Nat) (a1 : Nat) (u : State) (hu : execDoeSpdmRequest a0 a1 t = .next u)
    (hm : 0x100400 ||| m = m) : Ev m s u := by
  unfold execDoeSpdmRequest at hu; injection hu with hu; subst hu
  repeat' (first | with_reducible assumption | exact sub hm (by decide) | with_reducible apply ev_spdmRequest |
                    (intro u a hu) | (intro u hu) | split | dsimp only | (intro x))

theorem ev_execSecuritySend (h : Ev m s t) (a0 : Hdr) (a1 : Nat) (a2 : Nat) (u : State) (hu : execSecuritySend a0 a1 a2 t =
    .next u)
    (hm : 0x107c02 ||| m = m) : Ev m s u := by
  unfold execSecuritySend at hu; injection hu with hu; subst hu
  repeat' (first | with_reducible assumption | exact sub hm (by decide) | with_reducible apply ev_beginAdmin |
                    with_reducible apply ev_finish | with_reducible apply ev_spdmRequest | (intro u a hu) | (intro u hu) |
                    split | dsimp only | (intro x))

theorem ev_execSecurityReceive (h : Ev m s t) (a0 : Hdr) (a1 : Nat) (u : State) (hu : execSecurityReceive a0 a1 t = .next u)
    (hm : 0x107c02 ||| m = m) : Ev m s u := by
  unfold execSecurityReceive at hu; injection hu with hu; subst hu
  repeat' (first | with_reducible assumption | exact sub hm (by decide) | with_reducible exact fun hw => wf_spSet _ _ hw |
                    with_reducible exact fun hw => wf_spSetRun _ _ hw | with_reducible apply ev_beginAdmin |
                    with_reducible apply ev_finish | with_reducible apply ev_emit | with_reducible apply ev_updSv |
                    (intro u a hu) | (intro u hu) | split | dsimp only | (intro x))

theorem ev_execRngHealthFailure (h : Ev m s t)  (u : State) (hu : execRngHealthFailure t = .next u)
    (hm : 0x2 ||| m = m) : Ev m s u := by
  unfold execRngHealthFailure at hu; injection hu with hu; subst hu
  repeat' (first | with_reducible assumption | exact sub hm (by decide) | with_reducible apply ev_count |
                    with_reducible apply ev_wr | (intro u a hu) | (intro u hu) | split | dsimp only | (intro x))

theorem ev_execRngReseed (h : Ev m s t)  (u : State) (hu : execRngReseed t = .next u)
    (hm : 0x2 ||| m = m) : Ev m s u := by
  unfold execRngReseed at hu; injection hu with hu; subst hu
  repeat' (first | with_reducible assumption | exact sub hm (by decide) | with_reducible apply ev_wr | (intro u a hu) |
                    (intro u hu) | split | dsimp only | (intro x))

/-! ### Update.lean -/

theorem ev_setUpd (h : Ev m s t) (a1 : Upd → Upd)
    (hm : 0x100000 ||| m = m) : Ev m s (State.setUpd t a1) := by
  unfold State.setUpd
  repeat' (first | with_reducible assumption | exact sub hm (by decide) | with_reducible apply ev_updSv | (intro u a hu) |
                    (intro u hu) | split | dsimp only | (intro x))

theorem ev_inUpdate (h : Ev m s t) (a1 : Nat) (a2 : Nat) (a3 : Upd → State → State) (h3 : ∀ x0 x1, Ev m s x1 → Ev m s (a3 x0
    x1))
    (hm : 0x100402 ||| m = m) : Ev m s (State.inUpdate t a1 a2 a3) := by
  unfold State.inUpdate
  repeat' (first | with_reducible assumption | exact sub hm (by decide) | with_reducible apply ev_oper |
                    with_reducible apply ev_setUpd | with_reducible apply ev_reply | with_reducible apply h3 |
                    (intro u a hu) | (intro u hu) | split | dsimp only | (intro x))

theorem ev_pldmState (h : Ev m s t) (a1 : Nat)
    (hm : 0x2 ||| m = m) : Ev m s (State.pldmState t a1) := by
  unfold State.pldmState
  repeat' (first | with_reducible assumption | exact sub hm (by decide) | with_reducible apply ev_wr | (intro u a hu) |
                    (intro u hu) | split | dsimp only | (intro x))

theorem ev_requestUpdate (h : Ev m s t) (a1 : Nat) (a2 : Nat)
    (hm : 0x100402 ||| m = m) : Ev m s (State.requestUpdate t a1 a2) := by
  unfold State.requestUpdate
  repeat' (first | with_reducible assumption | exact sub hm (by decide) | with_reducible apply ev_reply |
                    with_reducible apply ev_wr | with_reducible apply ev_updSv | with_reducible apply ev_pldmState |
                    (intro u a hu) | (intro u hu) | split | dsimp only | (intro x))

theorem ev_execQueryDeviceIdentifiers (h : Ev m s t) (a0 : Nat) (u : State) (hu : execQueryDeviceIdentifiers a0 t = .next u)
    (hm : 0x100402 ||| m = m) : Ev m s u := by
  unfold execQueryDeviceIdentifiers at hu; injection hu with hu; subst hu
  repeat' (first | with_reducible assumption | exact sub hm (by decide) | with_reducible apply ev_oper |
                    with_reducible apply ev_reply | (intro u a hu) | (intro u hu) | split | dsimp only | (intro x))

theorem ev_execGetFirmwareParameters (h : Ev m s t) (a0 : Nat) (u : State) (hu : execGetFirmwareParameters a0 t = .next u)
    (hm : 0x100402 ||| m = m) : Ev m s u := by
  unfold execGetFirmwareParameters at hu; injection hu with hu; subst hu
  repeat' (first | with_reducible assumption | exact sub hm (by decide) | with_reducible apply ev_oper |
                    with_reducible apply ev_reply | (intro u a hu) | (intro u hu) | split | dsimp only | (intro x))

theorem ev_execRequestUpdate (h : Ev m s t) (a0 : Nat) (a1 : Nat) (u : State) (hu : execRequestUpdate a0 a1 t = .next u)
    (hm : 0x100402 ||| m = m) : Ev m s u := by
  unfold execRequestUpdate at hu; injection hu with hu; subst hu
  repeat' (first | with_reducible assumption | exact sub hm (by decide) | with_reducible apply ev_oper |
                    with_reducible apply ev_requestUpdate | (intro u a hu) | (intro u hu) | split | dsimp only | (intro x))

theorem ev_execPassComponentTable (h : Ev m s t) (a0 : Nat) (a1 : Nat) (a2 : Nat) (u : State) (hu : execPassComponentTable
    a0 a1 a2 t = .next u)
    (hm : 0x100402 ||| m = m) : Ev m s u := by
  unfold execPassComponentTable at hu; injection hu with hu; subst hu
  repeat' (first | with_reducible assumption | exact sub hm (by decide) | with_reducible apply ev_inUpdate |
                    with_reducible apply ev_reply | with_reducible apply ev_pldmState | with_reducible apply ev_setUpd |
                    (intro u a hu) | (intro u hu) | split | dsimp only | (intro x))

theorem ev_stageVer (h : Ev m s t) (a1 : Upd) (a2 : Nat) (a3 : Nat)
    (hm : 0x10 ||| m = m) : Ev m s (State.stageVer t a1 a2 a3).2 := by
  unfold State.stageVer
  repeat' (first | with_reducible assumption | exact sub hm (by decide) | with_reducible apply ev_free |
                    (refine ev_free_eq ?_ _ _ (by with_reducible assumption) ?_) | (intro u a hu) | (intro u hu) | split |
                    dsimp only | (intro x))

theorem ev_stageVer_eq  (h : Ev m s t) (a1 : Upd) (a2 : Nat) (a3 : Nat)  (v : Nat) (u : State)
    (e : State.stageVer t a1 a2 a3 = (v, u))
    (hm : 0x10 ||| m = m) : Ev m s u := by
  have k := ev_stageVer h a1 a2 a3  hm; rw [e] at k; exact k

theorem ev_beginStaging (h : Ev m s t) (a1 : Upd) (a2 : Nat) (a3 : Nat)
    (hm : 0x180010 ||| m = m) : Ev m s (State.beginStaging t a1 a2 a3) := by
  unfold State.beginStaging
  repeat' (first | with_reducible assumption | exact sub hm (by decide) | with_reducible apply ev_stageVer |
                    (refine ev_stageVer_eq ?_ _ _ _ _ _ (by with_reducible assumption) ?_) | with_reducible apply ev_setUpd |
                    with_reducible apply ev_progOpt | with_reducible apply ev_rewriteOpt | (intro u a hu) | (intro u hu) |
                    split | dsimp only | (intro x))

theorem ev_updateComponent (h : Ev m s t) (a1 : Upd) (a2 : Nat) (a3 : Nat) (a4 : Nat) (a5 : Bool)
    (hm : 0x180412 ||| m = m) : Ev m s (State.updateComponent t a1 a2 a3 a4 a5) := by
  unfold State.updateComponent
  repeat' (first | with_reducible assumption | exact sub hm (by decide) | with_reducible apply ev_reply |
                    with_reducible apply ev_beginStaging | with_reducible apply ev_wholeErase |
                    with_reducible apply ev_setUpd | with_reducible apply ev_wr | with_reducible apply ev_pldmState |
                    with_reducible apply ev_each | (intro u a hu) | (intro u hu) | split | dsimp only | (intro x))

theorem ev_execUpdateComponent (h : Ev m s t) (a0 : Nat) (a1 : Nat) (a2 : Nat) (a3 : Nat) (a4 : Bool) (u : State) (hu :
    execUpdateComponent a0 a1 a2 a3 a4 t = .next u)
    (hm : 0x180412 ||| m = m) : Ev m s u := by
  unfold execUpdateComponent at hu; injection hu with hu; subst hu
  repeat' (first | with_reducible assumption | exact sub hm (by decide) | with_reducible apply ev_inUpdate |
                    with_reducible apply ev_updateComponent | (intro u a hu) | (intro u hu) | split | dsimp only |
                    (intro x))

theorem ev_progData (h : Ev m s t) (a0 : Nat) (a1 : Nat) (a2 : List Word64)
    (hm : 0x80000 ||| m = m) : Ev m s (State.progData a0 a1 a2 t) := by
  induction a0 generalizing t a1 a2 with
  | zero => exact h
  | succ n ih =>
    unfold State.progData
    repeat' (first | with_reducible assumption | exact sub hm (by decide) | with_reducible exact fun hw => hw |
                      with_reducible exact fun hw => ⟨hw.1, hw.2, hw.3⟩ | with_reducible apply ih |
                      with_reducible apply ev_wholeRun | split | dsimp only)

theorem ev_copyComp (h : Ev m s t) (a1 : Nat)
    (hm : 0x80000 ||| m = m) : Ev m s (State.copyComp t a1) := by
  unfold State.copyComp
  repeat' (first | with_reducible assumption | exact sub hm (by decide) | with_reducible apply ev_progData |
                    with_reducible apply ev_wholeErase | with_reducible apply ev_each | (intro u a hu) | (intro u hu) |
                    split | dsimp only | (intro x))

theorem ev_finishSet (h : Ev m s t) (a1 : Upd)
    (hm : 0x180002 ||| m = m) : Ev m s (State.finishSet t a1) := by
  unfold State.finishSet
  repeat' (first | with_reducible assumption | exact sub hm (by decide) | with_reducible exact fun hw => wf_filter _ hw |
                    with_reducible apply ev_pldmState | with_reducible apply ev_wr | with_reducible apply ev_setUpd |
                    with_reducible apply ev_markBank | with_reducible apply ev_copyComp | with_reducible apply ev_each |
                    (intro u a hu) | (intro u hu) | split | dsimp only | (intro x))

theorem ev_verifyComp (h : Ev m s t) (a1 : Nat) (a2 : ImageMeta)
    (hm : 0x180422 ||| m = m) : Ev m s (State.verifyComp t a1 a2) := by
  unfold State.verifyComp
  repeat' (first | with_reducible assumption | exact sub hm (by decide) | with_reducible apply ev_reply |
                    with_reducible apply ev_noteAdmission | with_reducible apply ev_count |
                    with_reducible apply ev_pldmState | with_reducible apply ev_setUpd | with_reducible apply ev_finishSet |
                    with_reducible apply ev_when | (intro u a hu) | (intro u hu) | split | dsimp only | (intro x))

theorem ev_takeChunk (h : Ev m s t) (a1 : Upd) (a2 : Nat) (a3 : Nat) (a4 : List Nat) (a5 : ImageMeta)
    (hm : 0x180422 ||| m = m) : Ev m s (State.takeChunk t a1 a2 a3 a4 a5) := by
  unfold State.takeChunk
  repeat' (first | with_reducible assumption | exact sub hm (by decide) | with_reducible apply ev_progData |
                    with_reducible apply ev_wr | with_reducible apply ev_setUpd | with_reducible apply ev_verifyComp |
                    with_reducible apply ev_reply | (intro u a hu) | (intro u hu) | split | dsimp only | (intro x))

theorem ev_execFirmwareDataResponse (h : Ev m s t) (a0 : Nat) (a1 : List Nat) (a2 : ImageMeta) (u : State) (hu :
    execFirmwareDataResponse a0 a1 a2 t = .next u)
    (hm : 0x180422 ||| m = m) : Ev m s u := by
  unfold execFirmwareDataResponse at hu; injection hu with hu; subst hu
  repeat' (first | with_reducible assumption | exact sub hm (by decide) | with_reducible apply ev_inUpdate |
                    with_reducible apply ev_takeChunk | (intro u a hu) | (intro u hu) | split | dsimp only | (intro x))

theorem ev_execGetStatus (h : Ev m s t) (a0 : Nat) (u : State) (hu : execGetStatus a0 t = .next u)
    (hm : 0x100402 ||| m = m) : Ev m s u := by
  unfold execGetStatus at hu; injection hu with hu; subst hu
  repeat' (first | with_reducible assumption | exact sub hm (by decide) | with_reducible apply ev_oper |
                    with_reducible apply ev_reply | (intro u a hu) | (intro u hu) | split | dsimp only | (intro x))

theorem ev_execCancelUpdateComponent (h : Ev m s t) (a0 : Nat) (u : State) (hu : execCancelUpdateComponent a0 t = .next u)
    (hm : 0x100402 ||| m = m) : Ev m s u := by
  unfold execCancelUpdateComponent at hu; injection hu with hu; subst hu
  repeat' (first | with_reducible assumption | exact sub hm (by decide) | with_reducible apply ev_inUpdate |
                    with_reducible apply ev_reply | with_reducible apply ev_wr | with_reducible apply ev_pldmState |
                    with_reducible apply ev_setUpd | (intro u a hu) | (intro u hu) | split | dsimp only | (intro x))

theorem ev_execCancelUpdate (h : Ev m s t) (a0 : Nat) (u : State) (hu : execCancelUpdate a0 t = .next u)
    (hm : 0x100402 ||| m = m) : Ev m s u := by
  unfold execCancelUpdate at hu; injection hu with hu; subst hu
  repeat' (first | with_reducible assumption | exact sub hm (by decide) | with_reducible apply ev_inUpdate |
                    with_reducible apply ev_reply | with_reducible apply ev_endUpdate | (intro u a hu) | (intro u hu) |
                    split | dsimp only | (intro x))

theorem ev_execUpdateTimeout (h : Ev m s t)  (u : State) (hu : execUpdateTimeout t = .next u)
    (hm : 0x100002 ||| m = m) : Ev m s u := by
  unfold execUpdateTimeout at hu; injection hu with hu; subst hu
  repeat' (first | with_reducible assumption | exact sub hm (by decide) | with_reducible apply ev_endUpdate | (intro u a hu) |
                    (intro u hu) | split | dsimp only | (intro x))

theorem ev_beginAct (h : Ev m s t) (a1 : Nat) (a2 : ImageMeta)
    (hm : 0x181c22 ||| m = m) : Ev m s (State.beginAct t a1 a2) := by
  unfold State.beginAct
  repeat' (first | with_reducible assumption | exact sub hm (by decide) | with_reducible exact fun hw => hw |
                    with_reducible apply ev_count | with_reducible apply ev_noteAdmission | with_reducible apply ev_updSv |
                    with_reducible apply ev_updBt | with_reducible apply ev_wr | with_reducible apply ev_postAen |
                    with_reducible apply ev_each | (intro u a hu) | (intro u hu) | split | dsimp only | (intro x))

theorem ev_activateFirmware (h : Ev m s t) (a1 : Bool) (a2 : ImageMeta)
    (hm : 0x181c22 ||| m = m) : Ev m s (State.activateFirmware t a1 a2) := by
  unfold State.activateFirmware
  repeat' (first | with_reducible assumption | exact sub hm (by decide) | with_reducible apply ev_reply |
                    with_reducible apply ev_wr | with_reducible apply ev_endUpdate | with_reducible apply ev_markBank |
                    with_reducible apply ev_beginAct | (intro u a hu) | (intro u hu) | split | dsimp only | (intro x))

theorem ev_execActivateFirmware (h : Ev m s t) (a0 : Nat) (a1 : Bool) (a2 : ImageMeta) (u : State) (hu :
    execActivateFirmware a0 a1 a2 t = .next u)
    (hm : 0x181c22 ||| m = m) : Ev m s u := by
  unfold execActivateFirmware at hu; injection hu with hu; subst hu
  repeat' (first | with_reducible assumption | exact sub hm (by decide) | with_reducible apply ev_oper |
                    with_reducible apply ev_activateFirmware | (intro u a hu) | (intro u hu) | split | dsimp only |
                    (intro x))

theorem ev_updAct (h : Ev m s t) (a1 : Act → Act)
    (hm : 0x100000 ||| m = m) : Ev m s (State.updAct t a1) := by
  unfold State.updAct
  repeat' (first | with_reducible assumption | exact sub hm (by decide) | with_reducible apply ev_updSv | (intro u a hu) |
                    (intro u hu) | split | dsimp only | (intro x))

theorem ev_execActivationQuiesce (h : Ev m s t)  (u : State) (hu : execActivationQuiesce t = .next u)
    (hm : 0x3069c2 ||| m = m) : Ev m s u := by
  unfold execActivationQuiesce at hu; injection hu with hu; subst hu
  repeat' (first | with_reducible assumption | exact sub hm (by decide) | with_reducible apply ev_testMeets |
                    with_reducible apply ev_updAct | with_reducible apply ev_wr | with_reducible apply ev_updFn |
                    with_reducible apply ev_formLossFlush | with_reducible apply ev_loadBank |
                    with_reducible apply ev_loadHalf | with_reducible apply ev_each | (intro u a hu) | (intro u hu) | split |
                    dsimp only | (intro x))

theorem ev_execActivationHoldBegin (h : Ev m s t) (a0 : Bool) (u : State) (hu : execActivationHoldBegin a0 t = .next u)
    (hm : 0x320102 ||| m = m) : Ev m s u := by
  unfold execActivationHoldBegin at hu; injection hu with hu; subst hu
  repeat' (first | with_reducible assumption | exact sub hm (by decide) | with_reducible apply ev_updAct |
                    with_reducible apply ev_beginHold | with_reducible apply ev_loadBank | with_reducible apply ev_count |
                    (intro u a hu) | (intro u hu) | split | dsimp only | (intro x))

theorem ev_clearCores (h : Ev m s t) (a1 : Half)
    (hm : 0xe2 ||| m = m) : Ev m s (State.clearCores t a1) := by
  unfold State.clearCores
  repeat' (first | with_reducible assumption | exact sub hm (by decide) | with_reducible apply ev_uev |
                    with_reducible apply ev_count | with_reducible apply ev_freeLocks | with_reducible apply ev_emptyChimes |
                    with_reducible apply ev_each | (intro u a hu) | (intro u hu) | split | dsimp only | (intro x))

theorem ev_lockConsole (h : Ev m s t)
    (hm : 0x22 ||| m = m) : Ev m s (State.lockConsole t) := by
  unfold State.lockConsole
  repeat' (first | with_reducible assumption | exact sub hm (by decide) | with_reducible apply ev_hev |
                    with_reducible apply ev_wr | (intro u a hu) | (intro u hu) | split | dsimp only | (intro x))

theorem ev_endActHold (h : Ev m s t)
    (hm : 0x100 ||| m = m) : Ev m s (State.endActHold t) := by
  unfold State.endActHold
  repeat' (first | with_reducible assumption | exact sub hm (by decide) | with_reducible apply ev_updHub | (intro u a hu) |
                    (intro u hu) | split | dsimp only | (intro x))

theorem ev_startImage (h : Ev m s t) (a1 : Half) (a2 : Nat) (a3 : ImageMeta)
    (hm : 0x1803e2 ||| m = m) : Ev m s (State.startImage t a1 a2 a3) := by
  unfold State.startImage
  repeat' (first | with_reducible assumption | exact sub hm (by decide) | with_reducible apply ev_endActHold |
                    with_reducible apply ev_lockConsole | with_reducible apply ev_endUpdate |
                    with_reducible apply ev_endSessions | with_reducible apply ev_clearCores | with_reducible apply ev_wr |
                    with_reducible apply ev_runSet | with_reducible apply ev_beginSync | (intro u a hu) | (intro u hu) |
                    split | dsimp only | (intro x))

theorem ev_beginAttempt (h : Ev m s t) (a1 : Nat)
    (hm : 0x80002 ||| m = m) : Ev m s (State.beginAttempt t a1) := by
  unfold State.beginAttempt
  repeat' (first | with_reducible assumption | exact sub hm (by decide) | with_reducible exact fun hw => hw |
                    with_reducible apply ev_wr | with_reducible apply ev_updBt | with_reducible apply ev_progOpt |
                    (intro u a hu) | (intro u hu) | split | dsimp only | (intro x))

theorem ev_returnOld (h : Ev m s t) (a1 : Half) (a2 : Act)
    (hm : 0x1803e2 ||| m = m) : Ev m s (State.returnOld t a1 a2) := by
  unfold State.returnOld
  repeat' (first | with_reducible assumption | exact sub hm (by decide) | with_reducible apply ev_loadBank |
                    with_reducible apply ev_wr | with_reducible apply ev_markBank | with_reducible apply ev_startImage |
                    (intro u a hu) | (intro u hu) | split | dsimp only | (intro x))

theorem ev_execImageChange (h : Ev m s t)  (u : State) (hu : execImageChange t = .next u)
    (hm : 0x1803e2 ||| m = m) : Ev m s u := by
  unfold execImageChange at hu; injection hu with hu; subst hu
  repeat' (first | with_reducible assumption | exact sub hm (by decide) | with_reducible apply ev_wr |
                    with_reducible apply ev_updAct | with_reducible apply ev_returnOld |
                    with_reducible apply ev_beginAttempt | with_reducible apply ev_startImage | (intro u a hu) |
                    (intro u hu) | split | dsimp only | (intro x))

theorem ev_resumeAct (h : Ev m s t)
    (hm : 0x305c02 ||| m = m) : Ev m s (State.resumeAct t) := by
  unfold State.resumeAct
  repeat' (first | with_reducible assumption | exact sub hm (by decide) | with_reducible apply ev_wr |
                    with_reducible apply ev_updSv | with_reducible apply ev_updFn | with_reducible apply ev_issueAll |
                    with_reducible apply ev_pump | with_reducible apply ev_grantParts | with_reducible apply ev_drain |
                    with_reducible apply ev_enterMode | with_reducible apply ev_each | (intro u a hu) | (intro u hu) | split |
                    dsimp only | (intro x))

theorem ev_attemptService (h : Ev m s t) (a1 : Nat)
    (hm : 0x80000 ||| m = m) : Ev m s (State.attemptService t a1) := by
  unfold State.attemptService
  repeat' (first | with_reducible assumption | exact sub hm (by decide) | with_reducible apply ev_progOpt | (intro u a hu) |
                    (intro u hu) | split | dsimp only | (intro x))

theorem ev_execActivationResume (h : Ev m s t)  (u : State) (hu : execActivationResume t = .next u)
    (hm : 0x385c22 ||| m = m) : Ev m s u := by
  unfold execActivationResume at hu; injection hu with hu; subst hu
  repeat' (first | with_reducible assumption | exact sub hm (by decide) | with_reducible apply ev_resumeAct |
                    with_reducible apply ev_aev | with_reducible apply ev_attemptService | (intro u a hu) | (intro u hu) |
                    split | dsimp only | (intro x))

theorem ev_execActivationFallback (h : Ev m s t)  (u : State) (hu : execActivationFallback t = .next u)
    (hm : 0x385fe2 ||| m = m) : Ev m s u := by
  unfold execActivationFallback at hu; injection hu with hu; subst hu
  repeat' (first | with_reducible assumption | exact sub hm (by decide) | with_reducible apply ev_returnOld |
                    with_reducible apply ev_reply | with_reducible apply ev_aev | with_reducible apply ev_resumeAct |
                    (intro u a hu) | (intro u hu) | split | dsimp only | (intro x))

theorem ev_deviceReset (h : Ev m s t)
    (hm : 0x3fffff ||| m = m) : Ev m s (State.deviceReset t) := by
  unfold State.deviceReset
  repeat' (first | with_reducible assumption | exact sub hm (by decide) | with_reducible exact fun hw => hw |
                    with_reducible apply ev_powerOn | with_reducible apply ev_updLg | with_reducible apply ev_beginLoss |
                    (intro u a hu) | (intro u hu) | split | dsimp only | (intro x))

theorem ev_confirmSet (h : Ev m s t)
    (hm : 0x80022 ||| m = m) : Ev m s (State.confirmSet t) := by
  unfold State.confirmSet
  repeat' (first | with_reducible assumption | exact sub hm (by decide) | with_reducible apply ev_aev |
                    with_reducible apply ev_settleConfirm | with_reducible apply ev_markBank | (intro u a hu) | (intro u hu) |
                    split | dsimp only | (intro x))

theorem ev_revertSet (h : Ev m s t) (a1 : ImageMeta)
    (hm : 0x3fffff ||| m = m) : Ev m s (State.revertSet t a1) := by
  unfold State.revertSet
  repeat' (first | with_reducible assumption | exact sub hm (by decide) | with_reducible apply ev_markBank |
                    with_reducible apply ev_beginAct | with_reducible apply ev_deviceReset | (intro u a hu) | (intro u hu) |
                    split | dsimp only | (intro x))

/-! ### Recorder.lean -/

theorem ev_programRecord (h : Ev m s t) (a1 : Nat) (a2 : List Word64)
    (hm : 0x80000 ||| m = m) : Ev m s (State.programRecord t a1 a2) := by
  unfold State.programRecord
  repeat' (first | with_reducible assumption | exact sub hm (by decide) | with_reducible apply ev_wholeRun | (intro u a hu) |
                    (intro u hu) | split | dsimp only | (intro x))

theorem ev_permanentCopy (h : Ev m s t)
    (hm : 0x80020 ||| m = m) : Ev m s (State.permanentCopy t) := by
  unfold State.permanentCopy
  repeat' (first | with_reducible assumption | exact sub hm (by decide) | with_reducible exact fun hw => hw |
                    with_reducible apply ev_updEvt | with_reducible apply ev_programRecord | (intro u a hu) | (intro u hu) |
                    split | dsimp only | (intro x))

theorem ev_clearRing (h : Ev m s t) (a1 : Nat) (a2 : Nat)
    (hm : 0x84020 ||| m = m) : Ev m s (State.clearRing t a1 a2) := by
  unfold State.clearRing
  repeat' (first | with_reducible assumption | exact sub hm (by decide) | with_reducible exact fun hw => hw |
                    with_reducible exact fun hw => wf_spClear _ _ hw | with_reducible apply ev_programRecord |
                    with_reducible apply ev_updLg | with_reducible apply ev_ledgerWrite | with_reducible apply ev_updEvt |
                    (intro u a hu) | (intro u hu) | split | dsimp only | (intro x))

theorem ev_clearPermanent (h : Ev m s t) (a1 : Clearing)
    (hm : 0x80020 ||| m = m) : Ev m s (State.clearPermanent t a1) := by
  unfold State.clearPermanent
  repeat' (first | with_reducible assumption | exact sub hm (by decide) | with_reducible exact fun hw => hw |
                    with_reducible apply ev_wholeErase | with_reducible apply ev_updEvt | with_reducible apply ev_wholeRun |
                    with_reducible apply ev_each | (intro u a hu) | (intro u hu) | split | dsimp only | (intro x))

theorem ev_clearRest (h : Ev m s t)
    (hm : 0x80020 ||| m = m) : Ev m s (State.clearRest t) := by
  unfold State.clearRest
  repeat' (first | with_reducible assumption | exact sub hm (by decide) | with_reducible apply ev_clearPermanent |
                    (intro u a hu) | (intro u hu) | split | dsimp only | (intro x))

theorem ev_execPermanentCopy (h : Ev m s t)  (u : State) (hu : execPermanentCopy t = .next u)
    (hm : 0x80020 ||| m = m) : Ev m s u := by
  unfold execPermanentCopy at hu; injection hu with hu; subst hu
  repeat' (first | with_reducible assumption | exact sub hm (by decide) | with_reducible apply ev_clearRest |
                    with_reducible apply ev_permanentCopy | (intro u a hu) | (intro u hu) | split | dsimp only | (intro x))

/-! ### Command.lean -/

theorem ev_executed (h : Ev m s t) (a1 : Nat) (a2 : List Nat) (a3 : State → State) (h3 : ∀ x0, Ev m s x0 → Ev m s (a3 x0))
    (hm : 0x100402 ||| m = m) : Ev m s (State.executed t a1 a2 a3) := by
  unfold State.executed
  repeat' (first | with_reducible assumption | exact sub hm (by decide) | with_reducible apply ev_reply |
                    with_reducible apply ev_count | with_reducible apply h3 | (intro u a hu) | (intro u hu) | split |
                    dsimp only | (intro x))

theorem ev_command (h : Ev m s t) (a1 : Nat) (a2 : Nat) (a3 : State → Nat) (a4 : State → State) (h4 : ∀ x0, Ev m s x0 → Ev m
    s (a4 x0))
    (hm : 0x100402 ||| m = m) : Ev m s (State.command t a1 a2 a3 a4) := by
  unfold State.command
  repeat' (first | with_reducible assumption | exact sub hm (by decide) | with_reducible apply ev_oper |
                    with_reducible apply ev_reply | with_reducible apply ev_executed | with_reducible apply h4 |
                    (intro u a hu) | (intro u hu) | split | dsimp only | (intro x))

theorem ev_signed (h : Ev m s t) (a1 : Nat) (a2 : Nat) (a3 : Bool) (a4 : State → Nat) (a5 : Nat → State → State) (h5 : ∀ x0
    x1, Ev m s x1 → Ev m s (a5 x0 x1))
    (hm : 0x100402 ||| m = m) : Ev m s (State.signed t a1 a2 a3 a4 a5) := by
  unfold State.signed
  repeat' (first | with_reducible assumption | exact sub hm (by decide) | with_reducible apply ev_oper |
                    with_reducible apply ev_updSess | with_reducible apply ev_reply | with_reducible apply ev_executed |
                    with_reducible apply ev_count | with_reducible apply h5 | (intro u a hu) | (intro u hu) | split |
                    dsimp only | (intro x))

theorem ev_getNonce (h : Ev m s t) (a1 : Nat)
    (hm : 0x100412 ||| m = m) : Ev m s (State.getNonce t a1) := by
  unfold State.getNonce
  repeat' (first | with_reducible assumption | exact sub hm (by decide) | with_reducible apply ev_oper |
                    with_reducible apply ev_free | (refine ev_free_eq ?_ _ _ (by with_reducible assumption) ?_) |
                    with_reducible apply ev_executed | with_reducible apply ev_updSess | (intro u a hu) | (intro u hu) |
                    split | dsimp only | (intro x))

theorem ev_execGetNonce (h : Ev m s t) (a0 : Nat) (u : State) (hu : execGetNonce a0 t = .next u)
    (hm : 0x100412 ||| m = m) : Ev m s u := by
  unfold execGetNonce at hu; injection hu with hu; subst hu
  repeat' (first | with_reducible assumption | exact sub hm (by decide) | with_reducible apply ev_getNonce | (intro u a hu) |
                    (intro u hu) | split | dsimp only | (intro x))

theorem ev_execNonceExpiry (h : Ev m s t) (a0 : Nat) (u : State) (hu : execNonceExpiry a0 t = .next u)
    (hm : 0x100000 ||| m = m) : Ev m s u := by
  unfold execNonceExpiry at hu; injection hu with hu; subst hu
  repeat' (first | with_reducible assumption | exact sub hm (by decide) | with_reducible apply ev_updSess | (intro u a hu) |
                    (intro u hu) | split | dsimp only | (intro x))

theorem ev_execConfirm (h : Ev m s t) (a0 : Nat) (u : State) (hu : execConfirm a0 t = .next u)
    (hm : 0x180422 ||| m = m) : Ev m s u := by
  unfold execConfirm at hu; injection hu with hu; subst hu
  repeat' (first | with_reducible assumption | exact sub hm (by decide) | with_reducible apply ev_command |
                    with_reducible apply ev_confirmSet | (intro u a hu) | (intro u hu) | split | dsimp only | (intro x))

theorem ev_execRevert (h : Ev m s t) (a0 : Nat) (a1 : Bool) (a2 : ImageMeta) (u : State) (hu : execRevert a0 a1 a2 t = .next u)
    (hm : 0x3fffff ||| m = m) : Ev m s u := by
  unfold execRevert at hu; injection hu with hu; subst hu
  repeat' (first | with_reducible assumption | exact sub hm (by decide) | with_reducible apply ev_signed |
                    with_reducible apply ev_revertSet | (intro u a hu) | (intro u hu) | split | dsimp only | (intro x))

theorem ev_execDeviceReset (h : Ev m s t) (a0 : Nat) (a1 : Bool) (u : State) (hu : execDeviceReset a0 a1 t = .next u)
    (hm : 0x3fffff ||| m = m) : Ev m s u := by
  unfold execDeviceReset at hu; injection hu with hu; subst hu
  repeat' (first | with_reducible assumption | exact sub hm (by decide) | with_reducible apply ev_signed |
                    with_reducible apply ev_deviceReset | (intro u a hu) | (intro u hu) | split | dsimp only | (intro x))

theorem ev_execEventClear (h : Ev m s t) (a0 : Nat) (a1 : Bool) (a2 : Nat) (u : State) (hu : execEventClear a0 a1 a2 t =
    .next u)
    (hm : 0x184422 ||| m = m) : Ev m s u := by
  unfold execEventClear at hu; injection hu with hu; subst hu
  repeat' (first | with_reducible assumption | exact sub hm (by decide) | with_reducible apply ev_signed |
                    with_reducible apply ev_clearRest | with_reducible apply ev_clearRing | (intro u a hu) | (intro u hu) |
                    split | dsimp only | (intro x))

theorem ev_unlock (h : Ev m s t) (a1 : Nat) (a2 : Nat)
    (hm : 0x100022 ||| m = m) : Ev m s (State.unlock t a1 a2) := by
  unfold State.unlock
  repeat' (first | with_reducible assumption | exact sub hm (by decide) | with_reducible apply ev_hev |
                    with_reducible apply ev_updSv | with_reducible apply ev_wr | (intro u a hu) | (intro u hu) | split |
                    dsimp only | (intro x))

theorem ev_execConsoleUnlock (h : Ev m s t) (a0 : Nat) (a1 : Bool) (a2 : Nat) (a3 : Nat) (u : State) (hu : execConsoleUnlock
    a0 a1 a2 a3 t = .next u)
    (hm : 0x100422 ||| m = m) : Ev m s u := by
  unfold execConsoleUnlock at hu; injection hu with hu; subst hu
  repeat' (first | with_reducible assumption | exact sub hm (by decide) | with_reducible apply ev_signed |
                    with_reducible apply ev_unlock | (intro u a hu) | (intro u hu) | split | dsimp only | (intro x))

theorem ev_execConsoleLock (h : Ev m s t) (a0 : Nat) (u : State) (hu : execConsoleLock a0 t = .next u)
    (hm : 0x100422 ||| m = m) : Ev m s u := by
  unfold execConsoleLock at hu; injection hu with hu; subst hu
  repeat' (first | with_reducible assumption | exact sub hm (by decide) | with_reducible apply ev_command |
                    with_reducible apply ev_lockConsole | (intro u a hu) | (intro u hu) | split | dsimp only | (intro x))

theorem ev_execConsoleExpiry (h : Ev m s t)  (u : State) (hu : execConsoleExpiry t = .next u)
    (hm : 0x22 ||| m = m) : Ev m s u := by
  unfold execConsoleExpiry at hu; injection hu with hu; subst hu
  repeat' (first | with_reducible assumption | exact sub hm (by decide) | with_reducible apply ev_lockConsole |
                    (intro u a hu) | (intro u hu) | split | dsimp only | (intro x))

theorem ev_execConsoleEventRead (h : Ev m s t) (a0 : Nat) (u : State) (hu : execConsoleEventRead a0 t = .next u)
    (hm : 0x400 ||| m = m) : Ev m s u := by
  unfold execConsoleEventRead at hu; injection hu with hu; subst hu
  repeat' (first | with_reducible assumption | exact sub hm (by decide) | with_reducible apply ev_emit | (intro u a hu) |
                    (intro u hu) | split | dsimp only | (intro x))

/-! ### Test.lean -/

theorem ev_clearRun (h : Ev m s t)
    (hm : 0x2 ||| m = m) : Ev m s (State.clearRun t) := by
  unfold State.clearRun
  repeat' (first | with_reducible assumption | exact sub hm (by decide) | with_reducible apply ev_wr | (intro u a hu) |
                    (intro u hu) | split | dsimp only | (intro x))

theorem ev_takeMode (h : Ev m s t) (a1 : Nat)
    (hm : 0x2 ||| m = m) : Ev m s (State.takeMode t a1) := by
  unfold State.takeMode
  repeat' (first | with_reducible assumption | exact sub hm (by decide) | with_reducible apply ev_setReg | (intro u a hu) |
                    (intro u hu) | split | dsimp only | (intro x))

theorem ev_enterTest (h : Ev m s t) (a1 : Mode) (a2 : Nat)
    (hm : 0x347922 ||| m = m) : Ev m s (State.enterTest t a1 a2) := by
  unfold State.enterTest
  repeat' (first | with_reducible assumption | exact sub hm (by decide) | with_reducible exact fun hw => hw |
                    with_reducible apply ev_beginLoss | with_reducible apply ev_linkDown | with_reducible apply ev_hev |
                    (intro u a hu) | (intro u hu) | split | dsimp only | (intro x) | with_reducible apply ev_mk_ts)

theorem ev_testGo (h : Ev m s t) (a1 : Nat) (a2 : Nat)
    (hm : 0x347922 ||| m = m) : Ev m s (State.testGo t a1 a2) := by
  unfold State.testGo
  repeat' (first | with_reducible assumption | exact sub hm (by decide) | with_reducible apply ev_enterTest |
                    with_reducible apply ev_takeMode | with_reducible apply ev_clearRun | with_reducible apply ev_wr |
                    (intro u a hu) | (intro u hu) | split | dsimp only | (intro x))

theorem ev_testStop (h : Ev m s t) (a1 : Nat)
    (hm : 0x22 ||| m = m) : Ev m s (State.testStop t a1) := by
  unfold State.testStop
  repeat' (first | with_reducible assumption | exact sub hm (by decide) | with_reducible apply ev_wr |
                    with_reducible apply ev_discarded | (intro u a hu) | (intro u hu) | split | dsimp only | (intro x))

theorem ev_testWrite (h : Ev m s t) (a1 : Nat) (a2 : Nat)
    (hm : 0x347922 ||| m = m) : Ev m s (State.testWrite t a1 a2) := by
  unfold State.testWrite
  repeat' (first | with_reducible assumption | exact sub hm (by decide) | with_reducible apply ev_testGo |
                    with_reducible apply ev_discarded | with_reducible apply ev_testStop | with_reducible apply ev_takeMode |
                    (intro u a hu) | (intro u hu) | split | dsimp only | (intro x))

theorem ev_execTestGo (h : Ev m s t) (a0 : Nat) (a1 : Nat) (u : State) (hu : execTestGo a0 a1 t = .next u)
    (hm : 0x347922 ||| m = m) : Ev m s u := by
  unfold execTestGo at hu; injection hu with hu; subst hu
  repeat' (first | with_reducible assumption | exact sub hm (by decide) | with_reducible apply ev_testGo | (intro u a hu) |
                    (intro u hu) | split | dsimp only | (intro x))

theorem ev_execTestStop (h : Ev m s t) (a0 : Nat) (u : State) (hu : execTestStop a0 t = .next u)
    (hm : 0x22 ||| m = m) : Ev m s u := by
  unfold execTestStop at hu; injection hu with hu; subst hu
  repeat' (first | with_reducible assumption | exact sub hm (by decide) | with_reducible apply ev_testStop | (intro u a hu) |
                    (intro u hu) | split | dsimp only | (intro x))

theorem ev_noteLock (h : Ev m s t)
    (hm : 0x2 ||| m = m) : Ev m s (State.noteLock t) := by
  unfold State.noteLock
  repeat' (first | with_reducible assumption | exact sub hm (by decide) | with_reducible apply ev_wr | (intro u a hu) |
                    (intro u hu) | split | dsimp only | (intro x))

theorem ev_execTestRunStart (h : Ev m s t)  (u : State) (hu : execTestRunStart t = .next u)
    (hm : 0x200c02 ||| m = m) : Ev m s u := by
  unfold execTestRunStart at hu; injection hu with hu; subst hu
  repeat' (first | with_reducible assumption | exact sub hm (by decide) | with_reducible apply ev_pump |
                    with_reducible apply ev_noteLock | with_reducible apply ev_wr | with_reducible apply ev_updTs |
                    (intro u a hu) | (intro u hu) | split | dsimp only | (intro x))

theorem ev_execCheckerLock (h : Ev m s t) (a0 : Nat) (u : State) (hu : execCheckerLock a0 t = .next u)
    (hm : 0x200002 ||| m = m) : Ev m s u := by
  unfold execCheckerLock at hu; injection hu with hu; subst hu
  repeat' (first | with_reducible assumption | exact sub hm (by decide) | with_reducible apply ev_noteLock |
                    with_reducible apply ev_updTs | (intro u a hu) | (intro u hu) | split | dsimp only | (intro x))

theorem ev_execCheckerLockLoss (h : Ev m s t) (a0 : Nat) (u : State) (hu : execCheckerLockLoss a0 t = .next u)
    (hm : 0x200002 ||| m = m) : Ev m s u := by
  unfold execCheckerLockLoss at hu; injection hu with hu; subst hu
  repeat' (first | with_reducible assumption | exact sub hm (by decide) | with_reducible exact fun hw => wf_filter _ hw |
                    with_reducible apply ev_noteLock | with_reducible apply ev_count | with_reducible apply ev_updTs |
                    (intro u a hu) | (intro u hu) | split | dsimp only | (intro x))

theorem ev_noteRun (h : Ev m s t) (a1 : Nat) (a2 : Nat) (a3 : Nat) (a4 : Nat) (a5 : Nat) (a6 : Nat) (a7 : Nat)
    (hm : 0x2 ||| m = m) : Ev m s (State.noteRun t a1 a2 a3 a4 a5 a6 a7) := by
  unfold State.noteRun
  repeat' (first | with_reducible assumption | exact sub hm (by decide) | with_reducible apply ev_wr | (intro u a hu) |
                    (intro u hu) | split | dsimp only | (intro x))

theorem ev_runCounts (h : Ev m s t) (a1 : TestRun) (a2 : Nat) (a3 : Nat) (a4 : Nat) (a5 : Nat) (a6 : Nat) (a7 : Nat) (a8 : Nat)
    (hm : 0x2 ||| m = m) : Ev m s (State.runCounts t a1 a2 a3 a4 a5 a6 a7 a8) := by
  unfold State.runCounts
  repeat' (first | with_reducible assumption | exact sub hm (by decide) | with_reducible apply ev_noteRun | (intro u a hu) |
                    (intro u hu) | split | dsimp only | (intro x))

theorem ev_execTestRunEnd (h : Ev m s t) (a0 : Nat) (a1 : Nat) (a2 : Nat) (a3 : Nat) (a4 : Nat) (a5 : Nat) (a6 : Nat) (a7 :
    Nat) (u : State) (hu : execTestRunEnd a0 a1 a2 a3 a4 a5 a6 a7 t = .next u)
    (hm : 0x200422 ||| m = m) : Ev m s u := by
  unfold execTestRunEnd at hu; injection hu with hu; subst hu
  repeat' (first | with_reducible assumption | exact sub hm (by decide) | with_reducible exact fun hw => hw |
                    with_reducible apply ev_runCounts | with_reducible apply ev_wr | with_reducible apply ev_raiseIbi |
                    with_reducible apply ev_hev | with_reducible apply ev_when | (intro u a hu) | (intro u hu) | split |
                    dsimp only | (intro x) | with_reducible apply ev_mk_ts)

/-! ### Power.lean -/

theorem ev_supplyOut (h : Ev m s t) (a1 : Nat)
    (hm : 0x2 ||| m = m) : Ev m s (State.supplyOut t a1) := by
  unfold State.supplyOut
  repeat' (first | with_reducible assumption | exact sub hm (by decide) | with_reducible apply ev_wr | (intro u a hu) |
                    (intro u hu) | split | dsimp only | (intro x))

theorem ev_halfTrip (h : Ev m s t) (a1 : Half) (a2 : Nat) (a3 : Nat)
    (hm : 0x220d32 ||| m = m) : Ev m s (State.halfTrip t a1 a2 a3) := by
  unfold State.halfTrip
  repeat' (first | with_reducible assumption | exact sub hm (by decide) | with_reducible apply ev_free |
                    (refine ev_free_eq ?_ _ _ (by with_reducible assumption) ?_) | with_reducible apply ev_hev |
                    with_reducible apply ev_controlFault | (intro u a hu) | (intro u hu) | split | dsimp only | (intro x))

theorem ev_execSupplyTrip (h : Ev m s t) (a0 : Nat) (a1 : Nat) (u : State) (hu : execSupplyTrip a0 a1 t = .next u)
    (hm : 0x3fffff ||| m = m) : Ev m s u := by
  unfold execSupplyTrip at hu; injection hu with hu; subst hu
  repeat' (first | with_reducible assumption | exact sub hm (by decide) | with_reducible exact fun hw => hw |
                    with_reducible apply ev_supplyOut | with_reducible apply ev_count | with_reducible apply ev_halfTrip |
                    with_reducible apply ev_updLg | with_reducible apply ev_powerOn | with_reducible apply ev_updBt |
                    (intro u a hu) | (intro u hu) | split | dsimp only | (intro x))

theorem ev_execSysclkFault (h : Ev m s t)  (u : State) (hu : execSysclkFault t = .next u)
    (hm : 0x3fffff ||| m = m) : Ev m s u := by
  unfold execSysclkFault at hu; injection hu with hu; subst hu
  repeat' (first | with_reducible assumption | exact sub hm (by decide) | with_reducible apply ev_powerOn | (intro u a hu) |
                    (intro u hu) | split | dsimp only | (intro x))

theorem ev_domWrite (h : Ev m s t) (a1 : Nat) (a2 : Half) (a3 : Nat) (a4 : Nat)
    (hm : 0x122 ||| m = m) : Ev m s (State.domWrite t a1 a2 a3 a4) := by
  unfold State.domWrite
  repeat' (first | with_reducible assumption | exact sub hm (by decide) | with_reducible apply ev_discarded |
                    with_reducible apply ev_wr | with_reducible apply ev_hev | with_reducible apply ev_updHub |
                    (intro u a hu) | (intro u hu) | split | dsimp only | (intro x))

theorem ev_execDomainRequest (h : Ev m s t) (a0 : Nat) (a1 : Half) (a2 : Nat) (a3 : Nat) (u : State) (hu : execDomainRequest
    a0 a1 a2 a3 t = .next u)
    (hm : 0x122 ||| m = m) : Ev m s u := by
  unfold execDomainRequest at hu; injection hu with hu; subst hu
  repeat' (first | with_reducible assumption | exact sub hm (by decide) | with_reducible apply ev_domWrite | (intro u a hu) |
                    (intro u hu) | split | dsimp only | (intro x))

theorem ev_applyDoms (h : Ev m s t)
    (hm : 0x102 ||| m = m) : Ev m s (State.applyDoms t) := by
  unfold State.applyDoms
  repeat' (first | with_reducible assumption | exact sub hm (by decide) | with_reducible exact fun _ => wf_nil _ |
                    with_reducible apply ev_updHub | with_reducible apply ev_setDom | with_reducible apply ev_each |
                    (intro u a hu) | (intro u hu) | split | dsimp only | (intro x))

/-! ### Access.lean -/

theorem ev_clearRc (h : Ev m s t) (a1 : Half) (a2 : Nat) (a3 : Nat) (a4 : RegRow) (a5 : Nat) (a6 : Nat) (a7 : Nat)
    (hm : 0x8002 ||| m = m) : Ev m s (State.clearRc t a1 a2 a3 a4 a5 a6 a7) := by
  unfold State.clearRc
  repeat' (first | with_reducible assumption | exact sub hm (by decide) | with_reducible exact fun hw => wf_filter _ hw |
                    with_reducible apply ev_setReg | with_reducible apply ev_updSlot | with_reducible apply ev_foldl |
                    with_reducible apply ev_foldl_snd | with_reducible apply ev_foldl_fst | (intro u a hu) | (intro u hu) |
                    split | dsimp only | (intro x))

theorem ev_readPlain (h : Ev m s t) (a1 : Half) (a2 : Nat) (a3 : Nat) (a4 : Nat) (a5 : RegRow) (a6 : Nat) (a7 : Nat) (a8 : Nat)
    (hm : 0x8006 ||| m = m) : Ev m s (State.readPlain t a1 a2 a3 a4 a5 a6 a7 a8).2 := by
  unfold State.readPlain
  repeat' (first | with_reducible assumption | exact sub hm (by decide) | with_reducible exact fun hw => hw |
                    with_reducible exact fun hw => wf_spSet _ _ hw | with_reducible exact fun hw => wf_spSetRun _ _ hw |
                    with_reducible apply ev_clearRc | (intro u a hu) | (intro u hu) | split | dsimp only | (intro x) |
                    with_reducible apply ev_mk_hi)

theorem ev_readPlain_eq  (h : Ev m s t) (a1 : Half) (a2 : Nat) (a3 : Nat) (a4 : Nat) (a5 : RegRow) (a6 : Nat) (a7 : Nat) (a8
    : Nat)  (v : Nat) (u : State)
    (e : State.readPlain t a1 a2 a3 a4 a5 a6 a7 a8 = (v, u))
    (hm : 0x8006 ||| m = m) : Ev m s u := by
  have k := ev_readPlain h a1 a2 a3 a4 a5 a6 a7 a8  hm; rw [e] at k; exact k

theorem ev_readReg (h : Ev m s t) (a1 : Half) (a2 : Nat) (a3 : Nat) (a4 : Nat) (a5 : Nat) (a6 : Nat)
    (hm : 0x80ae ||| m = m) : Ev m s (State.readReg t a1 a2 a3 a4 a5 a6).2 := by
  unfold State.readReg
  repeat' (first | with_reducible assumption | exact sub hm (by decide) | with_reducible apply ev_readLock |
                    with_reducible apply ev_refuseChime | with_reducible apply ev_readPlain |
                    (refine ev_readPlain_eq ?_ _ _ _ _ _ _ _ _ _ _ (by with_reducible assumption) ?_) | (intro u a hu) |
                    (intro u hu) | split | dsimp only | (intro x))

theorem ev_readReg_eq  (h : Ev m s t) (a1 : Half) (a2 : Nat) (a3 : Nat) (a4 : Nat) (a5 : Nat) (a6 : Nat)  (v : Nat) (u : State)
    (e : State.readReg t a1 a2 a3 a4 a5 a6 = (v, u))
    (hm : 0x80ae ||| m = m) : Ev m s u := by
  have k := ev_readReg h a1 a2 a3 a4 a5 a6  hm; rw [e] at k; exact k

theorem ev_readWord (t : Nat × State) (h : Ev m s t.2) (a0 : Half) (a1 : Nat) (a2 : Nat) (a3 : Nat) (a4 : Nat) (a6 : Nat)
    (hm : 0x80ae ||| m = m) : Ev m s (State.readWord a0 a1 a2 a3 a4 t a6).2 := by
  unfold State.readWord
  repeat' (first | with_reducible assumption | exact sub hm (by decide) | with_reducible apply ev_readReg |
                    (refine ev_readReg_eq ?_ _ _ _ _ _ _ _ _ (by with_reducible assumption) ?_) | (intro u a hu) |
                    (intro u hu) | split | dsimp only | (intro x))

theorem ev_readAt (h : Ev m s t) (a1 : Half) (a2 : Nat) (a3 : Nat) (a4 : Nat) (a5 : Nat)
    (hm : 0x80ae ||| m = m) : Ev m s (State.readAt t a1 a2 a3 a4 a5) := by
  unfold State.readAt
  split
  · exact ev_mk_readData h _ (sub hm (by decide))
  · refine ev_mk_readData (ev_foldl_snd _ _ (fun p a hp => ?_) (0, t) h) _ (sub hm (by decide))
    exact ev_readReg hp _ _ _ _ _ _ (sub hm (by decide))

theorem ev_writeFields (h : Ev m s t) (a1 : Half) (a2 : Nat) (a3 : Nat) (a4 : RegRow) (a5 : Nat)
    (hm : 0x2 ||| m = m) : Ev m s (State.writeFields t a1 a2 a3 a4 a5) := by
  unfold State.writeFields
  repeat' (first | with_reducible assumption | exact sub hm (by decide) | with_reducible apply ev_setReg |
                    with_reducible apply ev_foldl | with_reducible apply ev_foldl_snd | with_reducible apply ev_foldl_fst |
                    (intro u a hu) | (intro u hu) | split | dsimp only | (intro x))

theorem ev_bufWrite (h : Ev m s t) (a1 : Half) (a2 : Nat) (a3 : Nat)
    (hm : 0x40022 ||| m = m) : Ev m s (State.bufWrite t a1 a2 a3) := by
  unfold State.bufWrite
  repeat' (first | with_reducible assumption | exact sub hm (by decide) | with_reducible apply ev_bufOp |
                    with_reducible apply ev_bufAlloc | with_reducible apply ev_bufShare | with_reducible apply ev_bufFree |
                    with_reducible apply ev_bufQuery | with_reducible apply ev_bufRes | (intro u a hu) | (intro u hu) |
                    split | dsimp only | (intro x))

theorem ev_slotWrite (h : Ev m s t) (a1 : Nat) (a2 : Nat)
    (hm : 0x8022 ||| m = m) : Ev m s (State.slotWrite t a1 a2) := by
  unfold State.slotWrite
  repeat' (first | with_reducible assumption | exact sub hm (by decide) | with_reducible apply ev_wr |
                    with_reducible apply ev_reqOn | with_reducible apply ev_reqOff | with_reducible apply ev_cancelRemoval |
                    with_reducible apply ev_when | (intro u a hu) | (intro u hu) | split | dsimp only | (intro x))

theorem ev_loopWrite (h : Ev m s t) (a1 : Nat) (a2 : Nat)
    (hm : 0x10022 ||| m = m) : Ev m s (State.loopWrite t a1 a2) := by
  unfold State.loopWrite
  repeat' (first | with_reducible assumption | exact sub hm (by decide) | with_reducible apply ev_wr |
                    with_reducible apply ev_loopCommand | with_reducible apply ev_when | (intro u a hu) | (intro u hu) |
                    split | dsimp only | (intro x))

theorem ev_mrCmd (h : Ev m s t) (a1 : Nat) (a2 : Nat)
    (hm : 0x20032 ||| m = m) : Ev m s (State.mrCmd t a1 a2) := by
  unfold State.mrCmd
  repeat' (first | with_reducible assumption | exact sub hm (by decide) | with_reducible apply ev_mrWrite |
                    with_reducible apply ev_mrRead | with_reducible apply ev_mrFields | with_reducible apply ev_discarded |
                    (intro u a hu) | (intro u hu) | split | dsimp only | (intro x))

theorem ev_phyWrite (h : Ev m s t) (a1 : Nat)
    (hm : 0x20000 ||| m = m) : Ev m s (State.phyWrite t a1) := by
  unfold State.phyWrite
  repeat' (first | with_reducible assumption | exact sub hm (by decide) | with_reducible exact fun hw => hw |
                    with_reducible exact fun hw => wf_spSet _ _ hw | with_reducible exact fun hw => wf_spSetRun _ _ hw |
                    with_reducible apply ev_updDr | (intro u a hu) | (intro u hu) | split | dsimp only | (intro x))

theorem ev_issueHalf (h : Ev m s t) (a1 : Half) (a2 : Nat) (a3 : Nat) (a4 : Reg) (a5 : Nat) (a6 : Nat) (u : State) (hu :
    State.issueHalf t a1 a2 a3 a4 a5 a6 = some u)
    (hm : 0x240df2 ||| m = m) : Ev m s u := by
  unfold State.issueHalf at hu
  repeat' (first | with_reducible assumption | exact sub hm (by decide) | with_reducible apply ev_doneWrite |
                    with_reducible apply ev_enrollWrite | with_reducible apply ev_planWrite |
                    with_reducible apply ev_discarded | with_reducible apply ev_splitWrite |
                    with_reducible apply ev_tagbudWrite | with_reducible apply ev_winWrite |
                    with_reducible apply ev_ctxBudgetWrite | with_reducible apply ev_bufWrite |
                    with_reducible apply ev_refuseChime | with_reducible apply ev_chimeTx | with_reducible apply ev_chimeRx |
                    with_reducible apply ev_releaseLock | with_reducible apply ev_forceLock | split at hu |
                    (simp only [Option.some.injEq, Prod.mk.injEq] at hu; obtain ⟨-, -, rfl⟩ := hu) |
                    (simp only [Option.some.injEq, Prod.mk.injEq] at hu; obtain ⟨-, rfl⟩ := hu) |
                    (simp only [Option.some.injEq] at hu; subst hu) | contradiction | dsimp only at hu | (intro u a hu) |
                    (intro u hu) | split | dsimp only | (intro x))

theorem ev_issueRest (h : Ev m s t) (a1 : Half) (a2 : Nat) (a3 : Nat) (a4 : Reg) (a5 : Nat) (a6 : Nat) (u : State) (hu :
    State.issueRest t a1 a2 a3 a4 a5 a6 = some u)
    (hm : 0x3ff9f2 ||| m = m) : Ev m s u := by
  have ite : ∀ (c : Prop) [Decidable c] (o p : Option State), (∀ u, o = some u → Ev m s u) →
      (∀ u, p = some u → Ev m s u) → ∀ u, (if c then o else p) = some u → Ev m s u := by
    intro c _ o p ho hp u hu
    split at hu
    · exact ho u hu
    · exact hp u hu
  have sm : ∀ x, Ev m s x → ∀ u, some x = some u → Ev m s u := by
    intro x hx u hu
    cases hu
    exact hx
  have nn : ∀ u, (none : Option State) = some u → Ev m s u := by
    intro u hu
    contradiction
  unfold State.issueRest at hu
  revert u
  repeat' (first | with_reducible exact nn | with_reducible refine sm _ ?_ | with_reducible apply ite)
  all_goals repeat' (first | with_reducible assumption | exact sub hm (by decide) |
                    with_reducible exact fun hw => ⟨hw.1, hw.2, hw.3⟩ | with_reducible apply ev_slotWrite |
                    with_reducible apply ev_when | with_reducible apply ev_scrubGo | with_reducible apply ev_scrubCancel |
                    with_reducible apply ev_loopWrite | with_reducible apply ev_dscrubGo |
                    with_reducible apply ev_dscrubCancel | with_reducible apply ev_helperWrite |
                    with_reducible apply ev_mrCmd | with_reducible apply ev_phyWrite | with_reducible apply ev_flipWrite |
                    with_reducible apply ev_restoreWrite | with_reducible apply ev_drillNow |
                    with_reducible apply ev_opctrlWrite | with_reducible apply ev_submitByMaster |
                    with_reducible apply ev_snapWrite | with_reducible apply ev_testWrite | with_reducible apply ev_domWrite |
                    (intro u hu) | split | dsimp only)

theorem ev_afterWrite (h : Ev m s t) (a1 : Nat) (a2 : Reg) (a3 : Nat) (a4 : Nat) (a5 : Nat)
    (hm : 0x8d000 ||| m = m) : Ev m s (State.afterWrite t a1 a2 a3 a4 a5) := by
  unfold State.afterWrite
  repeat' (first | with_reducible assumption | exact sub hm (by decide) | with_reducible exact fun hw => hw |
                    with_reducible apply ev_updSlot | with_reducible apply ev_grantParts | with_reducible apply ev_updBt |
                    with_reducible apply ev_when | (intro u a hu) | (intro u hu) | split | dsimp only | (intro x))

theorem ev_writeReg (h : Ev m s t) (a1 : Half) (a2 : Nat) (a3 : Nat) (a4 : Nat) (a5 : Nat)
    (hm : 0x3ffdf2 ||| m = m) : Ev m s (State.writeReg t a1 a2 a3 a4 a5) := by
  have ho : ∀ (r : Reg) (i v : Nat) (u : State), (t.issueHalf a1 a2 a3 r i v).or (t.issueRest a1 a2 a3 r i v) = some u → Ev
      m s u := by
    intro r i v u hu
    rcases Option.or_eq_some_iff.1 hu with hu | ⟨-, hu⟩
    · exact ev_issueHalf h _ _ _ _ _ _ _ hu (sub hm (by decide))
    · exact ev_issueRest h _ _ _ _ _ _ _ hu (sub hm (by decide))
  unfold State.writeReg
  repeat' (first | with_reducible assumption | exact sub hm (by decide) | with_reducible exact fun hw => hw |
                    with_reducible exact fun hw => ⟨hw.1, hw.2, hw.3⟩ | with_reducible apply ev_discarded |
                    with_reducible apply ev_afterWrite | with_reducible apply ev_writeFields |
                    exact ho _ _ _ _ (by with_reducible assumption) | split | dsimp only)

theorem ev_writeAt (h : Ev m s t) (a1 : Half) (a2 : Nat) (a3 : Nat) (a4 : Nat) (a5 : Nat) (a6 : Nat)
    (hm : 0x3ffdf2 ||| m = m) : Ev m s (State.writeAt t a1 a2 a3 a4 a5 a6) := by
  unfold State.writeAt
  repeat' (first | with_reducible assumption | exact sub hm (by decide) | with_reducible apply ev_writeReg |
                    with_reducible apply ev_discarded | (intro u a hu) | (intro u hu) | split | dsimp only | (intro x))

theorem ev_svcRead (h : Ev m s t) (a1 : Nat) (a2 : Half) (a3 : Nat) (a4 : Nat)
    (hm : 0x1084ae ||| m = m) : Ev m s (State.svcRead t a1 a2 a3 a4) := by
  unfold State.svcRead
  repeat' (first | with_reducible assumption | exact sub hm (by decide) | with_reducible apply ev_oper |
                    with_reducible apply ev_reply | with_reducible apply ev_readReg |
                    (refine ev_readReg_eq ?_ _ _ _ _ _ _ _ _ (by with_reducible assumption) ?_) |
                    with_reducible apply ev_executed | (intro u a hu) | (intro u hu) | split | dsimp only | (intro x))

theorem ev_latchSnap (h : Ev m s t)
    (hm : 0x2 ||| m = m) : Ev m s (State.latchSnap t) := by
  unfold State.latchSnap
  repeat' (first | with_reducible assumption | exact sub hm (by decide) | with_reducible apply ev_wr |
                    with_reducible apply ev_each | (intro u a hu) | (intro u hu) | split | dsimp only | (intro x))

theorem ev_execRegisterWrite (h : Ev m s t) (a0 : Nat) (a1 : Half) (a2 : Nat) (a3 : Nat) (a4 : Nat) (a5 : Nat) (u : State)
    (hu : execRegisterWrite a0 a1 a2 a3 a4 a5 t = .next u)
    (hm : 0x3ffdf2 ||| m = m) : Ev m s u := by
  unfold execRegisterWrite at hu; injection hu with hu; subst hu
  repeat' (first | with_reducible assumption | exact sub hm (by decide) | with_reducible apply ev_writeAt | (intro u a hu) |
                    (intro u hu) | split | dsimp only | (intro x))

theorem ev_execLowWordRead (h : Ev m s t) (a0 : Nat) (a1 : Half) (a2 : Nat) (a3 : Nat) (a4 : Nat) (u : State) (hu :
    execLowWordRead a0 a1 a2 a3 a4 t = .next u)
    (hm : 0x80ae ||| m = m) : Ev m s u := by
  unfold execLowWordRead at hu; injection hu with hu; subst hu
  repeat' (first | with_reducible assumption | exact sub hm (by decide) | with_reducible apply ev_readAt | (intro u a hu) |
                    (intro u hu) | split | dsimp only | (intro x))

theorem ev_execSchSlackRead (h : Ev m s t) (a0 : Half) (a1 : Nat) (a2 : Nat) (u : State) (hu : execSchSlackRead a0 a1 a2 t =
    .next u)
    (hm : 0x80ae ||| m = m) : Ev m s u := by
  unfold execSchSlackRead at hu; injection hu with hu; subst hu
  repeat' (first | with_reducible assumption | exact sub hm (by decide) | with_reducible apply ev_readAt | (intro u a hu) |
                    (intro u hu) | split | dsimp only | (intro x))

theorem ev_execTenMissRead (h : Ev m s t) (a0 : Nat) (a1 : Nat) (a2 : Nat) (u : State) (hu : execTenMissRead a0 a1 a2 t =
    .next u)
    (hm : 0x80ae ||| m = m) : Ev m s u := by
  unfold execTenMissRead at hu; injection hu with hu; subst hu
  repeat' (first | with_reducible assumption | exact sub hm (by decide) | with_reducible apply ev_readAt | (intro u a hu) |
                    (intro u hu) | split | dsimp only | (intro x))

theorem ev_execMedRfsstatRead (h : Ev m s t) (a0 : Nat) (a1 : Nat) (u : State) (hu : execMedRfsstatRead a0 a1 t = .next u)
    (hm : 0x80ae ||| m = m) : Ev m s u := by
  unfold execMedRfsstatRead at hu; injection hu with hu; subst hu
  repeat' (first | with_reducible assumption | exact sub hm (by decide) | with_reducible apply ev_readAt | (intro u a hu) |
                    (intro u hu) | split | dsimp only | (intro x))

theorem ev_execEccCbmaxRead (h : Ev m s t) (a0 : Nat) (a1 : Nat) (u : State) (hu : execEccCbmaxRead a0 a1 t = .next u)
    (hm : 0x80ae ||| m = m) : Ev m s u := by
  unfold execEccCbmaxRead at hu; injection hu with hu; subst hu
  repeat' (first | with_reducible assumption | exact sub hm (by decide) | with_reducible apply ev_readAt | (intro u a hu) |
                    (intro u hu) | split | dsimp only | (intro x))

theorem ev_execCtgSlotstatRead (h : Ev m s t) (a0 : Nat) (a1 : Nat) (a2 : Nat) (u : State) (hu : execCtgSlotstatRead a0 a1
    a2 t = .next u)
    (hm : 0x80ae ||| m = m) : Ev m s u := by
  unfold execCtgSlotstatRead at hu; injection hu with hu; subst hu
  repeat' (first | with_reducible assumption | exact sub hm (by decide) | with_reducible apply ev_readAt | (intro u a hu) |
                    (intro u hu) | split | dsimp only | (intro x))

theorem ev_execPwrPkgRead (h : Ev m s t) (a0 : Nat) (a1 : Nat) (u : State) (hu : execPwrPkgRead a0 a1 t = .next u)
    (hm : 0x80ae ||| m = m) : Ev m s u := by
  unfold execPwrPkgRead at hu; injection hu with hu; subst hu
  repeat' (first | with_reducible assumption | exact sub hm (by decide) | with_reducible apply ev_readAt | (intro u a hu) |
                    (intro u hu) | split | dsimp only | (intro x))

theorem ev_execRegRead (h : Ev m s t) (a0 : Nat) (a1 : Half) (a2 : Nat) (a3 : Nat) (u : State) (hu : execRegRead a0 a1 a2 a3
    t = .next u)
    (hm : 0x1084ae ||| m = m) : Ev m s u := by
  unfold execRegRead at hu; injection hu with hu; subst hu
  repeat' (first | with_reducible assumption | exact sub hm (by decide) | with_reducible apply ev_svcRead | (intro u a hu) |
                    (intro u hu) | split | dsimp only | (intro x))

theorem ev_execRegWrite (h : Ev m s t) (a0 : Nat) (a1 : Half) (a2 : Nat) (a3 : Nat) (a4 : Nat) (u : State) (hu :
    execRegWrite a0 a1 a2 a3 a4 t = .next u)
    (hm : 0x3ffdf2 ||| m = m) : Ev m s u := by
  unfold execRegWrite at hu; injection hu with hu; subst hu
  repeat' (first | with_reducible assumption | exact sub hm (by decide) | with_reducible apply ev_command |
                    with_reducible apply ev_writeReg | (intro u a hu) | (intro u hu) | split | dsimp only | (intro x))

theorem ev_execConsoleRegisterRead (h : Ev m s t) (a0 : Half) (a1 : Nat) (a2 : Nat) (u : State) (hu :
    execConsoleRegisterRead a0 a1 a2 t = .next u)
    (hm : 0x84ae ||| m = m) : Ev m s u := by
  unfold execConsoleRegisterRead at hu; injection hu with hu; subst hu
  repeat' (first | with_reducible assumption | exact sub hm (by decide) | with_reducible apply ev_readReg |
                    (refine ev_readReg_eq ?_ _ _ _ _ _ _ _ _ (by with_reducible assumption) ?_) |
                    with_reducible apply ev_emit | (intro u a hu) | (intro u hu) | split | dsimp only | (intro x))

theorem ev_execConsoleRegisterWrite (h : Ev m s t) (a0 : Half) (a1 : Nat) (a2 : Nat) (a3 : Nat) (u : State) (hu :
    execConsoleRegisterWrite a0 a1 a2 a3 t = .next u)
    (hm : 0x3ffdf2 ||| m = m) : Ev m s u := by
  unfold execConsoleRegisterWrite at hu; injection hu with hu; subst hu
  repeat' (first | with_reducible assumption | exact sub hm (by decide) | with_reducible apply ev_writeReg | (intro u a hu) |
                    (intro u hu) | split | dsimp only | (intro x))

theorem ev_execSnapshotLatch (h : Ev m s t)  (u : State) (hu : execSnapshotLatch t = .next u)
    (hm : 0x2 ||| m = m) : Ev m s u := by
  unfold execSnapshotLatch at hu; injection hu with hu; subst hu
  repeat' (first | with_reducible assumption | exact sub hm (by decide) | with_reducible apply ev_latchSnap | (intro u a hu) |
                    (intro u hu) | split | dsimp only | (intro x))

/-! ### Boundary.lean -/

theorem ev_openBeat (h : Ev m s t)
    (hm : 0x12123 ||| m = m) : Ev m s (State.openBeat t) := by
  unfold State.openBeat
  repeat' (first | with_reducible assumption | exact sub hm (by decide) | with_reducible exact fun hw => hw |
                    with_reducible exact fun hw => ⟨hw.1, hw.2, hw.3⟩ | with_reducible exact fun _ => wf_nil _ |
                    with_reducible apply ev_updRg | with_reducible apply ev_updHalf | with_reducible apply ev_quitHalf |
                    with_reducible apply ev_unchoose | with_reducible apply ev_each | (intro u a hu) | (intro u hu) | split |
                    dsimp only | (intro x) | with_reducible apply ev_mk_time)

theorem ev_strobe (h : Ev m s t) (a1 : Nat) (a2 : Nat)
    (hm : 0x220d22 ||| m = m) : Ev m s (State.strobe t a1 a2) := by
  unfold State.strobe
  repeat' (first | with_reducible assumption | exact sub hm (by decide) | with_reducible apply ev_uev |
                    with_reducible apply ev_hubFault | with_reducible apply ev_controlFault | with_reducible apply ev_when |
                    (intro u a hu) | (intro u hu) | split | dsimp only | (intro x))

theorem ev_strayWords (h : Ev m s t) (a1 : List RenewalWord)
    (hm : 0x220d22 ||| m = m) : Ev m s (State.strayWords t a1) := by
  unfold State.strayWords
  repeat' (first | with_reducible assumption | exact sub hm (by decide) | with_reducible exact fun hw => wf_filter _ hw |
                    with_reducible apply ev_controlFault | with_reducible apply ev_count | with_reducible apply ev_each |
                    (intro u a hu) | (intro u hu) | split | dsimp only | (intro x))

theorem ev_renewal (h : Ev m s t) (a1 : List RenewalWord)
    (hm : 0x220d22 ||| m = m) : Ev m s (State.renewal t a1) := by
  unfold State.renewal
  repeat' (first | with_reducible assumption | exact sub hm (by decide) | with_reducible apply ev_strayWords |
                    with_reducible apply ev_beginHold | with_reducible apply ev_updHub | with_reducible apply ev_withdraw |
                    with_reducible apply ev_controlFault | (intro u a hu) | (intro u hu) | split | dsimp only | (intro x))

theorem ev_roles (h : Ev m s t)
    (hm : 0x3fffff ||| m = m) : Ev m s (State.roles t) := by
  unfold State.roles
  repeat' (first | with_reducible assumption | exact sub hm (by decide) | with_reducible apply ev_earlyGrant |
                    with_reducible apply ev_firstGrant | with_reducible apply ev_releaseHold | (intro u a hu) | (intro u hu) |
                    split | dsimp only | (intro x))

theorem ev_sendShadow (h : Ev m s t) (a1 : Shadow)
    (hm : 0x100 ||| m = m) : Ev m s (State.sendShadow t a1) := by
  unfold State.sendShadow
  repeat' (first | with_reducible assumption | exact sub hm (by decide) | with_reducible apply ev_updHub | (intro u a hu) |
                    (intro u hu) | split | dsimp only | (intro x))

theorem ev_refillDram (h : Ev m s t)
    (hm : 0x20000 ||| m = m) : Ev m s (State.refillDram t) := by
  unfold State.refillDram
  repeat' (first | with_reducible assumption | exact sub hm (by decide) | with_reducible exact fun hw => hw |
                    with_reducible exact fun _ => wf_nil _ | with_reducible apply ev_updDr | (intro u a hu) | (intro u hu) |
                    split | dsimp only | (intro x))

theorem ev_settleSeal (h : Ev m s t)
    (hm : 0x7c02 ||| m = m) : Ev m s (State.settleSeal t) := by
  unfold State.settleSeal
  repeat' (first | with_reducible assumption | exact sub hm (by decide) | with_reducible exact fun hw => wf_filter _ hw |
                    with_reducible apply ev_finish | with_reducible apply ev_each | (intro u a hu) | (intro u hu) | split |
                    dsimp only | (intro x))

theorem ev_setSeal (h : Ev m s t) (a1 : Bool)
    (hm : 0x7c22 ||| m = m) : Ev m s (State.setSeal t a1) := by
  unfold State.setSeal
  repeat' (first | with_reducible assumption | exact sub hm (by decide) | with_reducible apply ev_wr |
                    with_reducible apply ev_count | with_reducible apply ev_aev | with_reducible apply ev_postAenAll |
                    with_reducible apply ev_settleSeal | with_reducible apply ev_when | (intro u a hu) | (intro u hu) |
                    split | dsimp only | (intro x))

theorem ev_evalSeal (h : Ev m s t)
    (hm : 0x7c22 ||| m = m) : Ev m s (State.evalSeal t) := by
  unfold State.evalSeal
  repeat' (first | with_reducible assumption | exact sub hm (by decide) | with_reducible apply ev_setSeal | (intro u a hu) |
                    (intro u hu) | split | dsimp only | (intro x))

theorem ev_endLost (h : Ev m s t)
    (hm : 0x7c02 ||| m = m) : Ev m s (State.endLost t) := by
  unfold State.endLost
  repeat' (first | with_reducible assumption | exact sub hm (by decide) | with_reducible exact fun hw => wf_filter _ hw |
                    with_reducible apply ev_finish | with_reducible apply ev_each | (intro u a hu) | (intro u hu) | split |
                    dsimp only | (intro x))

theorem ev_endDeletes (h : Ev m s t)
    (hm : 0x7d02 ||| m = m) : Ev m s (State.endDeletes t) := by
  unfold State.endDeletes
  repeat' (first | with_reducible assumption | exact sub hm (by decide) | with_reducible exact fun hw => wf_filter _ hw |
                    with_reducible apply ev_checkDelete | with_reducible apply ev_each | (intro u a hu) | (intro u hu) |
                    split | dsimp only | (intro x))

theorem ev_ps3Limit (h : Ev m s t)
    (hm : 0x1c02 ||| m = m) : Ev m s (State.ps3Limit t) := by
  unfold State.ps3Limit
  repeat' (first | with_reducible assumption | exact sub hm (by decide) | with_reducible apply ev_endPs3 | (intro u a hu) |
                    (intro u hu) | split | dsimp only | (intro x))

theorem ev_resumeQueues (h : Ev m s t)
    (hm : 0x7d02 ||| m = m) : Ev m s (State.resumeQueues t) := by
  unfold State.resumeQueues
  repeat' (first | with_reducible assumption | exact sub hm (by decide) | with_reducible apply ev_issueAll |
                    with_reducible apply ev_drain | with_reducible apply ev_ps3Limit | with_reducible apply ev_checkShut |
                    with_reducible apply ev_endDeletes | with_reducible apply ev_endLost | (intro u a hu) | (intro u hu) |
                    split | dsimp only | (intro x))

theorem ev_endSplits (h : Ev m s t)
    (hm : 0x800 ||| m = m) : Ev m s (State.endSplits t) := by
  unfold State.endSplits
  repeat' (first | with_reducible assumption | exact sub hm (by decide) | with_reducible exact fun hw => wf_filter _ hw |
                    with_reducible apply ev_updFn | with_reducible apply ev_each | (intro u a hu) | (intro u hu) | split |
                    dsimp only | (intro x))

theorem ev_commitMode (h : Ev m s t)
    (hm : 0x1c02 ||| m = m) : Ev m s (State.commitMode t) := by
  unfold State.commitMode
  repeat' (first | with_reducible assumption | exact sub hm (by decide) | with_reducible apply ev_wr |
                    with_reducible apply ev_postAenAll | (intro u a hu) | (intro u hu) | split | dsimp only | (intro x))

theorem ev_noteCharge (h : Ev m s t)
    (hm : 0x2 ||| m = m) : Ev m s (State.noteCharge t) := by
  unfold State.noteCharge
  repeat' (first | with_reducible assumption | exact sub hm (by decide) | with_reducible apply ev_wr | (intro u a hu) |
                    (intro u hu) | split | dsimp only | (intro x))

theorem ev_compareHead (h : Ev m s t) (a1 : Shadow)
    (hm : 0x122 ||| m = m) : Ev m s (State.compareHead t a1) := by
  unfold State.compareHead
  repeat' (first | with_reducible assumption | exact sub hm (by decide) | with_reducible apply ev_shadowFault |
                    (intro u a hu) | (intro u hu) | split | dsimp only | (intro x))

theorem ev_noteLow (h : Ev m s t)
    (hm : 0x200 ||| m = m) : Ev m s (State.noteLow t) := by
  unfold State.noteLow
  repeat' (first | with_reducible assumption | exact sub hm (by decide) | with_reducible apply ev_updSched | (intro u a hu) |
                    (intro u hu) | split | dsimp only | (intro x))

theorem ev_rollTier (h : Ev m s t)
    (hm : 0x10000 ||| m = m) : Ev m s (State.rollTier t) := by
  unfold State.rollTier
  repeat' (first | with_reducible assumption | exact sub hm (by decide) | with_reducible exact fun hw => hw |
                    with_reducible exact fun hw => ⟨hw.1, hw.2, hw.3⟩ | with_reducible apply ev_updRg | (intro u a hu) |
                    (intro u hu) | split | dsimp only | (intro x))

theorem ev_debounceSlots (h : Ev m s t)
    (hm : 0x8000 ||| m = m) : Ev m s (State.debounceSlots t) := by
  unfold State.debounceSlots
  repeat' (first | with_reducible assumption | exact sub hm (by decide) | with_reducible exact fun hw => hw | (intro u a hu) |
                    (intro u hu) | split | dsimp only | (intro x) | with_reducible apply ev_mk_slots)

theorem ev_noteAct (h : Ev m s t)
    (hm : 0x2 ||| m = m) : Ev m s (State.noteAct t) := by
  unfold State.noteAct
  repeat' (first | with_reducible assumption | exact sub hm (by decide) | with_reducible apply ev_wr | (intro u a hu) |
                    (intro u hu) | split | dsimp only | (intro x))

theorem ev_barWork (h : Ev m s t)
    (hm : 0x237f22 ||| m = m) : Ev m s (State.barWork t) := by
  unfold State.barWork
  repeat' (first | with_reducible assumption | exact sub hm (by decide) | with_reducible apply ev_computeFactor |
                    with_reducible apply ev_pumpSanitize | with_reducible apply ev_goKeys | with_reducible apply ev_copyBar |
                    with_reducible apply ev_patrolNeed | with_reducible apply ev_updSpace | with_reducible apply ev_noteLow |
                    with_reducible apply ev_when | (intro u a hu) | (intro u hu) | split | dsimp only | (intro x))

theorem ev_barBoundary (h : Ev m s t) (a1 : Shadow)
    (hm : 0x23ff22 ||| m = m) : Ev m s (State.barBoundary t a1) := by
  unfold State.barBoundary
  repeat' (first | with_reducible assumption | exact sub hm (by decide) | with_reducible apply ev_updHub |
                    with_reducible apply ev_endCharges | with_reducible apply ev_noteAct |
                    with_reducible apply ev_debounceSlots | with_reducible apply ev_rollTier |
                    with_reducible apply ev_noteCharge | with_reducible apply ev_endSplits |
                    with_reducible apply ev_noteFormats | with_reducible apply ev_compareHead |
                    with_reducible apply ev_commitMode | with_reducible apply ev_barWork | (intro u a hu) | (intro u hu) |
                    split | dsimp only | (intro x))

theorem ev_beatBoundary (h : Ev m s t) (a1 : Nat) (a2 : Nat) (a3 : List RenewalWord)
    (hm : 0x3fffff ||| m = m) : Ev m s (State.beatBoundary t a1 a2 a3) := by
  unfold State.beatBoundary
  repeat' (first | with_reducible assumption | exact sub hm (by decide) | with_reducible apply ev_roles |
                    with_reducible apply ev_renewal | with_reducible apply ev_strobe | with_reducible apply ev_openBeat |
                    with_reducible apply ev_autoSlots | with_reducible apply ev_settleSlots |
                    with_reducible apply ev_applyDoms | with_reducible apply ev_refillDram |
                    with_reducible apply ev_sendShadow | with_reducible apply ev_barBoundary |
                    with_reducible apply ev_resumeQueues | with_reducible apply ev_postCrit |
                    with_reducible apply ev_evalSeal | with_reducible apply ev_when | (intro u a hu) | (intro u hu) | split |
                    dsimp only | (intro x))

theorem ev_execBeatBoundary (h : Ev m s t) (a0 : Nat) (a1 : Nat) (a2 : List RenewalWord) (u : State) (hu : execBeatBoundary
    a0 a1 a2 t = .next u)
    (hm : 0x3fffff ||| m = m) : Ev m s u := by
  unfold execBeatBoundary at hu; injection hu with hu; subst hu
  repeat' (first | with_reducible assumption | exact sub hm (by decide) | with_reducible apply ev_beatBoundary |
                    (intro u a hu) | (intro u hu) | split | dsimp only | (intro x))

end Sys2Proof.Laws
end

