-- ==== Sys2Proof/Laws/Exec.lean ====
section
/-! SUPPORT. What every command does, gathered from the laws of the commands: one command of each row, by cases. -/

namespace Sys2Proof.Laws

open Sys2Proof Sys2Proof.Machine

theorem exec_evolves (i : Instr) (s z : State) (he : exec i s = .next z) : Evolves s z := by
  cases i with
  | registerWrite m h blk off width val => exact (ev_execRegisterWrite (ev_refl 0x3ffdf2 s) m h blk off width val z he rfl).ev
  | lowWordRead m h blk off width => exact (ev_execLowWordRead (ev_refl 0x80ae s) m h blk off width z he rfl).ev
  | schSlackRead h byte width => exact (ev_execSchSlackRead (ev_refl 0x80ae s) h byte width z he rfl).ev
  | tenMissRead t byte width => exact (ev_execTenMissRead (ev_refl 0x80ae s) t byte width z he rfl).ev
  | medRfsstatRead byte width => exact (ev_execMedRfsstatRead (ev_refl 0x80ae s) byte width z he rfl).ev
  | eccCbmaxRead byte width => exact (ev_execEccCbmaxRead (ev_refl 0x80ae s) byte width z he rfl).ev
  | ctgSlotstatRead n byte width => exact (ev_execCtgSlotstatRead (ev_refl 0x80ae s) n byte width z he rfl).ev
  | pwrPkgRead byte width => exact (ev_execPwrPkgRead (ev_refl 0x80ae s) byte width z he rfl).ev
  | beatBoundary ivA ivB words => exact (ev_execBeatBoundary (ev_refl 0x3fffff s) ivA ivB words z he rfl).ev
  | arbitrationRound => exact (ev_execArbitrationRound (ev_refl 0xc00 s) z he rfl).ev
  | commandWindow => exact (ev_execCommandWindow (ev_refl 0x237f23 s) z he rfl).ev
  | loopUpdate eng => exact (ev_execLoopUpdate (ev_refl 0x10022 s) eng z he rfl).ev
  | envelopeUpdate pm temps meas => exact (ev_execEnvelopeUpdate (ev_refl 0x15c22 s) pm temps meas z he rfl).ev
  | slotChoiceWindow => exact (ev_execSlotChoiceWindow (ev_refl 0x12000 s) z he rfl).ev
  | barLatchPoint => exact (ev_execBarLatchPoint (ev_refl 0x1e23 s) z he rfl).ev
  | doneDeadline h hw => exact (ev_execDoneDeadline (ev_refl 0x220d23 s) h hw z he rfl).ev
  | schEnrollWrite m h val => exact (ev_execSchEnrollWrite (ev_refl 0x22 s) m h val z he rfl).ev
  | schDoneSetWrite m h val cyc => exact (ev_execSchDoneSetWrite (ev_refl 0x101 s) m h val cyc z he rfl).ev
  | planCommit m h val => exact (ev_execPlanCommit (ev_refl 0x2 s) m h val z he rfl).ev
  | perstDeassert p speed width flit => exact (ev_execPerstDeassert (ev_refl 0x802 s) p speed width flit z he rfl).ev
  | configRequestRetry p f reg => exact (ev_execConfigRequestRetry (ev_refl 0x410 s) p f reg z he rfl).ev
  | portLinkDown p => exact (ev_execPortLinkDown (ev_refl 0x47902 s) p z he rfl).ev
  | vfEnable pf num => exact (ev_execVfEnable (ev_refl 0x47902 s) pf num z he rfl).ev
  | busMasterEnableClear f => exact (ev_execBusMasterEnableClear (ev_refl 0x200800 s) f z he rfl).ev
  | busMasterEnableSet f cfg => exact (ev_execBusMasterEnableSet (ev_refl 0x227d22 s) f cfg z he rfl).ev
  | flrWrite f => exact (ev_execFlrWrite (ev_refl 0x247902 s) f z he rfl).ev
  | flrComplete f => exact (ev_execFlrComplete (ev_refl 0x800 s) f z he rfl).ev
  | sqTailDoorbell f q v => exact (ev_execSqTailDoorbell (ev_refl 0x1c22 s) f q v z he rfl).ev
  | cqHeadDoorbell f q v => exact (ev_execCqHeadDoorbell (ev_refl 0x5c22 s) f q v z he rfl).ev
  | ccEnableSet f wrr aqOk asq acq asqAddr acqAddr => exact (ev_execCcEnableSet (ev_refl 0x200800 s) f wrr aqOk asq acq asqAddr acqAddr z he rfl).ev
  | controllerReady f => exact (ev_execControllerReady (ev_refl 0x1c02 s) f z he rfl).ev
  | controllerReset f => exact (ev_execControllerReset (ev_refl 0x47900 s) f z he rfl).ev
  | controllerResetComplete f => exact (ev_execControllerResetComplete (ev_refl 0x800 s) f z he rfl).ev
  | shutdownNotification f => exact (ev_execShutdownNotification (ev_refl 0x800 s) f z he rfl).ev
  | inboundWindowTlp f req bar addr len wr data poisoned err => exact (ev_execInboundWindowTlp (ev_refl 0x267d22 s) f req bar addr len wr data poisoned err z he rfl).ev
  | pmrTlp f req addr len wr data checkOk => exact (ev_execPmrTlp (ev_refl 0x24c22 s) f req addr len wr data checkOk z he rfl).ev
  | pmrGranuleRotation g => exact (ev_execPmrGranuleRotation (ev_refl 0x4002 s) g z he rfl).ev
  | expansionRomTlp pf addr len wr => exact (ev_execExpansionRomTlp (ev_refl 0xc02 s) pf addr len wr z he rfl).ev
  | windowEnableWrite m p e val => exact (ev_execWindowEnableWrite (ev_refl 0x2 s) m p e val z he rfl).ev
  | tagbudWrite m f val => exact (ev_execTagbudWrite (ev_refl 0x200c22 s) m f val z he rfl).ev
  | contextBudgetWrite m f val => exact (ev_execContextBudgetWrite (ev_refl 0x22 s) m f val z he rfl).ev
  | splitAllWrite m val => exact (ev_execSplitAllWrite (ev_refl 0x200c02 s) m val z he rfl).ev
  | readCompletionArrival cpl => exact (ev_execReadCompletionArrival (ev_refl 0x267d22 s) cpl z he rfl).ev
  | completionTimeout p tag => exact (ev_execCompletionTimeout (ev_refl 0x207c22 s) p tag z he rfl).ev
  | quarantineEnd p tag => exact (ev_execQuarantineEnd (ev_refl 0x240c00 s) p tag z he rfl).ev
  | outboundTransfer h epoch payload => exact (ev_execOutboundTransfer (ev_refl 0x2 s) h epoch payload z he rfl).ev
  | doeSpdmRequest pf code => exact (ev_execDoeSpdmRequest (ev_refl 0x100400 s) pf code z he rfl).ev
  | writeCommand hd nsid slba nlb x => exact (ev_execWriteCommand (ev_refl 0x7c22 s) hd nsid slba nlb x z he rfl).ev
  | readCommand hd nsid slba nlb x => exact (ev_execReadCommand (ev_refl 0x237d22 s) hd nsid slba nlb x z he rfl).ev
  | compareCommand hd nsid slba nlb x => exact (ev_execCompareCommand (ev_refl 0x237d22 s) hd nsid slba nlb x z he rfl).ev
  | verifyCommand hd nsid slba nlb => exact (ev_execVerifyCommand (ev_refl 0x237d22 s) hd nsid slba nlb z he rfl).ev
  | writeZeroesCommand hd nsid slba nlb => exact (ev_execWriteZeroesCommand (ev_refl 0x7c22 s) hd nsid slba nlb z he rfl).ev
  | datasetManagementCommand hd nsid ranges ad => exact (ev_execDatasetManagementCommand (ev_refl 0x7c22 s) hd nsid ranges ad z he rfl).ev
  | flushCommand hd nsid => exact (ev_execFlushCommand (ev_refl 0x7c02 s) hd nsid z he rfl).ev
  | flushCompletion hd => exact (ev_execFlushCompletion (ev_refl 0x7c02 s) hd z he rfl).ev
  | deleteIoSubmissionQueue hd q => exact (ev_execDeleteIoSubmissionQueue (ev_refl 0x7d02 s) hd q z he rfl).ev
  | createIoSubmissionQueue hd q qsize cq prio base cmb => exact (ev_execCreateIoSubmissionQueue (ev_refl 0x7c02 s) hd q qsize cq prio base cmb z he rfl).ev
  | deleteIoCompletionQueue hd q => exact (ev_execDeleteIoCompletionQueue (ev_refl 0x7c02 s) hd q z he rfl).ev
  | createIoCompletionQueue hd q qsize iv base => exact (ev_execCreateIoCompletionQueue (ev_refl 0x7c02 s) hd q qsize iv base z he rfl).ev
  | getLogPage hd nsid lid numd off rae => exact (ev_execGetLogPage (ev_refl 0x7c12 s) hd nsid lid numd off rae z he rfl).ev
  | identify hd cns nsid => exact (ev_execIdentify (ev_refl 0x7c02 s) hd cns nsid z he rfl).ev
  | abort hd sq acid => exact (ev_execAbort (ev_refl 0x7c02 s) hd sq acid z he rfl).ev
  | setFeatures hd fid val => exact (ev_execSetFeatures (ev_refl 0x7c02 s) hd fid val z he rfl).ev
  | getFeatures hd fid => exact (ev_execGetFeatures (ev_refl 0x7c02 s) hd fid z he rfl).ev
  | asynchronousEventRequest hd => exact (ev_execAsynchronousEventRequest (ev_refl 0x7c02 s) hd z he rfl).ev
  | namespaceManagement hd sel nsid lbaf lbas pi ext => exact (ev_execNamespaceManagement (ev_refl 0x237d22 s) hd sel nsid lbaf lbas pi ext z he rfl).ev
  | namespaceAttachment hd sel nsid fns => exact (ev_execNamespaceAttachment (ev_refl 0x7c02 s) hd sel nsid fns z he rfl).ev
  | formatNvm hd nsid lbaf ses pi ext => exact (ev_execFormatNvm (ev_refl 0x237d22 s) hd nsid lbaf ses pi ext z he rfl).ev
  | securitySend hd secp code => exact (ev_execSecuritySend (ev_refl 0x107c02 s) hd secp code z he rfl).ev
  | securityReceive hd secp => exact (ev_execSecurityReceive (ev_refl 0x107c02 s) hd secp z he rfl).ev
  | sanitize hd sanact => exact (ev_execSanitize (ev_refl 0x237d22 s) hd sanact z he rfl).ev
  | sanitizeEnd => exact (ev_execSanitizeEnd (ev_refl 0x7c02 s) z he rfl).ev
  | powerStateEntryEnd => exact (ev_execPowerStateEntryEnd (ev_refl 0x1c02 s) z he rfl).ev
  | ps3Exit => exact (ev_execPs3Exit (ev_refl 0x1c02 s) z he rfl).ev
  | dramWriteAcknowledge vid mirror tagOk => exact (ev_execDramWriteAcknowledge (ev_refl 0x227d22 s) vid mirror tagOk z he rfl).ev
  | commitRecordStart pid => exact (ev_execCommitRecordStart (ev_refl 0x5800 s) pid z he rfl).ev
  | commitHeaderWrite pid => exact (ev_execCommitHeaderWrite (ev_refl 0x5002 s) pid z he rfl).ev
  | commitPoint pid => exact (ev_execCommitPoint (ev_refl 0x7c02 s) pid z he rfl).ev
  | mapLookupReturn ctx idx => exact (ev_execMapLookupReturn (ev_refl 0x237d22 s) ctx idx z he rfl).ev
  | flashReadResult op res => exact (ev_execFlashReadResult (ev_refl 0x237d22 s) op res z he rfl).ev
  | watchCountLimit w => exact (ev_execWatchCountLimit (ev_refl 0x237d22 s) w z he rfl).ev
  | stagedTartExpiry ltn => exact (ev_execStagedTartExpiry (ev_refl 0x3000 s) ltn z he rfl).ev
  | flashProgramComplete op => exact (ev_execFlashProgramComplete (ev_refl 0x237d22 s) op z he rfl).ev
  | mapWrite mseq => exact (ev_execMapWrite (ev_refl 0x237d22 s) mseq z he rfl).ev
  | flashProgramFailure op => exact (ev_execFlashProgramFailure (ev_refl 0x237d22 s) op z he rfl).ev
  | gcVictimSelect slice => exact (ev_execGcVictimSelect (ev_refl 0x6000 s) slice z he rfl).ev
  | victimEraseStart sb => exact (ev_execVictimEraseStart (ev_refl 0x7c22 s) sb z he rfl).ev
  | gcPlanShift slice rows => exact (ev_execGcPlanShift (ev_refl 0x202 s) slice rows z he rfl).ev
  | wearBudgetCheck => exact (ev_execWearBudgetCheck (ev_refl 0x2022 s) z he rfl).ev
  | deltaPageProgram => exact (ev_execDeltaPageProgram (ev_refl 0x2000 s) z he rfl).ev
  | eraseIntentWritten die blk => exact (ev_execEraseIntentWritten (ev_refl 0x6002 s) die blk z he rfl).ev
  | eraseComplete die blk ok => exact (ev_execEraseComplete (ev_refl 0x237d22 s) die blk ok z he rfl).ev
  | erasedMarginReadResult die blk cells => exact (ev_execErasedMarginReadResult (ev_refl 0x237d22 s) die blk cells z he rfl).ev
  | eraseDoneWritten die blk => exact (ev_execEraseDoneWritten (ev_refl 0x237d22 s) die blk z he rfl).ev
  | blktabWritten jseq => exact (ev_execBlktabWritten (ev_refl 0x6002 s) jseq z he rfl).ev
  | operationTimeout op => exact (ev_execOperationTimeout (ev_refl 0x237d22 s) op z he rfl).ev
  | suspendAcknowledged die => exact (ev_execSuspendAcknowledged (ev_refl 0x2002 s) die z he rfl).ev
  | shortZqCalibration c => exact (ev_execShortZqCalibration (ev_refl 0x2000 s) c z he rfl).ev
  | slotPresenceDebounce n => exact (ev_execSlotPresenceDebounce (ev_refl 0x8002 s) n z he rfl).ev
  | slotPowerFault n => exact (ev_execSlotPowerFault (ev_refl 0x23fd22 s) n z he rfl).ev
  | buttonPress n low => exact (ev_execButtonPress (ev_refl 0x8022 s) n low z he rfl).ev
  | reqon m n => exact (ev_execReqon (ev_refl 0x8002 s) m n z he rfl).ev
  | reqoff m n => exact (ev_execReqoff (ev_refl 0x8022 s) m n z he rfl).ev
  | cancel m n => exact (ev_execCancel (ev_refl 0x8022 s) m n z he rfl).ev
  | slotPowerGood n => exact (ev_execSlotPowerGood (ev_refl 0x8000 s) n z he rfl).ev
  | powerGoodTimeout n => exact (ev_execPowerGoodTimeout (ev_refl 0x8000 s) n z he rfl).ev
  | slotTrainingStart n => exact (ev_execSlotTrainingStart (ev_refl 0x8000 s) n z he rfl).ev
  | slotTrainingDone n rate0 rate1 found => exact (ev_execSlotTrainingDone (ev_refl 0x1e032 s) n rate0 rate1 found z he rfl).ev
  | abortWindowEnd n => exact (ev_execAbortWindowEnd (ev_refl 0xf822 s) n z he rfl).ev
  | slotPowerOff n => exact (ev_execSlotPowerOff (ev_refl 0x23fd22 s) n z he rfl).ev
  | surpriseRemoval n why => exact (ev_execSurpriseRemoval (ev_refl 0x23fd22 s) n why z he rfl).ev
  | scrubGo m val => exact (ev_execScrubGo (ev_refl 0x2032 s) m val z he rfl).ev
  | scrubCancel m => exact (ev_execScrubCancel (ev_refl 0x2000 s) m z he rfl).ev
  | scrubEnd => exact (ev_execScrubEnd (ev_refl 0x2022 s) z he rfl).ev
  | toManual m die grp cyc => exact (ev_execToManual (ev_refl 0x10022 s) m die grp cyc z he rfl).ev
  | setMan m die grp cyc => exact (ev_execSetMan (ev_refl 0x10022 s) m die grp cyc z he rfl).ev
  | toAuto m die grp cyc => exact (ev_execToAuto (ev_refl 0x10022 s) m die grp cyc z he rfl).ev
  | read m die grp cyc => exact (ev_execRead (ev_refl 0x10022 s) m die grp cyc z he rfl).ev
  | clear m die grp cyc => exact (ev_execClear (ev_refl 0x10022 s) m die grp cyc z he rfl).ev
  | loopAlarm die grp => exact (ev_execLoopAlarm (ev_refl 0x10022 s) die grp z he rfl).ev
  | loopRearm die grp => exact (ev_execLoopRearm (ev_refl 0x10000 s) die grp z he rfl).ev
  | loopStateSave => exact (ev_execLoopStateSave (ev_refl 0x12000 s) z he rfl).ev
  | thermalFence => exact (ev_execThermalFence (ev_refl 0x200d22 s) z he rfl).ev
  | ringCarry => exact (ev_execRingCarry (ev_refl 0x5002 s) z he rfl).ev
  | ledgerPatrol addr res => exact (ev_execLedgerPatrol (ev_refl 0x22 s) addr res z he rfl).ev
  | powerLossDetected => exact (ev_execPowerLossDetected (ev_refl 0x307922 s) z he rfl).ev
  | flushStart => exact (ev_execFlushStart (ev_refl 0x33fd22 s) z he rfl).ev
  | flushDoneWrite high => exact (ev_execFlushDoneWrite (ev_refl 0x3fffff s) high z he rfl).ev
  | epochRelease => exact (ev_execEpochRelease (ev_refl 0x6002 s) z he rfl).ev
  | dramRequestArrival port wr line part h rfs => exact (ev_execDramRequestArrival (ev_refl 0x220d22 s) port wr line part h rfs z he rfl).ev
  | dramCommandIssue hubDue => exact (ev_execDramCommandIssue (ev_refl 0x20002 s) hubDue z he rfl).ev
  | dramReadReturn id res => exact (ev_execDramReadReturn (ev_refl 0x223d32 s) id res z he rfl).ev
  | mapwaitPublish => exact (ev_execMapwaitPublish (ev_refl 0x2 s) z he rfl).ev
  | dramRefresh kind sr => exact (ev_execDramRefresh (ev_refl 0x20000 s) kind sr z he rfl).ev
  | dramPatrolRead line res => exact (ev_execDramPatrolRead (ev_refl 0x223d32 s) line res z he rfl).ev
  | deviceMarkedFailed sr dev => exact (ev_execDeviceMarkedFailed (ev_refl 0x22 s) sr dev z he rfl).ev
  | rowRepairQueued sr dev bank row free => exact (ev_execRowRepairQueued (ev_refl 0xa0022 s) sr dev bank row free z he rfl).ev
  | rowRepairStart => exact (ev_execRowRepairStart (ev_refl 0x20002 s) z he rfl).ev
  | rowRepairEnd reads => exact (ev_execRowRepairEnd (ev_refl 0xa0022 s) reads z he rfl).ev
  | dramScrubGo m val => exact (ev_execDramScrubGo (ev_refl 0x20022 s) m val z he rfl).ev
  | dramScrubCancel m => exact (ev_execDramScrubCancel (ev_refl 0x20000 s) m z he rfl).ev
  | dramScrubEnd => exact (ev_execDramScrubEnd (ev_refl 0x20022 s) z he rfl).ev
  | helperGo m val => exact (ev_execHelperGo (ev_refl 0x22 s) m val z he rfl).ev
  | helperDone lanes errs first => exact (ev_execHelperDone (ev_refl 0x2 s) lanes errs first z he rfl).ev
  | modeRegisterWrite m mr data sr dev => exact (ev_execModeRegisterWrite (ev_refl 0x20022 s) m mr data sr dev z he rfl).ev
  | modeRegisterRead m mr sr dev => exact (ev_execModeRegisterRead (ev_refl 0x32 s) m mr sr dev z he rfl).ev
  | flipArm m val => exact (ev_execFlipArm (ev_refl 0x2 s) m val z he rfl).ev
  | sramPatrol h corr unc cells => exact (ev_execSramPatrol (ev_refl 0x220d22 s) h corr unc cells z he rfl).ev
  | alloc h m pool noquota tenant cls => exact (ev_execAlloc (ev_refl 0x40022 s) h m pool noquota tenant cls z he rfl).ev
  | allocGrant h => exact (ev_execAllocGrant (ev_refl 0x40002 s) h z he rfl).ev
  | share h m other => exact (ev_execShare (ev_refl 0x40022 s) h m other z he rfl).ev
  | free h m => exact (ev_execFree (ev_refl 0x40022 s) h m z he rfl).ev
  | query h m => exact (ev_execQuery (ev_refl 0x22 s) h m z he rfl).ev
  | shadowRecordArrival crcOk named => exact (ev_execShadowRecordArrival (ev_refl 0x922 s) crcOk named z he rfl).ev
  | shadowDeadline => exact (ev_execShadowDeadline (ev_refl 0x122 s) z he rfl).ev
  | syncComplete => exact (ev_execSyncComplete (ev_refl 0x122 s) z he rfl).ev
  | syncTimeout => exact (ev_execSyncTimeout (ev_refl 0x122 s) z he rfl).ev
  | controlFault h mech slice => exact (ev_execControlFault (ev_refl 0x220d22 s) h mech slice z he rfl).ev
  | dataPathFault h slice ctx => exact (ev_execDataPathFault (ev_refl 0x227d22 s) h slice ctx z he rfl).ev
  | hubFault unit => exact (ev_execHubFault (ev_refl 0x200d22 s) unit z he rfl).ev
  | leaseLapse => exact (ev_execLeaseLapse (ev_refl 0x3fffff s) z he rfl).ev
  | takeoverReady => exact (ev_execTakeoverReady (ev_refl 0x100 s) z he rfl).ev
  | takeoverTimeout => exact (ev_execTakeoverTimeout (ev_refl 0x200d22 s) z he rfl).ev
  | drillMark => exact (ev_execDrillMark (ev_refl 0x100 s) z he rfl).ev
  | drillNow m => exact (ev_execDrillNow (ev_refl 0x102 s) m z he rfl).ev
  | drillBegin => exact (ev_execDrillBegin (ev_refl 0x220d02 s) z he rfl).ev
  | drillGrant => exact (ev_execDrillGrant (ev_refl 0x337d22 s) z he rfl).ev
  | drillReadyTimeout => exact (ev_execDrillReadyTimeout (ev_refl 0x337d22 s) z he rfl).ev
  | drillPass => exact (ev_execDrillPass (ev_refl 0x122 s) z he rfl).ev
  | drillDeferralReport => exact (ev_execDrillDeferralReport (ev_refl 0x122 s) z he rfl).ev
  | restore m => exact (ev_execRestore (ev_refl 0x1e2 s) m z he rfl).ev
  | autoRestore => exact (ev_execAutoRestore (ev_refl 0x1c2 s) z he rfl).ev
  | restoreSelfTestDone ok => exact (ev_execRestoreSelfTestDone (ev_refl 0x132 s) ok z he rfl).ev
  | fencedStateEntry cause => exact (ev_execFencedStateEntry (ev_refl 0x200d22 s) cause z he rfl).ev
  | fenceFlushEnd => exact (ev_execFenceFlushEnd (ev_refl 0x120 s) z he rfl).ev
  | chimeSend h m e dest => exact (ev_execChimeSend (ev_refl 0x62 s) h m e dest z he rfl).ev
  | chimeAck h m e ack => exact (ev_execChimeAck (ev_refl 0x62 s) h m e ack z he rfl).ev
  | lockRead h m n => exact (ev_execLockRead (ev_refl 0x8a s) h m n z he rfl).ev
  | lockRelease h m n val => exact (ev_execLockRelease (ev_refl 0xb2 s) h m n val z he rfl).ev
  | semForce h m val => exact (ev_execSemForce (ev_refl 0x1b2 s) h m val z he rfl).ev
  | programRun m count => exact (ev_execProgramRun (ev_refl 0x80022 s) m count z he rfl).ev
  | erase m => exact (ev_execErase (ev_refl 0x80022 s) m z he rfl).ev
  | btaOperationEnd timedOut => exact (ev_execBtaOperationEnd (ev_refl 0x80012 s) timedOut z he rfl).ev
  | brownOut => exact (ev_execBrownOut (ev_refl 0x80012 s) z he rfl).ev
  | powerOnReset cause supply => exact (ev_execPowerOnReset (ev_refl 0x3fffff s) cause supply z he rfl).ev
  | bootingHalfRelease => exact (ev_execBootingHalfRelease (ev_refl 0x801c2 s) z he rfl).ev
  | startupStepComplete r => exact (ev_execStartupStepComplete (ev_refl 0x3bfff2 s) r z he rfl).ev
  | startupStepTimeout => exact (ev_execStartupStepTimeout (ev_refl 0x2a2132 s) z he rfl).ev
  | entdaa da => exact (ev_execEntdaa (ev_refl 0x402 s) da z he rfl).ev
  | setdasa da => exact (ev_execSetdasa (ev_refl 0x2 s) da z he rfl).ev
  | setnewda da => exact (ev_execSetnewda (ev_refl 0x2 s) da z he rfl).ev
  | rstdaa => exact (ev_execRstdaa (ev_refl 0x2 s) z he rfl).ev
  | enec => exact (ev_execEnec (ev_refl 0x402 s) z he rfl).ev
  | disec => exact (ev_execDisec (ev_refl 0x2 s) z he rfl).ev
  | getpid => exact (ev_execGetpid (ev_refl 0x400 s) z he rfl).ev
  | getbcr => exact (ev_execGetbcr (ev_refl 0x400 s) z he rfl).ev
  | getdcr => exact (ev_execGetdcr (ev_refl 0x400 s) z he rfl).ev
  | getstatus => exact (ev_execGetstatus (ev_refl 0x410 s) z he rfl).ev
  | getmwl => exact (ev_execGetmwl (ev_refl 0x400 s) z he rfl).ev
  | setmwl v => exact (ev_execSetmwl (ev_refl 0x100002 s) v z he rfl).ev
  | getmrl => exact (ev_execGetmrl (ev_refl 0x400 s) z he rfl).ev
  | setmrl v => exact (ev_execSetmrl (ev_refl 0x100002 s) v z he rfl).ev
  | mctpPacket pkt => exact (ev_execMctpPacket (ev_refl 0x100002 s) pkt z he rfl).ev
  | setEndpointId eid => exact (ev_execSetEndpointId (ev_refl 0x100402 s) eid z he rfl).ev
  | getEndpointId => exact (ev_execGetEndpointId (ev_refl 0x100400 s) z he rfl).ev
  | getMctpVersionSupport => exact (ev_execGetMctpVersionSupport (ev_refl 0x100400 s) z he rfl).ev
  | getMessageTypeSupport => exact (ev_execGetMessageTypeSupport (ev_refl 0x100400 s) z he rfl).ev
  | getVendorDefinedMessageSupport => exact (ev_execGetVendorDefinedMessageSupport (ev_refl 0x100400 s) z he rfl).ev
  | gettid => exact (ev_execGettid (ev_refl 0x100400 s) z he rfl).ev
  | settid tid => exact (ev_execSettid (ev_refl 0x100400 s) tid z he rfl).ev
  | getpldmversion => exact (ev_execGetpldmversion (ev_refl 0x100400 s) z he rfl).ev
  | getpldmtypes => exact (ev_execGetpldmtypes (ev_refl 0x100400 s) z he rfl).ev
  | getpldmcommands => exact (ev_execGetpldmcommands (ev_refl 0x100400 s) z he rfl).ev
  | queryDeviceIdentifiers sess => exact (ev_execQueryDeviceIdentifiers (ev_refl 0x100402 s) sess z he rfl).ev
  | getFirmwareParameters sess => exact (ev_execGetFirmwareParameters (ev_refl 0x100402 s) sess z he rfl).ev
  | requestUpdate sess maxXfer => exact (ev_execRequestUpdate (ev_refl 0x100402 s) sess maxXfer z he rfl).ev
  | passComponentTable sess comp size => exact (ev_execPassComponentTable (ev_refl 0x100402 s) sess comp size z he rfl).ev
  | updateComponent sess comp size stamp lastComp => exact (ev_execUpdateComponent (ev_refl 0x180412 s) sess comp size stamp lastComp z he rfl).ev
  | firmwareDataResponse sess data img => exact (ev_execFirmwareDataResponse (ev_refl 0x180422 s) sess data img z he rfl).ev
  | activateFirmware sess selfContained img => exact (ev_execActivateFirmware (ev_refl 0x181c22 s) sess selfContained img z he rfl).ev
  | getStatus sess => exact (ev_execGetStatus (ev_refl 0x100402 s) sess z he rfl).ev
  | cancelUpdateComponent sess => exact (ev_execCancelUpdateComponent (ev_refl 0x100402 s) sess z he rfl).ev
  | cancelUpdate sess => exact (ev_execCancelUpdate (ev_refl 0x100402 s) sess z he rfl).ev
  | updateTimeout => exact (ev_execUpdateTimeout (ev_refl 0x100002 s) z he rfl).ev
  | activationQuiesce => exact (ev_execActivationQuiesce (ev_refl 0x3069c2 s) z he rfl).ev
  | activationHoldBegin loadOk => exact (ev_execActivationHoldBegin (ev_refl 0x320102 s) loadOk z he rfl).ev
  | imageChange => exact (ev_execImageChange (ev_refl 0x1803e2 s) z he rfl).ev
  | activationResume => exact (ev_execActivationResume (ev_refl 0x385c22 s) z he rfl).ev
  | activationFallback => exact (ev_execActivationFallback (ev_refl 0x385fe2 s) z he rfl).ev
  | getVersion tr => exact (ev_execGetVersion (ev_refl 0x100400 s) tr z he rfl).ev
  | getCapabilities tr => exact (ev_execGetCapabilities (ev_refl 0x100400 s) tr z he rfl).ev
  | negotiateAlgorithms tr => exact (ev_execNegotiateAlgorithms (ev_refl 0x100400 s) tr z he rfl).ev
  | getDigests tr => exact (ev_execGetDigests (ev_refl 0x100400 s) tr z he rfl).ev
  | getCertificate tr slot => exact (ev_execGetCertificate (ev_refl 0x100400 s) tr slot z he rfl).ev
  | challenge tr slot => exact (ev_execChallenge (ev_refl 0x100400 s) tr slot z he rfl).ev
  | getMeasurements tr idx => exact (ev_execGetMeasurements (ev_refl 0x100400 s) tr idx z he rfl).ev
  | keyExchange tr mutAuth opKey => exact (ev_execKeyExchange (ev_refl 0x100402 s) tr mutAuth opKey z he rfl).ev
  | finish sess ok => exact (ev_execFinish (ev_refl 0x100402 s) sess ok z he rfl).ev
  | heartbeat sess => exact (ev_execHeartbeat (ev_refl 0x100400 s) sess z he rfl).ev
  | keyUpdate sess => exact (ev_execKeyUpdate (ev_refl 0x100400 s) sess z he rfl).ev
  | endSession sess => exact (ev_execEndSession (ev_refl 0x100402 s) sess z he rfl).ev
  | getEncapsulatedRequest sess => exact (ev_execGetEncapsulatedRequest (ev_refl 0x100400 s) sess z he rfl).ev
  | deliverEncapsulatedResponse sess ok => exact (ev_execDeliverEncapsulatedResponse (ev_refl 0x100402 s) sess ok z he rfl).ev
  | getNonce sess => exact (ev_execGetNonce (ev_refl 0x100412 s) sess z he rfl).ev
  | nonceExpiry sess => exact (ev_execNonceExpiry (ev_refl 0x100000 s) sess z he rfl).ev
  | regRead sess h blk off => exact (ev_execRegRead (ev_refl 0x1084ae s) sess h blk off z he rfl).ev
  | regWrite sess h blk off val => exact (ev_execRegWrite (ev_refl 0x3ffdf2 s) sess h blk off val z he rfl).ev
  | confirm sess => exact (ev_execConfirm (ev_refl 0x180422 s) sess z he rfl).ev
  | revert sess sigOk img => exact (ev_execRevert (ev_refl 0x3fffff s) sess sigOk img z he rfl).ev
  | deviceReset sess sigOk => exact (ev_execDeviceReset (ev_refl 0x3fffff s) sess sigOk z he rfl).ev
  | eventClear sess sigOk keyHash => exact (ev_execEventClear (ev_refl 0x184422 s) sess sigOk keyHash z he rfl).ev
  | consoleUnlock sess sigOk level hours => exact (ev_execConsoleUnlock (ev_refl 0x100422 s) sess sigOk level hours z he rfl).ev
  | consoleLock sess => exact (ev_execConsoleLock (ev_refl 0x100422 s) sess z he rfl).ev
  | consoleExpiry => exact (ev_execConsoleExpiry (ev_refl 0x22 s) z he rfl).ev
  | consoleRegisterRead h blk off => exact (ev_execConsoleRegisterRead (ev_refl 0x84ae s) h blk off z he rfl).ev
  | consoleRegisterWrite h blk off val => exact (ev_execConsoleRegisterWrite (ev_refl 0x3ffdf2 s) h blk off val z he rfl).ev
  | consoleEventRead seq => exact (ev_execConsoleEventRead (ev_refl 0x400 s) seq z he rfl).ev
  | rngHealthFailure => exact (ev_execRngHealthFailure (ev_refl 0x2 s) z he rfl).ev
  | eventSubmit h m e code => exact (ev_execEventSubmit (ev_refl 0x22 s) h m e code z he rfl).ev
  | eventRecordWrite => exact (ev_execEventRecordWrite (ev_refl 0x4022 s) z he rfl).ev
  | permanentCopy => exact (ev_execPermanentCopy (ev_refl 0x80020 s) z he rfl).ev
  | tokenRefill => exact (ev_execTokenRefill (ev_refl 0x20 s) z he rfl).ev
  | hourlyTemperatureRecord => exact (ev_execHourlyTemperatureRecord (ev_refl 0x22 s) z he rfl).ev
  | snapshotGo m val => exact (ev_execSnapshotGo (ev_refl 0x2 s) m val z he rfl).ev
  | snapshotLatch => exact (ev_execSnapshotLatch (ev_refl 0x2 s) z he rfl).ev
  | testGo m val => exact (ev_execTestGo (ev_refl 0x347922 s) m val z he rfl).ev
  | testStop m => exact (ev_execTestStop (ev_refl 0x22 s) m z he rfl).ev
  | testRunStart => exact (ev_execTestRunStart (ev_refl 0x200c02 s) z he rfl).ev
  | testRunEnd cause bits errs first lanes passes fails tos => exact (ev_execTestRunEnd (ev_refl 0x200422 s) cause bits errs first lanes passes fails tos z he rfl).ev
  | supplyTrip supply reading => exact (ev_execSupplyTrip (ev_refl 0x3fffff s) supply reading z he rfl).ev
  | sysclkFault => exact (ev_execSysclkFault (ev_refl 0x3fffff s) z he rfl).ev
  | domainRequest m h d val => exact (ev_execDomainRequest (ev_refl 0x122 s) m h d val z he rfl).ev
  | slotPresenceLoss n => exact (ev_execSlotPresenceLoss (ev_refl 0x23fd22 s) n z he rfl).ev
  | powerGoodLoss n => exact (ev_execPowerGoodLoss (ev_refl 0x23fd22 s) n z he rfl).ev
  | cartridgeInsertion n => exact (ev_execCartridgeInsertion (ev_refl 0x208000 s) n z he rfl).ev
  | outboundPacketRead => exact (ev_execOutboundPacketRead (ev_refl 0x100400 s) z he rfl).ev
  | checkerLock lane => exact (ev_execCheckerLock (ev_refl 0x200002 s) lane z he rfl).ev
  | checkerLockLoss lane => exact (ev_execCheckerLockLoss (ev_refl 0x200002 s) lane z he rfl).ev
  | rngReseed => exact (ev_execRngReseed (ev_refl 0x2 s) z he rfl).ev
  | heartbeatTimeout sess => exact (ev_execHeartbeatTimeout (ev_refl 0x100002 s) sess z he rfl).ev

end Sys2Proof.Laws
end

