-- ==== Sys2Proof/Laws/State.lean ====
section
/-! SUPPORT. The state's laws: one lemma for each field under each elementary update, the registers' read-after-write laws, and
what the shared operations on events leave as it is. -/

namespace Sys2Proof.Laws

open Sys2Proof Sys2Proof.Machine

/-! ### Fields under the elementary updates -/

@[simp] theorem wr_pending (s : State) (f : Fd) (v i : Nat) (h : Half) : (s.wr f v i h).pending = s.pending :=
  (ev_wr (ev_refl 0x2 s) f v i h rfl).ev.pending
@[simp] theorem wr_variant (s : State) (f : Fd) (v i : Nat) (h : Half) : (s.wr f v i h).variant = s.variant :=
  (ev_wr (ev_refl 0x2 s) f v i h rfl).ev.variant
@[simp] theorem wr_time (s : State) (f : Fd) (v i : Nat) (h : Half) : (s.wr f v i h).time = s.time :=
  (ev_wr (ev_refl 0x2 s) f v i h rfl).only .time rfl
@[simp] theorem wr_hi (s : State) (f : Fd) (v i : Nat) (h : Half) : (s.wr f v i h).hi = s.hi :=
  (ev_wr (ev_refl 0x2 s) f v i h rfl).only .hi rfl
@[simp] theorem wr_readData (s : State) (f : Fd) (v i : Nat) (h : Half) : (s.wr f v i h).readData = s.readData :=
  (ev_wr (ev_refl 0x2 s) f v i h rfl).only .readData rfl
@[simp] theorem wr_freeCtr (s : State) (f : Fd) (v i : Nat) (h : Half) : (s.wr f v i h).freeCtr = s.freeCtr :=
  (ev_wr (ev_refl 0x2 s) f v i h rfl).only .freeCtr rfl
@[simp] theorem wr_evt (s : State) (f : Fd) (v i : Nat) (h : Half) : (s.wr f v i h).evt = s.evt :=
  (ev_wr (ev_refl 0x2 s) f v i h rfl).only .evt rfl
@[simp] theorem wr_chan (s : State) (f : Fd) (v i : Nat) (h : Half) : (s.wr f v i h).chan = s.chan :=
  (ev_wr (ev_refl 0x2 s) f v i h rfl).only .chan rfl
@[simp] theorem wr_locks (s : State) (f : Fd) (v i : Nat) (h : Half) : (s.wr f v i h).locks = s.locks :=
  (ev_wr (ev_refl 0x2 s) f v i h rfl).only .locks rfl
@[simp] theorem wr_hub (s : State) (f : Fd) (v i : Nat) (h : Half) : (s.wr f v i h).hub = s.hub :=
  (ev_wr (ev_refl 0x2 s) f v i h rfl).only .hub rfl
@[simp] theorem wr_sched (s : State) (f : Fd) (v i : Nat) (h : Half) : (s.wr f v i h).sched = s.sched :=
  (ev_wr (ev_refl 0x2 s) f v i h rfl).only .sched rfl
@[simp] theorem wr_out (s : State) (f : Fd) (v i : Nat) (h : Half) : (s.wr f v i h).out = s.out :=
  (ev_wr (ev_refl 0x2 s) f v i h rfl).only .out rfl
@[simp] theorem wr_nv (s : State) (f : Fd) (v i : Nat) (h : Half) : (s.wr f v i h).nv = s.nv :=
  (ev_wr (ev_refl 0x2 s) f v i h rfl).only .nv rfl
@[simp] theorem wr_tr (s : State) (f : Fd) (v i : Nat) (h : Half) : (s.wr f v i h).tr = s.tr :=
  (ev_wr (ev_refl 0x2 s) f v i h rfl).only .tr rfl
@[simp] theorem wr_md (s : State) (f : Fd) (v i : Nat) (h : Half) : (s.wr f v i h).md = s.md :=
  (ev_wr (ev_refl 0x2 s) f v i h rfl).only .md rfl
@[simp] theorem wr_lg (s : State) (f : Fd) (v i : Nat) (h : Half) : (s.wr f v i h).lg = s.lg :=
  (ev_wr (ev_refl 0x2 s) f v i h rfl).only .lg rfl
@[simp] theorem wr_slots (s : State) (f : Fd) (v i : Nat) (h : Half) : (s.wr f v i h).slots = s.slots :=
  (ev_wr (ev_refl 0x2 s) f v i h rfl).only .slots rfl
@[simp] theorem wr_rg (s : State) (f : Fd) (v i : Nat) (h : Half) : (s.wr f v i h).rg = s.rg :=
  (ev_wr (ev_refl 0x2 s) f v i h rfl).only .rg rfl
@[simp] theorem wr_dr (s : State) (f : Fd) (v i : Nat) (h : Half) : (s.wr f v i h).dr = s.dr :=
  (ev_wr (ev_refl 0x2 s) f v i h rfl).only .dr rfl
@[simp] theorem wr_bf (s : State) (f : Fd) (v i : Nat) (h : Half) : (s.wr f v i h).bf = s.bf :=
  (ev_wr (ev_refl 0x2 s) f v i h rfl).only .bf rfl
@[simp] theorem wr_bt (s : State) (f : Fd) (v i : Nat) (h : Half) : (s.wr f v i h).bt = s.bt :=
  (ev_wr (ev_refl 0x2 s) f v i h rfl).only .bt rfl
@[simp] theorem wr_sv (s : State) (f : Fd) (v i : Nat) (h : Half) : (s.wr f v i h).sv = s.sv :=
  (ev_wr (ev_refl 0x2 s) f v i h rfl).only .sv rfl
@[simp] theorem wr_ts (s : State) (f : Fd) (v i : Nat) (h : Half) : (s.wr f v i h).ts = s.ts :=
  (ev_wr (ev_refl 0x2 s) f v i h rfl).only .ts rfl

@[simp] theorem count_pending (s : State) (f : Fd) (n i : Nat) (h : Half) : (s.count f n i h).pending = s.pending :=
  (ev_count (ev_refl 0x2 s) f n i h rfl).ev.pending
@[simp] theorem count_variant (s : State) (f : Fd) (n i : Nat) (h : Half) : (s.count f n i h).variant = s.variant :=
  (ev_count (ev_refl 0x2 s) f n i h rfl).ev.variant
@[simp] theorem count_time (s : State) (f : Fd) (n i : Nat) (h : Half) : (s.count f n i h).time = s.time :=
  (ev_count (ev_refl 0x2 s) f n i h rfl).only .time rfl
@[simp] theorem count_hi (s : State) (f : Fd) (n i : Nat) (h : Half) : (s.count f n i h).hi = s.hi :=
  (ev_count (ev_refl 0x2 s) f n i h rfl).only .hi rfl
@[simp] theorem count_readData (s : State) (f : Fd) (n i : Nat) (h : Half) : (s.count f n i h).readData = s.readData :=
  (ev_count (ev_refl 0x2 s) f n i h rfl).only .readData rfl
@[simp] theorem count_freeCtr (s : State) (f : Fd) (n i : Nat) (h : Half) : (s.count f n i h).freeCtr = s.freeCtr :=
  (ev_count (ev_refl 0x2 s) f n i h rfl).only .freeCtr rfl
@[simp] theorem count_evt (s : State) (f : Fd) (n i : Nat) (h : Half) : (s.count f n i h).evt = s.evt :=
  (ev_count (ev_refl 0x2 s) f n i h rfl).only .evt rfl
@[simp] theorem count_chan (s : State) (f : Fd) (n i : Nat) (h : Half) : (s.count f n i h).chan = s.chan :=
  (ev_count (ev_refl 0x2 s) f n i h rfl).only .chan rfl
@[simp] theorem count_locks (s : State) (f : Fd) (n i : Nat) (h : Half) : (s.count f n i h).locks = s.locks :=
  (ev_count (ev_refl 0x2 s) f n i h rfl).only .locks rfl
@[simp] theorem count_hub (s : State) (f : Fd) (n i : Nat) (h : Half) : (s.count f n i h).hub = s.hub :=
  (ev_count (ev_refl 0x2 s) f n i h rfl).only .hub rfl
@[simp] theorem count_sched (s : State) (f : Fd) (n i : Nat) (h : Half) : (s.count f n i h).sched = s.sched :=
  (ev_count (ev_refl 0x2 s) f n i h rfl).only .sched rfl
@[simp] theorem count_out (s : State) (f : Fd) (n i : Nat) (h : Half) : (s.count f n i h).out = s.out :=
  (ev_count (ev_refl 0x2 s) f n i h rfl).only .out rfl
@[simp] theorem count_nv (s : State) (f : Fd) (n i : Nat) (h : Half) : (s.count f n i h).nv = s.nv :=
  (ev_count (ev_refl 0x2 s) f n i h rfl).only .nv rfl
@[simp] theorem count_tr (s : State) (f : Fd) (n i : Nat) (h : Half) : (s.count f n i h).tr = s.tr :=
  (ev_count (ev_refl 0x2 s) f n i h rfl).only .tr rfl
@[simp] theorem count_md (s : State) (f : Fd) (n i : Nat) (h : Half) : (s.count f n i h).md = s.md :=
  (ev_count (ev_refl 0x2 s) f n i h rfl).only .md rfl
@[simp] theorem count_lg (s : State) (f : Fd) (n i : Nat) (h : Half) : (s.count f n i h).lg = s.lg :=
  (ev_count (ev_refl 0x2 s) f n i h rfl).only .lg rfl
@[simp] theorem count_slots (s : State) (f : Fd) (n i : Nat) (h : Half) : (s.count f n i h).slots = s.slots :=
  (ev_count (ev_refl 0x2 s) f n i h rfl).only .slots rfl
@[simp] theorem count_rg (s : State) (f : Fd) (n i : Nat) (h : Half) : (s.count f n i h).rg = s.rg :=
  (ev_count (ev_refl 0x2 s) f n i h rfl).only .rg rfl
@[simp] theorem count_dr (s : State) (f : Fd) (n i : Nat) (h : Half) : (s.count f n i h).dr = s.dr :=
  (ev_count (ev_refl 0x2 s) f n i h rfl).only .dr rfl
@[simp] theorem count_bf (s : State) (f : Fd) (n i : Nat) (h : Half) : (s.count f n i h).bf = s.bf :=
  (ev_count (ev_refl 0x2 s) f n i h rfl).only .bf rfl
@[simp] theorem count_bt (s : State) (f : Fd) (n i : Nat) (h : Half) : (s.count f n i h).bt = s.bt :=
  (ev_count (ev_refl 0x2 s) f n i h rfl).only .bt rfl
@[simp] theorem count_sv (s : State) (f : Fd) (n i : Nat) (h : Half) : (s.count f n i h).sv = s.sv :=
  (ev_count (ev_refl 0x2 s) f n i h rfl).only .sv rfl
@[simp] theorem count_ts (s : State) (f : Fd) (n i : Nat) (h : Half) : (s.count f n i h).ts = s.ts :=
  (ev_count (ev_refl 0x2 s) f n i h rfl).only .ts rfl

@[simp] theorem setReg_pending (s : State) (h : Half) (b off : Nat) (w : Word) : (s.setReg h b off w).pending = s.pending :=
  (ev_setReg (ev_refl 0x2 s) h b off w rfl).ev.pending
@[simp] theorem setReg_variant (s : State) (h : Half) (b off : Nat) (w : Word) : (s.setReg h b off w).variant = s.variant :=
  (ev_setReg (ev_refl 0x2 s) h b off w rfl).ev.variant
@[simp] theorem setReg_time (s : State) (h : Half) (b off : Nat) (w : Word) : (s.setReg h b off w).time = s.time :=
  (ev_setReg (ev_refl 0x2 s) h b off w rfl).only .time rfl
@[simp] theorem setReg_hi (s : State) (h : Half) (b off : Nat) (w : Word) : (s.setReg h b off w).hi = s.hi :=
  (ev_setReg (ev_refl 0x2 s) h b off w rfl).only .hi rfl
@[simp] theorem setReg_readData (s : State) (h : Half) (b off : Nat) (w : Word) : (s.setReg h b off w).readData = s.readData :=
  (ev_setReg (ev_refl 0x2 s) h b off w rfl).only .readData rfl
@[simp] theorem setReg_freeCtr (s : State) (h : Half) (b off : Nat) (w : Word) : (s.setReg h b off w).freeCtr = s.freeCtr :=
  (ev_setReg (ev_refl 0x2 s) h b off w rfl).only .freeCtr rfl
@[simp] theorem setReg_evt (s : State) (h : Half) (b off : Nat) (w : Word) : (s.setReg h b off w).evt = s.evt :=
  (ev_setReg (ev_refl 0x2 s) h b off w rfl).only .evt rfl
@[simp] theorem setReg_chan (s : State) (h : Half) (b off : Nat) (w : Word) : (s.setReg h b off w).chan = s.chan :=
  (ev_setReg (ev_refl 0x2 s) h b off w rfl).only .chan rfl
@[simp] theorem setReg_locks (s : State) (h : Half) (b off : Nat) (w : Word) : (s.setReg h b off w).locks = s.locks :=
  (ev_setReg (ev_refl 0x2 s) h b off w rfl).only .locks rfl
@[simp] theorem setReg_hub (s : State) (h : Half) (b off : Nat) (w : Word) : (s.setReg h b off w).hub = s.hub :=
  (ev_setReg (ev_refl 0x2 s) h b off w rfl).only .hub rfl
@[simp] theorem setReg_sched (s : State) (h : Half) (b off : Nat) (w : Word) : (s.setReg h b off w).sched = s.sched :=
  (ev_setReg (ev_refl 0x2 s) h b off w rfl).only .sched rfl
@[simp] theorem setReg_out (s : State) (h : Half) (b off : Nat) (w : Word) : (s.setReg h b off w).out = s.out :=
  (ev_setReg (ev_refl 0x2 s) h b off w rfl).only .out rfl
@[simp] theorem setReg_nv (s : State) (h : Half) (b off : Nat) (w : Word) : (s.setReg h b off w).nv = s.nv :=
  (ev_setReg (ev_refl 0x2 s) h b off w rfl).only .nv rfl
@[simp] theorem setReg_tr (s : State) (h : Half) (b off : Nat) (w : Word) : (s.setReg h b off w).tr = s.tr :=
  (ev_setReg (ev_refl 0x2 s) h b off w rfl).only .tr rfl
@[simp] theorem setReg_md (s : State) (h : Half) (b off : Nat) (w : Word) : (s.setReg h b off w).md = s.md :=
  (ev_setReg (ev_refl 0x2 s) h b off w rfl).only .md rfl
@[simp] theorem setReg_lg (s : State) (h : Half) (b off : Nat) (w : Word) : (s.setReg h b off w).lg = s.lg :=
  (ev_setReg (ev_refl 0x2 s) h b off w rfl).only .lg rfl
@[simp] theorem setReg_slots (s : State) (h : Half) (b off : Nat) (w : Word) : (s.setReg h b off w).slots = s.slots :=
  (ev_setReg (ev_refl 0x2 s) h b off w rfl).only .slots rfl
@[simp] theorem setReg_rg (s : State) (h : Half) (b off : Nat) (w : Word) : (s.setReg h b off w).rg = s.rg :=
  (ev_setReg (ev_refl 0x2 s) h b off w rfl).only .rg rfl
@[simp] theorem setReg_dr (s : State) (h : Half) (b off : Nat) (w : Word) : (s.setReg h b off w).dr = s.dr :=
  (ev_setReg (ev_refl 0x2 s) h b off w rfl).only .dr rfl
@[simp] theorem setReg_bf (s : State) (h : Half) (b off : Nat) (w : Word) : (s.setReg h b off w).bf = s.bf :=
  (ev_setReg (ev_refl 0x2 s) h b off w rfl).only .bf rfl
@[simp] theorem setReg_bt (s : State) (h : Half) (b off : Nat) (w : Word) : (s.setReg h b off w).bt = s.bt :=
  (ev_setReg (ev_refl 0x2 s) h b off w rfl).only .bt rfl
@[simp] theorem setReg_sv (s : State) (h : Half) (b off : Nat) (w : Word) : (s.setReg h b off w).sv = s.sv :=
  (ev_setReg (ev_refl 0x2 s) h b off w rfl).only .sv rfl
@[simp] theorem setReg_ts (s : State) (h : Half) (b off : Nat) (w : Word) : (s.setReg h b off w).ts = s.ts :=
  (ev_setReg (ev_refl 0x2 s) h b off w rfl).only .ts rfl

@[simp] theorem updHub_pending (s : State) (f : Hub → Hub) : (s.updHub f).pending = s.pending := rfl
@[simp] theorem updHub_variant (s : State) (f : Hub → Hub) : (s.updHub f).variant = s.variant := rfl
@[simp] theorem updHub_time (s : State) (f : Hub → Hub) : (s.updHub f).time = s.time := rfl
@[simp] theorem updHub_regs (s : State) (f : Hub → Hub) : (s.updHub f).regs = s.regs := rfl
@[simp] theorem updHub_hi (s : State) (f : Hub → Hub) : (s.updHub f).hi = s.hi := rfl
@[simp] theorem updHub_readData (s : State) (f : Hub → Hub) : (s.updHub f).readData = s.readData := rfl
@[simp] theorem updHub_freeCtr (s : State) (f : Hub → Hub) : (s.updHub f).freeCtr = s.freeCtr := rfl
@[simp] theorem updHub_evt (s : State) (f : Hub → Hub) : (s.updHub f).evt = s.evt := rfl
@[simp] theorem updHub_chan (s : State) (f : Hub → Hub) : (s.updHub f).chan = s.chan := rfl
@[simp] theorem updHub_locks (s : State) (f : Hub → Hub) : (s.updHub f).locks = s.locks := rfl
@[simp] theorem updHub_hub (s : State) (f : Hub → Hub) : (s.updHub f).hub = f s.hub := rfl
@[simp] theorem updHub_sched (s : State) (f : Hub → Hub) : (s.updHub f).sched = s.sched := rfl
@[simp] theorem updHub_out (s : State) (f : Hub → Hub) : (s.updHub f).out = s.out := rfl
@[simp] theorem updHub_nv (s : State) (f : Hub → Hub) : (s.updHub f).nv = s.nv := rfl
@[simp] theorem updHub_tr (s : State) (f : Hub → Hub) : (s.updHub f).tr = s.tr := rfl
@[simp] theorem updHub_md (s : State) (f : Hub → Hub) : (s.updHub f).md = s.md := rfl
@[simp] theorem updHub_lg (s : State) (f : Hub → Hub) : (s.updHub f).lg = s.lg := rfl
@[simp] theorem updHub_slots (s : State) (f : Hub → Hub) : (s.updHub f).slots = s.slots := rfl
@[simp] theorem updHub_rg (s : State) (f : Hub → Hub) : (s.updHub f).rg = s.rg := rfl
@[simp] theorem updHub_dr (s : State) (f : Hub → Hub) : (s.updHub f).dr = s.dr := rfl
@[simp] theorem updHub_bf (s : State) (f : Hub → Hub) : (s.updHub f).bf = s.bf := rfl
@[simp] theorem updHub_bt (s : State) (f : Hub → Hub) : (s.updHub f).bt = s.bt := rfl
@[simp] theorem updHub_sv (s : State) (f : Hub → Hub) : (s.updHub f).sv = s.sv := rfl
@[simp] theorem updHub_ts (s : State) (f : Hub → Hub) : (s.updHub f).ts = s.ts := rfl

@[simp] theorem updNv_pending (s : State) (f : Nvme → Nvme) : (s.updNv f).pending = s.pending := rfl
@[simp] theorem updNv_variant (s : State) (f : Nvme → Nvme) : (s.updNv f).variant = s.variant := rfl
@[simp] theorem updNv_time (s : State) (f : Nvme → Nvme) : (s.updNv f).time = s.time := rfl
@[simp] theorem updNv_regs (s : State) (f : Nvme → Nvme) : (s.updNv f).regs = s.regs := rfl
@[simp] theorem updNv_hi (s : State) (f : Nvme → Nvme) : (s.updNv f).hi = s.hi := rfl
@[simp] theorem updNv_readData (s : State) (f : Nvme → Nvme) : (s.updNv f).readData = s.readData := rfl
@[simp] theorem updNv_freeCtr (s : State) (f : Nvme → Nvme) : (s.updNv f).freeCtr = s.freeCtr := rfl
@[simp] theorem updNv_evt (s : State) (f : Nvme → Nvme) : (s.updNv f).evt = s.evt := rfl
@[simp] theorem updNv_chan (s : State) (f : Nvme → Nvme) : (s.updNv f).chan = s.chan := rfl
@[simp] theorem updNv_locks (s : State) (f : Nvme → Nvme) : (s.updNv f).locks = s.locks := rfl
@[simp] theorem updNv_hub (s : State) (f : Nvme → Nvme) : (s.updNv f).hub = s.hub := rfl
@[simp] theorem updNv_sched (s : State) (f : Nvme → Nvme) : (s.updNv f).sched = s.sched := rfl
@[simp] theorem updNv_out (s : State) (f : Nvme → Nvme) : (s.updNv f).out = s.out := rfl
@[simp] theorem updNv_nv (s : State) (f : Nvme → Nvme) : (s.updNv f).nv = f s.nv := rfl
@[simp] theorem updNv_tr (s : State) (f : Nvme → Nvme) : (s.updNv f).tr = s.tr := rfl
@[simp] theorem updNv_md (s : State) (f : Nvme → Nvme) : (s.updNv f).md = s.md := rfl
@[simp] theorem updNv_lg (s : State) (f : Nvme → Nvme) : (s.updNv f).lg = s.lg := rfl
@[simp] theorem updNv_slots (s : State) (f : Nvme → Nvme) : (s.updNv f).slots = s.slots := rfl
@[simp] theorem updNv_rg (s : State) (f : Nvme → Nvme) : (s.updNv f).rg = s.rg := rfl
@[simp] theorem updNv_dr (s : State) (f : Nvme → Nvme) : (s.updNv f).dr = s.dr := rfl
@[simp] theorem updNv_bf (s : State) (f : Nvme → Nvme) : (s.updNv f).bf = s.bf := rfl
@[simp] theorem updNv_bt (s : State) (f : Nvme → Nvme) : (s.updNv f).bt = s.bt := rfl
@[simp] theorem updNv_sv (s : State) (f : Nvme → Nvme) : (s.updNv f).sv = s.sv := rfl
@[simp] theorem updNv_ts (s : State) (f : Nvme → Nvme) : (s.updNv f).ts = s.ts := rfl

@[simp] theorem updTr_pending (s : State) (f : Trans → Trans) : (s.updTr f).pending = s.pending := rfl
@[simp] theorem updTr_variant (s : State) (f : Trans → Trans) : (s.updTr f).variant = s.variant := rfl
@[simp] theorem updTr_time (s : State) (f : Trans → Trans) : (s.updTr f).time = s.time := rfl
@[simp] theorem updTr_regs (s : State) (f : Trans → Trans) : (s.updTr f).regs = s.regs := rfl
@[simp] theorem updTr_hi (s : State) (f : Trans → Trans) : (s.updTr f).hi = s.hi := rfl
@[simp] theorem updTr_readData (s : State) (f : Trans → Trans) : (s.updTr f).readData = s.readData := rfl
@[simp] theorem updTr_freeCtr (s : State) (f : Trans → Trans) : (s.updTr f).freeCtr = s.freeCtr := rfl
@[simp] theorem updTr_evt (s : State) (f : Trans → Trans) : (s.updTr f).evt = s.evt := rfl
@[simp] theorem updTr_chan (s : State) (f : Trans → Trans) : (s.updTr f).chan = s.chan := rfl
@[simp] theorem updTr_locks (s : State) (f : Trans → Trans) : (s.updTr f).locks = s.locks := rfl
@[simp] theorem updTr_hub (s : State) (f : Trans → Trans) : (s.updTr f).hub = s.hub := rfl
@[simp] theorem updTr_sched (s : State) (f : Trans → Trans) : (s.updTr f).sched = s.sched := rfl
@[simp] theorem updTr_out (s : State) (f : Trans → Trans) : (s.updTr f).out = s.out := rfl
@[simp] theorem updTr_nv (s : State) (f : Trans → Trans) : (s.updTr f).nv = s.nv := rfl
@[simp] theorem updTr_tr (s : State) (f : Trans → Trans) : (s.updTr f).tr = f s.tr := rfl
@[simp] theorem updTr_md (s : State) (f : Trans → Trans) : (s.updTr f).md = s.md := rfl
@[simp] theorem updTr_lg (s : State) (f : Trans → Trans) : (s.updTr f).lg = s.lg := rfl
@[simp] theorem updTr_slots (s : State) (f : Trans → Trans) : (s.updTr f).slots = s.slots := rfl
@[simp] theorem updTr_rg (s : State) (f : Trans → Trans) : (s.updTr f).rg = s.rg := rfl
@[simp] theorem updTr_dr (s : State) (f : Trans → Trans) : (s.updTr f).dr = s.dr := rfl
@[simp] theorem updTr_bf (s : State) (f : Trans → Trans) : (s.updTr f).bf = s.bf := rfl
@[simp] theorem updTr_bt (s : State) (f : Trans → Trans) : (s.updTr f).bt = s.bt := rfl
@[simp] theorem updTr_sv (s : State) (f : Trans → Trans) : (s.updTr f).sv = s.sv := rfl
@[simp] theorem updTr_ts (s : State) (f : Trans → Trans) : (s.updTr f).ts = s.ts := rfl

@[simp] theorem updMd_pending (s : State) (f : Media → Media) : (s.updMd f).pending = s.pending := rfl
@[simp] theorem updMd_variant (s : State) (f : Media → Media) : (s.updMd f).variant = s.variant := rfl
@[simp] theorem updMd_time (s : State) (f : Media → Media) : (s.updMd f).time = s.time := rfl
@[simp] theorem updMd_regs (s : State) (f : Media → Media) : (s.updMd f).regs = s.regs := rfl
@[simp] theorem updMd_hi (s : State) (f : Media → Media) : (s.updMd f).hi = s.hi := rfl
@[simp] theorem updMd_readData (s : State) (f : Media → Media) : (s.updMd f).readData = s.readData := rfl
@[simp] theorem updMd_freeCtr (s : State) (f : Media → Media) : (s.updMd f).freeCtr = s.freeCtr := rfl
@[simp] theorem updMd_evt (s : State) (f : Media → Media) : (s.updMd f).evt = s.evt := rfl
@[simp] theorem updMd_chan (s : State) (f : Media → Media) : (s.updMd f).chan = s.chan := rfl
@[simp] theorem updMd_locks (s : State) (f : Media → Media) : (s.updMd f).locks = s.locks := rfl
@[simp] theorem updMd_hub (s : State) (f : Media → Media) : (s.updMd f).hub = s.hub := rfl
@[simp] theorem updMd_sched (s : State) (f : Media → Media) : (s.updMd f).sched = s.sched := rfl
@[simp] theorem updMd_out (s : State) (f : Media → Media) : (s.updMd f).out = s.out := rfl
@[simp] theorem updMd_nv (s : State) (f : Media → Media) : (s.updMd f).nv = s.nv := rfl
@[simp] theorem updMd_tr (s : State) (f : Media → Media) : (s.updMd f).tr = s.tr := rfl
@[simp] theorem updMd_md (s : State) (f : Media → Media) : (s.updMd f).md = f s.md := rfl
@[simp] theorem updMd_lg (s : State) (f : Media → Media) : (s.updMd f).lg = s.lg := rfl
@[simp] theorem updMd_slots (s : State) (f : Media → Media) : (s.updMd f).slots = s.slots := rfl
@[simp] theorem updMd_rg (s : State) (f : Media → Media) : (s.updMd f).rg = s.rg := rfl
@[simp] theorem updMd_dr (s : State) (f : Media → Media) : (s.updMd f).dr = s.dr := rfl
@[simp] theorem updMd_bf (s : State) (f : Media → Media) : (s.updMd f).bf = s.bf := rfl
@[simp] theorem updMd_bt (s : State) (f : Media → Media) : (s.updMd f).bt = s.bt := rfl
@[simp] theorem updMd_sv (s : State) (f : Media → Media) : (s.updMd f).sv = s.sv := rfl
@[simp] theorem updMd_ts (s : State) (f : Media → Media) : (s.updMd f).ts = s.ts := rfl

@[simp] theorem updLg_pending (s : State) (f : Ledger → Ledger) : (s.updLg f).pending = s.pending := rfl
@[simp] theorem updLg_variant (s : State) (f : Ledger → Ledger) : (s.updLg f).variant = s.variant := rfl
@[simp] theorem updLg_time (s : State) (f : Ledger → Ledger) : (s.updLg f).time = s.time := rfl
@[simp] theorem updLg_regs (s : State) (f : Ledger → Ledger) : (s.updLg f).regs = s.regs := rfl
@[simp] theorem updLg_hi (s : State) (f : Ledger → Ledger) : (s.updLg f).hi = s.hi := rfl
@[simp] theorem updLg_readData (s : State) (f : Ledger → Ledger) : (s.updLg f).readData = s.readData := rfl
@[simp] theorem updLg_freeCtr (s : State) (f : Ledger → Ledger) : (s.updLg f).freeCtr = s.freeCtr := rfl
@[simp] theorem updLg_evt (s : State) (f : Ledger → Ledger) : (s.updLg f).evt = s.evt := rfl
@[simp] theorem updLg_chan (s : State) (f : Ledger → Ledger) : (s.updLg f).chan = s.chan := rfl
@[simp] theorem updLg_locks (s : State) (f : Ledger → Ledger) : (s.updLg f).locks = s.locks := rfl
@[simp] theorem updLg_hub (s : State) (f : Ledger → Ledger) : (s.updLg f).hub = s.hub := rfl
@[simp] theorem updLg_sched (s : State) (f : Ledger → Ledger) : (s.updLg f).sched = s.sched := rfl
@[simp] theorem updLg_out (s : State) (f : Ledger → Ledger) : (s.updLg f).out = s.out := rfl
@[simp] theorem updLg_nv (s : State) (f : Ledger → Ledger) : (s.updLg f).nv = s.nv := rfl
@[simp] theorem updLg_tr (s : State) (f : Ledger → Ledger) : (s.updLg f).tr = s.tr := rfl
@[simp] theorem updLg_md (s : State) (f : Ledger → Ledger) : (s.updLg f).md = s.md := rfl
@[simp] theorem updLg_lg (s : State) (f : Ledger → Ledger) : (s.updLg f).lg = f s.lg := rfl
@[simp] theorem updLg_slots (s : State) (f : Ledger → Ledger) : (s.updLg f).slots = s.slots := rfl
@[simp] theorem updLg_rg (s : State) (f : Ledger → Ledger) : (s.updLg f).rg = s.rg := rfl
@[simp] theorem updLg_dr (s : State) (f : Ledger → Ledger) : (s.updLg f).dr = s.dr := rfl
@[simp] theorem updLg_bf (s : State) (f : Ledger → Ledger) : (s.updLg f).bf = s.bf := rfl
@[simp] theorem updLg_bt (s : State) (f : Ledger → Ledger) : (s.updLg f).bt = s.bt := rfl
@[simp] theorem updLg_sv (s : State) (f : Ledger → Ledger) : (s.updLg f).sv = s.sv := rfl
@[simp] theorem updLg_ts (s : State) (f : Ledger → Ledger) : (s.updLg f).ts = s.ts := rfl

@[simp] theorem updRg_pending (s : State) (f : Regul → Regul) : (s.updRg f).pending = s.pending := rfl
@[simp] theorem updRg_variant (s : State) (f : Regul → Regul) : (s.updRg f).variant = s.variant := rfl
@[simp] theorem updRg_time (s : State) (f : Regul → Regul) : (s.updRg f).time = s.time := rfl
@[simp] theorem updRg_regs (s : State) (f : Regul → Regul) : (s.updRg f).regs = s.regs := rfl
@[simp] theorem updRg_hi (s : State) (f : Regul → Regul) : (s.updRg f).hi = s.hi := rfl
@[simp] theorem updRg_readData (s : State) (f : Regul → Regul) : (s.updRg f).readData = s.readData := rfl
@[simp] theorem updRg_freeCtr (s : State) (f : Regul → Regul) : (s.updRg f).freeCtr = s.freeCtr := rfl
@[simp] theorem updRg_evt (s : State) (f : Regul → Regul) : (s.updRg f).evt = s.evt := rfl
@[simp] theorem updRg_chan (s : State) (f : Regul → Regul) : (s.updRg f).chan = s.chan := rfl
@[simp] theorem updRg_locks (s : State) (f : Regul → Regul) : (s.updRg f).locks = s.locks := rfl
@[simp] theorem updRg_hub (s : State) (f : Regul → Regul) : (s.updRg f).hub = s.hub := rfl
@[simp] theorem updRg_sched (s : State) (f : Regul → Regul) : (s.updRg f).sched = s.sched := rfl
@[simp] theorem updRg_out (s : State) (f : Regul → Regul) : (s.updRg f).out = s.out := rfl
@[simp] theorem updRg_nv (s : State) (f : Regul → Regul) : (s.updRg f).nv = s.nv := rfl
@[simp] theorem updRg_tr (s : State) (f : Regul → Regul) : (s.updRg f).tr = s.tr := rfl
@[simp] theorem updRg_md (s : State) (f : Regul → Regul) : (s.updRg f).md = s.md := rfl
@[simp] theorem updRg_lg (s : State) (f : Regul → Regul) : (s.updRg f).lg = s.lg := rfl
@[simp] theorem updRg_slots (s : State) (f : Regul → Regul) : (s.updRg f).slots = s.slots := rfl
@[simp] theorem updRg_rg (s : State) (f : Regul → Regul) : (s.updRg f).rg = f s.rg := rfl
@[simp] theorem updRg_dr (s : State) (f : Regul → Regul) : (s.updRg f).dr = s.dr := rfl
@[simp] theorem updRg_bf (s : State) (f : Regul → Regul) : (s.updRg f).bf = s.bf := rfl
@[simp] theorem updRg_bt (s : State) (f : Regul → Regul) : (s.updRg f).bt = s.bt := rfl
@[simp] theorem updRg_sv (s : State) (f : Regul → Regul) : (s.updRg f).sv = s.sv := rfl
@[simp] theorem updRg_ts (s : State) (f : Regul → Regul) : (s.updRg f).ts = s.ts := rfl

@[simp] theorem updDr_pending (s : State) (f : Dram → Dram) : (s.updDr f).pending = s.pending := rfl
@[simp] theorem updDr_variant (s : State) (f : Dram → Dram) : (s.updDr f).variant = s.variant := rfl
@[simp] theorem updDr_time (s : State) (f : Dram → Dram) : (s.updDr f).time = s.time := rfl
@[simp] theorem updDr_regs (s : State) (f : Dram → Dram) : (s.updDr f).regs = s.regs := rfl
@[simp] theorem updDr_hi (s : State) (f : Dram → Dram) : (s.updDr f).hi = s.hi := rfl
@[simp] theorem updDr_readData (s : State) (f : Dram → Dram) : (s.updDr f).readData = s.readData := rfl
@[simp] theorem updDr_freeCtr (s : State) (f : Dram → Dram) : (s.updDr f).freeCtr = s.freeCtr := rfl
@[simp] theorem updDr_evt (s : State) (f : Dram → Dram) : (s.updDr f).evt = s.evt := rfl
@[simp] theorem updDr_chan (s : State) (f : Dram → Dram) : (s.updDr f).chan = s.chan := rfl
@[simp] theorem updDr_locks (s : State) (f : Dram → Dram) : (s.updDr f).locks = s.locks := rfl
@[simp] theorem updDr_hub (s : State) (f : Dram → Dram) : (s.updDr f).hub = s.hub := rfl
@[simp] theorem updDr_sched (s : State) (f : Dram → Dram) : (s.updDr f).sched = s.sched := rfl
@[simp] theorem updDr_out (s : State) (f : Dram → Dram) : (s.updDr f).out = s.out := rfl
@[simp] theorem updDr_nv (s : State) (f : Dram → Dram) : (s.updDr f).nv = s.nv := rfl
@[simp] theorem updDr_tr (s : State) (f : Dram → Dram) : (s.updDr f).tr = s.tr := rfl
@[simp] theorem updDr_md (s : State) (f : Dram → Dram) : (s.updDr f).md = s.md := rfl
@[simp] theorem updDr_lg (s : State) (f : Dram → Dram) : (s.updDr f).lg = s.lg := rfl
@[simp] theorem updDr_slots (s : State) (f : Dram → Dram) : (s.updDr f).slots = s.slots := rfl
@[simp] theorem updDr_rg (s : State) (f : Dram → Dram) : (s.updDr f).rg = s.rg := rfl
@[simp] theorem updDr_dr (s : State) (f : Dram → Dram) : (s.updDr f).dr = f s.dr := rfl
@[simp] theorem updDr_bf (s : State) (f : Dram → Dram) : (s.updDr f).bf = s.bf := rfl
@[simp] theorem updDr_bt (s : State) (f : Dram → Dram) : (s.updDr f).bt = s.bt := rfl
@[simp] theorem updDr_sv (s : State) (f : Dram → Dram) : (s.updDr f).sv = s.sv := rfl
@[simp] theorem updDr_ts (s : State) (f : Dram → Dram) : (s.updDr f).ts = s.ts := rfl

@[simp] theorem updBt_pending (s : State) (f : Boot → Boot) : (s.updBt f).pending = s.pending := rfl
@[simp] theorem updBt_variant (s : State) (f : Boot → Boot) : (s.updBt f).variant = s.variant := rfl
@[simp] theorem updBt_time (s : State) (f : Boot → Boot) : (s.updBt f).time = s.time := rfl
@[simp] theorem updBt_regs (s : State) (f : Boot → Boot) : (s.updBt f).regs = s.regs := rfl
@[simp] theorem updBt_hi (s : State) (f : Boot → Boot) : (s.updBt f).hi = s.hi := rfl
@[simp] theorem updBt_readData (s : State) (f : Boot → Boot) : (s.updBt f).readData = s.readData := rfl
@[simp] theorem updBt_freeCtr (s : State) (f : Boot → Boot) : (s.updBt f).freeCtr = s.freeCtr := rfl
@[simp] theorem updBt_evt (s : State) (f : Boot → Boot) : (s.updBt f).evt = s.evt := rfl
@[simp] theorem updBt_chan (s : State) (f : Boot → Boot) : (s.updBt f).chan = s.chan := rfl
@[simp] theorem updBt_locks (s : State) (f : Boot → Boot) : (s.updBt f).locks = s.locks := rfl
@[simp] theorem updBt_hub (s : State) (f : Boot → Boot) : (s.updBt f).hub = s.hub := rfl
@[simp] theorem updBt_sched (s : State) (f : Boot → Boot) : (s.updBt f).sched = s.sched := rfl
@[simp] theorem updBt_out (s : State) (f : Boot → Boot) : (s.updBt f).out = s.out := rfl
@[simp] theorem updBt_nv (s : State) (f : Boot → Boot) : (s.updBt f).nv = s.nv := rfl
@[simp] theorem updBt_tr (s : State) (f : Boot → Boot) : (s.updBt f).tr = s.tr := rfl
@[simp] theorem updBt_md (s : State) (f : Boot → Boot) : (s.updBt f).md = s.md := rfl
@[simp] theorem updBt_lg (s : State) (f : Boot → Boot) : (s.updBt f).lg = s.lg := rfl
@[simp] theorem updBt_slots (s : State) (f : Boot → Boot) : (s.updBt f).slots = s.slots := rfl
@[simp] theorem updBt_rg (s : State) (f : Boot → Boot) : (s.updBt f).rg = s.rg := rfl
@[simp] theorem updBt_dr (s : State) (f : Boot → Boot) : (s.updBt f).dr = s.dr := rfl
@[simp] theorem updBt_bf (s : State) (f : Boot → Boot) : (s.updBt f).bf = s.bf := rfl
@[simp] theorem updBt_bt (s : State) (f : Boot → Boot) : (s.updBt f).bt = f s.bt := rfl
@[simp] theorem updBt_sv (s : State) (f : Boot → Boot) : (s.updBt f).sv = s.sv := rfl
@[simp] theorem updBt_ts (s : State) (f : Boot → Boot) : (s.updBt f).ts = s.ts := rfl

@[simp] theorem updSv_pending (s : State) (f : Svc → Svc) : (s.updSv f).pending = s.pending := rfl
@[simp] theorem updSv_variant (s : State) (f : Svc → Svc) : (s.updSv f).variant = s.variant := rfl
@[simp] theorem updSv_time (s : State) (f : Svc → Svc) : (s.updSv f).time = s.time := rfl
@[simp] theorem updSv_regs (s : State) (f : Svc → Svc) : (s.updSv f).regs = s.regs := rfl
@[simp] theorem updSv_hi (s : State) (f : Svc → Svc) : (s.updSv f).hi = s.hi := rfl
@[simp] theorem updSv_readData (s : State) (f : Svc → Svc) : (s.updSv f).readData = s.readData := rfl
@[simp] theorem updSv_freeCtr (s : State) (f : Svc → Svc) : (s.updSv f).freeCtr = s.freeCtr := rfl
@[simp] theorem updSv_evt (s : State) (f : Svc → Svc) : (s.updSv f).evt = s.evt := rfl
@[simp] theorem updSv_chan (s : State) (f : Svc → Svc) : (s.updSv f).chan = s.chan := rfl
@[simp] theorem updSv_locks (s : State) (f : Svc → Svc) : (s.updSv f).locks = s.locks := rfl
@[simp] theorem updSv_hub (s : State) (f : Svc → Svc) : (s.updSv f).hub = s.hub := rfl
@[simp] theorem updSv_sched (s : State) (f : Svc → Svc) : (s.updSv f).sched = s.sched := rfl
@[simp] theorem updSv_out (s : State) (f : Svc → Svc) : (s.updSv f).out = s.out := rfl
@[simp] theorem updSv_nv (s : State) (f : Svc → Svc) : (s.updSv f).nv = s.nv := rfl
@[simp] theorem updSv_tr (s : State) (f : Svc → Svc) : (s.updSv f).tr = s.tr := rfl
@[simp] theorem updSv_md (s : State) (f : Svc → Svc) : (s.updSv f).md = s.md := rfl
@[simp] theorem updSv_lg (s : State) (f : Svc → Svc) : (s.updSv f).lg = s.lg := rfl
@[simp] theorem updSv_slots (s : State) (f : Svc → Svc) : (s.updSv f).slots = s.slots := rfl
@[simp] theorem updSv_rg (s : State) (f : Svc → Svc) : (s.updSv f).rg = s.rg := rfl
@[simp] theorem updSv_dr (s : State) (f : Svc → Svc) : (s.updSv f).dr = s.dr := rfl
@[simp] theorem updSv_bf (s : State) (f : Svc → Svc) : (s.updSv f).bf = s.bf := rfl
@[simp] theorem updSv_bt (s : State) (f : Svc → Svc) : (s.updSv f).bt = s.bt := rfl
@[simp] theorem updSv_sv (s : State) (f : Svc → Svc) : (s.updSv f).sv = f s.sv := rfl
@[simp] theorem updSv_ts (s : State) (f : Svc → Svc) : (s.updSv f).ts = s.ts := rfl

@[simp] theorem updEvt_pending (s : State) (f : Evt → Evt) : (s.updEvt f).pending = s.pending := rfl
@[simp] theorem updEvt_variant (s : State) (f : Evt → Evt) : (s.updEvt f).variant = s.variant := rfl
@[simp] theorem updEvt_time (s : State) (f : Evt → Evt) : (s.updEvt f).time = s.time := rfl
@[simp] theorem updEvt_regs (s : State) (f : Evt → Evt) : (s.updEvt f).regs = s.regs := rfl
@[simp] theorem updEvt_hi (s : State) (f : Evt → Evt) : (s.updEvt f).hi = s.hi := rfl
@[simp] theorem updEvt_readData (s : State) (f : Evt → Evt) : (s.updEvt f).readData = s.readData := rfl
@[simp] theorem updEvt_freeCtr (s : State) (f : Evt → Evt) : (s.updEvt f).freeCtr = s.freeCtr := rfl
@[simp] theorem updEvt_evt (s : State) (f : Evt → Evt) : (s.updEvt f).evt = f s.evt := rfl
@[simp] theorem updEvt_chan (s : State) (f : Evt → Evt) : (s.updEvt f).chan = s.chan := rfl
@[simp] theorem updEvt_locks (s : State) (f : Evt → Evt) : (s.updEvt f).locks = s.locks := rfl
@[simp] theorem updEvt_hub (s : State) (f : Evt → Evt) : (s.updEvt f).hub = s.hub := rfl
@[simp] theorem updEvt_sched (s : State) (f : Evt → Evt) : (s.updEvt f).sched = s.sched := rfl
@[simp] theorem updEvt_out (s : State) (f : Evt → Evt) : (s.updEvt f).out = s.out := rfl
@[simp] theorem updEvt_nv (s : State) (f : Evt → Evt) : (s.updEvt f).nv = s.nv := rfl
@[simp] theorem updEvt_tr (s : State) (f : Evt → Evt) : (s.updEvt f).tr = s.tr := rfl
@[simp] theorem updEvt_md (s : State) (f : Evt → Evt) : (s.updEvt f).md = s.md := rfl
@[simp] theorem updEvt_lg (s : State) (f : Evt → Evt) : (s.updEvt f).lg = s.lg := rfl
@[simp] theorem updEvt_slots (s : State) (f : Evt → Evt) : (s.updEvt f).slots = s.slots := rfl
@[simp] theorem updEvt_rg (s : State) (f : Evt → Evt) : (s.updEvt f).rg = s.rg := rfl
@[simp] theorem updEvt_dr (s : State) (f : Evt → Evt) : (s.updEvt f).dr = s.dr := rfl
@[simp] theorem updEvt_bf (s : State) (f : Evt → Evt) : (s.updEvt f).bf = s.bf := rfl
@[simp] theorem updEvt_bt (s : State) (f : Evt → Evt) : (s.updEvt f).bt = s.bt := rfl
@[simp] theorem updEvt_sv (s : State) (f : Evt → Evt) : (s.updEvt f).sv = s.sv := rfl
@[simp] theorem updEvt_ts (s : State) (f : Evt → Evt) : (s.updEvt f).ts = s.ts := rfl

@[simp] theorem updSched_pending (s : State) (f : Sched → Sched) : (s.updSched f).pending = s.pending := rfl
@[simp] theorem updSched_variant (s : State) (f : Sched → Sched) : (s.updSched f).variant = s.variant := rfl
@[simp] theorem updSched_time (s : State) (f : Sched → Sched) : (s.updSched f).time = s.time := rfl
@[simp] theorem updSched_regs (s : State) (f : Sched → Sched) : (s.updSched f).regs = s.regs := rfl
@[simp] theorem updSched_hi (s : State) (f : Sched → Sched) : (s.updSched f).hi = s.hi := rfl
@[simp] theorem updSched_readData (s : State) (f : Sched → Sched) : (s.updSched f).readData = s.readData := rfl
@[simp] theorem updSched_freeCtr (s : State) (f : Sched → Sched) : (s.updSched f).freeCtr = s.freeCtr := rfl
@[simp] theorem updSched_evt (s : State) (f : Sched → Sched) : (s.updSched f).evt = s.evt := rfl
@[simp] theorem updSched_chan (s : State) (f : Sched → Sched) : (s.updSched f).chan = s.chan := rfl
@[simp] theorem updSched_locks (s : State) (f : Sched → Sched) : (s.updSched f).locks = s.locks := rfl
@[simp] theorem updSched_hub (s : State) (f : Sched → Sched) : (s.updSched f).hub = s.hub := rfl
@[simp] theorem updSched_sched (s : State) (f : Sched → Sched) : (s.updSched f).sched = f s.sched := rfl
@[simp] theorem updSched_out (s : State) (f : Sched → Sched) : (s.updSched f).out = s.out := rfl
@[simp] theorem updSched_nv (s : State) (f : Sched → Sched) : (s.updSched f).nv = s.nv := rfl
@[simp] theorem updSched_tr (s : State) (f : Sched → Sched) : (s.updSched f).tr = s.tr := rfl
@[simp] theorem updSched_md (s : State) (f : Sched → Sched) : (s.updSched f).md = s.md := rfl
@[simp] theorem updSched_lg (s : State) (f : Sched → Sched) : (s.updSched f).lg = s.lg := rfl
@[simp] theorem updSched_slots (s : State) (f : Sched → Sched) : (s.updSched f).slots = s.slots := rfl
@[simp] theorem updSched_rg (s : State) (f : Sched → Sched) : (s.updSched f).rg = s.rg := rfl
@[simp] theorem updSched_dr (s : State) (f : Sched → Sched) : (s.updSched f).dr = s.dr := rfl
@[simp] theorem updSched_bf (s : State) (f : Sched → Sched) : (s.updSched f).bf = s.bf := rfl
@[simp] theorem updSched_bt (s : State) (f : Sched → Sched) : (s.updSched f).bt = s.bt := rfl
@[simp] theorem updSched_sv (s : State) (f : Sched → Sched) : (s.updSched f).sv = s.sv := rfl
@[simp] theorem updSched_ts (s : State) (f : Sched → Sched) : (s.updSched f).ts = s.ts := rfl

@[simp] theorem emit_pending (s : State) (o : Out) : (s.emit o).pending = s.pending := rfl
@[simp] theorem emit_variant (s : State) (o : Out) : (s.emit o).variant = s.variant := rfl
@[simp] theorem emit_time (s : State) (o : Out) : (s.emit o).time = s.time := rfl
@[simp] theorem emit_regs (s : State) (o : Out) : (s.emit o).regs = s.regs := rfl
@[simp] theorem emit_hi (s : State) (o : Out) : (s.emit o).hi = s.hi := rfl
@[simp] theorem emit_readData (s : State) (o : Out) : (s.emit o).readData = s.readData := rfl
@[simp] theorem emit_freeCtr (s : State) (o : Out) : (s.emit o).freeCtr = s.freeCtr := rfl
@[simp] theorem emit_evt (s : State) (o : Out) : (s.emit o).evt = s.evt := rfl
@[simp] theorem emit_chan (s : State) (o : Out) : (s.emit o).chan = s.chan := rfl
@[simp] theorem emit_locks (s : State) (o : Out) : (s.emit o).locks = s.locks := rfl
@[simp] theorem emit_hub (s : State) (o : Out) : (s.emit o).hub = s.hub := rfl
@[simp] theorem emit_sched (s : State) (o : Out) : (s.emit o).sched = s.sched := rfl
@[simp] theorem emit_out (s : State) (o : Out) : (s.emit o).out = s.out ++ [o] := rfl
@[simp] theorem emit_nv (s : State) (o : Out) : (s.emit o).nv = s.nv := rfl
@[simp] theorem emit_tr (s : State) (o : Out) : (s.emit o).tr = s.tr := rfl
@[simp] theorem emit_md (s : State) (o : Out) : (s.emit o).md = s.md := rfl
@[simp] theorem emit_lg (s : State) (o : Out) : (s.emit o).lg = s.lg := rfl
@[simp] theorem emit_slots (s : State) (o : Out) : (s.emit o).slots = s.slots := rfl
@[simp] theorem emit_rg (s : State) (o : Out) : (s.emit o).rg = s.rg := rfl
@[simp] theorem emit_dr (s : State) (o : Out) : (s.emit o).dr = s.dr := rfl
@[simp] theorem emit_bf (s : State) (o : Out) : (s.emit o).bf = s.bf := rfl
@[simp] theorem emit_bt (s : State) (o : Out) : (s.emit o).bt = s.bt := rfl
@[simp] theorem emit_sv (s : State) (o : Out) : (s.emit o).sv = s.sv := rfl
@[simp] theorem emit_ts (s : State) (o : Out) : (s.emit o).ts = s.ts := rfl

@[simp] theorem updTs_pending (s : State) (f : TestRun → TestRun) : (s.updTs f).pending = s.pending := rfl
@[simp] theorem updTs_variant (s : State) (f : TestRun → TestRun) : (s.updTs f).variant = s.variant := rfl
@[simp] theorem updTs_time (s : State) (f : TestRun → TestRun) : (s.updTs f).time = s.time := rfl
@[simp] theorem updTs_regs (s : State) (f : TestRun → TestRun) : (s.updTs f).regs = s.regs := rfl
@[simp] theorem updTs_hi (s : State) (f : TestRun → TestRun) : (s.updTs f).hi = s.hi := rfl
@[simp] theorem updTs_readData (s : State) (f : TestRun → TestRun) : (s.updTs f).readData = s.readData := rfl
@[simp] theorem updTs_freeCtr (s : State) (f : TestRun → TestRun) : (s.updTs f).freeCtr = s.freeCtr := rfl
@[simp] theorem updTs_evt (s : State) (f : TestRun → TestRun) : (s.updTs f).evt = s.evt := rfl
@[simp] theorem updTs_chan (s : State) (f : TestRun → TestRun) : (s.updTs f).chan = s.chan := rfl
@[simp] theorem updTs_locks (s : State) (f : TestRun → TestRun) : (s.updTs f).locks = s.locks := rfl
@[simp] theorem updTs_hub (s : State) (f : TestRun → TestRun) : (s.updTs f).hub = s.hub := rfl
@[simp] theorem updTs_sched (s : State) (f : TestRun → TestRun) : (s.updTs f).sched = s.sched := rfl
@[simp] theorem updTs_out (s : State) (f : TestRun → TestRun) : (s.updTs f).out = s.out := rfl
@[simp] theorem updTs_nv (s : State) (f : TestRun → TestRun) : (s.updTs f).nv = s.nv := rfl
@[simp] theorem updTs_tr (s : State) (f : TestRun → TestRun) : (s.updTs f).tr = s.tr := rfl
@[simp] theorem updTs_md (s : State) (f : TestRun → TestRun) : (s.updTs f).md = s.md := rfl
@[simp] theorem updTs_lg (s : State) (f : TestRun → TestRun) : (s.updTs f).lg = s.lg := rfl
@[simp] theorem updTs_slots (s : State) (f : TestRun → TestRun) : (s.updTs f).slots = s.slots := rfl
@[simp] theorem updTs_rg (s : State) (f : TestRun → TestRun) : (s.updTs f).rg = s.rg := rfl
@[simp] theorem updTs_dr (s : State) (f : TestRun → TestRun) : (s.updTs f).dr = s.dr := rfl
@[simp] theorem updTs_bf (s : State) (f : TestRun → TestRun) : (s.updTs f).bf = s.bf := rfl
@[simp] theorem updTs_bt (s : State) (f : TestRun → TestRun) : (s.updTs f).bt = s.bt := rfl
@[simp] theorem updTs_sv (s : State) (f : TestRun → TestRun) : (s.updTs f).sv = s.sv := rfl
@[simp] theorem updTs_ts (s : State) (f : TestRun → TestRun) : (s.updTs f).ts = s.ts.map f := rfl

@[simp] theorem updFn_pending (s : State) (g : Nat) (f : Fn → Fn) : (s.updFn g f).pending = s.pending := rfl
@[simp] theorem updFn_variant (s : State) (g : Nat) (f : Fn → Fn) : (s.updFn g f).variant = s.variant := rfl
@[simp] theorem updFn_time (s : State) (g : Nat) (f : Fn → Fn) : (s.updFn g f).time = s.time := rfl
@[simp] theorem updFn_regs (s : State) (g : Nat) (f : Fn → Fn) : (s.updFn g f).regs = s.regs := rfl
@[simp] theorem updFn_hi (s : State) (g : Nat) (f : Fn → Fn) : (s.updFn g f).hi = s.hi := rfl
@[simp] theorem updFn_readData (s : State) (g : Nat) (f : Fn → Fn) : (s.updFn g f).readData = s.readData := rfl
@[simp] theorem updFn_freeCtr (s : State) (g : Nat) (f : Fn → Fn) : (s.updFn g f).freeCtr = s.freeCtr := rfl
@[simp] theorem updFn_evt (s : State) (g : Nat) (f : Fn → Fn) : (s.updFn g f).evt = s.evt := rfl
@[simp] theorem updFn_chan (s : State) (g : Nat) (f : Fn → Fn) : (s.updFn g f).chan = s.chan := rfl
@[simp] theorem updFn_locks (s : State) (g : Nat) (f : Fn → Fn) : (s.updFn g f).locks = s.locks := rfl
@[simp] theorem updFn_hub (s : State) (g : Nat) (f : Fn → Fn) : (s.updFn g f).hub = s.hub := rfl
@[simp] theorem updFn_sched (s : State) (g : Nat) (f : Fn → Fn) : (s.updFn g f).sched = s.sched := rfl
@[simp] theorem updFn_out (s : State) (g : Nat) (f : Fn → Fn) : (s.updFn g f).out = s.out := rfl
@[simp] theorem updFn_tr (s : State) (g : Nat) (f : Fn → Fn) : (s.updFn g f).tr = s.tr := rfl
@[simp] theorem updFn_md (s : State) (g : Nat) (f : Fn → Fn) : (s.updFn g f).md = s.md := rfl
@[simp] theorem updFn_lg (s : State) (g : Nat) (f : Fn → Fn) : (s.updFn g f).lg = s.lg := rfl
@[simp] theorem updFn_slots (s : State) (g : Nat) (f : Fn → Fn) : (s.updFn g f).slots = s.slots := rfl
@[simp] theorem updFn_rg (s : State) (g : Nat) (f : Fn → Fn) : (s.updFn g f).rg = s.rg := rfl
@[simp] theorem updFn_dr (s : State) (g : Nat) (f : Fn → Fn) : (s.updFn g f).dr = s.dr := rfl
@[simp] theorem updFn_bf (s : State) (g : Nat) (f : Fn → Fn) : (s.updFn g f).bf = s.bf := rfl
@[simp] theorem updFn_bt (s : State) (g : Nat) (f : Fn → Fn) : (s.updFn g f).bt = s.bt := rfl
@[simp] theorem updFn_sv (s : State) (g : Nat) (f : Fn → Fn) : (s.updFn g f).sv = s.sv := rfl
@[simp] theorem updFn_ts (s : State) (g : Nat) (f : Fn → Fn) : (s.updFn g f).ts = s.ts := rfl

/-! ### Fields under the shared operations -/

@[simp] theorem hev_pending (s : State) (a1 : Nat) (a2 : List Nat) : (s.hev a1 a2).pending = s.pending := (ev_hev (ev_refl 0x22 s) a1 a2 rfl).ev.pending
@[simp] theorem hev_variant (s : State) (a1 : Nat) (a2 : List Nat) : (s.hev a1 a2).variant = s.variant := (ev_hev (ev_refl 0x22 s) a1 a2 rfl).ev.variant
@[simp] theorem hev_time (s : State) (a1 : Nat) (a2 : List Nat) : (s.hev a1 a2).time = s.time :=
  (ev_hev (ev_refl 0x22 s) a1 a2 rfl).only .time rfl
@[simp] theorem hev_hi (s : State) (a1 : Nat) (a2 : List Nat) : (s.hev a1 a2).hi = s.hi :=
  (ev_hev (ev_refl 0x22 s) a1 a2 rfl).only .hi rfl
@[simp] theorem hev_readData (s : State) (a1 : Nat) (a2 : List Nat) : (s.hev a1 a2).readData = s.readData :=
  (ev_hev (ev_refl 0x22 s) a1 a2 rfl).only .readData rfl
@[simp] theorem hev_freeCtr (s : State) (a1 : Nat) (a2 : List Nat) : (s.hev a1 a2).freeCtr = s.freeCtr :=
  (ev_hev (ev_refl 0x22 s) a1 a2 rfl).only .freeCtr rfl
@[simp] theorem hev_chan (s : State) (a1 : Nat) (a2 : List Nat) : (s.hev a1 a2).chan = s.chan :=
  (ev_hev (ev_refl 0x22 s) a1 a2 rfl).only .chan rfl
@[simp] theorem hev_locks (s : State) (a1 : Nat) (a2 : List Nat) : (s.hev a1 a2).locks = s.locks :=
  (ev_hev (ev_refl 0x22 s) a1 a2 rfl).only .locks rfl
@[simp] theorem hev_hub (s : State) (a1 : Nat) (a2 : List Nat) : (s.hev a1 a2).hub = s.hub :=
  (ev_hev (ev_refl 0x22 s) a1 a2 rfl).only .hub rfl
@[simp] theorem hev_sched (s : State) (a1 : Nat) (a2 : List Nat) : (s.hev a1 a2).sched = s.sched :=
  (ev_hev (ev_refl 0x22 s) a1 a2 rfl).only .sched rfl
@[simp] theorem hev_out (s : State) (a1 : Nat) (a2 : List Nat) : (s.hev a1 a2).out = s.out :=
  (ev_hev (ev_refl 0x22 s) a1 a2 rfl).only .out rfl
@[simp] theorem hev_nv (s : State) (a1 : Nat) (a2 : List Nat) : (s.hev a1 a2).nv = s.nv :=
  (ev_hev (ev_refl 0x22 s) a1 a2 rfl).only .nv rfl
@[simp] theorem hev_tr (s : State) (a1 : Nat) (a2 : List Nat) : (s.hev a1 a2).tr = s.tr :=
  (ev_hev (ev_refl 0x22 s) a1 a2 rfl).only .tr rfl
@[simp] theorem hev_md (s : State) (a1 : Nat) (a2 : List Nat) : (s.hev a1 a2).md = s.md :=
  (ev_hev (ev_refl 0x22 s) a1 a2 rfl).only .md rfl
@[simp] theorem hev_lg (s : State) (a1 : Nat) (a2 : List Nat) : (s.hev a1 a2).lg = s.lg :=
  (ev_hev (ev_refl 0x22 s) a1 a2 rfl).only .lg rfl
@[simp] theorem hev_slots (s : State) (a1 : Nat) (a2 : List Nat) : (s.hev a1 a2).slots = s.slots :=
  (ev_hev (ev_refl 0x22 s) a1 a2 rfl).only .slots rfl
@[simp] theorem hev_rg (s : State) (a1 : Nat) (a2 : List Nat) : (s.hev a1 a2).rg = s.rg :=
  (ev_hev (ev_refl 0x22 s) a1 a2 rfl).only .rg rfl
@[simp] theorem hev_dr (s : State) (a1 : Nat) (a2 : List Nat) : (s.hev a1 a2).dr = s.dr :=
  (ev_hev (ev_refl 0x22 s) a1 a2 rfl).only .dr rfl
@[simp] theorem hev_bf (s : State) (a1 : Nat) (a2 : List Nat) : (s.hev a1 a2).bf = s.bf :=
  (ev_hev (ev_refl 0x22 s) a1 a2 rfl).only .bf rfl
@[simp] theorem hev_bt (s : State) (a1 : Nat) (a2 : List Nat) : (s.hev a1 a2).bt = s.bt :=
  (ev_hev (ev_refl 0x22 s) a1 a2 rfl).only .bt rfl
@[simp] theorem hev_sv (s : State) (a1 : Nat) (a2 : List Nat) : (s.hev a1 a2).sv = s.sv :=
  (ev_hev (ev_refl 0x22 s) a1 a2 rfl).only .sv rfl
@[simp] theorem hev_ts (s : State) (a1 : Nat) (a2 : List Nat) : (s.hev a1 a2).ts = s.ts :=
  (ev_hev (ev_refl 0x22 s) a1 a2 rfl).only .ts rfl

@[simp] theorem uev_pending (s : State) (a1 : Half) (a2 : Nat) (a3 : Nat) (a4 : List Nat) : (s.uev a1 a2 a3 a4).pending = s.pending := (ev_uev (ev_refl 0x22 s) a1 a2 a3 a4 rfl).ev.pending
@[simp] theorem uev_variant (s : State) (a1 : Half) (a2 : Nat) (a3 : Nat) (a4 : List Nat) : (s.uev a1 a2 a3 a4).variant = s.variant := (ev_uev (ev_refl 0x22 s) a1 a2 a3 a4 rfl).ev.variant
@[simp] theorem uev_time (s : State) (a1 : Half) (a2 : Nat) (a3 : Nat) (a4 : List Nat) : (s.uev a1 a2 a3 a4).time = s.time :=
  (ev_uev (ev_refl 0x22 s) a1 a2 a3 a4 rfl).only .time rfl
@[simp] theorem uev_hi (s : State) (a1 : Half) (a2 : Nat) (a3 : Nat) (a4 : List Nat) : (s.uev a1 a2 a3 a4).hi = s.hi :=
  (ev_uev (ev_refl 0x22 s) a1 a2 a3 a4 rfl).only .hi rfl
@[simp] theorem uev_readData (s : State) (a1 : Half) (a2 : Nat) (a3 : Nat) (a4 : List Nat) : (s.uev a1 a2 a3 a4).readData = s.readData :=
  (ev_uev (ev_refl 0x22 s) a1 a2 a3 a4 rfl).only .readData rfl
@[simp] theorem uev_freeCtr (s : State) (a1 : Half) (a2 : Nat) (a3 : Nat) (a4 : List Nat) : (s.uev a1 a2 a3 a4).freeCtr = s.freeCtr :=
  (ev_uev (ev_refl 0x22 s) a1 a2 a3 a4 rfl).only .freeCtr rfl
@[simp] theorem uev_chan (s : State) (a1 : Half) (a2 : Nat) (a3 : Nat) (a4 : List Nat) : (s.uev a1 a2 a3 a4).chan = s.chan :=
  (ev_uev (ev_refl 0x22 s) a1 a2 a3 a4 rfl).only .chan rfl
@[simp] theorem uev_locks (s : State) (a1 : Half) (a2 : Nat) (a3 : Nat) (a4 : List Nat) : (s.uev a1 a2 a3 a4).locks = s.locks :=
  (ev_uev (ev_refl 0x22 s) a1 a2 a3 a4 rfl).only .locks rfl
@[simp] theorem uev_hub (s : State) (a1 : Half) (a2 : Nat) (a3 : Nat) (a4 : List Nat) : (s.uev a1 a2 a3 a4).hub = s.hub :=
  (ev_uev (ev_refl 0x22 s) a1 a2 a3 a4 rfl).only .hub rfl
@[simp] theorem uev_sched (s : State) (a1 : Half) (a2 : Nat) (a3 : Nat) (a4 : List Nat) : (s.uev a1 a2 a3 a4).sched = s.sched :=
  (ev_uev (ev_refl 0x22 s) a1 a2 a3 a4 rfl).only .sched rfl
@[simp] theorem uev_out (s : State) (a1 : Half) (a2 : Nat) (a3 : Nat) (a4 : List Nat) : (s.uev a1 a2 a3 a4).out = s.out :=
  (ev_uev (ev_refl 0x22 s) a1 a2 a3 a4 rfl).only .out rfl
@[simp] theorem uev_nv (s : State) (a1 : Half) (a2 : Nat) (a3 : Nat) (a4 : List Nat) : (s.uev a1 a2 a3 a4).nv = s.nv :=
  (ev_uev (ev_refl 0x22 s) a1 a2 a3 a4 rfl).only .nv rfl
@[simp] theorem uev_tr (s : State) (a1 : Half) (a2 : Nat) (a3 : Nat) (a4 : List Nat) : (s.uev a1 a2 a3 a4).tr = s.tr :=
  (ev_uev (ev_refl 0x22 s) a1 a2 a3 a4 rfl).only .tr rfl
@[simp] theorem uev_md (s : State) (a1 : Half) (a2 : Nat) (a3 : Nat) (a4 : List Nat) : (s.uev a1 a2 a3 a4).md = s.md :=
  (ev_uev (ev_refl 0x22 s) a1 a2 a3 a4 rfl).only .md rfl
@[simp] theorem uev_lg (s : State) (a1 : Half) (a2 : Nat) (a3 : Nat) (a4 : List Nat) : (s.uev a1 a2 a3 a4).lg = s.lg :=
  (ev_uev (ev_refl 0x22 s) a1 a2 a3 a4 rfl).only .lg rfl
@[simp] theorem uev_slots (s : State) (a1 : Half) (a2 : Nat) (a3 : Nat) (a4 : List Nat) : (s.uev a1 a2 a3 a4).slots = s.slots :=
  (ev_uev (ev_refl 0x22 s) a1 a2 a3 a4 rfl).only .slots rfl
@[simp] theorem uev_rg (s : State) (a1 : Half) (a2 : Nat) (a3 : Nat) (a4 : List Nat) : (s.uev a1 a2 a3 a4).rg = s.rg :=
  (ev_uev (ev_refl 0x22 s) a1 a2 a3 a4 rfl).only .rg rfl
@[simp] theorem uev_dr (s : State) (a1 : Half) (a2 : Nat) (a3 : Nat) (a4 : List Nat) : (s.uev a1 a2 a3 a4).dr = s.dr :=
  (ev_uev (ev_refl 0x22 s) a1 a2 a3 a4 rfl).only .dr rfl
@[simp] theorem uev_bf (s : State) (a1 : Half) (a2 : Nat) (a3 : Nat) (a4 : List Nat) : (s.uev a1 a2 a3 a4).bf = s.bf :=
  (ev_uev (ev_refl 0x22 s) a1 a2 a3 a4 rfl).only .bf rfl
@[simp] theorem uev_bt (s : State) (a1 : Half) (a2 : Nat) (a3 : Nat) (a4 : List Nat) : (s.uev a1 a2 a3 a4).bt = s.bt :=
  (ev_uev (ev_refl 0x22 s) a1 a2 a3 a4 rfl).only .bt rfl
@[simp] theorem uev_sv (s : State) (a1 : Half) (a2 : Nat) (a3 : Nat) (a4 : List Nat) : (s.uev a1 a2 a3 a4).sv = s.sv :=
  (ev_uev (ev_refl 0x22 s) a1 a2 a3 a4 rfl).only .sv rfl
@[simp] theorem uev_ts (s : State) (a1 : Half) (a2 : Nat) (a3 : Nat) (a4 : List Nat) : (s.uev a1 a2 a3 a4).ts = s.ts :=
  (ev_uev (ev_refl 0x22 s) a1 a2 a3 a4 rfl).only .ts rfl

@[simp] theorem aev_pending (s : State) (a1 : Nat) (a2 : Nat) (a3 : List Nat) : (s.aev a1 a2 a3).pending = s.pending := (ev_aev (ev_refl 0x22 s) a1 a2 a3 rfl).ev.pending
@[simp] theorem aev_variant (s : State) (a1 : Nat) (a2 : Nat) (a3 : List Nat) : (s.aev a1 a2 a3).variant = s.variant := (ev_aev (ev_refl 0x22 s) a1 a2 a3 rfl).ev.variant
@[simp] theorem aev_time (s : State) (a1 : Nat) (a2 : Nat) (a3 : List Nat) : (s.aev a1 a2 a3).time = s.time :=
  (ev_aev (ev_refl 0x22 s) a1 a2 a3 rfl).only .time rfl
@[simp] theorem aev_hi (s : State) (a1 : Nat) (a2 : Nat) (a3 : List Nat) : (s.aev a1 a2 a3).hi = s.hi :=
  (ev_aev (ev_refl 0x22 s) a1 a2 a3 rfl).only .hi rfl
@[simp] theorem aev_readData (s : State) (a1 : Nat) (a2 : Nat) (a3 : List Nat) : (s.aev a1 a2 a3).readData = s.readData :=
  (ev_aev (ev_refl 0x22 s) a1 a2 a3 rfl).only .readData rfl
@[simp] theorem aev_freeCtr (s : State) (a1 : Nat) (a2 : Nat) (a3 : List Nat) : (s.aev a1 a2 a3).freeCtr = s.freeCtr :=
  (ev_aev (ev_refl 0x22 s) a1 a2 a3 rfl).only .freeCtr rfl
@[simp] theorem aev_chan (s : State) (a1 : Nat) (a2 : Nat) (a3 : List Nat) : (s.aev a1 a2 a3).chan = s.chan :=
  (ev_aev (ev_refl 0x22 s) a1 a2 a3 rfl).only .chan rfl
@[simp] theorem aev_locks (s : State) (a1 : Nat) (a2 : Nat) (a3 : List Nat) : (s.aev a1 a2 a3).locks = s.locks :=
  (ev_aev (ev_refl 0x22 s) a1 a2 a3 rfl).only .locks rfl
@[simp] theorem aev_hub (s : State) (a1 : Nat) (a2 : Nat) (a3 : List Nat) : (s.aev a1 a2 a3).hub = s.hub :=
  (ev_aev (ev_refl 0x22 s) a1 a2 a3 rfl).only .hub rfl
@[simp] theorem aev_sched (s : State) (a1 : Nat) (a2 : Nat) (a3 : List Nat) : (s.aev a1 a2 a3).sched = s.sched :=
  (ev_aev (ev_refl 0x22 s) a1 a2 a3 rfl).only .sched rfl
@[simp] theorem aev_out (s : State) (a1 : Nat) (a2 : Nat) (a3 : List Nat) : (s.aev a1 a2 a3).out = s.out :=
  (ev_aev (ev_refl 0x22 s) a1 a2 a3 rfl).only .out rfl
@[simp] theorem aev_nv (s : State) (a1 : Nat) (a2 : Nat) (a3 : List Nat) : (s.aev a1 a2 a3).nv = s.nv :=
  (ev_aev (ev_refl 0x22 s) a1 a2 a3 rfl).only .nv rfl
@[simp] theorem aev_tr (s : State) (a1 : Nat) (a2 : Nat) (a3 : List Nat) : (s.aev a1 a2 a3).tr = s.tr :=
  (ev_aev (ev_refl 0x22 s) a1 a2 a3 rfl).only .tr rfl
@[simp] theorem aev_md (s : State) (a1 : Nat) (a2 : Nat) (a3 : List Nat) : (s.aev a1 a2 a3).md = s.md :=
  (ev_aev (ev_refl 0x22 s) a1 a2 a3 rfl).only .md rfl
@[simp] theorem aev_lg (s : State) (a1 : Nat) (a2 : Nat) (a3 : List Nat) : (s.aev a1 a2 a3).lg = s.lg :=
  (ev_aev (ev_refl 0x22 s) a1 a2 a3 rfl).only .lg rfl
@[simp] theorem aev_slots (s : State) (a1 : Nat) (a2 : Nat) (a3 : List Nat) : (s.aev a1 a2 a3).slots = s.slots :=
  (ev_aev (ev_refl 0x22 s) a1 a2 a3 rfl).only .slots rfl
@[simp] theorem aev_rg (s : State) (a1 : Nat) (a2 : Nat) (a3 : List Nat) : (s.aev a1 a2 a3).rg = s.rg :=
  (ev_aev (ev_refl 0x22 s) a1 a2 a3 rfl).only .rg rfl
@[simp] theorem aev_dr (s : State) (a1 : Nat) (a2 : Nat) (a3 : List Nat) : (s.aev a1 a2 a3).dr = s.dr :=
  (ev_aev (ev_refl 0x22 s) a1 a2 a3 rfl).only .dr rfl
@[simp] theorem aev_bf (s : State) (a1 : Nat) (a2 : Nat) (a3 : List Nat) : (s.aev a1 a2 a3).bf = s.bf :=
  (ev_aev (ev_refl 0x22 s) a1 a2 a3 rfl).only .bf rfl
@[simp] theorem aev_bt (s : State) (a1 : Nat) (a2 : Nat) (a3 : List Nat) : (s.aev a1 a2 a3).bt = s.bt :=
  (ev_aev (ev_refl 0x22 s) a1 a2 a3 rfl).only .bt rfl
@[simp] theorem aev_sv (s : State) (a1 : Nat) (a2 : Nat) (a3 : List Nat) : (s.aev a1 a2 a3).sv = s.sv :=
  (ev_aev (ev_refl 0x22 s) a1 a2 a3 rfl).only .sv rfl
@[simp] theorem aev_ts (s : State) (a1 : Nat) (a2 : Nat) (a3 : List Nat) : (s.aev a1 a2 a3).ts = s.ts :=
  (ev_aev (ev_refl 0x22 s) a1 a2 a3 rfl).only .ts rfl

@[simp] theorem discarded_pending (s : State) (a1 : Half) (a2 : Nat) (a3 : Nat) (a4 : Nat) (a5 : Nat) : (s.discarded a1 a2 a3 a4 a5).pending = s.pending := (ev_discarded (ev_refl 0x22 s) a1 a2 a3 a4 a5 rfl).ev.pending
@[simp] theorem discarded_variant (s : State) (a1 : Half) (a2 : Nat) (a3 : Nat) (a4 : Nat) (a5 : Nat) : (s.discarded a1 a2 a3 a4 a5).variant = s.variant := (ev_discarded (ev_refl 0x22 s) a1 a2 a3 a4 a5 rfl).ev.variant
@[simp] theorem discarded_time (s : State) (a1 : Half) (a2 : Nat) (a3 : Nat) (a4 : Nat) (a5 : Nat) : (s.discarded a1 a2 a3 a4 a5).time = s.time :=
  (ev_discarded (ev_refl 0x22 s) a1 a2 a3 a4 a5 rfl).only .time rfl
@[simp] theorem discarded_hi (s : State) (a1 : Half) (a2 : Nat) (a3 : Nat) (a4 : Nat) (a5 : Nat) : (s.discarded a1 a2 a3 a4 a5).hi = s.hi :=
  (ev_discarded (ev_refl 0x22 s) a1 a2 a3 a4 a5 rfl).only .hi rfl
@[simp] theorem discarded_readData (s : State) (a1 : Half) (a2 : Nat) (a3 : Nat) (a4 : Nat) (a5 : Nat) : (s.discarded a1 a2 a3 a4 a5).readData = s.readData :=
  (ev_discarded (ev_refl 0x22 s) a1 a2 a3 a4 a5 rfl).only .readData rfl
@[simp] theorem discarded_freeCtr (s : State) (a1 : Half) (a2 : Nat) (a3 : Nat) (a4 : Nat) (a5 : Nat) : (s.discarded a1 a2 a3 a4 a5).freeCtr = s.freeCtr :=
  (ev_discarded (ev_refl 0x22 s) a1 a2 a3 a4 a5 rfl).only .freeCtr rfl
@[simp] theorem discarded_chan (s : State) (a1 : Half) (a2 : Nat) (a3 : Nat) (a4 : Nat) (a5 : Nat) : (s.discarded a1 a2 a3 a4 a5).chan = s.chan :=
  (ev_discarded (ev_refl 0x22 s) a1 a2 a3 a4 a5 rfl).only .chan rfl
@[simp] theorem discarded_locks (s : State) (a1 : Half) (a2 : Nat) (a3 : Nat) (a4 : Nat) (a5 : Nat) : (s.discarded a1 a2 a3 a4 a5).locks = s.locks :=
  (ev_discarded (ev_refl 0x22 s) a1 a2 a3 a4 a5 rfl).only .locks rfl
@[simp] theorem discarded_hub (s : State) (a1 : Half) (a2 : Nat) (a3 : Nat) (a4 : Nat) (a5 : Nat) : (s.discarded a1 a2 a3 a4 a5).hub = s.hub :=
  (ev_discarded (ev_refl 0x22 s) a1 a2 a3 a4 a5 rfl).only .hub rfl
@[simp] theorem discarded_sched (s : State) (a1 : Half) (a2 : Nat) (a3 : Nat) (a4 : Nat) (a5 : Nat) : (s.discarded a1 a2 a3 a4 a5).sched = s.sched :=
  (ev_discarded (ev_refl 0x22 s) a1 a2 a3 a4 a5 rfl).only .sched rfl
@[simp] theorem discarded_out (s : State) (a1 : Half) (a2 : Nat) (a3 : Nat) (a4 : Nat) (a5 : Nat) : (s.discarded a1 a2 a3 a4 a5).out = s.out :=
  (ev_discarded (ev_refl 0x22 s) a1 a2 a3 a4 a5 rfl).only .out rfl
@[simp] theorem discarded_nv (s : State) (a1 : Half) (a2 : Nat) (a3 : Nat) (a4 : Nat) (a5 : Nat) : (s.discarded a1 a2 a3 a4 a5).nv = s.nv :=
  (ev_discarded (ev_refl 0x22 s) a1 a2 a3 a4 a5 rfl).only .nv rfl
@[simp] theorem discarded_tr (s : State) (a1 : Half) (a2 : Nat) (a3 : Nat) (a4 : Nat) (a5 : Nat) : (s.discarded a1 a2 a3 a4 a5).tr = s.tr :=
  (ev_discarded (ev_refl 0x22 s) a1 a2 a3 a4 a5 rfl).only .tr rfl
@[simp] theorem discarded_md (s : State) (a1 : Half) (a2 : Nat) (a3 : Nat) (a4 : Nat) (a5 : Nat) : (s.discarded a1 a2 a3 a4 a5).md = s.md :=
  (ev_discarded (ev_refl 0x22 s) a1 a2 a3 a4 a5 rfl).only .md rfl
@[simp] theorem discarded_lg (s : State) (a1 : Half) (a2 : Nat) (a3 : Nat) (a4 : Nat) (a5 : Nat) : (s.discarded a1 a2 a3 a4 a5).lg = s.lg :=
  (ev_discarded (ev_refl 0x22 s) a1 a2 a3 a4 a5 rfl).only .lg rfl
@[simp] theorem discarded_slots (s : State) (a1 : Half) (a2 : Nat) (a3 : Nat) (a4 : Nat) (a5 : Nat) : (s.discarded a1 a2 a3 a4 a5).slots = s.slots :=
  (ev_discarded (ev_refl 0x22 s) a1 a2 a3 a4 a5 rfl).only .slots rfl
@[simp] theorem discarded_rg (s : State) (a1 : Half) (a2 : Nat) (a3 : Nat) (a4 : Nat) (a5 : Nat) : (s.discarded a1 a2 a3 a4 a5).rg = s.rg :=
  (ev_discarded (ev_refl 0x22 s) a1 a2 a3 a4 a5 rfl).only .rg rfl
@[simp] theorem discarded_dr (s : State) (a1 : Half) (a2 : Nat) (a3 : Nat) (a4 : Nat) (a5 : Nat) : (s.discarded a1 a2 a3 a4 a5).dr = s.dr :=
  (ev_discarded (ev_refl 0x22 s) a1 a2 a3 a4 a5 rfl).only .dr rfl
@[simp] theorem discarded_bf (s : State) (a1 : Half) (a2 : Nat) (a3 : Nat) (a4 : Nat) (a5 : Nat) : (s.discarded a1 a2 a3 a4 a5).bf = s.bf :=
  (ev_discarded (ev_refl 0x22 s) a1 a2 a3 a4 a5 rfl).only .bf rfl
@[simp] theorem discarded_bt (s : State) (a1 : Half) (a2 : Nat) (a3 : Nat) (a4 : Nat) (a5 : Nat) : (s.discarded a1 a2 a3 a4 a5).bt = s.bt :=
  (ev_discarded (ev_refl 0x22 s) a1 a2 a3 a4 a5 rfl).only .bt rfl
@[simp] theorem discarded_sv (s : State) (a1 : Half) (a2 : Nat) (a3 : Nat) (a4 : Nat) (a5 : Nat) : (s.discarded a1 a2 a3 a4 a5).sv = s.sv :=
  (ev_discarded (ev_refl 0x22 s) a1 a2 a3 a4 a5 rfl).only .sv rfl
@[simp] theorem discarded_ts (s : State) (a1 : Half) (a2 : Nat) (a3 : Nat) (a4 : Nat) (a5 : Nat) : (s.discarded a1 a2 a3 a4 a5).ts = s.ts :=
  (ev_discarded (ev_refl 0x22 s) a1 a2 a3 a4 a5 rfl).only .ts rfl

@[simp] theorem setDom_pending (s : State) (a1 : Nat) (a2 : Nat) : (s.setDom a1 a2).pending = s.pending := (ev_setDom (ev_refl 0x2 s) a1 a2 rfl).ev.pending
@[simp] theorem setDom_variant (s : State) (a1 : Nat) (a2 : Nat) : (s.setDom a1 a2).variant = s.variant := (ev_setDom (ev_refl 0x2 s) a1 a2 rfl).ev.variant
@[simp] theorem setDom_time (s : State) (a1 : Nat) (a2 : Nat) : (s.setDom a1 a2).time = s.time :=
  (ev_setDom (ev_refl 0x2 s) a1 a2 rfl).only .time rfl
@[simp] theorem setDom_hi (s : State) (a1 : Nat) (a2 : Nat) : (s.setDom a1 a2).hi = s.hi :=
  (ev_setDom (ev_refl 0x2 s) a1 a2 rfl).only .hi rfl
@[simp] theorem setDom_readData (s : State) (a1 : Nat) (a2 : Nat) : (s.setDom a1 a2).readData = s.readData :=
  (ev_setDom (ev_refl 0x2 s) a1 a2 rfl).only .readData rfl
@[simp] theorem setDom_freeCtr (s : State) (a1 : Nat) (a2 : Nat) : (s.setDom a1 a2).freeCtr = s.freeCtr :=
  (ev_setDom (ev_refl 0x2 s) a1 a2 rfl).only .freeCtr rfl
@[simp] theorem setDom_evt (s : State) (a1 : Nat) (a2 : Nat) : (s.setDom a1 a2).evt = s.evt :=
  (ev_setDom (ev_refl 0x2 s) a1 a2 rfl).only .evt rfl
@[simp] theorem setDom_chan (s : State) (a1 : Nat) (a2 : Nat) : (s.setDom a1 a2).chan = s.chan :=
  (ev_setDom (ev_refl 0x2 s) a1 a2 rfl).only .chan rfl
@[simp] theorem setDom_locks (s : State) (a1 : Nat) (a2 : Nat) : (s.setDom a1 a2).locks = s.locks :=
  (ev_setDom (ev_refl 0x2 s) a1 a2 rfl).only .locks rfl
@[simp] theorem setDom_hub (s : State) (a1 : Nat) (a2 : Nat) : (s.setDom a1 a2).hub = s.hub :=
  (ev_setDom (ev_refl 0x2 s) a1 a2 rfl).only .hub rfl
@[simp] theorem setDom_sched (s : State) (a1 : Nat) (a2 : Nat) : (s.setDom a1 a2).sched = s.sched :=
  (ev_setDom (ev_refl 0x2 s) a1 a2 rfl).only .sched rfl
@[simp] theorem setDom_out (s : State) (a1 : Nat) (a2 : Nat) : (s.setDom a1 a2).out = s.out :=
  (ev_setDom (ev_refl 0x2 s) a1 a2 rfl).only .out rfl
@[simp] theorem setDom_nv (s : State) (a1 : Nat) (a2 : Nat) : (s.setDom a1 a2).nv = s.nv :=
  (ev_setDom (ev_refl 0x2 s) a1 a2 rfl).only .nv rfl
@[simp] theorem setDom_tr (s : State) (a1 : Nat) (a2 : Nat) : (s.setDom a1 a2).tr = s.tr :=
  (ev_setDom (ev_refl 0x2 s) a1 a2 rfl).only .tr rfl
@[simp] theorem setDom_md (s : State) (a1 : Nat) (a2 : Nat) : (s.setDom a1 a2).md = s.md :=
  (ev_setDom (ev_refl 0x2 s) a1 a2 rfl).only .md rfl
@[simp] theorem setDom_lg (s : State) (a1 : Nat) (a2 : Nat) : (s.setDom a1 a2).lg = s.lg :=
  (ev_setDom (ev_refl 0x2 s) a1 a2 rfl).only .lg rfl
@[simp] theorem setDom_slots (s : State) (a1 : Nat) (a2 : Nat) : (s.setDom a1 a2).slots = s.slots :=
  (ev_setDom (ev_refl 0x2 s) a1 a2 rfl).only .slots rfl
@[simp] theorem setDom_rg (s : State) (a1 : Nat) (a2 : Nat) : (s.setDom a1 a2).rg = s.rg :=
  (ev_setDom (ev_refl 0x2 s) a1 a2 rfl).only .rg rfl
@[simp] theorem setDom_dr (s : State) (a1 : Nat) (a2 : Nat) : (s.setDom a1 a2).dr = s.dr :=
  (ev_setDom (ev_refl 0x2 s) a1 a2 rfl).only .dr rfl
@[simp] theorem setDom_bf (s : State) (a1 : Nat) (a2 : Nat) : (s.setDom a1 a2).bf = s.bf :=
  (ev_setDom (ev_refl 0x2 s) a1 a2 rfl).only .bf rfl
@[simp] theorem setDom_bt (s : State) (a1 : Nat) (a2 : Nat) : (s.setDom a1 a2).bt = s.bt :=
  (ev_setDom (ev_refl 0x2 s) a1 a2 rfl).only .bt rfl
@[simp] theorem setDom_sv (s : State) (a1 : Nat) (a2 : Nat) : (s.setDom a1 a2).sv = s.sv :=
  (ev_setDom (ev_refl 0x2 s) a1 a2 rfl).only .sv rfl
@[simp] theorem setDom_ts (s : State) (a1 : Nat) (a2 : Nat) : (s.setDom a1 a2).ts = s.ts :=
  (ev_setDom (ev_refl 0x2 s) a1 a2 rfl).only .ts rfl

@[simp] theorem setHalfDoms_pending (s : State) (a1 : Half) (a2 : Nat) : (s.setHalfDoms a1 a2).pending = s.pending := (ev_setHalfDoms (ev_refl 0x2 s) a1 a2 rfl).ev.pending
@[simp] theorem setHalfDoms_variant (s : State) (a1 : Half) (a2 : Nat) : (s.setHalfDoms a1 a2).variant = s.variant := (ev_setHalfDoms (ev_refl 0x2 s) a1 a2 rfl).ev.variant
@[simp] theorem setHalfDoms_time (s : State) (a1 : Half) (a2 : Nat) : (s.setHalfDoms a1 a2).time = s.time :=
  (ev_setHalfDoms (ev_refl 0x2 s) a1 a2 rfl).only .time rfl
@[simp] theorem setHalfDoms_hi (s : State) (a1 : Half) (a2 : Nat) : (s.setHalfDoms a1 a2).hi = s.hi :=
  (ev_setHalfDoms (ev_refl 0x2 s) a1 a2 rfl).only .hi rfl
@[simp] theorem setHalfDoms_readData (s : State) (a1 : Half) (a2 : Nat) : (s.setHalfDoms a1 a2).readData = s.readData :=
  (ev_setHalfDoms (ev_refl 0x2 s) a1 a2 rfl).only .readData rfl
@[simp] theorem setHalfDoms_freeCtr (s : State) (a1 : Half) (a2 : Nat) : (s.setHalfDoms a1 a2).freeCtr = s.freeCtr :=
  (ev_setHalfDoms (ev_refl 0x2 s) a1 a2 rfl).only .freeCtr rfl
@[simp] theorem setHalfDoms_evt (s : State) (a1 : Half) (a2 : Nat) : (s.setHalfDoms a1 a2).evt = s.evt :=
  (ev_setHalfDoms (ev_refl 0x2 s) a1 a2 rfl).only .evt rfl
@[simp] theorem setHalfDoms_chan (s : State) (a1 : Half) (a2 : Nat) : (s.setHalfDoms a1 a2).chan = s.chan :=
  (ev_setHalfDoms (ev_refl 0x2 s) a1 a2 rfl).only .chan rfl
@[simp] theorem setHalfDoms_locks (s : State) (a1 : Half) (a2 : Nat) : (s.setHalfDoms a1 a2).locks = s.locks :=
  (ev_setHalfDoms (ev_refl 0x2 s) a1 a2 rfl).only .locks rfl
@[simp] theorem setHalfDoms_hub (s : State) (a1 : Half) (a2 : Nat) : (s.setHalfDoms a1 a2).hub = s.hub :=
  (ev_setHalfDoms (ev_refl 0x2 s) a1 a2 rfl).only .hub rfl
@[simp] theorem setHalfDoms_sched (s : State) (a1 : Half) (a2 : Nat) : (s.setHalfDoms a1 a2).sched = s.sched :=
  (ev_setHalfDoms (ev_refl 0x2 s) a1 a2 rfl).only .sched rfl
@[simp] theorem setHalfDoms_out (s : State) (a1 : Half) (a2 : Nat) : (s.setHalfDoms a1 a2).out = s.out :=
  (ev_setHalfDoms (ev_refl 0x2 s) a1 a2 rfl).only .out rfl
@[simp] theorem setHalfDoms_nv (s : State) (a1 : Half) (a2 : Nat) : (s.setHalfDoms a1 a2).nv = s.nv :=
  (ev_setHalfDoms (ev_refl 0x2 s) a1 a2 rfl).only .nv rfl
@[simp] theorem setHalfDoms_tr (s : State) (a1 : Half) (a2 : Nat) : (s.setHalfDoms a1 a2).tr = s.tr :=
  (ev_setHalfDoms (ev_refl 0x2 s) a1 a2 rfl).only .tr rfl
@[simp] theorem setHalfDoms_md (s : State) (a1 : Half) (a2 : Nat) : (s.setHalfDoms a1 a2).md = s.md :=
  (ev_setHalfDoms (ev_refl 0x2 s) a1 a2 rfl).only .md rfl
@[simp] theorem setHalfDoms_lg (s : State) (a1 : Half) (a2 : Nat) : (s.setHalfDoms a1 a2).lg = s.lg :=
  (ev_setHalfDoms (ev_refl 0x2 s) a1 a2 rfl).only .lg rfl
@[simp] theorem setHalfDoms_slots (s : State) (a1 : Half) (a2 : Nat) : (s.setHalfDoms a1 a2).slots = s.slots :=
  (ev_setHalfDoms (ev_refl 0x2 s) a1 a2 rfl).only .slots rfl
@[simp] theorem setHalfDoms_rg (s : State) (a1 : Half) (a2 : Nat) : (s.setHalfDoms a1 a2).rg = s.rg :=
  (ev_setHalfDoms (ev_refl 0x2 s) a1 a2 rfl).only .rg rfl
@[simp] theorem setHalfDoms_dr (s : State) (a1 : Half) (a2 : Nat) : (s.setHalfDoms a1 a2).dr = s.dr :=
  (ev_setHalfDoms (ev_refl 0x2 s) a1 a2 rfl).only .dr rfl
@[simp] theorem setHalfDoms_bf (s : State) (a1 : Half) (a2 : Nat) : (s.setHalfDoms a1 a2).bf = s.bf :=
  (ev_setHalfDoms (ev_refl 0x2 s) a1 a2 rfl).only .bf rfl
@[simp] theorem setHalfDoms_bt (s : State) (a1 : Half) (a2 : Nat) : (s.setHalfDoms a1 a2).bt = s.bt :=
  (ev_setHalfDoms (ev_refl 0x2 s) a1 a2 rfl).only .bt rfl
@[simp] theorem setHalfDoms_sv (s : State) (a1 : Half) (a2 : Nat) : (s.setHalfDoms a1 a2).sv = s.sv :=
  (ev_setHalfDoms (ev_refl 0x2 s) a1 a2 rfl).only .sv rfl
@[simp] theorem setHalfDoms_ts (s : State) (a1 : Half) (a2 : Nat) : (s.setHalfDoms a1 a2).ts = s.ts :=
  (ev_setHalfDoms (ev_refl 0x2 s) a1 a2 rfl).only .ts rfl

@[simp] theorem wakeHalf_pending (s : State) (a1 : Half) : (s.wakeHalf a1).pending = s.pending := (ev_wakeHalf (ev_refl 0x2 s) a1 rfl).ev.pending
@[simp] theorem wakeHalf_variant (s : State) (a1 : Half) : (s.wakeHalf a1).variant = s.variant := (ev_wakeHalf (ev_refl 0x2 s) a1 rfl).ev.variant
@[simp] theorem wakeHalf_time (s : State) (a1 : Half) : (s.wakeHalf a1).time = s.time :=
  (ev_wakeHalf (ev_refl 0x2 s) a1 rfl).only .time rfl
@[simp] theorem wakeHalf_hi (s : State) (a1 : Half) : (s.wakeHalf a1).hi = s.hi :=
  (ev_wakeHalf (ev_refl 0x2 s) a1 rfl).only .hi rfl
@[simp] theorem wakeHalf_readData (s : State) (a1 : Half) : (s.wakeHalf a1).readData = s.readData :=
  (ev_wakeHalf (ev_refl 0x2 s) a1 rfl).only .readData rfl
@[simp] theorem wakeHalf_freeCtr (s : State) (a1 : Half) : (s.wakeHalf a1).freeCtr = s.freeCtr :=
  (ev_wakeHalf (ev_refl 0x2 s) a1 rfl).only .freeCtr rfl
@[simp] theorem wakeHalf_evt (s : State) (a1 : Half) : (s.wakeHalf a1).evt = s.evt :=
  (ev_wakeHalf (ev_refl 0x2 s) a1 rfl).only .evt rfl
@[simp] theorem wakeHalf_chan (s : State) (a1 : Half) : (s.wakeHalf a1).chan = s.chan :=
  (ev_wakeHalf (ev_refl 0x2 s) a1 rfl).only .chan rfl
@[simp] theorem wakeHalf_locks (s : State) (a1 : Half) : (s.wakeHalf a1).locks = s.locks :=
  (ev_wakeHalf (ev_refl 0x2 s) a1 rfl).only .locks rfl
@[simp] theorem wakeHalf_hub (s : State) (a1 : Half) : (s.wakeHalf a1).hub = s.hub :=
  (ev_wakeHalf (ev_refl 0x2 s) a1 rfl).only .hub rfl
@[simp] theorem wakeHalf_sched (s : State) (a1 : Half) : (s.wakeHalf a1).sched = s.sched :=
  (ev_wakeHalf (ev_refl 0x2 s) a1 rfl).only .sched rfl
@[simp] theorem wakeHalf_out (s : State) (a1 : Half) : (s.wakeHalf a1).out = s.out :=
  (ev_wakeHalf (ev_refl 0x2 s) a1 rfl).only .out rfl
@[simp] theorem wakeHalf_nv (s : State) (a1 : Half) : (s.wakeHalf a1).nv = s.nv :=
  (ev_wakeHalf (ev_refl 0x2 s) a1 rfl).only .nv rfl
@[simp] theorem wakeHalf_tr (s : State) (a1 : Half) : (s.wakeHalf a1).tr = s.tr :=
  (ev_wakeHalf (ev_refl 0x2 s) a1 rfl).only .tr rfl
@[simp] theorem wakeHalf_md (s : State) (a1 : Half) : (s.wakeHalf a1).md = s.md :=
  (ev_wakeHalf (ev_refl 0x2 s) a1 rfl).only .md rfl
@[simp] theorem wakeHalf_lg (s : State) (a1 : Half) : (s.wakeHalf a1).lg = s.lg :=
  (ev_wakeHalf (ev_refl 0x2 s) a1 rfl).only .lg rfl
@[simp] theorem wakeHalf_slots (s : State) (a1 : Half) : (s.wakeHalf a1).slots = s.slots :=
  (ev_wakeHalf (ev_refl 0x2 s) a1 rfl).only .slots rfl
@[simp] theorem wakeHalf_rg (s : State) (a1 : Half) : (s.wakeHalf a1).rg = s.rg :=
  (ev_wakeHalf (ev_refl 0x2 s) a1 rfl).only .rg rfl
@[simp] theorem wakeHalf_dr (s : State) (a1 : Half) : (s.wakeHalf a1).dr = s.dr :=
  (ev_wakeHalf (ev_refl 0x2 s) a1 rfl).only .dr rfl
@[simp] theorem wakeHalf_bf (s : State) (a1 : Half) : (s.wakeHalf a1).bf = s.bf :=
  (ev_wakeHalf (ev_refl 0x2 s) a1 rfl).only .bf rfl
@[simp] theorem wakeHalf_bt (s : State) (a1 : Half) : (s.wakeHalf a1).bt = s.bt :=
  (ev_wakeHalf (ev_refl 0x2 s) a1 rfl).only .bt rfl
@[simp] theorem wakeHalf_sv (s : State) (a1 : Half) : (s.wakeHalf a1).sv = s.sv :=
  (ev_wakeHalf (ev_refl 0x2 s) a1 rfl).only .sv rfl
@[simp] theorem wakeHalf_ts (s : State) (a1 : Half) : (s.wakeHalf a1).ts = s.ts :=
  (ev_wakeHalf (ev_refl 0x2 s) a1 rfl).only .ts rfl

@[simp] theorem enterState_pending (s : State) (a1 : Half) (a2 : HalfSt) : (s.enterState a1 a2).pending = s.pending := (ev_enterState (ev_refl 0x100 s) a1 a2 rfl).ev.pending
@[simp] theorem enterState_variant (s : State) (a1 : Half) (a2 : HalfSt) : (s.enterState a1 a2).variant = s.variant := (ev_enterState (ev_refl 0x100 s) a1 a2 rfl).ev.variant
@[simp] theorem enterState_time (s : State) (a1 : Half) (a2 : HalfSt) : (s.enterState a1 a2).time = s.time :=
  (ev_enterState (ev_refl 0x100 s) a1 a2 rfl).only .time rfl
@[simp] theorem enterState_regs (s : State) (a1 : Half) (a2 : HalfSt) : (s.enterState a1 a2).regs = s.regs :=
  (ev_enterState (ev_refl 0x100 s) a1 a2 rfl).only .regs rfl
@[simp] theorem enterState_hi (s : State) (a1 : Half) (a2 : HalfSt) : (s.enterState a1 a2).hi = s.hi :=
  (ev_enterState (ev_refl 0x100 s) a1 a2 rfl).only .hi rfl
@[simp] theorem enterState_readData (s : State) (a1 : Half) (a2 : HalfSt) : (s.enterState a1 a2).readData = s.readData :=
  (ev_enterState (ev_refl 0x100 s) a1 a2 rfl).only .readData rfl
@[simp] theorem enterState_freeCtr (s : State) (a1 : Half) (a2 : HalfSt) : (s.enterState a1 a2).freeCtr = s.freeCtr :=
  (ev_enterState (ev_refl 0x100 s) a1 a2 rfl).only .freeCtr rfl
@[simp] theorem enterState_evt (s : State) (a1 : Half) (a2 : HalfSt) : (s.enterState a1 a2).evt = s.evt :=
  (ev_enterState (ev_refl 0x100 s) a1 a2 rfl).only .evt rfl
@[simp] theorem enterState_chan (s : State) (a1 : Half) (a2 : HalfSt) : (s.enterState a1 a2).chan = s.chan :=
  (ev_enterState (ev_refl 0x100 s) a1 a2 rfl).only .chan rfl
@[simp] theorem enterState_locks (s : State) (a1 : Half) (a2 : HalfSt) : (s.enterState a1 a2).locks = s.locks :=
  (ev_enterState (ev_refl 0x100 s) a1 a2 rfl).only .locks rfl
@[simp] theorem enterState_sched (s : State) (a1 : Half) (a2 : HalfSt) : (s.enterState a1 a2).sched = s.sched :=
  (ev_enterState (ev_refl 0x100 s) a1 a2 rfl).only .sched rfl
@[simp] theorem enterState_out (s : State) (a1 : Half) (a2 : HalfSt) : (s.enterState a1 a2).out = s.out :=
  (ev_enterState (ev_refl 0x100 s) a1 a2 rfl).only .out rfl
@[simp] theorem enterState_nv (s : State) (a1 : Half) (a2 : HalfSt) : (s.enterState a1 a2).nv = s.nv :=
  (ev_enterState (ev_refl 0x100 s) a1 a2 rfl).only .nv rfl
@[simp] theorem enterState_tr (s : State) (a1 : Half) (a2 : HalfSt) : (s.enterState a1 a2).tr = s.tr :=
  (ev_enterState (ev_refl 0x100 s) a1 a2 rfl).only .tr rfl
@[simp] theorem enterState_md (s : State) (a1 : Half) (a2 : HalfSt) : (s.enterState a1 a2).md = s.md :=
  (ev_enterState (ev_refl 0x100 s) a1 a2 rfl).only .md rfl
@[simp] theorem enterState_lg (s : State) (a1 : Half) (a2 : HalfSt) : (s.enterState a1 a2).lg = s.lg :=
  (ev_enterState (ev_refl 0x100 s) a1 a2 rfl).only .lg rfl
@[simp] theorem enterState_slots (s : State) (a1 : Half) (a2 : HalfSt) : (s.enterState a1 a2).slots = s.slots :=
  (ev_enterState (ev_refl 0x100 s) a1 a2 rfl).only .slots rfl
@[simp] theorem enterState_rg (s : State) (a1 : Half) (a2 : HalfSt) : (s.enterState a1 a2).rg = s.rg :=
  (ev_enterState (ev_refl 0x100 s) a1 a2 rfl).only .rg rfl
@[simp] theorem enterState_dr (s : State) (a1 : Half) (a2 : HalfSt) : (s.enterState a1 a2).dr = s.dr :=
  (ev_enterState (ev_refl 0x100 s) a1 a2 rfl).only .dr rfl
@[simp] theorem enterState_bf (s : State) (a1 : Half) (a2 : HalfSt) : (s.enterState a1 a2).bf = s.bf :=
  (ev_enterState (ev_refl 0x100 s) a1 a2 rfl).only .bf rfl
@[simp] theorem enterState_bt (s : State) (a1 : Half) (a2 : HalfSt) : (s.enterState a1 a2).bt = s.bt :=
  (ev_enterState (ev_refl 0x100 s) a1 a2 rfl).only .bt rfl
@[simp] theorem enterState_sv (s : State) (a1 : Half) (a2 : HalfSt) : (s.enterState a1 a2).sv = s.sv :=
  (ev_enterState (ev_refl 0x100 s) a1 a2 rfl).only .sv rfl
@[simp] theorem enterState_ts (s : State) (a1 : Half) (a2 : HalfSt) : (s.enterState a1 a2).ts = s.ts :=
  (ev_enterState (ev_refl 0x100 s) a1 a2 rfl).only .ts rfl

/-! ### Registers -/

/-- A word with one field replaced, in its parts: what lies above the field, the field, and what lies below it. -/
theorem put_parts (g : Fd) (w : Word) (v : Nat) (hg : g.lsb + g.width ≤ 32) :
    ∃ q r l, w.toNat = (q * 2 ^ g.width + r) * 2 ^ g.lsb + l ∧
      (g.put w v).toNat = (q * 2 ^ g.width + v % 2 ^ g.width) * 2 ^ g.lsb + l ∧ r < 2 ^ g.width ∧ l < 2 ^ g.lsb := by
  have ha : 0 < 2 ^ g.lsb := Nat.two_pow_pos _
  have hb : 0 < 2 ^ g.width := Nat.two_pow_pos _
  have hv : v % 2 ^ g.width < 2 ^ g.width := Nat.mod_lt _ hb
  have hp : 2 ^ g.lsb * 2 ^ g.width * 2 ^ (32 - (g.lsb + g.width)) = 2 ^ 32 := by
    rw [← Nat.pow_add, ← Nat.pow_add, Nat.add_sub_cancel' hg]
  have h1 : w.toNat < 2 ^ g.lsb * 2 ^ g.width * 2 ^ (32 - (g.lsb + g.width)) := by
    rw [hp]
    exact w.isLt
  have e1 := Nat.div_add_mod w.toNat (2 ^ g.lsb)
  have e2 := Nat.div_add_mod (w.toNat / 2 ^ g.lsb) (2 ^ g.width)
  rw [Nat.div_div_eq_div_mul] at e2
  have hq : w.toNat / (2 ^ g.lsb * 2 ^ g.width) < 2 ^ (32 - (g.lsb + g.width)) := Nat.div_lt_of_lt_mul h1
  have hl : w.toNat % 2 ^ g.lsb < 2 ^ g.lsb := Nat.mod_lt _ ha
  have hr : w.toNat / 2 ^ g.lsb % 2 ^ g.width < 2 ^ g.width := Nat.mod_lt _ hb
  refine ⟨w.toNat / (2 ^ g.lsb * 2 ^ g.width), w.toNat / 2 ^ g.lsb % 2 ^ g.width, w.toNat % 2 ^ g.lsb, ?_, ?_, hr, hl⟩
  · rw [Nat.mul_comm _ (2 ^ g.width), e2, Nat.mul_comm _ (2 ^ g.lsb), e1]
  · unfold Fd.put
    rw [BitVec.toNat_ofNat, Fd.get, ← hp]
    generalize w.toNat / (2 ^ g.lsb * 2 ^ g.width) = q at *
    generalize w.toNat % 2 ^ g.lsb = l at *
    generalize w.toNat / 2 ^ g.lsb % 2 ^ g.width = r at *
    generalize v % 2 ^ g.width = x at *
    generalize 2 ^ (32 - (g.lsb + g.width)) = c at *
    generalize 2 ^ g.lsb = a at *
    generalize 2 ^ g.width = b at *
    have e3 : w.toNat = q * (a * b) + r * a + l := by
      rw [← e1, ← e2, Nat.mul_add, Nat.mul_comm a r, ← Nat.mul_assoc a b, Nat.mul_comm (a * b)]
    have e4 : w.toNat - r * a + x * a = (q * b + x) * a + l := by
      have h4 : w.toNat - r * a = q * (a * b) + l := by omega
      rw [h4, Nat.add_mul, Nat.mul_assoc q b a, Nat.mul_comm b a]
      omega
    rw [e4]
    refine Nat.mod_eq_of_lt ?_
    have h5 : q * b + x + 1 ≤ c * b := by
      have : (q + 1) * b ≤ c * b := Nat.mul_le_mul_right b hq
      rw [Nat.add_mul] at this
      omega
    have h6 : (q * b + x + 1) * a ≤ c * b * a := Nat.mul_le_mul_right a h5
    have h7 : c * b * a = a * b * c := by rw [Nat.mul_comm (c * b), Nat.mul_comm c b, ← Nat.mul_assoc]
    rw [h7, Nat.add_mul (q * b + x)] at h6
    omega

theorem mid_of_parts (q x l a b : Nat) (hx : x < b) (hl : l < a) : ((q * b + x) * a + l) / a % b = x := by
  rw [Nat.mul_comm _ a, Nat.mul_add_div (Nat.lt_of_le_of_lt (Nat.zero_le _) hl), Nat.div_eq_of_lt hl, Nat.add_zero,
    Nat.mul_comm q b, Nat.mul_add_mod, Nat.mod_eq_of_lt hx]

/-- A field of a register's contents after it was set. -/
theorem get_put (f : Fd) (w : Word) (v : Nat) (hf : f.lsb + f.width ≤ 32) : f.get (f.put w v) = v % 2 ^ f.width := by
  obtain ⟨q, r, l, -, h, -, hl⟩ := put_parts f w v hf
  unfold Fd.get
  rw [h]
  exact mid_of_parts _ _ _ _ _ (Nat.mod_lt _ (Nat.two_pow_pos _)) hl

/-- Another field of a register's contents after a field was set: fields that do not overlap. -/
theorem get_put_ne (f g : Fd) (w : Word) (v : Nat) (hg : g.lsb + g.width ≤ 32)
    (hd : f.lsb + f.width ≤ g.lsb ∨ g.lsb + g.width ≤ f.lsb) : f.get (g.put w v) = f.get w := by
  obtain ⟨q, r, l, h1, h2, hr, hl⟩ := put_parts g w v hg
  have hx : v % 2 ^ g.width < 2 ^ g.width := Nat.mod_lt _ (Nat.two_pow_pos _)
  unfold Fd.get
  rw [h1, h2]
  generalize v % 2 ^ g.width = x at hx
  rcases hd with hd | hd
  · have low : ∀ y, ((q * 2 ^ g.width + y) * 2 ^ g.lsb + l) / 2 ^ f.lsb % 2 ^ f.width = l % 2 ^ (f.lsb + f.width) / 2 ^ f.lsb := by
      intro y
      have : 2 ^ g.lsb = 2 ^ (f.lsb + f.width) * 2 ^ (g.lsb - (f.lsb + f.width)) := by
        rw [← Nat.pow_add, Nat.add_sub_cancel' hd]
      rw [← Nat.mod_mul_right_div_self, ← Nat.pow_add, this, Nat.mul_comm (2 ^ (f.lsb + f.width)), ← Nat.mul_assoc,
        Nat.mul_comm _ (2 ^ (f.lsb + f.width)), Nat.mul_add_mod]
    rw [low, low]
  · have high : ∀ y, y < 2 ^ g.width → ((q * 2 ^ g.width + y) * 2 ^ g.lsb + l) / 2 ^ f.lsb = q / 2 ^ (f.lsb - (g.lsb + g.width)) := by
      intro y hy
      have : 2 ^ f.lsb = 2 ^ g.lsb * 2 ^ g.width * 2 ^ (f.lsb - (g.lsb + g.width)) := by
        rw [← Nat.pow_add, ← Nat.pow_add, Nat.add_sub_cancel' hd]
      rw [this, ← Nat.div_div_eq_div_mul, ← Nat.div_div_eq_div_mul, Nat.mul_comm _ (2 ^ g.lsb),
        Nat.mul_add_div (Nat.two_pow_pos _), Nat.div_eq_of_lt hl, Nat.add_zero, Nat.mul_comm q, Nat.mul_add_div (Nat.two_pow_pos _),
        Nat.div_eq_of_lt hy, Nat.add_zero]
    rw [high _ hx, high _ hr]

/-! ### Fields of registers under writes -/

variable {s : State}

theorem wr_regs (s : State) (f : Fd) (v i : Nat) (h : Half) :
    (s.wr f v i h).regs = spSet regDefault s.regs (regKey h f.reg.blk (f.reg.at i)) (f.put (s.reg h f.reg.blk (f.reg.at i)) v) := by
  unfold State.wr State.setReg
  with_reducible rfl

/-- A field reads as it was set. -/
theorem rd_wr_same (hs : s.regsWf) (f : Fd) (v i : Nat) (h : Half) (hf : f.lsb + f.width ≤ 32) :
    (s.wr f v i h).rd f i h = v % 2 ^ f.width := by
  unfold State.rd State.reg
  rw [wr_regs, spGet_spSet_same _ _ hs]
  exact get_put f _ v hf

/-- A write leaves every other register as it is. -/
theorem reg_wr_ne (f : Fd) (v i : Nat) (h h' : Half) (b off : Nat)
    (hk : regKey h' b off ≠ regKey h f.reg.blk (f.reg.at i)) : (s.wr f v i h).reg h' b off = s.reg h' b off := by
  unfold State.reg
  rw [wr_regs]
  exact spGet_spSet_other _ _ hk

theorem rd_wr_ne (f g : Fd) (v i j : Nat) (h h' : Half)
    (hk : regKey h' g.reg.blk (g.reg.at j) ≠ regKey h f.reg.blk (f.reg.at i)) :
    (s.wr f v i h).rd g j h' = s.rd g j h' := by
  unfold State.rd
  rw [reg_wr_ne f v i h h' _ _ hk]

/-- A write leaves every other field of the same register as it is. -/
theorem rd_wr_field (hs : s.regsWf) (f g : Fd) (v i j : Nat) (h : Half) (hr : g.reg.blk = f.reg.blk)
    (ho : g.reg.at j = f.reg.at i) (hf : f.lsb + f.width ≤ 32)
    (hd : g.lsb + g.width ≤ f.lsb ∨ f.lsb + f.width ≤ g.lsb) : (s.wr f v i h).rd g j h = s.rd g j h := by
  unfold State.rd State.reg
  rw [hr, ho, wr_regs, spGet_spSet_same _ _ hs]
  exact get_put_ne g f _ v hf hd

theorem regsWf_wr (hs : s.regsWf) (f : Fd) (v i : Nat) (h : Half) : (s.wr f v i h).regsWf := by
  unfold State.regsWf
  rw [wr_regs]
  exact wf_spSet _ _ hs

/-- A counting field after it has counted. -/
theorem rd_count_same (hs : s.regsWf) (f : Fd) (n i : Nat) (h : Half) (hf : f.lsb + f.width ≤ 32) :
    (s.count f n i h).rd f i h = min (2 ^ f.width - 1) (s.rd f i h + n) := by
  unfold State.count
  rw [rd_wr_same hs _ _ _ _ hf]
  refine Nat.mod_eq_of_lt ?_
  have := Nat.two_pow_pos f.width
  unfold satAdd
  omega

theorem rd_count_ne (f g : Fd) (n i j : Nat) (h h' : Half)
    (hk : regKey h' g.reg.blk (g.reg.at j) ≠ regKey h f.reg.blk (f.reg.at i)) :
    (s.count f n i h).rd g j h' = s.rd g j h' := rd_wr_ne _ _ _ _ _ _ _ hk

theorem regsWf_count (hs : s.regsWf) (f : Fd) (n i : Nat) (h : Half) : (s.count f n i h).regsWf := regsWf_wr hs _ _ _ _

/-- A register is read through the register memory alone. -/
theorem rd_congr {s t : State} (h : t.regs = s.regs) (f : Fd) (i : Nat) (k : Half) : t.rd f i k = s.rd f i k := by
  unfold State.rd State.reg
  rw [h]

/-! ### Which registers a change touches -/

theorem regsBut_refl (ks : List Nat) (s : State) : s.RegsBut ks s := fun _ _ => rfl

theorem regsBut_of_eq {ks : List Nat} {s t : State} (h : t.regs = s.regs) : s.RegsBut ks t := fun _ _ => by rw [h]

theorem regsBut_trans {ks : List Nat} {s t u : State} (h : s.RegsBut ks t) (k : t.RegsBut ks u) : s.RegsBut ks u :=
  fun x hx => (k x hx).trans (h x hx)

theorem regsBut_wr {ks : List Nat} {s t : State} (h : s.RegsBut ks t) (f : Fd) (v i : Nat) (k : Half)
    (hk : keyOf f i k ∈ ks) : s.RegsBut ks (t.wr f v i k) := by
  intro x hx
  rw [wr_regs, spGet_spSet_other _ _ (fun he => hx (by rw [he]; exact hk))]
  exact h x hx

theorem regsBut_count {ks : List Nat} {s t : State} (h : s.RegsBut ks t) (f : Fd) (n i : Nat) (k : Half)
    (hk : keyOf f i k ∈ ks) : s.RegsBut ks (t.count f n i k) := regsBut_wr h _ _ _ _ hk

end Sys2Proof.Laws
end

