-- ==== Sys2Proof/Laws/Registers.lean ====
section
/-! SUPPORT. What registers and the event queue hold after the shared operations: a field outside the registers an operation touches
reads as before, an event touches only the two counters of the recorder, and it stands at the end of the queue where there is room. -/

namespace Sys2Proof.Laws

open Sys2Proof Sys2Proof.Machine

variable {s t u : State}

/-! ### Reading through what is unchanged -/

theorem rd_of_regsBut {ks : List Nat} (h : s.RegsBut ks t) {f : Fd} {i : Nat} {k : Half} (hk : keyOf f i k ∉ ks) :
    t.rd f i k = s.rd f i k := by
  unfold State.rd State.reg
  have e : spGet regDefault t.regs (regKey k f.reg.blk (f.reg.at i)) = spGet regDefault s.regs (regKey k f.reg.blk (f.reg.at i)) :=
    h _ hk
  rw [e]

theorem regsBut_mono {ks ls : List Nat} (h : s.RegsBut ks t) (hs : ∀ k ∈ ks, k ∈ ls) : s.RegsBut ls t :=
  fun k hk => h k (fun hm => hk (hs k hm))

theorem regsBut_append {ks ls : List Nat} (h : s.RegsBut ks t) (k : t.RegsBut ls u) : s.RegsBut (ks ++ ls) u :=
  regsBut_trans (regsBut_mono h (by simp +contextual)) (regsBut_mono k (by simp +contextual))

theorem sets_wr (hs : s.regsWf) (f : Fd) (v i : Nat) (h : Half) : s.Sets (s.wr f v i h) f v i h := by
  unfold State.Sets State.reg
  rw [wr_regs, spGet_spSet_same _ _ hs]
  rfl

/-! ### Keys of registers -/

/-- Registers of different blocks have different keys. -/
theorem key_ne_of_blk {b c x y : Nat} (h k : Half) (hb : b < 256) (hc : c < 256) (hx : x < 2 ^ 16) (hy : y < 2 ^ 16)
    (hn : b ≠ c) : regKey h b x ≠ regKey k c y := by
  unfold regKey
  intro he
  apply hn
  split at he <;> split at he <;> omega

/-- Registers at different offsets have different keys. -/
theorem key_ne_of_off {b c x y : Nat} (h k : Half) (hb : b < 256) (hc : c < 256) (hx : x < 2 ^ 16) (hy : y < 2 ^ 16)
    (hn : x ≠ y) : regKey h b x ≠ regKey k c y := by
  unfold regKey
  intro he
  apply hn
  split at he <;> split at he <;> omega

/-- Fields of different registers, by their places; closed places decide it. -/
def apart (f : Fd) (i : Nat) (g : Fd) (j : Nat) : Bool :=
  decide (f.reg.blk < 256) && decide (g.reg.blk < 256) && decide (f.reg.at i < 2 ^ 16) && decide (g.reg.at j < 2 ^ 16) &&
    (decide (g.reg.blk ≠ f.reg.blk) || decide (g.reg.at j ≠ f.reg.at i))

theorem key_ne_of_apart {f g : Fd} {i j : Nat} (h k : Half) (ha : apart f i g j = true) :
    regKey k g.reg.blk (g.reg.at j) ≠ regKey h f.reg.blk (f.reg.at i) := by
  unfold apart at ha
  simp only [Bool.and_eq_true, Bool.or_eq_true, decide_eq_true_eq] at ha
  obtain ⟨⟨⟨⟨h1, h2⟩, h3⟩, h4⟩, h5⟩ := ha
  rcases h5 with h5 | h5
  · exact key_ne_of_blk _ _ h2 h1 h4 h3 h5
  · exact key_ne_of_off _ _ h2 h1 h4 h3 h5

theorem rd_wr_apart {f g : Fd} {i j : Nat} (ha : apart f i g j = true) (v : Nat) (h k : Half) :
    (s.wr f v i h).rd g j k = s.rd g j k := rd_wr_ne _ _ _ _ _ _ _ (key_ne_of_apart _ _ ha)

theorem rd_count_apart {f g : Fd} {i j : Nat} (ha : apart f i g j = true) (n : Nat) (h k : Half) :
    (s.count f n i h).rd g j k = s.rd g j k := rd_wr_apart ha _ _ _

/-- A field whose register is no counter of the recorder. -/
theorem notEvent {f : Fd} {i : Nat} {k : Half} (h1 : apart Fd.EVT_CNT_SUPP_COUNT 0 f i = true)
    (h2 : apart Fd.EVT_CNT_LOST_COUNT 0 f i = true) : keyOf f i k ∉ eventKeys := by
  unfold eventKeys
  simp only [List.mem_cons, List.not_mem_nil, or_false, not_or]
  exact ⟨key_ne_of_apart _ _ h1, key_ne_of_apart _ _ h2⟩

/-! ### Events -/

theorem submit_regsBut (s : State) (src mid code : Nat) (args : List Nat) :
    s.RegsBut eventKeys (s.submit src mid code args).2 := by
  have k1 : keyOf Fd.EVT_CNT_SUPP_COUNT ∈ eventKeys := List.mem_cons_self
  have k2 : keyOf Fd.EVT_CNT_LOST_COUNT ∈ eventKeys := List.mem_cons_of_mem _ List.mem_cons_self
  have e : ∀ (x : State) (f : Evt → Evt), s.RegsBut eventKeys x → s.RegsBut eventKeys (x.updEvt f) :=
    fun x f h k hk => (congrArg (fun m => spGet regDefault m k) (updEvt_regs x f)).trans (h k hk)
  unfold State.submit
  split
  · exact regsBut_refl _ _
  · split
    · exact regsBut_count (e _ _ (regsBut_refl _ _)) _ _ _ _ k1
    · dsimp only
      split <;> split
      · exact e _ _ (regsBut_refl _ _)
      · exact regsBut_count (e _ _ (regsBut_refl _ _)) _ _ _ _ k2
      · exact e _ _ (e _ _ (regsBut_refl _ _))
      · exact regsBut_count (e _ _ (e _ _ (regsBut_refl _ _))) _ _ _ _ k2

theorem submit_records (s : State) (src mid code : Nat) (args : List Nat) :
    s.Records (s.submit src mid code args).2 src mid code args := by
  intro ⟨h1, h2, h3⟩
  unfold State.submit
  rw [if_neg (by simp [h1])]
  split
  · rename_i hc
    simp only [Bool.and_eq_true, Bool.not_eq_true', beq_iff_eq] at hc
    rcases h2 with h2 | h2
    · rw [hc.1] at h2; cases h2
    · exact absurd hc.2 h2
  · dsimp only
    cases exemptCode code <;> exact congrArg (fun p : Nat × State => p.2.evt.queue) (if_pos h3)

theorem hev_regsBut (s : State) (code : Nat) (args : List Nat) : s.RegsBut eventKeys (s.hev code args) := submit_regsBut _ _ _ _ _
theorem uev_regsBut (s : State) (h : Half) (m code : Nat) (args : List Nat) : s.RegsBut eventKeys (s.uev h m code args) :=
  submit_regsBut _ _ _ _ _
theorem aev_regsBut (s : State) (m code : Nat) (args : List Nat) : s.RegsBut eventKeys (s.aev m code args) := by
  unfold State.aev
  split <;> exact submit_regsBut _ _ _ _ _
theorem discarded_regsBut (s : State) (h : Half) (m b off val : Nat) : s.RegsBut eventKeys (s.discarded h m b off val) :=
  submit_regsBut _ _ _ _ _
theorem discarded_records (s : State) (h : Half) (m b off val : Nat) :
    s.Records (s.discarded h m b off val) (if hubBlock b then 0 else halfSrc h) (0x80 + unitPos b) (b * 256) [off, val, m, 0] :=
  submit_records _ _ _ _ _
theorem hev_records (s : State) (code : Nat) (args : List Nat) : s.Records (s.hev code args) 0 0x80 code args :=
  submit_records _ _ _ _ _
theorem uev_records (s : State) (h : Half) (m code : Nat) (args : List Nat) :
    s.Records (s.uev h m code args) (halfSrc h) (0x80 + m) code args := submit_records _ _ _ _ _

/-! ### Which registers a chain of changes touches -/

/-- Fields of one register have one key. -/
theorem keyOf_reg {f g : Fd} (hr : f.reg = g.reg) (i : Nat) (h : Half) : keyOf f i h = keyOf g i h := by
  unfold keyOf; rw [hr]

theorem mem_keys_head {f g : Fd} (hr : f.reg = g.reg) (i : Nat) (h : Half) (ks : List Nat) : keyOf f i h ∈ keyOf g i h :: ks := by
  rw [keyOf_reg hr]; exact List.mem_cons_self

theorem regsBut_congr {ks : List Nat} (h : s.RegsBut ks t) (e : u.regs = t.regs) : s.RegsBut ks u :=
  fun k hk => (congrArg (fun m => spGet regDefault m k) e).trans (h k hk)

theorem regsBut_events {ks : List Nat} (h : s.RegsBut ks t) (e : t.RegsBut eventKeys u) (hk : ∀ k ∈ eventKeys, k ∈ ks) :
    s.RegsBut ks u := regsBut_trans h (regsBut_mono e hk)

/-- A field whose register is no counter of the recorder reads as before an event. -/
theorem rd_hev {f : Fd} {i : Nat} {k : Half} (s : State) (code : Nat) (args : List Nat)
    (h1 : apart Fd.EVT_CNT_SUPP_COUNT 0 f i = true) (h2 : apart Fd.EVT_CNT_LOST_COUNT 0 f i = true) :
    (s.hev code args).rd f i k = s.rd f i k := rd_of_regsBut (hev_regsBut _ _ _) (notEvent h1 h2)
theorem rd_uev {f : Fd} {i : Nat} {k : Half} (s : State) (h : Half) (m code : Nat) (args : List Nat)
    (h1 : apart Fd.EVT_CNT_SUPP_COUNT 0 f i = true) (h2 : apart Fd.EVT_CNT_LOST_COUNT 0 f i = true) :
    (s.uev h m code args).rd f i k = s.rd f i k := rd_of_regsBut (uev_regsBut _ _ _ _ _) (notEvent h1 h2)
theorem rd_aev {f : Fd} {i : Nat} {k : Half} (s : State) (m code : Nat) (args : List Nat)
    (h1 : apart Fd.EVT_CNT_SUPP_COUNT 0 f i = true) (h2 : apart Fd.EVT_CNT_LOST_COUNT 0 f i = true) :
    (s.aev m code args).rd f i k = s.rd f i k := rd_of_regsBut (aev_regsBut _ _ _ _) (notEvent h1 h2)
theorem rd_discarded {f : Fd} {i : Nat} {k : Half} (s : State) (h : Half) (m b off val : Nat)
    (h1 : apart Fd.EVT_CNT_SUPP_COUNT 0 f i = true) (h2 : apart Fd.EVT_CNT_LOST_COUNT 0 f i = true) :
    (s.discarded h m b off val).rd f i k = s.rd f i k := rd_of_regsBut (discarded_regsBut _ _ _ _ _ _) (notEvent h1 h2)

/-! ### The register memory stays in its form -/

theorem regsWf_submit (hs : s.regsWf) (src mid code : Nat) (args : List Nat) : (s.submit src mid code args).2.regsWf := by
  unfold State.submit
  split
  · exact hs
  · split
    · exact regsWf_count hs _ _ _ _
    · dsimp only
      split <;> split
      · exact hs
      · exact regsWf_count hs _ _ _ _
      · exact hs
      · exact regsWf_count hs _ _ _ _

theorem regsWf_hev (hs : s.regsWf) (code : Nat) (args : List Nat) : (s.hev code args).regsWf := regsWf_submit hs _ _ _ _
theorem regsWf_uev (hs : s.regsWf) (h : Half) (m code : Nat) (args : List Nat) : (s.uev h m code args).regsWf :=
  regsWf_submit hs _ _ _ _
theorem regsWf_aev (hs : s.regsWf) (m code : Nat) (args : List Nat) : (s.aev m code args).regsWf := by
  unfold State.aev
  split <;> exact regsWf_submit hs _ _ _ _
theorem regsWf_discarded (hs : s.regsWf) (h : Half) (m b off val : Nat) : (s.discarded h m b off val).regsWf :=
  regsWf_submit hs _ _ _ _
theorem regsWf_congr (hs : s.regsWf) (h : t.regs = s.regs) : t.regsWf := by unfold State.regsWf; rw [h]; exact hs

end Sys2Proof.Laws
end

