-- ==== Sys2Proof/WellFormed.lean ====
section
/-! DEFINITION. Well-formed commands: every operand that the manual bounds lies within its range. -/

namespace Sys2Proof

/-- What bounds a command's header: a function, a queue and a command identifier of 16 bits, and an opcode of 8 bits. -/
def Hdr.bounds (h : Hdr) : List (Nat × Nat) := [(h.fn, 256), (h.sq, 65536), (h.cid, 65536), (h.op.getD 0, 256)]

/-- What bounds a function's settings: payloads to 512 B, reads to 4,096 B (R73), a Completion Timeout Value of four bits (R96). -/
def FnCfg.bounds (c : FnCfg) : List (Nat × Nat) := [(c.mps, 513), (c.mrrs, 4097), (c.cto, 16)]

/-- The operands of a command that the manual bounds, each with its bound: masters below 128, functions below 256, block codes and
offsets in their ranges, and so on. A command that is not named has no such operand. -/
def Instr.bounds : Instr → List (Nat × Nat)
  | .registerWrite m _ blk off width val => [(m, 128), (blk, 256), (off, 65536), (width, 9), (val, 18446744073709551616)]
  | .lowWordRead m _ blk off width => [(m, 128), (blk, 256), (off, 65536), (width, 9)]
  | .schSlackRead _ byte width => [(byte, 8), (width, 9)]
  | .tenMissRead t byte width => [(t, 256), (byte, 8), (width, 9)]
  | .medRfsstatRead byte width => [(byte, 8), (width, 9)]
  | .eccCbmaxRead byte width => [(byte, 8), (width, 9)]
  | .ctgSlotstatRead n byte width => [(n, 16), (byte, 8), (width, 9)]
  | .pwrPkgRead byte width => [(byte, 8), (width, 9)]
  | .loopUpdate eng => [(eng, 2)]
  | .schEnrollWrite m _ val => [(m, 128), (val, 4294967296)]
  | .schDoneSetWrite m _ val cyc => [(m, 128), (val, 4294967296), (cyc, 8000)]
  | .planCommit m _ val => [(m, 128), (val, 4294967296)]
  | .perstDeassert p speed width _ => [(p, 2), (speed, 7), (width, 17)]
  | .configRequestRetry p f reg => [(p, 2), (f, 256), (reg, 4096)]
  | .portLinkDown p => [(p, 2)]
  | .vfEnable pf _ => [(pf, 2)]
  | .busMasterEnableClear f => [(f, 256)]
  | .busMasterEnableSet f cfg => (f, 256) :: cfg.bounds
  | .flrWrite f => [(f, 256)]
  | .flrComplete f => [(f, 256)]
  | .sqTailDoorbell f q v => [(f, 256), (q, 65536), (v, 4294967296)]
  | .cqHeadDoorbell f q v => [(f, 256), (q, 65536), (v, 4294967296)]
  | .ccEnableSet f _ _ asq acq _ _ => [(f, 256), (asq, 4096), (acq, 4096)]
  | .controllerReady f => [(f, 256)]
  | .controllerReset f => [(f, 256)]
  | .controllerResetComplete f => [(f, 256)]
  | .shutdownNotification f => [(f, 256)]
  | .inboundWindowTlp f req bar _ _ _ _ _ _ => [(f, 256), (req, 65536), (bar, 6)]
  | .pmrTlp f req _ _ _ _ _ => [(f, 256), (req, 65536)]
  | .pmrGranuleRotation g => [(g, 4096)]
  | .expansionRomTlp pf _ _ _ => [(pf, 2)]
  | .windowEnableWrite m p e val => [(m, 128), (p, 2), (e, 64), (val, 4294967296)]
  | .tagbudWrite m f val => [(m, 128), (f, 256), (val, 4294967296)]
  | .contextBudgetWrite m f val => [(m, 128), (f, 256), (val, 4294967296)]
  | .splitAllWrite m val => [(m, 128), (val, 4294967296)]
  | .completionTimeout p _ => [(p, 2)]
  | .quarantineEnd p _ => [(p, 2)]
  | .doeSpdmRequest pf code => [(pf, 2), (code, 256)]
  | .writeCommand hd nsid _ nlb _ => hd.bounds ++ [(nsid, 4294967296), (nlb, 65537)]
  | .readCommand hd nsid _ nlb _ => hd.bounds ++ [(nsid, 4294967296), (nlb, 65537)]
  | .compareCommand hd nsid _ nlb _ => hd.bounds ++ [(nsid, 4294967296), (nlb, 65537)]
  | .verifyCommand hd nsid _ nlb => hd.bounds ++ [(nsid, 4294967296), (nlb, 65537)]
  | .writeZeroesCommand hd nsid _ nlb => hd.bounds ++ [(nsid, 4294967296), (nlb, 65537)]
  | .datasetManagementCommand hd nsid _ _ => hd.bounds ++ [(nsid, 4294967296)]
  | .flushCommand hd nsid => hd.bounds ++ [(nsid, 4294967296)]
  | .flushCompletion hd => hd.bounds
  | .deleteIoSubmissionQueue hd q => hd.bounds ++ [(q, 65536)]
  | .createIoSubmissionQueue hd q qsize cq prio _ _ => hd.bounds ++ [(q, 65536), (qsize, 65536), (cq, 65536), (prio, 4)]
  | .deleteIoCompletionQueue hd q => hd.bounds ++ [(q, 65536)]
  | .createIoCompletionQueue hd q qsize iv _ => hd.bounds ++ [(q, 65536), (qsize, 65536), (iv, 65536)]
  | .getLogPage hd nsid lid _ off _ => hd.bounds ++ [(nsid, 4294967296), (lid, 256), (off, 65536)]
  | .identify hd cns nsid => hd.bounds ++ [(cns, 256), (nsid, 4294967296)]
  | .abort hd _ _ => hd.bounds
  | .setFeatures hd fid val => hd.bounds ++ [(fid, 256), (val, 4294967296)]
  | .getFeatures hd fid => hd.bounds ++ [(fid, 256)]
  | .asynchronousEventRequest hd => hd.bounds
  | .namespaceManagement hd sel nsid lbaf _ pi _ => hd.bounds ++ [(sel, 16), (nsid, 4294967296), (lbaf, 16), (pi, 8)]
  | .namespaceAttachment hd _ nsid _ => hd.bounds ++ [(nsid, 4294967296)]
  | .formatNvm hd nsid lbaf ses pi _ => hd.bounds ++ [(nsid, 4294967296), (lbaf, 16), (ses, 8), (pi, 8)]
  | .securitySend hd _ code => hd.bounds ++ [(code, 256)]
  | .securityReceive hd _ => hd.bounds
  | .sanitize hd _ => hd.bounds
  | .gcVictimSelect slice => [(slice, 4)]
  | .gcPlanShift slice _ => [(slice, 4)]
  | .eraseIntentWritten die blk => [(die, 1024), (blk, 256)]
  | .eraseComplete die blk _ => [(die, 1024), (blk, 256)]
  | .erasedMarginReadResult die blk _ => [(die, 1024), (blk, 256)]
  | .eraseDoneWritten die blk => [(die, 1024), (blk, 256)]
  | .suspendAcknowledged die => [(die, 1024)]
  | .slotPresenceDebounce n => [(n, 16)]
  | .slotPowerFault n => [(n, 16)]
  | .buttonPress n _ => [(n, 16)]
  | .reqon m n => [(m, 128), (n, 16)]
  | .reqoff m n => [(m, 128), (n, 16)]
  | .cancel m n => [(m, 128), (n, 16)]
  | .slotPowerGood n => [(n, 16)]
  | .powerGoodTimeout n => [(n, 16)]
  | .slotTrainingStart n => [(n, 16)]
  | .slotTrainingDone n _ _ _ => [(n, 16)]
  | .abortWindowEnd n => [(n, 16)]
  | .slotPowerOff n => [(n, 16)]
  | .surpriseRemoval n _ => [(n, 16)]
  | .scrubGo m val => [(m, 128), (val, 4294967296)]
  | .scrubCancel m => [(m, 128)]
  | .toManual m die grp cyc => [(m, 128), (die, 1024), (grp, 16), (cyc, 8000)]
  | .setMan m die grp cyc => [(m, 128), (die, 1024), (grp, 16), (cyc, 8000)]
  | .toAuto m die grp cyc => [(m, 128), (die, 1024), (grp, 16), (cyc, 8000)]
  | .read m die grp cyc => [(m, 128), (die, 1024), (grp, 16), (cyc, 8000)]
  | .clear m die grp cyc => [(m, 128), (die, 1024), (grp, 16), (cyc, 8000)]
  | .loopAlarm die grp => [(die, 1024), (grp, 16)]
  | .loopRearm die grp => [(die, 1024), (grp, 16)]
  | .dramRequestArrival port _ _ _ _ _ => [(port, 6)]
  | .dramRefresh _ sr => [(sr, 16)]
  | .deviceMarkedFailed sr dev => [(sr, 16), (dev, 16)]
  | .rowRepairQueued sr dev bank row _ => [(sr, 16), (dev, 16), (bank, 32), (row, 262144)]
  | .dramScrubGo m val => [(m, 128), (val, 4294967296)]
  | .dramScrubCancel m => [(m, 128)]
  | .helperGo m val => [(m, 128), (val, 4294967296)]
  | .modeRegisterWrite m mr _ sr dev => [(m, 128), (mr, 256), (sr, 16), (dev, 16)]
  | .modeRegisterRead m mr sr dev => [(m, 128), (mr, 256), (sr, 16), (dev, 16)]
  | .flipArm m val => [(m, 128), (val, 4294967296)]
  | .alloc _ m pool _ tenant cls => [(m, 128), (pool, 4), (tenant, 256), (cls, 4)]
  | .share _ m other => [(m, 128), (other, 128)]
  | .free _ m => [(m, 128)]
  | .query _ m => [(m, 128)]
  | .controlFault _ _ slice => [(slice, 6)]
  | .dataPathFault _ slice _ => [(slice, 6)]
  | .drillNow m => [(m, 128)]
  | .restore m => [(m, 128)]
  | .chimeSend _ m e _ => [(m, 128), (e, 32)]
  | .chimeAck _ m e _ => [(m, 128), (e, 32)]
  | .lockRead _ m n => [(m, 128), (n, 64)]
  | .lockRelease _ m n val => [(m, 128), (n, 64), (val, 4294967296)]
  | .semForce _ m val => [(m, 128), (val, 4294967296)]
  | .programRun m _ => [(m, 128)]
  | .erase m => [(m, 128)]
  | .powerOnReset cause supply => [(cause, 7), (supply, 9)]
  | .entdaa da => [(da, 128)]
  | .setdasa da => [(da, 128)]
  | .setnewda da => [(da, 128)]
  | .setmwl v => [(v, 65536)]
  | .setmrl v => [(v, 65536)]
  | .setEndpointId eid => [(eid, 256)]
  | .settid tid => [(tid, 256)]
  | .getCertificate _ slot => [(slot, 8)]
  | .challenge _ slot => [(slot, 8)]
  | .regRead _ _ blk off => [(blk, 256), (off, 65536)]
  | .regWrite _ _ blk off val => [(blk, 256), (off, 65536), (val, 4294967296)]
  | .consoleUnlock _ _ level hours => [(level, 3), (hours, 25)]
  | .consoleRegisterRead _ blk off => [(blk, 256), (off, 65536)]
  | .consoleRegisterWrite _ blk off val => [(blk, 256), (off, 65536), (val, 4294967296)]
  | .eventSubmit _ m e code => [(m, 128), (e, 128), (code, 65536)]
  | .snapshotGo m val => [(m, 128), (val, 4294967296)]
  | .testGo m val => [(m, 128), (val, 4294967296)]
  | .testStop m => [(m, 128)]
  | .supplyTrip supply _ => [(supply, 9)]
  | .domainRequest m _ d val => [(m, 128), (d, 72), (val, 4294967296)]
  | .slotPresenceLoss n => [(n, 16)]
  | .powerGoodLoss n => [(n, 16)]
  | .cartridgeInsertion n => [(n, 16)]
  | .checkerLock lane => [(lane, 64)]
  | .checkerLockLoss lane => [(lane, 64)]
  | _ => []

/-- A command is well-formed: each bounded operand lies below its bound. -/
def Instr.wf (i : Instr) : Bool := i.bounds.all (fun p => decide (p.1 < p.2))

end Sys2Proof
end

