-- ==== Sys2Proof/Tests/Slice0.lean ====
section
/-! SUPPORT. Tests of the model: the refusals of WellFormed, small examples of the manual, and, for each statement with hypotheses,
states that meet them: in each of those theorems what a check alone does not show comes first, then the other hypotheses, clause by
clause. -/

namespace Sys2Proof.Tests

open Sys2Proof Sys2Proof.Machine
set_option Elab.async false

/-- What an option holds, if anything, has a property. -/
theorem of_opt {α : Type} {o : Option α} {p : α → Prop} [DecidablePred p] (h : o.all (fun a => decide (p a)) = true) :
    ∀ a, o = some a → p a := by
  rintro a rfl
  exact of_decide_eq_true h

/-- Of what an option does not hold, anything is so. -/
theorem of_none {α : Type} {o : Option α} {p : α → Prop} (h : o = none) : ∀ a, o = some a → p a :=
  fun _ e => nomatch h.symm.trans e

/-- The parts of the invariant, each as a check. -/
def invParts (s : State) : List Bool :=
  [Memory.wf regDefault s.regs, Memory.wf (fun _ => 0) s.lg.words, Memory.wf (fun _ => ArrWord.init) s.bt.arr,
   Memory.wf (fun _ => MapEntry.init) s.tr.map, Memory.wf (fun _ => Page.init) s.md.flash, Memory.wf (fun _ => Die.init) s.md.dies,
   Memory.wf (fun _ => Blk.init) s.md.blks, Memory.wf (fun _ => 0) s.dr.cmb, decide (s.evt.queue.length ≤ 512),
   Memory.wf (fun _ => Chan.init) s.chan, Memory.wf (fun _ => 0) s.locks, Memory.wf (fun _ => Fn.init) s.nv.fns,
   Memory.wf (fun _ => Loop.init) s.rg.loops, Memory.wf (fun _ => Loop.init) s.rg.saving, Memory.wf (fun _ => Loop.init) s.rg.saved,
   Memory.wf (fun _ => BufRec.init) s.bf.recs]

/-- A state all of whose parts pass their checks meets the invariant. -/
theorem inv_of {s : State} (h : (invParts s).all id = true) : s.Inv :=
  have p (n : Nat) (hn : n < 16) : (invParts s)[n]'hn = true := List.all_eq_true.mp h _ (List.getElem_mem hn)
  { regs := p 0 (by decide)
    words := p 1 (by decide)
    arr := p 2 (by decide)
    map := p 3 (by decide)
    media := { flash := p 4 (by decide)
               dies := p 5 (by decide)
               blks := p 6 (by decide) }
    cmb := p 7 (by decide)
    queue := of_decide_eq_true (p 8 (by decide))
    chan := p 9 (by decide)
    locks := p 10 (by decide)
    fns := p 11 (by decide)
    regul := { loops := p 12 (by decide)
               saving := p 13 (by decide)
               saved := p 14 (by decide) }
    recs := p 15 (by decide) }

/-- A command's header names a fetched entry, by checks. -/
theorem arrived_of {s : State} {hd : Hdr}
    (h : s.serving = true ∧ s.rd Fd.QUE_ACT_STATE < 2 ∧
      (∃ g ∈ s.nv.grants, g.fn = hd.fn ∧ g.sq = hd.sq ∧ g.cid = hd.cid ∧ g.here = true) ∧ ∀ c ∈ s.nv.ctxs, c.id ≠ s.nv.nextCtx) :
    s.Arrived hd :=
  have ⟨serving, open_, entry, fresh⟩ := h
  { serving, open_, entry, fresh }

/-- A command of a fetched entry may be executed, by checks. -/
theorem fetched_of {s : State} {hd : Hdr}
    (h : (s.serving = true ∧ s.rd Fd.QUE_ACT_STATE < 2 ∧
      (∃ g ∈ s.nv.grants, g.fn = hd.fn ∧ g.sq = hd.sq ∧ g.cid = hd.cid ∧ g.here = true) ∧ ∀ c ∈ s.nv.ctxs, c.id ≠ s.nv.nextCtx) ∧
      hd.sq ∉ (s.fn hd.fn).deleting ∧ hd.op.all (fun o => decide (opcodeKnown (hd.sq == 0) o = true)) = true) :
    s.Fetched hd :=
  { arrived := arrived_of h.1, kept := h.2.1, known := of_opt h.2.2 }

/-- Update mode is held by the session, by checks. -/
theorem inUpdate_of {s : State} {id : Nat} {u : Upd}
    (h : s.svcUp = true ∧ s.operSess id = true ∧ s.sv.upd = some u ∧ u.sess = id) : s.InUpdate id u :=
  have ⟨up, oper, upd, holder⟩ := h
  { up, oper, upd, holder }

/-- Every code word of a read decodes and is not erased, by a check. -/
theorem decodes_of {s : State} {r : DecodeRes}
    (h : ∀ i < 4, (r.cws[i]?).any (fun c => c.ok && decide (s.rd Fd.ECC_CFG_ERASEDTHR ≤ c.zeros)) = true) : s.Decodes r := fun i hi => by
  have ht := h i hi
  cases e : r.cws[i]? with
  | none => rw [e] at ht; cases ht
  | some c =>
    rw [e] at ht
    have hp := Bool.and_eq_true_iff.mp (ht : (c.ok && decide (s.rd Fd.ECC_CFG_ERASEDTHR ≤ c.zeros)) = true)
    exact ⟨c, rfl, hp.1, of_decide_eq_true hp.2⟩

/-- TLPs are taken in outside an output hold and in the fenced state. -/
theorem takesIn_of {s : State} (h : s.hub.hold = false ∨ s.hub.fenced = true) : s.TakesIn := fun hh =>
  h.elim (fun h0 => nomatch h0.symm.trans hh) id

/-- A value that is there, named through a default. -/
theorem some_getD {α : Type} {o : Option α} {d : α} (h : o.isSome = true) : o = some (o.getD d) := by
  cases o with
  | none => cases h
  | some a => rfl

/-- A submission queue and a completion queue of 16 entries of function 0. -/
def sq0 : Sq := { fn := 0, qid := 1, size := 16, cq := 1, prio := 0, base := 0, cmb := false, head := 0, tail := 2, skip := [] }
def cq0 : Cq := { fn := 0, qid := 1, size := 16, iv := 0, base := 0, head := 0, tail := 0, sent := 0 }

/-- A device in service: Half A is ACTIVE and Half B STANDBY, function 0 is enabled with an admin queue pair and an I/O queue pair with
two entries to fetch, and a bar has just begun. -/
def w : State := { (State.reset.wr Fd.BTA_BOOTSTAT_STEP 16) with
  time := ⟨1000, 0⟩
  hub := { Hub.init with a := { HalfRec.init with st := .active, since := 1, epoch := 1 }, b := { HalfRec.init with st := .standby, since := 1 },
                         holder := some .a, leaseEnd := 1005, linkOn := true }
  nv := { Nvme.init with fns := [(0, { Fn.init with en := true, rdy := true, bme := true })],
                         sqs := [{ sq0 with qid := 0, cq := 0, tail := 0 }, sq0], cqs := [{ cq0 with qid := 0 }, cq0] }
  bt := { Boot.init with run := { imgInit with fwOk := true } } }

/-- Reset, as a name of its own. -/
def z : State := State.reset

/-! Small records the states below are made of. -/

def wFn (x : Fn) : State := { w with nv := { w.nv with fns := [(0, x)] } }
def hd0 : Hdr := ⟨0, 1, 7, none⟩
def grant0 : Grant := { fn := 0, sq := 1, idx := 0, cid := 7, tries := 0, here := true, beat := 1000, mark := 0 }
def ns1 : Ns := { id := 1, lbaf := 0, pi := 0, ext := false, lbas := 1000, granules := [0], fns := [0], key := some 0 }
def tag0 : TagRec := { port := 0, val := 3, fn := 0, why := .entry 1 0, left := 64, issued := 900, n := 50, orphan := false, lost := false,
                       quar := none, buf := none }
def rcpl0 : ReadCpl := { port := 0, tag := 3, fn := 0, shapeOk := true, poisoned := false, nbytes := 64, secs := [], xtsOk := true,
                         piFail := none, cid := 7 }
def ctx0 : Ctx := { id := 0, fn := 0, sq := 1, idx := 0, mark := 0, cid := 7, cmd := .write, nsid := 1, slba := 0, nlb := 8, urgent := false,
                    beat := 900, begun := true, xfer := noXfer, listsLeft := 0, lostData := false, reads := [], bytesLeft := 0, data := [],
                    partsLeft := 1, batches := 0, lookups := [], results := [], hold := false, refs := [], slices := [], beyond := false,
                    wrote := false, sent := false, status := none }
def part0 : Part := { id := 0, ctx := some 0, kind := 0, fn := 0, nsid := 1, slba := 0, nlb := 8, last := true, tarts := [(0, true)],
                      vids := [0], jseq := 0, st := .wait }
def ver0 : Ver := { id := 0, ctx := some 0, post := none, owes := none, carries := [0], urgent := false, fn := 0, tenant := 0, nsid := 1,
                    ltn := 0, secs := [], units := [], prim := false, mirror := false, primBad := false, mirrorBad := false, primTag := false,
                    mirrorTag := false, pins := 0, oseq := 0, deps := [0], st := .filling }
def op0 : Op := { id := 0, kind := .read, cls := .host, die := 0, tenant := 0, urgent := false, why := .host 0 0, ppa := 0, sb := 0,
                  unit := 0, mem := 0, tarts := [], born := 900, step := 0, st := .wait, issued := 0, susp := 0, suspBeats := 0, suspAt := 0,
                  tries := 0, us := [], units := [], slotAt := 0, left := 0, quanta := 0, levels := [], kept := false, wake := false }
def sb0 : Sb := ⟨0, .host 1, 0, [], .closed, 0, [], [], false, 0, 0, 0, false⟩
def mapw0 : MapWr := ⟨0, 0, 5, ⟨9, 1, false, false⟩, none, 0, [], true, 0⟩
def jrec0 : JRec := ⟨0, false, .pad 1, 0, false⟩
def look0 : Lookup := ⟨0, 5, [], false, ⟨9, 1, false, false⟩, false⟩
def dec0 : DecodeRes := ⟨[], [], none⟩

theorem w_inv : w.Inv := inv_of (by decide +kernel)
theorem z_inv : z.Inv := inv_of (by decide +kernel)
def wp : State := { w with pending := [.startupStepTimeout] }
def wq : State := w.emit .ur
def w249 : State := { w with time := ⟨1249, 0⟩ }
def wbif : State := w.wr Fd.HST_LINK_BIFUR 1
def wflr : State := { w with nv := { w.nv with fns := [(0, { (w.fn 0) with flrAt := some 500 })] } }
def wstart : State := { w with nv := { w.nv with fns := [(0, { (w.fn 0) with startAt := some 500 })] } }
def wrst : State := { w with nv := { w.nv with fns := [(0, { (w.fn 0) with resetAt := some 500 })] } }
def wdis : State := { w with nv := { w.nv with fns := [(0, { (w.fn 0) with en := false })] } }
def wbme : State := { w with nv := { w.nv with fns := [(0, { (w.fn 0) with bme := false })] } }
def wcom : State := w249.wr Fd.SCH_PLAN_CTRL_COMMIT 1
def wcomBad : State := wcom.wr Fd.SCH_DIEPAT_ROT 250 3
def wdone : State := { w with hub := { w.hub with a := { w.hub.a with dones := (List.range 18).map (fun n => (n, 100)) } } }
def w9620 : State := { w with variant := .fk9620 }
def wvf : State := { w with nv := { w.nv with fns := [(0, { (w.fn 0) with vfOn := true, numVfs := 3 }), (2, { (w.fn 0) with bme := true })], sqs := [{ sq0 with fn := 2 }] } }
def whold : State := { w with hub := { w.hub with hold := true } }
def wcq : State := { w with nv := { w.nv with cqs := [{ cq0 with tail := 2 }] } }
def ulink : State := { w with hub := { w.hub with linkOn := false } }
def ufen : State := { w with hub := { w.hub with fenced := true } }
def uwin : State := ((w.wr Fd.HST_WIN_CTRL_EN 1).wr Fd.HST_WIN_CTRL_LOG2SZ 20).wr Fd.HST_BARCFG_BAR2LOG 30
def uwinR : State := uwin.wr Fd.HST_WIN_CTRL_ACC 1
def upmr : State := uwin.wr Fd.HST_WIN_TGT_TGT 0xF0000000
def upmr2 : State := upmr.wr Fd.LDG_PMRSTAT_HSTS 2
def urom : State := (w.wr Fd.HST_BARCFG_MODE 1).wr Fd.HST_BARCFG_ROMLOG 16
def ugr : State := { w with lg := { w.lg with granWr := [(0, 2 ^ 26)] } }
def ugrs : State := { ugr with lg := { ugr.lg with spares := [4097] } }
def ugr0 : State := { ugr with lg := { ugr.lg with spares := [] } }
def uwe : State := ((w.wr Fd.HST_WIN_TGT_TGT 0x10000).wr Fd.HST_BARCFG_BAR2LOG 30).wr Fd.HST_BARCFG_MODE 0
def utag : State := { w with nv := { w.nv with tags := [tag0], grants := [{ grant0 with here := false, cid := 0 }] } }
def uq : State := { w with nv := { w.nv with tags := [{ tag0 with quar := some 1000 }] } }
def uq2 : State := { w with nv := { w.nv with tags := [{ tag0 with quar := some 1001 }] } }
def uh : State := { w with time := ⟨920, 0⟩, nv := { w.nv with tags := [tag0] } }
def uf : State := { w with nv := { w.nv with grants := [grant0] } }
def ufdel : State := { w with nv := { w.nv with grants := [grant0], fns := [(0, { (w.fn 0) with deleting := [1] })] } }
def ufq : State := uf.wr Fd.QUE_FNQ_COUNT 4
def ufq2 : State := { ufq with nv := { ufq.nv with cqs := [cq0], sqs := [{ sq0 with qid := 2, cq := 0 }, sq0], ctxs := [{ ctx0 with cid := 9, sq := 2 }], nextCtx := 1 } }
def ufqc : State := { ufq with nv := { ufq.nv with cqs := [cq0, { cq0 with qid := 2 }] } }
def ufqd : State := { ufq2 with nv := { ufq2.nv with ctxs := [] } }
def ufqx : State := { ufq with nv := { ufq.nv with fns := [(0, { (w.fn 0) with deleting := [2] })], sqs := [sq0, { sq0 with qid := 2 }] } }
def ufrep : State := { uf with nv := { uf.nv with fns := [(0, { (w.fn 0) with masks := [⟨0, 0, 0xC1⟩, ⟨1, 0, 2⟩], c1h := { (w.fn 0).c1h with entries := [⟨1, 0, 8, 1, 900⟩] } })] } }
def ufab : State := { w with nv := { w.nv with grants := [grant0], ctxs := [{ ctx0 with id := 5, cid := 9, cmd := .compare }], nextCtx := 6 } }
def ufab8 : State := { w with nv := { w.nv with grants := [grant0], ctxs := List.replicate 8 { ctx0 with id := 5, cid := 9, cmd := .abort }, nextCtx := 6 } }
def ufabn : State := { w with nv := { w.nv with grants := [grant0], ctxs := [{ ctx0 with id := 5, cid := 9, cmd := .abort }], nextCtx := 6 } }
def ufabg : State := { w with nv := { w.nv with grants := [grant0, { grant0 with cid := 9 }] } }
def ufer : State := { w with nv := { w.nv with grants := [grant0], ctxs := List.replicate 8 { ctx0 with id := 5, cid := 9, cmd := .aer }, nextCtx := 6 } }
def uff : State := { w with nv := { w.nv with grants := [{ grant0 with fn := 5 }] } }
def ufv : State := { w with nv := { w.nv with grants := [{ grant0 with fn := 5 }] } }
def ufn : State := { w with nv := { w.nv with grants := [grant0] }, tr := { w.tr with ns := [ns1] } }
def ufc : State := (ufn.wr Fd.MAP_TARTS_LO_COUNT 131072).wr Fd.SEC_STAT_RNGOK 1
def ufcr : State := ufc.wr Fd.SEC_STAT_RNGOK 0
def ufcd : State := { ufc with md := { ufc.md with dies := [(0, { (ufc.die 0) with st := 1 })] }, tr := { ufc.tr with vers := [ver0], map := [(5, ⟨9, 1, false, false⟩)], mapq := [] } }
def ufcs : State := { ufc with nv := { ufc.nv with sanitize := some 3 } }
def ufna : State := { ufc with tr := { ufc.tr with ns := [{ ns1 with fns := [0] }] } }
def ufnb : State := { ufc with tr := { ufc.tr with ns := [{ ns1 with fns := [] }] } }
def ufull : State := { ufc with tr := { ufc.tr with ns := (List.range' 1 1024).map (fun i => { ns1 with id := i }) } }
def usan : State := ((w.wr Fd.SEC_SANITIZE_STEP 5).wr Fd.SEC_SANITIZE_STATE 1).updNv (fun n => { n with sanitize := some 0, ctxs := [{ ctx0 with cmd := .sanitize }], nextCtx := 1 })
def usanw : State := usan.wr Fd.SEC_SANITIZE_STEP 2
def ups : State := { w with nv := { w.nv with psAt := some 1000 } }
def uexit : State := w.wr Fd.QUE_PWR_EXIT 1
def useal : State := ufn.wr Fd.MED_SEAL_STATE 1
def ufl : State := { w with nv := { w.nv with ctxs := [{ ctx0 with cmd := .flush }] } }
def uwc : State := { w with nv := { w.nv with ctxs := [ctx0] } }
def ufnv : State := { w with nv := { w.nv with grants := [{ grant0 with mark := 3 }], nextCtx := 1 }, tr := { w.tr with ns := [ns1], vers := [{ ver0 with st := .committed, owes := some 3 }], nextId := 1 } }
def ufnb2 : State := { w with nv := { w.nv with grants := [{ grant0 with beat := 999 }] }, tr := { w.tr with ns := [ns1] } }
def uver : State := { w with tr := { w.tr with vers := [{ ver0 with prim := true, mirror := true }], parts := [{ part0 with st := .filling }], nextId := 1 } }
def upart : State := { w with tr := { w.tr with parts := [part0] } }
def ubody : State := { w with tr := { w.tr with parts := [{ part0 with st := .body }] }, lg := { w.lg with live := [⟨0, false, .pad 1, 0, false⟩] } }
def uhead : State := { w with tr := { w.tr with parts := [{ part0 with st := .header }], vers := [{ ver0 with prim := true, mirror := true }], nextId := 1 } }
def uverm : State := { uver with tr := { uver.tr with vers := [{ ver0 with prim := true, secs := (List.range 32).map (fun i => (i, padSector)) }] } }
def uvert : State := { uver with nv := { uver.nv with ctxs := [ctx0] }, tr := { uver.tr with vers := [{ ver0 with prim := true, mirrorTag := true, secs := (List.range 32).map (fun i => (i, padSector)) }] } }
def vmap : State := { w with tr := { w.tr with mapq := [mapw0], ns := [ns1] }, lg := { w.lg with live := [{ jrec0 with valid := true }] } }
def vdies : State := { w with md := { w.md with dies := [(0, { Die.init with st := 1 })] } }
def vdelta : State := { vdies with lg := { w.lg with live := (List.range 1024).reverse.map (fun j => ⟨j, false, .mapDelta 0 0 .init j 0, 0, true⟩) } }
def vblk : State := { w with lg := { w.lg with live := [(⟨0, false, .blkTab 0 0 0 5, 0, false⟩ : JRec)] } }
def vwat : State := { w with tr := { w.tr with watch := [⟨2, 0, 0, 5, 7⟩] } }
def vwat6 : State := { w with tr := { w.tr with watch := [⟨2, 0, 0, 5, 6⟩] } }
def vwat1 : State := { w with tr := { w.tr with watch := [⟨2, 1, 4, 5, 7⟩] } }
def vwat2 : State := { w with tr := { w.tr with watch := [⟨2, 2, 0, 5, 7⟩] } }
def vwat3 : State := { w with tr := { w.tr with watch := [⟨2, 3, 4, 5, 7⟩] } }
def vstg : State := (w.wr Fd.MAP_RACFG_LIFE 1000).updTr (fun t => { t with staged := [(⟨4, 0, 1, 5, 1, 9, 0, none⟩ : Staged)], watch := [⟨2, 1, 4, 5, 3⟩] })
def vwat0 : State := { w with tr := { w.tr with watch := [⟨2, 0, 0, 5, 7⟩], nextId := 5 } }
def vlk : State := { w with nv := { w.nv with ctxs := [{ ctx0 with lookups := [look0] }] } }
def vlk2 : State := { w with nv := { w.nv with ctxs := [{ ctx0 with lookups := [{ look0 with entry := ⟨9, 1, false, true⟩ }] }] } }
def vrd : State := { w with md := { w.md with ops := [{ op0 with st := .busy }], nextOp := 1 } }
def vst0 : State := { w with md := { w.md with ops := [{ op0 with st := .busy, why := .stage 0 1, ppa := 9 }], nextOp := 1 } }
def vcp : State := { w with md := { w.md with ops := [{ op0 with st := .busy, why := .copy 0 5 }], nextOp := 1 } }
def vcal : State := { w with md := { w.md with ops := [{ op0 with st := .busy, why := .calib 0 0 }], nextOp := 1 } }
def vpat : State := { w with md := { w.md with ops := [{ op0 with st := .busy, why := .patrol }], nextOp := 1 } }
def vst : State := { vst0 with tr := { w.tr with staged := [(⟨4, 0, 1, 5, 1, 9, 0, none⟩ : Staged)] } }
def vhr : State := { vrd with nv := { w.nv with ctxs := [{ ctx0 with cmd := .read, lookups := [{ look0 with i := 0, back := true }], results := [({ i := 0, op := 0, spec := false, gen := 1, ppa := 9, final := false, confirmed := false, early := false, dead := false, secs := [], cws := [], side := [], badTags := [], piFail := none } : Result)] }] }, tr := { w.tr with ns := [ns1] } }
def vpatz : State := { vpat with md := { vpat.md with flash := [(0, ⟨none, List.replicate 32 padSector⟩)] } }
def vpr : State := { w with md := { w.md with ops := [{ op0 with kind := .program, st := .busy, why := .metadata, units := [0] }], nextOp := 1 } }
def vpr2 : State := { w with md := { w.md with ops := [{ op0 with kind := .program, st := .busy, why := .metadata, units := [2] }], nextOp := 1 } }
def vgeo : State := w.wr Fd.MED_GEOM_PGBITS 8
def vsb : State := { vgeo with md := { vgeo.md with ops := [{ op0 with kind := .program, st := .busy, why := .unit, tarts := [⟨5, List.replicate 32 padSector, [], none, false, 0, 0, 0⟩] }], nextOp := 1, sbs := [{ sb0 with st := .open_, members := [(⟨0, [5, 5, 5, 5], 0⟩ : Member), ⟨1, [5], 0⟩], media := 0 }] } }
def vsbp : State := { vgeo with md := { vgeo.md with ops := [{ op0 with kind := .program, st := .busy, why := .parity, cls := .rfs }], nextOp := 1, sbs := [{ sb0 with st := .open_, members := [(⟨0, [5, 5, 5, 5], 0⟩ : Member), ⟨1, [5], 0⟩], media := 0 }], partials := [⟨0, [List.replicate 32 padSector]⟩] } }
def vsus : State := { w with md := { w.md with ops := [{ op0 with st := .busy, suspAt := 5 }], nextOp := 1 } }
def vlim : State := ({ w with time := ⟨2000000000, 0⟩, md := { w.md with ops := [{ op0 with st := .busy, issued := 0 }], nextOp := 1 } } : State).wr Fd.MED_RETCFG_NORESP 8
def vzq : State := w.wr Fd.FCH_CHSTAT_STATE 2 3
def vgc : State := { vdies with md := { vdies.md with sbs := [sb0] } }
def vvic : State := { vdies with md := { vdies.md with sbs := [{ sb0 with st := .victim, members := [⟨0, [3], 0⟩] }] } }
def vei : State := { w with md := { w.md with erases := [(⟨0, 3, [3], 1, .intent⟩ : Erase)] }, lg := { w.lg with live := [(⟨0, false, .eraseIntent 0 1 1 [3], 0, false⟩ : JRec)] } }
def vee : State := { w with md := { w.md with erases := [(⟨0, 3, [3], 1, .erasing⟩ : Erase)], ops := [{ op0 with kind := .erase, st := .busy, why := .erase, ppa := 3 }] } }
def vem : State := { w with md := { w.md with erases := [(⟨0, 3, [3], 1, .erased⟩ : Erase)], ops := [{ op0 with kind := .margin, st := .busy, why := .erase, ppa := 3 }] } }
def vep : State := { w with md := { w.md with erases := [(⟨0, 3, [3], 1, .passed⟩ : Erase)] }, lg := { w.lg with live := [(⟨0, false, .eraseDone 0 1 1 [3], 0, false⟩ : JRec)] } }
def vsh : State := (vdies.setReg .a Blk.SCH (Reg.SCH_PATROW.at 3) 0).updSched (fun c => { c with lowBars := [250] })
def vunsh : State := ((vdies.setReg .a Blk.SCH (Reg.SCH_PATROW.at 3) 1).wr Fd.MED_GCCFG_STOP 0).updSched (fun c => { c with shifted := [0] })
def vday : State := ({ vdies with time := ⟨dayBeats, 0⟩, md := { vdies.md with blks := [(0, { Blk.init with erases := 500 })] } } : State)
def vday0 : State := { vday with bt := { vday.bt with onBeats := 0 }, md := { vday.md with blks := [] } }
def vcar : State := { w with lg := { w.lg with live := [(⟨0, false, .blkTab 0 0 0 5, 0, true⟩ : JRec)], head := 4000000 } }
def sins : State := { w with slots := { Slot.init with prsnt := true } :: w.slots.tail }
def sdeb : State := { w with slots := { Slot.init with prsnt := true, debounce := 10000 } :: w.slots.tail }
def spre : State := { w with slots := { Slot.init with st := .present, prsnt := true } :: w.slots.tail }
def spow : State := { w with slots := { Slot.init with st := .powering, onAt := 0 } :: w.slots.tail }
def spowl : State := { spow with time := ⟨10000000, 0⟩ }
def sgd : State := { w with slots := { Slot.init with st := .powering, goodAt := some 500 } :: w.slots.tail }
def str : State := { w with slots := { Slot.init with st := .training } :: w.slots.tail }
def sdeba : State := sdeb.wr Fd.CTG_CFG_AUTOON 1
def sdebn : State := sdeb.wr Fd.CTG_CFG_AUTOON 0
def soff : State := { w with slots := { Slot.init with st := .off, prsnt := true } :: w.slots.tail }
def sdom : State := (spre.wr Fd.PWR_DOM_STATE 2 64)
def strd : State := (str.wr Fd.BTA_BOOTSTAT_STEP 5).updHub (fun h => { h with linkOn := false })
def strg : State := (str.wr Fd.MED_GEOM_VALID 1 0)
def sar : State := { w with slots := { Slot.init with armed := true, lowBars := 19 } :: w.slots.tail }
def sin : State := { w with slots := { Slot.init with st := .inUse, prsnt := true } :: w.slots.tail }
def srm : State := { w with slots := { Slot.init with st := .removing, abortEnd := some 1000 } :: w.slots.tail }
def scl : State := { w with slots := { Slot.init with st := .removing, closing := true } :: w.slots.tail }
def siff : State := { sin with slots := (List.range 16).map (fun k => if k < 4 then { Slot.init with st := .inUse, prsnt := true, pwren := true } else .init), md := { w.md with dies := [(3, { Die.init with st := 1 })] } }
def srm0 : State := { siff with slots := { Slot.init with st := .removing, abortEnd := some 1000, prsnt := true } :: siff.slots.tail }
def z96 : State := { w with variant := .fk9612 }
def wnb : State := { w with time := ⟨1001, 0⟩ }
def vscr : State := { w with md := { w.md with scrub := some (⟨1, 0, 0, 1, 1, false, 0, 0, 0, 0, 0, 0, 0, 0, 0, 0⟩ : Scrub) } }
def vscc : State := { w with md := { w.md with scrub := some (⟨1, 0, 0, 1, 0, true, 0, 0, 0, 0, 0, 0, 0, 0, 0, 0⟩ : Scrub) } }
def vsc0 : State := { w with md := { w.md with scrub := some (⟨1, 0, 0, 1, 0, false, 0, 0, 0, 0, 0, 0, 0, 0, 0, 0⟩ : Scrub) } }
def vgo : State := (w.wr Fd.ECC_SCRUBCOUNT_COUNT 5).wr Fd.MAP_TARTS_LO_COUNT 5
def vsav : State := { vdies with time := ⟨250000, 0⟩ }
def rc1 : State := { w with rg := { w.rg with cmd := some ⟨0, 2, 1, false⟩ } }
def rc4 : State := { w with rg := { w.rg with cmd := some ⟨0, 2, 4, false⟩ } }
def rc5 : State := ({ w with rg := { w.rg with cmd := some ⟨0, 2, 5, false⟩ } } : State).wr Fd.RGL_FECFG_FETIME 5
def rman : State := { w with rg := { w.rg with loops := [(2, { Loop.init with mode := 2, rearm := 9 })] } }
def rman2 : State := (rman.wr Fd.RGL_CFG_AUTOREARM 1).wr Fd.RGL_FECFG_REARM 9
def rtm : State := { w with rg := { w.rg with loops := [(2, { Loop.init with timer := 100000 })] } }
def rfe : State := w.wr Fd.RGL_FECFG_FETIME 5
def rld : State := { w with md := { w.md with dies := [(0, { Die.init with st := 1 }), (5, { Die.init with st := 2 })] } }
def rldm : State := { rld with rg := { rld.rg with loops := [(2, { Loop.init with mode := 1 })] } }
def rhot : State := { w with rg := { w.rg with hot := 3 } }
def ploss : State := { w with lg := { w.lg with loss := some ⟨999, false, false, 0, 0⟩ } }
def pflu : State := { w with lg := { w.lg with loss := some ⟨999, true, false, 0, 0⟩ } }
def pprog : State := { pflu with md := { w.md with ops := [{ op0 with kind := .program, st := .busy }] } }
def pdone : State := { w with lg := { w.lg with loss := some ⟨999, true, true, 0, 0⟩ } }
def pfen : State := { w with hub := { w.hub with fenced := true, flusher := some .a } }
def pgeo : State := (w.wr Fd.MED_GEOM_PPB 4092).wr Fd.MED_GEOM_BPP 1000
def prel : State := { pgeo with lg := { w.lg with toRelease := true, flushPer := 1 }, md := { w.md with dies := (List.range 4).map (fun c => (c, { Die.init with st := 1 })) } }
def drq : State := { w with dr := { w.dr with queue := [(⟨0, 1, false, false, 0x2000000, false, .a, 1000, 5, false⟩ : DReq)], nextReq := 1 } }
def dri : State := { w with dr := { w.dr with queue := [(⟨0, 1, false, false, 0x2000000, false, .a, 1000, 5, true⟩ : DReq)], nextReq := 1 } }
def drep : State := { w with dr := { w.dr with repair := some ((⟨0, 1, 2, 3, false⟩ : RepRow), 1, 0) } }
def dtst : State := { (w.wr Fd.TST_CTRL_IFACE 4) with ts := some ⟨0, true, 0, [], 0, ⟨0, false, 0, 0, 0, none⟩⟩ }
def dfail : State := (w.wr Fd.DRC_DEVSTAT_FAILED 1 0).wr Fd.DRC_DEVSTAT_DEVICE 3 0
def dpe : State := ({ w with dr := { w.dr with patrolAt := 0xFFFFFFFF } } : State).wr Fd.DRC_CFG_DENS 1
def dpe2 : State := { w with dr := { w.dr with patrolAt := 0x7FFFFFFF } }
def dsc : State := { w with dr := { w.dr with scrub := some (⟨1, 0, 4, 0, 0, false, 0, 0, 0, 0, []⟩ : DScrub) } }
def dse : State := { w with dr := { w.dr with scrub := some (⟨1, 0, 4, 4, 0, false, 0, 0, 0, 0, []⟩ : DScrub) } }
def dseen : State := { w with dr := { w.dr with rowSeen := [(0, 1, 2, 3, 4)] } }
def dthr : State := (dseen.wr Fd.DRC_ECCCFG_DEVTHR 1).wr Fd.DRC_PPRCFG_ROWTHR 1
def dth5 : State := (w.wr Fd.DRC_ECCCFG_DEVTHR 1).wr Fd.DRC_PPRCFG_ROWTHR 1
def drqr : State := (({ pgeo with dr := { w.dr with repairQ := [(⟨0, 1, 2, 3, false⟩ : RepRow)] }, lg := { w.lg with flushPer := 1 }, md := { w.md with dies := (List.range 16).map (fun c => (32 * c, { Die.init with st := 1 })) } } : State).wr Fd.DRC_PPRCFG_INSVC 1).wr Fd.DRC_PPRCFG_PGMBEATS 2
def dgo : State := w.wr Fd.DRC_SCRUBCOUNT_LINES 4
def dbusy : State := w.wr Fd.DRC_PATCTRL_BUSY 1
def dsr : State := (w.sramWrite .a 1028 5 [(0, 7)])
def bwait : State := { w with bf := { w.bf with waits := [⟨.a, 8, 0, false, 1, 0⟩] } }
def bten : State := { w with sched := { w.sched with admitted := [(1, ⟨0, 0, 0, 0, 100⟩)] } }
def bwq : State := { bten with bf := { bten.bf with waits := [⟨.a, 8, 0, false, 1, 0⟩] } }
def bown : State := ({ w with bf := { w.bf with recs := [(bufKey .a (mkHandle 0 0 0 4 1), ⟨1, [8], some 1, 1⟩)] } } : State).wr Fd.BUF_ARG_HANDLE (mkHandle 0 0 0 4 1) 8 .a
def both : State := ({ w with bf := { w.bf with recs := [(bufKey .a (mkHandle 0 0 0 4 1), ⟨1, [9], some 1, 1⟩)] } } : State).wr Fd.BUF_ARG_HANDLE (mkHandle 0 0 0 4 1) 8 .a
def bnone : State := w.wr Fd.BUF_ARG_HANDLE (mkHandle 0 0 0 4 1) 8 .a
def bbad : State := w.wr Fd.BUF_ARG_HANDLE 0xE000000 8 .a
def hwire : State := { w with hub := { w.hub with b := { HalfRec.init with st := .standby, since := 1 }, wire := some (⟨999, 0, [], [], []⟩ : Shadow) } }
def hsync : State := { w with hub := { w.hub with b := { HalfRec.init with st := .syncing, bulk := true, since := 999 } } }
def hunf : State := { w with hub := { w.hub with b := { HalfRec.init with st := .unfit, since := 1 } } }
def hstale : State := { w with time := ⟨2000000000, 0⟩, hub := { w.hub with b := { HalfRec.init with st := .syncing, since := 1 } } }
def hres : State := hunf.wr Fd.SAF_CTRL_RESTORE 1
def hring : State := { w with hub := { w.hub with restoring := some .b } }
def hunfh : State := { hunf with hub := { hunf.hub with hold := true } }
def hgone : State := { w with hub := { w.hub with a := { w.hub.a with gone := true }, leaseEnd := 1000 } }
def hgone2 : State := { w with hub := { w.hub with a := { w.hub.a with gone := true }, leaseEnd := 1000, b := HalfRec.init } }
def hgoneL : State := { w with hub := { w.hub with a := { w.hub.a with gone := true }, leaseEnd := 1000, linkOn := false } }
def htake : State := { w with hub := { w.hub with take := some (⟨.a, 995, false, false⟩ : TakeOver) } }
def hfl : State := { w with hub := { w.hub with fenced := true, flusher := some .a } }
def dnow : State := { w with hub := { w.hub with drill := { w.hub.drill with next := 5000, nowReq := true } } }
def dlater : State := { w with hub := { w.hub with drill := { w.hub.drill with next := 5000 } } }
def dmark : State := { w with hub := { w.hub with drill := { w.hub.drill with mark := some 900 } } }
def dd : State := { w with hub := { w.hub with drill := { w.hub.drill with d := some 999 } } }
def dtk : State := { w with hub := { w.hub with drill := { w.hub.drill with d := some 995 }, take := some (⟨.b, 995, true, false⟩ : TakeOver) } }
def dpass : State := { w with hub := { w.hub with drill := { w.hub.drill with d := some 900, granted := true, passAt := some 1000 } } }
def ddef : State := { w with hub := { w.hub with drill := { w.hub.drill with mark := some 900, deferred := 3600000 } } }
def dmarkf : State := { dmark with time := ⟨1000000, 0⟩ }
def dmarkh : State := { dmark with hub := { dmark.hub with hold := true } }
def cfull : State := { w with chan := [(chanKey .a 0 1, ⟨true, 5, 1⟩)] }
def lheld : State := { w with locks := [(lockKey .a 3, 2)] }
def eq1 : State := { w with evt := { w.evt with queue := [(⟨900, 5, 0, 0, 0, []⟩ : EvRec)] } }
def ehour : State := { w with time := ⟨900000000, 0⟩ }
def esnap : State := w.wr Fd.EVT_SNAPCTRL_GO 1
def eclr : State := { w with evt := { w.evt with clearing := some ⟨0, 5, 0, 0, 0, 0⟩ } }
def esup : State := { w with evt := { w.evt with used := [(0x0601, 4096)] } }
def efullq : State := { w with evt := { w.evt with queue := List.replicate 512 (⟨900, 5, 0, 0, 0, []⟩ : EvRec) } }
def ecpy : State := { w with evt := { w.evt with seq := 1 } }
def tgo : State := z
def tnew : State := ({ w with ts := some (⟨1, false, 0, [], 0, ⟨0, false, 0, 0, 0, none⟩⟩ : TestRun) } : State)
def trun : State := ({ w with ts := some (⟨1, true, 0, [3], 0, ⟨0, false, 0, 0, 0, none⟩⟩ : TestRun) } : State).wr Fd.TST_CTRL_IFACE 1
def tstop : State := (trun.wr Fd.TST_CTRL_STOP 1)
def tstop2 : State := tstop.wr Fd.TST_CTRL_IFACE 2
def thost : State := ({ tnew with nv := { tnew.nv with fns := [(0, { Fn.init with bme := true })] } } : State).wr Fd.TST_CTRL_IFACE 2
def bop : State := { w with bt := { w.bt with op := some ⟨1, 0, [], 0, 900⟩ } }
def bboot : State := { w with hub := { w.hub with linkOn := false } }
def bb1 : State := bboot.wr Fd.BTA_BOOTSTAT_STEP 3
def bblate : State := { bb1 with time := ⟨5000, 0⟩ }
def bhold : State := { w with hub := { w.hub with hold := true } }
def bera : State := w.wr Fd.BTA_OPADDR_ADDR 0x400
def bs1 : State := bboot.wr Fd.BTA_BOOTSTAT_STEP 1
def bs2 : State := bboot.wr Fd.BTA_BOOTSTAT_STEP 2
def bs3 : State := bboot.wr Fd.BTA_BOOTSTAT_STEP 3
def bs4 : State := bboot.wr Fd.BTA_BOOTSTAT_STEP 4
def bs5 : State := bboot.wr Fd.BTA_BOOTSTAT_STEP 5
def bs6 : State := bboot.wr Fd.BTA_BOOTSTAT_STEP 6
def bs7 : State := bboot.wr Fd.BTA_BOOTSTAT_STEP 7
def bs8 : State := bboot.wr Fd.BTA_BOOTSTAT_STEP 8
def bs9 : State := bboot.wr Fd.BTA_BOOTSTAT_STEP 9
def bs10 : State := bboot.wr Fd.BTA_BOOTSTAT_STEP 10
def bs11 : State := bboot.wr Fd.BTA_BOOTSTAT_STEP 11
def bs12 : State := bboot.wr Fd.BTA_BOOTSTAT_STEP 12
def bs13 : State := bboot.wr Fd.BTA_BOOTSTAT_STEP 13
def bs14 : State := bboot.wr Fd.BTA_BOOTSTAT_STEP 14
def bs15 : State := bboot.wr Fd.BTA_BOOTSTAT_STEP 15
def bs2v : State := { bs2 with variant := .fk9620 }
def bs7l : State := { bs7 with hub := { bs7.hub with b := { bs7.hub.b with st := .loading } } }
def bs10c : State := bs10.wr Fd.SCH_PLAN_CTRL_COMMIT 1 0 .a
def bs4b : State := (bs4.each [0, 3] (fun s j => s.progOpt (descIdx 0 j) 0))
def bs7o : State := { bs7 with time := ⟨50000, 0⟩ }
def bs12m : State := { bs12 with tr := { bs12.tr with segs := [{ seg := 0, next := 5, bad := false, entries := [(3, ⟨77, 1, false, false⟩)] }] } }
def bs15s : State := { bs15 with nv := { bs15.nv with sanitize := some 0 } }
def bb1n : State := { bb1 with bt := { bb1.bt with stepAt := 999 } }
def vpk : State := { w with sv := { w.sv with pkts := [(0, [1])] } }
def vcut : State := ({ w with ts := some ⟨2, true, 0, [], 0, ⟨0, false, 0, 0, 0, none⟩⟩ } : State)
def vda : State := w.wr Fd.SVC_I3C_DAVALID 1
def vses : State := { w with sv := { w.sv with sess := [⟨1, true, true, none, 1000, false⟩] } }
def vse : State := { w with sv := { w.sv with sess := [⟨1, true, true, none, 1000, false⟩] } }
def vup : State := { w with sv := { w.sv with sess := [⟨1, true, true, none, 1000, false⟩], upd := some (⟨1, 64, [], [], none, 0, false, false, false, 1000⟩ : Upd) } }
def vdn : State := ({ w with sv := { w.sv with sess := [⟨1, true, true, none, 1000, false⟩], upd := some (⟨1, 64, [], [], some (0, 64), 0, false, false, false, 1000⟩ : Upd) } } : State).wr Fd.SVC_PLDMSTAT_STATE 3
def vold : State := { vup with time := ⟨15001000, 0⟩ }
def vuh : State := vup.wr Fd.BTA_STAT_BROWN 1
def vnl : State := { vse with nv := { vse.nv with sanitize := some 0 } }
def vu2 : State := vup.wr Fd.SVC_PLDMSTAT_STATE 2
def vc1 : State := ({ w with sv := { w.sv with sess := [⟨1, true, true, none, 1000, false⟩], upd := some (⟨1, 64, [], [], some (1, 64), 0, false, true, false, 1000⟩ : Upd) } } : State).wr Fd.SVC_PLDMSTAT_STATE 3
def vc2 : State := ({ w with sv := { w.sv with sess := [⟨1, true, true, none, 1000, false⟩], upd := some (⟨1, 64, [], [], some (1, 64), 0, true, true, false, 1000⟩ : Upd) } } : State).wr Fd.SVC_PLDMSTAT_STATE 3
def vmkd : State := (vse.each [0, 1] (fun s j => s.progOpt (descIdx 1 j) 0))
def vsr : State := (({ prel with sv := vse.sv } : State).each [0, 1] (fun s j => s.progOpt (descIdx 1 j) 0))
def vq0 : State := { w with sv := { w.sv with act := some (⟨0, imgInit, 1, none, none, none, false⟩ : Act) } }
def vq1 : State := { w with sv := { w.sv with act := some (⟨0, imgInit, 1, some 900, none, none, false⟩ : Act) } }
def vq2 : State := { w with sv := { w.sv with act := some (⟨0, imgInit, 1, some 900, some 950, none, false⟩ : Act) } }
def vq3 : State := { w with sv := { w.sv with act := some (⟨0, imgInit, 1, some 900, some 950, some 960, false⟩ : Act) } }
def vqo : State := { vq3 with time := ⟨3000, 0⟩ }
def vst3 : State := { w with sv := { w.sv with spdm := [(0, 3), (1, 3), (2, 3)] } }
def vst3d : State := vst3
def vsold : State := { vse with time := ⟨7501000, 0⟩ }
def uf0 : State := { w with nv := { w.nv with grants := [{ grant0 with sq := 0 }] } }
def vsn : State := { w with sv := { w.sv with sess := [⟨1, true, false, none, 1000, false⟩] } }
def vsm : State := { w with sv := { w.sv with sess := [⟨1, true, false, none, 1000, true⟩] } }
def vno : State := { w with sv := { w.sv with sess := [⟨1, true, true, some (5, 1000), 1000, false⟩] } }
def vnoOld : State := { vno with time := ⟨15001000, 0⟩ }
def vrec : State := { w with sv := { w.sv with sess := [⟨1, true, true, none, 1000, false⟩], recovery := true } }
def vcon : State := w.wr Fd.SVC_CONSOLE_LEVEL 1
def vcon2 : State := ({ w with sv := { w.sv with consEnd := 2000 } } : State).wr Fd.SVC_CONSOLE_LEVEL 2
def vcf : State := (vse.each [0, 1, 2] (fun s j => s.progOpt (descIdx 0 j) 0)).updBt (fun b => { b with attempt := some (0, 1) })
def vcf3 : State := vcf.progOpt (descIdx 0 5) 0
def vrv : State := ({ vcf with sv := vno.sv } : State).each [0, 1, 2, 3] (fun s j => s.progOpt (descIdx 1 j) 0)
def vec : State := { vno with evt := { vno.evt with clearing := some ⟨1, 0, 0, 0, 0, 0⟩ } }
def vfn : State := { vno with hub := { vno.hub with a := { vno.hub.a with st := .loading }, b := { vno.hub.b with st := .unfit } }, sv := { vno.sv with recovery := true } }
theorem wp_inv : wp.Inv := inv_of (by decide +kernel)
theorem w249_inv : w249.Inv := inv_of (by decide +kernel)
theorem wbif_inv : wbif.Inv := inv_of (by decide +kernel)
theorem wflr_inv : wflr.Inv := inv_of (by decide +kernel)
theorem wstart_inv : wstart.Inv := inv_of (by decide +kernel)
theorem wrst_inv : wrst.Inv := inv_of (by decide +kernel)
theorem wdis_inv : wdis.Inv := inv_of (by decide +kernel)
theorem wcom_inv : wcom.Inv := inv_of (by decide +kernel)
theorem wcomBad_inv : wcomBad.Inv := inv_of (by decide +kernel)
theorem wdone_inv : wdone.Inv := inv_of (by decide +kernel)
theorem wvf_inv : wvf.Inv := inv_of (by decide +kernel)
theorem uwin_inv : uwin.Inv := inv_of (by decide +kernel)
theorem uwinR_inv : uwinR.Inv := inv_of (by decide +kernel)
theorem upmr_inv : upmr.Inv := inv_of (by decide +kernel)
theorem upmr2_inv : upmr2.Inv := inv_of (by decide +kernel)
theorem urom_inv : urom.Inv := inv_of (by decide +kernel)
theorem ugrs_inv : ugrs.Inv := inv_of (by decide +kernel)
theorem ugr0_inv : ugr0.Inv := inv_of (by decide +kernel)
theorem uwe_inv : uwe.Inv := inv_of (by decide +kernel)
theorem utag_inv : utag.Inv := inv_of (by decide +kernel)
theorem uf_inv : uf.Inv := inv_of (by decide +kernel)
theorem ufq_inv : ufq.Inv := inv_of (by decide +kernel)
theorem ufq2_inv : ufq2.Inv := inv_of (by decide +kernel)
theorem ufqd_inv : ufqd.Inv := inv_of (by decide +kernel)
theorem ufrep_inv : ufrep.Inv := inv_of (by decide +kernel)
theorem ufab_inv : ufab.Inv := inv_of (by decide +kernel)
theorem ufab8_inv : ufab8.Inv := inv_of (by decide +kernel)
theorem ufabn_inv : ufabn.Inv := inv_of (by decide +kernel)
theorem ufabg_inv : ufabg.Inv := inv_of (by decide +kernel)
theorem uff_inv : uff.Inv := inv_of (by decide +kernel)
theorem ufv_inv : ufv.Inv := inv_of (by decide +kernel)
theorem ufn_inv : ufn.Inv := inv_of (by decide +kernel)
theorem ufc_inv : ufc.Inv := inv_of (by decide +kernel)
theorem ufcr_inv : ufcr.Inv := inv_of (by decide +kernel)
theorem ufcd_inv : ufcd.Inv := inv_of (by decide +kernel)
theorem ufcs_inv : ufcs.Inv := inv_of (by decide +kernel)
theorem usan_inv : usan.Inv := inv_of (by decide +kernel)
theorem usanw_inv : usanw.Inv := inv_of (by decide +kernel)
theorem ups_inv : ups.Inv := inv_of (by decide +kernel)
theorem uexit_inv : uexit.Inv := inv_of (by decide +kernel)
theorem useal_inv : useal.Inv := inv_of (by decide +kernel)
theorem uwc_inv : uwc.Inv := inv_of (by decide +kernel)
theorem ufnv_inv : ufnv.Inv := inv_of (by decide +kernel)
theorem ufnb2_inv : ufnb2.Inv := inv_of (by decide +kernel)
theorem ubody_inv : ubody.Inv := inv_of (by decide +kernel)
theorem uverm_inv : uverm.Inv := inv_of (by decide +kernel)
theorem uvert_inv : uvert.Inv := inv_of (by decide +kernel)
theorem vmap_inv : vmap.Inv := inv_of (by decide +kernel)
theorem vblk_inv : vblk.Inv := inv_of (by decide +kernel)
theorem vcal_inv : vcal.Inv := inv_of (by decide +kernel)
theorem vpr_inv : vpr.Inv := inv_of (by decide +kernel)
theorem vsus_inv : vsus.Inv := inv_of (by decide +kernel)
theorem vlim_inv : vlim.Inv := inv_of (by decide +kernel)
theorem vee_inv : vee.Inv := inv_of (by decide +kernel)
theorem vem_inv : vem.Inv := inv_of (by decide +kernel)
theorem vep_inv : vep.Inv := inv_of (by decide +kernel)
theorem vsh_inv : vsh.Inv := inv_of (by decide +kernel)
theorem vunsh_inv : vunsh.Inv := inv_of (by decide +kernel)
theorem vday_inv : vday.Inv := inv_of (by decide +kernel)
theorem vday0_inv : vday0.Inv := inv_of (by decide +kernel)
theorem vcar_inv : vcar.Inv := inv_of (by decide +kernel)
theorem str_inv : str.Inv := inv_of (by decide +kernel)
theorem sdeba_inv : sdeba.Inv := inv_of (by decide +kernel)
theorem sdebn_inv : sdebn.Inv := inv_of (by decide +kernel)
theorem soff_inv : soff.Inv := inv_of (by decide +kernel)
theorem sdom_inv : sdom.Inv := inv_of (by decide +kernel)
theorem strd_inv : strd.Inv := inv_of (by decide +kernel)
theorem strg_inv : strg.Inv := inv_of (by decide +kernel)
theorem sar_inv : sar.Inv := inv_of (by decide +kernel)
theorem sin_inv : sin.Inv := inv_of (by decide +kernel)
theorem srm_inv : srm.Inv := inv_of (by decide +kernel)
theorem scl_inv : scl.Inv := inv_of (by decide +kernel)
theorem siff_inv : siff.Inv := inv_of (by decide +kernel)
theorem z96_inv : z96.Inv := inv_of (by decide +kernel)
theorem vscr_inv : vscr.Inv := inv_of (by decide +kernel)
theorem vscc_inv : vscc.Inv := inv_of (by decide +kernel)
theorem vgo_inv : vgo.Inv := inv_of (by decide +kernel)
theorem rc1_inv : rc1.Inv := inv_of (by decide +kernel)
theorem rc4_inv : rc4.Inv := inv_of (by decide +kernel)
theorem rc5_inv : rc5.Inv := inv_of (by decide +kernel)
theorem rman2_inv : rman2.Inv := inv_of (by decide +kernel)
theorem rtm_inv : rtm.Inv := inv_of (by decide +kernel)
theorem rld_inv : rld.Inv := inv_of (by decide +kernel)
theorem rldm_inv : rldm.Inv := inv_of (by decide +kernel)
theorem rhot_inv : rhot.Inv := inv_of (by decide +kernel)
theorem pflu_inv : pflu.Inv := inv_of (by decide +kernel)
theorem prel_inv : prel.Inv := inv_of (by decide +kernel)
theorem drq_inv : drq.Inv := inv_of (by decide +kernel)
theorem dri_inv : dri.Inv := inv_of (by decide +kernel)
theorem drep_inv : drep.Inv := inv_of (by decide +kernel)
theorem dpe2_inv : dpe2.Inv := inv_of (by decide +kernel)
theorem dsc_inv : dsc.Inv := inv_of (by decide +kernel)
theorem dse_inv : dse.Inv := inv_of (by decide +kernel)
theorem dthr_inv : dthr.Inv := inv_of (by decide +kernel)
theorem drqr_inv : drqr.Inv := inv_of (by decide +kernel)
theorem dgo_inv : dgo.Inv := inv_of (by decide +kernel)
theorem dbusy_inv : dbusy.Inv := inv_of (by decide +kernel)
theorem bten_inv : bten.Inv := inv_of (by decide +kernel)
theorem bwq_inv : bwq.Inv := inv_of (by decide +kernel)
theorem bown_inv : bown.Inv := inv_of (by decide +kernel)
theorem both_inv : both.Inv := inv_of (by decide +kernel)
theorem bnone_inv : bnone.Inv := inv_of (by decide +kernel)
theorem bbad_inv : bbad.Inv := inv_of (by decide +kernel)
theorem hwire_inv : hwire.Inv := inv_of (by decide +kernel)
theorem hunf_inv : hunf.Inv := inv_of (by decide +kernel)
theorem hstale_inv : hstale.Inv := inv_of (by decide +kernel)
theorem hres_inv : hres.Inv := inv_of (by decide +kernel)
theorem hring_inv : hring.Inv := inv_of (by decide +kernel)
theorem hunfh_inv : hunfh.Inv := inv_of (by decide +kernel)
theorem hgone_inv : hgone.Inv := inv_of (by decide +kernel)
theorem hgone2_inv : hgone2.Inv := inv_of (by decide +kernel)
theorem htake_inv : htake.Inv := inv_of (by decide +kernel)
theorem dd_inv : dd.Inv := inv_of (by decide +kernel)
theorem dtk_inv : dtk.Inv := inv_of (by decide +kernel)
theorem dpass_inv : dpass.Inv := inv_of (by decide +kernel)
theorem dmarkf_inv : dmarkf.Inv := inv_of (by decide +kernel)
theorem dmarkh_inv : dmarkh.Inv := inv_of (by decide +kernel)
theorem cfull_inv : cfull.Inv := inv_of (by decide +kernel)
theorem lheld_inv : lheld.Inv := inv_of (by decide +kernel)
theorem eq1_inv : eq1.Inv := inv_of (by decide +kernel)
theorem esnap_inv : esnap.Inv := inv_of (by decide +kernel)
theorem esup_inv : esup.Inv := inv_of (by decide +kernel)
theorem efullq_inv : efullq.Inv := inv_of (by decide +kernel)
theorem tnew_inv : tnew.Inv := inv_of (by decide +kernel)
theorem trun_inv : trun.Inv := inv_of (by decide +kernel)
theorem tstop_inv : tstop.Inv := inv_of (by decide +kernel)
theorem tstop2_inv : tstop2.Inv := inv_of (by decide +kernel)
theorem bop_inv : bop.Inv := inv_of (by decide +kernel)
theorem bblate_inv : bblate.Inv := inv_of (by decide +kernel)
theorem bhold_inv : bhold.Inv := inv_of (by decide +kernel)
theorem bera_inv : bera.Inv := inv_of (by decide +kernel)
theorem bs1_inv : bs1.Inv := inv_of (by decide +kernel)
theorem bs2_inv : bs2.Inv := inv_of (by decide +kernel)
theorem bs3_inv : bs3.Inv := inv_of (by decide +kernel)
theorem bs4_inv : bs4.Inv := inv_of (by decide +kernel)
theorem bs5_inv : bs5.Inv := inv_of (by decide +kernel)
theorem bs6_inv : bs6.Inv := inv_of (by decide +kernel)
theorem bs7_inv : bs7.Inv := inv_of (by decide +kernel)
theorem bs8_inv : bs8.Inv := inv_of (by decide +kernel)
theorem bs9_inv : bs9.Inv := inv_of (by decide +kernel)
theorem bs10_inv : bs10.Inv := inv_of (by decide +kernel)
theorem bs11_inv : bs11.Inv := inv_of (by decide +kernel)
theorem bs12_inv : bs12.Inv := inv_of (by decide +kernel)
theorem bs13_inv : bs13.Inv := inv_of (by decide +kernel)
theorem bs14_inv : bs14.Inv := inv_of (by decide +kernel)
theorem bs15_inv : bs15.Inv := inv_of (by decide +kernel)
theorem bs2v_inv : bs2v.Inv := inv_of (by decide +kernel)
theorem bs7l_inv : bs7l.Inv := inv_of (by decide +kernel)
theorem bs10c_inv : bs10c.Inv := inv_of (by decide +kernel)
theorem bs4b_inv : bs4b.Inv := inv_of (by decide +kernel)
theorem bs7o_inv : bs7o.Inv := inv_of (by decide +kernel)
theorem bs12m_inv : bs12m.Inv := inv_of (by decide +kernel)
theorem bs15s_inv : bs15s.Inv := inv_of (by decide +kernel)
theorem vpk_inv : vpk.Inv := inv_of (by decide +kernel)
theorem vda_inv : vda.Inv := inv_of (by decide +kernel)
theorem vse_inv : vse.Inv := inv_of (by decide +kernel)
theorem vup_inv : vup.Inv := inv_of (by decide +kernel)
theorem vold_inv : vold.Inv := inv_of (by decide +kernel)
theorem vuh_inv : vuh.Inv := inv_of (by decide +kernel)
theorem vnl_inv : vnl.Inv := inv_of (by decide +kernel)
theorem vu2_inv : vu2.Inv := inv_of (by decide +kernel)
theorem vc1_inv : vc1.Inv := inv_of (by decide +kernel)
theorem vc2_inv : vc2.Inv := inv_of (by decide +kernel)
theorem vmkd_inv : vmkd.Inv := inv_of (by decide +kernel)
theorem vsr_inv : vsr.Inv := inv_of (by decide +kernel)
theorem vq0_inv : vq0.Inv := inv_of (by decide +kernel)
theorem vq1_inv : vq1.Inv := inv_of (by decide +kernel)
theorem vq2_inv : vq2.Inv := inv_of (by decide +kernel)
theorem vq3_inv : vq3.Inv := inv_of (by decide +kernel)
theorem vqo_inv : vqo.Inv := inv_of (by decide +kernel)
theorem vst3_inv : vst3.Inv := inv_of (by decide +kernel)
theorem vsold_inv : vsold.Inv := inv_of (by decide +kernel)
theorem vsn_inv : vsn.Inv := inv_of (by decide +kernel)
theorem vsm_inv : vsm.Inv := inv_of (by decide +kernel)
theorem vno_inv : vno.Inv := inv_of (by decide +kernel)
theorem vcon_inv : vcon.Inv := inv_of (by decide +kernel)
theorem vcf3_inv : vcf3.Inv := inv_of (by decide +kernel)
theorem ufdel_arrived : ufdel.Arrived hd0 := arrived_of (by decide +kernel)
theorem ufq_fetched : ufq.Fetched hd0 := fetched_of (by decide +kernel)
theorem ufqc_fetched : ufqc.Fetched hd0 := fetched_of (by decide +kernel)
theorem ufqx_fetched : ufqx.Fetched hd0 := fetched_of (by decide +kernel)
theorem ufq2_fetched : ufq2.Fetched hd0 := fetched_of (by decide +kernel)
theorem ufqd_fetched : ufqd.Fetched hd0 := fetched_of (by decide +kernel)
theorem uf_fetched : uf.Fetched hd0 := fetched_of (by decide +kernel)
theorem ufn_fetched : ufn.Fetched hd0 := fetched_of (by decide +kernel)
theorem ufrep_fetched : ufrep.Fetched hd0 := fetched_of (by decide +kernel)
theorem ufab8_fetched : ufab8.Fetched hd0 := fetched_of (by decide +kernel)
theorem ufab_fetched : ufab.Fetched hd0 := fetched_of (by decide +kernel)
theorem ufabn_fetched : ufabn.Fetched hd0 := fetched_of (by decide +kernel)
theorem ufabg_fetched : ufabg.Fetched hd0 := fetched_of (by decide +kernel)
theorem ufer_fetched : ufer.Fetched hd0 := fetched_of (by decide +kernel)
theorem ufull_fetched : ufull.Fetched hd0 := fetched_of (by decide +kernel)
theorem ufc_fetched : ufc.Fetched hd0 := fetched_of (by decide +kernel)
theorem ufcr_fetched : ufcr.Fetched hd0 := fetched_of (by decide +kernel)
theorem ufcd_fetched : ufcd.Fetched hd0 := fetched_of (by decide +kernel)
theorem ufnb_fetched : ufnb.Fetched hd0 := fetched_of (by decide +kernel)
theorem ufna_fetched : ufna.Fetched hd0 := fetched_of (by decide +kernel)
theorem ufcs_fetched : ufcs.Fetched hd0 := fetched_of (by decide +kernel)
theorem useal_fetched : useal.Fetched hd0 := fetched_of (by decide +kernel)
theorem ufnv_fetched : ufnv.Fetched hd0 := fetched_of (by decide +kernel)
theorem ufnb2_fetched : ufnb2.Fetched hd0 := fetched_of (by decide +kernel)

/-- The option area copies of manufacture pass their check (R451). -/
theorem factory_passes {s : State} (c : Nat) (hc : c < 2) (ha : s.bt.arr = factoryArray .fk9640) (hr : s.bt.remaps = []) :
    s.copyPasses c true = true := by
  have hw (i : Nat) : s.arrWord (optAddr c i) = spGet (fun _ => .init) (factoryArray .fk9640) (arrIdx [] (optAddr c i)) := by
    rw [State.arrWord, ha, hr]
  obtain rfl | rfl : c = 0 ∨ c = 1 := by omega
  all_goals
    simp only [State.copyPasses, hw]
    exact Bool.and_eq_true_iff.mpr ⟨by decide, beq_iff_eq.mpr (BitVec.setWidth_setWidth_of_le _ (by decide))⟩

/-- Two copies of one generation, each with every word that the other has, stay as they are (R451). -/
theorem copies_stay {s : State} (hg : s.rewgen 0 = s.rewgen 1)
    (h0 : (s.copyWords 0).filter (fun p => (s.arrWord (optAddr 1 p.1)).n == 0) = [])
    (h1 : (s.copyWords 1).filter (fun p => (s.arrWord (optAddr 0 p.1)).n == 0) = []) : s.chooseCopies true true = some s := by
  simp only [State.chooseCopies, hg, Nat.lt_irrefl, if_false, Nat.sub_zero, Nat.sub_self, h0, h1]
  rfl

/-- At step 2 with the array of manufacture both copies stay as they are (R451). -/
theorem bs2_copy : bs2.chooseCopies (bs2.copyPasses 0 true) (bs2.copyPasses 1 true) = some bs2 := by
  rw [factory_passes 0 (by decide) rfl rfl, factory_passes 1 (by decide) rfl rfl]
  exact copies_stay (by decide +kernel) (by decide +kernel) (by decide +kernel)

/-- The same in the FK9620. -/
theorem bs2v_copy : bs2v.chooseCopies (bs2v.copyPasses 0 true) (bs2v.copyPasses 1 true) = some bs2v := by
  rw [factory_passes 0 (by decide) rfl rfl, factory_passes 1 (by decide) rfl rfl]
  exact copies_stay (by decide +kernel) (by decide +kernel) (by decide +kernel)

/-- With 1,024 namespaces no number is free. -/
theorem ufull_full : (List.range' 1 1024).find? (fun i => (ufull.ns i).isNone) = none :=
  List.find?_eq_none.mpr fun i hi => by
    have hm : { ns1 with id := i } ∈ ufull.tr.ns := List.mem_map.mpr ⟨i, hi, rfl⟩
    cases e : ufull.ns i with
    | none => exact absurd (beq_self_eq_true i) (List.find?_eq_none.mp e _ hm)
    | some x => exact Bool.false_ne_true


theorem test_meets_StepRunsTheFrontCommand :
    ((wp.pending = .startupStepTimeout :: []) ∧
     (w.pending = [])) :=
  by decide +kernel

theorem test_meets_ResetLeavesTheDevice :
    (((0 : Nat) < 23 ∧ 0 ≠ Blk.PWR ∧ 0 < 2 ^ 16 ∧ (22 : Nat) < 23 ∧ 2 ^ 16 - 1 < 2 ^ 16)) :=
  by decide +kernel

theorem test_meets_EveryStepKeepsTheInvariant :
    (w.Inv ∧ step w = .next w) :=
  ⟨w_inv, rfl⟩

theorem test_meets_RegisterWriteSettlesItsFields :
    (w.Inv ∧ (∃ row i, Reg.SEM_FORCE.off % 4 = 0 ∧ findRow (regRows Blk.CHM) (Reg.CHM_TXLO.at 1) = some (row, i) ∧
      regAbsent w.variant .b Blk.CHM row.reg i = false ∧ regReserved row.reg i = false ∧ w.writerOk .b 1 Blk.CHM row.reg i = true ∧
      w.issueHalf .b 1 Blk.CHM row.reg i (5 % 2 ^ 32 % 2 ^ rsvAbove row.reg i) = none ∧
      w.issueRest .b 1 Blk.CHM row.reg i (5 % 2 ^ 32 % 2 ^ rsvAbove row.reg i) = none ∧
      badRange row (5 % 2 ^ 32 % 2 ^ rsvAbove row.reg i) = false ∧ w.badRule row.reg i (5 % 2 ^ 32 % 2 ^ rsvAbove row.reg i) = false)) ∧
    (∃ t u, exec (.registerWrite 0 .a 99 0 4 (7 % 2 ^ 32)) w = .next t ∧ exec (.registerWrite 0 .a 99 4 4 (7 / 2 ^ 32 % 2 ^ 32)) t = .next u) :=
  ⟨⟨w_inv, _, _, by decide +kernel, rfl, by decide +kernel⟩, ⟨_, _, rfl, rfl⟩⟩

theorem test_meets_RegisterWriteDiscarded :
    (∃ row i, findRow (regRows Blk.CLP) 0 = some (row, i) ∧ regAbsent .fk9612 .a Blk.CLP row.reg i = true) ∧
    (∃ row i, findRow (regRows Blk.BTA) Reg.BTA_OPADDR.off = some (row, i) ∧ (5 : Nat) < 2 ^ 32 ∧ rsvAbove row.reg i = 32 ∧ regAbsent w.variant .b
      Blk.BTA row.reg i = false ∧ regReserved row.reg i = false ∧ w.writerOk .b 0 Blk.BTA row.reg i = false) ∧
    ((¬(2 = 4 ∧ 4 % 4 = 0)) ∧ (¬(2 = 8 ∧ 4 % 8 = 0)) ∧
     (¬(8 = 4 ∧ 4 % 4 = 0)) ∧ (¬(8 = 8 ∧ 4 % 8 = 0)) ∧
     (0xFFFC % 4 = 0) ∧ (findRow (regRows Blk.SEM) 0xFFFC = none)) :=
  ⟨⟨_, _, rfl, by decide +kernel⟩, ⟨_, _, rfl, by decide +kernel⟩, by decide +kernel⟩

theorem test_meets_LowWordReadHoldsTheHighWord :
    (∃ row row2 i j, findRow (regRows Blk.SCH) Reg.SCH_BEAT_LO.off = some (row, i) ∧
      findRow (regRows Blk.SCH) (Reg.SCH_BEAT_LO.off + 4) = some (row2, j) ∧ Reg.SCH_BEAT_LO.off % 4 = 0 ∧ lowWord row.reg i = true ∧
      regAbsent w.variant .a Blk.SCH row.reg i = false ∧ regAbsent w.variant .a Blk.SCH row2.reg j = false ∧ Blk.SCH ≠ Blk.CHM ∧
      spGet (fun _ => 0) w.hi (hiKey .a 3 Blk.SCH Reg.SCH_BEAT_LO.off) = 0) :=
  ⟨_, _, _, _, rfl, rfl, by decide +kernel⟩

theorem test_meets_ReadsClearTheirFields :
    (w.Inv ∧ 0 < 4 ∧ 3 + 1 ≤ 4 ∧ (0 : Nat) < 256 ∧ (255 : Nat) < 256 ∧ 15 < w.variant.slotsN ∧ Variant.fk9612.slotsN ≤ 8 ∧ 8 < 16 ∧
      Variant.fk9620.twin = false ∧ spGet (fun _ => 0) w.hi (hiKey w.act 0 Reg.TEN_MISS.blk (Reg.TEN_MISS.at 255)) = 0) :=
  ⟨w_inv, by decide +kernel⟩

theorem test_meets_TimedCommandsAdvanceTime :
    ((w.active = none ∨ w.time.beat % 250 ≠ 249) ∧
     (w249.active ≠ none) ∧ (w249.time.beat % 250 = 249) ∧
     (({ z with time := ⟨z.time.beat, 100⟩ } : State).sequencing = false)) :=
  by decide +kernel

theorem test_meets_LatchPointSettlesThePlan :
    (w249.Inv ∧ w249.active = some .a ∧ w249.time.beat % 250 = 249 ∧ w249.rd Fd.SCH_PLAN_CTRL_COMMIT 0 .a ≠ 1) ∧
    (wcom.Inv ∧ wcom.active = some .a ∧ wcom.rd Fd.SCH_PLAN_CTRL_COMMIT 0 .a = 1 ∧ ({ wcom with time := ⟨1249, 6000⟩ } : State).planFault .a =
      none ∧ wcom.sched.dPend = none) ∧
    (wcomBad.Inv ∧ wcomBad.rd Fd.SCH_PLAN_CTRL_COMMIT 0 .a = 1 ∧ ({ wcomBad with time := ⟨1249, 6000⟩ } : State).planFault .a = some (2, 0)) :=
  ⟨⟨w249_inv, by decide +kernel⟩, ⟨wcom_inv, by decide +kernel⟩, ⟨wcomBad_inv, by decide +kernel⟩⟩

theorem test_meets_DoneDeadlineSamplesTheFlags :
    wdone.Inv ∧
    w.Inv ∧
    ((z.runs .a = false ∧ halfPresent w9620.variant .b = false) ∧
     (wdone.runs .a = true ∧ (wdone.half .a).quit = false ∧ halfPresent wdone.variant .a = true ∧ wdone.actHold .a = false ∧
      ((({ wdone with time := ⟨1000, 7600⟩ } : State).setDones .a []).noteSlack .a).missing .a = []) ∧
     ((w.half .a).st = .active ∧ (w.half .a).quit = false ∧ halfPresent w.variant .a = true ∧ w.actHold .a = false ∧
      ((({ w with time := ⟨1000, 7600⟩ } : State).setDones .a []).noteSlack .a).missing .a ≠ []) ∧
     (w.runs .b = true ∧ (w.half .b).st ≠ .active ∧ (w.half .b).quit = false ∧ halfPresent w.variant .b = true ∧
      ((({ w with time := ⟨1000, 7600⟩ } : State).setDones .b []).noteSlack .b).missing .b ≠ [])) :=
  ⟨wdone_inv, w_inv, by decide +kernel⟩

theorem test_meets_EnrolmentChangesOnlyWhenOpen :
    z.Inv ∧
    w.Inv ∧
    ((halfPresent z.variant .b = true) ∧ (z.hub.linkOn = false ∨ z.rd Fd.QUE_ACT_STATE = 2) ∧
     (halfPresent w.variant .a = true) ∧ (w.hub.linkOn = true) ∧ (w.rd Fd.QUE_ACT_STATE ≠ 2) ∧
     (15 ≤ 15) ∧ (15 < 18) ∧
     (15 ≤ 17) ∧ (17 < 18) ∧
     (14 < 15) ∧
     (halfPresent w.variant .b = true) ∧
     (halfPresent w.variant .a = true)) ∧
    ((halfPresent w9620.variant .b = false)) :=
  ⟨z_inv, w_inv, by decide +kernel, by decide +kernel⟩

theorem test_meets_PortsAndFunctionsAppear :
    z.Inv ∧
    wbif.Inv ∧
    w.Inv ∧
    wvf.Inv ∧
    ((z.trainsTo 6 16 = true) ∧
     (wbif.bifur = true) ∧ (wbif.trainsTo 1 8 = true) ∧
     (2 ≤ 2 ∨ (2 = 1 ∧ z.bifur = false) ∨ z.trainsTo 1 1 = false) ∧
     (2 ≤ 1 ∨ (1 = 1 ∧ z.bifur = false) ∨ z.trainsTo 1 1 = false) ∧
     (2 ≤ 0 ∨ (0 = 1 ∧ wbif.bifur = false) ∨ wbif.trainsTo 6 16 = false) ∧
     (2 ≤ 0 ∨ (0 = 1 ∧ z.bifur = false) ∨ z.trainsTo 7 1 = false) ∧
     (z.hub.linkOn = false ∨ z.withdrawn = true) ∧
     (w.hub.linkOn = true) ∧ (w.withdrawn = false) ∧ (w.fnUp 2 = false)) ∧
    ((w.hub.linkOn = true) ∧ (w.withdrawn = false) ∧ (w.fnUp 0 = true) ∧
     (1 < 2)) :=
  ⟨z_inv, wbif_inv, w_inv, wvf_inv, by decide +kernel, by decide +kernel⟩

theorem test_meets_BusMasteringStopsAndResumes :
    w.Inv ∧
    wflr.Inv ∧
    (∀ b, (w.fn 0).flrAt = some b → w.time.beat < b) ∧
    ((w.fnUp 0 = true) ∧ ((w.fn 0).bme = true) ∧
     (wbme.fnUp 0 = false ∨ (wbme.fn 0).bme = false) ∧
     (w.fnUp 0 = true) ∧ ((w.fn 0).flrAt = none) ∧
     (wflr.fnUp 0 = false ∨ (wflr.fn 0).flrAt ≠ none) ∧
     (w.fnUp 2 = false ∨ (w.fn 2).flrAt ≠ none) ∧
     ((wflr.fn 0).flrAt = some 500) ∧ (500 ≤ wflr.time.beat)) :=
  ⟨w_inv, wflr_inv, of_opt (by decide +kernel), by decide +kernel⟩

theorem test_meets_ControllersStartAndStop :
    wdis.Inv ∧
    wdis.TakesIn ∧
    w.TakesIn ∧
    wstart.Inv ∧
    (∀ b, (w.fn 0).startAt = some b → w.time.beat < b) ∧
    w.Inv ∧
    wrst.Inv ∧
    (∀ b, (w.fn 0).resetAt = some b → w.time.beat < b) ∧
    ((wdis.fnUp 0 = true) ∧ ((wdis.fn 0).en = false) ∧ ((wdis.fn 0).resetAt = none) ∧ ((wdis.fn 0).flrAt = none) ∧
     (w.fnUp 0 = false ∨ (w.fn 0).en = true ∨ (w.fn 0).resetAt ≠ none ∨ (w.fn 0).flrAt ≠ none) ∧
     ((wstart.fn 0).startAt = some 500) ∧ (500 ≤ wstart.time.beat) ∧
     ((w.fn 0).en = true) ∧ (w.fnUp 0 = true) ∧
     ((wdis.fn 0).en = false ∨ wdis.fnUp 0 = false) ∧
     ((wrst.fn 0).resetAt = some 500) ∧ (500 ≤ wrst.time.beat)) ∧
    ((w.fnUp 0 = true) ∧ ((w.fn 0).en = true) ∧
     (wdis.fnUp 0 = false ∨ (wdis.fn 0).en = false)) :=
  ⟨wdis_inv, takesIn_of (by decide +kernel), takesIn_of (by decide +kernel), wstart_inv, of_opt (by decide +kernel), w_inv, wrst_inv, of_opt (by
      decide +kernel), by decide +kernel, by decide +kernel⟩

theorem test_meets_ArbitrationGrantsEntries :
    w.Inv ∧
    ((z.fetching = false) ∧
     (w.fetching = true)) :=
  ⟨w_inv, by decide +kernel⟩

theorem test_meets_DoorbellsMoveTheirPointers :
    w.TakesIn ∧
    (∀ x, w.sq 0 1 = some x → x.size ≤ 16) ∧
    wcq.TakesIn ∧
    (∀ x, wcq.cq 0 1 = some x → x.size ≤ 3 ∨ (x.tail + x.size - x.head) % x.size < (3 + x.size - x.head) % x.size) ∧
    ((w.fnUp 2 = false) ∧
     (w.fnUp 0 = true) ∧ (w.sq 0 1 = some sq0) ∧ (15 < sq0.size) ∧
     (w.fnUp 0 = true) ∧
     (wcq.fnUp 0 = true) ∧ (wcq.cq 0 1 = some ({ cq0 with tail := 2 })) ∧ (2 < ({ cq0 with tail := 2 }).size) ∧
      ((2 + ({ cq0 with tail := 2 }).size - ({ cq0 with tail := 2 }).head) % ({ cq0 with tail := 2 }).size ≤ (({ cq0 with tail := 2 }).tail +
      ({ cq0 with tail := 2 }).size - ({ cq0 with tail := 2 }).head) % ({ cq0 with tail := 2 }).size)) ∧
    ((wcq.fnUp 0 = true)) :=
  ⟨takesIn_of (by decide +kernel), of_opt (by decide +kernel), takesIn_of (by decide +kernel), of_opt (by decide +kernel), by decide +kernel, by
      decide +kernel⟩

theorem test_meets_WindowTlpsReachTheirTargets :
    ulink.TakesIn ∧
    uwinR.Inv ∧
    uwinR.TakesIn ∧
    (∀ w, uwinR.matchWin 0 0 0 (if true then [1].length else 4) = some w → true = true ∧ w.acc = 1 ∧ w.tgt < pmrBase) ∧
    uwin.TakesIn ∧
    uwin.Inv ∧
    upmr2.Inv ∧
    upmr.Inv ∧
    (∀ g k, upmr.granOf g = upmr.granOf k → g = k) ∧
    w.TakesIn ∧
    ((ulink.hub.linkOn = false) ∧
     (ufen.hub.linkOn = true) ∧ (ufen.hub.fenced = true) ∧
     (uwinR.hub.linkOn = true) ∧ (uwinR.hub.fenced = false) ∧ (uwinR.fnUp 0 = true) ∧ (uwinR.windowSize 0 ≠ 0)) ∧
    ((uwin.hub.linkOn = true) ∧ (uwin.hub.fenced = false) ∧ (uwin.fnUp 0 = true) ∧ (uwin.windowSize 0 ≠ 0) ∧ (uwin.matchWin 0 0 0 [1].length =
      some ((⟨true, 0, 0, 0, false, 0, 2 ^ 20, 0⟩ : Win))) ∧ (((⟨true, 0, 0, 0, false, 0, 2 ^ 20, 0⟩ : Win)).acc ≠ 1)) ∧
    ((uwin.hub.linkOn = true) ∧ (uwin.hub.fenced = false) ∧ (uwin.fnUp 0 = true) ∧ (uwin.windowSize 0 ≠ 0) ∧ (uwin.matchWin 0 0 0 [1].length =
      some ((⟨true, 0, 0, 0, false, 0, 2 ^ 20, 0⟩ : Win))) ∧ (((⟨true, 0, 0, 0, false, 0, 2 ^ 20, 0⟩ : Win)).acc ≠ 1) ∧ (((⟨true, 0, 0, 0, false,
      0, 2 ^ 20, 0⟩ : Win)).tgt + (0 - ((⟨true, 0, 0, 0, false, 0, 2 ^ 20, 0⟩ : Win)).off) < pmrBase)) ∧
    ((uwin.hub.linkOn = true) ∧ (uwin.hub.fenced = false) ∧ (uwin.fnUp 0 = true) ∧ (uwin.windowSize 0 ≠ 0) ∧ (uwin.matchWin 0 0 0 4 = some
      ((⟨true, 0, 0, 0, false, 0, 2 ^ 20, 0⟩ : Win))) ∧ (((⟨true, 0, 0, 0, false, 0, 2 ^ 20, 0⟩ : Win)).tgt + (0 - ((⟨true, 0, 0, 0, false, 0, 2 ^
      20, 0⟩ : Win)).off) < pmrBase)) ∧
    ((upmr2.hub.linkOn = true) ∧ (upmr2.hub.fenced = false) ∧ (upmr2.fnUp 0 = true) ∧ (upmr2.windowSize 0 ≠ 0) ∧ (upmr2.matchWin 0 0 0 [1].length
      = some ((⟨true, 0, pmrBase, 0, false, 0, 2 ^ 20, 0⟩ : Win))) ∧ (((⟨true, 0, pmrBase, 0, false, 0, 2 ^ 20, 0⟩ : Win)).acc ≠ 1) ∧ (pmrBase ≤
      ((⟨true, 0, pmrBase, 0, false, 0, 2 ^ 20, 0⟩ : Win)).tgt) ∧ (upmr2.rd Fd.LDG_PMRSTAT_HSTS = 2)) ∧
    ((upmr.hub.linkOn = true) ∧ (upmr.hub.fenced = false) ∧ (upmr.fnUp 0 = true) ∧ (upmr.windowSize 0 ≠ 0) ∧ (upmr.matchWin 0 0 0 [1].length =
      some ((⟨true, 0, pmrBase, 0, false, 0, 2 ^ 20, 0⟩ : Win))) ∧ (((⟨true, 0, pmrBase, 0, false, 0, 2 ^ 20, 0⟩ : Win)).acc ≠ 1) ∧ (pmrBase ≤
      ((⟨true, 0, pmrBase, 0, false, 0, 2 ^ 20, 0⟩ : Win)).tgt) ∧ (upmr.rd Fd.LDG_PMRSTAT_HSTS ≠ 2)) ∧
    ((upmr.hub.linkOn = true) ∧ (upmr.hub.fenced = false) ∧ (upmr.fnUp 0 = true) ∧ (upmr.windowSize 0 ≠ 0) ∧ (upmr.matchWin 0 0 0 4 = some
      ((⟨true, 0, pmrBase, 0, false, 0, 2 ^ 20, 0⟩ : Win))) ∧ (pmrBase ≤ ((⟨true, 0, pmrBase, 0, false, 0, 2 ^ 20, 0⟩ : Win)).tgt) ∧
      (upmr.variant.pmr = true) ∧ (upmr.granOf ((((⟨true, 0, pmrBase, 0, false, 0, 2 ^ 20, 0⟩ : Win)).tgt + (0 - ((⟨true, 0, pmrBase, 0, false, 0,
      2 ^ 20, 0⟩ : Win)).off) - pmrBase) / 4096) < 4160)) :=
  ⟨takesIn_of (by decide +kernel), uwinR_inv, takesIn_of (by decide +kernel), of_opt (by decide +kernel), takesIn_of (by decide +kernel),
      uwin_inv, upmr2_inv, upmr_inv, fun _ _ h => h, takesIn_of (by decide +kernel), by decide +kernel, by decide +kernel, by decide +kernel, by
      decide +kernel, by decide +kernel, by decide +kernel, by decide +kernel⟩

theorem test_meets_WindowTlpsReachTheirTargets_2 :
    ((w.hub.linkOn = true) ∧ (w.hub.fenced = false) ∧ (w.fnUp 0 = true) ∧ (0x1FFFC + 4 ≤ 0x2_0000) ∧
     (w.hub.linkOn = true) ∧ (w.hub.fenced = false) ∧ (w.fnUp 0 = true) ∧ ([1, 0, 0, 0].length = 4) ∧ (0x1DFF < 0x1E00)) ∧
    ((w.hub.linkOn = true) ∧ (w.hub.fenced = false) ∧ (w.fnUp 0 = true) ∧ ([5, 0, 0, 0].length = 4) ∧ (1 < 0x1E00) ∧
     (w.fnUp 0 = true) ∧
     (whold.toPmr 0 0 0 (if false then (([] : List Byte)).length else 4) = false)) :=
  ⟨by decide +kernel, by decide +kernel⟩

theorem test_meets_WindowsAreEnabledByTheirRules :
    w.Inv ∧
    uwe.Inv ∧
    urom.TakesIn ∧
    urom.Inv ∧
    w.TakesIn ∧
    ugr0.Inv ∧
    ugrs.Inv ∧
    ((1 < 2) ∧ (63 < 64) ∧ (bit 0 0 = false) ∧
     (0 < 2) ∧ (0 < 64) ∧ (bit 0xa7 0 = true) ∧ ((uwe.winSet (64 * 0 + 0) 0xa7).winReason (64 * 0 + 0) = 0) ∧
     (1 < 2) ∧ (63 < 64) ∧ (bit 1 0 = true) ∧ ((w.winSet (64 * 1 + 63) 1).winReason (64 * 1 + 63) ≠ 0) ∧
     (2 ≤ 2 ∨ 64 ≤ 0)) ∧
    ((2 ≤ 1 ∨ 64 ≤ 64) ∧
     (urom.hub.linkOn = true) ∧ (urom.hub.fenced = false) ∧ (urom.rd Fd.HST_BARCFG_MODE (0 % 2) ≠ 0) ∧
      (0xFFFC + 4 ≤ 2 ^ urom.rd Fd.HST_BARCFG_ROMLOG (0 % 2)) ∧
     (w.hub.linkOn = true) ∧ (w.hub.fenced = false) ∧ (w.rd Fd.HST_BARCFG_MODE (0 % 2) = 0) ∧
     (w.variant.pmr = false ∨ 4096 ≤ 0 ∨ spGet (fun _ => 0) w.lg.granWr (w.granOf 0) < 2 ^ 26)) ∧
    ((ugr0.variant.pmr = true) ∧ (0 < 4096) ∧ (2 ^ 26 ≤ spGet (fun _ => 0) ugr0.lg.granWr (ugr0.granOf 0)) ∧ (ugr0.lg.spares = []) ∧ (ugr0.rd
      Fd.LDG_PMRSTAT_HSTS = 0)) ∧
    ((ugrs.variant.pmr = true) ∧ (0 < 4096) ∧ (ugrs.granOf 0 < 4160) ∧ (4097 < 4160) ∧ (2 ^ 26 ≤ spGet (fun _ => 0) ugrs.lg.granWr (ugrs.granOf
      0)) ∧ (ugrs.lg.spares = 4097 :: (([] : List Nat)))) :=
  ⟨w_inv, uwe_inv, takesIn_of (by decide +kernel), urom_inv, takesIn_of (by decide +kernel), ugr0_inv, ugrs_inv, by decide +kernel,
      by decide +kernel, by decide +kernel, by decide +kernel⟩

theorem test_meets_BudgetWritesAreTested :
    w.Inv ∧
    ((0x100010 % 2 ^ 14 ≤ 0x100010 / 2 ^ 16 % 2 ^ 14) ∧ (sumOf (fun g => if w.portOf g = w.portOf 0 then (if g = 0 then 0x100010 % 2 ^ 14 else
      w.rd Fd.HST_TAGBUD_RESV g) else 0) (List.range 256) ≤ 8192) ∧
     (0x1 / 2 ^ 16 % 2 ^ 14 < 0x1 % 2 ^ 14 ∨ 8192 < sumOf (fun g => if w.portOf g = w.portOf 0 then (if g = 0 then 0x1 % 2 ^ 14 else w.rd
      Fd.HST_TAGBUD_RESV g) else 0) (List.range 256)) ∧
     (w.ctxBudgetOk 0 (0x100010 % 2 ^ 12) (0x100010 / 2 ^ 16 % 2 ^ 12) = true) ∧
     (w.ctxBudgetOk 0 (1 % 2 ^ 12) (1 / 2 ^ 16 % 2 ^ 12) = false)) :=
  ⟨w_inv, by decide +kernel⟩

theorem test_meets_ReadsOfHostMemoryEnd :
    w.Inv ∧
    (∀ x, w.nv.tags.find? (fun t => t.port == rcpl0.port && t.val == rcpl0.tag && t.quar.isNone) = some x → rcpl0.fn ≠ x.fn ∨ rcpl0.shapeOk =
      false ∨ x.left < rcpl0.nbytes) ∧
    (∀ x, uh.nv.tags.find? (fun t => t.port == 0 && t.val == 3 && t.quar.isNone) = some x → uh.time.beat < x.issued + x.n) ∧
    utag.Inv ∧
    (∀ x, uq2.nv.tags.find? (fun t => t.port == 0 && t.val == 3) = some x → ∀ b, x.quar = some b → uq2.time.beat < b) ∧
    ((ufen.hub.fenced = true) ∧
     (w.hub.fenced = false)) ∧
    ((utag.hub.fenced = false) ∧ (utag.nv.tags.find? (fun t => t.port == rcpl0.port && t.val == rcpl0.tag && t.quar.isNone) = some tag0) ∧
      (rcpl0.fn = tag0.fn) ∧ (rcpl0.shapeOk = true) ∧ (tag0.left = rcpl0.nbytes) ∧ (tag0.orphan = false) ∧ (tag0.lost = false) ∧ (rcpl0.poisoned =
      false) ∧ (tag0.why = .entry 1 0) ∧ (utag.nv.grants.find? (Grant.of tag0.fn 1 0) = some ({ grant0 with here := false, cid := 0 }))) ∧
    ((utag.nv.tags.find? (fun t => t.port == 0 && t.val == 3 && t.quar.isNone) = some tag0) ∧ (tag0.issued + tag0.n ≤ utag.time.beat) ∧
     (utag.nv.tags.find? (fun t => t.port == 0 && t.val == 3 && t.quar.isNone) = some tag0) ∧ (tag0.issued + tag0.n ≤ utag.time.beat) ∧
      (tag0.orphan = false) ∧ (tag0.lost = false) ∧ (tag0.why = .entry 1 0) ∧
      (utag.nv.grants.find? (Grant.of tag0.fn 1 0) = some ({ grant0 with here := false, cid := 0 }))) ∧
    ((uq.nv.tags.find? (fun t => t.port == 0 && t.val == 3) = some ({ tag0 with quar := some 1000 })) ∧ (({ tag0 with quar := some 1000 }).quar =
      some 1000) ∧ (1000 ≤ uq.time.beat) ∧
     (w.hub.holder = some .a) ∧ (0 = w.rd Fd.CLP_EPOCH_EPOCH) ∧
     (w.hub.holder ≠ some .b ∨ 0 ≠ w.rd Fd.CLP_EPOCH_EPOCH)) :=
  ⟨w_inv, of_opt (by decide +kernel), of_opt (by decide +kernel), utag_inv, by intro x h b hb; cases h; cases hb; decide, by decide +kernel, by
      decide +kernel, by decide +kernel, by decide +kernel⟩

theorem test_meets_UnfetchedCommandsWait :
    (ufdel.Arrived hd0) ∧
    (uf.Arrived ((⟨0, 1, 7, some 0x7F⟩ : Hdr))) ∧
    ((w.takeGrant hd0 = none) ∧
     (hd0.sq ∈ (ufdel.fn hd0.fn).deleting) ∧
     (((⟨0, 1, 7, some 0x7F⟩ : Hdr)).sq ∉ (uf.fn ((⟨0, 1, 7, some 0x7F⟩ : Hdr)).fn).deleting) ∧ (((⟨0, 1, 7, some 0x7F⟩ : Hdr)).op = some 0x7F) ∧
      (opcodeKnown (((⟨0, 1, 7, some 0x7F⟩ : Hdr)).sq == 0) 0x7F = false)) :=
  ⟨ufdel_arrived, ⟨by decide +kernel, by decide +kernel, by decide +kernel, by decide +kernel⟩, by decide +kernel⟩

theorem test_meets_QueuesAreCreatedAndDeleted :
    (ufq.Fetched hd0) ∧
    (ufqc.Fetched hd0) ∧
    (ufqx.Fetched hd0) ∧
    ufq2.Inv ∧
    (ufq2.Fetched hd0) ∧
    ufq.Inv ∧
    ufqd.Inv ∧
    (ufqd.Fetched hd0) ∧
    ((ufq.qidOk hd0.fn 5 = false ∨ (ufq.cq hd0.fn 5).isSome = true) ∧
     (ufq.qidOk hd0.fn 1 = false ∨ (ufq.cq hd0.fn 1).isSome = true) ∧
     (ufq.qidOk hd0.fn 4 = true) ∧ ((ufq.cq hd0.fn 4).isSome = false) ∧ (4096 = 0 ∨ 4095 < 4096) ∧
     (ufq.qidOk hd0.fn 4 = true) ∧ ((ufq.cq hd0.fn 4).isSome = false) ∧ (0 = 0 ∨ 4095 < 0)) ∧
    ((ufq.qidOk hd0.fn 4 = true) ∧ ((ufq.cq hd0.fn 4).isSome = false) ∧ (0 < 4095) ∧ (4095 ≤ 4095) ∧ (ufq.msixSize hd0.fn ≤ 2048) ∧
     (ufq.qidOk hd0.fn 4 = true) ∧ ((ufq.cq hd0.fn 4).isSome = false) ∧ (0 < 4095) ∧ (4095 ≤ 4095) ∧ (2047 < ufq.msixSize hd0.fn) ∧
     (ufq.qidOk hd0.fn 0 = false ∨ (ufq.sq hd0.fn 0).isSome = true)) ∧
    ((ufq.qidOk hd0.fn 2 = true) ∧ ((ufq.sq hd0.fn 2).isSome = false) ∧ (4096 = 0 ∨ 4095 < 4096) ∧
     (ufq.qidOk hd0.fn 2 = true) ∧ ((ufq.sq hd0.fn 2).isSome = false) ∧ (0 < 4095) ∧ (4095 ≤ 4095) ∧ (3 = 0 ∨ (ufq.cq hd0.fn 3).isNone = true)) ∧
    ((ufq.qidOk hd0.fn 2 = true) ∧ ((ufq.sq hd0.fn 2).isSome = false) ∧ (0 < 1) ∧ (1 ≤ 4095) ∧ (0 = 0 ∨ (ufq.cq hd0.fn 0).isNone = true)) ∧
    ((ufq.qidOk hd0.fn 2 = true) ∧ ((ufq.sq hd0.fn 2).isSome = false) ∧ (0 < 1) ∧ (1 ≤ 4095) ∧ (1 ≠ 0) ∧ ((ufq.cq hd0.fn 1).isSome = true) ∧ (true
      = true) ∧ (ufq.cmbWin hd0.fn = none)) ∧
    ((ufq.qidOk hd0.fn 2 = true) ∧ ((ufq.sq hd0.fn 2).isSome = false) ∧ (0 < 4095) ∧ (4095 ≤ 4095) ∧ (1 ≠ 0) ∧ ((ufq.cq hd0.fn 1).isSome = true) ∧
      (false = false ∨ ufq.cmbWin hd0.fn ≠ none) ∧
     (0 = 0 ∨ ufq.cq hd0.fn 0 = none) ∧
     (9 = 0 ∨ ufq.cq hd0.fn 9 = none)) ∧
    ((1 ≠ 0) ∧ ((ufq.cq hd0.fn 1).isSome = true) ∧ (∃ x ∈ ufq.nv.sqs, x.fn = hd0.fn ∧ x.cq = 1 ∧ x.qid ≠ 0) ∧
     (2 ≠ 0) ∧ ((ufqc.cq hd0.fn 2).isSome = true) ∧ (∀ x ∈ ufqc.nv.sqs, x.fn = hd0.fn → x.cq = 2 → x.qid = 0) ∧
     (0 = 0 ∨ (ufq.sq hd0.fn 0).isNone = true ∨ 0 ∈ (ufq.fn hd0.fn).deleting) ∧
     (2 = 0 ∨ (ufqx.sq hd0.fn 2).isNone = true ∨ 2 ∈ (ufqx.fn hd0.fn).deleting)) :=
  ⟨ufq_fetched, ufqc_fetched, ufqx_fetched, ufq2_inv, ufq2_fetched, ufq_inv, ufqd_inv, ufqd_fetched, by decide +kernel, by decide +kernel, by
      decide +kernel, by decide +kernel, by decide +kernel, by decide +kernel, by decide +kernel⟩

theorem test_meets_QueuesAreCreatedAndDeleted_2 :
    ((2 ≠ 0) ∧ ((ufq2.sq hd0.fn 2).isSome = true) ∧ (2 ∉ (ufq2.fn hd0.fn).deleting) ∧
     (1 ≠ 0) ∧ ((ufq.sq hd0.fn 1).isSome = true) ∧ (1 ∉ (ufq.fn hd0.fn).deleting)) ∧
    ((2 ≠ 0) ∧ ((ufqd.sq hd0.fn 2).isSome = true) ∧ ((ufqd.fn hd0.fn).deleting = []) ∧ (hd0.sq ≠ 2) ∧ (∀ c ∈ ufqd.nv.ctxs, c.fn = hd0.fn → c.sq ≠
      2) ∧ (∀ h ∈ ufqd.nv.held, h.fn = hd0.fn → h.sq ≠ 2) ∧ (∀ g ∈ ufqd.nv.grants, g.fn = hd0.fn → g.sq = 2 → g.here = false)) :=
  ⟨by decide +kernel, by decide +kernel⟩

theorem test_meets_PagesAndIdentifyAnswer :
    uf.Inv ∧
    (uf.Fetched hd0) ∧
    ufn.Inv ∧
    (ufn.Fetched hd0) ∧
    (∀ n, ufn.ns 2 = some n → n.fns.contains hd0.fn = false) ∧
    ufrep.Inv ∧
    (ufrep.Fetched hd0) ∧
    ((pageLen 0x7F = none) ∧
     (pageLen 2 = some 512) ∧ (512 ≤ 512 ∨ (2 = 2 ∧ 0 ≠ 0 ∧ 0 ≠ 0xFFFF_FFFF)) ∧
     (pageLen 2 = some 512) ∧ (512 ≤ 0 ∨ (2 = 2 ∧ 1 ≠ 0 ∧ 1 ≠ 0xFFFF_FFFF)) ∧
     (pageLen 0xC1 = some 8208) ∧ (8204 < 8208) ∧ (0xC1 ≠ 2) ∧ (2 ≠ 0) ∧ (2 ≠ 0xFFFF_FFFF)) ∧
    ((pageLen 0xC2 = some 64) ∧ (60 < 64) ∧ (1 = 0 ∨ 1 = 0xFFFF_FFFF ∨ (0xC2 ≠ 2 ∧ ∃ n ∈ ufn.ns 1, n.fns.contains hd0.fn = true)) ∧ (true = true) ∧
     (pageLen 2 = some 512) ∧ (508 < 512) ∧ (0xFFFF_FFFF = 0 ∨ 0xFFFF_FFFF = 0xFFFF_FFFF ∨ (2 ≠ 2 ∧ ∃ n ∈ ufn.ns 0xFFFF_FFFF, n.fns.contains
      hd0.fn = true)) ∧ (true = true)) ∧
    ((pageLen 0xC1 = some 8208) ∧ (0 < 8208) ∧ (0 = 0 ∨ 0 = 0xFFFF_FFFF ∨ (0xC1 ≠ 2 ∧ ∃ n ∈ ufrep.ns 0, n.fns.contains hd0.fn = true)) ∧ (false =
      false) ∧
     (3 ≤ 3) ∧
     (ufn.identifyFields hd0.fn 1 0 = some (((ufn.identifyFields 0 1 0).getD []))) ∧
     (ufn.identifyFields hd0.fn 2 0 = some [1])) :=
  ⟨uf_inv, uf_fetched, ufn_inv, ufn_fetched, of_opt (by decide +kernel), ufrep_inv, ufrep_fetched, by decide +kernel, by decide +kernel, by
      decide +kernel⟩

theorem test_meets_AbortsAndEventsEnd :
    ufab8.Inv ∧
    (ufab8.Fetched hd0) ∧
    ufab.Inv ∧
    (ufab.Fetched hd0) ∧
    ufabn.Inv ∧
    (ufabn.Fetched hd0) ∧
    ufabg.Inv ∧
    (ufabg.Fetched hd0) ∧
    uf.Inv ∧
    (uf.Fetched hd0) ∧
    (ufer.Fetched hd0) ∧
    ((8 ≤ (ufab8.nv.ctxs.filter (fun c => c.fn == hd0.fn && c.cmd == .abort)).length) ∧
     ((ufab.nv.ctxs.filter (fun c' => c'.fn == hd0.fn && c'.cmd == .abort)).length < 8) ∧ (ufab.nv.ctxs.find? (fun c' => c'.fn == hd0.fn && c'.sq
      == 1 && c'.cid == 9 && c'.status.isNone) = some ({ ctx0 with id := 5, cid := 9, cmd := .compare })) ∧
      (ufab.ctx ({ ctx0 with id := 5, cid := 9, cmd := .compare }).id = some ({ ctx0 with id := 5, cid := 9, cmd := .compare })) ∧
      (({ ctx0 with id := 5, cid := 9, cmd := .compare }).abortable = true)) ∧
    (((ufabn.nv.ctxs.filter (fun c' => c'.fn == hd0.fn && c'.cmd == .abort)).length < 8) ∧ (ufabn.nv.ctxs.find? (fun c' => c'.fn == hd0.fn &&
      c'.sq == 1 && c'.cid == 9 && c'.status.isNone) = some ({ ctx0 with id := 5, cid := 9, cmd := .abort })) ∧
      (({ ctx0 with id := 5, cid := 9, cmd := .abort }).abortable = false)) ∧
    (((ufabg.nv.ctxs.filter (fun c => c.fn == hd0.fn && c.cmd == .abort)).length < 8) ∧ (ufabg.nv.ctxs.find? (fun c => c.fn == hd0.fn && c.sq == 1
      && c.cid == 9 && c.status.isNone) = none) ∧ (ufabg.nv.grants.find? (fun g' => g'.fn == hd0.fn && g'.sq == 1 && g'.cid == 9 && g'.here &&
      (g'.sq != hd0.sq || g'.cid != hd0.cid)) = some ({ grant0 with cid := 9 }))) ∧
    (((uf.nv.ctxs.filter (fun c => c.fn == hd0.fn && c.cmd == .abort)).length < 8) ∧ (uf.nv.ctxs.find? (fun c => c.fn == hd0.fn && c.sq == 1 &&
      c.cid == 9 && c.status.isNone) = none) ∧ (∀ g ∈ uf.nv.grants, g.fn = hd0.fn → g.sq = 1 → g.cid ≠ 9 ∨ g.here = false) ∧
     (8 ≤ (ufer.nv.ctxs.filter (fun c => c.fn == hd0.fn && c.cmd == .aer && c.status.isNone)).length) ∧
     ((uf.nv.ctxs.filter (fun c => c.fn == hd0.fn && c.cmd == .aer && c.status.isNone)).length < 8) ∧ ((uf.fn hd0.fn).kept = [])) :=
  ⟨ufab8_inv, ufab8_fetched, ufab_inv, ufab_fetched, ufabn_inv, ufabn_fetched, ufabg_inv, ufabg_fetched, uf_inv, uf_fetched, ufer_fetched, by
      decide +kernel, by decide +kernel, by decide +kernel, by decide +kernel⟩

theorem test_meets_FeaturesAreSetAndRead :
    uf.Inv ∧
    (uf.Fetched hd0) ∧
    ufq.Inv ∧
    (ufq.Fetched hd0) ∧
    uff.Inv ∧
    (uff.Fetched ((⟨5, 1, 7, none⟩ : Hdr))) ∧
    ((8 = 1 ∨ 8 = 8 ∨ 8 = 11) ∧
     (1 = 1 ∨ 1 = 8 ∨ 1 = 11) ∧
     (11 = 1 ∨ 11 = 8 ∨ 11 = 11) ∧
     (9 = 9) ∧
     (7 = 7) ∧ (ufq.numQueues hd0.fn = some ((3 + 3 * 65536))) ∧
     (7 = 7) ∧ (uff.numQueues ((⟨5, 1, 7, none⟩ : Hdr)).fn = none) ∧
     (2 = 2) ∧ (((⟨5, 1, 7, none⟩ : Hdr)).fn ≠ 0) ∧
     (2 = 2) ∧ (hd0.fn = 0) ∧ (3 < 4 % 32)) ∧
    ((2 = 2) ∧ (hd0.fn = 0) ∧ (3 % 32 ≤ 3) ∧
     (4 = 4) ∧ (8 < 0x90000 / 2 ^ 16 % 16 ∨ 1 < 0x90000 / 2 ^ 20 % 4) ∧
     (4 = 4) ∧ (8 < 0x200000 / 2 ^ 16 % 16 ∨ 1 < 0x200000 / 2 ^ 20 % 4) ∧
     (4 = 4) ∧ (0x180170 / 2 ^ 16 % 16 ≤ 8) ∧ (0x180170 / 2 ^ 20 % 4 ≤ 1) ∧
     (3 ∉ [1, 2, 4, 7, 8, 9, 11]) ∧
     (2 = 2) ∧
     (4 = 4) ∧
     (12 ∉ [1, 2, 4, 7, 8, 9, 11])) :=
  ⟨uf_inv, uf_fetched, ufq_inv, ufq_fetched, uff_inv, fetched_of (by decide +kernel), by decide +kernel, by decide +kernel⟩

theorem test_meets_NamespacesAreManaged :
    (ufv.Fetched ((⟨5, 1, 7, none⟩ : Hdr))) ∧
    (ufull.Fetched hd0) ∧
    ((List.range' 1 1024).find? (fun i => (ufull.ns i).isNone) = none) ∧
    (ufn.Fetched hd0) ∧
    (ufc.Fetched hd0) ∧
    (ufcr.Fetched hd0) ∧
    (ufcd.Fetched hd0) ∧
    (ufnb.Fetched hd0) ∧
    (ufna.Fetched hd0) ∧
    (ufcs.Fetched hd0) ∧
    ((ufv.isPfNow ((⟨5, 1, 7, none⟩ : Hdr)).fn = false) ∧
     (ufull.isPfNow hd0.fn = true) ∧
     (ufn.isPfNow hd0.fn = true) ∧ (((List.range' 1 1024).find? (fun i => (ufn.ns i).isNone)).isSome = true) ∧ (formatOk 5 0 = false) ∧
     (ufn.isPfNow hd0.fn = true) ∧ (((List.range' 1 1024).find? (fun i => (ufn.ns i).isNone)).isSome = true) ∧ (formatOk 2 1 = false)) ∧
    ((ufn.isPfNow hd0.fn = true) ∧ (((List.range' 1 1024).find? (fun i => (ufn.ns i).isNone)).isSome = true) ∧ (formatOk 1 0 = true) ∧ (0 = 0) ∧
     (ufc.isPfNow hd0.fn = true) ∧ (((List.range' 1 1024).find? (fun i => (ufc.ns i).isNone)).isSome = true) ∧ (formatOk 0 0 = true) ∧ (2097185 ≠
      0) ∧ ((ufc.freeGranules (granulesFor 0 2097185)).length < granulesFor 0 2097185)) ∧
    ((ufcr.isPfNow hd0.fn = true) ∧ (((List.range' 1 1024).find? (fun i => (ufcr.ns i).isNone)).isSome = true) ∧ (formatOk 1 0 = true) ∧ (1 ≠ 0) ∧
      (granulesFor 1 1 ≤ (ufcr.freeGranules (granulesFor 1 1)).length) ∧ (ufcr.rngOk = false)) ∧
    ((ufc.isPfNow hd0.fn = true) ∧ ((List.range' 1 1024).find? (fun i => (ufc.ns i).isNone) = some 2) ∧ (formatOk 0 0 = true) ∧ (2097152 ≠ 0) ∧
      (granulesFor 0 2097152 ≤ (ufc.freeGranules (granulesFor 0 2097152)).length) ∧ (ufc.rngOk = true) ∧ (ufc.nv.sanitize = none)) ∧
    ((ufcd.isPfNow hd0.fn = true) ∧ ((List.range' 1 1024).find? (fun i => (ufcd.ns i).isNone) = some 2) ∧ (formatOk 4 3 = true) ∧ (8 ≠ 0) ∧
      (granulesFor 4 8 ≤ (ufcd.freeGranules (granulesFor 4 8)).length) ∧ (ufcd.rngOk = true) ∧ (ufcd.nv.sanitize = none) ∧
     (ufcd.isPfNow hd0.fn = true) ∧ (1 ≠ 0xFFFF_FFFF) ∧ (ufcd.ns 1 = some ns1)) ∧
    ((ufc.isPfNow hd0.fn = true) ∧ (9 ≠ 0xFFFF_FFFF) ∧ (ufc.ns 9 = none) ∧
     (ufnb.isPfNow hd0.fn = true) ∧ (ufnb.ns 1 = some ({ ns1 with fns := [] })) ∧ ([0, 1] ≠ []) ∧ (∀ f ∈ [0, 1], ufnb.fnUp f = true) ∧ (∀ f ∈ [0,
      1], f ∉ ({ ns1 with fns := [] }).fns)) ∧
    ((ufna.isPfNow hd0.fn = true) ∧ (ufna.ns 1 = some ({ ns1 with fns := [0] })) ∧ ([0, 2] ≠ []) ∧ (∃ f ∈ [0, 2], ufna.fnUp f = false) ∧
     (ufna.isPfNow hd0.fn = true) ∧ (ufna.ns 1 = some ({ ns1 with fns := [0] })) ∧ ([1, 0] ≠ []) ∧ (∀ f ∈ [1, 0], ufna.fnUp f = true) ∧ (∃ f ∈ [1,
      0], f ∈ ({ ns1 with fns := [0] }).fns)) :=
  ⟨fetched_of (by decide +kernel), ufull_fetched, ufull_full, ufn_fetched, ufc_fetched, ufcr_fetched, ufcd_fetched, ufnb_fetched, ufna_fetched,
      ufcs_fetched, by decide +kernel, by decide +kernel, by decide +kernel, by decide +kernel, by decide +kernel, by decide +kernel, by
      decide +kernel⟩

theorem test_meets_NamespacesAreManaged_2 :
    ((ufna.isPfNow hd0.fn = true) ∧ (ufna.ns 1 = some ({ ns1 with fns := [0] })) ∧ ([0] ≠ []) ∧ (∀ f ∈ [0], ufna.fnUp f = true) ∧ (∀ f ∈ [0], f ∈
      ({ ns1 with fns := [0] }).fns) ∧
     (ufna.isPfNow hd0.fn = true) ∧ (ufna.ns 1 = some ({ ns1 with fns := [0] })) ∧ ([0, 1] ≠ []) ∧ (∀ f ∈ [0, 1], ufna.fnUp f = true) ∧ (∃ f ∈ [0,
      1], f ∉ ({ ns1 with fns := [0] }).fns)) ∧
    ((ufn.isPfNow hd0.fn = true) ∧ (1 ≠ 0xFFFF_FFFF) ∧ (ufn.ns 1 = some ns1) ∧ (ns1.fns.contains hd0.fn = true) ∧ (formatOk 5 0 = false) ∧
     (ufn.isPfNow hd0.fn = true) ∧ (1 ≠ 0xFFFF_FFFF) ∧ (ufn.ns 1 = some ns1) ∧ (ns1.fns.contains hd0.fn = true) ∧ (formatOk 1 0 = true) ∧ (2 < 3)) ∧
    ((ufcs.isPfNow hd0.fn = true) ∧ (1 ≠ 0xFFFF_FFFF) ∧ (ufcs.ns 1 = some ns1) ∧ (ns1.fns.contains hd0.fn = true) ∧ (formatOk 1 0 = true) ∧ (2 ≤
      2) ∧ (ufcs.nv.sanitize.isSome = true)) ∧
    ((ufcr.isPfNow hd0.fn = true) ∧ (1 ≠ 0xFFFF_FFFF) ∧ (ufcr.ns 1 = some ns1) ∧ (ns1.fns.contains hd0.fn = true) ∧ (formatOk 1 0 = true) ∧ (2 = 1
      ∨ 2 = 2) ∧ (ufcr.nv.sanitize = none) ∧ (ufcr.rngOk = false)) ∧
    ((ufcd.isPfNow hd0.fn = true) ∧ (1 ≠ 0xFFFF_FFFF) ∧ (ufcd.ns 1 = some ns1) ∧ (ns1.fns.contains hd0.fn = true) ∧ (formatOk 4 0 = true) ∧ (0 =
      0) ∧ (ufcd.nv.sanitize = none)) ∧
    ((ufc.isPfNow hd0.fn = true) ∧ (1 ≠ 0xFFFF_FFFF) ∧ (ufc.ns 1 = some ns1) ∧ (ns1.fns.contains hd0.fn = true) ∧ (formatOk 1 0 = true) ∧ (1 = 1 ∨
      1 = 2) ∧ (ufc.nv.sanitize = none) ∧ (ufc.rngOk = true)) ∧
    ((ufcd.isPfNow hd0.fn = true) ∧ (1 ≠ 0xFFFF_FFFF) ∧ (ufcd.ns 1 = some ns1) ∧ (ns1.fns.contains hd0.fn = true) ∧ (formatOk 1 0 = true) ∧ (2 = 1
      ∨ 2 = 2) ∧ (ufcd.nv.sanitize = none) ∧ (ufcd.rngOk = true)) :=
  ⟨by decide +kernel, by decide +kernel, by decide +kernel, by decide +kernel, by decide +kernel, by decide +kernel, by decide +kernel⟩

theorem test_meets_SanitizeAndPowerStatesEnd :
    ufv.Inv ∧
    (ufv.Fetched ((⟨5, 1, 7, none⟩ : Hdr))) ∧
    uf.Inv ∧
    (uf.Fetched hd0) ∧
    ufcs.Inv ∧
    (ufcs.Fetched hd0) ∧
    ufcr.Inv ∧
    (ufcr.Fetched hd0) ∧
    ufc.Inv ∧
    (ufc.Fetched hd0) ∧
    ufcd.Inv ∧
    (ufcd.Fetched hd0) ∧
    usan.Inv ∧
    usanw.Inv ∧
    ups.Inv ∧
    (∀ b, w.nv.psAt = some b → w.time.beat < b) ∧
    uexit.Inv ∧
    ((ufv.isPfNow ((⟨5, 1, 7, none⟩ : Hdr)).fn = false) ∧
     (uf.isPfNow hd0.fn = true) ∧ (3 ∉ [1, 2, 4]) ∧
     (uf.isPfNow hd0.fn = true) ∧ (1 = 1) ∧
     (ufcs.isPfNow hd0.fn = true) ∧ (2 = 2 ∨ 2 = 4) ∧ (ufcs.nv.sanitize.isSome = true) ∧
     (ufcr.isPfNow hd0.fn = true) ∧ (4 = 2 ∨ 4 = 4) ∧ (ufcr.nv.sanitize = none) ∧ (ufcr.rngOk = false)) ∧
    ((ufc.isPfNow hd0.fn = true) ∧ (4 = 2 ∨ 4 = 4) ∧ (ufc.nv.sanitize = none) ∧ (ufc.rngOk = true) ∧
     (ufcd.isPfNow hd0.fn = true) ∧ (2 = 2 ∨ 2 = 4) ∧ (ufcd.nv.sanitize = none) ∧ (ufcd.rngOk = true) ∧
     (usan.nv.sanitize = some 0) ∧ (usan.pumpSanitize.sanitized = true)) ∧
    ((usanw.nv.sanitize = some 0) ∧ (usanw.pumpSanitize.sanitized = false) ∧
     (w.nv.sanitize = none) ∧
     (ups.nv.psAt = some 1000) ∧ (1000 ≤ ups.time.beat) ∧
     (uexit.rd Fd.QUE_PWR_EXIT = 1) ∧
     (w.rd Fd.QUE_PWR_EXIT ≠ 1)) :=
  ⟨ufv_inv, fetched_of (by decide +kernel), uf_inv, uf_fetched, ufcs_inv, ufcs_fetched, ufcr_inv, ufcr_fetched, ufc_inv, ufc_fetched, ufcd_inv,
      ufcd_fetched, usan_inv, usanw_inv, ups_inv, of_opt (by decide +kernel), uexit_inv, by decide +kernel, by decide +kernel, by decide +kernel⟩

theorem test_meets_IoCommandsBeginOrAreRefused :
    uf.Inv ∧
    (uf.Fetched hd0) ∧
    (∀ n, uf.ns 1 = some n → n.fns.contains hd0.fn = false) ∧
    ufn.Inv ∧
    (ufn.Fetched hd0) ∧
    useal.Inv ∧
    (useal.Fetched hd0) ∧
    ((1 ≠ 0xFFFF_FFFF) ∧ ((uf.fn hd0.fn).c1h.pending.contains 1 = false) ∧
     (ufn.refuseNs hd0.fn 1 = none) ∧ (ufn.ns 1 = some ns1) ∧ (2 * ns1.lbaBytes ≤ 2097152) ∧ (ns1.lbas < 999 + 2) ∧
     (useal.refuseNs hd0.fn 1 = none) ∧ (useal.ns 1 = some ns1) ∧ ((useal.refuseRange hd0 ns1 0 8 noXfer true).isNone = true) ∧ (useal.sealed =
      true)) ∧
    ((ufn.refuseNs hd0.fn 1 = none) ∧ (ufn.ns 1 = some ns1) ∧ ((ufn.refuseRange hd0 ns1 992 8 noXfer true).isNone = true) ∧ (ufn.sealed = false) ∧
      (0 < 8) ∧
     (useal.refuseNs hd0.fn 1 = none) ∧ (useal.ns 1 = some ns1) ∧ ((useal.refuseRange hd0 ns1 992 8 noXfer true).isNone = true) ∧ (0 < 8)) ∧
    ((ufn.refuseNs hd0.fn 1 = none) ∧ (ufn.ns 1 = some ns1) ∧ (1 * ns1.lbaBytes ≤ 2097152) ∧ (0 + 1 ≤ ns1.lbas) ∧
      (({ noXfer with descs := [⟨0, 0, 255, 2⟩] }).dataLen = none) ∧ (({ noXfer with descs := [⟨0, 0, 255, 2⟩] }).metaLen = none) ∧
      (({ noXfer with descs := [⟨0, 0, 255, 2⟩] }).prpBad = false) ∧ (({ noXfer with descs := [⟨0, 0, 255, 2⟩] }).cmb = false) ∧
      (({ noXfer with descs := [⟨0, 0, 255, 2⟩] }).descs.find? descTooLong = some ⟨0, 0, 255, 2⟩)) ∧
    ((ufn.refuseNs hd0.fn 1 = none) ∧ (ufn.ns 1 = some ns1) ∧ (∃ r ∈ [(999, 1), (999, 2)], 0 < r.2 ∧ ns1.lbas < r.1 + r.2) ∧
     (ufn.refuseNs hd0.fn 1 = none) ∧ (ufn.ns 1 = some ns1) ∧ (∀ r ∈ [(1000, 0), (999, 1)], 0 < r.2 → r.1 + r.2 ≤ ns1.lbas) ∧ (false = false ∨ (∀
      r ∈ [(1000, 0), (999, 1)], r.2 = 0))) ∧
    ((ufn.refuseNs hd0.fn 1 = none) ∧ (ufn.ns 1 = some ns1) ∧ (∀ r ∈ [(1000, 0)], 0 < r.2 → r.1 + r.2 ≤ ns1.lbas) ∧ (true = false ∨ (∀ r ∈ [(1000,
      0)], r.2 = 0)) ∧
     (ufn.refuseNs hd0.fn 1 = none) ∧ (ufn.ns 1 = some ns1) ∧ (∀ r ∈ [(0, 0), (999, 1)], 0 < r.2 → r.1 + r.2 ≤ ns1.lbas) ∧ (∃ r ∈ [(0, 0), (999,
      1)], r.2 ≠ 0)) :=
  ⟨uf_inv, uf_fetched, of_opt (by decide +kernel), ufn_inv, ufn_fetched, useal_inv, useal_fetched, by decide +kernel, by decide +kernel, by
      decide +kernel, by decide +kernel, by decide +kernel⟩

theorem test_meets_FlushWaitsForItsVersions :
    ufnv.Inv ∧
    (ufnv.Fetched hd0) ∧
    (ufnv.takeGrant hd0 = some (({ grant0 with mark := 3 }), (({ ufnv with nv := { ufnv.nv with grants := [] } } : State)))) ∧
    ufnb2.Inv ∧
    (ufnb2.Fetched hd0) ∧
    (ufnb2.takeGrant hd0 = some (({ grant0 with beat := 999 }), (({ ufnb2 with nv := { ufnb2.nv with grants := [] } } : State)))) ∧
    ((ufnv.refuseNs hd0.fn 1 = none) ∧ (1 ≠ 0xFFFF_FFFF) ∧ (ufnv.covered [1] ({ grant0 with mark := 3 }).mark ≠ []) ∧
     (ufnb2.refuseNs hd0.fn 1 = none) ∧ (1 ≠ 0xFFFF_FFFF) ∧ (ufnb2.covered [1] ({ grant0 with beat := 999 }).mark = []) ∧
      (({ grant0 with beat := 999 }).beat < ufnb2.time.beat)) ∧
    ((ufl.ctxAt hd0.fn hd0.sq hd0.cid = some ({ ctx0 with cmd := .flush })) ∧
      (ufl.ctx ({ ctx0 with cmd := .flush }).id = some ({ ctx0 with cmd := .flush })) ∧ (({ ctx0 with cmd := .flush }).cmd = .flush) ∧
      (({ ctx0 with cmd := .flush }).refs = []) ∧ (({ ctx0 with cmd := .flush }).status = none) ∧
      (({ ctx0 with cmd := .flush }).beat < ufl.time.beat)) ∧
    ((uwc.ctxAt hd0.fn hd0.sq hd0.cid = some ctx0) ∧ (uwc.ctx ctx0.id = some ctx0) ∧ (ctx0.cmd ≠ .flush ∨ ctx0.refs ≠ [] ∨ ctx0.status ≠ none ∨
      uwc.time.beat ≤ ctx0.beat) ∧
     (w.ctxAt hd0.fn hd0.sq hd0.cid = none)) :=
  ⟨ufnv_inv, ufnv_fetched, rfl, ufnb2_inv, ufnb2_fetched, rfl, by decide +kernel, by decide +kernel, by decide +kernel⟩

theorem test_meets_WritesCommit :
    (∀ v, w.ver 0 = some v → v.full = false ∨ (true = true ∧ w.mirrored = false) ∨ (true = false ∧ v.st ≠ .filling)) ∧
    uverm.Inv ∧
    uvert.Inv ∧
    (∀ p, w.part 0 = some p → w.partReady p = false ∨ w.active = none ∨ w.hub.hold = true ∨ w.hub.fenced = true ∨ w.lg.loss ≠ none ∨ (w.protectedMode = true ∧ w.partFlushed p = false) ∨ w.variant.ringWords ≤ w.ringUsed + 5 + 2 * p.tarts.length) ∧
    ubody.Inv ∧
    (∀ p, upart.part 0 = some p → p.st ≠ .body ∨ upart.headerReady p.jseq = false ∨ upart.hub.hold = true) ∧
    (∀ p, upart.part 0 = some p → p.st ≠ .header ∨ upart.active = none ∨ upart.hub.hold = true ∨ upart.hub.fenced = true ∨ (∃ q ∈ upart.tr.parts,
      q.begun = true ∧ q.jseq < p.jseq)) ∧
    ((uver.ver 0 = some ({ ver0 with prim := true, mirror := true })) ∧ (({ ver0 with prim := true, mirror := true }).full = true) ∧
      (({ ver0 with prim := true, mirror := true }).st = .filling) ∧
     (uver.ver 0 = some ({ ver0 with prim := true, mirror := true })) ∧ (({ ver0 with prim := true, mirror := true }).full = true) ∧
      (uver.mirrored = true)) ∧
    ((uverm.ver 0 = some ({ ver0 with prim := true, secs := (List.range 32).map (fun i => (i, padSector)) })) ∧
      (({ ver0 with prim := true, secs := (List.range 32).map (fun i => (i, padSector)) }).full = true) ∧ (uverm.mirrored = true) ∧
      (({ ver0 with prim := true, secs := (List.range 32).map (fun i => (i, padSector)) }).mirrorTag = false)) ∧
    ((uvert.ver 0 = some ({ ver0 with prim := true, mirrorTag := true, secs := (List.range 32).map (fun i => (i, padSector)) })) ∧
      (({ ver0 with prim := true, mirrorTag := true, secs := (List.range 32).map (fun i => (i, padSector)) }).full = true) ∧ (uvert.mirrored =
      true) ∧ (({ ver0 with prim := true, mirrorTag := true, secs := (List.range 32).map (fun i => (i, padSector)) }).mirrorTag = true) ∧
      (({ ver0 with prim := true, mirrorTag := true, secs := (List.range 32).map (fun i => (i, padSector)) }).st = .filling) ∧
      (({ ver0 with prim := true, mirrorTag := true, secs := (List.range 32).map (fun i => (i, padSector)) }).ctx = some ctx0.id) ∧ (uvert.ctx
      ctx0.id = some ctx0) ∧ (ctx0.status = none)) ∧
    ((uver.part 0 = some ({ part0 with st := .filling })) ∧ (uver.partReady ({ part0 with st := .filling }) = true) ∧ (uver.active.isSome = true)
      ∧ (uver.hub.hold = false) ∧ (uver.hub.fenced = false) ∧ (uver.lg.loss = none) ∧ (∀ q ∈ uver.tr.parts,
      q.ctx = ({ part0 with st := .filling }).ctx → ({ part0 with st := .filling }).ctx ≠ none → q.id < 0 → q.begun = true) ∧ (uver.protectedMode
      = true → uver.partFlushed ({ part0 with st := .filling }) = true) ∧ (uver.lg.head + 5 + 2 * ({ part0 with st := .filling }).tarts.length ≤
      uver.variant.ringWords) ∧ (uver.ringUsed + 5 + 2 * ({ part0 with st := .filling }).tarts.length < uver.variant.ringWords)) ∧
    ((ubody.part 0 = some ({ part0 with st := .body })) ∧ (({ part0 with st := .body }).st = .body) ∧
      (ubody.headerReady ({ part0 with st := .body }).jseq = true) ∧ (ubody.hub.hold = false)) ∧
    ((uhead.part 0 = some ({ part0 with st := .header })) ∧ (({ part0 with st := .header }).st = .header) ∧ (uhead.active.isSome = true) ∧
      (uhead.hub.hold = false) ∧ (uhead.hub.fenced = false) ∧ (∀ q ∈ uhead.tr.parts, q.begun = true → ({ part0 with st := .header }).jseq ≤
      q.jseq) ∧ (∀ i ∈ ({ part0 with st := .header }).vids, i < uhead.tr.nextId)) :=
  ⟨of_opt (by decide +kernel), uverm_inv, uvert_inv, of_opt (by decide +kernel), ubody_inv, of_opt (by decide +kernel),
      of_opt (by decide +kernel), by decide +kernel, by decide +kernel, by decide +kernel, by decide +kernel, by decide +kernel, by decide +kernel⟩

theorem test_meets_MapFollowsTheJournal :
    vmap.Inv ∧
    (∀ w, z.tr.mapq.find? (fun w => w.mseq == 0) = some w → w.written = false ∨ z.serving = false ∨ z.mapHeld w.ltn = true ∨ z.segHeld w.ltn =
      true ∨ (∃ v ∈ z.tr.mapq, v.ltn = w.ltn ∧ v.mseq < 0) ∨ (z.headerReady w.jseq = false ∧ ∀ r ∈ z.lg.live, r.jseq = w.jseq → r.valid = false)) ∧
    vblk.Inv ∧
    (vmap.headerReady 0 = false ∨ (∀ r ∈ vmap.lg.live, r.jseq = 0 → r.body.typ ≠ 5)) ∧
    (∀ x, vwat6.tr.watch.find? (fun x => x.id == 2) = some x → x.count < 7) ∧
    ((vmap.serving = true) ∧ (vmap.tr.mapq.find? (fun w' => w'.mseq == 0) = some mapw0) ∧ (mapw0.written = true) ∧ ((∃ r ∈ vmap.lg.live, r.jseq =
      mapw0.jseq ∧ r.valid = true) ∨ vmap.headerReady mapw0.jseq = true) ∧ (vmap.mapHeld mapw0.ltn = false) ∧ (vmap.segHeld mapw0.ltn = false) ∧
      (∀ v ∈ vmap.tr.mapq, v.ltn = mapw0.ltn → 0 ≤ v.mseq) ∧ (∀ i ∈ mapw0.vids, i < vmap.tr.nextId)) ∧
    ((vdelta.freshDeltas[1023]? = some 1023) ∧ (vdelta.active.isSome = true) ∧ (vdelta.hub.hold = false) ∧ (vdelta.dieNums ≠ []) ∧
     (z.freshDeltas[1023]? = none ∨ z.active = none ∨ z.hub.hold = true ∨ z.dieNums = []) ∧
     (w.freshDeltas[1023]? = none ∨ w.active = none ∨ w.hub.hold = true ∨ w.dieNums = [])) ∧
    ((vblk.lg.live.find? (fun x => x.jseq == ((⟨0, false, .blkTab 0 0 0 5, 0, false⟩ : JRec)).jseq && !x.valid) = some ((⟨0, false, .blkTab 0 0 0
      5, 0, false⟩ : JRec))) ∧ (((⟨0, false, .blkTab 0 0 0 5, 0, false⟩ : JRec)).body = .blkTab 0 0 0 5) ∧ (vblk.headerReady ((⟨0, false, .blkTab
      0 0 0 5, 0, false⟩ : JRec)).jseq = true) ∧
     (vwat0.tr.watch.find? (fun x' => x'.id == 2) = some ((⟨2, 0, 0, 5, 7⟩ : Watch))) ∧ (7 ≤ ((⟨2, 0, 0, 5, 7⟩ : Watch)).count) ∧ (((⟨2, 0, 0, 5,
      7⟩ : Watch)).kind = 0) ∧ (2 < vwat0.tr.nextId)) ∧
    ((vwat1.tr.watch.find? (fun x' => x'.id == 2) = some ((⟨2, 1, 4, 5, 7⟩ : Watch))) ∧ (7 ≤ ((⟨2, 1, 4, 5, 7⟩ : Watch)).count) ∧ (((⟨2, 1, 4, 5,
      7⟩ : Watch)).kind = 1) ∧
     (vwat2.tr.watch.find? (fun x' => x'.id == 2) = some ((⟨2, 2, 0, 5, 7⟩ : Watch))) ∧ (7 ≤ ((⟨2, 2, 0, 5, 7⟩ : Watch)).count) ∧ (((⟨2, 2, 0, 5,
      7⟩ : Watch)).kind = 2)) ∧
    ((vwat3.tr.watch.find? (fun x' => x'.id == 2) = some ((⟨2, 3, 4, 5, 7⟩ : Watch))) ∧ (7 ≤ ((⟨2, 3, 4, 5, 7⟩ : Watch)).count) ∧ (3 ≤ ((⟨2, 3, 4,
      5, 7⟩ : Watch)).kind) ∧
     (((⟨4, 0, 1, 5, 1, 9, 0, none⟩ : Staged)) ∈ vstg.tr.staged) ∧ (((⟨4, 0, 1, 5, 1, 9, 0, none⟩ : Staged)).ltn = 5) ∧ (((⟨4, 0, 1, 5, 1, 9, 0,
      none⟩ : Staged)).beat + vstg.rd Fd.MAP_RACFG_LIFE ≤ vstg.time.beat)) :=
  ⟨vmap_inv, of_opt (by decide +kernel), vblk_inv, .inl (by decide +kernel), of_opt (by decide +kernel), by decide +kernel, by decide +kernel, by
      decide +kernel, by decide +kernel, by decide +kernel⟩

theorem test_meets_LookupsAndReadsReturn :
    (∀ c, w.ctx 0 = some c → ∀ l, c.lookups.find? (fun l => l.i == 0 && !l.back) = some l → w.segHeld l.ltn = true ∨ w.serving = false) ∧
    (∀ o, w.op 0 = some o → o.kind ≠ .read ∨ o.st ≠ .busy ∨ o.left ≠ 0) ∧
    (vhr.Decodes ((⟨List.replicate 4 ⟨true, false, 5000, 3, []⟩, [2], none⟩ : DecodeRes))) ∧
    (vst.Decodes ((⟨List.replicate 4 ⟨true, false, 5000, 3, []⟩, [2], none⟩ : DecodeRes))) ∧
    (vcp.Decodes ((⟨List.replicate 4 ⟨true, false, 5000, 3, []⟩, [2], none⟩ : DecodeRes))) ∧
    vcal.Inv ∧
    (vcal.Decodes ((⟨List.replicate 4 ⟨true, false, 5000, 3, []⟩, [2], none⟩ : DecodeRes))) ∧
    ((vlk2.ctx 0 = some ({ ctx0 with lookups := [{ look0 with entry := ⟨9, 1, false, true⟩ }] })) ∧
      (({ ctx0 with lookups := [{ look0 with entry := ⟨9, 1, false, true⟩ }] }).status = none) ∧
      (({ ctx0 with lookups := [{ look0 with entry := ⟨9, 1, false, true⟩ }] }).lookups.find? (fun l' => l'.i == 0 && !l'.back) = some ({ look0 with entry := ⟨9, 1, false, true⟩ })) ∧ (vlk2.segHeld ({ look0 with entry := ⟨9, 1, false, true⟩ }).ltn = false) ∧ (vlk2.serving = true) ∧ (vlk2.legal ({ look0 with entry := ⟨9, 1, false, true⟩ }).entry = false)) ∧
    ((vlk.ctx 0 = some ({ ctx0 with lookups := [look0] })) ∧ (({ ctx0 with lookups := [look0] }).status = none) ∧
      (({ ctx0 with lookups := [look0] }).lookups.find? (fun l' => l'.i == 0 && !l'.back) = some look0) ∧ (vlk.segHeld look0.ltn = false) ∧
      (vlk.serving = true) ∧ (vlk.legal look0.entry = true)) ∧
    ((vrd.op 0 = some ({ op0 with st := .busy })) ∧ (({ op0 with st := .busy }).kind = .read) ∧ (({ op0 with st := .busy }).st = .busy) ∧
      (({ op0 with st := .busy }).left = 0) ∧ (0 < vrd.md.nextOp)) ∧
    ((vhr.op 0 = some ({ op0 with st := .busy })) ∧ (({ op0 with st := .busy }).kind = .read) ∧ (({ op0 with st := .busy }).st = .busy) ∧
      (({ op0 with st := .busy }).left = 0) ∧ (vhr.climb 0 = none) ∧ (({ op0 with st := .busy }).why = .host 0 0) ∧
      (vhr.ctx 0 = some ({ ctx0 with cmd := .read, lookups := [{ look0 with i := 0, back := true }], results := [({ i := 0, op := 0, spec := false, gen := 1, ppa := 9, final := false, confirmed := false, early := false, dead := false, secs := [], cws := [], side := [], badTags := [], piFail := none } : Result)] })) ∧ (({ ctx0 with cmd := .read, lookups := [{ look0 with i := 0, back := true }], results := [({ i := 0, op := 0, spec := false, gen := 1, ppa := 9, final := false, confirmed := false, early := false, dead := false, secs := [], cws := [], side := [], badTags := [], piFail := none } : Result)] }).status = none) ∧ (({ ctx0 with cmd := .read, lookups := [{ look0 with i := 0, back := true }], results := [({ i := 0, op := 0, spec := false, gen := 1, ppa := 9, final := false, confirmed := false, early := false, dead := false, secs := [], cws := [], side := [], badTags := [], piFail := none } : Result)] }).results.find? (fun r' => r'.i == 0 && r'.op == ({ op0 with st := .busy }).id && !r'.final) = some (({ i := 0, op := 0, spec := false, gen := 1, ppa := 9, final := false, confirmed := false, early := false, dead := false, secs := [], cws := [], side := [], badTags := [], piFail := none } : Result))) ∧ ((({ i := 0, op := 0, spec := false, gen := 1, ppa := 9, final := false, confirmed := false, early := false, dead := false, secs := [], cws := [], side := [], badTags := [], piFail := none } : Result)).spec = false)) ∧
    ((vst.op 0 = some ({ op0 with st := .busy, why := .stage 0 1, ppa := 9 })) ∧ (({ op0 with st := .busy, why := .stage 0 1, ppa := 9 }).kind =
      .read) ∧ (({ op0 with st := .busy, why := .stage 0 1, ppa := 9 }).st = .busy) ∧
      (({ op0 with st := .busy, why := .stage 0 1, ppa := 9 }).left = 0) ∧ (vst.climb 0 = none) ∧
      (({ op0 with st := .busy, why := .stage 0 1, ppa := 9 }).why = .stage 0 1)) ∧
    ((vcp.op 0 = some ({ op0 with st := .busy, why := .copy 0 5 })) ∧ (({ op0 with st := .busy, why := .copy 0 5 }).kind = .read) ∧
      (({ op0 with st := .busy, why := .copy 0 5 }).st = .busy) ∧ (({ op0 with st := .busy, why := .copy 0 5 }).left = 0) ∧ (vcp.climb 0 = none) ∧
      (({ op0 with st := .busy, why := .copy 0 5 }).why = .copy 0 5)) ∧
    ((vcal.op 0 = some ({ op0 with st := .busy, why := .calib 0 0 })) ∧ (({ op0 with st := .busy, why := .calib 0 0 }).kind = .read) ∧
      (({ op0 with st := .busy, why := .calib 0 0 }).st = .busy) ∧ (({ op0 with st := .busy, why := .calib 0 0 }).left = 0) ∧ (vcal.climb 0 =
      none) ∧ (({ op0 with st := .busy, why := .calib 0 0 }).why = .calib 0 0)) :=
  ⟨of_none rfl, of_opt (by decide +kernel), decodes_of (by decide +kernel), decodes_of (by decide +kernel), decodes_of (by decide +kernel),
      vcal_inv, decodes_of (by decide +kernel), by decide +kernel, by decide +kernel, by decide +kernel, by decide +kernel, by decide +kernel, by
      decide +kernel, by decide +kernel⟩

theorem test_meets_LookupsAndReadsReturn_2 :
    ((vpat.op 0 = some ({ op0 with st := .busy, why := .patrol })) ∧ (({ op0 with st := .busy, why := .patrol }).kind = .read) ∧
      (({ op0 with st := .busy, why := .patrol }).st = .busy) ∧ (({ op0 with st := .busy, why := .patrol }).left = 0) ∧ (vpat.climb 0 = none) ∧
      (({ op0 with st := .busy, why := .patrol }).why = .patrol) ∧ (((⟨[(⟨false, false, 5000, 300, []⟩ : CwTry)], [], none⟩ : DecodeRes)).cws[0]?
      = some ((⟨false, false, 5000, 300, []⟩ : CwTry))) ∧ (((⟨false, false, 5000, 300, []⟩ : CwTry)).ok = false ∨ (((⟨false, false, 5000, 300, []⟩
      : CwTry)).zeros < vpat.rd Fd.ECC_CFG_ERASEDTHR ∧ (vpat.page ({ op0 with st := .busy, why := .patrol }).ppa).secs ≠ []))) ∧
    ((vpatz.op 0 = some ({ op0 with st := .busy, why := .patrol })) ∧ (({ op0 with st := .busy, why := .patrol }).kind = .read) ∧
      (({ op0 with st := .busy, why := .patrol }).st = .busy) ∧ (({ op0 with st := .busy, why := .patrol }).left = 0) ∧ (vpatz.climb 0 = none) ∧
      (({ op0 with st := .busy, why := .patrol }).why = .patrol) ∧ (((⟨[(⟨true, false, 0, 0, []⟩ : CwTry)], [], none⟩ : DecodeRes)).cws[0]? = some
      ((⟨true, false, 0, 0, []⟩ : CwTry))) ∧ (((⟨true, false, 0, 0, []⟩ : CwTry)).ok = false ∨ (((⟨true, false, 0, 0, []⟩ : CwTry)).zeros <
      vpatz.rd Fd.ECC_CFG_ERASEDTHR ∧ (vpatz.page ({ op0 with st := .busy, why := .patrol }).ppa).secs ≠ []))) :=
  ⟨by decide +kernel, by decide +kernel⟩

theorem test_meets_ProgramsEnd :
    (∀ o, vrd.op 0 = some o → o.kind ≠ .program ∨ o.st ≠ .busy ∨ o.left ≠ 0) ∧
    vpr.Inv ∧
    (∀ o, w.op 0 = some o → w.pastLimit o = false) ∧
    vlim.Inv ∧
    vsus.Inv ∧
    ((vpr.op 0 = some ({ op0 with kind := .program, st := .busy, why := .metadata, units := [0] })) ∧
      (({ op0 with kind := .program, st := .busy, why := .metadata, units := [0] }).kind = .program) ∧
      (({ op0 with kind := .program, st := .busy, why := .metadata, units := [0] }).st = .busy) ∧
      (({ op0 with kind := .program, st := .busy, why := .metadata, units := [0] }).left = 0) ∧ (0 < vpr.md.nextOp)) ∧
    ((vpr.op 0 = some ({ op0 with kind := .program, st := .busy, why := .metadata, units := [0] })) ∧
      (({ op0 with kind := .program, st := .busy, why := .metadata, units := [0] }).kind = .program) ∧
      (({ op0 with kind := .program, st := .busy, why := .metadata, units := [0] }).st = .busy) ∧
      (({ op0 with kind := .program, st := .busy, why := .metadata, units := [0] }).left = 0) ∧
      (({ op0 with kind := .program, st := .busy, why := .metadata, units := [0] }).why = .metadata) ∧
      (({ op0 with kind := .program, st := .busy, why := .metadata, units := [0] }).units.getD 0 0 = 0)) ∧
    ((vpr2.op 0 = some ({ op0 with kind := .program, st := .busy, why := .metadata, units := [2] })) ∧
      (({ op0 with kind := .program, st := .busy, why := .metadata, units := [2] }).kind = .program) ∧
      (({ op0 with kind := .program, st := .busy, why := .metadata, units := [2] }).st = .busy) ∧
      (({ op0 with kind := .program, st := .busy, why := .metadata, units := [2] }).left = 0) ∧
      (({ op0 with kind := .program, st := .busy, why := .metadata, units := [2] }).why = .metadata) ∧
      (({ op0 with kind := .program, st := .busy, why := .metadata, units := [2] }).units.getD 0 0 = 2)) ∧
    ((vsb.op 0 = some ({ op0 with kind := .program, st := .busy, why := .unit, tarts := [⟨5, List.replicate 32 padSector, [], none, false, 0, 0, 0⟩] })) ∧ (({ op0 with kind := .program, st := .busy, why := .unit, tarts := [⟨5, List.replicate 32 padSector, [], none, false, 0, 0, 0⟩] }).kind = .program) ∧ (({ op0 with kind := .program, st := .busy, why := .unit, tarts := [⟨5, List.replicate 32 padSector, [], none, false, 0, 0, 0⟩] }).st = .busy) ∧ (({ op0 with kind := .program, st := .busy, why := .unit, tarts := [⟨5, List.replicate 32 padSector, [], none, false, 0, 0, 0⟩] }).left = 0) ∧ (({ op0 with kind := .program, st := .busy, why := .unit, tarts := [⟨5, List.replicate 32 padSector, [], none, false, 0, 0, 0⟩] }).why = .unit) ∧ (vsb.sb ({ op0 with kind := .program, st := .busy, why := .unit, tarts := [⟨5, List.replicate 32 padSector, [], none, false, 0, 0, 0⟩] }).sb = some ({ sb0 with st := .open_, members := [(⟨0, [5, 5, 5, 5], 0⟩ : Member), ⟨1, [5], 0⟩], media := 0 })) ∧ (({ sb0 with st := .open_, members := [(⟨0, [5, 5, 5, 5], 0⟩ : Member), ⟨1, [5], 0⟩], media := 0 }).members[({ op0 with kind := .program, st := .busy, why := .unit, tarts := [⟨5, List.replicate 32 padSector, [], none, false, 0, 0, 0⟩] }).mem]? = some ((⟨0, [5, 5, 5, 5], 0⟩ : Member))) ∧ (((List.range (unitTarts ({ sb0 with st := .open_, members := [(⟨0, [5, 5, 5, 5], 0⟩ : Member), ⟨1, [5], 0⟩], media := 0 }).media)).map (vsb.unitPpa ((⟨0, [5, 5, 5, 5], 0⟩ : Member)) ({ op0 with kind := .program, st := .busy, why := .unit, tarts := [⟨5, List.replicate 32 padSector, [], none, false, 0, 0, 0⟩] }).unit)).Nodup)) ∧
    ((vsbp.op 0 = some ({ op0 with kind := .program, st := .busy, why := .parity, cls := .rfs })) ∧
      (({ op0 with kind := .program, st := .busy, why := .parity, cls := .rfs }).kind = .program) ∧
      (({ op0 with kind := .program, st := .busy, why := .parity, cls := .rfs }).st = .busy) ∧
      (({ op0 with kind := .program, st := .busy, why := .parity, cls := .rfs }).left = 0) ∧
      (({ op0 with kind := .program, st := .busy, why := .parity, cls := .rfs }).why = .parity) ∧
      (vsbp.sb ({ op0 with kind := .program, st := .busy, why := .parity, cls := .rfs }).sb = some ({ sb0 with st := .open_, members := [(⟨0, [5, 5, 5, 5], 0⟩ : Member), ⟨1, [5], 0⟩], media := 0 })) ∧ (({ sb0 with st := .open_, members := [(⟨0, [5, 5, 5, 5], 0⟩ : Member), ⟨1, [5], 0⟩], media := 0 }).members[({ op0 with kind := .program, st := .busy, why := .parity, cls := .rfs }).mem]? = some ((⟨0, [5, 5, 5, 5], 0⟩ : Member))) ∧ (((List.range (unitTarts ({ sb0 with st := .open_, members := [(⟨0, [5, 5, 5, 5], 0⟩ : Member), ⟨1, [5], 0⟩], media := 0 }).media)).map (vsbp.unitPpa ((⟨0, [5, 5, 5, 5], 0⟩ : Member)) ({ sb0 with st := .open_, members := [(⟨0, [5, 5, 5, 5], 0⟩ : Member), ⟨1, [5], 0⟩], media := 0 }).stripe)).Nodup) ∧ ((vsbp.partialOf ({ sb0 with st := .open_, members := [(⟨0, [5, 5, 5, 5], 0⟩ : Member), ⟨1, [5], 0⟩], media := 0 }).id).isSome = true)) ∧
    ((vlim.op 0 = some ({ op0 with st := .busy, issued := 0 })) ∧ (vlim.pastLimit ({ op0 with st := .busy, issued := 0 }) = true) ∧
      (({ op0 with st := .busy, issued := 0 }).kind = .read) ∧ (({ op0 with st := .busy, issued := 0 }).tries = 0) ∧
      ((vlim.die ({ op0 with st := .busy, issued := 0 }).die).noResp + 1 < vlim.rd Fd.MED_RETCFG_NORESP) ∧
     (vlim.op 0 = some ({ op0 with st := .busy, issued := 0 })) ∧ (vlim.pastLimit ({ op0 with st := .busy, issued := 0 }) = true)) ∧
    ((vsus.md.ops.find? (fun o' => o'.die == 0 && o'.st == .busy && decide (0 < o'.suspAt)) = some ({ op0 with st := .busy, suspAt := 5 })) ∧
     (∀ o ∈ vrd.md.ops, o.die = 0 → o.st = .busy → o.suspAt = 0) ∧
     (vzq.rd Fd.FCH_CHSTAT_STATE 3 = 1 ∨ vzq.rd Fd.FCH_CHSTAT_STATE 3 = 2) ∧ (3 < vzq.variant.channels) ∧
     ((w.rd Fd.FCH_CHSTAT_STATE 3 ≠ 1 ∧ w.rd Fd.FCH_CHSTAT_STATE 3 ≠ 2) ∨ w.variant.channels ≤ 3) ∧
     ((w.rd Fd.FCH_CHSTAT_STATE 16 ≠ 1 ∧ w.rd Fd.FCH_CHSTAT_STATE 16 ≠ 2) ∨ w.variant.channels ≤ 16)) :=
  ⟨of_opt (by decide +kernel), vpr_inv, of_opt (by decide +kernel), vlim_inv, vsus_inv, by decide +kernel, by decide +kernel, by decide +kernel,
      by decide +kernel, by decide +kernel, by decide +kernel, by decide +kernel⟩

theorem test_meets_CollectionAndErase :
    (∀ x, w.sb 0 = some x → x.st ≠ .victim ∨ w.erasesOf x = true ∨ w.victimSettled x = false ∨ w.active = none ∨ w.hub.hold = true ∨ w.lg.loss ≠
      none) ∧
    (vvic.eraseIntent ((⟨0, [3], 0⟩ : Member)).die ((⟨0, [3], 0⟩ : Member)).blocks = some (((vvic.eraseIntent 0 [3]).getD w))) ∧
    (∀ e, w.eraseOf 0 3 = some e → e.st ≠ .intent) ∧
    vee.Inv ∧
    vem.Inv ∧
    (∀ e, w.eraseOf 0 3 = some e → e.st ≠ .passed) ∧
    vep.Inv ∧
    vsh.Inv ∧
    vunsh.Inv ∧
    vday.Inv ∧
    vday0.Inv ∧
    ((z.active = none ∨ z.hub.hold = true ∨ z.lg.loss ≠ none ∨ (∀ k < 4, z.updSpace.victimOf 0 k = none)) ∧
     (vgc.active.isSome = true) ∧ (vgc.hub.hold = false) ∧ (vgc.lg.loss = none) ∧ (0 < 4) ∧ (∀ j < 0, vgc.updSpace.victimOf 0 j = none) ∧
      (vgc.updSpace.victimOf 0 0 = some sb0)) ∧
    ((vvic.sb 0 = some ({ sb0 with st := .victim, members := [⟨0, [3], 0⟩] })) ∧ (({ sb0 with st := .victim, members := [⟨0, [3], 0⟩] }).st =
      .victim) ∧ (vvic.erasesOf ({ sb0 with st := .victim, members := [⟨0, [3], 0⟩] }) = false) ∧
      (vvic.victimSettled ({ sb0 with st := .victim, members := [⟨0, [3], 0⟩] }) = true) ∧ (vvic.active.isSome = true) ∧ (vvic.hub.hold = false) ∧
      (vvic.lg.loss = none) ∧ (({ sb0 with st := .victim, members := [⟨0, [3], 0⟩] }).members = [((⟨0, [3], 0⟩ : Member))]) ∧ (((⟨0, [3], 0⟩ :
      Member)).lack = 0) ∧ ((vvic.die ((⟨0, [3], 0⟩ : Member)).die).st = 1)) ∧
    ((vvic.sb 0 = some ({ sb0 with st := .victim, members := [⟨0, [3], 0⟩] })) ∧ (({ sb0 with st := .victim, members := [⟨0, [3], 0⟩] }).st =
      .victim) ∧ (vvic.erasesOf ({ sb0 with st := .victim, members := [⟨0, [3], 0⟩] }) = false) ∧
      (vvic.victimSettled ({ sb0 with st := .victim, members := [⟨0, [3], 0⟩] }) = true) ∧ (vvic.active.isSome = true) ∧ (vvic.hub.hold = false) ∧
      (vvic.lg.loss = none) ∧ (∀ m ∈ ({ sb0 with st := .victim, members := [⟨0, [3], 0⟩] }).members, m.lack ≠ 3)) ∧
    ((vei.eraseOf 0 3 = some ((⟨0, 3, [3], 1, .intent⟩ : Erase))) ∧ (((⟨0, 3, [3], 1, .intent⟩ : Erase)).st = .intent) ∧ (vei.eraseRec ((⟨0, 3,
      [3], 1, .intent⟩ : Erase)) false = some ((⟨0, false, .eraseIntent 0 1 1 [3], 0, false⟩ : JRec))) ∧ (vei.headerReady ((⟨0, false,
      .eraseIntent 0 1 1 [3], 0, false⟩ : JRec)).jseq = true) ∧
     (w.eraseOf 0 3 = none ∨ w.eraseOp 0 3 .erase = none) ∧
     (vee.eraseOf 0 3 = some ((⟨0, 3, [3], 1, .erasing⟩ : Erase))) ∧
      (vee.eraseOp 0 3 .erase = some ({ op0 with kind := .erase, st := .busy, why := .erase, ppa := 3 }))) ∧
    ((w.eraseOf 0 3 = none ∨ w.eraseOp 0 3 .margin = none) ∧
     (vem.eraseOf 0 3 = some ((⟨0, 3, [3], 1, .erased⟩ : Erase))) ∧
      (vem.eraseOp 0 3 .margin = some ({ op0 with kind := .margin, st := .busy, why := .erase, ppa := 3 })) ∧ (∀ c ∈ [0],
      c ≤ vem.rd Fd.FCH_ERCFG_THR) ∧
     (vem.eraseOf 0 3 = some ((⟨0, 3, [3], 1, .erased⟩ : Erase))) ∧
      (vem.eraseOp 0 3 .margin = some ({ op0 with kind := .margin, st := .busy, why := .erase, ppa := 3 })) ∧ (∃ c ∈ [5000000],
      vem.rd Fd.FCH_ERCFG_THR < c)) ∧
    ((vep.eraseOf 0 3 = some ((⟨0, 3, [3], 1, .passed⟩ : Erase))) ∧ (((⟨0, 3, [3], 1, .passed⟩ : Erase)).st = .passed) ∧ (vep.eraseRec ((⟨0, 3,
      [3], 1, .passed⟩ : Erase)) true = some ((⟨0, false, .eraseDone 0 1 1 [3], 0, false⟩ : JRec))) ∧ (vep.headerReady ((⟨0, false, .eraseDone 0 1
      1 [3], 0, false⟩ : JRec)).jseq = true)) ∧
    ((vsh.active = some .a) ∧ (vsh.rd Fd.SCH_PLAN_CTRL_COMMIT 0 .a = 0) ∧ ((vsh.sched.shifted.contains 0 = false ∧ 250 ≤ vsh.sched.lowBars.getD 0
      0 ∧ vsh.movesSlice .a 0 (([(3, 1)] : List (Nat × Nat))) 0 1 = true) ∨ (vsh.sched.shifted.contains 0 = true ∧ vsh.rd Fd.MED_GCCFG_STOP *
      vsh.sliceBlocks 0 ≤ 1024 * vsh.sliceFree 0 ∧ vsh.movesSlice .a 0 (([(3, 1)] : List (Nat × Nat))) 1 0 = true))) :=
  ⟨of_opt (by decide +kernel), some_getD (by decide +kernel), of_opt (by decide +kernel), vee_inv, vem_inv, of_opt (by decide +kernel), vep_inv,
      vsh_inv, vunsh_inv, vday_inv, vday0_inv, by decide +kernel, by decide +kernel, by decide +kernel, by decide +kernel, by decide +kernel, by
      decide +kernel, by decide +kernel⟩

theorem test_meets_CollectionAndErase_2 :
    ((vunsh.active = some .a) ∧ (vunsh.rd Fd.SCH_PLAN_CTRL_COMMIT 0 .a = 0) ∧ ((vunsh.sched.shifted.contains 0 = false ∧
      250 ≤ vunsh.sched.lowBars.getD 0 0 ∧ vunsh.movesSlice .a 0 (([(3, 0)] : List (Nat × Nat))) 0 1 = true) ∨ (vunsh.sched.shifted.contains 0 =
      true ∧ vunsh.rd Fd.MED_GCCFG_STOP * vunsh.sliceBlocks 0 ≤ 1024 * vunsh.sliceFree 0 ∧ vunsh.movesSlice .a 0 (([(3, 0)] : List (Nat × Nat))) 1
      0 = true)) ∧
     (z.active = none ∨ (z.sched.shifted.contains 0 = false ∧ z.sched.lowBars.getD 0 0 < 250) ∨ (z.sched.shifted.contains 0 = true ∧ 1024 *
      z.sliceFree 0 < z.rd Fd.MED_GCCFG_STOP * z.sliceBlocks 0))) ∧
    ((w.active = none ∨ (w.sched.shifted.contains 0 = false ∧ w.sched.lowBars.getD 0 0 < 250) ∨ (w.sched.shifted.contains 0 = true ∧ 1024 *
      w.sliceFree 0 < w.rd Fd.MED_GCCFG_STOP * w.sliceBlocks 0)) ∧
     ((w.bt.onBeats + w.time.beat) % dayBeats ≠ 0 ∨ w.active = none) ∧
     ((vday.bt.onBeats + vday.time.beat) % dayBeats = 0) ∧ (vday.active.isSome = true) ∧ (vday.ratedErases * 30 * vday.blockSum < (vday.eraseSum
      false - vday.md.snaps.headD 0) * 2555)) ∧
    (((vday0.bt.onBeats + vday0.time.beat) % dayBeats = 0) ∧ (vday0.active.isSome = true) ∧ ((vday0.eraseSum false - vday0.md.snaps.headD 0) *
      2555 ≤ vday0.ratedErases * 30 * vday0.blockSum)) :=
  ⟨by decide +kernel, by decide +kernel, by decide +kernel⟩

theorem test_meets_ChoicesCarriesAndLedgerPatrol :
    vcar.Inv ∧
    w.Inv ∧
    ((z.sequencing = false) ∧
     (w.sequencing = true) ∧
     (w.ringFull = false ∨ w.lg.live = [] ∨ (∃ r ∈ w.lg.live, r.valid = false))) ∧
    ((vcar.ringFull = true) ∧ (vcar.lg.live = [((⟨0, false, .blkTab 0 0 0 5, 0, true⟩ : JRec))]) ∧ (((⟨0, false, .blkTab 0 0 0 5, 0, true⟩ :
      JRec)).valid = true) ∧ (((⟨0, false, .blkTab 0 0 0 5, 0, true⟩ : JRec)).jseq < vcar.lg.jseq) ∧ (((⟨0, false, .blkTab 0 0 0 5, 0, true⟩ :
      JRec)).body.typ ≠ 8) ∧ (vcar.ringUsed + 2 * (1 + ((⟨0, false, .blkTab 0 0 0 5, 0, true⟩ : JRec)).body.words.length) < vcar.variant.ringWords) ∧
     (w.withdrawn = true ∨ 0 = 0) ∧
     (w.withdrawn = false)) ∧
    ((w.withdrawn = false) ∧ (2 ≤ 2)) :=
  ⟨vcar_inv, w_inv, by decide +kernel, by decide +kernel, by decide +kernel⟩

theorem test_meets_SlotsComeUp :
    sdebn.Inv ∧
    sdeba.Inv ∧
    sdom.Inv ∧
    soff.Inv ∧
    str.Inv ∧
    strd.Inv ∧
    strg.Inv ∧
    (((sins.slot 0).prsnt = true) ∧
     (15 < w.variant.slotsN) ∧ (15 < w.slots.length) ∧ ((w.slot 15).prsnt = false) ∧ (w.testSlot 15 = false) ∧
     ((w.slot 0).st ≠ .empty ∨ (w.slot 0).prsnt = false ∨ (w.slot 0).debounce < w.rd Fd.CTG_CFG_DEBOUNCE ∨ w.testSlot 0 = true)) ∧
    ((0 < sdebn.variant.slotsN) ∧ (0 < sdebn.slots.length) ∧ ((sdebn.slot 0).st = .empty) ∧ ((sdebn.slot 0).prsnt = true) ∧
      (sdebn.rd Fd.CTG_CFG_DEBOUNCE ≤ (sdebn.slot 0).debounce) ∧ (sdebn.testSlot 0 = false) ∧ (sdebn.rd Fd.CTG_CFG_AUTOON = 0 ∨ sdebn.hub.hold =
      true)) ∧
    ((0 < sdeba.variant.slotsN) ∧ (0 < sdeba.slots.length) ∧ ((sdeba.slot 0).st = .empty) ∧ ((sdeba.slot 0).prsnt = true) ∧
      (sdeba.rd Fd.CTG_CFG_DEBOUNCE ≤ (sdeba.slot 0).debounce) ∧ (sdeba.testSlot 0 = false) ∧ (sdeba.rd Fd.CTG_CFG_AUTOON = 1) ∧ (sdeba.hub.hold =
      false)) ∧
    ((0 < sdom.variant.slotsN) ∧ (0 < sdom.slots.length) ∧ ((sdom.slot 0).st = .present ∨ (sdom.slot 0).st = .off) ∧ (sdom.testSlot 0 = false) ∧
      (sdom.hub.hold = false) ∧
     (0 < soff.variant.slotsN) ∧ (0 < soff.slots.length) ∧ ((soff.slot 0).st = .present ∨ (soff.slot 0).st = .off) ∧ (soff.testSlot 0 = false) ∧
      (soff.hub.hold = false)) ∧
    ((((w.slot 0).st ≠ .present ∧ (w.slot 0).st ≠ .off) ∨ w.testSlot 0 = true ∨ w.hub.hold = true) ∧
     (15 < w.variant.slotsN) ∧ (15 < w.slots.length) ∧
     (0 < spowl.variant.slotsN) ∧ (0 < spowl.slots.length) ∧ ((spowl.slot 0).st = .powering) ∧ ((spowl.slot 0).goodAt = none) ∧ ((spowl.slot
      0).onAt + spowl.rd Fd.CTG_CFG_PGTIMEOUT * 250 ≤ spowl.time.beat) ∧ (spowl.hub.hold = false)) ∧
    (((w.slot 0).st ≠ .powering ∨ (w.slot 0).goodAt ≠ none ∨ w.hub.hold = true ∨ w.time.beat < (w.slot 0).onAt + w.rd Fd.CTG_CFG_PGTIMEOUT * 250) ∧
     (0 < sgd.variant.slotsN) ∧ (0 < sgd.slots.length) ∧ ((sgd.slot 0).st = .powering) ∧ ((sgd.slot 0).goodAt = some 500) ∧ (500 + 500 ≤
      sgd.time.beat) ∧
     ((spow.slot 0).st ≠ .powering ∨ (∀ g, (spow.slot 0).goodAt = some g → spow.time.beat < g + 500)) ∧
     ((w.slot 0).st ≠ .training ∨ w.hub.hold = true)) ∧
    ((0 < str.variant.slotsN) ∧ (0 < str.slots.length) ∧ ((str.slot 0).st = .training) ∧ (str.hub.hold = false) ∧
     (0 < strd.variant.slotsN) ∧ (0 < strd.slots.length) ∧ ((strd.slot 0).st = .training) ∧ (strd.hub.hold = false) ∧ (strd.deciding = true)) :=
  ⟨sdebn_inv, sdeba_inv, sdom_inv, soff_inv, str_inv, strd_inv, strg_inv, by decide +kernel, by decide +kernel, by decide +kernel,
      by decide +kernel, by decide +kernel, by decide +kernel, by decide +kernel⟩

theorem test_meets_SlotsComeUp_2 :
    ((0 < str.variant.slotsN) ∧ (0 < str.slots.length) ∧ ((str.slot 0).st = .training) ∧ (str.hub.hold = false) ∧ (str.deciding = false) ∧ (∀ f ∈
      (([⟨64, some 0, [], [], [], [], false⟩] : List DieFound)), slotOf f.die ≠ 0)) ∧
    ((0 < strg.variant.slotsN) ∧ (0 < strg.slots.length) ∧ ((strg.slot 0).st = .training) ∧ (strg.hub.hold = false) ∧ (strg.deciding = false) ∧
      (slotOf ((⟨8, some 0, [], [], [], [], false⟩ : DieFound)).die = 0) ∧ (((⟨8, some 0, [], [], [], [], false⟩ : DieFound)).die % 8 = 0) ∧
      (((⟨8, some 0, [], [], [], [], false⟩ : DieFound)).dies = []) ∧ (((⟨8, some 0, [], [], [], [], false⟩ : DieFound)).media = some 0) ∧
      (strg.rd Fd.MED_GEOM_VALID 0 = 1) ∧ (strg.fits 0 = true)) :=
  ⟨by decide +kernel, by decide +kernel⟩

theorem test_meets_SlotsGoDown :
    sar.Inv ∧
    sin.Inv ∧
    srm.Inv ∧
    scl.Inv ∧
    siff.Inv ∧
    z96.Inv ∧
    ((wnb.atBar = false) ∧
     (0 < w.variant.slotsN) ∧ (0 < w.slots.length) ∧ (w.atBar = true) ∧
     (0 < w.variant.slotsN) ∧ (0 < w.slots.length) ∧ (w.atBar = true) ∧ ((w.slot 0).armed = false ∨ (w.slot 0).lowBars < 19)) ∧
    ((0 < sar.variant.slotsN) ∧ (0 < sar.slots.length) ∧ (sar.atBar = true) ∧ ((sar.slot 0).armed = true) ∧ (19 ≤ (sar.slot 0).lowBars) ∧
     ((w.slot 0).st ≠ .inUse) ∧
     (0 < siff.variant.slotsN) ∧ (0 < siff.slots.length) ∧ ((siff.slot 0).st = .inUse) ∧ (siff.removalTest 0 = 0)) ∧
    ((0 < sin.variant.slotsN) ∧ (0 < sin.slots.length) ∧ ((sin.slot 0).st = .inUse) ∧ (sin.removalTest 0 ≠ 0) ∧
     ((w.slot 0).st ≠ .removing ∨ (w.slot 0).abortEnd = none) ∧
     (0 < srm.variant.slotsN) ∧ (0 < srm.slots.length) ∧ ((srm.slot 0).st = .removing) ∧ ((srm.slot 0).abortEnd ≠ none) ∧
     ((w.slot 0).st ≠ .removing ∨ (∀ e, (w.slot 0).abortEnd = some e → w.time.beat < e))) ∧
    ((0 < srm0.variant.slotsN) ∧ (0 < srm0.slots.length) ∧ ((srm0.slot 0).st = .removing) ∧ ((srm0.slot 0).abortEnd = some 1000) ∧ (1000 ≤
      srm0.time.beat) ∧ (srm0.removalTest 0 = 0)) ∧
    ((0 < srm.variant.slotsN) ∧ (0 < srm.slots.length) ∧ ((srm.slot 0).st = .removing) ∧ ((srm.slot 0).abortEnd = some 1000) ∧
      (1000 ≤ srm.time.beat) ∧ (srm.removalTest 0 ≠ 0) ∧
     ((w.slot 0).st ≠ .removing ∨ (w.slot 0).closing = false ∨ w.hub.hold = true ∨ (∃ o ∈ w.md.ops, slotOf o.die = 0 ∧ (o.st = .busy ∨ o.st =
      .suspended)))) ∧
    ((0 < scl.variant.slotsN) ∧ (0 < scl.slots.length) ∧ ((scl.slot 0).st = .removing) ∧ ((scl.slot 0).closing = true) ∧ (scl.hub.hold = false) ∧
      (∀ o ∈ scl.md.ops, slotOf o.die = 0 → o.st ≠ .busy ∧ o.st ≠ .suspended) ∧
     ((w.slot 0).st ≠ .inUse) ∧ ((w.slot 0).st ≠ .removing)) ∧
    ((0 < siff.variant.slotsN) ∧ (0 < siff.slots.length) ∧ ((siff.slot 0).st = .inUse ∨ (siff.slot 0).st = .removing) ∧
     (0 < srm.variant.slotsN) ∧ (0 < srm.slots.length) ∧ ((srm.slot 0).st = .inUse ∨ (srm.slot 0).st = .removing) ∧
     (0 < siff.variant.slotsN) ∧ (0 < siff.slots.length) ∧
     (15 < siff.variant.slotsN) ∧ (15 < siff.slots.length) ∧
     (3 < siff.variant.slotsN) ∧ (3 < siff.slots.length)) :=
  ⟨sar_inv, sin_inv, srm_inv, scl_inv, siff_inv, z96_inv, by decide +kernel, by decide +kernel, by decide +kernel, by decide +kernel, by
      decide +kernel, by decide +kernel, by decide +kernel⟩

theorem test_meets_SlotsGoDown_2 :
    ((z96.variant.slotsN ≤ 8) ∧ (z96.slot 8 = Slot.init)) :=
  by decide +kernel

theorem test_meets_ScrubsRun :
    w.Inv ∧
    vgo.Inv ∧
    (∀ x, vsc0.md.scrub = some x → (x.cancel = true ∧ vsc0.atBar = false) ∨ (x.cancel = false ∧ vsc0.scrubOver x = false)) ∧
    vscr.Inv ∧
    vscc.Inv ∧
    ((2 % 2 = 0) ∧
     (1 % 2 = 1) ∧ (w.md.scrub ≠ none ∨ w.rd Fd.ECC_SCRUBCOUNT_COUNT = 0 ∨ 2 ≤ 1 / 4 % 4 ∨ (if 1 / 4 % 4 = 0 then w.exported else w.lastDie) <
      w.scrubStart (1 / 4 % 4) + w.rd Fd.ECC_SCRUBCOUNT_COUNT) ∧
     (1 % 2 = 1) ∧ (vgo.md.scrub = none) ∧ (vgo.rd Fd.ECC_SCRUBCOUNT_COUNT ≠ 0) ∧ (1 / 4 % 4 < 2) ∧ (vgo.scrubStart (1 / 4 % 4) + vgo.rd
      Fd.ECC_SCRUBCOUNT_COUNT ≤ (if 1 / 4 % 4 = 0 then vgo.exported else vgo.lastDie))) ∧
    ((vscr.md.scrub = some ((⟨1, 0, 0, 1, 1, false, 0, 0, 0, 0, 0, 0, 0, 0, 0, 0⟩ : Scrub))) ∧ ((((⟨1, 0, 0, 1, 1, false, 0, 0, 0, 0, 0, 0, 0, 0,
      0, 0⟩ : Scrub)).cancel = true ∧ vscr.atBar = true) ∨ (((⟨1, 0, 0, 1, 1, false, 0, 0, 0, 0, 0, 0, 0, 0, 0, 0⟩ : Scrub)).cancel = false ∧
      vscr.scrubOver ((⟨1, 0, 0, 1, 1, false, 0, 0, 0, 0, 0, 0, 0, 0, 0, 0⟩ : Scrub)) = true)) ∧
     (vscc.md.scrub = some ((⟨1, 0, 0, 1, 0, true, 0, 0, 0, 0, 0, 0, 0, 0, 0, 0⟩ : Scrub))) ∧ ((((⟨1, 0, 0, 1, 0, true, 0, 0, 0, 0, 0, 0, 0, 0, 0,
      0⟩ : Scrub)).cancel = true ∧ vscc.atBar = true) ∨ (((⟨1, 0, 0, 1, 0, true, 0, 0, 0, 0, 0, 0, 0, 0, 0, 0⟩ : Scrub)).cancel = false ∧
      vscc.scrubOver ((⟨1, 0, 0, 1, 0, true, 0, 0, 0, 0, 0, 0, 0, 0, 0, 0⟩ : Scrub)) = true))) ∧
    ((vsav.active.isSome = true) ∧ (vsav.hub.hold = false) ∧ (vsav.atBar = true) ∧ (vsav.bar % 1000 = 0) ∧ (vsav.dieNums ≠ []) ∧
     (w.active = none ∨ w.hub.hold = true ∨ w.atBar = false ∨ w.bar % 1000 ≠ 0)) :=
  ⟨w_inv, vgo_inv, of_opt (by decide +kernel), vscr_inv, vscc_inv, by decide +kernel, by decide +kernel, by decide +kernel⟩

theorem test_meets_LoopsAreCommandedAndUpdated :
    rld.Inv ∧
    rldm.Inv ∧
    rc1.Inv ∧
    w.Inv ∧
    rc5.Inv ∧
    rc4.Inv ∧
    rtm.Inv ∧
    rman2.Inv ∧
    ((rld.rg.cmd = none) ∧ ((rld.die 0).st = 1 ∨ (rld.die 0).st = 2) ∧
     (rld.rg.cmd = none) ∧ ((rld.die 5).st = 1 ∨ (rld.die 5).st = 2) ∧
     (rldm.rg.cmd = none) ∧ ((rldm.die 0).st = 1 ∨ (rldm.die 0).st = 2) ∧ ((rldm.loop (loopKey 0 2)).mode = 1) ∧
     (rc1.rg.cmd ≠ none ∨ (rc1.die 0).st = 0 ∨ (rc1.die 0).st = 3) ∧
     (w.rg.cmd ≠ none ∨ (w.die 1023).st = 0 ∨ (w.die 1023).st = 3) ∧
     ((rld.loop (loopKey 0 2)).mode ≠ 1) ∧
     (z.active = none) ∧
     (w.active.isSome = true)) ∧
    ((rc1.active.isSome = true) ∧ (2 < 16) ∧ (rc1.rg.cmd = some ⟨0, 2, 1, false⟩) ∧ ((rc1.loop (loopKey 0 2)).mode = 0) ∧
     (rc5.active.isSome = true) ∧ (2 < 16) ∧ (rc5.rg.cmd = some ⟨0, 2, 5, false⟩) ∧ (0 < rc5.rd Fd.RGL_FECFG_FETIME) ∧
     (rc4.active.isSome = true) ∧ (2 < 16) ∧ (rc4.rg.cmd = some ⟨0, 2, 4, false⟩)) ∧
    (((rfe.loop (loopKey 0 2)).mode ≠ 0 ∨ (rfe.loop (loopKey 0 2)).timer < rfe.rd Fd.RGL_FECFG_FETIME) ∧
     (2 < 16) ∧ ((rtm.loop (loopKey 0 2)).mode = 0) ∧ (rtm.rd Fd.RGL_FECFG_FETIME ≤ (rtm.loop (loopKey 0 2)).timer) ∧
     ((w.loop (loopKey 0 2)).mode ≠ 2 ∨ w.rd Fd.RGL_CFG_AUTOREARM = 0 ∨ (w.loop (loopKey 0 2)).rearm < w.rd Fd.RGL_FECFG_REARM)) ∧
    ((2 < 16) ∧ ((rman2.loop (loopKey 0 2)).mode = 2) ∧ (rman2.rd Fd.RGL_CFG_AUTOREARM = 1) ∧ (rman2.rd Fd.RGL_FECFG_REARM ≤ (rman2.loop (loopKey
      0 2)).rearm)) :=
  ⟨rld_inv, rldm_inv, rc1_inv, w_inv, rc5_inv, rc4_inv, rtm_inv, rman2_inv, by decide +kernel, by decide +kernel, by decide +kernel,
      by decide +kernel⟩

theorem test_meets_TheEnvelopeHolds :
    w.Inv ∧
    rhot.Inv ∧
    ((w.rg.hot < 3 ∨ w.hub.fenced = true) ∧
     (3 ≤ rhot.rg.hot) ∧ (rhot.hub.fenced = false)) :=
  ⟨w_inv, rhot_inv, by decide +kernel⟩

theorem test_meets_PowerLossIsMet :
    w.Inv ∧
    (∀ l, w.lg.loss = some l → l.flushing = true ∨ w.time.beat ≤ l.at_ ∨ w.beforeRecovery = true ∨ w.active = none ∨ w.hub.hold = true) ∧
    pflu.Inv ∧
    prel.Inv ∧
    ((w.hub.fenced = false) ∧
     (ufen.hub.fenced = true) ∧ (ufen.hub.flusher = none ∨ ufen.lg.loss ≠ none ∨ ufen.hub.outputsHeld = true)) ∧
    ((ploss.hub.fenced = false) ∧ (ploss.lg.loss = some ((⟨999, false, false, 0, 0⟩ : PLoss))) ∧ (((⟨999, false, false, 0, 0⟩ : PLoss)).flushing =
      false) ∧ (((⟨999, false, false, 0, 0⟩ : PLoss)).at_ < ploss.time.beat) ∧ (ploss.beforeRecovery = false) ∧ (ploss.active.isSome = true) ∧
      (ploss.hub.hold = false)) ∧
    ((pfen.hub.fenced = true) ∧ (pfen.hub.flusher.isSome = true) ∧ (pfen.lg.loss = none) ∧ (pfen.hub.outputsHeld = false) ∧
     (w.lg.loss = none) ∧
     (pdone.lg.loss = some ((⟨999, true, true, 0, 0⟩ : PLoss))) ∧ (((⟨999, true, true, 0, 0⟩ : PLoss)).why ≠ 1) ∧ (((⟨999, true, true, 0, 0⟩ :
      PLoss)).done = true ∨ (((⟨999, true, true, 0, 0⟩ : PLoss)).flushing = false ∧ pdone.beforeRecovery = true))) ∧
    ((pprog.lg.loss = some ((⟨999, true, false, 0, 0⟩ : PLoss))) ∧ (((⟨999, true, false, 0, 0⟩ : PLoss)).done = false) ∧ (((⟨999, true, false, 0,
      0⟩ : PLoss)).flushing = true) ∧ (pprog.programsInFlight = true ∨ (pprog.channelsUsed ≠ [] ∧ ∃ u ∈ pprog.unitsToFlush, pprog.dirValid u =
      false))) ∧
    ((pflu.lg.loss = some ((⟨999, true, false, 0, 0⟩ : PLoss))) ∧ (((⟨999, true, false, 0, 0⟩ : PLoss)).done = false) ∧ (((⟨999, true, false, 0,
      0⟩ : PLoss)).flushing = true) ∧ (((⟨999, true, false, 0, 0⟩ : PLoss)).why = 0) ∧ (pflu.programsInFlight = false) ∧ (∀ u ∈ pflu.unitsToFlush,
      pflu.dirValid u = true) ∧ (∀ r ∈ pflu.lg.live, r.valid = true) ∧ (pflu.ringUsed + 6 < pflu.variant.ringWords)) ∧
    ((w.lg.toRelease = false ∨ w.reloadedOk = false ∨ w.holdReady = false ∨ w.active = none ∨ w.hub.hold = true ∨ w.lg.loss ≠ none ∨ w.hub.fenced
      = true)) ∧
    ((prel.lg.toRelease = true) ∧ (prel.reloadedOk = true) ∧ (prel.holdReady = true) ∧ (prel.active.isSome = true) ∧ (prel.hub.hold = false) ∧
      (prel.lg.loss = none) ∧ (prel.hub.fenced = false) ∧ (∀ r ∈ prel.lg.live, r.valid = true) ∧ (prel.ringUsed + 4 < prel.variant.ringWords)) :=
  ⟨w_inv, of_opt (by decide +kernel), pflu_inv, prel_inv, by decide +kernel, by decide +kernel, by decide +kernel, by decide +kernel, by
      decide +kernel, by decide +kernel, by decide +kernel⟩

theorem test_meets_DramRequestsAreServed :
    w.Inv ∧
    drq.Inv ∧
    dri.Inv ∧
    ((w.active = none ∨ portPresent w.variant 6 = false ∨ (w.variant.twin = false ∧ Half.a = .b)) ∧
     (w.active = some Half.a) ∧ (portPresent w.variant 1 = true) ∧ (w.variant.twin = true ∨ Half.b = .a) ∧ (Half.b = Half.a ↔ 1 = 4) ∧
     (w.active = some Half.a) ∧ (portPresent w.variant 0 = true) ∧ (w.variant.twin = true ∨ Half.a = .a) ∧ (Half.a = Half.a ↔ 0 ≠ 4)) ∧
    ((w.active = some Half.a) ∧ (portPresent w.variant 1 = true) ∧ (w.variant.twin = true ∨ Half.a = .a) ∧ (Half.a = Half.a ↔ 1 ≠ 4) ∧ ((if true
      then portWrites Half.a 1 (dramRegion 0x1C00000) else portReads Half.a 1 (dramRegion 0x1C00000)) = true) ∧
     (∀ r ∈ w.dr.queue, w.issuable r = false) ∧
     (∀ q ∈ drq.dr.queue, q.id < drq.dr.nextReq) ∧ (∃ r ∈ drq.dr.queue, drq.issuable r = true) ∧
     (∀ r ∈ w.dr.queue, r.id = 0 → r.issued = false)) ∧
    ((dri.dr.queue.find? (fun q => q.id == 0 && q.issued) = some ((⟨0, 1, false, false, 0x2000000, false, .a, 1000, 5, true⟩ : DReq))) ∧
      (Machine.LineRes.bad (dri.decodeLine ((⟨0, 1, false, false, 0x2000000, false, .a, 1000, 5, true⟩ : DReq)).line [(1, 2)]) = false) ∧
     (dri.dr.queue.find? (fun q => q.id == 0 && q.issued) = some ((⟨0, 1, false, false, 0x2000000, false, .a, 1000, 5, true⟩ : DReq))) ∧ (((⟨0, 1,
      false, false, 0x2000000, false, .a, 1000, 5, true⟩ : DReq)).port < 6) ∧ (Machine.LineRes.bad (dri.decodeLine ((⟨0, 1, false, false,
      0x2000000, false, .a, 1000, 5, true⟩ : DReq)).line [(1, 8), (2, 1)]) = true)) ∧
    ((w.rd Fd.DRC_DEVSTAT_FAILED (lineSr w.ranks2 5) = 0) ∧ (spGet (fun _ => 0) w.dr.flips 5 = 0) ∧ (∀ e ∈ [(1, 2)], e.1 < 10 ∧ e.2 ≤ 8) ∧ (([(1,
      2)].map (fun e => e.1)).Nodup) ∧
     (0 = lineSr dfail.ranks2 0) ∧ (3 < 10) ∧ (dfail.rd Fd.DRC_DEVSTAT_FAILED 0 = 1) ∧ (dfail.rd Fd.DRC_DEVSTAT_DEVICE 0 = 3) ∧
      (0 ∉ dfail.dr.poisoned) ∧ (spGet (fun _ => 0) dfail.dr.flips 0 = 0)) ∧
    ((drep.postponed 0 = true) ∧
     (dtst.postponed 0 = false) ∧ (dtst.testRuns 4 = true) ∧ (dtst.rd Fd.TST_CTRL_DEPTH < 2) ∧
     (w.postponed 0 = false) ∧ (w.testRuns 4 = false ∨ 2 ≤ w.rd Fd.TST_CTRL_DEPTH)) :=
  ⟨w_inv, drq_inv, dri_inv, by decide +kernel, by decide +kernel, by decide +kernel, by decide +kernel, by decide +kernel⟩

theorem test_meets_DramIsPatrolledAndRepaired :
    w.Inv ∧
    dpe2.Inv ∧
    dsc.Inv ∧
    dthr.Inv ∧
    drqr.Inv ∧
    (∀ x b n, w.dr.repair = some (x, b, n) → w.time.beat < b + w.rd Fd.DRC_PPRCFG_PGMBEATS) ∧
    drep.Inv ∧
    dgo.Inv ∧
    (∀ x, w.dr.scrub = some x → (x.cancel = false ∨ w.atBar = false) ∧ x.next < x.start + x.count) ∧
    dse.Inv ∧
    ((w.withdrawn = true ∨ (w.dr.scrub = none ∧ (1 ≠ w.dr.patrolAt ∨ w.dramLines ≤ 1)) ∨ (∃ x ∈ w.dr.scrub, 1 ≠ x.next ∨ x.start + x.count ≤
      x.next)) ∧
     (w.withdrawn = false) ∧ (w.dr.scrub = none) ∧ (w.dr.patrolAt + 1 < w.dramLines) ∧
     (dpe2.withdrawn = false) ∧ (dpe2.dr.scrub = none) ∧ (dpe2.dr.patrolAt + 1 = dpe2.dramLines)) ∧
    ((dsc.withdrawn = false) ∧ (dsc.dr.scrub = some ((⟨1, 0, 4, 0, 0, false, 0, 0, 0, 0, []⟩ : DScrub))) ∧ (((⟨1, 0, 4, 0, 0, false, 0, 0, 0, 0,
      []⟩ : DScrub)).next < ((⟨1, 0, 4, 0, 0, false, 0, 0, 0, 0, []⟩ : DScrub)).start + ((⟨1, 0, 4, 0, 0, false, 0, 0, 0, 0, []⟩ : DScrub)).count) ∧
     (dth5.rd Fd.DRC_DEVSTAT_FAILED 0 = 1 ∨ dth5.devLines 0 1 < dth5.rd Fd.DRC_ECCCFG_DEVTHR) ∧
     (0 < 16) ∧ (dthr.rd Fd.DRC_DEVSTAT_FAILED 0 = 0) ∧ (dthr.rd Fd.DRC_ECCCFG_DEVTHR ≤ dthr.devLines 0 1)) ∧
    ((dth5.rowLines 0 1 2 3 < dth5.rd Fd.DRC_PPRCFG_ROWTHR ∨ dth5.rowKnown ⟨0, 1, 2, 3, false⟩ = true ∨ (true = false ∧
      dth5.rd Fd.DRC_PPRSTAT_EXHAUST = 1)) ∧
     (dthr.rd Fd.DRC_PPRCFG_ROWTHR ≤ dthr.rowLines 0 1 2 3) ∧ (dthr.rowKnown ⟨0, 1, 2, 3, false⟩ = false) ∧
     (w.dr.repairQ = [] ∨ w.inService = false ∨ w.holdReady = false ∨ w.dr.repair ≠ none) ∧
     (drqr.dr.repairQ = ((⟨0, 1, 2, 3, false⟩ : RepRow)) :: (([] : List RepRow))) ∧ (drqr.inService = true) ∧ (drqr.holdReady = true) ∧
      (drqr.dr.repair = none)) ∧
    ((drep.dr.repair = some (((⟨0, 1, 2, 3, false⟩ : RepRow)), 1, 0)) ∧ (1 + drep.rd Fd.DRC_PPRCFG_PGMBEATS ≤ drep.time.beat) ∧
     (2 % 2 = 0) ∧
     (1 % 2 = 1) ∧ (w.dscrubRefusal = some 2) ∧
     (1 % 2 = 1) ∧ (dgo.dr.scrub = none) ∧ (dgo.rd Fd.DRC_SCRUBCOUNT_LINES ≠ 0) ∧ (dgo.rd Fd.DRC_SCRUBSTART_LINES + dgo.rd Fd.DRC_SCRUBCOUNT_LINES
      ≤ dgo.dramLines)) ∧
    ((dse.dr.scrub = some ((⟨1, 0, 4, 4, 0, false, 0, 0, 0, 0, []⟩ : DScrub))) ∧ ((((⟨1, 0, 4, 4, 0, false, 0, 0, 0, 0, []⟩ : DScrub)).cancel =
      true ∧ dse.atBar = true) ∨ ((⟨1, 0, 4, 4, 0, false, 0, 0, 0, 0, []⟩ : DScrub)).start + ((⟨1, 0, 4, 4, 0, false, 0, 0, 0, 0,
      []⟩ : DScrub)).count ≤ ((⟨1, 0, 4, 4, 0, false, 0, 0, 0, 0, []⟩ : DScrub)).next)) :=
  ⟨w_inv, dpe2_inv, dsc_inv, dthr_inv, drqr_inv, (fun x b n h => nomatch h), drep_inv, dgo_inv, of_opt (by decide +kernel), dse_inv,
      by decide +kernel, by decide +kernel, by decide +kernel, by decide +kernel, by decide +kernel⟩

theorem test_meets_DramHelpersAndSramPatrol :
    w.Inv ∧
    dbusy.Inv ∧
    uwc.Inv ∧
    ((w.rd Fd.DRC_PATCTRL_BUSY = 0) ∧
     (dbusy.rd Fd.DRC_PATCTRL_BUSY = 1) ∧
     (mrDevOk (12 % 16) = false) ∧
     (mrDevOk (3 % 16) = true) ∧
     (z.runs .a = false) ∧
     (w.runs .a = true) ∧
     (dsr.runs .a = true) ∧ ([(1028, 5, 1)].length ≤ 1) ∧ (∀ x ∈ (dsr.half .a).sram, x.cells = 7) ∧ (((dsr.half .a).sram.map (fun w => (w.mac,
      w.idx))).Nodup) ∧
     (uwc.runs .a = true) ∧ (uwc.ctx 0 = some ctx0)) ∧
    ((w.runs .a = true) ∧ (∀ x ∈ (w.half .a).sram, x.cells = 7)) :=
  ⟨w_inv, dbusy_inv, uwc_inv, by decide +kernel, by decide +kernel⟩

theorem test_meets_BuffersAreOwned :
    w.Inv ∧
    bten.Inv ∧
    (∀ hd, w.pick .a 8 0 0 = some hd → w.quotaInForce 1 < w.tenUse .a 1 + poolUnits (hPool hd)) ∧
    bwq.Inv ∧
    bbad.Inv ∧
    bown.Inv ∧
    bnone.Inv ∧
    both.Inv ∧
    ((halfPresent w.variant .a = false ∨ masterPresent w.variant 127 = false) ∧ (((Instr.query .a 127)) ∈ [Instr.alloc .a 127 0 true 0 0, .share
      .a 127 0, .free .a 127, .query .a 127]) ∧
     (halfPresent (({ w with variant := .fk9620 } : State)).variant .b = false) ∧
     (halfPresent bwait.variant .a = true) ∧ (masterPresent bwait.variant 8 = true) ∧ (bwait.bufBusy .a 8 = true) ∧ ((((Instr.query .a 8)), 4) ∈
      [(Instr.alloc .a 8 0 true 0 0, 1 + 0 * 16 + (if true then 128 else 0) + 0 * 256), (.share .a 8 0, 2 + 0 * 2 ^ 16), (.free .a 8, 3), (.query
      .a 8, 4)])) ∧
    ((halfPresent w.variant .a = true) ∧ (masterPresent w.variant 8 = true) ∧ (w.bufBusy .a 8 = false) ∧ ((masterPool 8).1 = 4)) ∧
    ((halfPresent bten.variant .a = true) ∧ (masterPresent bten.variant 8 = true) ∧ (bten.bf.waits = []) ∧ (bten.pick .a 8 0 0 = some ((mkHandle 0
      0 0 4 0))) ∧ ((masterPool 8).1 = 4) ∧ (false = false) ∧ (bten.tenUse .a 1 + poolUnits (hPool ((mkHandle 0 0 0 4 0))) ≤ bten.quotaInForce 1)) ∧
    ((halfPresent w.variant .a = true) ∧ (masterPresent w.variant 0 = true) ∧ (w.bf.waits = []) ∧ (w.pick .a 0 0 0 = some ((mkHandle 0 0 0 5 0)))
      ∧ ((masterPool 0).1 ≠ 4) ∧
     (halfPresent w.variant .a = true) ∧ (masterPresent w.variant 8 = true) ∧ (w.bf.waits = []) ∧ ((masterPool 8).1 = 4) ∧ (false = false) ∧
     (∀ w ∈ z.bf.waits, w.half = .a → z.tryAlloc w = none)) ∧
    ((halfPresent bwq.variant ((⟨.a, 8, 0, false, 1, 0⟩ : BufWait)).half = true) ∧ (masterPresent bwq.variant ((⟨.a, 8, 0, false, 1, 0⟩ :
      BufWait)).master = true) ∧ (bwq.bf.waits = [((⟨.a, 8, 0, false, 1, 0⟩ : BufWait))]) ∧ (bwq.pick ((⟨.a, 8, 0, false, 1, 0⟩ : BufWait)).half
      ((⟨.a, 8, 0, false, 1, 0⟩ : BufWait)).master ((⟨.a, 8, 0, false, 1, 0⟩ : BufWait)).pool ((⟨.a, 8, 0, false, 1, 0⟩ : BufWait)).cls = some
      ((mkHandle 0 0 0 4 0))) ∧ ((masterPool ((⟨.a, 8, 0, false, 1, 0⟩ : BufWait)).master).1 = 4 → bwq.tenUse ((⟨.a, 8, 0, false, 1, 0⟩ :
      BufWait)).half ((⟨.a, 8, 0, false, 1, 0⟩ : BufWait)).tenant + poolUnits (hPool ((mkHandle 0 0 0 4 0))) ≤ bwq.quotaInForce ((⟨.a, 8, 0,
      false, 1, 0⟩ : BufWait)).tenant)) ∧
    ((halfPresent bbad.variant .a = true) ∧ (masterPresent bbad.variant 8 = true) ∧ (bbad.bufBusy .a 8 = false) ∧
      (0xE000000 = bbad.rd Fd.BUF_ARG_HANDLE 8 .a) ∧ (((Instr.query .a 8)) ∈ [Instr.share .a 8 0, .free .a 8, .query .a 8]) ∧ (bufExists
      bbad.variant 0xE000000 = false)) ∧
    ((halfPresent bown.variant .a = true) ∧ (masterPresent bown.variant 8 = true) ∧ (bown.bufBusy .a 8 = false) ∧ (((mkHandle 0 0 0 4 1)) =
      bown.rd Fd.BUF_ARG_HANDLE 8 .a) ∧ (bufExists bown.variant ((mkHandle 0 0 0 4 1)) = true) ∧ (hGen ((mkHandle 0 0 0 4 1)) = (bown.buf .a
      ((mkHandle 0 0 0 4 1))).gen) ∧ (8 ∈ (bown.buf .a ((mkHandle 0 0 0 4 1))).owners)) :=
  ⟨w_inv, bten_inv, of_opt (by decide +kernel), bwq_inv, bbad_inv, bown_inv, bnone_inv, both_inv, by decide +kernel, by decide +kernel, by
      decide +kernel, by decide +kernel, by decide +kernel, by decide +kernel, by decide +kernel⟩

theorem test_meets_BuffersAreOwned_2 :
    ((halfPresent bnone.variant .a = true) ∧ (masterPresent bnone.variant 8 = true) ∧ (bnone.bufBusy .a 8 = false) ∧ (((mkHandle 0 0 0 4 1)) =
      bnone.rd Fd.BUF_ARG_HANDLE 8 .a) ∧ (bufExists bnone.variant ((mkHandle 0 0 0 4 1)) = true) ∧ ((bnone.buf .a ((mkHandle 0 0 0 4 1))).owners =
      [] ∨ hGen ((mkHandle 0 0 0 4 1)) ≠ (bnone.buf .a ((mkHandle 0 0 0 4 1))).gen)) ∧
    ((halfPresent both.variant .a = true) ∧ (masterPresent both.variant 8 = true) ∧ (both.bufBusy .a 8 = false) ∧ (((mkHandle 0 0 0 4 1)) =
      both.rd Fd.BUF_ARG_HANDLE 8 .a) ∧ (((Instr.free .a 8)) ∈ [Instr.share .a 8 0, .free .a 8]) ∧ (bufExists both.variant ((mkHandle 0 0 0 4 1))
      = true) ∧ ((both.buf .a ((mkHandle 0 0 0 4 1))).owners ≠ []) ∧ (hGen ((mkHandle 0 0 0 4 1)) = (both.buf .a ((mkHandle 0 0 0 4 1))).gen) ∧ (8
      ∉ (both.buf .a ((mkHandle 0 0 0 4 1))).owners)) ∧
    ((halfPresent bown.variant .a = true) ∧ (masterPresent bown.variant 8 = true) ∧ (bown.bufBusy .a 8 = false) ∧ (((mkHandle 0 0 0 4 1)) =
      bown.rd Fd.BUF_ARG_HANDLE 8 .a) ∧ (bufExists bown.variant ((mkHandle 0 0 0 4 1)) = true) ∧ (hGen ((mkHandle 0 0 0 4 1)) = (bown.buf .a
      ((mkHandle 0 0 0 4 1))).gen) ∧ (8 ∈ (bown.buf .a ((mkHandle 0 0 0 4 1))).owners) ∧ ((bown.buf .a ((mkHandle 0 0 0 4 1))).owners.length ≠ 4)
      ∧ (9 ∉ (bown.buf .a ((mkHandle 0 0 0 4 1))).owners)) ∧
    ((halfPresent bown.variant .a = true) ∧ (masterPresent bown.variant 8 = true) ∧ (bown.bufBusy .a 8 = false) ∧ (((mkHandle 0 0 0 4 1)) =
      bown.rd Fd.BUF_ARG_HANDLE 8 .a) ∧ (bufExists bown.variant ((mkHandle 0 0 0 4 1)) = true) ∧ (hGen ((mkHandle 0 0 0 4 1)) = (bown.buf .a
      ((mkHandle 0 0 0 4 1))).gen) ∧ (8 ∈ (bown.buf .a ((mkHandle 0 0 0 4 1))).owners) ∧ ((bown.buf .a ((mkHandle 0 0 0 4 1))).owners.length = 4 ∨
      8 ∈ (bown.buf .a ((mkHandle 0 0 0 4 1))).owners)) ∧
    ((halfPresent bown.variant .a = true) ∧ (masterPresent bown.variant 8 = true) ∧ (bown.bufBusy .a 8 = false) ∧ (((mkHandle 0 0 0 4 1)) =
      bown.rd Fd.BUF_ARG_HANDLE 8 .a) ∧ (bufExists bown.variant ((mkHandle 0 0 0 4 1)) = true)) :=
  ⟨by decide +kernel, by decide +kernel, by decide +kernel, by decide +kernel, by decide +kernel⟩

theorem test_meets_AHalfIsShadowedAndRestored :
    hwire.Inv ∧
    (z.active = none ∨ z.shadowed = none ∨ z.withdrawn = true ∨ (∀ k h, z.active = some k → z.shadowed = some h → (z.half k).gone = true ∨
      z.time.beat ≤ (z.half k).since ∨ (z.half h).arrived = true ∨ (z.half h).st ≠ .standby ∨ z.time.beat ≤ (z.half h).since)) ∧
    w.Inv ∧
    (∀ h, w.shadowed = some h → (w.half h).st ≠ .syncing ∨ (w.half h).bulk = false ∨ w.atBar = false ∨ w.active = none ∨ w.allMirrored = false) ∧
    (∀ h, w.shadowed = some h → (w.half h).st ≠ .syncing ∨ w.time.beat < (w.half h).since + 250 * w.rd Fd.SAF_CFG_SYNCBARS) ∧
    hstale.Inv ∧
    hunf.Inv ∧
    hunfh.Inv ∧
    hres.Inv ∧
    hring.Inv ∧
    ((w.shadowed = none ∨ w.hub.wire = none) ∧
     (hwire.shadowed = some .b) ∧ (hwire.hub.wire = some ((⟨999, 0, [], [], []⟩ : Shadow)))) ∧
    ((w.active = some .a) ∧ (w.shadowed = some .b) ∧ (w.withdrawn = false) ∧ ((w.half .a).gone = false) ∧ ((w.half .a).since < w.time.beat) ∧
      ((w.half .b).arrived = false) ∧ ((w.half .b).st = .standby) ∧ ((w.half .b).since < w.time.beat)) ∧
    ((hsync.shadowed = some .b) ∧ ((hsync.half .b).st = .syncing) ∧ ((hsync.half .b).bulk = true) ∧ (hsync.atBar = true) ∧ (hsync.active.isSome =
      true) ∧ (hsync.allMirrored = true) ∧
     (hstale.shadowed = some .b) ∧ ((hstale.half .b).st = .syncing) ∧
      ((hstale.half .b).since + 250 * hstale.rd Fd.SAF_CFG_SYNCBARS ≤ hstale.time.beat)) ∧
    ((hunf.variant.twin = true) ∧ (hunf.unfitHalf = some .b) ∧ (hunf.mayRestore = true) ∧
     (hunfh.variant.twin = true) ∧ (hunfh.unfitHalf = some .b) ∧ (hunfh.mayRestore = false) ∧
     (w.unfitHalf = none ∨ w.variant.twin = false ∨ w.mayRestore = false ∨ (w.rd Fd.SAF_CTRL_RESTORE = 0 ∧ (w.rd Fd.SAF_CFG_AUTORESTORE = 0 ∨ ∀ h,
      w.unfitHalf = some h → w.time.beat < (w.half h).since + w.rd Fd.SAF_CFG_RESTDELAY * 25000)))) ∧
    ((hres.unfitHalf = some .b) ∧ (hres.variant.twin = true) ∧ (hres.mayRestore = true) ∧
      (hres.rd Fd.SAF_CTRL_RESTORE = 1 ∨ (hres.rd Fd.SAF_CFG_AUTORESTORE = 1 ∧ (hres.half .b).since + hres.rd Fd.SAF_CFG_RESTDELAY * 25000 ≤
      hres.time.beat)) ∧
     (w.hub.restoring = none) ∧
     (hring.hub.restoring = some .b)) :=
  ⟨hwire_inv, .inl (by decide +kernel), w_inv, of_opt (by decide +kernel), of_opt (by decide +kernel), hstale_inv, hunf_inv, hunfh_inv, hres_inv,
      hring_inv, by decide +kernel, by decide +kernel, by decide +kernel, by decide +kernel, by decide +kernel⟩

theorem test_meets_FaultsRolesAndTheFence :
    w.Inv ∧
    hgone2.Inv ∧
    hgone.Inv ∧
    (∀ t, w.hub.take = some t → w.active ≠ some t.half) ∧
    htake.Inv ∧
    (((z.variant.twin = false ∧ Half.a = .b) ∨ (z.withdrawn = true ∧ suspendedMech 1 = true) ∨ (z.half Half.a).st = .off ∨ (z.half Half.a).st =
      .unfit ∨ (z.half Half.a).st = .held) ∧
     (¬(w.variant.twin = false ∧ Half.a = .b)) ∧ (¬(w.withdrawn = true ∧ suspendedMech 1 = true)) ∧ ((w.half Half.a).st ≠ .off) ∧ ((w.half
      Half.a).st ≠ .unfit) ∧ ((w.half Half.a).st ≠ .held) ∧
     ((z.half .a).st = .off ∨ (z.half .a).st = .unfit ∨ (z.half .a).st = .held)) ∧
    (((w.half .b).st ≠ .off) ∧ ((w.half .b).st ≠ .unfit) ∧ ((w.half .b).st ≠ .held) ∧
     (w.lapsed = none ∨ w.hub.fenced = true) ∧
     (hgoneL.lapsed = some .a) ∧ (hgoneL.hub.fenced = false) ∧ (hgoneL.hub.linkOn = false)) ∧
    ((hgone2.lapsed = some .a) ∧ (hgone2.hub.fenced = false) ∧ (hgone2.hub.linkOn = true) ∧ (hgone2.variant.twin = false ∨ (hgone2.half (otherHalf
      .a)).st ≠ .standby) ∧
     (hgone.lapsed = some .a) ∧ (hgone.hub.fenced = false) ∧ (hgone.hub.linkOn = true) ∧ (hgone.variant.twin = true) ∧ ((hgone.half (otherHalf
      .a)).st = .standby)) ∧
    ((htake.hub.take = some ((⟨.a, 995, false, false⟩ : TakeOver))) ∧ (htake.active = some ((⟨.a, 995, false, false⟩ : TakeOver)).half) ∧
     (w.hub.fenced = true ∨ (∀ k, w.hub.take = some k → k.ready = true ∨ k.drill = true ∨ w.time.beat < k.grantAt + 5))) ∧
    ((htake.hub.fenced = false) ∧ (htake.hub.take = some ((⟨.a, 995, false, false⟩ : TakeOver))) ∧ (((⟨.a, 995, false, false⟩ : TakeOver)).ready =
      false) ∧ (((⟨.a, 995, false, false⟩ : TakeOver)).drill = false) ∧ (((⟨.a, 995, false, false⟩ : TakeOver)).grantAt + 5 ≤ htake.time.beat) ∧
     (w.fenceDue 3 = none ∨ w.hub.fenced = true) ∧
     (hgone2.fenceDue 1 = some ((some .a : Option Half))) ∧ (hgone2.hub.fenced = false)) ∧
    ((w.hub.fenced = false ∨ w.hub.flusher = none ∨ w.hub.outputsHeld = true) ∧
     (hfl.hub.fenced = true) ∧ (hfl.hub.flusher.isSome = true) ∧ (hfl.hub.outputsHeld = false)) :=
  ⟨w_inv, hgone2_inv, hgone_inv, of_opt (by decide +kernel), htake_inv, by decide +kernel, by decide +kernel, by decide +kernel,
      by decide +kernel, by decide +kernel, by decide +kernel⟩

theorem test_meets_SwapDrillsRun :
    dmarkf.Inv ∧
    dmarkh.Inv ∧
    dd.Inv ∧
    (w.hub.drill.d = none ∨ (∀ d k, w.hub.drill.d = some d → w.hub.take = some k → k.drill = false ∨ k.ready = true ∨ w.time.beat < d + 5)) ∧
    dtk.Inv ∧
    dpass.Inv ∧
    ((dlater.variant.twin = false ∨ dlater.hub.linkOn = false ∨ dlater.hub.drill.mark ≠ none ∨ dlater.hub.drill.d ≠ none ∨ ((dlater.hub.drill.nowReq = false ∨ dlater.atBar = false) ∧ dlater.time.beat < dlater.hub.drill.next)) ∧
     (dnow.variant.twin = true) ∧ (dnow.hub.linkOn = true) ∧ (dnow.hub.drill.mark = none) ∧ (dnow.hub.drill.d = none) ∧ ((dnow.hub.drill.nowReq =
      true ∧ dnow.atBar = true) ∨ dnow.hub.drill.next ≤ dnow.time.beat) ∧
     (w.hub.drill.mark = none ∨ w.atBar = false ∨ w.active = none)) ∧
    ((dmarkf.hub.drill.mark ≠ none) ∧ (dmarkf.atBar = true) ∧ (dmarkf.active = some .a) ∧ (dmarkf.drillFit = true) ∧
     (dmarkh.hub.drill.mark ≠ none) ∧ (dmarkh.atBar = true) ∧ (dmarkh.active = some .a) ∧ (dmarkh.drillFit = false) ∧
     (w.hub.fenced = true ∨ w.hub.drill.granted = true ∨ (∀ d, w.hub.drill.d = some d → w.time.beat ≤ d))) ∧
    ((dd.hub.fenced = false) ∧ (dd.hub.drill.granted = false) ∧ (dd.hub.drill.d = some 999) ∧ (999 < dd.time.beat) ∧
     (dtk.hub.drill.d = some 995) ∧ (dtk.hub.take = some ((⟨.b, 995, true, false⟩ : TakeOver))) ∧ (((⟨.b, 995, true, false⟩ : TakeOver)).drill =
      true) ∧ (((⟨.b, 995, true, false⟩ : TakeOver)).ready = false) ∧ (995 + 5 ≤ dtk.time.beat)) ∧
    ((w.hub.drill.d = none ∨ (∀ p, w.hub.drill.passAt = some p → w.time.beat < p)) ∧
     (dpass.hub.drill.d = some 900) ∧ (dpass.hub.drill.passAt = some 1000) ∧ (1000 ≤ dpass.time.beat) ∧
     (w.hub.drill.mark = none ∨ w.hub.drill.deferred / 3600000 ≤ w.hub.drill.reported) ∧
     (ddef.hub.drill.mark = some 900) ∧ (ddef.hub.drill.reported < ddef.hub.drill.deferred / 3600000)) :=
  ⟨dmarkf_inv, dmarkh_inv, dd_inv, .inl (by decide +kernel), dtk_inv, dpass_inv, by decide +kernel, by decide +kernel, by decide +kernel, by
      decide +kernel⟩

theorem test_meets_ChimesAndLocksAnswer :
    w.Inv ∧
    cfull.Inv ∧
    lheld.Inv ∧
    ((halfPresent w.variant .a = false ∨ endpointPresent w.variant 26 = false) ∧
     (halfPresent w.variant .a = true) ∧ (endpointPresent w.variant 0 = true) ∧ (5 ≠ endpointMaster 0) ∧
     (halfPresent w.variant .a = true) ∧ (endpointPresent w.variant 0 = true) ∧ (0 % 32 = 0 ∨ endpointPresent w.variant (0 % 32) = false)) ∧
    ((halfPresent cfull.variant .a = true) ∧ (endpointPresent cfull.variant 0 = true) ∧ (1 % 32 ≠ 0) ∧ (endpointPresent cfull.variant (1 % 32) =
      true) ∧ ((cfull.channel .a 0 (1 % 32)).full = true) ∧
     (halfPresent w.variant .a = true) ∧ (endpointPresent w.variant 0 = true) ∧ (1 % 32 ≠ 0) ∧ (endpointPresent w.variant (1 % 32) = true) ∧
      ((w.channel .a 0 (1 % 32)).full = false)) ∧
    ((halfPresent w.variant .a = true) ∧ (endpointPresent w.variant 0 = true) ∧ (1 ≠ endpointMaster 0) ∧
     (endpointPresent w.variant 0 = true) ∧ (true = false ∨ (w.channel .a (w.rd Fd.CHM_RXSEL_SRC 0 .a) 0).full = false) ∧
     (halfPresent cfull.variant .a = true) ∧ (endpointPresent cfull.variant 1 = true) ∧ ((cfull.channel .a (cfull.rd Fd.CHM_RXSEL_SRC 1 .a)
      1).full = true) ∧
     (64 ≤ 64 ∨ halfPresent w.variant .a = false)) ∧
    ((63 < 64) ∧ (halfPresent w.variant .a = true) ∧
     (63 < 64) ∧ (halfPresent w.variant .a = true) ∧ (1 ≠ 96) ∧ (w.lockHolder .a 63 = none) ∧
     (3 < 64) ∧ (halfPresent lheld.variant .a = true) ∧ (1 ≠ 96) ∧ (lheld.lockHolder .a 3 = some 1) ∧
     (halfPresent (({ w with variant := .fk9620 } : State)).variant .b = false)) ∧
    ((halfPresent w.variant .a = true) ∧ (2 ≤ 2) ∧
     (halfPresent w.variant .a = true) ∧ (1 < 2) ∧ (bit 5 31 = false) ∧
     (halfPresent w.variant .a = true) ∧ (1 < 2) ∧ (bit (2 ^ 31 + 3) 31 = true) ∧ (w.lockHolder .a ((2 ^ 31 + 3) % 64) = none)) ∧
    ((halfPresent lheld.variant .a = true) ∧ (1 < 2) ∧ (bit (2 ^ 31 + 3) 31 = true) ∧ (lheld.lockHolder .a ((2 ^ 31 + 3) % 64) = some 1) ∧
     (63 < 64) ∧ (halfPresent w.variant .a = true) ∧ (bit (2 ^ 31) 31 = true) ∧ (w.lockHolder .a 63 = none)) :=
  ⟨w_inv, cfull_inv, lheld_inv, by decide +kernel, by decide +kernel, by decide +kernel, by decide +kernel, by decide +kernel, by decide +kernel⟩

theorem test_meets_LocksAreReleasedByTheirHolder :
    lheld.Inv ∧
    ((64 ≤ 64 ∨ halfPresent w.variant .a = false ∨ bit 0 31 = false) ∧
     (64 ≤ 63 ∨ halfPresent w.variant .a = false ∨ bit 5 31 = false) ∧
     (3 < 64) ∧ (halfPresent lheld.variant .a = true) ∧ (bit (2 ^ 31) 31 = true) ∧ (lheld.lockHolder .a 3 = some 1)) ∧
    ((3 < 64) ∧ (halfPresent lheld.variant .a = true) ∧ (bit (2 ^ 31) 31 = true) ∧ (lheld.lockHolder .a 3 = some 1) ∧ (1 ≠ 0)) :=
  ⟨lheld_inv, by decide +kernel, by decide +kernel⟩

theorem test_meets_TheRecorderRecords :
    w.Inv ∧
    esup.Inv ∧
    efullq.Inv ∧
    eq1.Inv ∧
    esnap.Inv ∧
    ((masterPresent w.variant 21 = false ∨ halfPresent w.variant .a = false) ∧
     (masterPresent w.variant 0 = true) ∧ (halfPresent w.variant .a = true) ∧ (1 ≠ 0) ∧
     (halfPresent w.variant .a = true) ∧ (masterPresent w.variant 0 = true) ∧ (w.accepts (halfSrc .a) = false ∨ listedCode (0xFFFF % 65536) =
      false)) ∧
    ((halfPresent esup.variant .a = true) ∧ (masterPresent esup.variant 0 = true) ∧ (esup.accepts (halfSrc .a) = true) ∧ (listedCode (0x0601 %
      65536) = true) ∧ (exemptCode (0x0601 % 65536) = false) ∧ (esup.tokens (0x0601 % 65536) = 0)) ∧
    ((halfPresent w.variant .a = true) ∧ (masterPresent w.variant 0 = true) ∧ (w.accepts (halfSrc .a) = true) ∧ (listedCode (0x0601 % 65536) =
      true) ∧ (exemptCode (0x0601 % 65536) = true ∨ w.tokens (0x0601 % 65536) ≠ 0) ∧ (w.evt.queue.length < 512)) ∧
    ((halfPresent efullq.variant .a = true) ∧ (masterPresent efullq.variant 0 = true) ∧ (efullq.accepts (halfSrc .a) = true) ∧ (listedCode (0x0601
      % 65536) = true) ∧ (exemptCode (0x0601 % 65536) = true ∨ efullq.tokens (0x0601 % 65536) ≠ 0) ∧ (512 ≤ efullq.evt.queue.length) ∧
     (w.evt.queue = [] ∨ w.testRuns 7 = true) ∧
     (eq1.evt.queue = ((⟨900, 5, 0, 0, 0, []⟩ : EvRec)) :: (([] : List EvRec))) ∧ (eq1.testRuns 7 = false)) ∧
    ((eclr.evt.clearing = some ((⟨0, 5, 0, 0, 0, 0⟩ : Clearing))) ∧
     (w.evt.clearing = none) ∧ (w.mayProgram 0 = false ∨ w.evt.stopped = true ∨ w.copyNext = none) ∧
     (ecpy.evt.clearing = none) ∧ (ecpy.mayProgram 0 = true) ∧ (ecpy.evt.stopped = false) ∧ (ecpy.copyNext = some 0) ∧
     (w249.atBar = false) ∧
     (w.atBar = true) ∧
     (w.time.beat = 0 ∨ w.time.beat % 900000000 ≠ 0) ∧
     (ehour.time.beat ≠ 0) ∧ (ehour.time.beat % 900000000 = 0)) ∧
    ((w.atBar = false ∨ w.rd Fd.EVT_SNAPCTRL_GO = 0) ∧
     (esnap.atBar = true) ∧ (esnap.rd Fd.EVT_SNAPCTRL_GO = 1)) :=
  ⟨w_inv, esup_inv, efullq_inv, eq1_inv, esnap_inv, by decide +kernel, by decide +kernel, by decide +kernel, by decide +kernel, by decide +kernel,
      by decide +kernel⟩

theorem test_meets_TestRunsBeginAndEnd :
    tnew.Inv ∧
    w.Inv ∧
    (∀ r, w.ts = some r → r.started = false ∨ w.lanesOf w.mode ≤ 3) ∧
    trun.Inv ∧
    (∀ r, w.ts = some r → r.started = false ∨ r.locked.contains 3 = false ∨ w.prbs w.mode = false) ∧
    (∀ r, w.ts = some r → w.runEnds r 1 = false) ∧
    tstop.Inv ∧
    tstop2.Inv ∧
    ((tnew.goReason 0 (modeOf 0) (0 / 2 ^ 18) ≠ 0) ∧
     (w.goReason 0 (modeOf 28) (28 / 2 ^ 18) = 0) ∧
     (w.ts = none) ∧
     (tnew.ts = some ((⟨1, false, 0, [], 0, ⟨0, false, 0, 0, 0, none⟩⟩ : TestRun))) ∧ (testWriter ((⟨1, false, 0, [], 0, ⟨0, false, 0, 0, 0,
      none⟩⟩ : TestRun)).cls 5 = false) ∧
     (tnew.ts = some ((⟨1, false, 0, [], 0, ⟨0, false, 0, 0, 0, none⟩⟩ : TestRun))) ∧ (testWriter ((⟨1, false, 0, [], 0, ⟨0, false, 0, 0, 0,
      none⟩⟩ : TestRun)).cls 0 = true) ∧
     (w.atBar = false ∨ (∀ r, w.ts = some r → r.started = true ∨ r.cause ≠ 0 ∨ (r.cls = 3 ∧ w.withdrawn = false)))) ∧
    ((tnew.ts = some ((⟨1, false, 0, [], 0, ⟨0, false, 0, 0, 0, none⟩⟩ : TestRun))) ∧ (tnew.atBar = true) ∧ (((⟨1, false, 0, [], 0, ⟨0, false, 0,
      0, 0, none⟩⟩ : TestRun)).started = false) ∧ (((⟨1, false, 0, [], 0, ⟨0, false, 0, 0, 0, none⟩⟩ : TestRun)).cause = 0) ∧ (((⟨1, false, 0, [],
      0, ⟨0, false, 0, 0, 0, none⟩⟩ : TestRun)).cls = 3 → tnew.withdrawn = true)) ∧
    ((thost.ts = some ((⟨1, false, 0, [], 0, ⟨0, false, 0, 0, 0, none⟩⟩ : TestRun))) ∧ (thost.atBar = true) ∧ (((⟨1, false, 0, [], 0, ⟨0, false,
      0, 0, 0, none⟩⟩ : TestRun)).started = false) ∧ (((⟨1, false, 0, [], 0, ⟨0, false, 0, 0, 0, none⟩⟩ : TestRun)).cause = 0) ∧ (((⟨1, false, 0,
      [], 0, ⟨0, false, 0, 0, 0, none⟩⟩ : TestRun)).cls = 3 → thost.withdrawn = true) ∧ (thost.rd Fd.TST_CTRL_IFACE = 2) ∧
      (thost.rd Fd.TST_CTRL_TARGET = 0) ∧ (thost.canSend 0 = true) ∧ (((⟨1, false, 0, [], 0, ⟨0, false, 0, 0, 0, none⟩⟩ : TestRun)).host.wrote =
      false)) ∧
    ((trun.ts = some ((⟨1, true, 0, [3], 0, ⟨0, false, 0, 0, 0, none⟩⟩ : TestRun))) ∧ (((⟨1, true, 0, [3], 0, ⟨0, false, 0, 0, 0, none⟩⟩ :
      TestRun)).started = true) ∧ (15 < trun.lanesOf trun.mode) ∧
     (trun.ts = some ((⟨1, true, 0, [3], 0, ⟨0, false, 0, 0, 0, none⟩⟩ : TestRun))) ∧ (((⟨1, true, 0, [3], 0, ⟨0, false, 0, 0, 0, none⟩⟩ :
      TestRun)).started = true) ∧ (((⟨1, true, 0, [3], 0, ⟨0, false, 0, 0, 0, none⟩⟩ : TestRun)).locked.contains 3 = true) ∧ (trun.prbs trun.mode
      = true)) ∧
    ((tstop.ts = some ((⟨1, true, 0, [3], 0, ⟨0, false, 0, 0, 0, none⟩⟩ : TestRun))) ∧ (tstop.runEnds ((⟨1, true, 0, [3], 0, ⟨0, false, 0, 0, 0,
      none⟩⟩ : TestRun)) 1 = true) ∧ (tstop.rd Fd.TST_CTRL_IFACE ≠ 2) ∧
     (tstop2.ts = some ((⟨1, true, 0, [3], 0, ⟨0, false, 0, 0, 0, none⟩⟩ : TestRun))) ∧ (tstop2.runEnds ((⟨1, true, 0, [3], 0, ⟨0, false, 0, 0, 0,
      none⟩⟩ : TestRun)) 1 = true) ∧ (tstop2.rd Fd.TST_CTRL_IFACE = 2)) :=
  ⟨tnew_inv, w_inv, of_opt (by decide +kernel), trun_inv, of_opt (by decide +kernel), of_opt (by decide +kernel), tstop_inv, tstop2_inv, by
      decide +kernel, by decide +kernel, by decide +kernel, by decide +kernel, by decide +kernel⟩

theorem test_meets_SuppliesDomainsAndArrayOperations :
    w.Inv ∧
    bhold.Inv ∧
    bera.Inv ∧
    bop.Inv ∧
    ((8 < 9 ∨ (9 = 1 ∧ w.variant.twin = false)) ∧
     (2 ≤ 2) ∧ (2 < 8) ∧
     (2 ≤ 7) ∧ (7 < 8) ∧
     (w.variant.twin = true ∨ Half.b = .a) ∧
     (domPresent w.variant 72 = false) ∧
     (domPresent w.variant 0 = true) ∧ (w.domWriter 96 .a 0 = false ∨ 3 % 4 = 3)) ∧
    ((domPresent w.variant 0 = true) ∧ (w.domWriter 96 .a 0 = true) ∧ (2 % 4 ≠ 3) ∧ (w.domRefused 0 (2 % 4) = true) ∧
     (domPresent w.variant 71 = true) ∧ (w.domWriter 96 .a 71 = true) ∧ (0 % 4 ≠ 3) ∧ (w.domRefused 71 (0 % 4) = false) ∧
     (96 ≤ 96 ∨ w.active = none) ∧
     (95 < 96) ∧ (bhold.active ≠ none) ∧ (bhold.noPulse = true)) ∧
    ((95 < 96) ∧ (w.active ≠ none) ∧ (w.noPulse = false) ∧ (w.opRefusal 1 (8 * w.rd Fd.BTA_OPADDR_ADDR) (0 % 128) ≠ 0) ∧
     (95 < 96) ∧ (bera.active ≠ none) ∧ (bera.noPulse = false) ∧ (bera.opRefusal 1 (8 * bera.rd Fd.BTA_OPADDR_ADDR) (1 % 128) = 0) ∧
     (0 < 96) ∧ (bhold.active ≠ none) ∧ (bhold.noPulse = true)) ∧
    ((0 < 96) ∧ (bop.active ≠ none) ∧ (bop.noPulse = false) ∧ (bop.opRefusal 2 (8 * bop.rd Fd.BTA_OPADDR_ADDR) (bop.rd Fd.BTA_OPCTRL_COUNT) ≠ 0) ∧
     (0 < 96) ∧ (bera.active ≠ none) ∧ (bera.noPulse = false) ∧ (bera.opRefusal 2 (8 * bera.rd Fd.BTA_OPADDR_ADDR) (bera.rd Fd.BTA_OPCTRL_COUNT) =
      0) ∧
     (w.bt.op = none) ∧
     (bop.bt.op = some ((⟨1, 0, [], 0, 900⟩ : BtaOp)))) :=
  ⟨w_inv, bhold_inv, bera_inv, bop_inv, by decide +kernel, by decide +kernel, by decide +kernel, by decide +kernel⟩

theorem test_meets_TheDeviceStartsUp :
    z.Inv ∧
    bs1.Inv ∧
    bs2.Inv ∧
    (bs2.chooseCopies (bs2.copyPasses 0 ((⟨true, true, true, true, [], [], imgInit, false, false, 0, true, ⟨[], [], [], [],
      []⟩⟩ : StepRes)).copyA) (bs2.copyPasses 1 ((⟨true, true, true, true, [], [], imgInit, false, false, 0, true, ⟨[], [], [], [], []⟩⟩ :
      StepRes)).copyB) = some bs2) ∧
    bs2v.Inv ∧
    (bs2v.chooseCopies (bs2v.copyPasses 0 ((⟨true, true, true, true, [], [], imgInit, false, false, 0, true, ⟨[], [], [], [],
      []⟩⟩ : StepRes)).copyA) (bs2v.copyPasses 1 ((⟨true, true, true, true, [], [], imgInit, false, false, 0, true, ⟨[], [], [], [], []⟩⟩ :
      StepRes)).copyB) = some bs2v) ∧
    bs3.Inv ∧
    bs4.Inv ∧
    bs4b.Inv ∧
    bs5.Inv ∧
    bs6.Inv ∧
    bs7.Inv ∧
    bs7l.Inv ∧
    bs8.Inv ∧
    bs9.Inv ∧
    bs10c.Inv ∧
    bs10.Inv ∧
    bs11.Inv ∧
    bs12.Inv ∧
    bs12m.Inv ∧
    bs13.Inv ∧
    bs14.Inv ∧
    bs15s.Inv ∧
    bs15.Inv ∧
    bs7o.Inv ∧
    bblate.Inv ∧
    ((w.hub.linkOn = true ∨ w.hub.fenced = true ∨ w.active ≠ none ∨ w.hub.holder ≠ none ∨ w.bt.release ≠ none ∨ w.rd Fd.BTA_BOOTSTAT_STEP = 17 ∨
      w.lg.loss ≠ none ∨ w.nextBoot = none) ∧
     (z.hub.linkOn = false) ∧ (z.hub.fenced = false) ∧ (z.active = none) ∧ (z.hub.holder = none) ∧ (z.bt.release = none) ∧
      (z.rd Fd.BTA_BOOTSTAT_STEP ≠ 17) ∧ (z.lg.loss = none) ∧ (z.nextBoot = some .a) ∧
     (z.booting = none)) ∧
    ((bs1.booting = some .a) ∧ (bs1.rd Fd.BTA_BOOTSTAT_STEP = 1) ∧ (((⟨true, true, false, false, [], [], imgInit, false, false, 0, true, ⟨[], [],
      [], [], []⟩⟩ : StepRes)).ok = true) ∧
     (bs1.booting = some .a) ∧ (bs1.rd Fd.BTA_BOOTSTAT_STEP = 1) ∧ (((⟨false, true, false, false, [], [], imgInit, false, false, 0, true, ⟨[], [],
      [], [], []⟩⟩ : StepRes)).ok = false)) ∧
    ((bs2.booting = some .a) ∧ (bs2.rd Fd.BTA_BOOTSTAT_STEP = 2) ∧ (bs2.chooseCopies (bs2.copyPasses 0 ((⟨true, true, false, false, [], [],
      imgInit, false, false, 0, true, ⟨[], [], [], [], []⟩⟩ : StepRes)).copyA) (bs2.copyPasses 1 ((⟨true, true, false, false, [], [], imgInit,
      false, false, 0, true, ⟨[], [], [], [], []⟩⟩ : StepRes)).copyB) = none) ∧
     (bs2.booting = some .a) ∧ (bs2.rd Fd.BTA_BOOTSTAT_STEP = 2) ∧ (bs2.optVariant = variantCode bs2.variant)) ∧
    ((bs2v.booting = some .a) ∧ (bs2v.rd Fd.BTA_BOOTSTAT_STEP = 2) ∧ (bs2v.optVariant ≠ variantCode bs2v.variant) ∧
     (bs3.booting = some .a) ∧ (bs3.rd Fd.BTA_BOOTSTAT_STEP = 3) ∧
     (bs4.booting = some .a) ∧ (bs4.rd Fd.BTA_BOOTSTAT_STEP = 4) ∧ ((bs4.each ([0, 1].filter (fun b => bs4.bankState b == 3 && decide (2 ≤
      bs4.failedAttempts b))) (fun s' b => s'.markBank b 4)).chooseBank = none)) ∧
    ((bs4b.booting = some .a) ∧ (bs4b.rd Fd.BTA_BOOTSTAT_STEP = 4) ∧ ((bs4b.each ([0, 1].filter (fun b => bs4b.bankState b == 3 && decide (2 ≤
      bs4b.failedAttempts b))) (fun s' b => s'.markBank b 4)).chooseBank = some 0) ∧
     (bs5.booting = some .a) ∧ (bs5.rd Fd.BTA_BOOTSTAT_STEP = 5) ∧ (configPasses bs5.variant ((⟨true, true, false, false, [], [],
      ({ imgInit with cfgOk := true } : ImageMeta), false, false, 0, true, ⟨[], [], [], [], []⟩⟩ : StepRes)).img = true)) ∧
    ((bs5.booting = some .a) ∧ (bs5.rd Fd.BTA_BOOTSTAT_STEP = 5) ∧ (configPasses bs5.variant ((⟨true, true, false, false, [], [], imgInit, false,
      false, 0, true, ⟨[], [], [], [], []⟩⟩ : StepRes)).img = false) ∧
     (bs6.booting = some .a) ∧ (bs6.rd Fd.BTA_BOOTSTAT_STEP = 6) ∧ (fwPasses bs6.variant ((⟨true, true, false, false, [], [], imgInit, false,
      false, 0, true, ⟨[], [], [], [], []⟩⟩ : StepRes)).img = false ∨ ((⟨true, true, false, false, [], [], imgInit, false, false, 0, true, ⟨[],
      [], [], [], []⟩⟩ : StepRes)).img.fw.secver < bs6.rd Fd.SEC_FUSE_SECVER)) ∧
    ((bs6.booting = some .a) ∧ (bs6.rd Fd.BTA_BOOTSTAT_STEP = 6) ∧ (fwPasses bs6.variant ((⟨false, true, false, false, [], [],
      ({ imgInit with fwOk := true, ucode := ⟨1, [.addr 1, .wait 5], requiredEntries.map (fun e => (e, 0))⟩ } : ImageMeta), false, false, 0, true,
      ⟨[], [], [], [], []⟩⟩ : StepRes)).img = true) ∧ (bs6.rd Fd.SEC_FUSE_SECVER ≤ ((⟨false, true, false, false, [], [],
      ({ imgInit with fwOk := true, ucode := ⟨1, [.addr 1, .wait 5], requiredEntries.map (fun e => (e, 0))⟩ } : ImageMeta), false, false, 0, true,
      ⟨[], [], [], [], []⟩⟩ : StepRes)).img.fw.secver) ∧ (((⟨false, true, false, false, [], [],
      ({ imgInit with fwOk := true, ucode := ⟨1, [.addr 1, .wait 5], requiredEntries.map (fun e => (e, 0))⟩ } : ImageMeta), false, false, 0, true,
      ⟨[], [], [], [], []⟩⟩ : StepRes)).ok = false ∨ ucodeOk ((⟨false, true, false, false, [], [],
      ({ imgInit with fwOk := true, ucode := ⟨1, [.addr 1, .wait 5], requiredEntries.map (fun e => (e, 0))⟩ } : ImageMeta), false, false, 0, true,
      ⟨[], [], [], [], []⟩⟩ : StepRes)).img.ucode = false)) :=
  ⟨z_inv, bs1_inv, bs2_inv, bs2_copy, bs2v_inv, bs2v_copy, bs3_inv, bs4_inv, bs4b_inv, bs5_inv, bs6_inv, bs7_inv, bs7l_inv, bs8_inv, bs9_inv,
      bs10c_inv, bs10_inv, bs11_inv, bs12_inv, bs12m_inv, bs13_inv, bs14_inv, bs15s_inv, bs15_inv, bs7o_inv, bblate_inv, by decide +kernel, by
      decide +kernel, by decide +kernel, by decide +kernel, by decide +kernel, by decide +kernel, by decide +kernel⟩

theorem test_meets_TheDeviceStartsUp_2 :
    ((bs6.booting = some .a) ∧ (bs6.rd Fd.BTA_BOOTSTAT_STEP = 6) ∧ (fwPasses bs6.variant ((⟨true, true, false, false, [], [],
      ({ imgInit with fwOk := true, ucode := ⟨1, [.addr 1, .wait 5], requiredEntries.map (fun e => (e, 0))⟩ } : ImageMeta), false, false, 0, true,
      ⟨[], [], [], [], []⟩⟩ : StepRes)).img = true) ∧ (bs6.rd Fd.SEC_FUSE_SECVER ≤ ((⟨true, true, false, false, [], [],
      ({ imgInit with fwOk := true, ucode := ⟨1, [.addr 1, .wait 5], requiredEntries.map (fun e => (e, 0))⟩ } : ImageMeta), false, false, 0, true,
      ⟨[], [], [], [], []⟩⟩ : StepRes)).img.fw.secver) ∧ (((⟨true, true, false, false, [], [],
      ({ imgInit with fwOk := true, ucode := ⟨1, [.addr 1, .wait 5], requiredEntries.map (fun e => (e, 0))⟩ } : ImageMeta), false, false, 0, true,
      ⟨[], [], [], [], []⟩⟩ : StepRes)).ok = true) ∧ (ucodeOk ((⟨true, true, false, false, [], [],
      ({ imgInit with fwOk := true, ucode := ⟨1, [.addr 1, .wait 5], requiredEntries.map (fun e => (e, 0))⟩ } : ImageMeta), false, false, 0, true,
      ⟨[], [], [], [], []⟩⟩ : StepRes)).img.ucode = true)) ∧
    ((bs7.booting = some .a) ∧ (bs7.rd Fd.BTA_BOOTSTAT_STEP = 7) ∧ ((bs7.half (otherHalf .a)).st ≠ .loading) ∧
     (bs7l.booting = some .a) ∧ (bs7l.rd Fd.BTA_BOOTSTAT_STEP = 7) ∧ ((bs7l.half (otherHalf .a)).st = .loading) ∧ (((⟨true, true, false, false,
      [], [], imgInit, false, false, 0, true, ⟨[], [], [], [], []⟩⟩ : StepRes)).otherOk = true)) ∧
    ((bs7l.booting = some .a) ∧ (bs7l.rd Fd.BTA_BOOTSTAT_STEP = 7) ∧ ((bs7l.half (otherHalf .a)).st = .loading) ∧ (((⟨true, false, false, false,
      [], [], imgInit, false, false, 0, true, ⟨[], [], [], [], []⟩⟩ : StepRes)).otherOk = false) ∧
     (bs8.booting = some .a) ∧ (bs8.rd Fd.BTA_BOOTSTAT_STEP = 8)) ∧
    ((bs9.booting = some .a) ∧ (bs9.rd Fd.BTA_BOOTSTAT_STEP = 9) ∧ (((⟨false, true, false, false, [], [], imgInit, false, false, 0, true, ⟨[], [],
      [], [], []⟩⟩ : StepRes)).ok = false ∨ dramFound ((⟨false, true, false, false, [], [], imgInit, false, false, 0, true, ⟨[], [], [], [], []⟩⟩
      : StepRes)).ranks2 ((⟨false, true, false, false, [], [], imgInit, false, false, 0, true, ⟨[], [], [], [], []⟩⟩ : StepRes)).dens32 = 0 ∨ 2 <
      ((⟨false, true, false, false, [], [], imgInit, false, false, 0, true, ⟨[], [], [], [], []⟩⟩ : StepRes)).rate ∨ dramFound ((⟨false, true,
      false, false, [], [], imgInit, false, false, 0, true, ⟨[], [], [], [], []⟩⟩ : StepRes)).ranks2 ((⟨false, true, false, false, [], [],
      imgInit, false, false, 0, true, ⟨[], [], [], [], []⟩⟩ : StepRes)).dens32 < 5 * bs9.exported + 2 ^ 33 ∨ ((⟨false, true, false, false, [], [],
      imgInit, false, false, 0, true, ⟨[], [], [], [], []⟩⟩ : StepRes)).checksOk = false)) ∧
    ((bs9.booting = some .a) ∧ (bs9.rd Fd.BTA_BOOTSTAT_STEP = 9) ∧ (((⟨true, true, false, false, [], [], imgInit, false, false, 0, true, ⟨[], [],
      [], [], []⟩⟩ : StepRes)).ok = true) ∧ (dramFound ((⟨true, true, false, false, [], [], imgInit, false, false, 0, true, ⟨[], [], [], [], []⟩⟩
      : StepRes)).ranks2 ((⟨true, true, false, false, [], [], imgInit, false, false, 0, true, ⟨[], [], [], [], []⟩⟩ : StepRes)).dens32 ≠ 0) ∧
      (((⟨true, true, false, false, [], [], imgInit, false, false, 0, true, ⟨[], [], [], [], []⟩⟩ : StepRes)).rate ≤ 2) ∧ (5 * bs9.exported + 2 ^
      33 ≤ dramFound ((⟨true, true, false, false, [], [], imgInit, false, false, 0, true, ⟨[], [], [], [], []⟩⟩ : StepRes)).ranks2 ((⟨true, true,
      false, false, [], [], imgInit, false, false, 0, true, ⟨[], [], [], [], []⟩⟩ : StepRes)).dens32) ∧ (((⟨true, true, false, false, [], [],
      imgInit, false, false, 0, true, ⟨[], [], [], [], []⟩⟩ : StepRes)).checksOk = true)) ∧
    ((bs10c.booting = some .a) ∧ (bs10c.rd Fd.BTA_BOOTSTAT_STEP = 10) ∧ (bs10c.rd Fd.SCH_PLAN_CTRL_COMMIT 0 .a = 1) ∧
     (bs10.booting = some .a) ∧ (bs10.rd Fd.BTA_BOOTSTAT_STEP = 10) ∧ (bs10.rd Fd.SCH_PLAN_CTRL_COMMIT 0 .a = 0) ∧
     (bs11.booting = some .a) ∧ (bs11.rd Fd.BTA_BOOTSTAT_STEP = 11) ∧
     (bs12.booting = some .a) ∧ (bs12.rd Fd.BTA_BOOTSTAT_STEP = 12)) ∧
    ((bs12m.booting = some .a) ∧ (bs12m.rd Fd.BTA_BOOTSTAT_STEP = 12) ∧
      (bs12m.tr.segs = [({ seg := 0, next := 5, bad := false, entries := [(3, ⟨77, 1, false, false⟩)] : SegCopy })]) ∧
      (({ seg := 0, next := 5, bad := false, entries := [(3, ⟨77, 1, false, false⟩)] : SegCopy }).bad = false) ∧ (((⟨true, true, false, false, [],
      [], imgInit, false, false, 0, true, ⟨[], [], [], [], []⟩⟩ : StepRes)).found.badCopies = []) ∧ (bs12m.allDeltas = []) ∧ (bs12m.tr.mapq = [])
      ∧ (bs12m.lg.stale = []) ∧ (Memory.wf (fun _ => MapEntry.init) ({ seg := 0, next := 5, bad := false, entries := [(3, ⟨77, 1, false, false⟩)] : SegCopy }).entries = true)) :=
  ⟨by decide +kernel, by decide +kernel, by decide +kernel, by decide +kernel, by decide +kernel, by decide +kernel, by decide +kernel⟩

theorem test_meets_TheDeviceStartsUp_3 :
    ((bs13.booting = some .a) ∧ (bs13.rd Fd.BTA_BOOTSTAT_STEP = 13) ∧
     (bs14.booting = some .a) ∧ (bs14.rd Fd.BTA_BOOTSTAT_STEP = 14) ∧
     (bs15s.booting = some .a) ∧ (bs15s.rd Fd.BTA_BOOTSTAT_STEP = 15) ∧ (bs15s.nv.sanitize.isSome = true) ∧
     (bs15.booting = some .a) ∧ (bs15.rd Fd.BTA_BOOTSTAT_STEP = 15) ∧ (bs15.nv.sanitize = none)) ∧
    ((bb1n.booting = some .a) ∧ (bb1n.time.beat < bb1n.bt.stepAt + 250 * stepLimit (bb1n.rd Fd.BTA_BOOTSTAT_STEP)) ∧
     (bs7o.booting = some .a) ∧ (bs7o.rd Fd.BTA_BOOTSTAT_STEP = 7) ∧ (bs7o.bt.stepAt + 250 * stepLimit 7 ≤ bs7o.time.beat) ∧
     (bblate.booting = some .a) ∧ (bblate.rd Fd.BTA_BOOTSTAT_STEP ≠ 7) ∧ (bblate.bt.stepAt + 250 * stepLimit (bblate.rd Fd.BTA_BOOTSTAT_STEP) ≤
      bblate.time.beat)) :=
  ⟨by decide +kernel, by decide +kernel⟩

theorem test_meets_ThePortAnswersItsBus :
    w.Inv ∧
    vda.Inv ∧
    vpk.Inv ∧
    (∀ i, ((⟨true, true, 0x7F, none, true, false⟩ : Packet)).sess = some i → w.operSess i = false) ∧
    ((vcut.portCut = true) ∧
     (vda.rd Fd.SVC_I3C_DAVALID = 1) ∧
     (z.rd Fd.SVC_I3C_DAVALID ≠ 1) ∧
     (w.portCut = false) ∧ (w.rd Fd.SVC_I3C_DAVALID ≠ 1) ∧
     (vda.portCut = false) ∧ (vda.rd Fd.SVC_I3C_DAVALID = 1) ∧
     (w.portCut = false) ∧
     (vpk.portCut = false) ∧
     (63 < 64 ∨ 256 < 63) ∧
     (w.portCut = false) ∧ (64 ≤ 64) ∧ (64 ≤ 256)) ∧
    ((w.portCut = false) ∧ (64 ≤ 256) ∧ (256 ≤ 256) ∧
     (z.svcUp = false) ∧
     (w.svcUp = true) ∧ (((⟨false, true, 0, none, true, false⟩ : Packet)).pecOk = false ∨ ((⟨false, true, 0, none, true, false⟩ : Packet)).asmOk =
      false)) ∧
    ((w.svcUp = true) ∧ (((⟨true, true, 0, none, false, false⟩ : Packet)).pecOk = true) ∧ (((⟨true, true, 0, none, false, false⟩ : Packet)).asmOk
      = true) ∧ (((⟨true, true, 0, none, false, false⟩ : Packet)).eom = false)) ∧
    ((w.svcUp = true) ∧ (((⟨true, true, 0x7F, none, true, false⟩ : Packet)).pecOk = true) ∧ (((⟨true, true, 0x7F, none, true,
      false⟩ : Packet)).asmOk = true) ∧ (((⟨true, true, 0x7F, none, true, false⟩ : Packet)).eom = true) ∧ ((((⟨true, true, 0x7F, none, true,
      false⟩ : Packet)).typ = 1 ∧ ((⟨true, true, 0x7F, none, true, false⟩ : Packet)).fwUpdate = true) ∨ ((⟨true, true, 0x7F, none, true, false⟩ :
      Packet)).typ = 0x7F)) ∧
    ((vses.svcUp = true) ∧ (((⟨true, true, 0x7F, some 1, true, false⟩ : Packet)).pecOk = true) ∧ (((⟨true, true, 0x7F, some 1, true, false⟩ :
      Packet)).asmOk = true) ∧ (((⟨true, true, 0x7F, some 1, true, false⟩ : Packet)).eom = true) ∧ ((((⟨true, true, 0x7F, some 1, true, false⟩ :
      Packet)).typ = 1 ∧ ((⟨true, true, 0x7F, some 1, true, false⟩ : Packet)).fwUpdate = true) ∨ ((⟨true, true, 0x7F, some 1, true, false⟩ :
      Packet)).typ = 0x7F) ∧ (((⟨true, true, 0x7F, some 1, true, false⟩ : Packet)).sess = some 1) ∧ (vses.operSess 1 = true)) ∧
    ((w.svcUp = true) ∧ (((⟨true, true, 0, none, true, false⟩ : Packet)).pecOk = true) ∧ (((⟨true, true, 0, none, true, false⟩ : Packet)).asmOk =
      true) ∧ (((⟨true, true, 0, none, true, false⟩ : Packet)).eom = true) ∧ (¬(((⟨true, true, 0, none, true, false⟩ : Packet)).typ = 1 ∧ ((⟨true,
      true, 0, none, true, false⟩ : Packet)).fwUpdate = true)) ∧ (((⟨true, true, 0, none, true, false⟩ : Packet)).typ ≠ 0x7F) ∧
     (w.svcUp = true) ∧ (0 = 0 ∨ 255 ≤ 0)) ∧
    ((w.svcUp = true) ∧ (0 < 254) ∧ (254 < 255) ∧
     (w.svcUp = true) ∧
     (w.svcUp = true) ∧ (w.sv.pkts = []) ∧
     (vpk.svcUp = true) ∧ (vpk.sv.pkts = (((0, [1]) : Nat × List Nat)) :: (([] : List (Nat × List Nat))))) :=
  ⟨w_inv, vda_inv, vpk_inv, (fun i h => nomatch h), by decide +kernel, by decide +kernel, by decide +kernel, by decide +kernel, by decide +kernel,
      by decide +kernel, by decide +kernel⟩

theorem test_meets_FirmwareIsUpdatedAndActivated :
    vup.Inv ∧
    vnl.Inv ∧
    vse.Inv ∧
    (vup.InUpdate 1 ((⟨1, 64, [], [], none, 0, false, false, false, 1000⟩ : Upd))) ∧
    vuh.Inv ∧
    (vuh.InUpdate 1 ((⟨1, 64, [], [], none, 0, false, false, false, 1000⟩ : Upd))) ∧
    vu2.Inv ∧
    (vu2.InUpdate 1 ((⟨1, 64, [], [], none, 0, false, false, false, 1000⟩ : Upd))) ∧
    vc1.Inv ∧
    (vc1.InUpdate 1 ((⟨1, 64, [], [], some (1, 64), 0, false, true, false, 1000⟩ : Upd))) ∧
    vc2.Inv ∧
    (vc2.InUpdate 1 ((⟨1, 64, [], [], some (1, 64), 0, true, true, false, 1000⟩ : Upd))) ∧
    vmkd.Inv ∧
    vsr.Inv ∧
    (∀ u, vup.sv.upd = some u → vup.time.beat < u.last + 15000000) ∧
    (∀ u, w.sv.upd = some u → w.time.beat < u.last + 15000000) ∧
    vold.Inv ∧
    vq0.Inv ∧
    vq1.Inv ∧
    (vq1.atBar = false ∨ ((⟨0, imgInit, 1, some 900, none, none, false⟩ : Act)).changed ≠ none ∨ (∀ t, ((⟨0, imgInit, 1, some 900, none, none,
      false⟩ : Act)).holdAt = some t → vq1.time.beat ≤ t)) ∧
    vq2.Inv ∧
    vq3.Inv ∧
    vqo.Inv ∧
    ((vse.svcUp = true) ∧ (vse.operSess 1 = true) ∧
     (vup.svcUp = true) ∧ (vup.operSess 1 = true) ∧ (vup.sv.upd ≠ none) ∧
     (vnl.svcUp = true) ∧ (vnl.operSess 1 = true) ∧ (vnl.sv.upd = none) ∧ (vnl.unable = true)) ∧
    ((vse.svcUp = true) ∧ (vse.operSess 1 = true) ∧ (vse.sv.upd = none) ∧ (vse.unable = false) ∧
     (compFits 1 64 = true) ∧
     (compFits 0 64 = false) ∧
     (vuh.noPulse = true) ∧
     (vup.noPulse = false) ∧ (vup.rd Fd.SVC_PLDMSTAT_STATE ≠ 2 ∨ ((⟨1, 64, [], [], none, 0, false, false, false, 1000⟩ : Upd)).staged = true)) ∧
    ((vu2.noPulse = false) ∧ (vu2.rd Fd.SVC_PLDMSTAT_STATE = 2) ∧ (((⟨1, 64, [], [], none, 0, false, false, false, 1000⟩ : Upd)).staged = false) ∧
      (compFits 4 64 = false ∨ 4 ∈ ((⟨1, 64, [], [], none, 0, false, false, false, 1000⟩ : Upd)).applied)) ∧
    ((vu2.noPulse = false) ∧ (vu2.rd Fd.SVC_PLDMSTAT_STATE = 2) ∧ (((⟨1, 64, [], [], none, 0, false, false, false, 1000⟩ : Upd)).staged = false) ∧
      (compFits 1 64 = true) ∧ (1 ∉ ((⟨1, 64, [], [], none, 0, false, false, false, 1000⟩ : Upd)).applied) ∧
     (((⟨1, 64, [], [], none, 0, false, false, false, 1000⟩ : Upd)).cur = none ∨ vup.noPulse = true ∨ vup.rd Fd.SVC_PLDMSTAT_STATE ≠ 3)) ∧
    ((((⟨1, 64, [], [], some (1, 64), 0, false, true, false, 1000⟩ : Upd)).cur = some (1, 64)) ∧ (vc1.noPulse = false) ∧
      (vc1.rd Fd.SVC_PLDMSTAT_STATE = 3) ∧ ((([5] : List Word64)) = ([5].map (fun n => BitVec.ofNat 64 n)).take (min (ceilDiv 64 8 - ((⟨1, 64, [],
      [], some (1, 64), 0, false, true, false, 1000⟩ : Upd)).got) (ceilDiv ((⟨1, 64, [], [], some (1, 64), 0, false, true, false, 1000⟩ :
      Upd)).chunk 8))) ∧ (8 * (((⟨1, 64, [], [], some (1, 64), 0, false, true, false, 1000⟩ : Upd)).got + (([5] : List Word64)).length) < 64)) ∧
    ((((⟨1, 64, [], [], some (1, 64), 0, false, true, false, 1000⟩ : Upd)).cur = some (1, 64)) ∧ (vc1.noPulse = false) ∧
      (vc1.rd Fd.SVC_PLDMSTAT_STATE = 3) ∧ ((([5, 5, 5, 5, 5, 5, 5, 5] : List Word64)) = ([5, 5, 5, 5, 5, 5, 5, 5].map (fun n => BitVec.ofNat 64
      n)).take (min (ceilDiv 64 8 - ((⟨1, 64, [], [], some (1, 64), 0, false, true, false, 1000⟩ : Upd)).got) (ceilDiv ((⟨1, 64, [], [], some (1,
      64), 0, false, true, false, 1000⟩ : Upd)).chunk 8))) ∧ (64 ≤ 8 * (((⟨1, 64, [], [], some (1, 64), 0, false, true, false, 1000⟩ : Upd)).got +
      (([5, 5, 5, 5, 5, 5, 5, 5] : List Word64)).length)) ∧ (vc1.compPasses 1 imgInit = false)) ∧
    ((((⟨1, 64, [], [], some (1, 64), 0, false, true, false, 1000⟩ : Upd)).cur = some (1, 64)) ∧ (vc1.noPulse = false) ∧
      (vc1.rd Fd.SVC_PLDMSTAT_STATE = 3) ∧ ((([5, 5, 5, 5, 5, 5, 5, 5] : List Word64)) = ([5, 5, 5, 5, 5, 5, 5, 5].map (fun n => BitVec.ofNat 64
      n)).take (min (ceilDiv 64 8 - ((⟨1, 64, [], [], some (1, 64), 0, false, true, false, 1000⟩ : Upd)).got) (ceilDiv ((⟨1, 64, [], [], some (1,
      64), 0, false, true, false, 1000⟩ : Upd)).chunk 8))) ∧ (64 ≤ 8 * (((⟨1, 64, [], [], some (1, 64), 0, false, true, false, 1000⟩ : Upd)).got +
      (([5, 5, 5, 5, 5, 5, 5, 5] : List Word64)).length)) ∧ (vc1.compPasses 1 (({ imgInit with fwOk := true, cfgOk := true, romOk := true, ucode := ⟨1, [.addr 1, .wait 5], requiredEntries.map (fun e => (e, 0))⟩ } : ImageMeta)) = true) ∧ (((⟨1, 64, [], [], some (1, 64), 0, false, true, false, 1000⟩ : Upd)).lastComp = false)) :=
  ⟨vup_inv, vnl_inv, vse_inv, inUpdate_of (by decide +kernel), vuh_inv, inUpdate_of (by decide +kernel), vu2_inv, inUpdate_of (by decide +kernel),
      vc1_inv, inUpdate_of (by decide +kernel), vc2_inv, inUpdate_of (by decide +kernel), vmkd_inv, vsr_inv, of_opt (by decide +kernel), of_opt
      (by decide +kernel), vold_inv, vq0_inv, vq1_inv, Or.inr (Or.inr (of_opt (by decide +kernel))), vq2_inv, vq3_inv, vqo_inv, by decide +kernel,
      by decide +kernel, by decide +kernel, by decide +kernel, by decide +kernel, by decide +kernel, by decide +kernel⟩

theorem test_meets_FirmwareIsUpdatedAndActivated_2 :
    ((((⟨1, 64, [], [], some (1, 64), 0, true, true, false, 1000⟩ : Upd)).cur = some (1, 64)) ∧ (vc2.noPulse = false) ∧
      (vc2.rd Fd.SVC_PLDMSTAT_STATE = 3) ∧ ((([5, 5, 5, 5, 5, 5, 5, 5] : List Word64)) = ([5, 5, 5, 5, 5, 5, 5, 5].map (fun n => BitVec.ofNat 64
      n)).take (min (ceilDiv 64 8 - ((⟨1, 64, [], [], some (1, 64), 0, true, true, false, 1000⟩ : Upd)).got) (ceilDiv ((⟨1, 64, [], [], some (1,
      64), 0, true, true, false, 1000⟩ : Upd)).chunk 8))) ∧ (64 ≤ 8 * (((⟨1, 64, [], [], some (1, 64), 0, true, true, false, 1000⟩ : Upd)).got +
      (([5, 5, 5, 5, 5, 5, 5, 5] : List Word64)).length)) ∧ (vc2.compPasses 1 (({ imgInit with fwOk := true, cfgOk := true, romOk := true, ucode := ⟨1, [.addr 1, .wait 5], requiredEntries.map (fun e => (e, 0))⟩ } : ImageMeta)) = true) ∧ (((⟨1, 64, [], [], some (1, 64), 0, true, true, false, 1000⟩ : Upd)).lastComp = true)) ∧
    ((((⟨1, 64, [], [], none, 0, false, false, false, 1000⟩ : Upd)).cur = none) ∧
     (((⟨1, 64, [], [], some (1, 64), 0, false, true, false, 1000⟩ : Upd)).cur ≠ none) ∧
     (vse.svcUp = true) ∧ (vse.operSess 1 = true) ∧ (vse.sv.act ≠ none ∨ vse.bankState vse.targetBank ≠ 2 ∨ vse.hub.fenced = true ∨ vse.noPulse =
      true ∨ (false = true ∧ vse.svcFull = false)) ∧
     (vse.svcUp = true) ∧ (vse.operSess 1 = true) ∧ (vse.sv.act ≠ none ∨ vse.bankState vse.targetBank ≠ 2 ∨ vse.hub.fenced = true ∨ vse.noPulse =
      true ∨ (true = true ∧ vse.svcFull = false))) ∧
    ((vmkd.svcUp = true) ∧ (vmkd.operSess 1 = true) ∧ (vmkd.sv.act = none) ∧ (vmkd.bankState vmkd.targetBank = 2) ∧ (vmkd.hub.fenced = false) ∧
      (vmkd.noPulse = false)) ∧
    ((vmkd.svcUp = true) ∧ (vmkd.operSess 1 = true) ∧ (vmkd.sv.act = none) ∧ (vmkd.bankState vmkd.targetBank = 2) ∧ (vmkd.hub.fenced = false) ∧
      (vmkd.noPulse = false) ∧ (vmkd.svcFull = true) ∧ (vmkd.actReason (({ imgInit with fwOk := true, cfgOk := true, romOk := true, ucode := ⟨1, [.addr 1, .wait 5], requiredEntries.map (fun e => (e, 0))⟩ } : ImageMeta)) false ≠ 0)) ∧
    ((vsr.svcUp = true) ∧ (vsr.operSess 1 = true) ∧ (vsr.sv.act = none) ∧ (vsr.bankState vsr.targetBank = 2) ∧ (vsr.hub.fenced = false) ∧
      (vsr.noPulse = false) ∧ (vsr.svcFull = true) ∧ (vsr.actReason imgInit false = 0) ∧ (vsr.setPasses imgInit = false)) ∧
    ((vsr.svcUp = true) ∧ (vsr.operSess 1 = true) ∧ (vsr.sv.act = none) ∧ (vsr.bankState vsr.targetBank = 2) ∧ (vsr.hub.fenced = false) ∧
      (vsr.noPulse = false) ∧ (vsr.svcFull = true) ∧ (vsr.actReason (({ imgInit with fwOk := true, cfgOk := true, romOk := true, ucode := ⟨1, [.addr 1, .wait 5], requiredEntries.map (fun e => (e, 0))⟩ } : ImageMeta)) false = 0) ∧ (vsr.setPasses (({ imgInit with fwOk := true, cfgOk := true, romOk := true, ucode := ⟨1, [.addr 1, .wait 5], requiredEntries.map (fun e => (e, 0))⟩ } : ImageMeta)) = true)) ∧
    ((vold.sv.upd = some ((⟨1, 64, [], [], none, 0, false, false, false, 1000⟩ : Upd))) ∧ (((⟨1, 64, [], [], none, 0, false, false, false, 1000⟩ :
      Upd)).last + 15000000 ≤ vold.time.beat) ∧
     (w.activating = none) ∧
     (vq1.activating = some (((⟨0, imgInit, 1, some 900, none, none, false⟩ : Act)), .a)) ∧ (((⟨0, imgInit, 1, some 900, none, none, false⟩ :
      Act)).b ≠ none ∨ vq1.atBar = false ∨ vq1.hub.hold = true ∨ vq1.hub.drill.d ≠ none)) :=
  ⟨by decide +kernel, by decide +kernel, by decide +kernel, by decide +kernel, by decide +kernel, by decide +kernel, by decide +kernel⟩

theorem test_meets_FirmwareIsUpdatedAndActivated_3 :
    ((vq0.activating = some (((⟨0, imgInit, 1, none, none, none, false⟩ : Act)), .a)) ∧ (((⟨0, imgInit, 1, none, none, none, false⟩ : Act)).b =
      none) ∧ (vq0.atBar = true) ∧ (vq0.hub.hold = false) ∧ (vq0.hub.drill.d = none) ∧
     (vq0.activating = some (((⟨0, imgInit, 1, none, none, none, false⟩ : Act)), .a)) ∧ (((⟨0, imgInit, 1, none, none, none, false⟩ : Act)).b =
      none ∨ ((⟨0, imgInit, 1, none, none, none, false⟩ : Act)).holdAt ≠ none ∨ vq0.drained = false ∨ vq0.hub.hold = true)) ∧
    ((vq1.activating = some (((⟨0, imgInit, 1, some 900, none, none, false⟩ : Act)), .a)) ∧ (((⟨0, imgInit, 1, some 900, none, none, false⟩ :
      Act)).b ≠ none) ∧ (((⟨0, imgInit, 1, some 900, none, none, false⟩ : Act)).holdAt = none) ∧ (vq1.drained = true) ∧ (vq1.hub.hold = false)) ∧
    ((vq3.activating = some (((⟨0, imgInit, 1, some 900, some 950, some 960, false⟩ : Act)), .a)) ∧ (vq3.atBar = false ∨ ((⟨0, imgInit, 1, some
      900, some 950, some 960, false⟩ : Act)).changed ≠ none ∨ (∀ t, ((⟨0, imgInit, 1, some 900, some 950, some 960, false⟩ : Act)).holdAt = some
      t → vq3.time.beat ≤ t)) ∧
     (vq1.activating = some (((⟨0, imgInit, 1, some 900, none, none, false⟩ : Act)), .a))) ∧
    ((vq2.activating = some (((⟨0, imgInit, 1, some 900, some 950, none, false⟩ : Act)), .a)) ∧ (((⟨0, imgInit, 1, some 900, some 950, none,
      false⟩ : Act)).holdAt = some 950) ∧ (vq2.atBar = true) ∧ (950 < vq2.time.beat) ∧ (((⟨0, imgInit, 1, some 900, some 950, none, false⟩ :
      Act)).changed = none)) ∧
    ((vqo.activating = some (((⟨0, imgInit, 1, some 900, some 950, some 960, false⟩ : Act)), .a)) ∧ (vqo.atBar = false ∨ vqo.hub.hold = true ∨ (∀
      t, ((⟨0, imgInit, 1, some 900, some 950, some 960, false⟩ : Act)).changed = some t → vqo.time.beat ≤ t) ∨ (∀ t, ((⟨0, imgInit, 1, some 900,
      some 950, some 960, false⟩ : Act)).b = some t → t + 2000 < vqo.time.beat))) ∧
    ((vq3.activating = some (((⟨0, imgInit, 1, some 900, some 950, some 960, false⟩ : Act)), .a)) ∧ (((⟨0, imgInit, 1, some 900, some 950, some
      960, false⟩ : Act)).changed = some 960) ∧ (((⟨0, imgInit, 1, some 900, some 950, some 960, false⟩ : Act)).b = some 900) ∧ (vq3.atBar = true)
      ∧ (960 < vq3.time.beat) ∧ (vq3.time.beat ≤ 900 + 2000) ∧ (vq3.hub.hold = false)) ∧
    ((vq3.activating = some (((⟨0, imgInit, 1, some 900, some 950, some 960, false⟩ : Act)), .a)) ∧ (vq3.atBar = false ∨ (∀ t, ((⟨0, imgInit, 1,
      some 900, some 950, some 960, false⟩ : Act)).b = some t → vq3.time.beat ≤ t + 2000)) ∧
     (vqo.activating = some (((⟨0, imgInit, 1, some 900, some 950, some 960, false⟩ : Act)), .a)) ∧ (((⟨0, imgInit, 1, some 900, some 950, some
      960, false⟩ : Act)).b = some 900) ∧ (vqo.atBar = true) ∧ (900 + 2000 < vqo.time.beat) ∧
     (w.svcUp = true ∧ w.operSess 1 = false ∧ z.svcUp = false ∧ vse.sv.upd = none)) :=
  ⟨by decide +kernel, by decide +kernel, by decide +kernel, by decide +kernel, by decide +kernel, by decide +kernel, by decide +kernel⟩

theorem test_meets_AttestationAndSessions :
    vst3.Inv ∧
    vse.Inv ∧
    vsn.Inv ∧
    vsm.Inv ∧
    (∀ x, vse.sess 1 = some x → vse.time.beat < x.last + 7500000) ∧
    vsold.Inv ∧
    (uf0.Fetched ((⟨0, 0, 7, none⟩ : Hdr))) ∧
    w.Inv ∧
    ((w.spdmUp Transport.mctp = true) ∧
     (vst3.spdmUp Transport.mctp = true) ∧ (3 ≤ vst3.spdmStage Transport.mctp) ∧
     (vst3d.spdmUp (Transport.doe 0) = true) ∧ (3 ≤ vst3d.spdmStage (Transport.doe 0)) ∧ ((Transport.doe 0) ≠ .mctp ∨ 4 ≤ vst3d.sv.sess.length) ∧
     (vst3.spdmUp .mctp = true) ∧ (3 ≤ vst3.spdmStage .mctp) ∧ (vst3.sv.sess.length < 4)) ∧
    ((vse.svcUp = true) ∧ (vse.sv.sess.find? (fun y => y.id == 1) = some ((⟨1, true, true, none, 1000, false⟩ : Sess))) ∧ (((⟨1, true, true, none,
      1000, false⟩ : Sess)).est = true ∨ ((⟨1, true, true, none, 1000, false⟩ : Sess)).mutPend = true) ∧
     (vsn.svcUp = true) ∧ (vsn.sv.sess.find? (fun y => y.id == 1) = some ((⟨1, true, false, none, 1000, false⟩ : Sess))) ∧ (((⟨1, true, false,
      none, 1000, false⟩ : Sess)).est = false) ∧ (((⟨1, true, false, none, 1000, false⟩ : Sess)).mutPend = false)) ∧
    ((vse.svcUp = true) ∧ (vse.sv.sess.find? (fun y => y.id == 1) = some ((⟨1, true, true, none, 1000, false⟩ : Sess))) ∧ (((⟨1, true, true, none,
      1000, false⟩ : Sess)).est = true) ∧
     (vsn.svcUp = true) ∧ (vsn.sv.sess.find? (fun y => y.id == 1) = some ((⟨1, true, false, none, 1000, false⟩ : Sess))) ∧ (((⟨1, true, false,
      none, 1000, false⟩ : Sess)).est = false)) ∧
    ((vsm.svcUp = true) ∧ (vsm.sv.sess.find? (fun y => y.id == 1) = some ((⟨1, true, false, none, 1000, true⟩ : Sess))) ∧ (((⟨1, true, false,
      none, 1000, true⟩ : Sess)).mutPend = true) ∧
     (vse.svcUp = true) ∧ (vse.sv.sess.find? (fun y => y.id == 1) = some ((⟨1, true, true, none, 1000, false⟩ : Sess))) ∧ (((⟨1, true, true, none,
      1000, false⟩ : Sess)).mutPend = false) ∧
     (vsold.sess 1 = some ((⟨1, true, true, none, 1000, false⟩ : Sess))) ∧ (((⟨1, true, true, none, 1000, false⟩ : Sess)).last + 7500000 ≤
      vsold.time.beat)) ∧
    ((z.svcFull = false) ∧
     (z.spdmUp .mctp = false ∧ w.spdmUp .mctp = true ∧ w.spdmStage .mctp < 1 ∧ 3 ≤ vst3.spdmStage .mctp ∧
      ({ w with hub := { w.hub with hold := true } } : State).spdmUp (.doe 0) = false ∧ w.sv.sess.find? (fun x => x.id == 1) = none)) :=
  ⟨vst3_inv, vse_inv, vsn_inv, vsm_inv, of_opt (by decide +kernel), vsold_inv, fetched_of (by decide +kernel), w_inv, by decide +kernel, by
      decide +kernel, by decide +kernel, by decide +kernel, by decide +kernel⟩

theorem test_meets_ServiceCommandsAndTheConsole :
    vse.Inv ∧
    (∀ x n, vno.sess 1 = some x → x.nonce = some n → vno.time.beat < n.2 + nonceBeats) ∧
    vcf3.Inv ∧
    vno.Inv ∧
    vcon.Inv ∧
    ((vse.svcUp = true) ∧ (vse.operSess 1 = true) ∧
     (vnoOld.sess 1 = some ((⟨1, true, true, some (5, 1000), 1000, false⟩ : Sess))) ∧ (((⟨1, true, true, some (5, 1000), 1000,
      false⟩ : Sess)).nonce = some (((5, 1000) : Nat × Nat))) ∧ ((((5, 1000) : Nat × Nat)).2 + nonceBeats ≤ vnoOld.time.beat) ∧
     (vse.svcUp = true) ∧ (vse.operSess 1 = true) ∧ (regAddr Blk.PWR 2 = false)) ∧
    ((vse.svcUp = true) ∧ (vse.operSess 1 = true) ∧ (regAddr Blk.PWR 0 = true) ∧
     (vrec.svcUp = true) ∧ (vrec.operSess 1 = true) ∧ (vrec.svcFull = false) ∧
     (vse.svcUp = true) ∧ (vse.operSess 1 = true) ∧ (vse.svcFull = true) ∧ (State.regWriteStatus .a Blk.TEN 0 0 vse ≠ 0)) ∧
    ((vse.svcUp = true) ∧ (vse.operSess 1 = true) ∧ (vse.svcFull = true) ∧ (State.regWriteStatus .a Blk.TST 0 0 vse = 0) ∧
     (vse.svcUp = true) ∧ (vse.operSess 1 = true) ∧ (vse.svcFull = true) ∧ (vse.confirmStatus ≠ 0)) ∧
    ((vcf3.svcUp = true) ∧ (vcf3.operSess 1 = true) ∧ (vcf3.svcFull = true) ∧ (vcf3.confirmStatus = 0) ∧
     (vse.svcUp = true) ∧ (vse.operSess 1 = true) ∧ (false = false ∨ vse.nonceOf 1 = none) ∧
     (vse.svcUp = true) ∧ (vse.operSess 1 = true) ∧ (vse.svcFull = true) ∧ (false = false ∨ vse.nonceOf 1 = none)) ∧
    ((vno.svcUp = true) ∧ (vno.operSess 1 = true) ∧ (vno.svcFull = true) ∧ (vno.nonceOf 1 = some 5) ∧ (vno.revertStatus ≠ 0) ∧
     (vrv.svcUp = true) ∧ (vrv.operSess 1 = true) ∧ (vrv.svcFull = true) ∧ (vrv.nonceOf 1 = some 5) ∧ (vrv.revertStatus = 0)) ∧
    ((vec.svcUp = true) ∧ (vec.operSess 1 = true) ∧ (vec.svcFull = true) ∧ (vec.nonceOf 1 = some 5) ∧ (vec.clearStatus ≠ 0) ∧
     (vno.svcUp = true) ∧ (vno.operSess 1 = true) ∧ (vno.svcFull = true) ∧ (vno.nonceOf 1 = some 5) ∧ (vno.clearStatus = 0)) ∧
    ((vno.svcUp = true) ∧ (vno.operSess 1 = true) ∧ (vno.svcFull = true) ∧ (vno.nonceOf 1 = some 5) ∧ (unlockStatus 3 1 ≠ 0) ∧
     (vno.svcUp = true) ∧ (vno.operSess 1 = true) ∧ (vno.svcFull = true) ∧ (vno.nonceOf 1 = some 5) ∧ (unlockStatus 2 24 = 0)) :=
  ⟨vse_inv, (fun x n hx hn => by cases hx; cases hn; decide), vcf3_inv, vno_inv, vcon_inv, by decide +kernel, by decide +kernel,
      by decide +kernel, by decide +kernel, by decide +kernel, by decide +kernel, by decide +kernel⟩

theorem test_meets_ServiceCommandsAndTheConsole_2 :
    ((vfn.svcUp = true) ∧ (vfn.operSess 1 = true) ∧ (vfn.nonceOf 1 = some 5) ∧ (vfn.hub.fenced = true ∨ vfn.active = none ∨ vfn.beforeRecovery =
      true) ∧
     (vno.svcUp = true) ∧ (vno.operSess 1 = true) ∧ (vno.nonceOf 1 = some 5) ∧ (vno.hub.fenced = false) ∧ (vno.active ≠ none) ∧
      (vno.beforeRecovery = false)) ∧
    ((vse.svcUp = true) ∧ (vse.operSess 1 = true) ∧ (vse.svcFull = true) ∧
     (w.rd Fd.SVC_CONSOLE_LEVEL = 0 ∨ w.time.beat < w.sv.consEnd) ∧
     (vcon.rd Fd.SVC_CONSOLE_LEVEL ≠ 0) ∧ (vcon.sv.consEnd ≤ vcon.time.beat) ∧
     (w.consoleOpen 1 = false ∨ regAddr Blk.PWR 0 = false) ∧
     (vcon2.consoleOpen 1 = true) ∧ (regAddr Blk.PWR 0 = true) ∧
     (w.consoleOpen 2 = false ∨ State.regWriteStatus .a Blk.TST 0 0 w ≠ 0)) ∧
    ((vcon2.consoleOpen 2 = true) ∧ (State.regWriteStatus .a Blk.TST 0 0 vcon2 = 0) ∧
     (w.consoleOpen 1 = false) ∧
     (vcon.consoleOpen 1 = true) ∧
     (w.consoleOpen 1 = false ∧ vcon2.consoleOpen 1 = true ∧ vcon2.consoleOpen 2 = true ∧ regAddr Blk.PWR 0 = true)) :=
  ⟨by decide +kernel, by decide +kernel, by decide +kernel⟩

/-- Headers of zeros, at the top of every range, and above one; settings of a function at the top of every range, and above one. -/
def hz : Hdr := ⟨0, 0, 0, none⟩
def hmax : Hdr := ⟨255, 65535, 65535, some 255⟩
def hbad : Hdr := { hz with fn := 256 }
def cmax : FnCfg := { fnCfgInit with mps := 512, mrrs := 4096, cto := 15 }
def cbad : FnCfg := { fnCfgInit with cto := 16 }

/-- Terms with one operand above its range, which WellFormed refuses (1). -/
theorem test_ill_formed_1 : ([
    .registerWrite 128 .a 0 0 0 0, .registerWrite 0 .a 256 0 0 0, .registerWrite 0 .a 0 65536 0 0, .registerWrite 0 .a 0 0 9 0,
    .registerWrite 0 .a 0 0 0 18446744073709551616, .lowWordRead 128 .a 0 0 0, .lowWordRead 0 .a 256 0 0, .lowWordRead 0 .a 0 65536 0,
    .lowWordRead 0 .a 0 0 9, .schSlackRead .a 8 0, .schSlackRead .a 0 9, .tenMissRead 256 0 0, .tenMissRead 0 8 0, .tenMissRead 0 0 9,
    .medRfsstatRead 8 0, .medRfsstatRead 0 9, .eccCbmaxRead 8 0, .eccCbmaxRead 0 9, .ctgSlotstatRead 16 0 0, .ctgSlotstatRead 0 8 0,
    .ctgSlotstatRead 0 0 9, .pwrPkgRead 8 0, .pwrPkgRead 0 9, .loopUpdate 2, .schEnrollWrite 128 .a 0, .schEnrollWrite 0 .a 4294967296,
    .schDoneSetWrite 128 .a 0 0, .schDoneSetWrite 0 .a 4294967296 0, .schDoneSetWrite 0 .a 0 8000, .planCommit 128 .a 0,
    .planCommit 0 .a 4294967296, .perstDeassert 2 0 0 false, .perstDeassert 0 7 0 false, .perstDeassert 0 0 17 false, .configRequestRetry 2 0 0,
    .configRequestRetry 0 256 0, .configRequestRetry 0 0 4096, .portLinkDown 2, .vfEnable 2 0, .busMasterEnableClear 256,
    .busMasterEnableSet 256 fnCfgInit, .busMasterEnableSet 0 cbad, .flrWrite 256, .flrComplete 256, .sqTailDoorbell 256 0 0,
    .sqTailDoorbell 0 65536 0, .sqTailDoorbell 0 0 4294967296, .cqHeadDoorbell 256 0 0, .cqHeadDoorbell 0 65536 0,
    .cqHeadDoorbell 0 0 4294967296, .ccEnableSet 256 false false 0 0 0 0, .ccEnableSet 0 false false 4096 0 0 0,
    .ccEnableSet 0 false false 0 4096 0 0, .controllerReady 256, .controllerReset 256, .controllerResetComplete 256, .shutdownNotification 256,
    .inboundWindowTlp 256 0 0 0 0 false [] false none, .inboundWindowTlp 0 65536 0 0 0 false [] false none,
    .inboundWindowTlp 0 0 6 0 0 false [] false none, .pmrTlp 256 0 0 0 false [] false, .pmrTlp 0 65536 0 0 false [] false,
    .pmrGranuleRotation 4096, .expansionRomTlp 2 0 0 false, .windowEnableWrite 128 0 0 0, .windowEnableWrite 0 2 0 0,
    .windowEnableWrite 0 0 64 0, .windowEnableWrite 0 0 0 4294967296, .tagbudWrite 128 0 0, .tagbudWrite 0 256 0] : List Instr).all (fun i => !i.wf) = true := by decide +kernel

/-- Terms with one operand above its range, which WellFormed refuses (2). -/
theorem test_ill_formed_2 : ([
    .tagbudWrite 0 0 4294967296, .contextBudgetWrite 128 0 0, .contextBudgetWrite 0 256 0, .contextBudgetWrite 0 0 4294967296,
    .splitAllWrite 128 0, .splitAllWrite 0 4294967296, .completionTimeout 2 0, .quarantineEnd 2 0, .doeSpdmRequest 2 0, .doeSpdmRequest 0 256,
    .writeCommand hz 4294967296 0 0 noXfer, .writeCommand hz 0 0 65537 noXfer, .writeCommand hbad 0 0 0 noXfer,
    .readCommand hz 4294967296 0 0 noXfer, .readCommand hz 0 0 65537 noXfer, .readCommand hbad 0 0 0 noXfer,
    .compareCommand hz 4294967296 0 0 noXfer, .compareCommand hz 0 0 65537 noXfer, .compareCommand hbad 0 0 0 noXfer,
    .verifyCommand hz 4294967296 0 0, .verifyCommand hz 0 0 65537, .verifyCommand hbad 0 0 0, .writeZeroesCommand hz 4294967296 0 0,
    .writeZeroesCommand hz 0 0 65537, .writeZeroesCommand hbad 0 0 0, .datasetManagementCommand hz 4294967296 [] false,
    .datasetManagementCommand hbad 0 [] false, .flushCommand hz 4294967296, .flushCommand hbad 0, .flushCompletion hbad,
    .deleteIoSubmissionQueue hz 65536, .deleteIoSubmissionQueue hbad 0, .createIoSubmissionQueue hz 65536 0 0 0 0 false,
    .createIoSubmissionQueue hz 0 65536 0 0 0 false, .createIoSubmissionQueue hz 0 0 65536 0 0 false,
    .createIoSubmissionQueue hz 0 0 0 4 0 false, .createIoSubmissionQueue hbad 0 0 0 0 0 false, .deleteIoCompletionQueue hz 65536,
    .deleteIoCompletionQueue hbad 0, .createIoCompletionQueue hz 65536 0 0 0, .createIoCompletionQueue hz 0 65536 0 0,
    .createIoCompletionQueue hz 0 0 65536 0, .createIoCompletionQueue hbad 0 0 0 0, .getLogPage hz 4294967296 0 0 0 false,
    .getLogPage hz 0 256 0 0 false, .getLogPage hz 0 0 0 65536 false, .getLogPage hbad 0 0 0 0 false, .identify hz 256 0,
    .identify hz 0 4294967296, .identify hbad 0 0, .abort hbad 0 0, .setFeatures hz 256 0, .setFeatures hz 0 4294967296, .setFeatures hbad 0 0,
    .getFeatures hz 256, .getFeatures hbad 0, .asynchronousEventRequest hbad, .namespaceManagement hz 16 0 0 0 0 false,
    .namespaceManagement hz 0 4294967296 0 0 0 false, .namespaceManagement hz 0 0 16 0 0 false, .namespaceManagement hz 0 0 0 0 8 false,
    .namespaceManagement hbad 0 0 0 0 0 false, .namespaceAttachment hz 0 4294967296 [], .namespaceAttachment hbad 0 0 [],
    .formatNvm hz 4294967296 0 0 0 false, .formatNvm hz 0 16 0 0 false, .formatNvm hz 0 0 8 0 false, .formatNvm hz 0 0 0 8 false,
    .formatNvm hbad 0 0 0 0 false, .securitySend hz 0 256] : List Instr).all (fun i => !i.wf) = true := by decide +kernel

/-- Terms with one operand above its range, which WellFormed refuses (3). -/
theorem test_ill_formed_3 : ([
    .securitySend hbad 0 0, .securityReceive hbad 0, .sanitize hbad 0, .gcVictimSelect 4, .gcPlanShift 4 [], .eraseIntentWritten 1024 0,
    .eraseIntentWritten 0 256, .eraseComplete 1024 0 false, .eraseComplete 0 256 false, .erasedMarginReadResult 1024 0 [],
    .erasedMarginReadResult 0 256 [], .eraseDoneWritten 1024 0, .eraseDoneWritten 0 256, .suspendAcknowledged 1024, .slotPresenceDebounce 16,
    .slotPowerFault 16, .buttonPress 16 false, .reqon 128 0, .reqon 0 16, .reqoff 128 0, .reqoff 0 16, .cancel 128 0, .cancel 0 16,
    .slotPowerGood 16, .powerGoodTimeout 16, .slotTrainingStart 16, .slotTrainingDone 16 none none [], .abortWindowEnd 16, .slotPowerOff 16,
    .surpriseRemoval 16 0, .scrubGo 128 0, .scrubGo 0 4294967296, .scrubCancel 128, .toManual 128 0 0 0, .toManual 0 1024 0 0,
    .toManual 0 0 16 0, .toManual 0 0 0 8000, .setMan 128 0 0 0, .setMan 0 1024 0 0, .setMan 0 0 16 0, .setMan 0 0 0 8000, .toAuto 128 0 0 0,
    .toAuto 0 1024 0 0, .toAuto 0 0 16 0, .toAuto 0 0 0 8000, .read 128 0 0 0, .read 0 1024 0 0, .read 0 0 16 0, .read 0 0 0 8000,
    .clear 128 0 0 0, .clear 0 1024 0 0, .clear 0 0 16 0, .clear 0 0 0 8000, .loopAlarm 1024 0, .loopAlarm 0 16, .loopRearm 1024 0,
    .loopRearm 0 16, .dramRequestArrival 6 false 0 false .a false, .dramRefresh 0 16, .deviceMarkedFailed 16 0, .deviceMarkedFailed 0 16,
    .rowRepairQueued 16 0 0 0 false, .rowRepairQueued 0 16 0 0 false, .rowRepairQueued 0 0 32 0 false, .rowRepairQueued 0 0 0 262144 false,
    .dramScrubGo 128 0, .dramScrubGo 0 4294967296, .dramScrubCancel 128, .helperGo 128 0, .helperGo 0 4294967296] : List Instr).all (fun i => !i.wf) = true := by decide +kernel

/-- Terms with one operand above its range, which WellFormed refuses (4). -/
theorem test_ill_formed_4 : ([
    .modeRegisterWrite 128 0 0 0 0, .modeRegisterWrite 0 256 0 0 0, .modeRegisterWrite 0 0 0 16 0, .modeRegisterWrite 0 0 0 0 16,
    .modeRegisterRead 128 0 0 0, .modeRegisterRead 0 256 0 0, .modeRegisterRead 0 0 16 0, .modeRegisterRead 0 0 0 16, .flipArm 128 0,
    .flipArm 0 4294967296, .alloc .a 128 0 false 0 0, .alloc .a 0 4 false 0 0, .alloc .a 0 0 false 256 0, .alloc .a 0 0 false 0 4,
    .share .a 128 0, .share .a 0 128, .free .a 128, .query .a 128, .controlFault .a 0 6, .dataPathFault .a 6 none, .drillNow 128, .restore 128,
    .chimeSend .a 128 0 0, .chimeSend .a 0 32 0, .chimeAck .a 128 0 false, .chimeAck .a 0 32 false, .lockRead .a 128 0, .lockRead .a 0 64,
    .lockRelease .a 128 0 0, .lockRelease .a 0 64 0, .lockRelease .a 0 0 4294967296, .semForce .a 128 0, .semForce .a 0 4294967296,
    .programRun 128 0, .erase 128, .powerOnReset 7 0, .powerOnReset 0 9, .entdaa 128, .setdasa 128, .setnewda 128, .setmwl 65536, .setmrl 65536,
    .setEndpointId 256, .settid 256, .getCertificate .mctp 8, .challenge .mctp 8, .regRead 0 .a 256 0, .regRead 0 .a 0 65536,
    .regWrite 0 .a 256 0 0, .regWrite 0 .a 0 65536 0, .regWrite 0 .a 0 0 4294967296, .consoleUnlock 0 false 3 0, .consoleUnlock 0 false 0 25,
    .consoleRegisterRead .a 256 0, .consoleRegisterRead .a 0 65536, .consoleRegisterWrite .a 256 0 0, .consoleRegisterWrite .a 0 65536 0,
    .consoleRegisterWrite .a 0 0 4294967296, .eventSubmit .a 128 0 0, .eventSubmit .a 0 128 0, .eventSubmit .a 0 0 65536, .snapshotGo 128 0,
    .snapshotGo 0 4294967296, .testGo 128 0, .testGo 0 4294967296, .testStop 128, .supplyTrip 9 0, .domainRequest 128 .a 0 0,
    .domainRequest 0 .a 72 0, .domainRequest 0 .a 0 4294967296] : List Instr).all (fun i => !i.wf) = true := by decide +kernel

/-- Terms with one operand above its range, which WellFormed refuses (5). -/
theorem test_ill_formed_5 : ([
    .slotPresenceLoss 16, .powerGoodLoss 16, .cartridgeInsertion 16, .checkerLock 64, .checkerLockLoss 64] : List Instr).all (fun i => !i.wf) = true := by decide +kernel

/-- Terms with every operand at the top of its range, which WellFormed accepts (1). -/
theorem test_well_formed_1 : ([
    .registerWrite 127 .a 255 65535 8 18446744073709551615, .lowWordRead 127 .a 255 65535 8, .schSlackRead .a 7 8, .tenMissRead 255 7 8,
    .medRfsstatRead 7 8, .eccCbmaxRead 7 8, .ctgSlotstatRead 15 7 8, .pwrPkgRead 7 8, .loopUpdate 1, .schEnrollWrite 127 .a 4294967295,
    .schDoneSetWrite 127 .a 4294967295 7999, .planCommit 127 .a 4294967295, .perstDeassert 1 6 16 false, .configRequestRetry 1 255 4095,
    .portLinkDown 1, .vfEnable 1 0, .busMasterEnableClear 255, .busMasterEnableSet 255 cmax, .flrWrite 255, .flrComplete 255,
    .sqTailDoorbell 255 65535 4294967295, .cqHeadDoorbell 255 65535 4294967295, .ccEnableSet 255 false false 4095 4095 0 0, .controllerReady 255,
    .controllerReset 255, .controllerResetComplete 255, .shutdownNotification 255, .inboundWindowTlp 255 65535 5 0 0 false [] false none,
    .pmrTlp 255 65535 0 0 false [] false, .pmrGranuleRotation 4095, .expansionRomTlp 1 0 0 false, .windowEnableWrite 127 1 63 4294967295,
    .tagbudWrite 127 255 4294967295, .contextBudgetWrite 127 255 4294967295, .splitAllWrite 127 4294967295, .completionTimeout 1 0,
    .quarantineEnd 1 0, .doeSpdmRequest 1 255, .writeCommand hmax 4294967295 0 65536 noXfer, .readCommand hmax 4294967295 0 65536 noXfer,
    .compareCommand hmax 4294967295 0 65536 noXfer, .verifyCommand hmax 4294967295 0 65536, .writeZeroesCommand hmax 4294967295 0 65536,
    .datasetManagementCommand hmax 4294967295 [] false, .flushCommand hmax 4294967295, .flushCompletion hmax,
    .deleteIoSubmissionQueue hmax 65535, .createIoSubmissionQueue hmax 65535 65535 65535 3 0 false, .deleteIoCompletionQueue hmax 65535,
    .createIoCompletionQueue hmax 65535 65535 65535 0, .getLogPage hmax 4294967295 255 0 65535 false, .identify hmax 255 4294967295,
    .abort hmax 0 0, .setFeatures hmax 255 4294967295, .getFeatures hmax 255, .asynchronousEventRequest hmax,
    .namespaceManagement hmax 15 4294967295 15 0 7 false, .namespaceAttachment hmax 0 4294967295 [], .formatNvm hmax 4294967295 15 7 7 false,
    .securitySend hmax 0 255, .securityReceive hmax 0, .sanitize hmax 0, .gcVictimSelect 3, .gcPlanShift 3 [], .eraseIntentWritten 1023 255,
    .eraseComplete 1023 255 false, .erasedMarginReadResult 1023 255 [], .eraseDoneWritten 1023 255, .suspendAcknowledged 1023,
    .slotPresenceDebounce 15] : List Instr).all (fun i => i.wf) = true := by decide +kernel

/-- Terms with every operand at the top of its range, which WellFormed accepts (2). -/
theorem test_well_formed_2 : ([
    .slotPowerFault 15, .buttonPress 15 false, .reqon 127 15, .reqoff 127 15, .cancel 127 15, .slotPowerGood 15, .powerGoodTimeout 15,
    .slotTrainingStart 15, .slotTrainingDone 15 none none [], .abortWindowEnd 15, .slotPowerOff 15, .surpriseRemoval 15 0,
    .scrubGo 127 4294967295, .scrubCancel 127, .toManual 127 1023 15 7999, .setMan 127 1023 15 7999, .toAuto 127 1023 15 7999,
    .read 127 1023 15 7999, .clear 127 1023 15 7999, .loopAlarm 1023 15, .loopRearm 1023 15, .dramRequestArrival 5 false 0 false .a false,
    .dramRefresh 0 15, .deviceMarkedFailed 15 15, .rowRepairQueued 15 15 31 262143 false, .dramScrubGo 127 4294967295, .dramScrubCancel 127,
    .helperGo 127 4294967295, .modeRegisterWrite 127 255 0 15 15, .modeRegisterRead 127 255 15 15, .flipArm 127 4294967295,
    .alloc .a 127 3 false 255 3, .share .a 127 127, .free .a 127, .query .a 127, .controlFault .a 0 5, .dataPathFault .a 5 none, .drillNow 127,
    .restore 127, .chimeSend .a 127 31 0, .chimeAck .a 127 31 false, .lockRead .a 127 63, .lockRelease .a 127 63 4294967295,
    .semForce .a 127 4294967295, .programRun 127 0, .erase 127, .powerOnReset 6 8, .entdaa 127, .setdasa 127, .setnewda 127, .setmwl 65535,
    .setmrl 65535, .setEndpointId 255, .settid 255, .getCertificate .mctp 7, .challenge .mctp 7, .regRead 0 .a 255 65535,
    .regWrite 0 .a 255 65535 4294967295, .consoleUnlock 0 false 2 24, .consoleRegisterRead .a 255 65535,
    .consoleRegisterWrite .a 255 65535 4294967295, .eventSubmit .a 127 127 65535, .snapshotGo 127 4294967295, .testGo 127 4294967295,
    .testStop 127, .supplyTrip 8 0, .domainRequest 127 .a 71 4294967295, .slotPresenceLoss 15, .powerGoodLoss 15, .cartridgeInsertion 15] : List Instr).all (fun i => i.wf) = true := by decide +kernel

/-- Terms with every operand at the top of its range, which WellFormed accepts (3). -/
theorem test_well_formed_3 : ([
    .checkerLock 63, .checkerLockLoss 63] : List Instr).all (fun i => i.wf) = true := by decide +kernel

/-- The checks of a header and of a function's settings. -/
theorem test_header_checks :
    ([hbad, { hz with sq := 65536 }, { hz with cid := 65536 }, { hz with op := some 256 }].all (fun h => !(Instr.flushCompletion h).wf)) = true ∧
    ([{ cmax with mps := 513 }, { cmax with mrrs := 4097 }, cbad].all (fun c => !(Instr.busMasterEnableSet 0 c).wf)) = true := by
  decide +kernel

/-! Examples read from the manual's tables and rules. -/

/-- The data of a read of one word by the service port. -/
def word (s : State) (b off : Nat) : Nat := (s.readReg .a 96 b off 0 4).1

/-- What an answer says of the next state. -/
def after (o : Host.Outcome State Fault Refusal) (p : State → Bool) : Bool :=
  match o with
  | .next t => p t
  | _ => false

/-- The reset values of the field tables of SAF_CFG, CTG_CFG, LDG_CFG, BTA_CAP, BTA_REPAIR and BTA_BUF. -/
theorem test_reset_words :
    word z Blk.SAF 0x0C = 0x00A41031 ∧ word z Blk.CTG 4 / 256 = 0x326464 ∧ word z Blk.LDG 4 = 0x4B8018 ∧ word z Blk.BTA 0 = 0x0201 ∧
    word z Blk.BTA 0x18 = 0x00FEFE00 ∧ word z Blk.BTA 0x2FC = 0xFFFFFFFF := by
  decide +kernel

/-- R431: the reader of a free lock holds it; ACQUIRED is bit 0, HELD bit 1, HOLDER bits 14:8. -/
theorem test_lock_taken :
    after (exec (.lockRead .a 9 63) z) (fun t => t.readData == 0x903 && t.lockHolder .a 63 == some 9 &&
      after (exec (.lockRead .a 0 63) t) (fun u => u.readData == 0x902 && u.rd Fd.SEM_CNT_CONTEND_COUNT 0 .a == 1)) = true := by
  decide +kernel

/-- R426: a message enters the empty channel, and a second one is refused. -/
theorem test_chime_full :
    after (exec (.chimeSend .b 1 1 0) z) (fun t => (t.channel .b 1 0).full &&
      after (exec (.chimeSend .b 1 1 0) t) (fun u => u.rd Fd.CHM_CNT_FULL_COUNT 1 .b == 1)) = true := by
  decide +kernel

/-- R45: a boundary begins the next beat. -/
theorem test_beat : after (exec (.beatBoundary 0 0 []) z) (fun t => t.time == ⟨1, 0⟩) = true := by decide +kernel

/-- Chapter 04, error table: a doorbell value at or above the queue size is ignored. -/
theorem test_doorbell :
    after (exec (.sqTailDoorbell 0 1 15) w) (fun t => t.nv.sqs.any (fun q => q.qid == 1 && q.tail == 15)) = true ∧
    after (exec (.sqTailDoorbell 0 1 16) w) (fun t => t.nv.sqs.any (fun q => q.qid == 1 && q.tail == 2)) = true := by
  decide +kernel

/-- R4: the variant code of the FK9640, in word 1 of the option area as manufacture leaves it (R451). -/
theorem test_variant_code : z.optVariant = 0x40 ∧ [Variant.fk9640, .fk9620, .fk9612].map variantCode = [0x40, 0x20, 0x12] := by decide +kernel

end Sys2Proof.Tests
end

section
/-! SUPPORT. Plain register reads and the shadow of a high word (R11, R12). -/

namespace Sys2Proof.Proofs

open Sys2Proof Sys2Proof.Machine Sys2Proof.Laws

/-! ### The rows of a block -/

/-- The row found at an offset is one of the rows searched. -/
theorem mem_of_findRow {rows : List RegRow} {off i : Nat} {row : RegRow} (hf : findRow rows off = some (row, i)) :
    row ∈ rows := by
  induction rows with
  | nil => cases hf
  | cons r t ih =>
    have tail (h : findRow t off = some (row, i)) : row ∈ r :: t := List.mem_cons_of_mem r (ih h)
    simp only [findRow] at hf
    split at hf <;> split at hf
    · cases hf; exact List.mem_cons_self
    · exact tail hf
    · cases hf; exact List.mem_cons_self
    · exact tail hf

/-- The rows of block `b` are registers of block `b`. -/
theorem blk_of_mem_regRows {b : Nat} {row : RegRow} (hr : row ∈ regRows b) : row.reg.blk = b := by
  revert row
  unfold regRows
  split
  case h_24 => exact fun hr => absurd hr List.not_mem_nil
  all_goals decide

theorem blk_of_findRow {b off i : Nat} {row : RegRow} (hf : findRow (regRows b) off = some (row, i)) : row.reg.blk = b :=
  blk_of_mem_regRows (mem_of_findRow hf)

/-- No 64-bit quantity lies in the lock block. -/
theorem blk_ne_sem_of_lowWord {r : Reg} {i : Nat} (hl : lowWord r i = true) : r.blk ≠ Blk.SEM := by
  intro hb
  have ne (q : Reg) (hq : q.blk ≠ Blk.SEM) : r ≠ q := fun e => hq (e ▸ hb)
  simp (disch := decide) [lowWord, ne] at hl

theorem ne_semLock_of_findRow {b off i : Nat} {row : RegRow} (hf : findRow (regRows b) off = some (row, i))
    (hb : b ≠ Blk.SEM) : row.reg ≠ Reg.SEM_LOCK := by
  intro e
  exact hb ((blk_of_findRow hf).symm.trans (congrArg Reg.blk e))

/-! ### An aligned read of one word -/

theorem exec_lowWordRead (m : Nat) (h : Half) (b off width : Nat) (s : State) :
    exec (.lowWordRead m h b off width) s = .next (s.readAt h m b off width) := rfl

/-- Four aligned bytes are one read of their register (R14). -/
theorem readAt_word (s : State) (h : Half) (m b : Nat) {off : Nat} (ha : off % 4 = 0) :
    s.readAt h m b off 4 =
      { (s.readReg h m b off 0 4).2 with readData := (s.readReg h m b off 0 4).1 % 2 ^ 32 } := by
  have start : 4 * (off / 4) = off := by omega
  have count : (off + 4 - 1) / 4 - off / 4 + 1 = 1 := by omega
  have word : State.readWord h m b off 4 (0, s) (off / 4) =
      ((s.readReg h m b off 0 4).1 % 2 ^ 32, (s.readReg h m b off 0 4).2) := by
    simp [State.readWord, start]
  rw [State.readAt, if_neg (by decide), count]
  simp only [List.range'_one, List.foldl_cons, List.foldl_nil, word]

/-- A read of a present register that is no lock, by a master that it answers, is a plain read. -/
theorem readReg_eq_readPlain {s : State} {h : Half} {m b off i : Nat} {row : RegRow} (byte n : Nat)
    (hf : findRow (regRows b) off = some (row, i)) (hp : regAbsent s.variant h b row.reg i = false)
    (hl : row.reg ≠ Reg.SEM_LOCK) (hm : b = Blk.CHM → m < 2 ∨ m = endpointMaster i) :
    s.readReg h m b off byte n = s.readPlain h m b off row i byte n := by
  have hc : ¬(b = Blk.CHM ∧ 0x100 ≤ row.reg.off ∧ m ≠ endpointMaster i ∧ 2 ≤ m) := by
    rintro ⟨hb, -, hne, h2⟩
    rcases hm hb with hlt | he
    · omega
    · exact hne he
  simp [State.readReg, hf, hp, hl, hc]

/-! ### The shadow of a high word (R12) -/

@[simp] theorem clearRc_hi (s : State) (h : Half) (b off : Nat) (row : RegRow) (i byte n : Nat) :
    (s.clearRc h b off row i byte n).hi = s.hi :=
  (ev_clearRc (ev_refl 0x8002 s) h b off row i byte n rfl).only .hi rfl

/-- A shadow, once written, is held; it is stored as its word plus one, so it is never the default. -/
theorem shadow_of_capture (hi : Sparse Nat) (k v : Nat) :
    spGet (fun _ => 0) (spSet (fun _ => 0) hi k (v + 1)) k = v + 1 := by
  rw [spSet, if_neg (Nat.succ_ne_zero v), spGet_spInsert_same]

/-- Without a shadow of its own a register reads as it stands. -/
theorem readPlain_fst_of_no_shadow {s : State} {h : Half} {m b off : Nat} (row : RegRow) (i byte n : Nat)
    (h0 : spGet (fun _ => 0) s.hi (hiKey h m b off) = 0) :
    (s.readPlain h m b off row i byte n).1 = (s.view h b off).toNat := by
  simp [State.readPlain, h0]

/-- A read of a low word captures the word above it for the master that reads. -/
theorem readPlain_hi_of_lowWord {s : State} {h : Half} {m b off i : Nat} {row : RegRow} (byte n : Nat)
    (h0 : spGet (fun _ => 0) s.hi (hiKey h m b off) = 0) (hl : lowWord row.reg i = true) :
    (s.readPlain h m b off row i byte n).2.hi =
      spSet (fun _ => 0) s.hi (hiKey h m b (off + 4)) ((s.view h b (off + 4)).toNat + 1) := by
  simp [State.readPlain, h0, hl]

/-- A register with a shadow reads as its shadow. -/
theorem readPlain_fst_of_shadow {s : State} {h : Half} {m b off v : Nat} (row : RegRow) (i byte n : Nat)
    (hv : spGet (fun _ => 0) s.hi (hiKey h m b off) = v + 1) :
    (s.readPlain h m b off row i byte n).1 = v := by
  simp [State.readPlain, hv]

/-- Settles O8: the low word's read stores the high word in the shadow of the master that reads, and that master's next read of the
high word finds the shadow; both registers read plainly, as no 64-bit quantity lies among the locks. -/
theorem lowWordReadHoldsTheHighWord : Obligations.LowWordReadHoldsTheHighWord := by
  unfold Obligations.LowWordReadHoldsTheHighWord
  intro s m h b off row row' i j ha hf hl hf' hp hp' hm h0
  have hb : b ≠ Blk.SEM := fun e => blk_ne_sem_of_lowWord hl ((blk_of_findRow hf).trans e)
  have low : s.readReg h m b off 0 4 = s.readPlain h m b off row i 0 4 :=
    readReg_eq_readPlain 0 4 hf hp (ne_semLock_of_findRow hf hb) (fun e => (hm e).imp_right And.left)
  refine ⟨_, exec_lowWordRead .., ?_, fun u hu hv => ⟨_, exec_lowWordRead .., ?_⟩⟩
  · rw [readAt_word s h m b ha, low, readPlain_fst_of_no_shadow row i 0 4 h0]
    exact Nat.mod_eq_of_lt (s.view h b off).isLt
  · have high : u.readReg h m b (off + 4) 0 4 = u.readPlain h m b (off + 4) row' j 0 4 :=
      readReg_eq_readPlain 0 4 hf' (hv ▸ hp') (ne_semLock_of_findRow hf' hb) (fun e => (hm e).imp_right And.right)
    have captured : spGet (fun _ => 0) u.hi (hiKey h m b (off + 4)) = (s.view h b (off + 4)).toNat + 1 := by
      rw [hu, readAt_word s h m b ha, low]
      exact (congrArg (spGet _ · _) (readPlain_hi_of_lowWord 0 4 h0 hl)).trans (shadow_of_capture ..)
    rw [readAt_word u h m b (by omega), high, readPlain_fst_of_shadow row' j 0 4 captured]
    exact Nat.mod_eq_of_lt (s.view h b (off + 4)).isLt

end Sys2Proof.Proofs
end

section
/-! SUPPORT. Done flags as they are set, the enrolled units, and the writes of SCH_ENROLL, SCH_DONE_SET and SCH_PLAN_CTRL
(R48, R49, R60). -/

namespace Sys2Proof.Proofs

open Sys2Proof Sys2Proof.Machine Sys2Proof.Laws

variable {s : State} {h : Half}

/-! ### Done flags (R48) -/

@[simp] theorem half_updHalf (s : State) (h : Half) (f : HalfRec → HalfRec) : (s.updHalf h f).half h = f (s.half h) := by
  cases h <;> rfl

theorem doneCycle_append (l r : List (Nat × Nat)) (n : Nat) :
    doneCycle (l ++ r) n = (doneCycle l n).or (doneCycle r n) := by
  simp [doneCycle, Option.map_or]

/-- Flags that are set at one cycle. -/
theorem doneCycle_map_const (ns : List Nat) (c n : Nat) :
    doneCycle (ns.map (fun k => (k, c))) n = if n ∈ ns then some c else none := by
  induction ns with
  | nil => rfl
  | cons k ns ih =>
    rw [List.map_cons, ← List.singleton_append, doneCycle_append, ih]
    by_cases hk : k = n
    · simp [doneCycle, hk]
    · simp [doneCycle, hk, Ne.symm hk]

/-- Every flag keeps the cycle at which it was first set, in the beat so far and in the list. -/
theorem doneCycle_setDones (s : State) (h : Half) (l : List (Nat × Nat)) (n : Nat) :
    doneCycle ((s.setDones h l).half h).dones n = (doneCycle (s.half h).dones n).or (doneCycle l n) := by
  induction l generalizing s with
  | nil => exact (Option.or_none ..).symm
  | cons p l ih =>
    refine (ih _).trans ?_
    rw [← List.singleton_append, doneCycle_append, ← Option.or_assoc]
    congr 1
    dsimp only
    split
    · next hset =>
      by_cases hp : p.1 = n
      · rw [← hp, Option.or_of_isSome hset]
      · simp [doneCycle, hp]
    · rw [half_updHalf, doneCycle_append]

/-- A write of SCH_DONE_SET sets the clear flags of the firmware units that are present and named. -/
theorem doneCycle_doneWrite (s : State) (h : Half) (val cyc n : Nat) :
    doneCycle ((s.doneWrite h val cyc).half h).dones n = (doneCycle (s.half h).dones n).or
      (if n < 18 ∧ firmwareUnit n = true ∧ unitPresent s.variant n = true ∧ bit val n = true then some cyc else none) := by
  rw [State.doneWrite, doneCycle_setDones, doneCycle_map_const]
  simp [and_assoc]

/-! ### Enrolled units (R49) -/

theorem mem_enrolled {n : Nat} : n ∈ s.enrolled h ↔
    n < 18 ∧ unitPresent s.variant n = true ∧ (15 ≤ n ∨ bit (s.rd Fd.SCH_ENROLL_UNIT 0 h) n = true) := by
  simp [State.enrolled]

/-- Units 15 to 17 are present in every variant (R70). -/
theorem unitPresent_of_fixed (v : Variant) {n : Nat} (hn : 15 ≤ n) (hn' : n < 18) : unitPresent v n = true := by
  cases v <;> simp [unitPresent] <;> omega

theorem enrollOpen_iff : s.enrollOpen = true ↔ s.hub.linkOn = false ∨ s.rd Fd.QUE_ACT_STATE = 2 := by
  simp [State.enrollOpen]

theorem enrollWrite_of_open (m val : Nat) (ho : s.enrollOpen = true) :
    s.enrollWrite m h val = s.wr Fd.SCH_ENROLL_UNIT val 0 h := if_pos ho

theorem enrollWrite_of_closed (m val : Nat) (hl : s.hub.linkOn = true) (ha : s.rd Fd.QUE_ACT_STATE ≠ 2) :
    s.enrollWrite m h val = s.discarded h m Blk.SCH Reg.SCH_ENROLL.off val :=
  if_neg (by simp [enrollOpen_iff, hl, ha])

/-! ### A write of SCH_PLAN_CTRL (R60) -/

/-- The write of PLAN_ID, then that of COMMIT where its bit is 1. -/
theorem planWrite_eq (s : State) (h : Half) (val : Nat) : s.planWrite h val =
    (s.wr Fd.SCH_PLAN_CTRL_PLAN_ID (val / 2 ^ 16) 0 h).when (bit val 0) (fun t => t.wr Fd.SCH_PLAN_CTRL_COMMIT 1 0 h) := rfl

theorem rd_planId_planWrite (hs : s.regsWf) (h : Half) (val : Nat) :
    (s.planWrite h val).rd Fd.SCH_PLAN_CTRL_PLAN_ID 0 h = val / 2 ^ 16 % 2 ^ 16 := by
  have planId := rd_wr_same hs Fd.SCH_PLAN_CTRL_PLAN_ID (val / 2 ^ 16) 0 h (by decide)
  rw [planWrite_eq]
  cases bit val 0
  · exact planId
  · exact (rd_wr_field (regsWf_wr hs ..) Fd.SCH_PLAN_CTRL_COMMIT Fd.SCH_PLAN_CTRL_PLAN_ID 1 0 0 h rfl rfl (by decide)
      (by decide)).trans planId

theorem rd_commit_planWrite (hs : s.regsWf) (h : Half) (val : Nat) :
    (s.planWrite h val).rd Fd.SCH_PLAN_CTRL_COMMIT 0 h = if bit val 0 then 1 else s.rd Fd.SCH_PLAN_CTRL_COMMIT 0 h := by
  rw [planWrite_eq]
  cases bit val 0
  · exact rd_wr_field hs Fd.SCH_PLAN_CTRL_PLAN_ID Fd.SCH_PLAN_CTRL_COMMIT _ 0 0 h rfl rfl (by decide) (by decide)
  · exact rd_wr_same (regsWf_wr hs ..) Fd.SCH_PLAN_CTRL_COMMIT 1 0 h (by decide)

theorem regsBut_planWrite (s : State) (h : Half) (val : Nat) :
    s.RegsBut [keyOf Fd.SCH_PLAN_CTRL_COMMIT 0 h] (s.planWrite h val) := by
  have planId : s.RegsBut [keyOf Fd.SCH_PLAN_CTRL_COMMIT 0 h] (s.wr Fd.SCH_PLAN_CTRL_PLAN_ID (val / 2 ^ 16) 0 h) :=
    regsBut_wr (regsBut_refl _ s) _ _ _ _ (mem_keys_head rfl ..)
  rw [planWrite_eq]
  cases bit val 0
  · exact planId
  · exact regsBut_wr planId _ _ _ _ (mem_keys_head rfl ..)

/-! ### The commands -/

theorem exec_schEnrollWrite (m : Nat) (h : Half) (val : Nat) (s : State) :
    exec (.schEnrollWrite m h val) s = .next (if halfPresent s.variant h then s.enrollWrite m h val else s) := rfl

theorem exec_schDoneSetWrite (m : Nat) (h : Half) (val cyc : Nat) (s : State) :
    exec (.schDoneSetWrite m h val cyc) s = .next (if halfPresent s.variant h then
      { s with time := { s.time with cycle := cyc } }.doneWrite h val cyc else s) := rfl

theorem exec_planCommit (m : Nat) (h : Half) (val : Nat) (s : State) :
    exec (.planCommit m h val) s = .next (if halfPresent s.variant h then s.planWrite h val else s) := rfl

/-- SCH_ENROLL changes while it is open to writes (R49). -/
theorem schEnrollWrite_of_open (m val : Nat) (hs : s.regsWf) (hp : halfPresent s.variant h = true) (ho : s.enrollOpen = true) :
    s.Answers (.schEnrollWrite m h val) (fun t => s.Sets t Fd.SCH_ENROLL_UNIT val 0 h ∧
      s.RegsBut [keyOf Fd.SCH_ENROLL_UNIT 0 h] t ∧ s.OnlyIn [.regs] t) := by
  refine ⟨_, exec_schEnrollWrite .., ?_⟩
  rw [if_pos hp, enrollWrite_of_open m val ho]
  exact ⟨sets_wr hs .., regsBut_wr (regsBut_refl _ s) _ _ _ _ List.mem_cons_self, ev_only (ev_wr (ev_refl 0x2 s) _ _ _ _ rfl) rfl⟩

/-- At any other time its write is discarded and recorded (R49). -/
theorem schEnrollWrite_of_closed (m val : Nat) (hp : halfPresent s.variant h = true) (hl : s.hub.linkOn = true)
    (ha : s.rd Fd.QUE_ACT_STATE ≠ 2) : s.Answers (.schEnrollWrite m h val) (fun t =>
      s.Records t (halfSrc h) 0x80 (Blk.SCH * 256) [Reg.SCH_ENROLL.off, val, m, 0] ∧ s.RegsBut eventKeys t ∧
      s.OnlyIn [.regs, .evt] t) := by
  refine ⟨_, exec_schEnrollWrite .., ?_⟩
  rw [if_pos hp, enrollWrite_of_closed m val hl ha]
  exact ⟨discarded_records s h m Blk.SCH _ val, discarded_regsBut s h m _ _ val, ev_only (ev_discarded (ev_refl 0x22 s) _ _ _ _ _ rfl) rfl⟩

theorem schDoneSetWrite_of_present (m val cyc n : Nat) (hp : halfPresent s.variant h = true) :
    s.Answers (.schDoneSetWrite m h val cyc) (fun t =>
      doneCycle (t.half h).dones n = (doneCycle (s.half h).dones n).or
        (if n < 18 ∧ firmwareUnit n = true ∧ unitPresent s.variant n = true ∧ bit val n = true then some cyc else none) ∧
      s.OnlyIn [.time, .hub] t) := by
  refine ⟨_, exec_schDoneSetWrite .., ?_, ev_only (ev_execSchDoneSetWrite (ev_refl 0x101 s) m h val cyc _ rfl rfl) rfl⟩
  rw [if_pos hp]
  exact doneCycle_doneWrite ..

theorem planCommit_of_present (m val : Nat) (hs : s.regsWf) (hp : halfPresent s.variant h = true) :
    s.Answers (.planCommit m h val) (fun t => t.rd Fd.SCH_PLAN_CTRL_PLAN_ID 0 h = val / 2 ^ 16 % 2 ^ 16 ∧
      t.rd Fd.SCH_PLAN_CTRL_COMMIT 0 h = (if bit val 0 then 1 else s.rd Fd.SCH_PLAN_CTRL_COMMIT 0 h) ∧
      s.RegsBut [keyOf Fd.SCH_PLAN_CTRL_COMMIT 0 h] t ∧ s.OnlyIn [.regs] t) := by
  refine ⟨_, exec_planCommit .., ?_⟩
  rw [if_pos hp]
  exact ⟨rd_planId_planWrite hs h val, rd_commit_planWrite hs h val, regsBut_planWrite s h val,
    ev_only (ev_planWrite (ev_refl 0x2 s) h val rfl) rfl⟩

/-- Settles O13: each command is its one write where the half is present; a done flag that is set keeps its cycle, and COMMIT and
PLAN_ID are fields apart in one register. -/
theorem enrolmentChangesOnlyWhenOpen : Obligations.EnrolmentChangesOnlyWhenOpen := by
  unfold Obligations.EnrolmentChangesOnlyWhenOpen
  refine ⟨?writable, ?closed, ?fixed, ?byBit, ?done, ?plan, ?absent⟩
  case writable => exact fun s m h val hs hp ho => schEnrollWrite_of_open m val hs.regs hp (enrollOpen_iff.mpr ho)
  case closed => exact fun s m h val hp hl ha => schEnrollWrite_of_closed m val hp hl ha
  case fixed => exact fun s h n hn hn' => mem_enrolled.mpr ⟨hn', unitPresent_of_fixed _ hn hn', .inl hn⟩
  case byBit =>
    intro s h n hn
    have below : n < 18 := by omega
    have notFixed : ¬ 15 ≤ n := by omega
    simp [mem_enrolled, below, notFixed]
  case done =>
    intro s m h val cyc n hp
    obtain ⟨t, ht, cycle, only⟩ := schDoneSetWrite_of_present m val cyc n hp
    refine ⟨t, ht, cycle.trans ?_, only⟩
    cases doneCycle (s.half h).dones n <;> rfl
  case plan => exact fun s m h val hs hp => planCommit_of_present m val hs.regs hp
  case absent =>
    intro s m h val cyc hp
    simp [exec_schEnrollWrite, exec_schDoneSetWrite, exec_planCommit, hp]

end Sys2Proof.Proofs
end

section
/-! SUPPORT. The holder of a lock as it is released, and the writes of SEM_LOCKn (R433). -/

namespace Sys2Proof.Proofs

open Sys2Proof Sys2Proof.Machine Sys2Proof.Laws

variable {s : State} {h : Half} {m n val k : Nat}

/-! ### The holder of a lock (R431) -/

theorem lockHolder_congr {t : State} (e : t.locks = s.locks) (h : Half) (n : Nat) : t.lockHolder h n = s.lockHolder h n := by
  rw [State.lockHolder, State.lockHolder, e]

theorem lockHolder_setLock_same (hw : Memory.wf (fun _ => 0) s.locks = true) (h : Half) (n : Nat) (who : Option Nat) :
    (s.setLock h n who).lockHolder h n = who := by
  cases who <;> simp [State.lockHolder, State.setLock, spGet_spSet_same _ _ hw]

theorem spGet_setLock_other (s : State) (h : Half) (n : Nat) (who : Option Nat) (hk : k ≠ lockKey h n) :
    spGet (fun _ => 0) (s.setLock h n who).locks k = spGet (fun _ => 0) s.locks k :=
  spGet_spSet_other _ _ hk

/-! ### An event after a count -/

/-- A count outside the bursts of the token buckets leaves the room for an event as it was (R503). -/
theorem room_count {f : Fd} {i code : Nat} (ha : apart f i Fd.EVT_LIM_BURST (code / 256) = true) (s : State) (c : Nat) (h : Half)
    (src : Nat) : (s.count f c i h).Room src code ↔ s.Room src code := by
  simp [State.Room, State.accepts, State.tokens, rd_count_apart ha]

/-- An event that is submitted after such a count is recorded as it would be before it. -/
theorem records_uev_count {f : Fd} {i code : Nat} (ha : apart f i Fd.EVT_LIM_BURST (code / 256) = true) (s : State) (c : Nat)
    (h k : Half) (m : Nat) (args : List Nat) :
    s.Records ((s.count f c i h).uev k m code args) (halfSrc k) (0x80 + m) code args := by
  intro room
  simpa using uev_records (s.count f c i h) k m code args ((room_count ha s c h _).mpr room)

/-! ### A write of SEM_LOCKn (R433) -/

theorem releaseLock_of_clear (s : State) (h : Half) (m n : Nat) (hv : bit val 31 = false) : s.releaseLock h m n val = s :=
  if_pos hv

theorem releaseLock_of_holder (hv : bit val 31 = true) (hh : s.lockHolder h n = some m) :
    s.releaseLock h m n val = s.setLock h n none := by
  simp [State.releaseLock, hv, hh]

theorem releaseLock_of_other (hv : bit val 31 = true) (hh : s.lockHolder h n = some k) (hk : k ≠ m) :
    s.releaseLock h m n val = (s.count Fd.SEM_CNT_BADREL_COUNT 1 0 h).uev h 0 0x1001 [n, m, k] := by
  simp [State.releaseLock, hv, hh, hk]

/-! ### LOCK_RELEASE -/

theorem exec_lockRelease (h : Half) (m n val : Nat) (s : State) : exec (.lockRelease h m n val) s =
    .next (if n < 64 ∧ halfPresent s.variant h = true then s.releaseLock h m n val else s) := rfl

theorem exec_lockRelease_of_present (m val : Nat) (hn : n < 64) (hp : halfPresent s.variant h = true) :
    exec (.lockRelease h m n val) s = .next (s.releaseLock h m n val) := by
  rw [exec_lockRelease, if_pos ⟨hn, hp⟩]

theorem lockRelease_of_absent_or_clear (s : State) (m : Nat)
    (hd : 64 ≤ n ∨ halfPresent s.variant h = false ∨ bit val 31 = false) : exec (.lockRelease h m n val) s = .next s := by
  rw [exec_lockRelease]
  split
  · next hnp =>
    obtain ⟨hn, hp⟩ := hnp
    have hv : bit val 31 = false := by simpa [hp, Nat.not_le.mpr hn] using hd
    rw [releaseLock_of_clear s h m n hv]
  · rfl

/-- The holder's release frees the lock and leaves the others as they are. -/
theorem lockRelease_of_holder (hw : Memory.wf (fun _ => 0) s.locks = true) (hn : n < 64) (hp : halfPresent s.variant h = true)
    (hv : bit val 31 = true) (hh : s.lockHolder h n = some m) :
    s.Answers (.lockRelease h m n val) (fun t => t.lockHolder h n = none ∧
      (∀ k, k ≠ lockKey h n → spGet (fun _ => 0) t.locks k = spGet (fun _ => 0) s.locks k) ∧ s.OnlyIn [.locks] t) := by
  refine ⟨_, exec_lockRelease_of_present m val hn hp, ?_⟩
  rw [releaseLock_of_holder hv hh]
  exact ⟨lockHolder_setLock_same hw h n none, fun _ hk => spGet_setLock_other s h n none hk,
    ev_only (ev_setLock (ev_refl 0x80 s) h n none rfl) rfl⟩

/-- Another master's release is counted and recorded, and changes no lock. -/
theorem lockRelease_of_other (hs : s.regsWf) (hn : n < 64) (hp : halfPresent s.variant h = true) (hv : bit val 31 = true)
    (hh : s.lockHolder h n = some k) (hk : k ≠ m) :
    s.Answers (.lockRelease h m n val) (fun t => t.locks = s.locks ∧ t.lockHolder h n = some k ∧
      t.rd Fd.SEM_CNT_BADREL_COUNT 0 h = min (2 ^ 32 - 1) (s.rd Fd.SEM_CNT_BADREL_COUNT 0 h + 1) ∧
      s.RegsBut (keyOf Fd.SEM_CNT_BADREL_COUNT 0 h :: eventKeys) t ∧
      s.Records t (halfSrc h) 0x80 0x1001 [n, m, k] ∧ s.OnlyIn [.regs, .freeCtr, .evt, .locks] t) := by
  have only := ev_only (ps := [.regs, .freeCtr, .evt, .locks]) (ev_releaseLock (ev_refl 0xb2 s) h m n val rfl) rfl
  refine ⟨_, exec_lockRelease_of_present m val hn hp, ?_⟩
  rw [releaseLock_of_other hv hh hk] at only ⊢
  have locks : ((s.count Fd.SEM_CNT_BADREL_COUNT 1 0 h).uev h 0 0x1001 [n, m, k]).locks = s.locks := by simp
  have counted : s.RegsBut (keyOf Fd.SEM_CNT_BADREL_COUNT 0 h :: eventKeys) (s.count Fd.SEM_CNT_BADREL_COUNT 1 0 h) :=
    regsBut_count (regsBut_refl _ s) _ _ _ _ List.mem_cons_self
  refine ⟨locks, (lockHolder_congr locks h n).trans hh, ?count, ?regs, ?event, only⟩
  case count =>
    rw [rd_uev _ _ _ _ _ (by decide) (by decide)]
    exact rd_count_same hs Fd.SEM_CNT_BADREL_COUNT 1 0 h (by decide)
  case regs => exact regsBut_events counted (uev_regsBut _ _ _ _ _) (fun _ => List.mem_cons_of_mem _)
  case event => exact records_uev_count (by decide) s 1 h h 0 _

/-- Settles O52: a write of a present lock is its release, which splits by its RELEASE bit and by whether the writer holds the lock. -/
theorem locksAreReleasedByTheirHolder : Obligations.LocksAreReleasedByTheirHolder := by
  unfold Obligations.LocksAreReleasedByTheirHolder
  refine ⟨?discarded, ?holder, ?other⟩
  case discarded => exact fun s h m n val hd => lockRelease_of_absent_or_clear s m hd
  case holder => exact fun s h m n val hs hn hp hv hh => lockRelease_of_holder hs.locks hn hp hv hh
  case other => exact fun s h m n val k hs hn hp hv hh hk => lockRelease_of_other hs.regs hn hp hv hh hk

end Sys2Proof.Proofs
end
